-- ==== Sys2Proof/Word.lean ====
section
/-! DEFINITION. The plain word and byte types of the module and the names of its parts (R1, R5). -/

namespace Sys2Proof

/-- One byte of MRAM, of an image, of a frame or of a host buffer. -/
abbrev Byte := BitVec 8

/-- One 32-bit register word (R11). -/
abbrev Word := BitVec 32

/-- A binary64 value as its 64 bits. -/
abbrev F64 := BitVec 64

/-- A byte string, lowest address first (R9). -/
abbrev Bytes := List Byte

/-- The two lanes of the module (R17). -/
inductive LaneId where
  | A | B
  deriving DecidableEq, Repr, Inhabited

/-- The other lane. -/
def LaneId.other : LaneId → LaneId
  | .A => .B
  | .B => .A

/-- Lane number as the registers and records give it: 0 for A, 1 for B. -/
def LaneId.num : LaneId → Nat
  | .A => 0
  | .B => 1

/-- The two register views of a lane: BAR0 of its host endpoint, and its firmware's own view (R504). -/
inductive View where
  | host | fw
  deriving DecidableEq, Repr, Inhabited

/-- The three fitted variants (R1). -/
inductive Variant where
  | nfj8 | nfj4 | nfj2
  deriving DecidableEq, Repr, Inhabited

/-- `SYS_ID` of a variant (R1). -/
def Variant.sysId : Variant → Nat
  | .nfj8 => 0x4E464A38
  | .nfj4 => 0x4E464A34
  | .nfj2 => 0x4E464A32

/-- Number of field dies fitted (R1). -/
def Variant.nFd : Variant → Nat
  | .nfj8 => 4
  | .nfj4 => 2
  | .nfj2 => 1

/-- Number of solver dies fitted (R1). -/
def Variant.nSd : Variant → Nat
  | .nfj8 => 2
  | .nfj4 => 1
  | .nfj2 => 0

/-- Number of lanes fitted (R1). -/
def Variant.nLane : Variant → Nat
  | .nfj8 => 2
  | .nfj4 => 1
  | .nfj2 => 1

/-- Field dies needed for a claim raise: 3 on the NFJ8-256, none elsewhere (R42, R64). -/
def Variant.quorum : Variant → Nat
  | .nfj8 => 3
  | .nfj4 => 0
  | .nfj2 => 0

end Sys2Proof
end

