-- ==== Sys2Proof/Syntax.lean ====
section
/-! DEFINITION. The commands the block takes: one constructor for each row of the command table, with the row's
operands. An event of the hardware's surroundings or of its own sequencers carries what was measured or received
when it happened; everything else the command's meaning computes from the state. -/

namespace Sys2Proof

/-- What a channel's converters gave since the last input frame (R167, R176): the precision samples of IN1 and IN2,
oldest first, in 10^-9 of the range's unit (V, A or ohm). -/
structure ChanMeas where
  s1 : List Int := []
  s2 : List Int := []
  /-- bridge currents, mA rms over the last 20 ms -/
  curA : Nat := 0
  curB : Nat := 0
  deriving DecidableEq, Repr, Inhabited

/-- What a field die measured since its last input frame, or since a block that has ended after it (R167, R175, R176,
R243). An input that is not listed, or whose list
is shorter than another's, gave its last sample again. -/
structure FrameMeas where
  /-- channel with its samples -/
  chans : List (Nat × ChanMeas) := []
  /-- voltage-sense input with its precision samples, oldest first, 10^-9 V -/
  vs : List (Nat × List Int) := []
  /-- bridge group and temperature in 0.1 degree C -/
  temps : List (Nat × Int) := []
  railMv : Nat := 24000
  sensorMa : List Nat := []
  deriving DecidableEq, Repr, Inhabited

/-- A write that runs a key command: the word, and whether the share parity finds a fault in the slot the command uses
(R432). -/
structure KeyWrite where
  word : Word := 0
  fault : Bool := false
  deriving DecidableEq, Repr, Inhabited

/-- A frame that a CAN port has sent: the port, and the transmitter delay measured in its FD part, in time quanta (R327). -/
structure TxDone where
  port : Nat := 0
  mtq : Nat := 0
  deriving DecidableEq, Repr, Inhabited

/-- A change of one of the two links between the lanes, and whether the link is up then (R18). -/
structure LinkUp where
  link : Nat := 0
  up : Bool := true
  deriving DecidableEq, Repr, Inhabited

/-- One invocation of a standard function block (R143 to R145): the field of a frame that holds it and its inputs. -/
structure FbInvoke where
  /-- item number of the frame in the frame table -/
  frame : Nat := 0
  /-- offset of the block's field in the frame -/
  offset : Nat := 0
  /-- IN, CLK or CU -/
  in1 : Bool := false
  /-- CD -/
  in2 : Bool := false
  reset : Bool := false
  load : Bool := false
  /-- PT or PV -/
  preset : Int := 0
  deriving DecidableEq, Repr, Inhabited

/-- What a task's program did in one execution: its block code's instruction format is not in the spec, so the
results of an execution come with the command (R132, R142 to R145). -/
structure ExecResult where
  /-- writes to the output image: offset and bytes -/
  out : List (Nat × Bytes) := []
  /-- writes to the frame area: offset and bytes -/
  frames : List (Nat × Bytes) := []
  /-- standard function blocks invoked, in order -/
  blocks : List FbInvoke := []
  /-- solver templates requested: template, values, right-hand side, warm source -/
  jobs : List (Nat × List F64 × List F64 × Nat) := []
  /-- solver templates whose job the program aborts -/
  aborts : List Nat := []
  deriving DecidableEq, Repr, Inhabited

/-- A CAN frame on a bus (R325, R327). -/
structure CanFrame where
  ident : Nat := 0
  ide : Bool := false
  fdf : Bool := false
  brs : Bool := false
  esi : Bool := false
  rtr : Bool := false
  dlc : Nat := 0
  data : Bytes := []
  deriving DecidableEq, Repr, Inhabited

/-- A CAN error as the port sees it (R324, R327). -/
structure CanErr where
  /-- CAN_STATUS.LAST_ERR code -/
  code : Nat := 1
  /-- the port was transmitting -/
  tx : Bool := false
  /-- a receiver that saw a dominant bit after its error flag -/
  primary : Bool := false
  /-- a transmitter error that ISO 11898-1 exempts from counting -/
  exempt : Bool := false
  deriving DecidableEq, Repr, Inhabited

/-- A UDP datagram received (R334). -/
structure UdpDatagram where
  srcIp : BitVec 32 := 0
  port : Nat := 0
  payload : Bytes := []
  deriving DecidableEq, Repr, Inhabited

/-- A PTP message received, with the ingress time stamp (R346, R348). -/
structure PtpMsg where
  domain : Nat := 0
  sdoId : Nat := 0
  seq : Nat := 0
  twoStep : Bool := false
  /-- the message came in UDP over IPv4, not in IEEE 802.3 -/
  udp : Bool := false
  /-- module time, ns, at which its start-of-frame delimiter passed the MII boundary -/
  sfd : Int := 0
  /-- origin or receive time-stamp the message carries: its 48-bit secondsField and its nanoseconds -/
  seconds : Nat := 0
  nanos : Nat := 0
  correction : Int := 0
  /-- clock identity of the sender -/
  source : Nat := 0
  /-- messageType: 2 Pdelay_Req, 3 Pdelay_Resp, 9 Delay_Resp, 10 Pdelay_Resp_Follow_Up; of a management message its
  action, 0 GET, 1 SET, 3 COMMAND -/
  kind : Nat := 0
  /-- of a Delay_Resp, clock identity of the requester -/
  target : Nat := 0
  /-- of an Announce: grandmaster identity, its priority1, clockClass, clockAccuracy, offsetScaledLogVariance and
  priority2, and stepsRemoved -/
  gm : Nat := 0
  rank : List Nat := []
  steps : Nat := 0
  /-- currentUtcOffset where it is valid -/
  utcOffset : Option Nat := none
  deriving DecidableEq, Repr, Inhabited

/-- A descriptor as the module fetches it from the host (R462), with the data of an In transfer. -/
structure HostDesc where
  addr : Nat := 0
  len : Nat := 4
  op : Nat := 1
  irq : Bool := false
  fence : Bool := false
  param : Nat := 0
  tag : Nat := 0
  data : Bytes := []
  deriving DecidableEq, Repr, Inhabited

/-- The commands: one constructor per row of the command table. `l` is a lane, `v` a register view, `d` a field die
0 to 3, `sd` a solver die 0 or 1, `die` a die ID 0 to 7, `ch` a local channel, `t` a task. -/
inductive Instr where
  /-- REGISTER_WRITE (R14) -/
  | registerWrite (l : LaneId) (v : View) (addr : Nat) (value : Word) (be : BitVec 4)
  /-- LOW_WORD_READ (R13) -/
  | lowWordRead (l : LaneId) (v : View) (addr : Nat)
  /-- SYS_ACCESS_ERR_READ (R14) -/
  | sysAccessErrRead (l : LaneId) (v : View)
  /-- SLV_COLLECT_MAX_READ (R14) -/
  | slvCollectMaxRead (l : LaneId) (v : View)
  /-- PRG_TASK_MAX_READ (R14) -/
  | prgTaskMaxRead (l : LaneId) (v : View)
  /-- MOT_ADMIT_PEAK_READ (R14) -/
  | motAdmitPeakRead (l : LaneId) (v : View)
  /-- MOT_WAIT_MAX_READ (R14) -/
  | motWaitMaxRead (l : LaneId) (v : View)
  /-- CAN_REC_ERRORS_READ (R14) -/
  | canRecErrorsRead (l : LaneId) (v : View)
  /-- PTP_PORT_ERRORS_READ (R14) -/
  | ptpPortErrorsRead (l : LaneId) (v : View)
  /-- PWR_GOV_READ (R14) -/
  | pwrGovRead (l : LaneId) (v : View)
  /-- MTR_REG_LO_READ (R249) -/
  | mtrRegLoRead (l : LaneId) (v : View)
  /-- NVM_WIN_LO_READ (R371) -/
  | nvmWinLoRead (l : LaneId) (v : View)
  /-- EVR_RD_DATA_READ (R388) -/
  | evrRdDataRead (l : LaneId) (v : View)
  /-- RTC_SEC_READ (R405) -/
  | rtcSecRead (l : LaneId) (v : View)
  /-- RTC_YEAR_READ (R405) -/
  | rtcYearRead (l : LaneId) (v : View)
  /-- RTC_FREEZE_TIMEOUT (R405) -/
  | rtcFreezeTimeout (l : LaneId) (v : View)
  /-- PTP_TIME_NS_READ (R13) -/
  | ptpTimeNsRead (l : LaneId) (v : View)
  /-- CAN_FILT_BUF_READ (R339) -/
  | canFiltBufRead (l : LaneId) (v : View) (index : Nat)
  /-- SUPPLY_GOOD (R303) -/
  | supplyGood (vinMv : Nat)
  /-- HOLDUP_OK_SET (R302) -/
  | holdupOkSet (vHoldMv : Nat)
  /-- START_SWAP (R305) -/
  | startSwap (l : LaneId)
  /-- ACCUMULATOR_RESTORE_COMPLETE (R261) -/
  | accumulatorRestoreComplete (l : LaneId)
  /-- START_TRIGGER_ARM (R308) -/
  | startTriggerArm (l : LaneId)
  /-- SUPPLY_FAILURE (R316) -/
  | supplyFailure (vinMv : Nat) (torn : List (Nat × Nat × Nat))
  /-- FINAL_SAVE_MSG (R260) -/
  | finalSaveMsg (l : LaneId) (d : Nat) (meas : FrameMeas)
  /-- FINAL_SAVE_COMPLETE (R260) -/
  | finalSaveComplete (l : LaneId)
  /-- V_HOLD_LOCKOUT (R412) -/
  | vHoldLockout (vHoldMv : Nat)
  /-- SWITCH_TO_BACKUP (R412) -/
  | switchToBackup (l : LaneId) (extMv : Nat)
  /-- BACKUP_SOURCE_LOW (R413) -/
  | backupSourceLow (l : LaneId)
  /-- OSCILLATOR_STOP (R408) -/
  | oscillatorStop (l : LaneId)
  /-- CELL_MEASURE (R413) -/
  | cellMeasure (l : LaneId) (intMv : Nat) (extMv : Nat)
  /-- OPERATING_TIME_TICK (R378) -/
  | operatingTimeTick (l : LaneId)
  /-- RTC_SECOND_TICK (R406) -/
  | rtcSecondTick (l : LaneId)
  /-- PWR_ON_REQ_TIMEOUT (R415) -/
  | pwrOnReqTimeout (l : LaneId)
  /-- RTC_COMMIT (R407) -/
  | rtcCommit (l : LaneId) (v : View) (value : Word)
  /-- RTC_ALARM_WRITE (R414) -/
  | rtcAlarmWrite (l : LaneId) (v : View) (addr : Nat) (value : Word)
  /-- LOCKSTEP_MISMATCH (R314) -/
  | lockstepMismatch (l : LaneId) (cause : Nat)
  /-- LANE_RESET (R314) -/
  | laneReset (l : LaneId) (v : View) (value : Word)
  /-- LANE_RESTART (R314) -/
  | laneRestart (l : LaneId)
  /-- CLOCK_FAIL (R452) -/
  | clockFail (die : Nat) (ppm : Nat)
  /-- TRNG_HEALTH_FAILURE (R423) -/
  | trngHealthFailure (l : LaneId) (test : Nat)
  /-- MODE_REQUEST (R311) -/
  | modeRequest (l : LaneId) (v : View) (value : Word)
  /-- TEST_INJECTION_START (R315) -/
  | testInjectionStart (l : LaneId) (v : View) (value : Word)
  /-- TEST_INJECTION_STOP (R315) -/
  | testInjectionStop (l : LaneId) (v : View) (value : Word)
  /-- SHADOW_WRITE (R464) -/
  | shadowWrite (l : LaneId) (desc : HostDesc)
  /-- CFG_ENABLE (R47) -/
  | cfgEnable (l : LaneId) (v : View)
  /-- CONSISTENCY_CHECK_END (R50) -/
  | consistencyCheckEnd (l : LaneId) (checkUs : Nat)
  /-- STANDBY_DIGEST_REPORT (R56) -/
  | standbyDigestReport (l : LaneId)
  /-- MIRROR_TIMEOUT (R56) -/
  | mirrorTimeout (l : LaneId)
  /-- APPLY_ARM (R58) -/
  | applyArm (l : LaneId) (v : View)
  /-- CFG_ABANDON (R47) -/
  | cfgAbandon (l : LaneId) (v : View)
  /-- APPLY_ANNOUNCE (R60) -/
  | applyAnnounce (l : LaneId)
  /-- APPLY_MSG (R60) -/
  | applyMsg (die : Nat)
  /-- APPLY_ACK_DEADLINE (R60) -/
  | applyAckDeadline (l : LaneId)
  /-- CANCEL_MSG (R60) -/
  | cancelMsg (die : Nat)
  /-- APPLY_CONFIRM (R60) -/
  | applyConfirm (l : LaneId)
  /-- CONFIRM_MSG (R60) -/
  | confirmMsg (die : Nat)
  /-- BANK_SWAP (R60) -/
  | bankSwap (die : Nat)
  /-- APPLY_INSTANT (R60) -/
  | applyInstant (l : LaneId)
  /-- CARRY_OVER_END (R160) -/
  | carryOverEnd (l : LaneId)
  /-- HEARTBEAT_TICK (R275) -/
  | heartbeatTick (l : LaneId)
  /-- HEARTBEAT_RECEIVED (R275) -/
  | heartbeatReceived (l : LaneId) (d : Nat)
  /-- VACANCY (R276) -/
  | vacancy (d : Nat)
  /-- T_SAFE_EXPIRY (R184) -/
  | tSafeExpiry (d : Nat)
  /-- SAFE_DRIVE_END (R185) -/
  | safeDriveEnd (d : Nat) (ch : Nat) (out : Nat)
  /-- LANE_WIRE_LOSS (R277) -/
  | laneWireLoss (l : LaneId)
  /-- VACANCY_PATTERN_WAKE (R277) -/
  | vacancyPatternWake (l : LaneId)
  /-- TRIGGER_REARM (R277) -/
  | triggerRearm (l : LaneId)
  /-- TAKEOVER_LOAD_COMPLETE (R284) -/
  | takeoverLoadComplete (l : LaneId)
  /-- CLAIM_REQUEST (R278) -/
  | claimRequest (l : LaneId) (d : Nat)
  /-- CLAIM_REQUEST_REPEAT (R278) -/
  | claimRequestRepeat (l : LaneId)
  /-- CLAIM_REPLY (R278) -/
  | claimReply (l : LaneId) (d : Nat)
  /-- QUORUM_WINDOW_EXPIRY (R280) -/
  | quorumWindowExpiry (l : LaneId)
  /-- CLAIM_RAISE (R279) -/
  | claimRaise (l : LaneId) (die : Nat)
  /-- CLAIM_LATCH_ACK (R280) -/
  | claimLatchAck (l : LaneId)
  /-- SELF_FENCE (R281) -/
  | selfFence (l : LaneId)
  /-- RELEASE_MSG (R276) -/
  | releaseMsg (l : LaneId) (d : Nat)
  /-- SWITCHOVER (R296) -/
  | switchover (l : LaneId) (v : View)
  /-- SWITCHOVER_READY (R296) -/
  | switchoverReady (l : LaneId)
  /-- SWITCHOVER_READY_TIMEOUT (R296) -/
  | switchoverReadyTimeout (l : LaneId)
  /-- SWITCHOVER_REVERT_TIMEOUT (R296) -/
  | switchoverRevertTimeout (l : LaneId)
  /-- TAKE (R297) -/
  | takeLane (l : LaneId) (v : View)
  /-- RESYNC_COMPLETE (R294) -/
  | resyncComplete (l : LaneId)
  /-- CHECKPOINT_INSTANT (R287) -/
  | checkpointInstant (l : LaneId)
  /-- CHECKPOINT_RECEIVED (R290) -/
  | checkpointReceived (l : LaneId)
  /-- CHECKPOINT_CONFIRMED (R290) -/
  | checkpointConfirmed (l : LaneId)
  /-- INPUT_FRAME_TICK (R30) -/
  | inputFrameTick (d : Nat) (meas : FrameMeas)
  /-- INPUT_FRAME_RECEIVED (R30) -/
  | inputFrameReceived (l : LaneId) (d : Nat)
  /-- CYCLE_CLOCK_REQUEST (R27) -/
  | cycleClockRequest (l : LaneId) (t : Nat)
  /-- TASK_BOUNDARY (R132) -/
  | taskBoundary (l : LaneId) (t : Nat)
  /-- OVERRUN_LIMIT (R138) -/
  | overrunLimit (l : LaneId) (t : Nat)
  /-- EXECUTION_END (R132) -/
  | executionEnd (l : LaneId) (t : Nat) (result : ExecResult)
  /-- WATCHDOG (R139) -/
  | watchdog (l : LaneId) (t : Nat)
  /-- PUBLISH_COMPLETE (R132) -/
  | publishComplete (l : LaneId) (t : Nat)
  /-- OUTPUT_COMMANDS_RECEIVED (R187) -/
  | outputCommandsReceived (l : LaneId) (d : Nat)
  /-- COMMAND_APPLY (R31) -/
  | commandApply
  /-- FORCE_SET (R154) -/
  | forceSet (l : LaneId) (v : View)
  /-- FORCE_CLEAR (R154) -/
  | forceClear (l : LaneId) (v : View)
  /-- FORCE_CLEAR_ALL (R154) -/
  | forceClearAll (l : LaneId) (v : View)
  /-- JOB_DESCRIPTOR (R100) -/
  | jobDescriptor (l : LaneId) (sd : Nat)
  /-- JOB_START (R101) -/
  | jobStart (sd : Nat)
  /-- PAYLOAD_RECEIVED (R71) -/
  | payloadReceived (l : LaneId) (sd : Nat)
  /-- ASSEMBLY_END (R81) -/
  | assemblyEnd (sd : Nat)
  /-- PREPARATION_END (R85) -/
  | preparationEnd (sd : Nat)
  /-- ITERATION (R89) -/
  | iteration (sd : Nat)
  /-- VERIFICATION_END (R111) -/
  | verificationEnd (sd : Nat) (faulty : Nat)
  /-- BATCH_PROBLEM_COMPLETE (R115) -/
  | batchProblemComplete (sd : Nat) (engines : List (Nat × Nat))
  /-- RESULT_COPY_DONE (R112) -/
  | resultCopyDone (l : LaneId) (sd : Nat)
  /-- DEADLINE_EXPIRY (R102) -/
  | deadlineExpiry (l : LaneId) (tmpl : Nat)
  /-- SLV_ABORT (R114) -/
  | slvAbort (l : LaneId) (v : View) (value : Word)
  /-- SLV_ABORT_ALL (R114) -/
  | slvAbortAll (l : LaneId) (v : View)
  /-- SELFTEST_REQUEST (R119) -/
  | selftestRequest (l : LaneId) (v : View)
  /-- SELF_TEST_END (R120) -/
  | selfTestEnd (sd : Nat) (engine : Nat) (pass : Bool)
  /-- SOLVER_LINK_CHANGE (R121) -/
  | solverLinkChange (l : LaneId) (sd : Nat) (up : Bool)
  /-- FIELD_LINK_CHANGE (R24) -/
  | fieldLinkChange (l : LaneId) (d : Nat) (up : Bool)
  /-- OVERCURRENT_TRIP (R180) -/
  | overcurrentTrip (d : Nat) (ch : Nat) (bridge : Nat)
  /-- CURRENT_LIMIT_TIMEOUT (R178) -/
  | currentLimitTimeout (d : Nat) (ch : Nat) (out : Nat)
  /-- OPEN_LOAD_DETECTED (R180) -/
  | openLoadDetected (d : Nat) (ch : Nat) (bridge : Nat)
  /-- THERMAL_SHUTDOWN (R180) -/
  | thermalShutdown (d : Nat) (grp : Nat)
  /-- THERMAL_WARNING (R180) -/
  | thermalWarning (d : Nat) (grp : Nat) (temp : Nat)
  /-- END_OF_TRAVEL (R179) -/
  | endOfTravel (d : Nat) (ch : Nat) (out : Nat)
  /-- DIRECTION_CHANGE_END (R179) -/
  | directionChangeEnd (d : Nat) (ch : Nat) (out : Nat)
  /-- RAIL_LOW (R176) -/
  | railLow (d : Nat) (mv : Nat)
  /-- RAIL_RESTORED (R176) -/
  | railRestored (d : Nat) (mv : Nat)
  /-- SENSOR_SUPPLY_LIMIT (R172) -/
  | sensorSupplyLimit (d : Nat) (half : Nat) (ma : Nat) (on : Bool)
  /-- FLD_CH_FAULT_CLEAR (R181) -/
  | fldChFaultClear (l : LaneId) (v : View) (value : Word)
  /-- PROFILE_UPDATE (R192) -/
  | profileUpdate (d : Nat)
  /-- AXIS_STALL (R207) -/
  | axisStall (d : Nat) (ch : Nat)
  /-- HOLD_TIME_EXPIRY (R210) -/
  | holdTimeExpiry (d : Nat) (ch : Nat)
  /-- MOVE_ABS (R199) -/
  | moveAbs (d : Nat) (ch : Nat)
  /-- MOVE_REL (R199) -/
  | moveRel (d : Nat) (ch : Nat)
  /-- REPLACE_ABS (R202) -/
  | replaceAbs (d : Nat) (ch : Nat)
  /-- AXIS_STOP (R202) -/
  | axisStop (d : Nat) (ch : Nat)
  /-- SET_RAMPS (R203) -/
  | setRamps (d : Nat) (ch : Nat)
  /-- SET_POSITION (R205) -/
  | setPosition (d : Nat) (ch : Nat)
  /-- ACK_FAULT (R209) -/
  | ackFault (d : Nat) (ch : Nat)
  /-- MOT_FAULT_CLEAR (R209) -/
  | motFaultClear (l : LaneId) (v : View) (value : Word)
  /-- ADMISSION_ROUND (R212) -/
  | admissionRound (l : LaneId)
  /-- ADMISSION_GRANT (R213) -/
  | admissionGrant (d : Nat)
  /-- LOOP_SAMPLE (R223) -/
  | loopSample (d : Nat) (slot : Nat) (x : Int) (amb : Int)
  /-- LOOP_PLAUS (R227) -/
  | loopPlaus (d : Nat) (slot : Nat)
  /-- LOOP_SET (R230) -/
  | loopSet (d : Nat) (slot : Nat)
  /-- LOOP_DISABLE (R230) -/
  | loopDisable (d : Nat) (slot : Nat)
  /-- RESET_PLAUS (R228) -/
  | resetPlaus (d : Nat) (slot : Nat)
  /-- LP_FLAGS_PLAUS_CLEAR (R228) -/
  | lpFlagsPlausClear (l : LaneId) (v : View) (value : Word)
  /-- METERING_BLOCK_END (R243) -/
  | meteringBlockEnd (d : Nat) (meas : FrameMeas)
  /-- SETTLING_END (R241) -/
  | settlingEnd (d : Nat) (mp : Nat)
  /-- FLOW_PULSE (R251) -/
  | flowPulse (d : Nat) (hp : Nat) (reverse : Bool)
  /-- DEMAND_BOUNDARY (R250) -/
  | demandBoundary (d : Nat)
  /-- PULSE_START (R254) -/
  | pulseStart (d : Nat) (point : Nat) (slot : Nat)
  /-- PULSE_END (R254) -/
  | pulseEnd (d : Nat) (point : Nat) (slot : Nat)
  /-- PERIODIC_SAVE (R259) -/
  | periodicSave (l : LaneId)
  /-- SAVE_RECORDS_WRITTEN (R258) -/
  | saveRecordsWritten (l : LaneId)
  /-- READOUT (R267) -/
  | readout (l : LaneId) (v : View)
  /-- READOUT_LATCH (R267) -/
  | readoutLatch (l : LaneId)
  /-- READOUT_RING_TIMEOUT (R464) -/
  | readoutRingTimeout (l : LaneId)
  /-- MD_RESET (R266) -/
  | mdReset (l : LaneId) (v : View)
  /-- CAN_FRAME_RECEIVED (R327) -/
  | canFrameReceived (d : Nat) (port : Nat) (frame : CanFrame)
  /-- CAN_FRAME_TRANSMITTED (R326) -/
  | canFrameTransmitted (d : Nat) (port : TxDone)
  /-- CAN_FRAME_ERROR (R324) -/
  | canFrameError (d : Nat) (port : Nat) (err : CanErr)
  /-- BUS_OFF_RECOVERY_COMPLETE (R324) -/
  | busOffRecoveryComplete (d : Nat) (port : Nat)
  /-- CAN_RECOVER (R324) -/
  | canRecover (l : LaneId) (v : View) (value : Word)
  /-- CAN_RAW_TX (R326) -/
  | canRawTx (l : LaneId) (v : View) (value : Word)
  /-- DOMINANT_TIMEOUT (R490) -/
  | dominantTimeout (d : Nat) (port : Nat)
  /-- CAPTURE_ENTRY (R332) -/
  | captureEntry (l : LaneId) (d : Nat) (port : Nat) (full : Bool)
  /-- RECORD_ASSEMBLY_TIMEOUT (R332) -/
  | recordAssemblyTimeout (l : LaneId) (rec : Nat)
  /-- UDP_RECORD_DATAGRAM (R334) -/
  | udpRecordDatagram (l : LaneId) (port : Nat) (datagram : UdpDatagram)
  /-- PTP_SYNC (R348) -/
  | ptpSync (l : LaneId) (port : Nat) (msg : PtpMsg)
  /-- PTP_ANNOUNCE (R346) -/
  | ptpAnnounce (l : LaneId) (port : Nat) (msg : PtpMsg)
  /-- PTP_DELAY_MESSAGE (R348) -/
  | ptpDelayMessage (l : LaneId) (port : Nat) (msg : PtpMsg)
  /-- SLOT_LOST (R349) -/
  | slotLost (l : LaneId) (slot : Nat)
  /-- SLEW_END (R355) -/
  | slewEnd (l : LaneId)
  /-- PTP_SWITCH (R356) -/
  | ptpSwitch (l : LaneId) (v : View)
  /-- SET_RTC (R358) -/
  | setRtc (l : LaneId) (v : View)
  /-- SET_RTC_COMMIT (R358) -/
  | setRtcCommit (l : LaneId)
  /-- LINK_CHANGE (R340) -/
  | linkChange (l : LaneId) (port : Nat) (up : Bool) (gig : Bool)
  /-- ARP_REQUEST (R341) -/
  | arpRequest (l : LaneId) (port : Nat) (ip : BitVec 32)
  /-- ICMP_ECHO_REQUEST (R341) -/
  | icmpEchoRequest (l : LaneId) (port : Nat) (ip : BitVec 32)
  /-- FOREIGN_FRAME (R341) -/
  | foreignFrame (l : LaneId) (port : Nat) (fcsBad : Bool)
  /-- NVM_PROGRAM (R366) -/
  | nvmProgram (l : LaneId) (v : View) (value : Word)
  /-- PAGE_PROGRAM_COMPLETE (R368) -/
  | pageProgramComplete (l : LaneId)
  /-- EVENT_REPORTED (R394) -/
  | eventReported (l : LaneId) (code : Nat) (source : Nat) (p0 : Nat) (p1 : Nat) (p2 : Nat)
  /-- EVENT_RECORD_WRITTEN (R386) -/
  | eventRecordWritten (l : LaneId)
  /-- BUCKET_REFILL (R392) -/
  | bucketRefill (l : LaneId) (code : Nat)
  /-- EVR_FREEZE_SET (R397) -/
  | evrFreezeSet (l : LaneId) (v : View)
  /-- EVR_FREEZE_CLEAR (R397) -/
  | evrFreezeClear (l : LaneId) (v : View)
  /-- FREEZE_TIMEOUT (R397) -/
  | freezeTimeout (l : LaneId) (bit : Nat)
  /-- KEY_IMPORT (R427) -/
  | keyImport (l : LaneId) (v : View) (value : KeyWrite)
  /-- KEY_DERIVE (R426) -/
  | keyDerive (l : LaneId) (v : View) (value : KeyWrite)
  /-- KEY_ERASE (R433) -/
  | keyErase (l : LaneId) (v : View) (value : Word)
  /-- KEY_CHALLENGE (R434) -/
  | keyChallenge (l : LaneId) (v : View) (value : KeyWrite)
  /-- KEY_MAC (R433) -/
  | keyMac (l : LaneId) (v : View) (value : KeyWrite)
  /-- KEY_VERIFY (R433) -/
  | keyVerify (l : LaneId) (v : View) (value : KeyWrite)
  /-- GOVERNOR_TICK (R440) -/
  | governorTick (l : LaneId) (vinMv : Nat) (iinMa : Nat) (pinDw : Nat) (vHoldMv : Nat) (limit : Bool)
  /-- GOVERNOR_STEP_DOWN (R440) -/
  | governorStepDown (l : LaneId)
  /-- PWR_DOM_REQUEST (R445) -/
  | pwrDomRequest (l : LaneId) (v : View) (value : Word)
  /-- DOMAIN_TRANSITION_COMPLETE (R447) -/
  | domainTransitionComplete (l : LaneId) (die : Nat) (domain : Nat) (crcOk : Bool) (canaryOk : Bool)
  /-- RX_PATH_ON (R454) -/
  | rxPathOn (l : LaneId) (peer : Bool)
  /-- RX_PATH_OFF (R454) -/
  | rxPathOff (l : LaneId) (peer : Bool)
  /-- LANE_UP (R454) -/
  | laneUp (l : LaneId) (peer : Bool)
  /-- LANE_DOWN (R454) -/
  | laneDown (l : LaneId) (peer : Bool)
  /-- LANE_START (R454) -/
  | laneStart (l : LaneId) (peer : Bool)
  /-- WAKE_STATUS_READ (R454) -/
  | wakeStatusRead (l : LaneId)
  /-- WAKE_BUS_TIMEOUT (R453) -/
  | wakeBusTimeout (l : LaneId)
  /-- DOORBELL (R461) -/
  | doorbell (l : LaneId) (ring : Nat) (value : Word)
  /-- RING_RUN (R468) -/
  | ringRun (l : LaneId) (v : View) (value : Word)
  /-- RING_STOP (R470) -/
  | ringStop (l : LaneId) (v : View) (value : Word)
  /-- HST_RING_SIZE_WRITE (R461) -/
  | hstRingSizeWrite (l : LaneId) (v : View) (value : Word)
  /-- ACTIVE_READ (R464) -/
  | activeRead (l : LaneId) (desc : HostDesc)
  /-- RING_READ (R464) -/
  | ringRead (l : LaneId) (desc : HostDesc)
  /-- MLOG_READ (R464) -/
  | mlogRead (l : LaneId) (desc : HostDesc)
  /-- WARM_IN (R464) -/
  | warmIn (l : LaneId) (desc : HostDesc)
  /-- RESULT_OUT (R464) -/
  | resultOut (l : LaneId) (desc : HostDesc)
  /-- READOUT_DESCRIPTOR (R464) -/
  | readoutDescriptor (l : LaneId) (desc : HostDesc)
  /-- TABLE (R464) -/
  | tableOut (l : LaneId) (desc : HostDesc)
  /-- INSTANCE_READ (R464) -/
  | instanceRead (l : LaneId) (desc : HostDesc)
  /-- CAPTURE (R464) -/
  | capture (l : LaneId) (desc : HostDesc)
  /-- CAPTURE_BUFFER_TIMEOUT (R464) -/
  | captureBufferTimeout (l : LaneId)
  /-- TELEMETRY (R464) -/
  | telemetry (l : LaneId) (desc : HostDesc)
  /-- TELEMETRY_TICK (R464) -/
  | telemetryTick (l : LaneId)
  /-- TO_FIRMWARE (R464) -/
  | toFirmware (l : LaneId) (desc : HostDesc)
  /-- FROM_FIRMWARE (R464) -/
  | fromFirmware (l : LaneId) (desc : HostDesc)
  /-- DESCRIPTOR_COMPLETE (R466) -/
  | descriptorComplete (l : LaneId) (ring : Nat)
  /-- PCIE_COMPLETION_TIMEOUT (R463) -/
  | pcieCompletionTimeout (l : LaneId) (ring : Nat)
  /-- MSIX_HOLDOFF_END (R469) -/
  | msixHoldoffEnd (l : LaneId) (ring : Nat)
  /-- FUNCTION_LEVEL_RESET (R468) -/
  | functionLevelReset (l : LaneId)
  /-- PERST_ASSERT (R492) -/
  | perstAssert (l : LaneId)
  /-- PCIE_LINK_DOWN (R468) -/
  | pcieLinkDown (l : LaneId)
  /-- LANE_LINK_CHANGE (R294) -/
  | laneLinkChange (up : LinkUp)
  /-- ISLAND_FAILURE (R23) -/
  | islandFailure (island : LaneId) (controlOnly : Bool)
  /-- ENCODER_EDGE (R174) -/
  | encoderEdge (d : Nat) (ch : Nat) (a : Bool) (b : Bool)
  /-- CAN_BUS_IDLE (R61) -/
  | canBusIdle (d : Nat) (port : Nat)
  /-- PTP_FOLLOW_UP (R348) -/
  | ptpFollowUp (l : LaneId) (port : Nat) (msg : PtpMsg)
  /-- PTP_DELAY_REQ_RECEIVED (R346) -/
  | ptpDelayReqReceived (l : LaneId) (port : Nat) (msg : PtpMsg)
  /-- PTP_MESSAGE_INTERVAL (R346) -/
  | ptpMessageInterval (l : LaneId) (port : Nat) (slot : Nat) (kind : Nat)
  /-- PTP_MANAGEMENT_GET (R346) -/
  | ptpManagementGet (l : LaneId) (port : Nat) (msg : PtpMsg)
  /-- PCIE_LINK_UP (R459) -/
  | pcieLinkUp (l : LaneId) (speed : Nat) (width : Nat)
  /-- PCIE_CONFIG_WRITE (R460) -/
  | pcieConfigWrite (l : LaneId) (bme : Bool) (msix : Bool) (fmask : Bool)
  /-- MSIX_VECTOR_UNMASK (R469) -/
  | msixVectorUnmask (l : LaneId) (vec : Nat)
  deriving DecidableEq, Repr

end Sys2Proof
end

