-- ==== Sys2Proof/Config.lean ====
section
/-! DEFINITION. What the spec leaves open: values without a body, so that no proof can rest on a number. Each is named
in the assumption log. -/

namespace Sys2Proof.Config

/-- A value the spec does not state, fresh for each number drawn (the counter `Module.free`). -/
opaque freeValue : Nat → BitVec 64

/-- The package secret fused into every die of one module (R424). -/
opaque packageSecret : Bytes

/-- The transport key K_TRN fused into both control dies (R424). -/
opaque transportKey : Bytes

/-- The device key fused into a control die, which wraps its key store's array, by lane number (R432). -/
opaque deviceKey : Nat → Bytes

/-- The root secret that the TRNG draws for a lane at first start (R309, R420), by lane number. -/
opaque rootSecret : Nat → Bytes

/-- The module serial number, 16 bytes (R425). -/
opaque serial : Bytes

/-- SYS_REV MINOR and MAJOR, fused (ch. 21). -/
opaque revision : BitVec 16

/-- The bytes of a heartbeat message that its MAC covers: claim, image counter, sequence number, and the time message
with its time base, offset, steering slot and steering state (R275, R353). -/
opaque heartbeatBytes : Nat → Nat → Nat → Nat → Int → Nat → Nat → Bytes

/-- clockIdentity of a lane's PTP clocks (R346). -/
opaque clockIdentity : Nat → Nat

/-- PHY latencies of a lane's port by lane, port and speed, in ns: transmit and receive (R347). -/
opaque phyLatency : Nat → Nat → Bool → BitVec 16 × BitVec 16

/-- Rows of each of the 16 logical engines' contiguous blocks for a system of n unknowns (R70). -/
opaque solverBlocks : Nat → List Nat

/-- Whether the engines form a product added to a sum with one rounding (R69). -/
opaque solverFused : Bool

/-- Whether an elimination uses a multiplier as it is stored, rounded to FP32, or before that rounding (R68, R84). -/
opaque factorRounded : Bool

/-- Whether the elimination of later rows of ILU(0) uses an entry of U after its rounding to FP32 (R84; assumption 9). -/
opaque upperRounded : Bool

/-- The component that a breakdown of GMRES leaves open where the diagonal element of its column is 0, by the rotated columns
and the rotated right-hand side (R92; assumption 52). -/
opaque gmresComponent : List (List F64) → List F64 → F64

/-- Whether a block code may run a template with the warm-start set received on ring 2, by template index (R103). -/
opaque ring2Set : Bytes → Nat → Bool

/-- Whether a block code is malformed as seen from a task's entry point (R129). -/
opaque codeMalformed : Bytes → Nat → Bool

/-- Whether a block code names a solver template (R163). -/
opaque codeNamesTemplate : Bytes → Bool

/-- Taps of a fractional-delay interpolator, newest sample first, by NOMINAL_HZ and delay in 10 ns; the model takes them
where they delay as R240 says (`Machine.delayTaps`; assumption 48). -/
opaque delayTaps : Nat → Int → List F64

/-- Taps of a correction of the Rogowski integrator by NOMINAL_HZ, newest sample first; the model takes them where they
correct as R241 says (`Machine.rogowskiTaps`; assumption 48). -/
opaque rogowskiTaps : Nat → List F64

/-- The 63 taps of the Hilbert-transform FIR on the older side of its centre, from the centre outward; the model takes
them where their gain is that of R242 (`Machine.hilbertHalf`; assumption 48). -/
opaque hilbertHalf : List F64

/-- Where between two samples of opposite sign the waveform crosses zero, as a part of the sample interval in 2^-32
(R243; assumption 48). -/
opaque crossingPart : F64 → F64 → BitVec 32

end Sys2Proof.Config
end

