-- ==== Sys2Proof/Machine/Bits.lean ====
section
/-! DEFINITION. Bit fields, byte order and checks over byte strings: little-endian quantities (R9), fields of a word
(R8), two's complement, CRC-32 of IEEE 802.3 (R384, R373). -/

namespace Sys2Proof.Machine

/-- Bits [hi:lo] of a word. -/
def fld (w : Word) (hi lo : Nat) : Nat := (w.toNat >>> lo) % 2 ^ (hi - lo + 1)

/-- Bit n of a word. -/
def bitOf (w : Word) (n : Nat) : Bool := w.toNat.testBit n

/-- Bit n of a number. -/
def nbit (w n : Nat) : Bool := w.testBit n

/-- A word from a number, modulo 2^32. -/
def word (n : Nat) : Word := BitVec.ofNat 32 n

/-- A word from a signed number. -/
def iword (i : Int) : Word := BitVec.ofInt 32 i

/-- One for true. -/
def b2n (b : Bool) : Nat := if b then 1 else 0

/-- A word with the listed flags as its bits, the first as bit 0. -/
def flags (bs : List Bool) : Nat := bs.foldr (fun b acc => b2n b + 2 * acc) 0

/-- Signed value of the low `n` bits of a number. -/
def toS (n v : Nat) : Int := (BitVec.ofNat n v).toInt

/-- The low `n` bits of a signed value. -/
def ofS (n : Nat) (i : Int) : Nat := (BitVec.ofInt n i).toNat

/-- A counter that stays at its top value. -/
def sat (top v : Nat) : Nat := min top v

/-- Top value of a 32-bit counter. -/
def max32 : Nat := 0xFFFFFFFF

/-- The `n` little-endian bytes of a number (R9). -/
def leBytes : Nat → Nat → Bytes
  | 0, _ => []
  | n + 1, v => BitVec.ofNat 8 v :: leBytes n (v / 256)

/-- The number that little-endian bytes spell (R9). -/
def leNat : Bytes → Nat
  | [] => 0
  | b :: t => b.toNat + 256 * leNat t

/-- The number that big-endian bytes spell. -/
def beNat (bs : Bytes) : Nat := bs.foldl (fun a b => a * 256 + b.toNat) 0

/-- The `n` big-endian bytes of a number. -/
def beBytes (n v : Nat) : Bytes := (leBytes n v).reverse

/-- `n` bytes from offset `off`, with 0 beyond the end. -/
def slice (bs : Bytes) (off n : Nat) : Bytes :=
  let t := (bs.drop off).take n
  t ++ List.replicate (n - t.length) 0

/-- The little-endian number of `n` bytes at offset `off`. -/
def leAt (bs : Bytes) (off n : Nat) : Nat := leNat (slice bs off n)

/-- The signed little-endian number of `n` bytes at offset `off`. -/
def leIntAt (bs : Bytes) (off n : Nat) : Int := toS (8 * n) (leAt bs off n)

/-- A byte string with `new` written at `off`; the string grows with 0 where it must. -/
def putAt (bs : Bytes) (off : Nat) (new : Bytes) : Bytes :=
  let b := bs ++ List.replicate (off + new.length - bs.length) 0
  b.take off ++ new ++ b.drop (off + new.length)

/-- Whether every byte is 0. -/
def allZero (bs : Bytes) : Bool := bs.all (· == 0)

/-- A byte string cut or extended with 0 to `n` bytes. -/
def fitTo (n : Nat) (bs : Bytes) : Bytes := slice bs 0 n

/-- One bit of the reflected CRC-32. -/
def crcBit (c : BitVec 32) : BitVec 32 :=
  if c.getLsbD 0 then (c >>> 1) ^^^ 0xEDB88320#32 else c >>> 1

/-- One byte of the reflected CRC-32. -/
def crcByte (c : BitVec 32) (b : Byte) : BitVec 32 :=
  let c := c ^^^ b.zeroExtend 32
  crcBit (crcBit (crcBit (crcBit (crcBit (crcBit (crcBit (crcBit c)))))))

/-- CRC-32 as in IEEE 802.3 (R384). -/
def crc32 (bs : Bytes) : Nat := ((bs.foldl crcByte 0xFFFFFFFF#32) ^^^ 0xFFFFFFFF#32).toNat

/-- The words of a byte string, four bytes each, little-endian. -/
def wordsOf (n : Nat) (bs : Bytes) : List Word := (List.range n).map fun k => word (leAt bs (4 * k) 4)

/-- The bytes of words, little-endian. -/
def bytesOf (ws : List Word) : Bytes := ws.flatMap fun w => leBytes 4 w.toNat

/-- The item at an index, or a default. -/
def at? {α : Type} (xs : List α) (n : Nat) (d : α) : α := (xs[n]?).getD d

/-- A list with the item at an index changed; an index beyond the end changes nothing. -/
def upd {α : Type} (xs : List α) (n : Nat) (f : α → α) : List α := xs.modify n f

/-- The value under a key, or a default. -/
def keyed {α : Type} (xs : List (Nat × α)) (k : Nat) (d : α) : α := ((xs.find? (·.1 == k)).map (·.2)).getD d

/-- A keyed list with the value under a key replaced or added. -/
def putKey {α : Type} (xs : List (Nat × α)) (k : Nat) (v : α) : List (Nat × α) :=
  if xs.any (·.1 == k) then xs.map (fun p => if p.1 == k then (k, v) else p) else xs ++ [(k, v)]

/-- A keyed list without a key. -/
def dropKey {α : Type} (xs : List (Nat × α)) (k : Nat) : List (Nat × α) := xs.filter (·.1 != k)

/-- Number `a` is newer than `b` as sequence numbers modulo 2^32 (R375). -/
def newer (a b : Nat) : Bool := let d := (a + 2 ^ 32 - b) % 2 ^ 32; 1 ≤ d && d < 2 ^ 31

/-- The next sequence number (R375). -/
def nextSeq (s : Nat) : Nat := (s + 1) % 2 ^ 32

/-- Greatest integer whose square does not exceed `n`. -/
def isqrt (n : Nat) : Nat := Nat.sqrt n

/-- A quotient rounded down toward minus infinity. -/
def fdiv (a b : Int) : Int := Int.fdiv a b

/-- A quotient rounded up, of naturals. -/
def cdiv (a b : Nat) : Nat := (a + b - 1) / b

/-- The difference of two naturals without its sign. -/
def absDiff (a b : Nat) : Nat := (a - b) + (b - a)

end Sys2Proof.Machine
end

