-- ==== Sys2Proof/Machine/Crypto.lean ====
section
/-! DEFINITION. The key store's and the configuration check's algorithms: SHA-256 (FIPS 180-4), HMAC (RFC 2104), the
counter-mode KDF of R426, AES-256 key unwrap (NIST SP 800-38F, KW), and ECDSA verification over P-256 (FIPS 186). -/

namespace Sys2Proof.Machine

/-- The sixty-four round constants of SHA-256. -/
def shaK : List Nat :=
  [0x428a2f98, 0x71374491, 0xb5c0fbcf, 0xe9b5dba5, 0x3956c25b, 0x59f111f1, 0x923f82a4, 0xab1c5ed5] ++
  [0xd807aa98, 0x12835b01, 0x243185be, 0x550c7dc3, 0x72be5d74, 0x80deb1fe, 0x9bdc06a7, 0xc19bf174] ++
  [0xe49b69c1, 0xefbe4786, 0x0fc19dc6, 0x240ca1cc, 0x2de92c6f, 0x4a7484aa, 0x5cb0a9dc, 0x76f988da] ++
  [0x983e5152, 0xa831c66d, 0xb00327c8, 0xbf597fc7, 0xc6e00bf3, 0xd5a79147, 0x06ca6351, 0x14292967] ++
  [0x27b70a85, 0x2e1b2138, 0x4d2c6dfc, 0x53380d13, 0x650a7354, 0x766a0abb, 0x81c2c92e, 0x92722c85] ++
  [0xa2bfe8a1, 0xa81a664b, 0xc24b8b70, 0xc76c51a3, 0xd192e819, 0xd6990624, 0xf40e3585, 0x106aa070] ++
  [0x19a4c116, 0x1e376c08, 0x2748774c, 0x34b0bcb5, 0x391c0cb3, 0x4ed8aa4a, 0x5b9cca4f, 0x682e6ff3] ++
  [0x748f82ee, 0x78a5636f, 0x84c87814, 0x8cc70208, 0x90befffa, 0xa4506ceb, 0xbef9a3f7, 0xc67178f2]

/-- The initial hash value of SHA-256. -/
def shaH0 : List Word :=
  [0x6a09e667#32, 0xbb67ae85#32, 0x3c6ef372#32, 0xa54ff53a#32, 0x510e527f#32, 0x9b05688c#32, 0x1f83d9ab#32,
   0x5be0cd19#32]

/-- Right rotation. -/
def rotr (w : Word) (n : Nat) : Word := w.rotateRight n

/-- The message schedule: `n` further words appended to a schedule held newest first. -/
def shaSched : Nat → List Word → List Word
  | 0, w => w
  | n + 1, w =>
    let w2 := at? w 1 0
    let w7 := at? w 6 0
    let w15 := at? w 14 0
    let w16 := at? w 15 0
    let s0 := rotr w15 7 ^^^ rotr w15 18 ^^^ (w15 >>> 3)
    let s1 := rotr w2 17 ^^^ rotr w2 19 ^^^ (w2 >>> 10)
    shaSched n ((w16 + s0 + w7 + s1) :: w)

/-- One round over the working variables a to h. -/
def shaRound (v : List Word) (kw : Nat × Word) : List Word :=
  match v with
  | [a, b, c, d, e, f, g, h] =>
    let s1 := rotr e 6 ^^^ rotr e 11 ^^^ rotr e 25
    let ch := (e &&& f) ^^^ (~~~e &&& g)
    let t1 := h + s1 + ch + word kw.1 + kw.2
    let s0 := rotr a 2 ^^^ rotr a 13 ^^^ rotr a 22
    let mj := (a &&& b) ^^^ (a &&& c) ^^^ (b &&& c)
    [t1 + s0 + mj, a, b, c, d + t1, e, f, g]
  | _ => v

/-- One block of sixteen big-endian words. -/
def shaBlock (h : List Word) (blk : Bytes) : List Word :=
  let w0 := (List.range 16).map fun k => word (beNat (slice blk (4 * k) 4))
  let w := (shaSched 48 w0.reverse).reverse
  List.zipWith (· + ·) h ((shaK.zip w).foldl shaRound h)

/-- Blocks of 64 bytes of a padded message. -/
def shaBlocks : Nat → Bytes → List Word → List Word
  | 0, _, h => h
  | n + 1, m, h => shaBlocks n (m.drop 64) (shaBlock h (m.take 64))

/-- SHA-256. -/
def sha256 (m : Bytes) : Bytes :=
  let n := m.length
  let zeros := (119 - n % 64) % 64
  let p := m ++ [0x80#8] ++ List.replicate zeros 0 ++ beBytes 8 (8 * n)
  (shaBlocks (p.length / 64) p shaH0).flatMap fun w => beBytes 4 w.toNat

/-- HMAC-SHA-256 with a key of at most 64 bytes. -/
def hmac (key msg : Bytes) : Bytes :=
  let k := fitTo 64 key
  sha256 (k.map (· ^^^ 0x5C#8) ++ sha256 (k.map (· ^^^ 0x36#8) ++ msg))

/-- The KDF of R426. -/
def kdf (key label context : Bytes) : Bytes :=
  hmac key (beBytes 4 1 ++ label ++ [0] ++ context ++ beBytes 4 0x100)

/-- Multiplication in GF(2^8) modulo the AES polynomial, over the bits of the second operand. -/
def gmulBits : Nat → Nat → Nat → Nat
  | 0, _, _ => 0
  | n + 1, a, b =>
    let r := if b % 2 = 1 then a else 0
    let a2 := if 2 * a ≥ 256 then (2 * a) ^^^ 0x11B else 2 * a
    r ^^^ gmulBits n a2 (b / 2)

/-- Multiplication in GF(2^8). -/
def gmul (a b : Nat) : Nat := gmulBits 8 a b

/-- Power in GF(2^8) by squaring, over `n` exponent bits. -/
def gpow : Nat → Nat → Nat → Nat
  | 0, _, _ => 1
  | n + 1, a, e =>
    let r := gpow n (gmul a a) (e / 2)
    if e % 2 = 1 then gmul a r else r

/-- The AES S-box of one byte: inverse, then the affine map. -/
def aesSub (b : Nat) : Nat :=
  let x := gpow 8 b 254
  let r (k : Nat) := (x <<< k ||| x >>> (8 - k)) % 256
  x ^^^ r 1 ^^^ r 2 ^^^ r 3 ^^^ r 4 ^^^ 0x63

/-- The inverse AES S-box: sixteen rows of sixteen bytes, the lowest byte of a row first. -/
def aesInvRows : List Nat :=
  [0xfbd7f3819ea340bf38a53630d56a0952, 0xcbe9dec444438e3487ff2f9b8239e37c] ++
  [0x4ec3fa420b954cee3d23c2a632947b54, 0x25d18b6d49a25b76b224d92866a12e08] ++
  [0x92b6655dcc5ca4d41698688664f6f872, 0x849d8da75746155edab9edfd5048706c] ++
  [0x0645b3b80558e4f70ad3bc8c00abd890, 0x6b8a130103bdafc1020f3fca8f1e2cd0] ++
  [0x73e6b4f0cecff297eadc674f4111913a, 0x6edf751ce837f9e28535ade72274ac96] ++
  [0x1bbe18aa0e62b76f89c5291d711af147, 0xf45acd78fec0db9a2079d2c64b3e56fc] ++
  [0x5fec8027591012b131c7078833a8dd1f, 0xef9cc9939f7ae52d0d4ab519a97f5160] ++
  [0x619953833cbbebc8b0f52aae4d3be0a0, 0x7d0c2155631469e126d677ba7e042b17]

/-- The inverse AES S-box of one byte. -/
def aesInvSub (b : Nat) : Nat := at? aesInvRows (b / 16) 0 >>> (8 * (b % 16)) % 256

/-- Key expansion of AES-256: `n` further words after the eight of the key, held newest first, with the
round constant. -/
def aesExpand : Nat → Nat → Nat → List (List Nat) → List (List Nat)
  | 0, _, _, w => w
  | n + 1, i, rc, w =>
    let prev := at? w 0 []
    let back := at? w 7 []
    let sub := prev.map aesSub
    let t := if i % 8 = 0 then
        (match sub with
         | [a, b, c, d] => [b ^^^ rc, c, d, a]
         | o => o)
      else if i % 8 = 4 then sub else prev
    aesExpand n (i + 1) (if i % 8 = 0 then gmul rc 2 else rc) (List.zipWith (· ^^^ ·) back t :: w)

/-- The fifteen round keys of AES-256, as 16 bytes each. -/
def aesKeys (key : Bytes) : List (List Nat) :=
  let k := key.map (·.toNat)
  let w0 := (List.range 8).map fun i => (k.drop (4 * i)).take 4
  let w := (aesExpand 52 8 1 w0.reverse).reverse
  (List.range 15).map fun r => ((w.drop (4 * r)).take 4).flatten

/-- Inverse of ShiftRows. -/
def aesInvShift (s : List Nat) : List Nat :=
  (List.range 16).map fun i => at? s ((i + 16 - 4 * (i % 4)) % 16) 0

/-- Multiplication by 2 in GF(2^8). -/
def gdouble (a : Nat) : Nat := if a < 128 then 2 * a else (2 * a) ^^^ 0x11B

/-- A byte's multiples by 14, 9, 13 and 11 in GF(2^8): its column of the inverse of MixColumns, from its doubles. -/
def aesInvCol (a : Nat) : List Nat :=
  let a2 := gdouble a
  let a4 := gdouble a2
  let a8 := gdouble a4
  [a8 ^^^ a4 ^^^ a2, a8 ^^^ a, a8 ^^^ a4 ^^^ a, a8 ^^^ a2 ^^^ a]

/-- A list of four turned down by one place. -/
def turnDown : List Nat → List Nat
  | [a, b, c, d] => [d, a, b, c]
  | o => o

/-- Inverse of MixColumns on one column: the sum of its bytes' columns, each turned down to its byte's row. -/
def aesInvMix : List Nat → List Nat
  | [a, b, c, d] =>
    let xor (x y : List Nat) := List.zipWith (· ^^^ ·) x y
    xor (aesInvCol a) (turnDown (xor (aesInvCol b) (turnDown (xor (aesInvCol c) (turnDown (aesInvCol d))))))
  | o => o

/-- AES-256 decryption of one block under expanded keys. -/
def aesDecrypt (keys : List (List Nat)) (blk : Bytes) : Bytes :=
  let xor (a b : List Nat) := List.zipWith (· ^^^ ·) a b
  let s0 := xor (blk.map (·.toNat)) (at? keys 14 [])
  let s := (List.range 14).foldl (fun s i =>
    let r := 13 - i
    let t := xor ((aesInvShift s).map aesInvSub) (at? keys r [])
    if r = 0 then t else ((List.range 4).map fun c => aesInvMix ((t.drop (4 * c)).take 4)).flatten) s0
  s.map (BitVec.ofNat 8)

/-- One step of the inverse wrapping function: integrity register and the semiblocks R1 to R4. -/
def kwStep (keys : List (List Nat)) (st : Bytes × List Bytes) (t : Nat) : Bytes × List Bytes :=
  let i := (t - 1) % 4
  let a := beBytes 8 (beNat st.1 ^^^ t)
  let d := aesDecrypt keys (a ++ at? st.2 i [])
  (d.take 8, st.2.set i (d.drop 8))

/-- AES-256 key unwrap (KW) of 40 bytes; none where the integrity check fails (R427). -/
def kwUnwrap (kek wrapped : Bytes) : Option Bytes :=
  let keys := aesKeys kek
  let a := wrapped.take 8
  let rs := (List.range 4).map fun i => slice wrapped (8 + 8 * i) 8
  let r := ((List.range 24).map fun i => 24 - i).foldl (kwStep keys) (a, rs)
  if r.1 = List.replicate 8 0xA6#8 then some r.2.flatten else none

/-- ShiftRows. -/
def aesShift (s : List Nat) : List Nat :=
  (List.range 16).map fun i => at? s ((i + 4 * (i % 4)) % 16) 0

/-- A byte's multiples by 2, 1, 1 and 3 in GF(2^8): its column of MixColumns. -/
def aesCol (a : Nat) : List Nat := [gdouble a, a, a, gdouble a ^^^ a]

/-- MixColumns on one column: the sum of its bytes' columns, each turned down to its byte's row. -/
def aesMix : List Nat → List Nat
  | [a, b, c, d] =>
    let xor (x y : List Nat) := List.zipWith (· ^^^ ·) x y
    xor (aesCol a) (turnDown (xor (aesCol b) (turnDown (xor (aesCol c) (turnDown (aesCol d))))))
  | o => o

/-- AES-256 encryption of one block under expanded keys. -/
def aesEncrypt (keys : List (List Nat)) (blk : Bytes) : Bytes :=
  let xor (a b : List Nat) := List.zipWith (· ^^^ ·) a b
  let s0 := xor (blk.map (·.toNat)) (at? keys 0 [])
  let s := (List.range 14).foldl (fun s i =>
    let t := aesShift (s.map aesSub)
    let u := if i = 13 then t else ((List.range 4).map fun c => aesMix ((t.drop (4 * c)).take 4)).flatten
    xor u (at? keys (i + 1) [])) s0
  s.map (BitVec.ofNat 8)

/-- One step of the wrapping function: integrity register and the semiblocks R1 to R4. -/
def kwWrapStep (keys : List (List Nat)) (st : Bytes × List Bytes) (t : Nat) : Bytes × List Bytes :=
  let i := (t - 1) % 4
  let e := aesEncrypt keys (st.1 ++ at? st.2 i [])
  (beBytes 8 (beNat (e.take 8) ^^^ t), st.2.set i (e.drop 8))

/-- AES-256 key wrap (KW) of 32 bytes (R421, R432). -/
def kwWrap (kek key : Bytes) : Bytes :=
  let keys := aesKeys kek
  let rs := (List.range 4).map fun i => slice key (8 * i) 8
  let r := ((List.range 24).map (· + 1)).foldl (kwWrapStep keys) (List.replicate 8 0xA6#8, rs)
  r.1 ++ r.2.flatten

/-- The field prime of P-256. -/
def p256 : Nat := 0xFFFFFFFF00000001000000000000000000000000FFFFFFFFFFFFFFFFFFFFFFFF

/-- The group order of P-256. -/
def n256 : Nat := 0xFFFFFFFF00000000FFFFFFFFFFFFFFFFBCE6FAADA7179E84F3B9CAC2FC632551

/-- The curve coefficient b of P-256. -/
def b256 : Nat := 0x5AC635D8AA3A93E7B3EBBD55769886BC651D06B0CC53B0F63BCE3C3E27D2604B

/-- The base point of P-256. -/
def g256 : Nat × Nat :=
  (0x6B17D1F2E12C4247F8BCE6E563A440F277037D812DEB33A0F4A13945D898C296,
   0x4FE342E2FE1A7F9B8EE7EB4A7C0F9E162BCE33576B315ECECBB6406837BF51F5)

/-- Modular power over `n` exponent bits. -/
def powMod (m : Nat) : Nat → Nat → Nat → Nat
  | 0, _, _ => 1 % m
  | n + 1, a, e =>
    let r := powMod m n (a * a % m) (e / 2)
    if e % 2 = 1 then a * r % m else r

/-- Modular inverse for a prime modulus. -/
def invMod (m a : Nat) : Nat := powMod m 256 (a % m) (m - 2)

/-- Point addition on P-256 in affine coordinates, none the point at infinity. -/
def ecAdd (a b : Option (Nat × Nat)) : Option (Nat × Nat) :=
  match a, b with
  | none, q => q
  | q, none => q
  | some (x1, y1), some (x2, y2) =>
    if x1 = x2 ∧ (y1 + y2) % p256 = 0 then none
    else
      let l := if x1 = x2 then (3 * x1 * x1 + (p256 - 3)) * invMod p256 (2 * y1) % p256
        else (y2 + p256 - y1) * invMod p256 (x2 + p256 - x1) % p256
      let x3 := (l * l + 2 * p256 - x1 - x2) % p256
      some (x3, (l * (x1 + p256 - x3) + p256 - y1) % p256)

/-- Scalar multiplication over `n` bits of the scalar. -/
def ecMul : Nat → Nat → Option (Nat × Nat) → Option (Nat × Nat)
  | 0, _, _ => none
  | n + 1, k, q =>
    let r := ecMul n (k / 2) (ecAdd q q)
    if k % 2 = 1 then ecAdd q r else r

/-- ECDSA P-256 verification of a SHA-256 digest; r, s and the public coordinates are little-endian integers (R9, R37),
the digest is the byte string that FIPS 186 reads as an integer. -/
def ecdsaVerify (digest r s qx qy : Bytes) : Bool :=
  let r := leNat r
  let s := leNat s
  let x := leNat qx
  let y := leNat qy
  let onCurve := x < p256 && y < p256 && (y * y % p256 == (x * x * x + (p256 - 3) * x + b256) % p256)
  if onCurve && 0 < r && r < n256 && 0 < s && s < n256 then
    let w := invMod n256 s
    let u1 := beNat digest * w % n256
    let u2 := r * w % n256
    match ecAdd (ecMul 256 u1 (some g256)) (ecMul 256 u2 (some (x, y))) with
    | none => false
    | some (px, _) => px % n256 == r
  else false

end Sys2Proof.Machine
end

