-- ==== Sys2Proof/Machine/Conf.lean ====
section
/-! DEFINITION. A configuration as the dies hold it in their banks: the content of the eleven sections of an Oamin
image, read field by field (R37 to R44, R97, R126 to R131, R194, R221, R238, R323, R345, R428). A value of type
`Conf` is what a section parser reads; whether it is admissible is the consistency check's matter (Check.lean). -/

namespace Sys2Proof.Machine

/-- One CHANNELS item (R40). RANGE_LO and RANGE_HI are Q16.16 as signed integers. -/
structure ChanCfg where
  function : Nat := 0
  in1Range : Nat := 0
  in2Range : Nat := 0
  encMode : Nat := 0
  /-- SAFE_STATE codes of OUT0 to OUT3. -/
  safe : List Nat := [0, 0, 0, 0]
  safeDriveTime : Nat := 0
  runCurrent : Nat := 0
  holdCurrent : Nat := 0
  point : Nat := 0xFFFF
  rangeLo : Int := 0
  rangeHi : Int := 0
  deriving DecidableEq, Repr, Inhabited

/-- The SAFETY item (R42). -/
structure SafetyCfg where
  tVacant : Nat := 20
  tSafe : Nat := 500
  quorum : Nat := 3
  commissionAllowed : Bool := false
  forcingAllowed : Bool := false
  ckptPeriod : Nat := 2000
  ckptAgeLimit : Nat := 1
  ckptMaxBytes : Nat := 0
  commMaxAxes : Nat := 0
  commMaxRate : Nat := 1
  commMaxCurrent : Nat := 0
  commConnectors : Nat := 0
  deriving DecidableEq, Repr, Inhabited

/-- The POWER item (R44). -/
structure PowerCfg where
  pMax : Nat := 1
  axisBudget : Nat := 48
  pAxis : Nat := 600
  sensorEnable : Nat := 0
  sensorLimit : Nat := 0
  pSolver : Nat := 0
  slvFMax : Nat := 0
  blkFMax : Nat := 100
  /-- GROUP_OFF words of F0 to F3. -/
  groupOff : List Nat := [0, 0, 0, 0]
  deriving DecidableEq, Repr, Inhabited

/-- An element of a network template (R79, R97). -/
structure Element where
  kind : Nat := 0
  form : Nat := 0
  ports : List Nat := []
  deriving DecidableEq, Repr, Inhabited

/-- A batch-table entry with its pattern (R97). -/
structure BatchEntry where
  n : Nat := 0
  nnz : Nat := 0
  fingerprint : Nat := 0
  patternItem : Nat := 0
  levels : Nat := 0
  rowPtr : List Nat := []
  colIdx : List Nat := []
  deriving DecidableEq, Repr, Inhabited

/-- A job template with the data blocks it refers to (R97). -/
structure Template where
  kind : Nat := 0
  cls : Nat := 0
  precond : Nat := 0
  block : Nat := 0
  homeDie : Nat := 2
  degrade : Nat := 0
  fallback : Nat := 0xFFFF
  n : Nat := 0
  nnz : Nat := 0
  fingerprint : Nat := 0
  tol : F64 := 0
  cap : Nat := 0
  k : Nat := 16
  m : Nat := 0
  tauExp : Nat := 40
  valueSrc : Nat := 0
  levels : Nat := 0
  deadline : Nat := 0
  releaseTask : Nat := 0
  map : Bool := false
  problems : Nat := 1
  coeffCount : Nat := 0
  scatterCount : Nat := 0
  warmNMax : Nat := 0
  elementCount : Nat := 0
  rowPtr : List Nat := []
  colIdx : List Nat := []
  idMap : List Nat := []
  elements : List Element := []
  scatter : List Nat := []
  batch : List BatchEntry := []
  deriving DecidableEq, Repr, Inhabited

/-- A task entry of PROGRAM (R128). -/
structure TaskCfg where
  periodUs : Nat := 0
  processor : Nat := 0
  overrunLimit : Nat := 0
  wcetUs : Nat := 0
  watchdogUs : Nat := 0
  entry : Nat := 0
  snapshotBytes : Nat := 0
  publishBytes : Nat := 0
  recordItem : Nat := 0xFFFFFFFF
  recordCount : Nat := 0
  /-- The record list, in its order. -/
  records : List Nat := []
  deriving DecidableEq, Repr, Inhabited

/-- An entry of the frame table of PROGRAM, which the spec calls the instance table (R128). -/
structure InstCfg where
  instId : Nat := 0
  typeId : Nat := 0
  ownerTask : Nat := 0
  frameOffset : Nat := 0
  frameBytes : Nat := 0
  descFirst : Nat := 0
  descCount : Nat := 0
  deriving DecidableEq, Repr, Inhabited

/-- A field descriptor (R142). -/
structure FieldDesc where
  fieldId : Nat := 0
  type : Nat := 0
  flags : Nat := 0
  count : Nat := 0
  offset : Nat := 0
  initOffset : Nat := 0
  deriving DecidableEq, Repr, Inhabited

/-- The PROGRAM section (R128). The block code is held as its bytes: its instruction format is not in the spec. -/
structure ProgramCfg where
  codeBytes : Nat := 0
  codeItem : Nat := 0
  instCount : Nat := 0
  instItem : Nat := 0
  descCount : Nat := 0
  descItem : Nat := 0
  constBytes : Nat := 0
  constItem : Nat := 0
  instBytes : Nat := 0
  programId : Nat := 0
  tasks : List TaskCfg := []
  insts : List InstCfg := []
  descs : List FieldDesc := []
  code : Bytes := []
  consts : Bytes := []
  deriving DecidableEq, Repr, Inhabited

/-- A ROUTING entry (R130). -/
structure RouteCfg where
  source : Nat := 0
  task : Nat := 0
  sub : Nat := 0
  index : Nat := 0
  offset : Nat := 0
  bytes : Nat := 0
  deriving DecidableEq, Repr, Inhabited

/-- A MOTION item (R193). -/
structure MotionCfg where
  vMax : Nat := 0
  accMax : Nat := 0
  decMax : Nat := 0
  accInit : Nat := 0
  decInit : Nat := 0
  posMin : Int := 0
  posMax : Int := 0
  encNum : Int := 0
  encDen : Nat := 0
  window : Nat := 0
  windowUpdates : Nat := 0
  standstill : Nat := 0
  holdTime : Nat := 0
  priority : Nat := 0
  deriving DecidableEq, Repr, Inhabited

/-- A LOOPS item (R220). -/
structure LoopCfg where
  kind : Nat := 0
  inSrc : Nat := 0
  inCh : Nat := 0
  filterShift : Nat := 0
  outCh : Nat := 0
  outN : Nat := 0
  onCode : Nat := 0
  offCode : Nat := 0
  div : Nat := 0
  /-- FLAGS: INIT_ON, SIGN, AMB_INPUT, MODEL in bits 0 to 3. -/
  flags : Nat := 0
  fallback : Nat := 0
  sp : Int := 0
  eOn : Int := 0
  eOff : Int := 0
  minOnMs : Nat := 0
  minOffMs : Nat := 0
  k : Int := 0
  tauMs : Nat := 0
  yAmb : Int := 0
  ambCh : Nat := 0
  ambIn : Nat := 0
  m : Nat := 0
  rMax : Int := 0
  deriving DecidableEq, Repr, Inhabited

/-- A pulse output descriptor (R236). -/
structure PulseCfg where
  ch : Nat := 0
  out : Nat := 0
  qty : Nat := 0
  /-- 0 unused, 3 HIGH, 4 LOW -/
  onCode : Nat := 0
  weight : Nat := 0
  deriving DecidableEq, Repr, Inhabited

/-- An electrical point item (R236). Gains and START_I are binary32 bit patterns. -/
structure MpCfg where
  kind : Nat := 0
  sensor : Nat := 0
  nominalHz : Nat := 0
  flags : Nat := 0
  ch : Nat := 0
  vs : List Nat := []
  iGain : List Nat := []
  iDelay : List Int := []
  vGain : List Nat := []
  vDelay : List Int := []
  startI : Nat := 0
  pmaxW : Nat := 0
  pulses : List PulseCfg := [{}, {}]
  deriving DecidableEq, Repr, Inhabited

/-- A thermal point item (R239). Temperature offsets are binary32 bit patterns. -/
structure HpCfg where
  kind : Nat := 0
  ch : Nat := 0
  flowSide : Nat := 0
  pulseVol : Nat := 0
  pressureKpa : Nat := 0
  dtCutoffMk : Nat := 0
  tSupOffset : Nat := 0
  tRetOffset : Nat := 0
  pmaxW : Nat := 0
  pulses : List PulseCfg := [{}, {}]
  deriving DecidableEq, Repr, Inhabited

/-- The METERING section (R235). -/
structure MeteringCfg where
  sealCounter : Nat := 0
  sealSlot : Nat := 0
  readoutSlot : Nat := 0
  demandMin : Nat := 0
  demandOffsetS : Int := 0
  sealMac : Bytes := []
  mps : List MpCfg := []
  hps : List HpCfg := []
  deriving DecidableEq, Repr, Inhabited

/-- A CAN port item (R321). -/
structure CanPortCfg where
  mode : Nat := 0
  recovery : Nat := 0
  flags : Nat := 0
  tdcMode : Nat := 0
  nBrp : Nat := 0
  nTseg1 : Nat := 0
  nTseg2 : Nat := 0
  nSjw : Nat := 0
  dBrp : Nat := 0
  dTseg1 : Nat := 0
  dTseg2 : Nat := 0
  dSjw : Nat := 0
  tdcOffset : Nat := 0
  tdcValue : Nat := 0
  deriving DecidableEq, Repr, Inhabited

/-- A substation-table entry (R335). -/
structure SubCfg where
  record : Nat := 0
  transport : Nat := 0
  port : Nat := 0
  dir : Nat := 0
  prio : Nat := 0
  inLen : Nat := 0
  outLen : Nat := 0
  timeoutMs : Nat := 0
  gateway : Nat := 0
  deriving DecidableEq, Repr, Inhabited

/-- An Ethernet port entry (R343). -/
structure EthPortCfg where
  mode : Nat := 0
  ptp : Nat := 0
  prefixLen : Nat := 0
  ipv4 : Nat := 0
  asymNs : Int := 0
  vlan : Nat := 0
  router : Nat := 0
  deriving DecidableEq, Repr, Inhabited

/-- A PTP domain slot item (R344). -/
structure DomCfg where
  domain : Nat := 0
  transport : Nat := 0
  sdoId : Nat := 0
  ports : Nat := 0
  logSync : Int := 0
  logAnnounce : Int := 0
  logDelay : Int := 0
  announceTimeout : Nat := 0
  priority1 : Nat := 0
  priority2 : Nat := 0
  flags : Nat := 0
  qualityNs : Nat := 0
  lossMs : Nat := 0
  deriving DecidableEq, Repr, Inhabited

/-- The NETWORK section (R321, R342). -/
structure NetworkCfg where
  canTag : Nat := 0
  udpPort : Nat := 0
  subCount : Nat := 0
  subItem : Nat := 0
  ptpItem : Nat := 0
  clockType : Nat := 0
  steerInit : Nat := 0
  flags : Nat := 0
  switchNs : Nat := 0
  utcOffset : Nat := 0
  ports : List CanPortCfg := []
  subs : List SubCfg := []
  eth : List EthPortCfg := []
  doms : List DomCfg := []
  deriving DecidableEq, Repr, Inhabited


/-- A SECURITY entry (R428). -/
structure SecEntry where
  slot : Nat := 0
  op : Nat := 0
  kekSlot : Nat := 0
  attr : Nat := 0
  count : Nat := 0
  key : Bytes := []
  deriving DecidableEq, Repr, Inhabited

/-- A ROUTING section's entries, a channel's MOTION and LOOPS items and the other sections of one image, as a bank
holds them (R37, R61). `metBytes` keeps the METERING section's own bytes for the seal rules (R264). -/
structure Conf where
  /-- VER_MAJOR and VER_MINOR -/
  ver : Nat × Nat := (1, 0)
  /-- VARIANT byte of the header -/
  variant : Nat := 0
  counter : Nat := 0
  signerSlot : Nat := 0
  buildTime : Nat := 0
  /-- the image's digest (R55) -/
  digest : Bytes := []
  /-- sections present, in table order -/
  sections : List Nat := []
  chans : List (Nat × ChanCfg) := []
  routes : List RouteCfg := []
  loops : List (Nat × LoopCfg) := []
  motion : List (Nat × MotionCfg) := []
  metering : Option MeteringCfg := none
  metBytes : Bytes := []
  templates : List Template := []
  program : Option ProgramCfg := none
  network : Option NetworkCfg := none
  safety : SafetyCfg := {}
  power : PowerCfg := {}
  security : List SecEntry := []
  challengeSlot : Nat := 0
  deriving DecidableEq, Repr, Inhabited

end Sys2Proof.Machine
end

