-- ==== Sys2Proof/Machine/PartsLane.lean ====
section
/-! DEFINITION. The blocks of a lane's control die and always-on domain, as the register maps of chapters 02 to 19 give them. Each field's docstring says: name, width, rule and chapter, reset value. -/

namespace Sys2Proof.Machine

/-- Operating mode codes (R300). -/
inductive Mode where
  | blank | loaded | commission | run | runForced | standby | resync | safeHold
  deriving DecidableEq, Repr, Inhabited

/-- `RED_LANE_STATE.ROLE` codes. -/
inductive Role where
  | active | standby | resync | takeover | switching | single
  deriving DecidableEq, Repr, Inhabited

/-- Progress of a lane through power-up, start, takeover or halt. -/
inductive LanePhase where
  /-- all domains but AO off -/
  | off
  /-- a start from power-off: HOLDUP_OK and the election not yet over -/
  | starting
  /-- claim raised at a start, START_SWAP not yet reached -/
  | startSwap
  /-- waking for a takeover: image and checkpoint being read -/
  | waking
  /-- quorum exchange open -/
  | exchange
  /-- halted, resetting before LANE_RESTART -/
  | halted
  /-- running in its mode -/
  | up
  /-- supply failed: final save under way -/
  | saving
  /-- stopped after a supply failure -/
  | stopped
  deriving DecidableEq, Repr, Inhabited


/-- Configuration block states (R47, CFG_STATUS.STATE). -/
inductive CfgState where
  | empty | loading | checking | passed | refused | armed
  deriving DecidableEq, Repr, Inhabited

/-- The configuration block of a lane (CFG_, R47 to R60). -/
structure Cfg where
  /-- CFG_STATUS.STATE | 3 | R47 02 | EMPTY -/
  state : CfgState := .empty
  /-- CFG_STATUS.CMD_REFUSED | 1 | R47 02 | 0 -/
  cmdRefused : Bool := false
  /-- CFG_STATUS.ABANDON_LATE | 1 | R48 02 | 0 -/
  abandonLate : Bool := false
  /-- CFG_STATUS.APPLY_LATE_DIE | 1 | R60 02 | 0 -/
  applyLateDie : Bool := false
  /-- CFG_STATUS.ARM_CANCELLED | 1 | R47 02 | 0 -/
  armCancelled : Bool := false
  /-- CFG_STATUS.SHADOW_WRITE_REJECTED | 1 | R35 02 | 0 -/
  shadowWriteRejected : Bool := false
  /-- CFG_STATUS.STAGE, check stage in progress | 3 | R47 02 | 0 -/
  stage : Nat := 0
  /-- CFG_STATUS.DELTA, the shadow holds a delta | 1 | R47 02 | 0 -/
  delta : Bool := false
  /-- CFG_REASON.CODE | 16 | R53 02 | 0x0000 -/
  reason : Nat := 0
  /-- CFG_REASON.SECTION | 8 | R52 02 | 0 -/
  reasonSection : Nat := 0
  /-- CFG_REASON_INDEX | 32 | R52 02 | 0xFFFF_FFFF -/
  reasonIndex : Nat := 0xFFFFFFFF
  /-- CFG_APPLY_AT | 32 | R58 02 | 0 -/
  applyAt : Nat := 0
  /-- CFG_BOUNDARY_NOW | 32 | R127 02 | 0 -/
  boundaryNow : Nat := 0
  /-- CFG_CMD_REASON | 16 | R47 02 | 0x0000 -/
  cmdReason : Nat := 0
  /-- CFG_ACTIVE_DIGEST, 32 bytes | 256 | R55 02 | from the active slot, 0 in BLANK -/
  activeDigest : Bytes := []
  /-- CFG_SHADOW_DIGEST, 32 bytes | 256 | R47 02 | 0 -/
  shadowDigest : Bytes := []
  /-- the active image as the lane has loaded it | image | R34 02 | none -/
  active : Option Conf := none
  /-- CFG_ACTIVE_COUNTER | 64 | R34 02 | from the slot selector -/
  activeCounter : Nat := 0
  /-- CFG_COUNTER_FLOOR | 64 | R54 02 | from the slot selector, 0 on a new module -/
  floor : Nat := 0
  /-- CFG_CHECK_TIME in microseconds | 32 | R50 02 | 0 -/
  checkTime : Nat := 0
  /-- active slot number | 1 | R34 02 | from the slot selector -/
  activeSlot : Nat := 0
  /-- instant of the ENABLE under way, ns | 64 | R50 02 | 0 -/
  enableAt : Nat := 0
  /-- the composed candidate of the last passed check | image | R51 02 | none -/
  candidate : Option Conf := none
  /-- header fields of the shadow that passed: counter | 64 | R51 02 | 0 -/
  shadowCounter : Nat := 0
  /-- METERING changed by the shadow | 1 | R266 02 | 0 -/
  meteringChanged : Bool := false
  /-- PROGRAM changed by the shadow | 1 | R58 02 | 0 -/
  programChanged : Bool := false
  /-- the candidate's METERING carries a valid authorisation | 1 | R264 09 | 0 -/
  sealOk : Bool := false
  /-- the standby has reported the candidate's digest | 1 | R56 02 | 0 -/
  mirrored : Bool := false
  /-- mirror check under way: a transfer to the standby whose digest is awaited | 1 | R56 02 | none -/
  mirrorWait : Bool := false
  /-- instant at which the mirror transfer's last page was programmed, or the wake was sent, ns | 64 | R56 02 | 0 -/
  mirrorAt : Nat := 0
  /-- arm instant A, ns | 64 | R60 02 | 0 -/
  armAt : Nat := 0
  /-- apply instant, ns | 64 | R58 02 | 0 -/
  applyInstant : Nat := 0
  /-- dies that were sent APPLY | 8 | R60 02 | none -/
  applySent : List Nat := []
  /-- dies that reported STAGED | 8 | R60 02 | none -/
  staged : List Nat := []
  /-- dies that acknowledged APPLY | 8 | R60 02 | none -/
  acked : List Nat := []
  /-- CONFIRM has been sent | 1 | R60 02 | 0 -/
  confirmSent : Bool := false
  deriving DecidableEq, Repr, Inhabited


/-- The system block of a lane (SYS_, ch. 11 and 21). -/
structure Sys where
  /-- SYS_MODE.MODE | 3 | R300 11 | 0 -/
  mode : Mode := .blank
  /-- SYS_MODE.CAUSE | 4 | R311 11 | 0 -/
  cause : Nat := 0
  /-- SYS_MODE.PREV | 3 | R311 11 | 0 -/
  prev : Nat := 0
  /-- SYS_MODE_REQ.TARGET | 3 | R311 11 | 0 -/
  reqTarget : Nat := 0
  /-- SYS_MODE_REQ.STATE | 2 | R311 11 | 0 IDLE -/
  reqState : Nat := 0
  /-- SYS_MODE_REQ.RESULT | 4 | R311 11 | 0 OK -/
  reqResult : Nat := 0
  /-- the latest accepted request: its instant in ns and its target | 64 + 3 | R313 11 | none -/
  reqLast : Option (Nat × Nat) := none
  /-- SYS_STATUS.RESTORED | 1 | R261 09 | 0 -/
  restored : Bool := false
  /-- SYS_STATUS.HOLDUP_OK | 1 | R302 11 | 0 -/
  holdupOk : Bool := false
  /-- SYS_OPSEC | 32 | R377 14 | from MRAM, 0 on a new module -/
  opsec : Nat := 0
  /-- SYS_PCC | 24 | R303 11 | from MRAM, 0 before the first start -/
  pcc : Nat := 0
  /-- SYS_AUTOSTART.MODE | 3 | R306 11 | 1 on a new module -/
  autostart : Nat := 1
  /-- SYS_TEST.CH | 8 | R315 11 | 0 -/
  testCh : Nat := 0
  /-- SYS_TEST.INPUT | 1 | R315 11 | 0 -/
  testInput : Nat := 0
  /-- SYS_TEST.LEVEL | 3 | R315 11 | 0 -/
  testLevel : Nat := 0
  /-- SYS_TEST.ENABLE | 1 | R315 11 | 0 -/
  testEnable : Bool := false
  /-- SYS_IRQ_STATUS | 3 | R311 11 | 0 -/
  irq : Word := 0
  /-- SYS_IRQ_ENABLE | 3 | R311 11 | 0 -/
  irqEn : Word := 0
  /-- SYS_ACCESS_ERR.PARTIAL | 16 | R503 21 | 0 -/
  partialWr : Nat := 0
  /-- SYS_ACCESS_ERR.UNREACHABLE | 16 | R505 21 | 0 -/
  unreach : Nat := 0
  /-- progress through power-up, start, takeover or halt | - | R303 11 | off -/
  phase : LanePhase := .off
  /-- cause of the start under way (R318 START) | 2 | R317 11 | 0 -/
  startCause : Nat := 0
  /-- the lane elected at the start | 1 | R304 11 | A -/
  elected : LaneId := .A
  /-- instant of the start claim raise, ns | 64 | R305 11 | 0 -/
  raisedAt : Nat := 0
  /-- the mode of SYS_AUTOSTART is still to be requested in this start | 1 | R306 11 | 0 -/
  autoDue : Bool := false
  /-- the lane failed for good with its die or island | 1 | R24 01 | 0 -/
  failed : Bool := false
  deriving DecidableEq, Repr, Inhabited


/-- A received or resident warm-start set (R76). -/
structure WarmSet where
  fingerprint : Nat := 0
  n : Nat := 0
  mapPresent : Bool := false
  x : List F64 := []
  map : List Nat := []
  /-- lost by a retention failure (R118, R122) -/
  lost : Bool := false
  deriving DecidableEq, Repr, Inhabited

/-- The record of one batch problem in a committed result (R109). -/
structure BatchRec where
  status : Nat := 0
  flags : Nat := 0
  iterations : Nat := 0
  rho : F64 := 0
  x : List F64 := []
  deriving DecidableEq, Repr, Inhabited

/-- A committed result with its header (R109). -/
structure SlvResult where
  requested : Nat := 0
  template : Nat := 0
  status : Nat := 0
  flags : Nat := 0
  jobSeq : Nat := 0
  iterations : Nat := 0
  rho : F64 := 0
  releaseUs : Nat := 0
  commitUs : Nat := 0
  fingerprint : Nat := 0
  n : Nat := 0
  pivotCount : Nat := 0
  pivotFirst : Nat := 0xFFFFFFFF
  candChecks : Nat := 0
  x : List F64 := []
  map : Option (List Nat) := none
  batch : List BatchRec := []
  deriving DecidableEq, Repr, Inhabited

/-- The payload of a job: coefficients or values, right-hand side, warm-start set (R99). -/
structure SlvPayload where
  values : List F64 := []
  b : List F64 := []
  warm : Option WarmSet := none
  deriving DecidableEq, Repr, Inhabited

/-- Sources of an abort (R123 code 0x2005). -/
inductive AbortSrc where
  | program | register | claim
  deriving DecidableEq, Repr, Inhabited

/-- A job as its descriptor gives it (R99), with the template it runs under (R61). -/
structure SlvJob where
  lane : LaneId := .A
  template : Nat := 0
  requested : Nat := 0
  warmSrc : Nat := 0
  fallback : Bool := false
  seq : Nat := 0
  claim : Nat := 0
  imageCounter : Nat := 0
  releaseUs : Nat := 0
  deadlineUs : Nat := 0
  tmpl : Template := {}
  payload : Option SlvPayload := none
  /-- an abort latched and not yet sampled (R114) -/
  abort : Option AbortSrc := none
  flags : Nat := 0
  deriving DecidableEq, Repr, Inhabited

/-- The preconditioner as factored (R84): FP32 entries widened to FP64. `low` and `up` are rows of (column, value)
pairs of the strictly lower and strictly upper factor, `recip` the stored diagonal reciprocals, `blocks` the
inverses of code 2. -/
structure Precond where
  low : List (List (Nat × F64)) := []
  up : List (List (Nat × F64)) := []
  recip : List F64 := []
  blocks : List (List (List F64)) := []
  deriving DecidableEq, Repr, Inhabited

/-- Phases of a running job (R103). -/
inductive SlvPhase where
  | waitPayload | assembly | preparation | iterating | verifying | committed
  deriving DecidableEq, Repr, Inhabited

/-- The vectors and scalars of the methods (R89 to R91); each method uses the ones its steps name. -/
structure IterSt where
  x : List F64 := []
  r : List F64 := []
  z : List F64 := []
  p : List F64 := []
  u : List F64 := []
  uOld : List F64 := []
  y : List F64 := []
  w : List F64 := []
  wOld : List F64 := []
  t : List F64 := []
  gamma : F64 := 0
  beta : F64 := 0
  betaOld : F64 := 0
  beta1 : F64 := 0
  cs : F64 := 0
  sn : F64 := 0
  dbar : F64 := 0
  eps : F64 := 0
  phibar : F64 := 0
  rho0 : F64 := 0
  /-- GMRES: Arnoldi basis, oldest first -/
  basis : List (List F64) := []
  /-- GMRES: rotated columns of the upper-triangular system -/
  cols : List (List F64) := []
  /-- GMRES: rotations (c, s), oldest first -/
  rots : List (F64 × F64) := []
  /-- GMRES: the rotated right-hand side g -/
  g : List F64 := []
  i : Nat := 0
  theta : F64 := 0
  bnorm : F64 := 0
  rho : F64 := 0
  /-- iteration counts already checked, with best(i) of R88, newest first -/
  checks : List (Nat × F64) := []
  cand : Nat := 0
  deriving DecidableEq, Repr, Inhabited

/-- The job on the engines of a solver die (R101). -/
structure SlvRun where
  job : SlvJob := {}
  phase : SlvPhase := .waitPayload
  x0 : List F64 := []
  values : List F64 := []
  b : List F64 := []
  pre : Precond := {}
  it : IterSt := {}
  /-- ending status chosen by a check (R88), 0 while none -/
  endStatus : Nat := 0
  pivotCount : Nat := 0
  pivotFirst : Nat := 0xFFFFFFFF
  firstBad : Nat := 0xFFFFFFFF
  /-- batch records by problem, none where not yet verified -/
  batch : List (Option BatchRec) := []
  /-- batch problems solved and waiting in the collector or verified -/
  posted : List Nat := []
  deriving DecidableEq, Repr, Inhabited

/-- SLV_DIE_STATE codes of a solver die (R121). -/
inductive SdState where
  | absent | asleep | waking | active | selfTest | outOfService | parked | unreachable
  deriving DecidableEq, Repr, Inhabited


/-- A rail that changes frequency and voltage (R449): the setting it stood at, and the settings still to come with the
instants of their steps in ns, oldest first. -/
structure Rail where
  mhz : Nat := 0
  mv : Nat := 0
  steps : List (Nat × Nat × Nat) := []
  /-- the request in the pending slot (R447) -/
  pending : Option (Nat × Nat) := none
  deriving DecidableEq, Repr, Inhabited

/-- A power-domain state (R444). -/
inductive DomState where
  | off | ret | on
  deriving DecidableEq, Repr, Inhabited


/-- A power domain of a die (R444, R447). -/
structure Dom where
  /-- PWR_DOM_STATUS.STATE | 2 | R444 18 | OFF -/
  state : DomState := .off
  /-- a transition is in progress (STATE reads 3) | 1 | R447 18 | 0 -/
  moving : Bool := false
  /-- PWR_DOM_STATUS.TARGET | 2 | R447 18 | 0 -/
  target : DomState := .off
  /-- PWR_DOM_STATUS.PENDING and PENDING_VALID | 3 | R447 18 | none -/
  pending : Option DomState := none
  deriving DecidableEq, Repr, Inhabited

/-- A lane's view of one template (R108, SLV_TPL_ registers). -/
structure TplView where
  /-- SLV_TPL_STATUS.STATUS | 4 | R106 04 | 0 -/
  status : Nat := 0
  /-- SLV_TPL_STATUS.FLAGS | 8 | R107 04 | 0 -/
  flags : Nat := 0
  /-- SLV_TPL_STATUS.VALID and the result itself | result | R109 04 | none -/
  result : Option SlvResult := none
  /-- SLV_TPL_ITER | 32 | R109 04 | 0 -/
  iter : Nat := 0
  /-- SLV_TPL_RHO | 64 | R88 04 | 0 -/
  rho : F64 := 0
  /-- SLV_TPL_COMMIT | 64 | R112 04 | 0 -/
  commitUs : Nat := 0
  /-- SLV_TPL_MISS | 32 | R102 04 | 0 -/
  miss : Nat := 0
  /-- SLV_PIVOT_COUNT | 32 | R85 03 | 0 -/
  pivotCount : Nat := 0
  /-- SLV_PIVOT_FIRST | 32 | R85 03 | 0xFFFF_FFFF -/
  pivotFirst : Nat := 0xFFFFFFFF
  /-- SLV_TPL_FIRST_BAD | 32 | R71 03 | 0xFFFF_FFFF -/
  firstBad : Nat := 0xFFFFFFFF
  /-- the result's copy to the lane's SRAM is complete | 1 | R112 04 | 0 -/
  copied : Bool := false
  /-- the job ended last has committed | 1 | R114 04 | 0 -/
  committed : Bool := false
  deriving DecidableEq, Repr, Inhabited

/-- A job released and not yet ended, as the releasing lane keeps it (R99, R106). -/
structure OpenJob where
  requested : Nat := 0
  template : Nat := 0
  seq : Nat := 0
  deadlineUs : Nat := 0
  /-- solver die it was sent to, none where no die could run it -/
  die : Option Nat := none
  /-- flags set at the release (R107) -/
  flags : Nat := 0
  deriving DecidableEq, Repr, Inhabited

/-- The lane's half of the solver block (SLV_ 0x000 to 0x05C). -/
structure Slv where
  /-- SLV_IRQ_STATUS | 6 | R117 04 | 0 -/
  irq : Word := 0
  /-- SLV_IRQ_ENABLE | 6 | R117 04 | 0 -/
  irqEn : Word := 0
  /-- SLV_FALLBACK_COUNT | 32 | R121 04 | 0 -/
  fallbackCount : Nat := 0
  /-- views of templates 1 to 64 | 64 views | R106 04 | IDLE -/
  tpls : List TplView := List.replicate 64 {}
  /-- jobs released and not yet ended, oldest first | list | R99 04 | none -/
  jobs : List OpenJob := []
  /-- ring-2 warm-start sets received, by template | sets | R99 04 | none -/
  warmIn : List (Nat × WarmSet) := []
  /-- JOB_SEQ last given | 32 | R99 04 | 0 -/
  jobSeq : Nat := 0
  /-- SLV_DIE_STATE last seen for T0 and T1, for the DIE_STATE event bit | 2 x 4 | R121 04 | ABSENT -/
  lastDie : List SdState := [.absent, .absent]
  /-- solver dies whose link to this lane is up | 2 | R121 04 | none -/
  linkUp : List Bool := [false, false]
  deriving DecidableEq, Repr, Inhabited


/-- Quality codes of an input value (R135) are 0 VALID, 1 NOT_YET_VALID, 2 STALE, 3 ABSENT. One entry of the force
table (R152). -/
structure ForceEntry where
  target : Nat := 0
  value : Nat := 0
  deriving DecidableEq, Repr, Inhabited

/-- One cyclic task on its block processor (R132 to R139). -/
structure Task where
  /-- PRG_TASK_STATE.EXECUTING, between steps 3 and 6 | 1 | R132 05 | 0 -/
  executing : Bool := false
  /-- execution ended, publish copy running | 1 | R132 05 | 0 -/
  publishing : Bool := false
  /-- BLK clock requested | 1 | R27 01 | 0 -/
  clockOn : Bool := false
  /-- boundary of the cycle under way, ns of the time base | 64 | R132 05 | 0 -/
  boundaryAt : Nat := 0
  /-- PRG_TASK_STATE.CONSEC | 8 | R138 05 | 0 -/
  consec : Nat := 0
  /-- PRG_TASK_CYCLES | 64 | R137 05 | 0 -/
  cycles : Nat := 0
  /-- PRG_TASK_OVERRUNS | 32 | R137 05 | 0 -/
  overruns : Nat := 0
  /-- PRG_TASK_SKIPPED | 32 | R137 05 | 0 -/
  skipped : Nat := 0
  /-- boundaries skipped by the cycle under way | 32 | R137 05 | 0 -/
  skippedNow : Nat := 0
  /-- PRG_TASK_LAST_US | 32 | R132 05 | 0 -/
  lastUs : Nat := 0
  /-- PRG_TASK_MAX_US | 32 | R132 05 | 0 -/
  maxUs : Nat := 0
  /-- PRG_TASK_STAMP, cycle stamp | 64 | R133 05 | 0 -/
  stamp : Nat := 0
  /-- block processor halted by its watchdog | 1 | R139 05 | 0 -/
  halted : Bool := false
  /-- input image | SNAPSHOT_BYTES | R132 05 | empty -/
  inImage : Bytes := []
  /-- values last received for the input image, before its forces | SNAPSHOT_BYTES | R135 05 | empty -/
  heldImage : Bytes := []
  /-- output image | PUBLISH_BYTES | R511 05 | empty -/
  outImage : Bytes := []
  /-- solver templates requested by the cycle under way | list | R32 01 | empty -/
  requests : List (Nat × SlvPayload × Nat) := []
  /-- boundary handled last, skipped ones included, ns of the time base | 64 | R132 05 | 0 -/
  lastB : Nat := 0
  /-- results the snapshot of the cycle under way took: template, JOB_SEQ, age in us | list | R108 04 | none -/
  seen : List (Nat × Nat × Nat) := []
  /-- force table as it stood when the publish under way began | 1024 x 96 | R154 05 | none -/
  pubForces : List (Nat × ForceEntry) := []
  /-- solver requests registered for release at the next boundary | list | R32 01 | empty -/
  released : List (Nat × SlvPayload × Nat) := []
  deriving DecidableEq, Repr, Inhabited

/-- A time-stamp in module time (R347): seconds (TAI) and nanoseconds, the steering slot or 0xFF while module time is
FREE, and the flags: bit 0 SLEWING, bit 1 HOLDOVER, bit 2 stepped in the last 1 s. -/
structure TimeStamp where
  seconds : Nat := 0
  ns : Nat := 0
  domain : Nat := 255
  flags : Nat := 0
  deriving DecidableEq, Repr, Inhabited

/-- A substation record's two buffers (R148, R150). -/
structure RecBuf where
  rxTb : Nat := 0
  /-- RX_TB expressed in module time (R347) -/
  stamp : TimeStamp := {}
  seq : Nat := 0
  valid : Bool := false
  payload : Bytes := []
  deriving DecidableEq, Repr, Inhabited

/-- The program block of a lane (PRG_). -/
structure Prg where
  /-- PRG_STATUS.RUNNING | 1 | R125 05 | 0 -/
  running : Bool := false
  /-- PRG_STATUS.GEN | 1 | R158 05 | 0 -/
  gen : Nat := 0
  /-- the safe states that follow the last cycle have been commanded since the program stopped | 1 | R312 11 | 1 -/
  safeSent : Bool := true
  /-- a start of the tasks waits for the last cycle of the mode that was left; whether it is one from LOADED | 1 | R312 11 | none -/
  startWait : Option Bool := none
  /-- program origin t0, ns of the time base | 64 | R127 05 | 0 -/
  t0 : Nat := 0
  /-- number of the first common boundary counted from t0 | 32 | R127 05 | 1 -/
  boundaryBase : Nat := 1
  /-- PRG_TB_OFFSET, signed microseconds | 64 | R140 05 | 0 -/
  tbOffset : Int := 0
  /-- tasks T0 to T3 | 4 tasks | R126 05 | idle -/
  tasks : List Task := [{}, {}, {}, {}]
  /-- PRG_FORCE_TARGET as last written | 32 | R154 05 | 0 -/
  forceTarget : Nat := 0
  /-- starts of the tasks from LOADED or SAFE_HOLD since the lane's reset, modulo 2^32 | 32 | R197 07 | 0 -/
  starts : Nat := 0
  /-- PRG_FORCE_VALUE as last written | 64 | R154 05 | 0 -/
  forceValue : Nat := 0
  /-- force table: the entries in use, by number | 1024 x 96 | R152 05 | free -/
  forces : List (Nat × ForceEntry) := []
  /-- PRG_FORCE_STATUS.RESULT | 3 | R153 05 | 0 -/
  forceResult : Nat := 0
  /-- PRG_EXCH_CARRY_NS | 32 | R160 05 | 0 -/
  exchCarryNs : Nat := 0
  /-- PRG_EXCH_COUNTS.INITIALISED | 16 | R159 05 | 0 -/
  exchInit : Nat := 0
  /-- PRG_EXCH_COUNTS.DROPPED | 16 | R159 05 | 0 -/
  exchDropped : Nat := 0
  /-- PRG_EXCH_DELAY_US | 32 | R161 05 | 0 -/
  exchDelayUs : Nat := 0
  /-- an exchange whose carry-over has not ended: old configuration and its t_X | conf | R160 05 | none -/
  exchOld : Option (Conf × Nat) := none
  /-- PRG_IRQ_STATUS | 11 | R162 05 | 0 -/
  irq : Word := 0
  /-- PRG_IRQ_ENABLE | 11 | R162 05 | 0 -/
  irqEn : Word := 0
  /-- the frame area (the spec's instance area) | INSTANCE_BYTES | R142 05 | empty -/
  frames : Bytes := []
  /-- module channels whose item the last apply changed: no frame of its tick or later yet | list | R61 02 | none -/
  nyv : List Nat := []
  /-- substation records in, by record number | 4096 records | R148 05 | none received -/
  recIn : List (Nat × RecBuf) := []
  deriving DecidableEq, Repr, Inhabited


/-- A CLAIM_REQUEST reply of a field die (R278). -/
structure ClaimReply where
  die : Nat := 0
  /-- 0 VACANT, 1 HELD, 2 NO_VACANCY -/
  result : Nat := 0
  claim : Nat := 0
  proposed : Nat := 0
  vacantSince : Nat := 0
  replyTb : Nat := 0
  imageCounter : Nat := 0
  mac : Bytes := []
  deriving DecidableEq, Repr, Inhabited

/-- Why a lane runs a quorum exchange. -/
inductive RaiseWhy where
  | start | takeover | switchover | take | revert | join
  deriving DecidableEq, Repr, Inhabited

/-- A quorum exchange under way (R278). -/
structure Exchange where
  why : RaiseWhy := .start
  proposed : Nat := 0
  openedAt : Nat := 0
  /-- instant of the newest request -/
  requestAt : Nat := 0
  replies : List ClaimReply := []
  raised : Bool := false
  latched : List Nat := []
  /-- the exchange runs a second time, after the other image slot was read (R285) -/
  second : Bool := false
  deriving DecidableEq, Repr, Inhabited

/-- A checkpoint as captured: the values its header carries and its body (R288). -/
structure Checkpoint where
  seq : Nat := 0
  claim : Nat := 0
  mode : Nat := 0
  imageCounter : Nat := 0
  moduleTimeS : Nat := 0
  captureTb : Nat := 0
  opsec : Nat := 0
  pcc : Nat := 0
  stamps : List Nat := [0, 0, 0, 0]
  boundary : Nat := 0
  jobSeq : Nat := 0
  saveSeq : Nat := 0
  frames : Bytes := []
  forces : List (Nat × ForceEntry) := []
  mlog : List Bytes := []
  deriving DecidableEq, Repr, Inhabited

/-- The redundancy block of a lane (RED_). -/
structure Red where
  /-- RED_CLAIM | 32 | R271 10 | epoch 0, lane bit per die -/
  claim : Nat := 0
  /-- RED_LANE_STATE.ROLE | 3 | R299 10 | 1 STANDBY -/
  role : Role := .standby
  /-- SYS_STATUS.ACTIVE and HST_STATUS.ACTIVE: the lane holds the latched claim | 1 | R20 01 | 0 -/
  holds : Bool := false
  /-- the peer's wire has been declared lost and has not toggled steadily since | 1 | R277 10 | 0 -/
  wireLost : Bool := false
  /-- instant since which the peer's wire has toggled without a gap of 3 ms, ns | 64 | R277 10 | none -/
  wireSince : Option Nat := none
  /-- instant of the newest valid input frame of each field die, ns | 4 x 64 | R281 10 | none -/
  frameAt : List (Option Nat) := [none, none, none, none]
  /-- RED_LANE_STATE.VACANT | 4 | R278 10 | 0 -/
  vacant : List Bool := [false, false, false, false]
  /-- RED_LANE_STATE.SELF_FENCED | 1 | R281 10 | 0 -/
  selfFenced : Bool := false
  /-- RED_QUORUM.EVIDENCE_DIES | 4 | R278 10 | 0 -/
  evidence : List Bool := [false, false, false, false]
  /-- RED_QUORUM.LATCHED_DIES | 4 | R279 10 | 0 -/
  latched : List Bool := [false, false, false, false]
  /-- RED_QUORUM.RESULT | 3 | R280 10 | 0 -/
  quorumResult : Nat := 0
  /-- RED_CKPT_SEQ | 32 | R288 10 | from MRAM -/
  ckptSeq : Nat := 0
  /-- CAPTURE_TB of that checkpoint, microseconds | 64 | R288 10 | none (AGE reads 0xFFFF_FFFF) -/
  ckptTb : Option Nat := none
  /-- RED_CKPT_BYTES | 32 | R288 10 | 0 -/
  ckptBytes : Nat := 0
  /-- RED_CKPT_TIME_US | 32 | R290 10 | 0 -/
  ckptTimeUs : Nat := 0
  /-- RED_CTRL_STATUS.STATE | 2 | R296 10 | 0 IDLE -/
  ctrlState : Nat := 0
  /-- RED_CTRL_STATUS.REASON | 4 | R296 10 | 0 -/
  ctrlReason : Nat := 0
  /-- RED_SPLIT_COUNT | 32 | R280 10 | 0 -/
  splitCount : Nat := 0
  /-- RED_IRQ_STATUS | 6 | R298 10 | 0 -/
  irq : Word := 0
  /-- RED_IRQ_ENABLE | 6 | R298 10 | 0 -/
  irqEn : Word := 0
  /-- quorum exchange under way | record | R278 10 | none -/
  exch : Option Exchange := none
  /-- the wire trigger is armed | 1 | R277 10 | 0 -/
  wireArmed : Bool := false
  /-- the vacancy-pattern trigger is armed | 1 | R308 11 | 0 -/
  patArmed : Bool := false
  /-- heartbeat sequence number | 32 | R275 10 | 0 -/
  hbSeq : Nat := 0
  /-- instant of the last wire toggle this lane made, ns | 64 | R275 10 | 0 -/
  wireAt : Nat := 0
  /-- this lane's end of the lane heartbeat wire | 1 | R18 01 | 0 -/
  wire : Bool := false
  /-- checkpoint captured at an instant and its mirror | record | R287 10 | none -/
  ckpt : Option Checkpoint := none
  /-- tasks whose part is captured at their publish | list | R287 10 | none -/
  ckptWait : List Nat := []
  /-- a mirror is running since this instant, ns | 64 | R290 10 | none -/
  mirrorAt : Option Nat := none
  /-- the checkpoint read at a takeover, with which the program restarts | record | R284 10 | none -/
  restored : Option Checkpoint := none
  /-- instant of the last checkpoint instant, ns | 64 | R287 10 | 0 -/
  ckptAt : Nat := 0
  /-- the standby's answer to the mirror: its CRC held or not | 1 | R290 10 | none -/
  mirrorDone : Option Bool := none
  /-- metrology records written since the last confirmed checkpoint (number of the newest record carried) | 32 | R288 10 | 0 -/
  mlogConfirmed : Nat := 0
  /-- instant of the accepted SWITCHOVER, ns | 64 | R296 10 | none -/
  switchAt : Option Nat := none
  /-- the standby reported READY; the next checkpoint instant is the final one | 1 | R296 10 | 0 -/
  switchReady : Bool := false
  /-- the checkpoint under way or confirmed is a switchover's final one: each task stops after its captured cycle | 1 | R296 10 | 0 -/
  finalCkpt : Bool := false
  /-- RELEASE was sent at this instant, ns | 64 | R296 10 | none -/
  releaseAt : Option Nat := none
  /-- the standby has been told to prepare for a switchover | 1 | R296 10 | 0 -/
  prepare : Bool := false
  /-- the mode the lane enters once its takeover or revert completes | 3 | R311 11 | none -/
  resumeMode : Option Mode := none
  /-- STANDBY_LOST has been recorded for the present loss | 1 | R286 10 | 0 -/
  standbyLost : Bool := false
  deriving DecidableEq, Repr, Inhabited


/-- A capture entry (R327), 96 bytes in its layout. -/
structure CapEntry where
  tbUs : Nat := 0
  frac : Nat := 0
  port : Nat := 0
  flags : Nat := 0
  ident : Nat := 0
  dlc : Nat := 0
  len : Nat := 0
  err : Nat := 0
  data : Bytes := []
  /-- the capture instant in module time, from its landing in a lane on (R347) -/
  stamp : Option TimeStamp := none
  deriving DecidableEq, Repr, Inhabited

/-- A frame in a transmit queue (R325, R326). -/
structure TxFrame where
  ident : Nat := 0
  ide : Bool := false
  fdf : Bool := false
  brs : Bool := false
  dlc : Nat := 0
  data : Bytes := []
  /-- claim under which it was queued -/
  claim : Nat := 0
  /-- outgoing record the frame is a segment of, with its position -/
  record : Option (Nat × Nat) := none
  /-- transmission has begun -/
  started : Bool := false
  /-- arrival order -/
  order : Nat := 0
  deriving DecidableEq, Repr, Inhabited

/-- An acceptance filter of the single-lane parts (R339). -/
structure CanFilter where
  filt : Word := 0
  mask : Word := 0
  /-- own buffer of filters 0 to 7 -/
  buf : CapEntry := {}
  full : Bool := false
  deriving DecidableEq, Repr, Inhabited

/-- An assembly of the record engine (R332). -/
structure Assembly where
  record : Nat := 0
  index : Nat := 0
  toggle : Nat := 0
  epoch : Nat := 0
  openedAt : Nat := 0
  bytes : Bytes := []
  deriving DecidableEq, Repr, Inhabited

/-- The record engine's state for one record number (R332, R333). -/
structure RecEng where
  record : Nat := 0
  /-- EPOCH of the front buffer | 8 | R333 12 | 0 -/
  epoch : Nat := 0
  /-- CAN_REC_ERRORS fields | 4 x 8 | R332 12 | 0 -/
  eCheck : Nat := 0
  eSeq : Nat := 0
  eTimeout : Nat := 0
  eOld : Nat := 0
  /-- duplicates seen (R332 DUPLICATE; no register shows it) -/
  dups : Nat := 0
  /-- open assembly | record | R332 12 | none -/
  asm : Option Assembly := none
  /-- instant of the last RECORD_DISCARD, ns | 64 | R338 12 | none -/
  discEvAt : Option Nat := none
  deriving DecidableEq, Repr, Inhabited

/-- The lane's half of the CAN block (capture rings, record engine, CAN_ 0x104 to 0x114). -/
structure Can where
  /-- CAN_IRQ_STATUS | 19 | R324 12 | 0 -/
  irq : Word := 0
  /-- CAN_IRQ_ENABLE | 19 | R324 12 | 0 -/
  irqEn : Word := 0
  /-- capture rings of CAN0 to CAN15 in bank SRAM7, the newest 1024 entries, oldest first | 16 x 1024 entries | R327 12 | empty -/
  rings : List (List CapEntry) := List.replicate 16 []
  /-- record engine | 4096 | R332 12 | empty -/
  recs : List RecEng := []
  /-- UDP record headers that matched no entry; no register shows it | 32 | R334 12 | 0 -/
  udpStrangers : Nat := 0
  /-- outgoing SEQ per record | 4096 x 16 | R333 12 | 0 -/
  outSeq : List (Nat × Nat) := []
  deriving DecidableEq, Repr, Inhabited

/-- PTP slot states (R349). -/
inductive SlotState where
  | disabled | listening | locked | degraded | lost
  deriving DecidableEq, Repr, Inhabited

/-- A delay measurement under way: sequence id, send instant, and of a peer's two-step answer its receive instant and
the instant the peer received the request with the correction (R348). -/
structure DelayReq where
  seq : Nat := 0
  sent : Int := 0
  resp : Option (Int × Int) := none
  deriving DecidableEq, Repr, Inhabited

/-- A foreign master of a domain, as its Announce messages describe it (R346). -/
structure Foreign where
  port : Nat := 0
  sender : Nat := 0
  gm : Nat := 0
  /-- priority1, clockClass, clockAccuracy, offsetScaledLogVariance, priority2 -/
  rank : List Nat := []
  steps : Nat := 0
  /-- instants of its newest Announce and the one before, ns -/
  heard : List Nat := []
  deriving DecidableEq, Repr, Inhabited

/-- A PTP domain slot (R348). Times are ns as integers. -/
structure PtpSlot where
  /-- PTP_STATUS.Dn_STATE | 3 | R349 13 | 0 DISABLED -/
  state : SlotState := .disabled
  /-- newest offset samples, oldest first: (t2 ns, theta ns) | 16 | R348 13 | none -/
  samples : List (Int × Int) := []
  /-- PTP_DOM_OFFSET, theta | 32 | R348 13 | 0 -/
  theta : Int := 0
  /-- PTP_DOM_RATE, rho in ppb | 32 | R348 13 | 0 -/
  rho : Int := 0
  /-- PTP_DOM_QUALITY, q in ns | 32 | R348 13 | none (0xFFFF_FFFF) -/
  q : Option Nat := none
  /-- mean path delay d of the lane's two ports; PTP_DOM_PATH shows the slave port's | 2 x 32 | R348 13 | 0 -/
  paths : List Int := [0, 0]
  /-- PTP_DOM_GM | 64 | R357 13 | 0 -/
  gm : Nat := 0
  /-- instant of the last Sync, ns | 64 | R349 13 | none -/
  syncAt : Option Nat := none
  /-- instant of the last Announce of the selected master, ns | 64 | R349 13 | none -/
  annAt : Option Nat := none
  /-- portState of the lane's two ports (IEEE 1588 codes) | 2 x 4 | R346 13 | 0 -/
  portState : List Nat := [0, 0]
  /-- a two-step Sync waiting for its Follow_Up: port, sequence id, t2, correction | record | R348 13 | none -/
  waitFu : Option (Nat × Nat × Int × Int) := none
  /-- Delay_Req or Pdelay_Req outstanding per port | 2 records | R348 13 | none -/
  delayReq : List (Option DelayReq) := [none, none]
  /-- last Sync's port and its t2 - t1 - c, for delay request-response | 2 + 64 | R348 13 | none -/
  msDiff : Option (Nat × Int) := none
  /-- next sequence ids: Sync, Delay_Req, Pdelay_Req, Announce | 4 x 16 | R346 13 | 0 -/
  seqs : List Nat := [0, 0, 0, 0]
  /-- foreign masters heard, per port and sender | records | R346 13 | none -/
  foreign : List Foreign := []
  deriving DecidableEq, Repr, Inhabited

/-- An Ethernet port (R340). -/
structure EthPort where
  /-- PTP_PORT_STATUS.LINK | 1 | R340 13 | 0 -/
  up : Bool := false
  /-- PTP_PORT_STATUS.SPEED | 1 | R340 13 | 0 -/
  gig : Bool := false
  /-- PTP_PORT_ERRORS.OTHER | 16 | R341 13 | 0 -/
  other : Nat := 0
  /-- PTP_PORT_ERRORS.FCS | 16 | R341 13 | 0 -/
  fcs : Nat := 0
  /-- time-stamp of the last PTP event message sent or received | 128 | R347 13 | none -/
  stamp : Option TimeStamp := none
  deriving DecidableEq, Repr, Inhabited

/-- The Ethernet and time block of a lane (PTP_). -/
structure Ptp where
  /-- PTP_STATUS.STEER | 1 | R355 13 | from the active image -/
  steer : Nat := 0
  /-- PTP_STATUS.STEER_STATE: 0 FREE, 1 LOCKED, 2 HOLDOVER | 2 | R351 13 | 0 -/
  steerState : Nat := 0
  /-- PTP_STATUS.SLEWING | 1 | R355 13 | 0 -/
  slewing : Bool := false
  /-- PTP_STATUS.UNTRUSTED | 1 | R352 13 | 0 -/
  untrusted : Bool := false
  /-- rate correction of the steering slot in ppb | 32 | R350 13 | 0 -/
  rate : Int := 0
  /-- rate of the lane's own reference against the active lane's time base, ppb | - | R27 01 | 0 (assumption 15) -/
  refPpb : Int := 0
  /-- remaining offset to slew out, ns | 64 | R355 13 | 0 -/
  slewLeft : Int := 0
  /-- instant at which the slew under way began, ns | 64 | R355 13 | 0 -/
  slewAt : Nat := 0
  /-- instant at which the slew under way ends, ns | 64 | R355 13 | 0 -/
  slewEnd : Nat := 0
  /-- PTP_CTRL_STATUS.STATE | 2 | R356 13 | 0 IDLE -/
  ctrlState : Nat := 0
  /-- PTP_CTRL_STATUS.REASON | 4 | R356 13 | 0 -/
  ctrlReason : Nat := 0
  /-- slots D0 and D1 | 2 | R348 13 | DISABLED -/
  slots : List PtpSlot := [{}, {}]
  /-- the lane's two ports | 2 | R340 13 | down -/
  ports : List EthPort := [{}, {}]
  /-- PTP_UTC_OFFSET | 16 | R357 13 | from MRAM or the active image -/
  utcOffset : Nat := 0
  /-- a domain has supplied currentUtcOffset | 1 | R342 13 | 0 -/
  utcKnown : Bool := false
  /-- instant of the last automatic switch, ns | 64 | R355 13 | none -/
  autoAt : Option Nat := none
  /-- instant of the last step, ns | 64 | R347 13 | none -/
  stepAt : Option Nat := none
  /-- SET_RTC staged: the UTC second it commits at | 64 | R358 13 | none -/
  setRtc : Option Nat := none
  /-- PTP_IRQ_STATUS | 5 | R359 13 | 0 -/
  irq : Word := 0
  /-- PTP_IRQ_ENABLE | 5 | R359 13 | 0 -/
  irqEn : Word := 0
  deriving DecidableEq, Repr, Inhabited


/-- A page program (R366): start address, bytes, mode, writer code of R382. -/
structure PageProg where
  addr : Nat := 0
  bytes : Bytes := []
  lowPower : Bool := false
  writer : Nat := 0
  deriving DecidableEq, Repr, Inhabited

/-- A transfer that an engine of the module programs page after page: its address, the bytes that stood there and the ECC
state of its groups, its mode, whether the counter port makes it, and the instant at which its last program ends (R368,
R370). -/
structure Transfer where
  addr : Nat := 0
  old : Bytes := []
  ecc : List (Nat × Nat) := []
  lowPower : Bool := false
  port : Bool := false
  endAt : Nat := 0
  deriving DecidableEq, Repr, Inhabited

/-- The non-volatile store's controller (NVM_). -/
structure Nvm where
  /-- program in progress (NVM_STATUS.BUSY, AO_PORT) | record | R366 14 | none -/
  busy : Option PageProg := none
  /-- programs waiting, oldest first | list | R372 14 | empty -/
  waiting : List PageProg := []
  /-- NVM_STATUS.LOW_POWER of the program in progress or the last one | 1 | R368 14 | 0 -/
  lowPower : Bool := false
  /-- NVM_ECC_CORR | 32 | R371 14 | 0 -/
  eccCorr : Nat := 0
  /-- NVM_ECC_UE | 32 | R371 14 | 0 -/
  eccUe : Nat := 0
  /-- NVM_UE_ADDR | 26 | R371 14 | 0 -/
  ueAddr : Nat := 0
  /-- NVM_PROG_PAGES | 64 | R366 14 | 0 -/
  progPages : Nat := 0
  /-- NVM_REFUSED.COUNT | 16 | R364 14 | 0 -/
  refused : Nat := 0
  /-- NVM_REFUSED.REGION | 3 | R364 14 | 0 -/
  refRegion : Nat := 0
  /-- NVM_WIN_STATUS.CORRECTED per view | 2 x 2 | R371 14 | 0 -/
  winCorr : List Nat := [0, 0]
  /-- NVM_WIN_STATUS.UE per view | 2 x 1 | R371 14 | 0 -/
  winUe : List Bool := [false, false]
  /-- NVM_PROG_ADDR | 26 | R366 14 | 0 -/
  progAddr : Word := 0
  /-- NVM_PROG_CTRL LEN and LOW_POWER | 8 | R366 14 | 0 -/
  progCtrl : Word := 0
  /-- NVM_PROG_DATA, 16 words | 512 | R366 14 | 0 -/
  progData : List Word := List.replicate 16 0
  /-- NVM_IRQ_STATUS | 3 | R371 14 | 0 -/
  irq : Word := 0
  /-- NVM_IRQ_ENABLE | 3 | R371 14 | 0 -/
  irqEn : Word := 0
  /-- transfers of the module's own engines, oldest first; those whose end lies ahead are under way | list | R370 14 | none -/
  flight : List Transfer := []
  /-- groups with stored bit errors: group number and errors (1, 2 corrected; 3 stands for uncorrectable) | list | R371 14 | none -/
  ecc : List (Nat × Nat) := []
  deriving DecidableEq, Repr, Inhabited

/-- A record of the event recorder before it has its sequence number (R384). -/
structure EvRec where
  code : Nat := 0
  source : Nat := 0
  flags : Nat := 0
  opsec : Nat := 0
  pcc : Nat := 0
  p0 : Nat := 0
  p1 : Nat := 0
  p2 : Nat := 0
  deriving DecidableEq, Repr, Inhabited

/-- A code's token bucket (R392). -/
structure Bucket where
  code : Nat := 0
  tokens : Nat := 16
  /-- instant of its last refill, or at which the first token left it full, ns (assumption 51) -/
  refillAt : Nat := 0
  suppressed : Nat := 0
  firstOpsec : Nat := 0
  deriving DecidableEq, Repr, Inhabited

/-- The event recorder of a lane (EVR_). -/
structure Evr where
  /-- EVR_FREEZE.HOST: instant it was set, ns | 1 | R397 15 | 0 -/
  freezeHost : Option Nat := none
  /-- EVR_FREEZE.FIRMWARE: instant it was set, ns | 1 | R397 15 | 0 -/
  freezeFw : Option Nat := none
  /-- instant the freeze in force began, ns | 64 | R400 15 | 0 -/
  freezeAt : Nat := 0
  /-- freeze bits that were in force | 2 | R400 15 | 0 -/
  freezeBits : Nat := 0
  /-- the ring and the metrology log have been read since the lane's last reset | 1 | R389 15 | 0 -/
  known : Bool := false
  /-- EVR_HEAD_SEQ | 32 | R388 15 | from MRAM, 0 when empty -/
  head : Nat := 0
  /-- EVR_TAIL_SEQ | 32 | R388 15 | from MRAM, 1 when empty -/
  tail : Nat := 1
  /-- EVR_MLOG_HEAD_SEQ | 32 | R390 15 | from MRAM, 0 when empty -/
  mHead : Nat := 0
  /-- EVR_MLOG_TAIL_SEQ | 32 | R390 15 | from MRAM, 1 when empty -/
  mTail : Nat := 1
  /-- metrology log slots in use (lowest free slot) | 13 | R390 15 | from MRAM, 0 -/
  mUsed : Nat := 0
  /-- EVR_COUNTS.HOLD_OVERFLOW | 16 | R397 15 | 0 -/
  holdOverflow : Nat := 0
  /-- records lost in the present freeze | 32 | R397 15 | 0 -/
  holdLostNow : Nat := 0
  /-- EVR_COUNTS.DAMAGED | 16 | R390 15 | from MRAM, 0 -/
  damaged : Nat := 0
  /-- EVR_SUPPRESSED | 32 | R392 15 | 0 -/
  suppressed : Nat := 0
  /-- EVR_RD_STATUS.VALID per view | 2 | R388 15 | 0 -/
  rdValid : List Bool := [false, false]
  /-- EVR_RD_STATUS.EMPTY per view | 2 | R388 15 | 0 -/
  rdEmpty : List Bool := [false, false]
  /-- EVR_IRQ_STATUS | 4 | R397 15 | 0 -/
  irq : Word := 0
  /-- EVR_IRQ_ENABLE | 4 | R397 15 | 0 -/
  irqEn : Word := 0
  /-- intake queue, oldest first | 1024 | R394 15 | empty -/
  intake : List EvRec := []
  /-- holding buffer, oldest first | 256 | R397 15 | empty -/
  held : List EvRec := []
  /-- always-on store of a lane in STANDBY with SYS and NVM off | 32 | R394 15 | empty -/
  aoStore : List EvRec := []
  /-- token buckets of the codes used so far; a code not listed is full | buckets | R392 15 | full -/
  buckets : List Bucket := []
  deriving DecidableEq, Repr, Inhabited

/-- A calendar reading (R402). -/
structure Cal where
  sec : Nat := 0
  min : Nat := 0
  hour : Nat := 0
  wday : Nat := 6
  day : Nat := 1
  mon : Nat := 1
  year : Nat := 2000
  deriving DecidableEq, Repr, Inhabited

/-- What a second tick that sets OSF or meets the alarm changes, as it stood before it (R417). -/
structure TickUndo where
  osf : Bool := false
  osfCause : Nat := 0
  alarm : Bool := false
  pwron : Bool := false
  pwrOnAt : Option (Nat × Nat) := none
  irq : Word := 0
  kept : List (Nat × Nat × Nat) := []
  deriving DecidableEq, Repr, Inhabited

/-- The time keeper Thyme and the backup domain of a lane (RTC_). -/
structure Rtc where
  /-- running calendar | 7 fields | R402 16 | 2000-01-01 00:00:00, weekday 6 -/
  cal : Cal := {}
  /-- instant the present second began, ns (the prescaler) | 64 | R406 16 | 0 -/
  secAt : Nat := 0
  /-- shadow calendars of the host and firmware views while frozen, with the instant of the read | 2 | R405 16 | not frozen -/
  shadow : List (Option (Cal × Nat)) := [none, none]
  /-- RTC_STG_TIME: sec, min, hour | 21 | R407 16 | 0 -/
  stgSec : Nat := 0
  stgMin : Nat := 0
  stgHour : Nat := 0
  /-- RTC_STG_DATE: day, month, year | 28 | R407 16 | 1, 1, 2000 -/
  stgDay : Nat := 1
  stgMon : Nat := 1
  stgYear : Nat := 2000
  /-- RTC_ERR.DATE | 1 | R407 16 | 0 -/
  errDate : Bool := false
  /-- RTC_ERR.ALARM | 1 | R414 16 | 0 -/
  errAlarm : Bool := false
  /-- RTC_STATUS.OSF | 1 | R408 16 | 1 -/
  osf : Bool := true
  /-- RTC_STATUS.OSF_CAUSE | 2 | R408 16 | 0 -/
  osfCause : Nat := 0
  /-- RTC_STATUS.ALARM | 1 | R414 16 | 0 -/
  alarm : Bool := false
  /-- RTC_STATUS.PWRON | 1 | R415 16 | 0 -/
  pwron : Bool := false
  /-- RTC_ALM_TIME | 32 | R414 16 | 0 -/
  almTime : Word := 0
  /-- RTC_ALM_DATE | 32 | R414 16 | 0 -/
  almDate : Word := 0
  /-- RTC_ALM_CTRL.MATCH | 5 | R414 16 | 0 -/
  almCtrl : Word := 0
  /-- RTC_PWRON.ALARM_EN | 1 | R415 16 | 0 -/
  alarmEn : Bool := false
  /-- RTC_PWRON.WAKE_EN | 1 | R415 16 | 0 -/
  wakeEn : Bool := false
  /-- RTC_PWRON.HOLD_S | 8 | R415 16 | 60 -/
  holdS : Nat := 60
  /-- RTC_BACKUP.ON_BACKUP (reads 0; set in the record of R416) | 1 | R412 16 | 0 -/
  onBackup : Bool := false
  /-- RTC_BACKUP.EXT_SELECTED | 1 | R410 16 | 0 -/
  extSelected : Bool := false
  /-- RTC_BACKUP.CHARGING | 1 | R411 16 | 0 -/
  charging : Bool := false
  /-- RTC_BACKUP.CELL_LOW | 1 | R413 16 | 0 -/
  cellLow : Bool := false
  /-- RTC_BACKUP.INT_MV | 16 | R413 16 | 0 -/
  intMv : Nat := 0
  /-- RTC_BACKUP_CFG EXT_MODE, EXT_CURRENT, EXT_FLOAT | 5 | R411 16 | 0 -/
  backupCfg : Nat := 0
  /-- RTC_BACKUP_CFG.EXT_MV | 16 | R410 16 | 0 -/
  extMv : Nat := 0
  /-- RTC_IRQ_STATUS | 4 | R414 16 | 0 -/
  irq : Word := 0
  /-- RTC_IRQ_ENABLE | 4 | R414 16 | 0 -/
  irqEn : Word := 0
  /-- the register interface is locked out | 1 | R412 16 | 1 before HOLDUP_OK -/
  lockout : Bool := true
  /-- PWR_ON_REQ driven by this domain: since this instant, ns, with its source 0 alarm or 1 wake | 64 | R415 16 | none -/
  pwrOnAt : Option (Nat × Nat) := none
  /-- the calendar of the peer lane is set at this lane's next second | 1 | R409 16 | 0 -/
  peerSet : Bool := false
  /-- the domain stopped for want of a backup source | 1 | R413 16 | 0 -/
  stopped : Bool := false
  /-- the domain has lost both supply and cell and powers up afresh at the next supply good | 1 | R408 16 | 1 on a new module -/
  lostAll : Bool := true
  /-- events kept while on backup: code and two parameters | list | R416 16 | none -/
  kept : List (Nat × Nat × Nat) := []
  /-- what the last second tick changed, as it stood before, for a commit in its AO cycle | record | R417 16 | none -/
  undo : Option TickUndo := none
  /-- instant of the last increment of the operating time, ns | 64 | R378 14 | 0 -/
  opAt : Nat := 0
  /-- instant of the last cell measurement, ns | 64 | R413 16 | 0 -/
  cellAt : Nat := 0
  deriving DecidableEq, Repr, Inhabited


/-- A key-store slot (R420 to R432). Content is the 32-byte key or coordinate. -/
structure KeySlot where
  /-- content of the slot, none when empty | 256 | R420 17 | empty -/
  key : Option Bytes := none
  /-- KEY_SLOT_ATTR word of the slot | 32 | R421 17 | 0 -/
  attr : Nat := 0
  /-- LIMITED count | 32 | R430 17 | 0 -/
  count : Nat := 0
  /-- the first of the two shares in the working store; the second is the content XOR it | 256 | R432 17 | none -/
  mask : Bytes := []
  deriving DecidableEq, Repr, Inhabited

/-- One of the two copies of a slot in the key store's array: sequence number (0 never written), attribute word, count, and
the content wrapped under the device key, empty where the array holds none (R373, R431, R432). -/
structure KeyCopy where
  seq : Nat := 0
  attr : Nat := 0
  count : Nat := 0
  wrapped : Bytes := []
  deriving DecidableEq, Repr, Inhabited

/-- The key store of a lane (KEY_, ch. 17). -/
structure Key where
  /-- slots 0 to 63 | 64 slots | R420 17 | slot 3 fused, others empty -/
  slots : List KeySlot := List.replicate 64 {}
  /-- KEY_CMD_STATUS.STATE | 2 | R433 17 | 0 IDLE -/
  cmdState : Nat := 0
  /-- KEY_CMD_STATUS.RESULT | 4 | R433 17 | 0 -/
  cmdResult : Nat := 0
  /-- KEY_REFUSED | 32 | R421 17 | 0 -/
  refused : Nat := 0
  /-- KEY_TRNG_STATUS.OK | 1 | R423 17 | 0 -/
  trngOk : Bool := false
  /-- KEY_TRNG_STATUS.FAILED | 1 | R423 17 | 0 -/
  trngFailed : Bool := false
  /-- slots whose shares were found faulty, reloaded before their next use | 64 | R432 17 | none -/
  faulty : List Nat := []
  /-- the non-volatile array: two copies of each slot | 64 x 2 records of 16 KiB | R432 17 | never written -/
  array : List (List KeyCopy) := List.replicate 64 [{}, {}]
  /-- scrambling key of the working store, drawn at every start | 256 | R432 17 | none before a start -/
  scramble : Bytes := []
  /-- KEY_IRQ_STATUS | 3 | R436 17 | 0 -/
  irq : Word := 0
  /-- KEY_IRQ_ENABLE | 3 | R436 17 | 0 -/
  irqEn : Word := 0
  /-- KEY_BUF | 1024 | R433 17 | 0 -/
  buf : List Word := List.replicate 32 0
  deriving DecidableEq, Repr, Inhabited

/-- The power block of a lane (PWR_, ch. 18). -/
structure Pwr where
  /-- the control die's domains AO 0, SYS 1, BLK0-3 2-5, SRAM0-7 6-13, NET 14, HOST 15, NVM 16 | 17 domains | R444 18 | OFF but AO -/
  doms : List Dom := List.replicate 17 {}
  /-- PWR_RET_FAIL | 12 | R448 18 | 0 -/
  retFail : Word := 0
  /-- PWR_RET_FAIL_T0 | 17 | R448 18 | 0 -/
  retFailT0 : Word := 0
  /-- PWR_RET_FAIL_T1 | 17 | R448 18 | 0 -/
  retFailT1 : Word := 0
  /-- PWR_IN.V_IN in mV | 16 | R438 18 | 0 -/
  vIn : Nat := 0
  /-- PWR_IN.I_IN in mA | 16 | R440 18 | 0 -/
  iIn : Nat := 0
  /-- PWR_POWER.P_IN in 0.1 W | 16 | R440 18 | 0 -/
  pIn : Nat := 0
  /-- PWR_POWER.P_AVAIL in 0.1 W | 16 | R438 18 | 0 -/
  pAvail : Nat := 0
  /-- PWR_HOLD.V_HOLD in mV | 16 | R439 18 | 0 -/
  vHold : Nat := 0
  /-- PWR_HOLD.LIMIT | 1 | R439 18 | 0 -/
  limit : Bool := false
  /-- V_in was below 10.0 V at the last measurement | 1 | R442 18 | 0 -/
  vLow : Bool := false
  /-- PWR_GOV.STEP | 3 | R440 18 | 0 -/
  step : Nat := 0
  /-- PWR_GOV.MAX | 3 | R440 18 | 0 -/
  maxStep : Nat := 0
  /-- instant of the governor's last raise, ns | 64 | R440 18 | none -/
  raiseAt : Option Nat := none
  /-- PWR_GOV_COUNT | 32 | R440 18 | 0 -/
  govCount : Nat := 0
  /-- PWR_DOM_STATUS.LAST of the lane's last request for each domain, by 32 x die + domain: its code | list | R445, R447 18 | 0 NONE -/
  lastReq : List (Nat × Nat) := []
  /-- PWR_DOM_STATUS.SUPERSEDED: the domains set, by 32 x die + domain | list | R447 18 | none -/
  superseded : List Nat := []
  /-- instant of the governor's last measurement, ns | 64 | R440 18 | 0 -/
  tickAt : Nat := 0
  /-- instant of the last governor step change, ns | 64 | R440 18 | 0 -/
  stepAt : Nat := 0
  /-- instant since which the lowering condition has held, ns | 64 | R440 18 | none -/
  lowSince : Option Nat := none
  /-- PWR_IRQ_STATUS | 5 | R455 18 | 0 -/
  irq : Word := 0
  /-- PWR_IRQ_ENABLE | 5 | R455 18 | 0 -/
  irqEn : Word := 0
  deriving DecidableEq, Repr, Inhabited

/-- The clock block of a lane (CLK_, ch. 18). -/
structure Clk where
  /-- rail VBLK with the BLK clock: CLK_BLK.MHZ and VBLK_MV | 10 + 10 | R449 18 | from the active image, 0 mV -/
  blk : Rail := {}
  /-- CLK_SLV.F_P in MHz | 11 | R450 18 | from the active image -/
  fp : Nat := 0
  /-- CLK_SLV_CAP | 11 | R450 18 | 0 -/
  cap : Nat := 0
  /-- CLK_FAIL | 8 | R452 18 | 0 -/
  fail : Word := 0
  deriving DecidableEq, Repr, Inhabited

/-- A descriptor as fetched from host memory (R462). -/
structure Desc where
  addr : Nat := 0
  len : Nat := 4
  op : Nat := 0
  irq : Bool := false
  fence : Bool := false
  param : Nat := 0
  tag : Nat := 0
  deriving DecidableEq, Repr, Inhabited

/-- A ring (R461, R463). -/
structure Ring where
  /-- HST_RING_CTRL.RUN | 1 | R468 19 | 0 -/
  run : Bool := false
  /-- HST_RING_CTRL.HOLDOFF in us | 10 | R469 19 | 0 -/
  holdoff : Nat := 0
  /-- HST_RING_BASE | 64 | R461 19 | 0 -/
  base : Nat := 0
  /-- HST_RING_SIZE | 13 | R461 19 | 16 -/
  size : Nat := 16
  /-- HST_RING_STATUS.STATE: 0 STOPPED, 1 RUNNING, 2 STOPPING, 3 ERROR | 2 | R468 19 | 0 -/
  state : Nat := 0
  /-- HST_RING_STATUS.ERR | 4 | R463 19 | 0 -/
  err : Nat := 0
  /-- HST_RING_IDX.PROD | 16 | R461 19 | 0 -/
  prod : Nat := 0
  /-- HST_RING_IDX.CONS | 16 | R461 19 | 0 -/
  cons : Nat := 0
  /-- HST_RING_WB | 64 | R466 19 | 0 -/
  wb : Nat := 0
  /-- HST_RING_DROPPED | 32 | R464 19 | 0 -/
  dropped : Nat := 0
  /-- doorbells not yet consumed: order of arrival over all rings, PROD | list | R467 19 | none -/
  posts : List (Nat × Nat) := []
  /-- descriptor in execution | 256 | R465 19 | none -/
  cur : Option Desc := none
  /-- status code the descriptor in execution ends with, and its DONE_LEN, once its transfer is over | 36 | R463 19 | none -/
  ending : Option (Nat × Nat) := none
  /-- bytes an out transfer carries to the host, written at its completion | bytes | R466 19 | empty -/
  outData : Bytes := []
  /-- streaming buffer: instant its first entry was written, ns | 64 | R464 19 | none -/
  firstAt : Option Nat := none
  /-- instant of the last message of the ring, ns | 64 | R469 19 | none -/
  msgAt : Option Nat := none
  /-- completions coalesced in the hold-off | 1 | R469 19 | 0 -/
  msgWait : Bool := false
  /-- instant of the last HOST_DROPPED record and drops since, ns and count | 96 | R471 19 | none -/
  dropEvAt : Option Nat := none
  dropNew : Nat := 0
  deriving DecidableEq, Repr, Inhabited

/-- The host port of a lane (HST_, ch. 19). -/
structure Hst where
  /-- rings 0 to 7 | 8 rings | R464 19 | STOPPED -/
  rings : List Ring := List.replicate 8 {}
  /-- HST_STATUS.LINK_UP | 1 | R459 19 | 0 -/
  linkUp : Bool := false
  /-- HST_STATUS.SPEED | 2 | R457 19 | 0 -/
  speed : Nat := 0
  /-- HST_STATUS.WIDTH | 2 | R457 19 | 0 -/
  width : Nat := 0
  /-- HST_STATUS.BME | 1 | R468 19 | 0 -/
  bme : Bool := false
  /-- HST_STATUS.MSIX | 1 | R469 19 | 0 -/
  msix : Bool := false
  /-- MSI-X function mask in configuration space | 1 | R457 19 | 0 -/
  fmask : Bool := false
  /-- MSI-X vectors masked | 32 | R458 19 | all -/
  vmask : Word := 0xFFFFFFFF
  /-- MSI-X pending-bit array | 32 | R458 19 | 0 -/
  vpend : Word := 0
  /-- HST_IRQ_STATUS | 3 | R460 19 | 0 -/
  irq : Word := 0
  /-- HST_IRQ_ENABLE | 3 | R460 19 | 1 -/
  irqEn : Word := 1
  /-- HST_TELEM_MS | 10 | R464 19 | 100 -/
  telemMs : Nat := 100
  /-- doorbells received so far, all rings | - | R467 19 | 0 -/
  bellSeq : Nat := 0
  /-- instant of the last telemetry tick, ns | 64 | R464 19 | 0 -/
  telemAt : Nat := 0
  /-- telemetry frame count | 32 | R464 19 | 0 -/
  telemCount : Nat := 0
  /-- an INSTANCE_READ being captured: tasks whose part comes at their publish, and the area so far | record | R464 19 | none -/
  instCap : Option (List Nat × Bytes) := none
  /-- warm-start set of the WARM_IN in execution: its template, and the set it becomes at completion | set | R467 19 | none -/
  warmPend : Option (Nat × WarmSet) := none
  deriving DecidableEq, Repr, Inhabited

/-- The select registers and latches of one view of a lane's register map (R501, R504). -/
structure Sel where
  /-- FLD_DIE_SEL | 2 | R504 21 | 0 -/
  fldDie : Nat := 0
  /-- FLD_CH_SEL | 6 | R504 21 | 0 -/
  fldCh : Nat := 0
  /-- FLD_VS_SEL | 3 | R504 21 | 0 -/
  fldVs : Nat := 0
  /-- SLV_TPL_SEL | 7 | R504 21 | 1 -/
  slvTpl : Nat := 1
  /-- SLV_DIE_SEL | 1 | R504 21 | 0 -/
  slvDie : Nat := 0
  /-- PRG_TASK_SEL | 2 | R504 21 | 0 -/
  prgTask : Nat := 0
  /-- PRG_FORCE_INDEX | 10 | R504 21 | 0 -/
  prgForce : Nat := 0
  /-- MOT_AXIS_SEL | 8 | R504 21 | 0 -/
  motAxis : Nat := 0
  /-- LP_SLOT_SEL | 8 | R504 21 | 0 -/
  lpSlot : Nat := 0
  /-- MTR_PT_SEL | 32 | R504 21 | 0 -/
  mtrPt : Word := 0
  /-- MTR_REG_SEL | 4 | R504 21 | 0 -/
  mtrReg : Nat := 0
  /-- MTR_PH_SEL | 2 | R504 21 | 0 -/
  mtrPh : Nat := 0
  /-- CAN_PORT_SEL | 4 | R504 21 | 0 -/
  canPort : Nat := 0
  /-- CAN_FILT_SEL of the single-lane parts | 5 | R339 12 | 0 -/
  canFilt : Nat := 0
  /-- CAN_FILT_BUF_SEL of the single-lane parts | 3 | R339 12 | 0 -/
  canFiltBuf : Nat := 0
  /-- CAN_REC_SEL | 12 | R504 21 | 0 -/
  canRec : Nat := 0
  /-- PTP_DOM_SEL | 1 | R504 21 | 0 -/
  ptpDom : Nat := 0
  /-- PTP_PORT_SEL | 1 | R504 21 | 0 -/
  ptpPort : Nat := 0
  /-- EVR_RD_CTRL | 32 | R504 21 | 0 -/
  evrCtrl : Word := 0
  /-- EVR_RD_POS | 32 | R504 21 | 0 -/
  evrPos : Word := 0
  /-- NVM_WIN_ADDR | 26 | R504 21 | 0 -/
  nvmWin : Nat := 0
  /-- KEY_SLOT_SEL | 6 | R504 21 | 0 -/
  keySlot : Nat := 0
  /-- HST_RING_SEL | 3 | R504 21 | 0 -/
  hstRing : Nat := 0
  /-- PWR_DOM_REQ: DIE, DOMAIN, STATE | 18 | R504 21 | 0 -/
  pwrDom : Word := 0
  /-- latched words by register offset (R13, R249) | 32 each | R504 21 | 0 -/
  latch : List (Nat × Word) := []
  deriving DecidableEq, Repr, Inhabited

/-- The lane's half of the metering block (MTR_ 0x100 to 0x134). -/
structure Mtr where
  /-- MTR_SEAL.COUNT | 31 | R264 09 | from MRAM, 0 on a new module -/
  sealCount : Nat := 0
  /-- MTR_SEAL.UNSEALED | 1 | R265 09 | from MRAM, 0 on a new module -/
  unsealed : Bool := false
  /-- MTR_MLOG_FREE.LOST | 16 | R266 09 | from MRAM -/
  mlogLost : Nat := 0
  /-- MTR_SAVE_SEQ | 32 | R258 09 | from MRAM -/
  saveSeq : Nat := 0
  /-- instant of the latest completed save, ns | 64 | R258 09 | 0 (MTR_SAVE_AGE reads 0) -/
  saveAt : Option Nat := none
  /-- MTR_CMD_STATUS.STATE | 2 | R267 09 | 0 IDLE -/
  cmdState : Nat := 0
  /-- MTR_CMD_STATUS.REASON | 4 | R267 09 | 0 -/
  cmdReason : Nat := 0
  /-- MTR_NONCE, 16 bytes | 128 | R267 09 | 0 -/
  nonce : Bytes := []
  /-- MTR_IRQ_STATUS | 6 | R269 09 | 0 -/
  irq : Word := 0
  /-- MTR_IRQ_ENABLE | 6 | R269 09 | 0 -/
  irqEn : Word := 0
  /-- save under way: KIND, the dies' records in arrival order, the instant of its latch | records | R259 09 | none -/
  save : Option (Nat × List (Nat × Bytes) × Nat) := none
  /-- nonce of the READOUT under way | 128 | R267 09 | none -/
  readoutNonce : Bytes := []
  /-- instant of the READOUT command, ns | 64 | R267 09 | none -/
  readoutAt : Option Nat := none
  /-- a read-out record waiting for a ring 3 descriptor | bytes | R464 19 | none -/
  readoutRec : Option Bytes := none
  /-- a TAKEOVER save is due once one frame from every quorum die has arrived: dies still to be heard | 4 | R263 09 | none -/
  takeoverWait : Option (List Nat) := none
  deriving DecidableEq, Repr, Inhabited


end Sys2Proof.Machine
end

