-- ==== Sys2Proof/Machine/PartsDie.lean ====
section
/-! DEFINITION. The parts of the field dies and solver dies, as chapters 04, 06 to 09 and 12 give them. Each field's docstring says: name, width, rule and chapter, reset value. -/

namespace Sys2Proof.Machine

/-- A solver die (R17, R119 to R122). -/
structure SolverDie where
  /-- die fitted and powered | 1 | R1 00 | off -/
  powered : Bool := false
  /-- state the die is in apart from reachability | 4 | R121 04 | ASLEEP or ABSENT -/
  state : SdState := .asleep
  /-- latched claim | 32 | R20 01 | 0 -/
  claim : Nat := 0
  /-- active configuration bank | image | R60 02 | none -/
  bank : Option Conf := none
  /-- image counter of the active bank | 64 | R100 04 | 0 -/
  bankCounter : Nat := 0
  /-- shadow configuration bank | image | R60 02 | none -/
  shadow : Option Conf := none
  /-- image counter of the shadow bank | 64 | R60 02 | 0 -/
  shadowCounter : Nat := 0
  /-- APPLY received: t_A in ns | 64 | R60 02 | none -/
  applyAt : Option Nat := none
  /-- CONFIRM received | 1 | R60 02 | 0 -/
  confirmed : Bool := false
  /-- queued jobs, in no order | jobs | R101 04 | empty -/
  queue : List SlvJob := []
  /-- running job | job | R101 04 | none -/
  run : Option SlvRun := none
  /-- result area: last committed result per requested template | results | R112 04 | empty -/
  results : List (Nat × SlvResult) := []
  /-- requested templates whose result is lost as a warm-start set by a retention failure | list | R448 18 | none -/
  warmLost : List Nat := []
  /-- SLV_SPARE.LOGICAL | 5 | R120 04 | none (0x1F) -/
  spare : Option Nat := none
  /-- SLV_ENGINE_RETIRED, physical engines | 17 | R120 04 | 0 -/
  retired : List Nat := []
  /-- SLV_ENGINE_SUSPECT, physical engines | 17 | R111 04 | 0 -/
  suspect : List Nat := []
  /-- engines the full self-test has still to test | 17 | R119 04 | none -/
  testing : List Nat := []
  /-- SLV_SELFTEST.REQUEST | 1 | R119 04 | 0 -/
  selftestReq : Bool := false
  /-- collector queue: physical engine, its problem, what its verification finds | 17 entries | R115 04 | empty -/
  collector : List (Nat × Nat × Nat) := []
  /-- completions engines hold while their entry is still queued: engine, problem, what its verification finds | 17 entries | R115 04 | none -/
  heldDone : List (Nat × Nat × Nat) := []
  /-- rail VSLV with the SLV clock: SLV_CLOCK.MHZ and the rail's mV | 11 + 10 | R449 18 | 0 -/
  rail : Rail := {}
  /-- SLV_VERIFY_FAILS | 32 | R111 04 | 0 -/
  verifyFails : Nat := 0
  /-- SLV_REJECTED | 32 | R100 04 | 0 -/
  rejected : Nat := 0
  /-- register writes rejected for their claim; no register shows it | 32 | R20 01 | 0 -/
  writeRejected : Nat := 0
  /-- SLV_COLLECT_MAX | 5 | R115 04 | 0 -/
  collectMax : Nat := 0
  /-- domains SEQ 0, ENG0-ENG3 1-4, BANK0-BANK15 5-20, LINK 21 | 22 domains | R444 18 | OFF -/
  doms : List Dom := List.replicate 22 {}
  /-- governor parking requested for the die | 1 | R114 04 | 0 -/
  parkReq : Bool := false
  /-- a reference failure has put the die out of service | 1 | R452 18 | 0 -/
  clockFailed : Bool := false
  /-- inter-die command key K_HB, derived at every start; no heartbeat is sent to the die (R275) | 256 | R424, R437 17 | none before a start -/
  kHb : Bytes := []
  /-- inter-die token key K_TOK, derived at every start | 256 | R424 17 | none before a start -/
  kTok : Bytes := []
  deriving DecidableEq, Repr, Inhabited


/-- The value an output carries: the SAFE_STATE codes of R40 without NONE, plus both bridges as a step generator
drives them. -/
inductive OutVal where
  | off | short | high | low | fwd | rev | step
  deriving DecidableEq, Repr, Inhabited

/-- One output of a channel (R182). -/
structure Output where
  /-- last command applied, in SAFE_STATE codes | 8 | R183 06 | OFF -/
  cmd : OutVal := .off
  /-- safe state in force | 1 | R184 06 | 0 -/
  safe : Bool := false
  /-- the safe state came from a lane command (LOADED, SAFE_HOLD) | 1 | R184 06 | 0 -/
  safeByLane : Bool := false
  /-- cause bits of the fault on this output | 4 | R180 06 | 0 -/
  fault : Nat := 0
  /-- END_OUTn | 1 | R179 06 | 0 -/
  endOut : Bool := false
  /-- the command value END_OUTn persists under | 8 | R179 06 | OFF -/
  endCmd : OutVal := .off
  /-- value the switches carry now | 8 | R182 06 | OFF -/
  now : OutVal := .off
  /-- direction change under way: the direction that starts at its end | 8 | R179 06 | none -/
  turning : Option OutVal := none
  /-- a safe drive under way or ended: instant it began (the drive itself), ns | 64 | R185 06 | none -/
  safeDriveAt : Option Nat := none
  /-- the safe drive has ended and the output stays OFF | 1 | R185 06 | 0 -/
  safeDriveDone : Bool := false
  /-- instant the driven value last became FWD or REV ended, ns | 64 | R179 06 | 0 -/
  lastDriveEnd : Nat := 0
  /-- last drive direction | 8 | R179 06 | OFF -/
  lastDir : OutVal := .off
  /-- instant of the last OUTPUT_VALUE_INVALID, ns | 64 | R511 05 | none -/
  invalidAt : Option Nat := none
  deriving DecidableEq, Repr, Inhabited

/-- A field channel (R164 to R181). -/
structure Channel where
  /-- outputs OUT0 to OUT3 | 4 outputs | R182 06 | open -/
  outs : List Output := [{}, {}, {}, {}]
  /-- FLD_CH_FAULT cause bits | 4 | R180 06 | 0 -/
  fault : Nat := 0
  /-- FLD_CH_IN1, newest frame value, Q16.16 | 32 | R167 06 | 0 -/
  in1 : Int := 0
  /-- FLD_CH_IN2, newest frame value, Q16.16 | 32 | R167 06 | 0 -/
  in2 : Int := 0
  /-- IN1_OVR | 1 | R170 06 | 0 -/
  in1Ovr : Bool := false
  /-- IN2_OVR | 1 | R170 06 | 0 -/
  in2Ovr : Bool := false
  /-- IN1_OPEN | 1 | R170 06 | 0 -/
  in1Open : Bool := false
  /-- IN2_OPEN | 1 | R170 06 | 0 -/
  in2Open : Bool := false
  /-- SUPPLY_LIMIT | 1 | R172 06 | 0 -/
  supplyLimit : Bool := false
  /-- ENC_ERR since the last frame | 1 | R174 06 | 0 -/
  encErr : Bool := false
  /-- ENC_ERR state last reported as an event | 1 | R170 06 | 0 -/
  encErrRep : Bool := false
  /-- FLD_CH_ENC, signed count | 32 | R174 06 | 0 -/
  enc : BitVec 32 := 0
  /-- filtered level of ENC A | 1 | R174 06 | 1 (pull-up) -/
  encA : Bool := true
  /-- filtered level of ENC B | 1 | R174 06 | 1 (pull-up) -/
  encB : Bool := true
  /-- newest precision sample of IN1, 10^-9 of its unit | 40 | R167 06 | 0 -/
  raw1 : Int := 0
  /-- newest precision sample of IN2, 10^-9 of its unit | 40 | R167 06 | 0 -/
  raw2 : Int := 0
  /-- metering integrator of IN1, V s in FP64 | 64 | R241 09 | 0 -/
  int1 : F64 := 0
  /-- metering integrator of IN2, V s in FP64 | 64 | R241 09 | 0 -/
  int2 : F64 := 0
  /-- newest precision samples of IN1 of a METER_CURRENT channel, with whether each lay beyond its limit | 160 | R169 06 | none -/
  win1 : List (F64 × Bool) := []
  /-- newest precision samples of IN2 of a METER_CURRENT channel, with whether each lay beyond its limit | 160 | R169 06 | none -/
  win2 : List (F64 × Bool) := []
  /-- FLD_CH_CURRENT.A, mA rms | 16 | R176 06 | 0 -/
  curA : Nat := 0
  /-- FLD_CH_CURRENT.B, mA rms | 16 | R176 06 | 0 -/
  curB : Nat := 0
  deriving DecidableEq, Repr, Inhabited

/-- A voltage-sense input (R175). -/
structure VsInput where
  /-- FLD_VS_RMS, Q16.16 | 32 | R175 06 | 0 -/
  rms : Int := 0
  /-- FLD_VS_STATUS.OVR | 1 | R175 06 | 0 -/
  ovr : Bool := false
  /-- newest precision sample, 10^-9 V | 40 | R175 06 | 0 -/
  raw : Int := 0
  /-- newest precision samples, with whether each lay beyond the limit | 160 | R175 06 | none -/
  win : List (F64 × Bool) := []
  deriving DecidableEq, Repr, Inhabited

/-- A bridge group BRGg (R176). -/
structure BrgGroup where
  /-- FLD_BRG_STATUS.WARN | 1 | R180 06 | 0 -/
  warn : Bool := false
  /-- FLD_BRG_STATUS.SHUTDOWN | 1 | R180 06 | 0 -/
  shutdown : Bool := false
  /-- sensor temperature in 0.1 degree C | 16 | R181 06 | 0 -/
  temp : Int := 0
  deriving DecidableEq, Repr, Inhabited

/-- MOT_STATUS.STATE of an axis (R206). -/
inductive AxisState where
  | notAxis | standstill | waiting | moving | holding | fault | safe
  deriving DecidableEq, Repr, Inhabited

/-- A queued move (R199). Speeds are microsteps/s. -/
structure Move where
  /-- end position -/
  target : Int := 0
  speed : Nat := 0
  /-- clipped at a limit: it ends in FAULT with LIMIT (R204) -/
  clipped : Bool := false
  /-- joint speed at the end of the move, in 2^-32 microsteps/s (R201) -/
  vEnd : Nat := 0
  deriving DecidableEq, Repr, Inhabited

/-- The profile of the move under way (R200): a trapezoid or triangle from an origin. Distances are microsteps and
speeds microsteps/s, both scaled by 2^32; the origin instant is in ns. -/
structure Plan where
  t0 : Nat := 0
  p0 : Int := 0
  /-- direction: true is negative -/
  neg : Bool := false
  d : Nat := 0
  vs : Nat := 0
  vc : Nat := 0
  ve : Nat := 0
  /-- acceleration a, and the rate of the first ramp where the start speed lies above the cruise speed -/
  acc : Nat := 1
  first : Nat := 1
  dec : Nat := 1
  deriving DecidableEq, Repr, Inhabited

/-- A valve or damper axis (ch. 07). -/
structure Axis where
  /-- MOT_STATUS.STATE | 3 | R206 07 | NOT_AXIS -/
  state : AxisState := .notAxis
  /-- MOT_STATUS.DIR | 1 | R196 07 | 0 -/
  dirNeg : Bool := false
  /-- MOT_STATUS.ACC_PENDING | 1 | R203 07 | 0 -/
  accPending : Bool := false
  /-- MOT_STATUS.REFERENCED | 1 | R205 07 | 0 -/
  referenced : Bool := false
  /-- MOT_STATUS.ACK_SEQ | 8 | R196 07 | 0 -/
  ackSeq : Nat := 0
  /-- the first record sets ACK_SEQ and is not acted on | 1 | R197 07 | 0 -/
  syncSeq : Bool := false
  /-- MOT_FAULT.STALL | 1 | R207 07 | 0 -/
  stall : Bool := false
  /-- MOT_FAULT.LIMIT | 1 | R204 07 | 0 -/
  limit : Bool := false
  /-- MOT_POS_CMD, commanded position | 32 | R205 07 | 0 -/
  pCmd : Int := 0
  /-- P_REF | 32 | R205 07 | 0 -/
  pRef : Int := 0
  /-- C_REF | 32 | R205 07 | present count -/
  cRef : BitVec 32 := 0
  /-- MOT_DEVIATION | 32 | R206 07 | 0 -/
  dev : Int := 0
  /-- consecutive updates beyond WINDOW | 8 | R206 07 | 0 -/
  beyond : Nat := 0
  /-- MOT_SPEED, signed, scaled by 2^32 | 32 | R200 07 | 0 -/
  speed : Int := 0
  /-- MOT_ACC in force | 18 | R203 07 | from the active image -/
  acc : Nat := 0
  /-- MOT_DEC in force | 18 | R203 07 | from the active image -/
  dec : Nat := 0
  /-- pending ACC and DEC | 2 x 18 | R203 07 | none -/
  pending : Option (Nat × Nat) := none
  /-- item in force | item | R203 07 | from the active image -/
  item : MotionCfg := {}
  /-- a changed item waiting to come into force | item | R203 07 | none -/
  nextItem : Option MotionCfg := none
  /-- queued moves, executing one first | 8 moves | R199 07 | empty -/
  queue : List Move := []
  /-- plan of the executing move | plan | R200 07 | none -/
  plan : Option Plan := none
  /-- instant of the stop that began HOLDING, ns | 64 | R210 07 | 0 -/
  holdAt : Nat := 0
  /-- request stamp while WAITING, time-base ns | 64 | R212 07 | 0 -/
  reqAt : Nat := 0
  /-- an admission grant received and not yet taken | 1 | R213 07 | 0 -/
  granted : Bool := false
  /-- MOT_REJECT.COUNT | 16 | R198 07 | 0 -/
  rejectCount : Nat := 0
  /-- MOT_REJECT.REASON | 3 | R198 07 | 0 -/
  rejectReason : Nat := 0
  /-- MOT_STALL_COUNT | 32 | R207 07 | 0 -/
  stallCount : Nat := 0
  /-- a command record that applies at the next profile update | 32 bytes | R192 07 | none -/
  cmd : Option Bytes := none
  /-- instant of the axis's last profile update, ns | 64 | R192 07 | 0 -/
  updAt : Nat := 0
  deriving DecidableEq, Repr, Inhabited

/-- LP_STATUS.MODE (R223). -/
inductive LoopMode where
  | unused | disabled | auto | fallback
  deriving DecidableEq, Repr, Inhabited

/-- A loop slot (ch. 08). Values are Q16.16 as signed integers. -/
structure LoopSlot where
  /-- LP_STATUS.MODE | 2 | R223 08 | UNUSED -/
  mode : LoopMode := .unused
  /-- LP_STATUS.STATE | 1 | R223 08 | from the active image (INIT_ON) -/
  on : Bool := false
  /-- LP_STATUS.MIN_HOLD | 1 | R224 08 | 0 -/
  minHold : Bool := false
  /-- LP_STATUS.INPUT_BAD | 1 | R228 08 | 0 -/
  inputBad : Bool := false
  /-- LP_FLAGS.PLAUS | 1 | R227 08 | 0 -/
  plaus : Bool := false
  /-- LP_STATUS.COUNT, consecutive samples beyond R_MAX | 8 | R227 08 | 0 -/
  count : Nat := 0
  /-- LP_STATUS.ACK_SEQ | 8 | R230 08 | 0 -/
  ackSeq : Nat := 0
  /-- the first record sets ACK_SEQ only | 1 | R197 07 | 0 -/
  syncSeq : Bool := false
  /-- LP_FLAGS.SAT_FILTER | 1 | R222 08 | 0 -/
  satFilter : Bool := false
  /-- LP_FLAGS.SAT_ERROR | 1 | R222 08 | 0 -/
  satError : Bool := false
  /-- LP_FLAGS.SAT_MODEL | 1 | R222 08 | 0 -/
  satModel : Bool := false
  /-- LP_Y | 32 | R223 08 | 0 -/
  y : Int := 0
  /-- LP_YHAT | 32 | R226 08 | 0 -/
  yhat : Int := 0
  /-- LP_RESIDUAL | 32 | R226 08 | 0 -/
  r : Int := 0
  /-- LP_SP | 32 | R230 08 | from the active image -/
  sp : Int := 0
  /-- LP_E_ON | 32 | R230 08 | from the active image -/
  eOn : Int := 0
  /-- LP_E_OFF | 32 | R230 08 | from the active image -/
  eOff : Int := 0
  /-- values of a SET that act at the next sample | 3 x 32 | R230 08 | none -/
  setNext : Option (Int × Int × Int) := none
  /-- no sample since configuration | 1 | R223 08 | 1 -/
  first : Bool := true
  /-- instant the driven value last became ON_CODE, ns; none counts as elapsed | 64 | R224 08 | none -/
  onSince : Option Nat := none
  /-- instant the driven value last left ON_CODE, ns; none counts as elapsed | 64 | R224 08 | none -/
  offSince : Option Nat := none
  /-- FB_SAFE drives the output's SAFE_STATE | 1 | R227 08 | 0 -/
  fbSafe : Bool := false
  /-- encoder count at the last sample, for IN_SRC 3 | 32 | R219 08 | 0 -/
  encLast : BitVec 32 := 0
  /-- LP_SWITCHES | 32 | R223 08 | 0 -/
  switches : Nat := 0
  /-- LP_REJECT | 16 | R230 08 | 0 -/
  rejects : Nat := 0
  /-- a command record that applies at the next sample | 16 bytes | R229 08 | none -/
  cmd : Option Bytes := none
  /-- instant of the last sample, ns | 64 | R219 08 | 0 -/
  sampleAt : Nat := 0
  deriving DecidableEq, Repr, Inhabited


/-- A metering register: integer part, 32-bit hidden fraction and rollover count (R246). -/
structure MReg where
  value : Nat := 0
  frac : Nat := 0
  roll : Nat := 0
  deriving DecidableEq, Repr, Inhabited

/-- A pulse output's state (R254, R255). -/
structure PulseOut where
  /-- residue in 2^-32 register units | 96 | R254 09 | 0 -/
  residue : Nat := 0
  /-- QTY the residue belongs to | 8 | R256 09 | 0 -/
  qty : Nat := 0
  /-- energy of the last block being fed, 2^-32 register units | 96 | R254 09 | 0 -/
  feed : Nat := 0
  /-- start instant of that feed, ns | 64 | R254 09 | 0 -/
  feedAt : Nat := 0
  /-- part of the feed already credited to the residue | 96 | R254 09 | 0 -/
  fed : Nat := 0
  /-- start instant of the last pulse, ns | 64 | R255 09 | none -/
  lastAt : Option Nat := none
  /-- a pulse is being driven | 1 | R254 09 | 0 -/
  active : Bool := false
  /-- PULSE_BACKLOG of this output | 1 | R255 09 | 0 -/
  backlog : Bool := false
  /-- the end of the last pulse's 50 ms spacing is still to be judged | 1 | R255 09 | 0 -/
  spacing : Bool := false
  /-- MTR_PULSE count, wrapping | 16 | R254 09 | 0 -/
  count : Nat := 0
  deriving DecidableEq, Repr, Inhabited

/-- Demand state of a point (R250): increments in 2^-32 mWh, times in ns. -/
structure Demand where
  impAcc : Nat := 0
  expAcc : Nat := 0
  durNs : Nat := 0
  /-- MTR_DEM_IMP | 32 | R250 09 | 0 -/
  imp : Nat := 0
  /-- MTR_DEM_EXP | 32 | R250 09 | 0 -/
  exp : Nat := 0
  /-- MTR_DEM_MAX | 32 | R250 09 | 0 until restored -/
  max : Nat := 0
  /-- MTR_DEM_MAX_TIME | 64 | R250 09 | 0 until restored -/
  maxTime : Nat := 0
  /-- MTR_PT_STATUS.IRREGULAR | 1 | R250 09 | 0 -/
  irregular : Bool := false
  /-- an outage crossed this interval | 1 | R261 09 | 0 -/
  crossed : Bool := false
  /-- an MD_RESET waits for the interval that the block in progress closes | 1 | R268 09 | 0 -/
  mdReset : Bool := false
  deriving DecidableEq, Repr, Inhabited

/-- The signal chain of one input of an electrical point, newest values first, in FP64 (R240 to R242). -/
structure InChain where
  /-- integrator outputs the correction of R241 still needs -/
  y : List F64 := []
  /-- samples times their gain that the interpolator still needs -/
  g : List F64 := []
  /-- corrected primary samples -/
  z : List F64 := []
  deriving DecidableEq, Repr, Inhabited

/-- Sums over samples of one phase, in FP64: v i, its quadrature, v squared and i squared (R242, R243). -/
structure PhSums where
  p : F64 := 0
  q : F64 := 0
  v2 : F64 := 0
  i2 : F64 := 0
  deriving DecidableEq, Repr, Inhabited

/-- An electrical metering point (R236 to R248). -/
structure MeterPoint where
  /-- registers A_IMP to S_EXP | 8 x 112 | R246 09 | 0 -/
  regs : List MReg := [{}, {}, {}, {}, {}, {}, {}, {}]
  /-- MTR_PT_STATUS.SETTLING | 1 | R241 09 | 0 -/
  settling : Bool := false
  /-- MTR_PT_STATUS.OVR | 1 | R240 09 | 0 -/
  ovr : Bool := false
  /-- MTR_P, signed W | 32 | R243 09 | 0 -/
  p : Int := 0
  /-- MTR_Q, signed var | 32 | R243 09 | 0 -/
  q : Int := 0
  /-- MTR_S, VA | 32 | R243 09 | 0 -/
  s : Nat := 0
  /-- MTR_FREQ, 0.001 Hz | 16 | R243 09 | 0 -/
  freq : Nat := 0
  /-- MTR_PH_VRMS, mV | 3 x 32 | R243 09 | 0 -/
  vrms : List Nat := [0, 0, 0, 0]
  /-- MTR_PH_IRMS, mA | 4 x 32 | R243 09 | 0 -/
  irms : List Nat := [0, 0, 0, 0]
  /-- signal chains of currents 1, 2, 3, N and voltages 1, 2, 3 | 7 chains | R240 09 | empty -/
  chain : List InChain := List.replicate 7 {}
  /-- sums of the block in progress by phase | 3 x 4 x 64 | R243 09 | 0 -/
  sums : List PhSums := [{}, {}, {}]
  /-- sums of its samples that count as energy | 3 x 4 x 64 | R241 09 | 0 -/
  counted : List PhSums := [{}, {}, {}]
  /-- sum of the neutral current squared | 64 | R243 09 | 0 -/
  n2 : F64 := 0
  /-- samples of the block in progress | 11 | R243 09 | 0 -/
  nAll : Nat := 0
  /-- samples of it that count as energy | 11 | R241 09 | 0 -/
  nCounted : Nat := 0
  /-- a sample of the block in progress reached its limit | 1 | R240 09 | 0 -/
  clipped : Bool := false
  /-- zero crossings of voltage 1 in the block in progress | list | R243 09 | none -/
  crossings : List (Nat × F64 × F64) := []
  /-- instant the point was configured, from which its first block counts, ns | 64 | R243 09 | 0 -/
  startAt : Nat := 0
  /-- demand state | record | R250 09 | 0 -/
  demand : Demand := {}
  /-- pulse outputs PULSE0, PULSE1 | 2 | R254 09 | idle -/
  pulses : List PulseOut := [{}, {}]
  deriving DecidableEq, Repr, Inhabited

/-- A thermal metering point (R239, R251 to R253). -/
structure HeatPoint where
  /-- registers E_FWD_POS to V_REV | 6 x 112 | R246 09 | 0 -/
  regs : List MReg := [{}, {}, {}, {}, {}, {}]
  /-- MTR_PT_STATUS.TEMP_RANGE | 1 | R253 09 | 0 -/
  tempRange : Bool := false
  /-- MTR_PT_STATUS.REVERSE | 1 | R252 09 | 0 -/
  reverse : Bool := false
  /-- T_S of the last block, 10^-6 degree C | 64 | R251 09 | 0 -/
  tS : Int := 0
  /-- T_R of the last block, 10^-6 degree C | 64 | R251 09 | 0 -/
  tR : Int := 0
  /-- sigma rho (h_S - h_R) of the last block, J per cubic metre in FP64; 0 inside the cut-off | 64 | R251 09 | 0 -/
  eUnit : F64 := 0
  /-- sum of the supply temperature samples of the block in progress, Q16.16 | 64 | R251 09 | 0 -/
  sumS : Int := 0
  /-- sum of the return temperature samples of the block in progress, Q16.16 | 64 | R251 09 | 0 -/
  sumR : Int := 0
  /-- last valid supply temperature sample, Q16.16 | 32 | R170 06 | 0 -/
  lastS : Int := 0
  /-- last valid return temperature sample, Q16.16 | 32 | R170 06 | 0 -/
  lastR : Int := 0
  /-- samples of the block in progress | 11 | R251 09 | 0 -/
  nAll : Nat := 0
  /-- flow and energy of the pulses of the last second: instant ns, signed microlitres, signed 2^-32 J | list | R251 09 | none -/
  recent : List (Nat × Int × Int) := []
  /-- energy and volume added since the last block end, 2^-32 register units, per register | 6 x 96 | R254 09 | 0 -/
  blockInc : List Nat := [0, 0, 0, 0, 0, 0]
  /-- a block with temperatures has been completed | 1 | R251 09 | 0 -/
  haveTemps : Bool := false
  /-- pulse outputs PULSE0, PULSE1 | 2 | R254 09 | idle -/
  pulses : List PulseOut := [{}, {}]
  deriving DecidableEq, Repr, Inhabited


/-- A CAN FD port (ch. 12). -/
structure CanPort where
  /-- CAN_STATUS.STATE: 0 ERROR_ACTIVE, 1 ERROR_PASSIVE, 2 BUS_OFF, 3 RECOVERING | 2 | R324 12 | 0 -/
  state : Nat := 0
  /-- CAN_STATUS.RESTRICTED | 1 | R325 12 | 0 -/
  restricted : Bool := false
  /-- CAN_STATUS.TDC_SAT | 1 | R322 12 | 0 -/
  tdcSat : Bool := false
  /-- CAN_STATUS.LAST_ERR | 3 | R327 12 | 0 -/
  lastErr : Nat := 0
  /-- CAN_STATUS.REC | 8 | R324 12 | 0 -/
  recCnt : Nat := 0
  /-- CAN_STATUS.TEC | 9 | R324 12 | 0 -/
  tecCnt : Nat := 0
  /-- CAN_STATUS.TDC | 7 | R322 12 | 0 -/
  tdc : Nat := 0
  /-- CAN_RX_COUNT | 32 | R320 12 | 0 -/
  rxCount : Nat := 0
  /-- CAN_TX_COUNT | 32 | R320 12 | 0 -/
  txCount : Nat := 0
  /-- CAN_RX_LOST.FIFO | 16 | R328 12 | 0 -/
  lostFifo : Nat := 0
  /-- CAN_RX_LOST.RING, kept beside the port | 16 | R328 12 | 0 -/
  lostRing : Nat := 0
  /-- CAN_TX_DROPPED | 32 | R324 12 | 0 -/
  txDropped : Nat := 0
  /-- CAN_STRANGERS | 32 | R329 12 | 0 -/
  strangers : Nat := 0
  /-- CAN_BUSOFF_COUNT | 16 | R324 12 | 0 -/
  busOffs : Nat := 0
  /-- transmit queue | 32 frames | R326 12 | empty -/
  txq : List TxFrame := []
  /-- order number of the next frame queued | - | R326 12 | 0 -/
  txOrder : Nat := 0
  /-- capture FIFO, oldest first | 256 entries | R327 12 | empty -/
  fifo : List CapEntry := []
  /-- CAN_TX_ID | 29 | R326 12 | 0 -/
  rawId : Word := 0
  /-- CAN_TX_CTRL | 32 | R326 12 | 0 -/
  rawCtrl : Word := 0
  /-- CAN_TX_DATA, 16 words | 512 | R326 12 | 0 -/
  rawData : List Word := List.replicate 16 0
  /-- bit timing in force, when a changed item waits for the bus to be idle | item | R61 02 | none waiting -/
  oldTiming : Option CanPortCfg := none
  /-- instants of the last CAN_TX_DROPPED and CAPTURE_LOST events, ns | 2 x 64 | R326 12 | none -/
  dropEvAt : Option Nat := none
  lostEvAt : Option Nat := none
  /-- acceptance filters of the single-lane parts | 32 | R339 12 | 0 -/
  filters : List CanFilter := List.replicate 32 {}
  deriving DecidableEq, Repr, Inhabited


/-- A publish's commands for one field die (R31, R183, R187). -/
structure OutCmds where
  claim : Nat := 0
  counter : Nat := 0
  /-- apply tick, ns of the time base -/
  tick : Nat := 0
  /-- channel, output, code of R40 -/
  outs : List (Nat × Nat × Nat) := []
  axes : List (Nat × Bytes) := []
  loops : List (Nat × Bytes) := []
  /-- local port and the frames of one record, queued together -/
  frames : List (Nat × List TxFrame) := []
  /-- the limits of COMMISSION are in force (R42) -/
  comm : Bool := false
  /-- the lane commands safe states (R184) -/
  safe : Bool := false
  /-- number of the lane's latest start of its tasks (R197) -/
  start : Nat := 0
  deriving DecidableEq, Repr, Inhabited

/-- A sensor supply of a field connector (R171, R172). -/
structure SensorSupply where
  /-- FLD_SENSOR.ON | 1 | R171 06 | 0 -/
  on : Bool := false
  /-- FLD_SENSOR.LIMIT | 1 | R172 06 | 0 -/
  limit : Bool := false
  /-- FLD_SENSOR_MA | 16 | R171 06 | 0 -/
  ma : Nat := 0
  /-- current limit held by governor step 1, mA | 16 | R440 18 | none -/
  held : Option Nat := none
  deriving DecidableEq, Repr, Inhabited

/-- A field die F0 to F3 (ch. 06 to 10, 12). -/
structure FieldDie where
  /-- the die has supply | 1 | R176 06 | off -/
  powered : Bool := false
  /-- active configuration bank | image | R60 02 | none -/
  bank : Option Conf := none
  /-- FLD_CFG_COUNTER | 64 | R61 02 | 0 -/
  bankCounter : Nat := 0
  /-- shadow configuration bank | image | R60 02 | none -/
  shadow : Option Conf := none
  /-- image counter of the shadow bank | 64 | R60 02 | 0 -/
  shadowCounter : Nat := 0
  /-- APPLY received: t_A in ns | 64 | R60 02 | none -/
  applyAt : Option Nat := none
  /-- CONFIRM received | 1 | R60 02 | 0 -/
  confirmed : Bool := false
  /-- FLD_CLAIM | 32 | R187 06 | 0 -/
  claim : Nat := 0
  /-- FLD_CLAIM_REJECTED | 32 | R187 06 | 0 -/
  claimRejected : Nat := 0
  /-- no valid heartbeat within T_VACANT | 1 | R273 10 | 1 -/
  vacant : Bool := true
  /-- instant the vacancy began, ns | 64 | R273 10 | 0 -/
  vacantAt : Nat := 0
  /-- the die's time base when the vacancy began, ns (VACANT_SINCE) | 64 | R278 10 | 0 -/
  vacantTb : Nat := 0
  /-- instant of the last valid heartbeat or claim latch, ns | 64 | R273 10 | 0 -/
  heartAt : Nat := 0
  /-- a command of the latched claim has been received since it was latched | 1 | R186 06 | 0 -/
  firstCmd : Bool := false
  /-- K_HB of the claim arbiter | 256 | R424 17 | derived at start -/
  kHb : Bytes := []
  /-- K_TOK of the claim arbiter | 256 | R424 17 | derived at start -/
  kTok : Bytes := []
  /-- FLD_TB_OFFSET, signed microseconds | 64 | R353 13 | 0 -/
  tbOffset : Int := 0
  /-- FLD_TB_RATE, the fractional adjustment in force, ppb | 32 | R28 01 | 0 -/
  tbRate : Int := 0
  /-- reading of the die's 1 us counter at the instant tbSetAt, in ns | 64 | R28 01 | 0 -/
  tbBase : Int := 0
  /-- instant from which the counter has run on from tbBase, ns | 64 | R28 01 | 0 -/
  tbSetAt : Nat := 0
  /-- reading below which the counter never falls, in ns: it is never stepped backwards | 64 | R28 01 | 0 -/
  tbHold : Int := 0
  /-- rate of the die's own reference against the active lane's time base, ppb | - | R27 01 | 0 (assumption 15) -/
  refPpb : Int := 0
  /-- FLD_TB_STEER.SLOT | 1 | R353 13 | 0 -/
  tbSlot : Nat := 0
  /-- FLD_TB_STEER.STATE | 2 | R353 13 | 0 -/
  tbState : Nat := 0
  /-- FLD_TB_STEER.VALID | 1 | R353 13 | 0 -/
  tbValid : Bool := false
  /-- publishes accepted and waiting for their apply tick, oldest first | list | R31 01 | none -/
  cmds : List OutCmds := []
  /-- T_safe has expired since the last valid heartbeat or latch | 1 | R184 06 | 0 -/
  tSafeDone : Bool := false
  /-- the active lane is in COMMISSION: connectors not in COMM_CONNECTORS are masked | 1 | R42 02 | 0 -/
  inComm : Bool := false
  /-- number of the start of the lane's tasks last seen in a publish | 32 | R197 07 | 0 -/
  startSeen : Nat := 0
  /-- axes whose slot the next input frame releases | list | R213 07 | none -/
  relSlots : List Nat := []
  /-- local channels 0 to 63 | 64 channels | R164 06 | open -/
  chans : List Channel := List.replicate 64 {}
  /-- voltage-sense inputs 0 to 7 | 8 inputs | R175 06 | 0 -/
  vs : List VsInput := List.replicate 8 {}
  /-- bridge groups BRG0 to BRG7 | 8 groups | R176 06 | off -/
  brg : List BrgGroup := List.replicate 8 {}
  /-- domains FDIG 0, ADC0-7 1-8, BRG0-7 9-16, CANP 17 | 18 domains | R444 18 | OFF -/
  doms : List Dom := List.replicate 18 {}
  /-- FLD_RAIL in mV | 16 | R176 06 | 0 -/
  railMv : Nat := 0
  /-- FLD_DIE_STATUS.RAIL_LOW | 1 | R176 06 | 0 -/
  railLow : Bool := false
  /-- sensor supplies of the two connectors | 2 supplies | R171 06 | off -/
  supplies : List SensorSupply := [{}, {}]
  /-- axes of the local channels | 64 axes | R191 07 | NOT_AXIS -/
  axes : List Axis := List.replicate 64 {}
  /-- loop slots | 64 slots | R219 08 | UNUSED -/
  loops : List LoopSlot := List.replicate 64 {}
  /-- electrical points | 32 points | R234 09 | 0 -/
  mps : List MeterPoint := List.replicate 32 {}
  /-- thermal points | 16 points | R234 09 | 0 -/
  hps : List HeatPoint := List.replicate 16 {}
  /-- accumulators have been restored since power-up | 1 | R261 09 | 0 -/
  restored : Bool := false
  /-- instant the block under way began, ns | 64 | R240 09 | 0 -/
  blockAt : Nat := 0
  /-- instant of the last demand boundary, ns | 64 | R250 09 | 0 -/
  demandAt : Nat := 0
  /-- demand boundary the active lane sent last, ns of the time base | 64 | R250 09 | none -/
  demandSent : Option Nat := none
  /-- the four CAN ports of the die | 4 ports | R320 12 | OFF -/
  can : List CanPort := List.replicate 4 {}
  /-- FLD_IRQ_STATUS | 6 | R189 06 | 0 -/
  irq : Word := 0
  /-- FLD_IRQ_ENABLE | 6 | R189 06 | 0 -/
  irqEn : Word := 0
  /-- LP_IRQ_STATUS | 4 | R232 08 | 0 -/
  lpIrq : Word := 0
  /-- LP_IRQ_ENABLE | 4 | R232 08 | 0 -/
  lpIrqEn : Word := 0
  /-- events queued while no lane is heard, oldest first | 128 | R395 15 | empty -/
  evq : List EvRec := []
  /-- records dropped from that queue | 32 | R395 15 | 0 -/
  evDropped : Nat := 0
  /-- metrology-class records among them | 32 | R395 15 | 0 -/
  evDroppedMet : Nat := 0
  /-- the die's reference has failed | 1 | R452 18 | 0 -/
  clockFailed : Bool := false
  /-- instant of the last input-frame tick, ns | 64 | R167 06 | 0 -/
  tick : Nat := 0
  /-- instant of the die's power-up, ns | 64 | R219 08 | 0 -/
  upAt : Nat := 0
  /-- instant of the last profile update, ns | 64 | R192 07 | 0 -/
  updAt : Nat := 0
  deriving DecidableEq, Repr, Inhabited

end Sys2Proof.Machine
end

