-- ==== Sys2Proof/Machine/State.lean ====
section
/-! DEFINITION. The state of the module: its two lanes, two solver dies, four field dies, the messages under way
between them, the stores, and the queue of commands that wait. Each field's docstring says: name, width, rule and
chapter, reset value. -/

namespace Sys2Proof.Machine

/-- A store of bytes: the listed cells, addresses rising, none holding 0; every other address reads 0 (R374). -/
abbrev Mem := List Host.Cell

/-- A channel's entry of an input frame (R167). -/
structure FrameChan where
  in1 : Int := 0
  in2 : Int := 0
  enc : BitVec 32 := 0
  /-- low 16 bits of FLD_CH_STATUS -/
  status : Nat := 0
  deriving DecidableEq, Repr, Inhabited

/-- An axis status entry (R196), with the stamp of a waiting request (R212). -/
structure FrameAxis where
  ch : Nat := 0
  pCmd : Int := 0
  pEnc : Int := 0
  speed : Int := 0
  status : Nat := 0
  ack : Nat := 0
  depth : Nat := 0
  waiting : Bool := false
  energised : Bool := false
  prio : Nat := 0
  reqAt : Nat := 0
  deriving DecidableEq, Repr, Inhabited

/-- A loop slot's entry (R225). -/
structure FrameLoop where
  slot : Nat := 0
  y : Int := 0
  r : Int := 0
  status : Nat := 0
  ack : Nat := 0
  deriving DecidableEq, Repr, Inhabited

/-- What a valid input frame carries to the active lane (R30, R167, R196, R225). -/
structure InFrame where
  die : Nat := 0
  /-- claim the die has latched (R282) -/
  claim : Nat := 0
  /-- time-base instant of the tick, ns -/
  tick : Nat := 0
  /-- the die holds a valid configuration bank -/
  cfgValid : Bool := false
  chans : List FrameChan := []
  vs : List Int := []
  axes : List FrameAxis := []
  loops : List FrameLoop := []
  released : List Nat := []
  deriving DecidableEq, Repr, Inhabited

/-- Messages under way between dies and lanes (R18). -/
inductive Msg where
  /-- heartbeat with its time message (R275, R353) -/
  | heartbeat (claim counter seq tb : Nat) (tbOffset : Int) (slot state : Nat) (mac : Bytes)
  | claimRequest (proposed : Nat)
  | claimReply (r : ClaimReply)
  | claimRaise (claim : Nat) (replies : List ClaimReply)
  | claimAck (claim : Nat)
  | release (claim : Nat)
  | apply (claim : Nat) (at_ : Nat)
  | applyAck
  | confirm (claim : Nat)
  | cancel (claim : Nat)
  | staged
  | frame (f : InFrame)
  | outputs (c : OutCmds)
  /-- an admission grant for a local channel, tagged with the lane's claim (R20, R212) -/
  | grant (claim ch : Nat)
  | job (j : SlvJob)
  | payload (seq : Nat) (p : SlvPayload)
  | ackMissed
  deriving DecidableEq, Repr, Inhabited

/-- A message with its sender and receiver as die IDs. -/
structure Mail where
  src : Nat := 0
  dst : Nat := 0
  msg : Msg := .staged
  deriving DecidableEq, Repr, Inhabited

/-- What the last command put on the module's outside contacts. -/
inductive OutEv where
  /-- an MSI-X message of a lane on a vector (R469) -/
  | msix (lane vec : Nat)
  /-- wake port answer: ACK or NACK (R453) -/
  | wakeAck (lane : Nat) (ack : Bool)
  /-- wake port status byte (R454) -/
  | wakeByte (lane byte : Nat)
  /-- a bus error on the firmware's register view (R503) -/
  | busError (lane : Nat)
  /-- an Ethernet frame of a lane's port: its 802.1Q tag (0 untagged) and its main fields, by kind: 1 gratuitous ARP, 2 ARP
  reply, 3 ICMP echo reply, 4 record datagram with port, gateway and next hop, 5 PTP message by messageType, domain, sdoId,
  sequence id, transport, UDP checksum 0, logMessageInterval and its contents, 6 PTP management response -/
  | eth (lane port kind : Nat) (fields : List Int)
  deriving DecidableEq, Repr, Inhabited

/-- The admission arbiter and the lane's half of the motion block (MOT_ 0x100 to 0x114). -/
structure Mot where
  /-- requests waiting: axis, request stamp in time-base ns, priority | list | R213 07 | none -/
  requests : List (Nat × Nat × Nat) := []
  /-- axes holding a slot of the budget | list | R211 07 | none -/
  granted : List Nat := []
  /-- field dies whose first input frame since the claim raise is awaited before any grant | 4 | R215 07 | none -/
  await : List Nat := []
  /-- MOT_ADMIT_PEAK | 8 | R215 07 | 0 -/
  peak : Nat := 0
  /-- MOT_WAIT_MAX_US | 32 | R215 07 | 0 -/
  waitMax : Nat := 0
  /-- MOT_IRQ_STATUS | 4 | R216 07 | 0 -/
  irq : Word := 0
  /-- MOT_IRQ_ENABLE | 4 | R216 07 | 0 -/
  irqEn : Word := 0
  deriving DecidableEq, Repr, Inhabited

/-- One lane: its control die, always-on domain and key store. -/
structure Lane where
  sys : Sys := {}
  cfg : Cfg := {}
  pwr : Pwr := {}
  clk : Clk := {}
  slv : Slv := {}
  prg : Prg := {}
  mot : Mot := {}
  mtr : Mtr := {}
  red : Red := {}
  can : Can := {}
  ptp : Ptp := {}
  nvm : Nvm := {}
  evr : Evr := {}
  rtc : Rtc := {}
  key : Key := {}
  hst : Hst := {}
  /-- select registers of the host and of the firmware view | 2 views | R504 21 | 0 -/
  selHost : Sel := {}
  selFw : Sel := {}
  /-- links to F0 to F3 are up | 4 | R18 01 | down -/
  fldUp : List Bool := [false, false, false, false]
  /-- newest input frame of each field die | 4 frames | R30 01 | none -/
  frames : List (Option InFrame) := [none, none, none, none]
  /-- field dies of which a frame has come since the program started or the lane took over | 4 | R135 05 | none -/
  heard : List Bool := [false, false, false, false]
  deriving DecidableEq, Repr, Inhabited

/-- Everything of the module but its stores and its command queue. -/
structure Module where
  /-- fitted variant | 2 | R1 00 | NFJ8-256 -/
  variant : Variant := .nfj8
  laneA : Lane := {}
  laneB : Lane := {}
  sds : List SolverDie := [{}, {}]
  fds : List FieldDie := [{}, {}, {}, {}]
  /-- messages under way, oldest first | list | R18 01 | none -/
  mail : List Mail := []
  /-- supply good | 1 | R302 11 | 0 -/
  supplyGood : Bool := false
  /-- instant at which the supply became good, ns | 64 | R302 11 | 0 -/
  goodAt : Nat := 0
  /-- the two lane links are up | 2 | R18 01 | 0 -/
  laneLinks : List Bool := [false, false]
  /-- islands PI-A and PI-B work | 2 | R22 01 | 1 -/
  islands : List Bool := [true, true]
  /-- value of the last register read on a bus | 32 | R11 00 | 0 -/
  bus : Word := 0
  /-- what the last command put on outside contacts | list | model | none -/
  out : List OutEv := []
  /-- bytes the present command programs: 0 MRAM of lane A, 1 of lane B, 2 host memory; start address, bytes | list | model | none -/
  nvmOut : List (Nat × Nat × Bytes) := []
  /-- time since the model's origin, ns | 64 | model | 0 -/
  now : Nat := 0
  /-- free values drawn so far | - | model | 0 -/
  free : Nat := 0
  deriving DecidableEq, Repr, Inhabited

/-- The byte stores: the lanes' MRAMs and the host's memory. -/
structure Store where
  mramA : Mem := []
  mramB : Mem := []
  host : Mem := []
  deriving DecidableEq, Repr, Inhabited

/-- The state of the block. -/
structure State where
  m : Module := {}
  mem : Store := {}
  /-- commands that wait, first in, first out | list | model | empty -/
  pending : List Instr := []
  deriving DecidableEq, Repr

/-- Faults. No command of this block ends in one: the spec gives every command an effect or says that it changes
nothing. -/
inductive Fault where
  /-- Raised by no command; safe. -/
  | none
  deriving DecidableEq, Repr

/-- Refusals. -/
inductive Refusal where
  /-- A command whose meaning is not written yet; safe. -/
  | notModelled (mnemonic : String)
  deriving DecidableEq, Repr

/-- The MRAM of a new lane: the base records of operating time and power cycles, VALUE 0 with G 1, each in copy A with
SEQ 1, and nothing else (R309, R378; SEQ and copy DESIGN CHOICE, assumption 4). -/
def newMram : Mem :=
  [(40058880, 185), (40058881, 31), (40058882, 14), (40058883, 28), (40058884, 1), (40058888, 79), (40058889, 80),
   (40058890, 84), (40058891, 77), (40058892, 28), (40058904, 1)] ++
  [(40059008, 99), (40059009, 78), (40059010, 204), (40059011, 130), (40059012, 1), (40059016, 80), (40059017, 67),
   (40059018, 89), (40059019, 67), (40059020, 28), (40059032, 1)]

/-- The module as it leaves the factory: in shipping mode without supply (R498), every register at its Reset column, the
counters' base records in both stores (R378). -/
def State.reset : State := { mem := { mramA := newMram, mramB := newMram } }

end Sys2Proof.Machine
end

