-- ==== Sys2Proof/Machine/Ops.lean ====
section
/-! DEFINITION. The named operations every meaning uses: bytes of a store, parts of the module, interrupts, event
reports, messages between dies, and the commit of a command's effect. -/

namespace Sys2Proof.Machine

/-- The byte at an address; an unlisted address reads 0 (R374). -/
def Memory.read : Mem → Nat → Byte
  | [], _ => 0
  | (c, x) :: t, a => if a = c then x else Memory.read t a

/-- One byte written; the list stays in its canonical form. -/
def Memory.write : Mem → Nat → Byte → Mem
  | [], a, b => if b = 0 then [] else [(a, b)]
  | (c, x) :: t, a, b =>
    if a < c then (if b = 0 then (c, x) :: t else (a, b) :: (c, x) :: t)
    else if a = c then (if b = 0 then t else (a, b) :: t)
    else (c, x) :: Memory.write t a b

/-- Consecutive bytes written from an address upward. -/
def Memory.writes : Mem → Nat → Bytes → Mem
  | m, _, [] => m
  | m, a, b :: t => Memory.writes (Memory.write m a b) (a + 1) t

/-- `n` bytes from an address upward, given the cells at or above it. -/
def Memory.run : Nat → Nat → Mem → Bytes
  | 0, _, _ => []
  | n + 1, a, [] => 0 :: Memory.run n (a + 1) []
  | n + 1, a, (c, x) :: t => if c = a then x :: Memory.run n (a + 1) t else 0 :: Memory.run n (a + 1) ((c, x) :: t)

/-- `n` bytes from an address upward. -/
def Memory.reads (m : Mem) (a n : Nat) : Bytes := Memory.run n a (m.dropWhile fun c => decide (c.1 < a))

/-- The canonical form: addresses strictly rising from `lo`, no listed 0. -/
def Memory.wfFrom : Nat → Mem → Bool
  | _, [] => true
  | lo, (c, x) :: t => decide (lo ≤ c) && decide (x ≠ 0) && Memory.wfFrom (c + 1) t

/-- The canonical form of a store of bytes. -/
def Memory.wf (m : Mem) : Bool := Memory.wfFrom 0 m

/-- A lane's MRAM. -/
def Store.mram (st : Store) : LaneId → Mem
  | .A => st.mramA
  | .B => st.mramB

/-- The programs of a command written into the stores: target 0 is lane A's MRAM, 1 lane B's, another the host's
memory. -/
def Store.program : Store → List (Nat × Nat × Bytes) → Store
  | st, [] => st
  | st, (t, a, bs) :: rest =>
    Store.program
      (if t = 0 then { st with mramA := Memory.writes st.mramA a bs }
       else if t = 1 then { st with mramB := Memory.writes st.mramB a bs }
       else { st with host := Memory.writes st.host a bs }) rest

/-- The module as a command finds it: nothing programmed or put out yet. -/
def Module.fresh (m : Module) : Module := { m with nvmOut := [], out := [] }

/-- The module as a command leaves it, once what it programmed has entered the stores. -/
def Module.closed (m : Module) : Module := { m with nvmOut := [] }

/-- A command's effect: its body runs on the module with nothing yet programmed or put out, and the bytes it programs
then enter the stores. The queue stays as it is. -/
def commit (s : State) (body : Store → Module → Module) : State :=
  let m := body s.mem s.m.fresh
  { s with m := m.closed, mem := Store.program s.mem m.nvmOut }

/-- A lane of the module. -/
def Module.lane (m : Module) : LaneId → Lane
  | .A => m.laneA
  | .B => m.laneB

/-- The module with one lane changed. -/
def Module.updLane (m : Module) (l : LaneId) (f : Lane → Lane) : Module :=
  match l with
  | .A => { m with laneA := f m.laneA }
  | .B => { m with laneB := f m.laneB }

/-- Whether the lanes reach each other: over either link of their pair (R18; assumption 50). -/
def Module.laneLink (m : Module) : Bool := m.laneLinks.any id

/-- A field die. -/
def Module.fd (m : Module) (d : Nat) : FieldDie := at? m.fds d {}

/-- The module with one field die changed. -/
def Module.updFd (m : Module) (d : Nat) (f : FieldDie → FieldDie) : Module := { m with fds := upd m.fds d f }

/-- A solver die. -/
def Module.sd (m : Module) (d : Nat) : SolverDie := at? m.sds d {}

/-- The module with one solver die changed. -/
def Module.updSd (m : Module) (d : Nat) (f : SolverDie → SolverDie) : Module := { m with sds := upd m.sds d f }

/-- A lane's channel of a local number on a field die. -/
def Module.chan (m : Module) (d c : Nat) : Channel := at? (m.fd d).chans c {}

/-- The module with one channel changed. -/
def Module.updChan (m : Module) (d c : Nat) (f : Channel → Channel) : Module :=
  m.updFd d fun fd => { fd with chans := upd fd.chans c f }

/-- Lane of a die ID of a control die. -/
def laneOfDie (die : Nat) : LaneId := if die = 0 then .A else .B

/-- The lane a claim number belongs to: bit 0 (R271). -/
def claimLane (c : Nat) : LaneId := if c % 2 = 0 then .A else .B

/-- The epoch of a claim number: bits 31 to 1 (R271). -/
def claimEpoch (c : Nat) : Nat := c / 2

/-- A claim number from epoch and lane (R271). -/
def mkClaim (epoch : Nat) (l : LaneId) : Nat := 2 * epoch + l.num

/-- `f` where the condition holds. -/
def when (c : Bool) (f : Module → Module) (m : Module) : Module := if c then f m else m

/-- `f` for every item, in order. -/
def forEach {α : Type} (xs : List α) (f : α → Module → Module) (m : Module) : Module := xs.foldl (fun m x => f x m) m

/-- Whether a lane holds the latched claim. -/
def Module.active (m : Module) (l : LaneId) : Bool := (m.lane l).red.holds

/-- The clock at an instant at which a command happens of itself: the expiry of a timer comes when the timer is due,
so the clock moves on to that instant if it has not reached it. -/
def clockTo (t : Nat) (m : Module) : Module := { m with now := max m.now t }

/-- The first instant of a grid at or after the present one and after `last`. -/
def Module.gridAfter (m : Module) (grid last : Nat) : Nat :=
  if grid = 0 then m.now else max (cdiv m.now grid * grid) (last / grid * grid + grid)

/-- The first instant of a grid counted from an origin, at or after the present one and after `last`. -/
def Module.gridFrom (m : Module) (origin grid last : Nat) : Nat :=
  if grid = 0 then m.now
  else
    let a := origin + cdiv (m.now - origin) grid * grid
    if last < origin then a else max a (origin + (last - origin) / grid * grid + grid)

/-- Microseconds of the time base. -/
def Module.us (m : Module) : Nat := m.now / 1000

/-- A field die's 1 us counter at an instant, ns: from its last alignment it runs on its own reference at the adjustment in
force, and never falls (R28). -/
def FieldDie.tb (fd : FieldDie) (now : Nat) : Int :=
  let dt : Int := (now - fd.tbSetAt : Nat)
  max fd.tbHold (fd.tbBase + dt + fdiv (dt * (fd.refPpb + fd.tbRate)) 1000000000)

/-- A field die's time base in microseconds (R28). -/
def FieldDie.tbUs (fd : FieldDie) (now : Nat) : Nat := (fd.tb now).toNat / 1000

/-- The active lane's time base runs faster by `ppb`: every reference is slower against it by as much, and a field die's
counter runs on from where it stands (R27, R28; assumption 15). -/
def retime (ppb : Int) (m : Module) : Module :=
  let settle (fd : FieldDie) : FieldDie :=
    { fd with tbBase := fd.tb m.now, tbSetAt := m.now, refPpb := fd.refPpb - ppb }
  let lane (L : Lane) : Lane := { L with ptp := { L.ptp with refPpb := L.ptp.refPpb - ppb } }
  if ppb = 0 then m else { m with fds := m.fds.map settle, laneA := lane m.laneA, laneB := lane m.laneB }

/-- Module time of a lane in microseconds: the time base plus PRG_TB_OFFSET (R140). -/
def Module.modUs (m : Module) (l : LaneId) : Int := (m.now / 1000 : Nat) + (m.lane l).prg.tbOffset

/-- Module time of a lane in seconds. -/
def Module.modS (m : Module) (l : LaneId) : Nat := (fdiv (m.modUs l) 1000000).toNat

/-- An instant of module time, ns, as a time-stamp: with the steering slot and the state of module time at the present
moment (R347). -/
def Module.timeStamp (m : Module) (l : LaneId) (t : Int) : TimeStamp :=
  let p := (m.lane l).ptp
  let stepped := match p.stepAt with
    | some s => decide (m.now ≤ s + 1000000000)
    | none => false
  { seconds := (fdiv t 1000000000).toNat, ns := (Int.fmod t 1000000000).toNat
    domain := if p.steerState = 0 then 255 else p.steer
    flags := b2n p.slewing + 2 * b2n (p.steerState == 2) + 4 * b2n stepped }

/-- The 16 bytes of a time-stamp (R347). -/
def TimeStamp.bytes (s : TimeStamp) : Bytes :=
  leBytes 8 s.seconds ++ leBytes 4 s.ns ++ leBytes 1 s.domain ++ leBytes 1 s.flags ++ leBytes 2 0

/-- An instant of the time base, ns, as a time-stamp of a lane (R140, R347). -/
def Module.stampAt (m : Module) (l : LaneId) (t : Nat) : TimeStamp := m.timeStamp l (t + 1000 * (m.lane l).prg.tbOffset)

/-- Number of a slot state (R349). -/
def SlotState.code : SlotState → Nat
  | .disabled => 0
  | .listening => 1
  | .locked => 2
  | .degraded => 3
  | .lost => 4

/-- A slot's state as it reads under an item: DISABLED where the lane is not active or the item not enabled (R349). -/
def PtpSlot.reads (x : PtpSlot) (active : Bool) (d : DomCfg) : SlotState :=
  if !active || !nbit d.flags 0 then .disabled else if x.state == .disabled then .listening else x.state

/-- The stores with what the present command has programmed so far. -/
def Module.cur (m : Module) (st : Store) : Store := Store.program st m.nvmOut

/-- A fresh free value. -/
def Module.draw (m : Module) : BitVec 64 := Config.freeValue m.free

/-- The free-value counter moved on by one. -/
def Module.drawn (m : Module) : Module := { m with free := m.free + 1 }

/-- Status and enable words of a block's interrupt registers, by block number. -/
def Lane.irqOf (L : Lane) (b : Nat) : Word × Word :=
  match b with
  | 0 => (L.sys.irq, L.sys.irqEn)
  | 2 => (L.pwr.irq, L.pwr.irqEn)
  | 4 => (L.slv.irq, L.slv.irqEn)
  | 5 => (L.prg.irq, L.prg.irqEn)
  | 7 => (L.mot.irq, L.mot.irqEn)
  | 9 => (L.mtr.irq, L.mtr.irqEn)
  | 10 => (L.red.irq, L.red.irqEn)
  | 11 => (L.can.irq, L.can.irqEn)
  | 12 => (L.ptp.irq, L.ptp.irqEn)
  | 13 => (L.nvm.irq, L.nvm.irqEn)
  | 14 => (L.evr.irq, L.evr.irqEn)
  | 15 => (L.rtc.irq, L.rtc.irqEn)
  | 16 => (L.key.irq, L.key.irqEn)
  | 17 => (L.hst.irq, L.hst.irqEn)
  | _ => (0, 0)

/-- A block's interrupt status word replaced. -/
def Lane.setIrq (L : Lane) (b : Nat) (w : Word) : Lane :=
  match b with
  | 0 => { L with sys := { L.sys with irq := w } }
  | 2 => { L with pwr := { L.pwr with irq := w } }
  | 4 => { L with slv := { L.slv with irq := w } }
  | 5 => { L with prg := { L.prg with irq := w } }
  | 7 => { L with mot := { L.mot with irq := w } }
  | 9 => { L with mtr := { L.mtr with irq := w } }
  | 10 => { L with red := { L.red with irq := w } }
  | 11 => { L with can := { L.can with irq := w } }
  | 12 => { L with ptp := { L.ptp with irq := w } }
  | 13 => { L with nvm := { L.nvm with irq := w } }
  | 14 => { L with evr := { L.evr with irq := w } }
  | 15 => { L with rtc := { L.rtc with irq := w } }
  | 16 => { L with key := { L.key with irq := w } }
  | 17 => { L with hst := { L.hst with irq := w } }
  | _ => L

/-- A block's interrupt enable word replaced. -/
def Lane.setIrqEn (L : Lane) (b : Nat) (w : Word) : Lane :=
  match b with
  | 0 => { L with sys := { L.sys with irqEn := w } }
  | 2 => { L with pwr := { L.pwr with irqEn := w } }
  | 4 => { L with slv := { L.slv with irqEn := w } }
  | 5 => { L with prg := { L.prg with irqEn := w } }
  | 7 => { L with mot := { L.mot with irqEn := w } }
  | 9 => { L with mtr := { L.mtr with irqEn := w } }
  | 10 => { L with red := { L.red with irqEn := w } }
  | 11 => { L with can := { L.can with irqEn := w } }
  | 12 => { L with ptp := { L.ptp with irqEn := w } }
  | 13 => { L with nvm := { L.nvm with irqEn := w } }
  | 14 => { L with evr := { L.evr with irqEn := w } }
  | 15 => { L with rtc := { L.rtc with irqEn := w } }
  | 16 => { L with key := { L.key with irqEn := w } }
  | 17 => { L with hst := { L.hst with irqEn := w } }
  | _ => L

/-- Something put on an outside contact. -/
def put (e : OutEv) (m : Module) : Module := { m with out := m.out ++ [e] }

/-- Whether a lane's endpoint may master: active, link up, Bus Master Enable set (R459, R468). -/
def Module.mayMaster (m : Module) (l : LaneId) : Bool :=
  let h := (m.lane l).hst
  m.active l && h.linkUp && h.bme

/-- An MSI-X message on a vector of the active lane: sent, or its pending bit set while it is masked or the host has
not enabled the messages (R460, R469). What one command sets in a block is set in one SYS cycle and sends one message
(R117, R469). -/
def sendMsi (l : LaneId) (vec : Nat) (m : Module) : Module :=
  let h := (m.lane l).hst
  if !m.active l || (decide (vec < 18) && m.out.contains (.msix l.num vec)) then m
  else if m.mayMaster l && h.msix && !h.fmask && !bitOf h.vmask vec then put (.msix l.num vec) m
  else m.updLane l fun L => { L with hst := { L.hst with vpend := L.hst.vpend ||| word (1 <<< vec) } }

/-- Bits of a block's IRQ_STATUS set; a rise of an enabled bit sends the block's message (R469). -/
def raise (l : LaneId) (b : Nat) (bits : Nat) (m : Module) : Module :=
  let se := (m.lane l).irqOf b
  let rising := word bits &&& ~~~se.1 &&& se.2
  let m := m.updLane l fun L => L.setIrq b (se.1 ||| word bits)
  if rising = 0 then m else sendMsi l b m

/-- Bits of a field die's FLD_IRQ_STATUS set; the message goes out on the lane whose claim the die holds. -/
def raiseFd (d : Nat) (bits : Nat) (m : Module) : Module :=
  let fd := m.fd d
  let rising := word bits &&& ~~~fd.irq &&& fd.irqEn
  let m := m.updFd d fun fd => { fd with irq := fd.irq ||| word bits }
  if rising = 0 then m else sendMsi (claimLane fd.claim) 6 m

/-- Bits of a field die's LP_IRQ_STATUS set. -/
def raiseLp (d : Nat) (bits : Nat) (m : Module) : Module :=
  let fd := m.fd d
  let rising := word bits &&& ~~~fd.lpIrq &&& fd.lpIrqEn
  let m := m.updFd d fun fd => { fd with lpIrq := fd.lpIrq ||| word bits }
  if rising = 0 then m else sendMsi (claimLane fd.claim) 8 m

/-- Metrology-class codes (R385). -/
def isMetrology (code : Nat) : Bool := code / 256 == 0x58

/-- The token bucket of a code; one not listed is full (R392). -/
def Evr.bucket (e : Evr) (code : Nat) : Bucket := (e.buckets.find? (·.code == code)).getD { code := code }

/-- A bucket put back in the list. -/
def Evr.setBucket (e : Evr) (b : Bucket) : Evr :=
  { e with buckets :=
      if e.buckets.any (·.code == b.code) then e.buckets.map (fun x => if x.code == b.code then b else x)
      else e.buckets ++ [b] }

/-- A record suppressed and counted against its code (R392). -/
def Evr.suppress (e : Evr) (code opsec : Nat) : Evr :=
  let b := e.bucket code
  let e := e.setBucket { b with suppressed := sat max32 (b.suppressed + 1),
                                firstOpsec := if b.suppressed = 0 then opsec else b.firstOpsec }
  { e with suppressed := sat max32 (e.suppressed + 1) }

/-- Whether any freeze bit is set (R397). -/
def Evr.frozen (e : Evr) : Bool := e.freezeHost.isSome || e.freezeFw.isSome

/-- Whether a lane's SYS domain is ON. -/
def Lane.sysOn (L : Lane) : Bool := (at? L.pwr.doms 1 {}).state == .on

/-- A token taken from a bucket (R392). -/
def Bucket.spend (b : Bucket) (now : Nat) : Bucket :=
  { b with tokens := b.tokens - 1, refillAt := if b.tokens = 16 then now else b.refillAt }

/-- A general record put into the intake queue, or into the always-on store of a lane at rest; where that is full it is
suppressed against its code (R394). -/
def Evr.enqueue (e : Evr) (rest : Bool) (r : EvRec) : Evr :=
  if rest then
    (if e.aoStore.length < 32 then { e with aoStore := e.aoStore ++ [r] } else e.suppress r.code r.opsec)
  else if e.intake.length < 1024 then { e with intake := e.intake ++ [r] }
  else e.suppress r.code r.opsec

/-- A record enters a lane's intake at an instant, or the always-on store of a standby lane at rest, or is suppressed
(R392 to R394). Nothing bound for the ring is taken after a supply failure (R396). A metrology record enters the intake of
the active lane, or of one that raises its claim; in STANDBY and RESYNC there is none, and elsewhere it is counted as
lost (R391, R393, R394). -/
def Lane.take (L : Lane) (now : Nat) (supply : Bool) (r : EvRec) : Lane :=
  let e := L.evr
  let rest := !L.sysOn && (L.red.role == .standby || L.red.role == .resync)
  let down := L.sys.phase == .saving || L.sys.phase == .stopped || L.sys.phase == .off || !supply
  if isMetrology r.code then
    (if L.red.holds || L.red.exch.isSome then { L with evr := { e with intake := e.intake ++ [r] } }
     else if L.sys.phase == .up then L
     else { L with mtr := { L.mtr with mlogLost := sat 0xFFFF (L.mtr.mlogLost + 1) } })
  else if down then L
  else
    let b := e.bucket r.code
    { L with evr := if b.tokens = 0 then e.suppress r.code r.opsec else (e.setBucket (b.spend now)).enqueue rest r }

/-- FLAGS of a record as it enters a lane's intake (R384, R401). -/
def Module.recFlags (m : Module) (l : LaneId) (code fl : Nat) : Nat :=
  fl ||| b2n (isMetrology code) |||
    (if m.variant == .nfj8 then 8 * l.num ||| (if m.active l then 0 else 16) else 0)

/-- An event of a die and block reported to a lane's recorder (R384, R394). -/
def reportAs (l : LaneId) (die block code fl p0 p1 p2 : Nat) (m : Module) : Module :=
  let s := (m.lane l).sys
  let r : EvRec := { code := code, source := 32 * die + block, flags := m.recFlags l code fl, opsec := s.opsec,
                     pcc := s.pcc, p0 := p0 % 2 ^ 32, p1 := p1 % 2 ^ 32, p2 := p2 % 2 ^ 32 }
  m.updLane l fun L => L.take m.now m.supplyGood r

/-- An event of a lane's own control die. -/
def report (l : LaneId) (block code p0 p1 p2 : Nat) (m : Module) : Module := reportAs l l.num block code 0 p0 p1 p2 m

/-- Whether a field die's events reach the lane it obeys: the die hears that lane's heartbeats over a link that is
up. Where one lane alone sends them and no vacancy says that they have ceased, they come while that lane holds or raises
the claim (R319, R395, R401). -/
def Module.fdHeard (m : Module) (d : Nat) : Bool :=
  let fd := m.fd d
  let r := (m.lane (claimLane fd.claim)).red
  !fd.vacant && at? (m.lane (claimLane fd.claim)).fldUp d false &&
    (m.variant.nLane == 2 || r.holds || r.exch.any fun e => e.proposed == fd.claim)

/-- A field die's store of events while it hears no heartbeat (R395): at most 128, metrology-class events kept first;
the newest event that is not of that class gives way. -/
def FieldDie.keepEvent (fd : FieldDie) (r : EvRec) : FieldDie :=
  if fd.evq.length < 128 then { fd with evq := fd.evq ++ [r] }
  else if isMetrology r.code then
    match fd.evq.reverse.findIdx? (fun x => !isMetrology x.code) with
    | some i =>
      { fd with evq := (fd.evq.eraseIdx (fd.evq.length - 1 - i)) ++ [r], evDropped := sat max32 (fd.evDropped + 1) }
    | none => { fd with evDroppedMet := sat max32 (fd.evDroppedMet + 1), evDropped := sat max32 (fd.evDropped + 1) }
  else { fd with evDropped := sat max32 (fd.evDropped + 1) }

/-- An event of a field die: to the lane it hears, or kept (R395). -/
def reportFd (d : Nat) (block code p0 p1 p2 : Nat) (m : Module) : Module :=
  let fd := m.fd d
  if m.fdHeard d then reportAs (claimLane fd.claim) (4 + d) block code 0 p0 p1 p2 m
  else m.updFd d fun fd =>
    fd.keepEvent { code := code, source := 32 * (4 + d) + block, flags := b2n (isMetrology code) + 32,
                   p0 := p0 % 2 ^ 32, p1 := p1 % 2 ^ 32, p2 := p2 % 2 ^ 32 }

/-- An event of a solver die, to the lane whose claim it holds. -/
def reportSd (d : Nat) (block code p0 p1 p2 : Nat) (m : Module) : Module :=
  reportAs (claimLane (m.sd d).claim) (2 + d) block code 0 p0 p1 p2 m

/-- A message put on the link between two dies, given by their IDs. -/
def send (src dst : Nat) (msg : Msg) (m : Module) : Module :=
  { m with mail := m.mail ++ [{ src := src, dst := dst, msg := msg }] }

/-- The oldest message from one die to another that a selector accepts, with the messages that stay. -/
def takeMail {α : Type} (src dst : Nat) (sel : Msg → Option α) : List Mail → Option (α × List Mail)
  | [] => none
  | x :: t =>
    match (if x.src = src ∧ x.dst = dst then sel x.msg else none) with
    | some a => some (a, t)
    | none => (takeMail src dst sel t).map fun r => (r.1, x :: r.2)

/-- The oldest message to a die from anyone that a selector accepts, with its sender. -/
def takeTo {α : Type} (dst : Nat) (sel : Msg → Option α) : List Mail → Option (Nat × α × List Mail)
  | [] => none
  | x :: t =>
    match (if x.dst = dst then sel x.msg else none) with
    | some a => some (x.src, a, t)
    | none => (takeTo dst sel t).map fun r => (r.1, r.2.1, x :: r.2.2)

/-- Field dies fitted. -/
def Module.fdList (m : Module) : List Nat := List.range m.variant.nFd

/-- Solver dies fitted. -/
def Module.sdList (m : Module) : List Nat := List.range m.variant.nSd

/-- Lanes fitted. -/
def Module.laneList (m : Module) : List LaneId := if m.variant.nLane = 2 then [.A, .B] else [.A]

/-- Bytes programmed into a store by the present command: target 0 or 1 a lane's MRAM, 2 the host's memory. -/
def programRaw (target addr : Nat) (bs : Bytes) (m : Module) : Module :=
  { m with nvmOut := m.nvmOut ++ [(target, addr, bs)] }

/-- The select registers and latches of a lane's view (R504). -/
def Module.sel (m : Module) (l : LaneId) : View → Sel
  | .host => (m.lane l).selHost
  | .fw => (m.lane l).selFw

/-- The select registers and latches of a lane's view changed. -/
def updSel (l : LaneId) (v : View) (f : Sel → Sel) (m : Module) : Module :=
  m.updLane l fun L => match v with
    | .host => { L with selHost := f L.selHost }
    | .fw => { L with selFw := f L.selFw }

/-- A word latched for a later read of a register address in a view (R13, R504). -/
def latchWord (l : LaneId) (v : View) (addr : Nat) (w : Word) (m : Module) : Module :=
  updSel l v (fun s => { s with latch := putKey s.latch addr w }) m

/-- Index of a view in the registers kept per view. -/
def viewIdx : View → Nat
  | .host => 0
  | .fw => 1

/-- Whether an access of a view reaches the lane: the host through a link that is up, firmware while SYS is ON
(R459, R508). -/
def Module.reach (m : Module) (l : LaneId) (v : View) : Bool :=
  match v with
  | .host => (m.lane l).hst.linkUp
  | .fw => (m.lane l).sysOn

/-- The host view of a lane that is not active, on the module with two lanes (R459, R509). -/
def Module.mute (m : Module) (l : LaneId) (v : View) : Bool :=
  v == .host && m.variant == .nfj8 && !m.active l

/-- A register write of a view: lost where it does not reach the lane, discarded by the host view of a lane that is
not active (R459). -/
def guardWrite (l : LaneId) (v : View) (f : Module → Module) (m : Module) : Module :=
  if m.reach l v && !m.mute l v then f m else m

/-- A register read of a view: the host view of a lane that is not active returns 0 (R459). -/
def guardRead (l : LaneId) (v : View) (f : Module → Module) (m : Module) : Module :=
  if !m.reach l v then m else if m.mute l v then { m with bus := 0 } else f m

/-- The value a read returns on the bus. -/
def onBus (w : Word) (m : Module) : Module := { m with bus := w }

end Sys2Proof.Machine
end

