-- ==== Sys2Proof/Machine/Operands.lean ====
section
/-! DEFINITION. What a measured quantity becomes: the input ranges with their limits and the conversion to engineering
values (R168 to R170). Quantities are in 10^-9 V, A or ohm; engineering values are Q16.16. -/

namespace Sys2Proof.Machine

/-- Nominal ends of ranges 1 to 5 (R169). -/
def rangeEnds : Nat → Int × Int
  | 1 => (-50000000, 50000000)
  | 2 => (-500000000, 500000000)
  | 3 => (-1000000000, 1000000000)
  | 4 => (-10000000000, 10000000000)
  | 5 => (0, 24000000)
  | _ => (0, 1)

/-- Measuring limits of a range (R168). -/
def rangeLimits : Nat → Int × Int
  | 1 => (-56250000, 56250000)
  | 2 => (-562500000, 562500000)
  | 3 => (-3000000000, 3000000000)
  | 4 => (-11250000000, 11250000000)
  | 5 => (-1000000, 25000000)
  | 6 => (80310000000, 194100000000)
  | 7 => (803100000000, 1941000000000)
  | _ => (0, 0)

/-- A value held between two limits, with whether it lay outside. -/
def clampI (lo hi x : Int) : Int × Bool :=
  if x < lo then (lo, true) else if hi < x then (hi, true) else (x, false)

/-- Limits of Q16.16 as raw integers (R222). -/
def q16Lo : Int := -2147483648

/-- Upper limit of Q16.16 as a raw integer. -/
def q16Hi : Int := 2147483647

/-- A value held in Q16.16. -/
def satQ (x : Int) : Int := (clampI q16Lo q16Hi x).1

/-- A quotient rounded to the nearest integer, halves upward. -/
def roundDiv (a b : Int) : Int := if b = 0 then 0 else fdiv (2 * a + b) (2 * b)

/-- Resistance at a temperature by IEC 60751, as a ratio to the resistance at 0 degree C scaled by 10^15 * 2^64. The
temperature is Q16.16. PRESUMED coefficients, assumption 20. -/
def rtdRatio (t : Int) : Int :=
  let d : Int := 65536
  1000000000000000 * d ^ 4 + 3908300000000 * t * d ^ 3 - 577500000 * t ^ 2 * d ^ 2
    - (if t < 0 then 4183 * (t - 100 * d) * t ^ 3 else 0)

/-- The greatest temperature at or above `lo` whose resistance does not pass `x`, by halving the interval. -/
def rtdSearch (r0 x : Int) : Nat → Int → Int → Int
  | 0, lo, _ => lo
  | n + 1, lo, hi =>
    let mid := fdiv (lo + hi) 2
    if r0 * rtdRatio mid ≤ x * (1000000000000000 * 65536 ^ 4) then rtdSearch r0 x n mid hi
    else rtdSearch r0 x n lo mid

/-- Temperature of a resistance, Q16.16 (R169), between -50 and +250 degree C. -/
def rtdTemp (range : Nat) (x : Int) : Int :=
  let r0 : Int := if range = 6 then 100000000000 else 1000000000000
  rtdSearch r0 x 26 (-50 * 65536) (250 * 65536 + 1)

/-- An input reading: value, beyond a limit (OVR), open or short (OPEN). -/
structure InRead where
  value : Int := 0
  ovr : Bool := false
  bad : Bool := false
  /-- the engineering value passed the Q16.16 limits -/
  satd : Bool := false
  deriving DecidableEq, Repr, Inhabited

/-- A quantity as the engineering value of its range (R169, R170). `past` says that a sample an rms value is taken over
lay beyond the measuring limit; `last` is the last valid reading. -/
def convert (range : Nat) (lo hi x : Int) (past : Bool) (last : Int) : InRead :=
  let lim := rangeLimits range
  if range = 0 ∨ range > 7 then {}
  else if range ≤ 5 then
    let c := clampI lim.1 lim.2 x
    let e := rangeEnds range
    let v := lo + roundDiv ((c.1 - e.1) * (hi - lo)) (e.2 - e.1)
    let q := clampI q16Lo q16Hi v
    { value := q.1, ovr := c.2 || q.2 || past, satd := q.2 }
  else if 4 * x > 5 * lim.2 ∨ 2 * x < lim.1 then { value := last, bad := true }
  else
    let c := clampI lim.1 lim.2 x
    let w := clampI lo hi (rtdTemp range c.1)
    { value := w.1, ovr := c.2 || w.2 }

end Sys2Proof.Machine
end

