-- ==== Sys2Proof/Machine/Flags.lean ====
section
/-! DEFINITION. The status words the field dies build from their parts: `FLD_CH_STATUS`, the axis and the loop status,
with the values an output carries and who decides them (R182, R196, R225). -/

namespace Sys2Proof.Machine

/-- The value a SAFE_STATE code stands for (R40). -/
def outOfCode : Nat → OutVal
  | 2 => .short
  | 3 => .high
  | 4 => .low
  | 5 => .fwd
  | 6 => .rev
  | _ => .off

/-- Whether an output of a channel function admits a code (R41). -/
def admits (function n code : Nat) : Bool :=
  match function with
  | 1 => n == 0 && (code == 1 || code == 2)
  | 2 => n < 2 && (code == 1 || code == 2 || code == 5 || code == 6)
  | 3 => n < 4 && (code == 1 || code == 3 || code == 4)
  | _ => false

/-- Number of outputs a channel function uses (R41). -/
def outsOf : Nat → Nat
  | 1 => 1
  | 2 => 2
  | 3 => 4
  | _ => 0

/-- Whether a value drives a motor one way or the other. -/
def OutVal.isDrive : OutVal → Bool
  | .fwd | .rev => true
  | _ => false

/-- The CHANNELS item of a local channel in the die's active bank. -/
def FieldDie.chanCfg (fd : FieldDie) (d c : Nat) : ChanCfg :=
  match fd.bank with
  | none => {}
  | some b => keyed b.chans (64 * d + c) {}

/-- The LOOPS item of a local slot in the die's active bank. -/
def FieldDie.loopCfg (fd : FieldDie) (d k : Nat) : LoopCfg :=
  match fd.bank with
  | none => {}
  | some b => keyed b.loops (64 * d + k) {}

/-- An output of a channel. -/
def FieldDie.outp (fd : FieldDie) (c n : Nat) : Output := at? (at? fd.chans c {}).outs n {}

/-- The first index of a list whose item passes a test, with the item. -/
def firstWhere {α : Type} (p : α → Bool) : Nat → List α → Option (Nat × α)
  | _, [] => none
  | k, x :: t => if p x then some (k, x) else firstWhere p (k + 1) t

/-- The pulse descriptors of the die's points: thermal or not, local point, pulse number, descriptor (R236, R239). -/
def FieldDie.pulseCfgs (fd : FieldDie) (d : Nat) : List (Bool × Nat × Nat × PulseCfg) :=
  match fd.bank with
  | none => []
  | some b => match b.metering with
    | none => []
    | some mt =>
      (List.range 32).flatMap (fun p =>
        let i := at? mt.mps (32 * d + p) {}
        if i.kind = 0 then [] else [(false, p, 0, at? i.pulses 0 {}), (false, p, 1, at? i.pulses 1 {})]) ++
      (List.range 16).flatMap (fun p =>
        let i := at? mt.hps (16 * d + p) {}
        if i.kind = 0 then [] else [(true, p, 0, at? i.pulses 0 {}), (true, p, 1, at? i.pulses 1 {})])

/-- The pulse output that owns an output, with its descriptor. -/
def FieldDie.pulseOf (fd : FieldDie) (d c n : Nat) : Option (Bool × Nat × Nat × PulseCfg) :=
  (fd.pulseCfgs d).find? fun x => x.2.2.2.onCode != 0 && x.2.2.2.ch == c && x.2.2.2.out == n

/-- The state of a pulse output. -/
def FieldDie.pulse (fd : FieldDie) (thermal : Bool) (p k : Nat) : PulseOut :=
  if thermal then at? (at? fd.hps p {}).pulses k {} else at? (at? fd.mps p {}).pulses k {}

/-- The loop slot that owns an output (R182, R231). -/
def FieldDie.loopOf (fd : FieldDie) (d c n : Nat) : Option (Nat × LoopCfg) :=
  match fd.bank with
  | none => none
  | some b =>
    (b.loops.find? fun x => x.1 / 64 == d && x.2.kind == 1 && x.2.outCh == c && x.2.outN == n).map
      fun x => (x.1 % 64, x.2)

/-- Whether a connector is masked in COMMISSION (R42). -/
def FieldDie.masked (fd : FieldDie) (d c : Nat) : Bool :=
  match fd.bank with
  | none => false
  | some b => fd.inComm && !nbit b.safety.commConnectors (2 * d + c / 32)

/-- Whether a group's bridges have their domain ON (R444). -/
def FieldDie.brgOn (fd : FieldDie) (g : Nat) : Bool := (at? fd.doms (9 + g) {}).state == .on

/-- cos (k pi / 32) for k from 0 to 16, times 10^9. -/
def cosQuarter : List Int :=
  [1000000000, 995184727, 980785280, 956940336, 923879533, 881921264, 831469612, 773010453, 707106781, 634393284,
   555570233, 471396737, 382683432, 290284677, 195090322, 98017140, 0]

/-- cos of a microstep angle of k pi / 32, times 10^9 (R191). -/
def cosMicro (k : Nat) : Int :=
  let k := k % 64
  if k ≤ 16 then at? cosQuarter k 0
  else if k ≤ 32 then -(at? cosQuarter (32 - k) 0)
  else if k ≤ 48 then -(at? cosQuarter (k - 32) 0)
  else at? cosQuarter (64 - k) 0

/-- sin of a microstep angle of k pi / 32, times 10^9 (R191). -/
def sinMicro (k : Nat) : Int := cosMicro (k + 48)

/-- The microstep angle at a position: p mod 64, in units of pi / 32 (R191). -/
def microAngle (p : Int) : Nat := (p % 64).toNat

/-- A current limit in mA with the cap of COMMISSION (R42, R177). -/
def FieldDie.capped (fd : FieldDie) (ma : Nat) : Nat :=
  match fd.bank with
  | none => ma
  | some b => if fd.inComm then min ma b.safety.commMaxCurrent else ma

/-- The current I of an axis in force, mA rms: RUN_CURRENT while it moves, HOLD_CURRENT in the hold time, none at
standstill (R177, R210). -/
def FieldDie.axisCurrent (fd : FieldDie) (d c : Nat) : Nat :=
  let i := fd.chanCfg d c
  match (at? fd.axes c {}).state with
  | .moving => fd.capped i.runCurrent
  | .holding => fd.capped i.holdCurrent
  | _ => 0

/-- The setpoint of a bridge of a channel in microampere: coil 1 (bridge 0) and coil 2 (bridge 1) of an axis at the
microstep angle of its position, the limit of a drive that runs, 1.5 A for the outputs of SWITCHED_OUTPUTS (R177). -/
def FieldDie.setpoint (fd : FieldDie) (d c bridge : Nat) : Int :=
  let i := fd.chanCfg d c
  match i.function with
  | 1 =>
    let k := microAngle (at? fd.axes c {}).pCmd
    let w := if bridge = 0 then cosMicro k else sinMicro k
    Int.tdiv (1414213562 * fd.axisCurrent d c * w) 1000000000000000
  | 2 => if (fd.outp c bridge).now.isDrive then 1000 * fd.capped i.runCurrent else 0
  | 3 => 1000 * fd.capped 1500
  | _ => 0

/-- Whether a die has ended its metering and its loop slots for the final save (R260). -/
def FieldDie.atRest (fd : FieldDie) (supply : Bool) : Bool :=
  !supply && (List.range 8).all fun g => (at? fd.doms (1 + g) {}).state != .on

/-- Ranks 1 to 3 of R182 with the supply of the bridges: whether the switches of an output are held open. -/
def FieldDie.openBy (fd : FieldDie) (supply : Bool) (c n : Nat) : Bool :=
  !supply || !fd.powered || fd.railLow || !fd.brgOn (c / 8) || (fd.outp c n).fault != 0 || fd.bank.isNone
    || fd.clockFailed

/-- The value ranks 5 to 8 of R182 give an output that no metering pulse owns. -/
def FieldDie.ranked (fd : FieldDie) (d c n : Nat) : OutVal :=
  let o := fd.outp c n
  let i := fd.chanCfg d c
  let ax := at? fd.axes c {}
  if o.safe || fd.masked d c then outOfCode (at? i.safe n 0)
  else if i.function = 1 then
    (match ax.state with
     | .moving | .holding => .step
     | _ => if ax.item.standstill = 1 then .short else .off)
  else match fd.loopOf d c n with
    | some (k, l) =>
      let s := at? fd.loops k {}
      if s.fbSafe then outOfCode (at? i.safe n 0) else outOfCode (if s.on then l.onCode else l.offCode)
    | none => o.cmd

/-- Whether an output carries its SAFE_STATE: by an event of R184, under the mask of COMMISSION, or for a loop slot in
FB_SAFE (R182, R227). -/
def FieldDie.safeHeld (fd : FieldDie) (d c n : Nat) : Bool :=
  (fd.outp c n).safe || fd.masked d c ||
    (match fd.loopOf d c n with
     | some (k, _) => (at? fd.loops k {}).fbSafe
     | none => false)

/-- The value an output should carry: the highest row of R182 that applies, with the end of a safe drive (R185) and of
travel (R179). -/
def FieldDie.wanted (fd : FieldDie) (d : Nat) (supply : Bool) (c n : Nat) : OutVal :=
  let o := fd.outp c n
  if n ≥ outsOf (fd.chanCfg d c).function || fd.openBy supply c n then .off
  else match fd.pulseOf d c n with
    | some (h, p, k, pc) => if (fd.pulse h p k).active then outOfCode pc.onCode else .off
    | none =>
      let v := fd.ranked d c n
      if fd.safeHeld d c n && v.isDrive && o.safeDriveDone then .off
      else if o.endOut && v == o.endCmd then .off
      else v

/-- An output moved toward the value it should carry: a change between the drives passes through 20 ms of OFF
(R179). -/
def Output.drive (now : Nat) (w : OutVal) (o : Output) : Output :=
  if w.isDrive then
    if o.now == w then { o with turning := none }
    else
      let o := if o.now.isDrive then { o with lastDir := o.now, lastDriveEnd := now } else o
      if o.lastDir.isDrive && o.lastDir != w && decide (now < o.lastDriveEnd + 20000000) then
        { o with now := .off, turning := some w }
      else { o with now := w, turning := none }
  else
    let o := if o.now.isDrive then { o with lastDir := o.now, lastDriveEnd := now } else o
    { o with now := w, turning := none }

/-- Whether an output is in its safe state, by an event of R184 or under the mask of COMMISSION; a metering pulse output
never is (R182, R184, R257). -/
def FieldDie.inSafe (fd : FieldDie) (d c n : Nat) : Bool :=
  (fd.outp c n).safe ||
    fd.masked d c && decide (n < outsOf (fd.chanCfg d c).function) && (fd.pulseOf d c n).isNone

/-- `FLD_CH_STATUS` of a channel. -/
def FieldDie.chStatus (fd : FieldDie) (d c : Nat) : Nat :=
  let ch := at? fd.chans c {}
  let os := ch.outs
  flags ((List.range 4).map fun n => fd.inSafe d c n)
    + 16 * flags (os.map fun o => o.fault != 0)
    + 256 * flags [ch.in1Ovr, ch.in2Ovr, ch.in1Open, ch.in2Open, (fd.outp c 0).endOut, (fd.outp c 1).endOut,
        ch.supplyLimit, ch.encErr]

/-- `MOT_STATUS.STATE` code (R206). -/
def AxisState.code : AxisState → Nat
  | .notAxis => 0
  | .standstill => 1
  | .waiting => 2
  | .moving => 3
  | .holding => 4
  | .fault => 5
  | .safe => 6

/-- An energised axis is MOVING or HOLDING (ch. 07). -/
def Axis.energised (a : Axis) : Bool := a.state == .moving || a.state == .holding

/-- `MOT_STATUS` of an axis. -/
def Axis.status (a : Axis) : Nat :=
  a.state.code + 8 * flags [a.dirNeg, a.accPending, a.energised, a.referenced] + 256 * a.queue.length
    + 65536 * a.ackSeq

/-- A difference of encoder counts as a signed 32-bit value (R206). -/
def countDiff (a b : BitVec 32) : Int := (a - b).toInt

/-- A quotient rounded to the nearest integer, halves toward zero (R206). -/
def roundHalfZero (a : Int) (b : Nat) : Int :=
  if a ≥ 0 then (((2 * a.toNat + b - 1) / (2 * b) : Nat) : Int)
  else -(((2 * (-a).toNat + b - 1) / (2 * b) : Nat) : Int)

/-- Encoder-derived position of an axis (R206). -/
def Axis.pEnc (a : Axis) (count : BitVec 32) : Int :=
  a.pRef + roundHalfZero (a.item.encNum * countDiff count a.cRef) (max 1 a.item.encDen)

/-- `LP_STATUS.MODE` code (R223). -/
def LoopMode.code : LoopMode → Nat
  | .unused => 0
  | .disabled => 1
  | .auto => 2
  | .fallback => 3

/-- u of R226: the driven value equals ON_CODE; for a PUBLISH slot, its state. -/
def FieldDie.loopU (fd : FieldDie) (d k : Nat) : Bool :=
  let l := fd.loopCfg d k
  if l.kind = 1 then (fd.outp l.outCh l.outN).now == outOfCode l.onCode else (at? fd.loops k {}).on

/-- Whether a rank above 7 of R182 holds a slot's output. -/
def FieldDie.overridden (fd : FieldDie) (d : Nat) (supply : Bool) (k : Nat) : Bool :=
  let l := fd.loopCfg d k
  l.kind == 1 && (fd.openBy supply l.outCh l.outN || (fd.outp l.outCh l.outN).safe || fd.masked d l.outCh)

/-- `LP_STATUS` of a slot. -/
def FieldDie.loopStatus (fd : FieldDie) (d : Nat) (supply : Bool) (k : Nat) : Nat :=
  let s := at? fd.loops k {}
  s.mode.code
    + 4 * flags [s.on, s.mode != .unused && fd.loopU d k, s.minHold, fd.overridden d supply k, s.inputBad, s.plaus]
    + 256 * s.count + 65536 * s.ackSeq

end Sys2Proof.Machine
end

