-- ==== Sys2Proof/Machine/Channels.lean ====
section
/-! DEFINITION. The field channels: what drives an output, faults, safe states, inputs and the field register window
(chapter 06). -/

namespace Sys2Proof.Machine

/-- A die ID of a field die (R5). -/
def fdId (d : Nat) : Nat := 4 + d

/-- An output of a channel changed. -/
def Module.updOut (m : Module) (d c n : Nat) (f : Output → Output) : Module :=
  m.updChan d c fun ch => { ch with outs := upd ch.outs n f }

/-- The minimum-time instants of a loop slot as its driven value changes (R224). -/
def loopDriven (now : Nat) (on : OutVal) (before after : OutVal) (s : LoopSlot) : LoopSlot :=
  if before == after then s
  else if after == on then { s with onSince := some now }
  else if before == on then { s with offSince := some now }
  else s

/-- One output brought to the value R182 gives it now; a safe drive begins with the safe state it belongs to (R185). -/
def refreshOut (d c n : Nat) (m : Module) : Module :=
  let fd := m.fd d
  let o := fd.outp c n
  let held := fd.safeHeld d c n
  let free := !fd.openBy m.supplyGood c n
  let o := if held then o else { o with safeDriveAt := none, safeDriveDone := false }
  let o := if o.endOut && free && fd.ranked d c n != o.endCmd then { o with endOut := false } else o
  let fd := { fd with chans := upd fd.chans c fun ch => { ch with outs := upd ch.outs n fun _ => o } }
  let o' := o.drive m.now (fd.wanted d m.supplyGood c n)
  let o' := if held && o'.now.isDrive && o'.safeDriveAt.isNone then { o' with safeDriveAt := some m.now } else o'
  let m := m.updOut d c n fun _ => o'
  match fd.loopOf d c n with
  | none => m
  | some (k, l) =>
    m.updFd d fun fd =>
      { fd with loops := upd fd.loops k (loopDriven m.now (outOfCode l.onCode) o.now o'.now) }

/-- A channel's outputs brought to their values. -/
def refreshCh (d c : Nat) (m : Module) : Module := forEach [0, 1, 2, 3] (refreshOut d c) m

/-- A die's outputs brought to their values. -/
def refreshFd (d : Nat) (m : Module) : Module := forEach (List.range 64) (refreshCh d) m

/-- Every field die's outputs brought to their values. -/
def refreshAll (m : Module) : Module := forEach m.fdList refreshFd m

/-- An axis taken out of motion: the step generator stops, the queue goes, and the slot is released with the next
frame (R207, R208, R213). -/
def axisDrop (d c : Nat) (st : AxisState) (m : Module) : Module :=
  let fd := m.fd d
  let a := at? fd.axes c {}
  let slot := a.energised || a.granted
  let a' : Axis := { a with state := st, queue := [], plan := none, speed := 0, granted := false }
  m.updFd d fun fd =>
    { fd with axes := upd fd.axes c (fun _ => a'),
              relSlots := if slot then fd.relSlots ++ [c] else fd.relSlots }

/-- Commanded position set from the encoder, held within the limits (R206, R207). -/
def Axis.fromEnc (a : Axis) (count : BitVec 32) : Axis :=
  { a with pCmd := (clampI a.item.posMin a.item.posMax (a.pEnc count)).1, beyond := 0 }

/-- An axis put in SAFE: the step generator stops within one PWM cycle, the queue goes, p_cmd is p_enc (R185, R208). -/
def axisSafe (d c : Nat) (m : Module) : Module :=
  let m := axisDrop d c .safe m
  m.updFd d fun fd =>
    let count := (at? fd.chans c {}).enc
    { fd with axes := upd fd.axes c fun a => { a with pCmd := a.pEnc count, beyond := 0 } }

/-- An axis stopped by a bridge fault: the steps cease, p_cmd is p_enc within the limits; an axis in SAFE stands already
and reads SAFE until the safe state is left (R208). -/
def axisBridgeFault (d c : Nat) (m : Module) : Module :=
  let st := (at? (m.fd d).axes c {}).state
  if st == .notAxis || st == .safe then m
  else
    let m := axisDrop d c .fault m
    m.updFd d fun fd => { fd with axes := upd fd.axes c fun a => a.fromEnc (at? fd.chans c {}).enc }

/-- An axis leaves FAULT for STANDSTILL once no fault bit is set (R206, R209). -/
def axisUnfault (d c : Nat) (m : Module) : Module :=
  let fd := m.fd d
  let a := at? fd.axes c {}
  if a.state == .fault && !a.stall && !a.limit && (fd.outp c 0).fault == 0 then
    m.updFd d fun fd =>
      { fd with axes := upd fd.axes c fun a => { a.fromEnc (at? fd.chans c {}).enc with state := .standstill } }
  else m

/-- An axis whose safe state is left: p_cmd is p_enc within the limits, and it is in STANDSTILL, or in FAULT while a fault
bit is set (R206, R208). -/
def axisLeaveSafe (d c : Nat) (m : Module) : Module :=
  let fd := m.fd d
  let a := at? fd.axes c {}
  if a.state == .safe && !fd.inSafe d c 0 then
    let bad := a.stall || a.limit || (fd.outp c 0).fault != 0
    m.updFd d fun fd =>
      { fd with axes := upd fd.axes c fun a =>
          { a.fromEnc (at? fd.chans c {}).enc with state := if bad then .fault else .standstill } }
  else m

/-- Outputs an affected bridge carries: both bridges of a stepper count as output 0 (R164, R180). -/
def bridgeOuts (function bridge : Nat) : List Nat :=
  match function with
  | 1 => [0]
  | 2 => [bridge % 2]
  | 3 => if bridge % 2 = 0 then [0, 1] else [2, 3]
  | _ => []

/-- A fault on outputs of a channel: the switches open, cause and flags are set, and each output's fault is recorded
(R180). The last command gives way, so that the output acts on the next one it receives (R181). -/
def faultOuts (d c : Nat) (ns : List Nat) (cause : Nat) (m : Module) : Module :=
  if ns = [] then m
  else
    let m := m.updChan d c fun ch => { ch with fault := ch.fault ||| 1 <<< cause }
    let fd := m.fd d
    let m := forEach ns (fun n m =>
      let held := fd.safeHeld d c n
      let m := m.updOut d c n fun o =>
        { o with fault := o.fault ||| 1 <<< cause, cmd := .off, safeDriveDone := held }
      reportFd d 6 0x4001 (64 * d + c) n cause m) m
    let m := if ((m.fd d).chanCfg d c).function = 1 then axisBridgeFault d c m else m
    refreshCh d c (raiseFd d 1 m)

/-- Whether a field die takes part: fitted, supplied, its reference sound (R452). -/
def Module.fdUp (m : Module) (d : Nat) : Bool :=
  decide (d < m.variant.nFd) && (m.fd d).powered && !(m.fd d).clockFailed

/-- Cause bits of a channel's faults cleared, as far as the group's temperature allows (R181). The safe state of an
output that is in force starts afresh (R186). -/
def clearFaults (d c causes : Nat) (m : Module) : Module :=
  let fd := m.fd d
  let ch := at? fd.chans c {}
  let hot := decide ((at? fd.brg (c / 8) {}).temp ≥ 1450)
  let causes := causes &&& ch.fault &&& (if hot then 7 else 15)
  let m := m.updChan d c fun ch => { ch with fault := ch.fault &&& (15 ^^^ causes) }
  let m := forEach [0, 1, 2, 3] (fun n m =>
    let o := (m.fd d).outp c n
    let gone := o.fault &&& causes
    if gone = 0 then m
    else
      let m := m.updOut d c n fun o =>
        { o with fault := o.fault ^^^ gone, safeDriveAt := none, safeDriveDone := false }
      forEach [0, 1, 2, 3] (fun b => when (nbit gone b) (reportFd d 6 0x4002 (64 * d + c) n b)) m) m
  let g := c / 8
  let left := (List.range 8).any fun k => nbit (at? (m.fd d).chans (8 * g + k) {}).fault 3
  let m := if left then m else m.updFd d fun fd => { fd with brg := upd fd.brg g fun x => { x with shutdown := false } }
  refreshCh d c (axisUnfault d c m)

/-- A command or register write rejected for its claim: counted once for each command, recorded once (R187). -/
def rejectClaim (d claim n : Nat) (m : Module) : Module :=
  let m := m.updFd d fun fd => { fd with claimRejected := sat max32 (fd.claimRejected + n) }
  reportFd d 6 0x4008 (fdId d) claim (m.fd d).claim (raiseFd d 0x20 m)

/-- An access that a view makes to a die it cannot reach is counted (R505). -/
def unreachable (l : LaneId) (m : Module) : Module :=
  m.updLane l fun L => { L with sys := { L.sys with unreach := sat 65535 (L.sys.unreach + 1) } }

/-- Whether a field die answers a lane's window: fitted, supplied, link up. -/
def Module.fdReach (m : Module) (l : LaneId) (d : Nat) : Bool := m.fdUp d && at? (m.lane l).fldUp d false

/-- A register write carried to a field die, tagged with the writing lane's claim (R188, R274, R505); a lane beside
another that is not active is rejected (R508). An absent die ignores it (R190). -/
def fldWrite (l : LaneId) (v : View) (d : Nat) (f : Module → Module) (m : Module) : Module :=
  guardWrite l v (fun m =>
    if d ≥ m.variant.nFd then m
    else if !m.fdReach l d then unreachable l m
    else
      let claim := mkClaim (claimEpoch (m.lane l).red.claim) l
      let idle := m.variant == .nfj8 && !m.active l
      if claim ≠ (m.fd d).claim || idle then rejectClaim d claim 1 m else f m) m

/-- Outputs of a die put in their safe states: those a selector names, pulse outputs apart (R184). The cause is the
code of event SAFE_STATE_ENTERED; an output already in its safe state stays as it is unless its item changed, and one
under the mask of COMMISSION goes on with its safe drive (R185). -/
def enterSafe (d : Nat) (sel : Nat → Nat → Bool) (cause : Nat) (m : Module) : Module :=
  let fd := m.fd d
  let hit := (List.range 64).flatMap fun c =>
    (List.range (outsOf (fd.chanCfg d c).function)).filterMap fun n =>
      if sel c n && (fd.pulseOf d c n).isNone && (!(fd.outp c n).safe || cause == 2) then some (c, n) else none
  if hit = [] then m
  else
    let m := forEach hit (fun x m =>
      let on := cause != 2 && fd.masked d x.1
      let m := m.updOut d x.1 x.2 fun o =>
        { o with safe := true, safeByLane := decide (cause = 1), safeDriveAt := if on then o.safeDriveAt else none
                 safeDriveDone := on && o.safeDriveDone }
      if (fd.chanCfg d x.1).function = 1 then axisSafe d x.1 m else m) m
    let m := forEach hit (fun x => refreshOut d x.1 x.2) m
    reportFd d 6 0x4006 (fdId d) cause hit.length (raiseFd d 0x10 m)

/-- The connectors that the mask of COMMISSION holds have changed: outputs newly under it take their safe states, which is
recorded, and those it lets go leave them (R42, R184, R185, R208). `was` tells which channels it held before. -/
def maskChanged (d : Nat) (was : Nat → Bool) (m : Module) : Module :=
  let fd := m.fd d
  let turned := (List.range 64).filter fun c => fd.masked d c != was c
  let outs := turned.flatMap fun c => (List.range (outsOf (fd.chanCfg d c).function)).filterMap fun n =>
    if (fd.pulseOf d c n).isNone then some (c, n) else none
  let m := forEach outs (fun x m => m.updOut d x.1 x.2 fun o =>
    if o.safe then o else { o with safeDriveAt := none, safeDriveDone := false }) m
  let hit := outs.filter fun x => fd.masked d x.1
  let m := forEach turned (fun c m =>
    if (fd.chanCfg d c).function != 1 then m
    else if !fd.masked d c then axisLeaveSafe d c m
    else if (at? fd.axes c {}).state == .safe then m
    else axisSafe d c m) m
  let m := forEach outs (fun x => refreshOut d x.1 x.2) m
  if hit = [] then m else reportFd d 6 0x4006 (fdId d) 3 hit.length (raiseFd d 0x10 m)

/-- A safe state ended by a command that applies to the output; under the mask of COMMISSION the safe drive goes on
(R184). -/
def leaveSafe (masked : Bool) (o : Output) : Output :=
  { o with safe := false, safeByLane := false, safeDriveAt := if masked then o.safeDriveAt else none
           safeDriveDone := masked && o.safeDriveDone }

/-- A published code applied to an output (R183, R511): a code the output does not admit applies OFF and is recorded
at most once per second. A faulted output keeps it as its last command (R186). -/
def applyOut (d c n code : Nat) (m : Module) : Module :=
  let f := (m.fd d).chanCfg d c |>.function
  if n ≥ outsOf f then m
  else
    let ok := admits f n code
    let o := (m.fd d).outp c n
    let masked := (m.fd d).masked d c
    let say := !ok && (match o.invalidAt with | none => true | some t => decide (t + 1000000000 ≤ m.now))
    let m := m.updOut d c n fun o =>
      let v := outOfCode (if ok then code else 1)
      let o := leaveSafe masked o
      { o with cmd := v, endOut := o.endOut && v == o.endCmd, invalidAt := if say then some m.now else o.invalidAt }
    let m := if say then reportFd d 5 0x300A (64 * d + c) n code m else m
    refreshOut d c n m

/-- OVERCURRENT_TRIP: a switch exceeds 2.5 A for 1 us and its bridge opens (R176, R180). -/
def overcurrentTripBody (d ch bridge : Nat) (_ : Store) (m : Module) : Module :=
  if m.fdUp d then faultOuts d ch (bridgeOuts ((m.fd d).chanCfg d ch).function bridge) 0 m else m

/-- CURRENT_LIMIT_TIMEOUT: a SWITCHED_OUTPUTS output in current limit for 20 ms (R178). -/
def currentLimitTimeoutBody (d ch out : Nat) (_ : Store) (m : Module) : Module :=
  if m.fdUp d && ((m.fd d).chanCfg d ch).function == 3 && decide (out < 4) then faultOuts d ch [out] 1 m else m

/-- Whether OPEN_LOAD is tested on a bridge: an axis that moves counts the periods at which the coil's setpoint is at
least 100 mA, so its peak decides; an axis in hold time is tested at the coil's own setpoint, a drive while it runs
(R180). -/
def FieldDie.loadTested (fd : FieldDie) (d c bridge : Nat) : Bool :=
  match (fd.chanCfg d c).function with
  | 1 =>
    (match (at? fd.axes c {}).state with
     | .moving => decide (100000000 ≤ 1414213562 * fd.axisCurrent d c / 1000)
     | .holding => decide (100000 ≤ (fd.setpoint d c (bridge % 2)).natAbs)
     | _ => false)
  | 2 => decide (100000 ≤ (fd.setpoint d c (bridge % 2)).natAbs)
  | _ => false

/-- OPEN_LOAD_DETECTED: 64 counting chopping periods below 10 % of a setpoint of at least 100 mA (R180). -/
def openLoadDetectedBody (d ch bridge : Nat) (_ : Store) (m : Module) : Module :=
  if m.fdUp d && (m.fd d).loadTested d ch bridge then
    faultOuts d ch (bridgeOuts ((m.fd d).chanCfg d ch).function bridge) 2 m
  else m

/-- THERMAL_SHUTDOWN: a group's sensor reaches 160 degree C; every bridge of the group opens (R180). -/
def thermalShutdownBody (d grp : Nat) (_ : Store) (m : Module) : Module :=
  if m.fdUp d && decide (grp < 8) then
    let m := m.updFd d fun fd =>
      { fd with brg := upd fd.brg grp fun g => { g with shutdown := true, warn := true, temp := max g.temp 1600 } }
    let m := forEach (List.range 8) (fun k m =>
      let c := 8 * grp + k
      faultOuts d c (List.range (outsOf ((m.fd d).chanCfg d c).function)) 3 m) m
    raiseFd d 2 m
  else m

/-- THERMAL_WARNING: a group at or above 135 degree C; it opens nothing (R180). -/
def thermalWarningBody (d grp temp : Nat) (_ : Store) (m : Module) : Module :=
  if m.fdUp d && decide (grp < 8) && decide (1350 ≤ temp) then
    let m := m.updFd d fun fd => { fd with brg := upd fd.brg grp fun g => { g with warn := true, temp := temp } }
    reportFd d 6 0x4003 (fdId d) grp temp (raiseFd d 2 m)
  else m

/-- END_OF_TRAVEL: a drive at its limit for 500 ms opens and sets END_OUT; it ends a safe drive (R179, R185). -/
def endOfTravelBody (d ch out : Nat) (_ : Store) (m : Module) : Module :=
  let o := (m.fd d).outp ch out
  if m.fdUp d && ((m.fd d).chanCfg d ch).function == 2 && o.now.isDrive then
    refreshOut d ch out (m.updOut d ch out fun o =>
      { o with endOut := true, endCmd := o.now, safeDriveDone := o.safeDriveDone || o.safeDriveAt.isSome })
  else m

/-- DIRECTION_CHANGE_END: the 20 ms of OFF between the drives are over (R179). -/
def directionChangeEndBody (d ch out : Nat) (_ : Store) (m : Module) : Module :=
  let o := (m.fd d).outp ch out
  if m.fdUp d && o.turning.isSome then refreshOut d ch out (clockTo (o.lastDriveEnd + 20000000) m) else m

/-- SAFE_DRIVE_END: SAFE_DRIVE_TIME of a safe drive is over and the output goes OFF (R185). -/
def safeDriveEndBody (d ch out : Nat) (_ : Store) (m : Module) : Module :=
  let fd := m.fd d
  match (fd.outp ch out).safeDriveAt with
  | none => m
  | some t =>
    if m.fdUp d && fd.safeHeld d ch out then
      let m := clockTo (t + (fd.chanCfg d ch).safeDriveTime * 1000000) m
      refreshOut d ch out (m.updOut d ch out fun o => { o with safeDriveDone := true })
    else m

/-- RAIL_LOW: the rail falls below 6.0 V and every bridge of the die opens (R176). -/
def railLowBody (d mv : Nat) (_ : Store) (m : Module) : Module :=
  if m.fdUp d && !(m.fd d).railLow && decide (mv < 6000) then
    let m := m.updFd d fun fd => { fd with railLow := true, railMv := mv }
    reportFd d 6 0x4007 (fdId d) mv 0 (raiseFd d 8 (refreshFd d m))
  else m

/-- RAIL_RESTORED: the rail is above 6.5 V again (R176). -/
def railRestoredBody (d mv : Nat) (_ : Store) (m : Module) : Module :=
  if m.fdUp d && (m.fd d).railLow && decide (mv > 6500) then
    refreshFd d (m.updFd d fun fd => { fd with railLow := false, railMv := mv })
  else m

/-- The current limit of a sensor supply in force: the one the governor holds, else SENSOR_LIMIT (R44, R440, R442). -/
def FieldDie.supplyMax (fd : FieldDie) (half : Nat) : Nat :=
  (at? fd.supplies half {}).held.getD ((fd.bank.map (·.power.sensorLimit)).getD 0)

/-- SENSOR_SUPPLY_LIMIT: a connector's sensor supply that is on enters current limit as its draw reaches its limit, or
leaves it (R172, R442). -/
def sensorSupplyLimitBody (d half ma : Nat) (on : Bool) (_ : Store) (m : Module) : Module :=
  let s := at? (m.fd d).supplies half {}
  let due := !on || (s.on && decide ((m.fd d).supplyMax half ≤ ma))
  if m.fdUp d && decide (half < 2) && s.limit != on && due then
    let m := m.updFd d fun fd =>
      { fd with supplies := upd fd.supplies half fun s => { s with limit := on, ma := ma },
                chans := fd.chans.zipIdx.map fun x =>
                  if x.2 / 32 = half then { x.1 with supplyLimit := on } else x.1 }
    let m := if on then raiseFd d 4 m else m
    reportFd d 6 0x4004 (2 + 2 * d + half) ma (b2n on) m
  else m

/-- The count of an edge pair of ENC A and ENC B by mode (R174): the change, and whether the transition is illegal. -/
def encoderStep (mode : Nat) (a b a' b' : Bool) : Int × Bool :=
  match mode with
  | 1 =>
    if a != a' && b != b' then (0, true)
    else if a != a' then (if a' != b' then (1, false) else (-1, false))
    else if b != b' then (if a' == b' then (1, false) else (-1, false))
    else (0, false)
  | 2 => if !a && a' then (1, false) else (0, false)
  | 3 => if !a && a' then (if b' then (-1, false) else (1, false)) else (0, false)
  | _ => (0, false)

/-- ENCODER_EDGE: the filtered levels of ENC A and ENC B become `a` and `b` (R174). -/
def encoderEdgeBody (d ch : Nat) (a b : Bool) (_ : Store) (m : Module) : Module :=
  if m.fdUp d && decide (ch < 64) then
    let i := (m.fd d).chanCfg d ch
    let c := m.chan d ch
    let e := encoderStep i.encMode c.encA c.encB a b
    let m := m.updChan d ch fun c =>
      { c with encA := a, encB := b, enc := c.enc + BitVec.ofInt 32 e.1, encErr := c.encErr || e.2
               encErrRep := c.encErrRep || e.2 }
    if e.2 && !c.encErrRep then reportFd d 6 0x4005 (64 * d + ch) 3 2 m else m
  else m

/-- The test injection that replaces a channel's input: the input and the level (R315). -/
def Module.injected (m : Module) (d c : Nat) : Option (Nat × Nat) :=
  let s := (m.lane (claimLane (m.fd d).claim)).sys
  if s.testEnable && s.mode == .commission && s.testCh == 64 * d + c then some (s.testInput, s.testLevel) else none

/-- The measured quantity an injection level stands for on a range: a fraction of its span above its bottom (R315). -/
def injectedX (range level : Nat) : Int :=
  let e := if range ≤ 5 then rangeEnds range else rangeLimits range
  let pct : Int := match level with
    | 1 => 10
    | 2 => 50
    | 3 => 90
    | 4 => 100
    | _ => 0
  e.1 + fdiv ((e.2 - e.1) * pct) 100

/-- What an input measures, with an injection in the place of the measurement (R315). -/
def Module.measured (m : Module) (d c input range : Nat) (x : Int) : Int :=
  match m.injected d c with
  | some (i, level) => if i = input then injectedX range level else x
  | none => x

/-- Whether a metering point accumulates nothing because a channel bound to it is under injection (R315). -/
def Module.injectedPoint (m : Module) (d : Nat) (thermal : Bool) (p : Nat) : Bool :=
  (List.range 64).any fun c =>
    let i := (m.fd d).chanCfg d c
    (m.injected d c).isSome && i.function == (if thermal then 7 else 4) &&
      i.point == (if thermal then 16 * d + p else 32 * d + p)

/-! ## Meanings of the commands -/

/-- OVERCURRENT_TRIP (R180). -/
def execOvercurrentTrip (d : Nat) (ch : Nat) (bridge : Nat) (s : State) : Host.Outcome State Fault Refusal :=
  .next (commit s (overcurrentTripBody d ch bridge))

/-- CURRENT_LIMIT_TIMEOUT (R178). -/
def execCurrentLimitTimeout (d : Nat) (ch : Nat) (out : Nat) (s : State) : Host.Outcome State Fault Refusal :=
  .next (commit s (currentLimitTimeoutBody d ch out))

/-- OPEN_LOAD_DETECTED (R180). -/
def execOpenLoadDetected (d : Nat) (ch : Nat) (bridge : Nat) (s : State) : Host.Outcome State Fault Refusal :=
  .next (commit s (openLoadDetectedBody d ch bridge))

/-- THERMAL_SHUTDOWN (R180). -/
def execThermalShutdown (d : Nat) (grp : Nat) (s : State) : Host.Outcome State Fault Refusal :=
  .next (commit s (thermalShutdownBody d grp))

/-- THERMAL_WARNING (R180). -/
def execThermalWarning (d : Nat) (grp : Nat) (temp : Nat) (s : State) : Host.Outcome State Fault Refusal :=
  .next (commit s (thermalWarningBody d grp temp))

/-- END_OF_TRAVEL (R179). -/
def execEndOfTravel (d : Nat) (ch : Nat) (out : Nat) (s : State) : Host.Outcome State Fault Refusal :=
  .next (commit s (endOfTravelBody d ch out))

/-- DIRECTION_CHANGE_END (R179). -/
def execDirectionChangeEnd (d : Nat) (ch : Nat) (out : Nat) (s : State) : Host.Outcome State Fault Refusal :=
  .next (commit s (directionChangeEndBody d ch out))

/-- SAFE_DRIVE_END (R185). -/
def execSafeDriveEnd (d : Nat) (ch : Nat) (out : Nat) (s : State) : Host.Outcome State Fault Refusal :=
  .next (commit s (safeDriveEndBody d ch out))

/-- RAIL_LOW (R176). -/
def execRailLow (d : Nat) (mv : Nat) (s : State) : Host.Outcome State Fault Refusal :=
  .next (commit s (railLowBody d mv))

/-- RAIL_RESTORED (R176). -/
def execRailRestored (d : Nat) (mv : Nat) (s : State) : Host.Outcome State Fault Refusal :=
  .next (commit s (railRestoredBody d mv))

/-- SENSOR_SUPPLY_LIMIT (R172). -/
def execSensorSupplyLimit (d : Nat) (half : Nat) (ma : Nat) (on : Bool) (s : State) : Host.Outcome State Fault Refusal :=
  .next (commit s (sensorSupplyLimitBody d half ma on))

/-- ENCODER_EDGE (R174). -/
def execEncoderEdge (d : Nat) (ch : Nat) (a : Bool) (b : Bool) (s : State) : Host.Outcome State Fault Refusal :=
  .next (commit s (encoderEdgeBody d ch a b))

end Sys2Proof.Machine
end

