-- ==== Sys2Proof/Machine/Axes.lean ====
section
/-! DEFINITION. Valve and damper axes: the profile of a move, the queue with its joints, commands, limits, encoder
verification, hold and admission (chapter 07). Distances and speeds of a plan are scaled by 2^32 (assumption 13). -/

namespace Sys2Proof.Machine

/-- Scale of a plan's distances and speeds. -/
def planS : Nat := 4294967296

/-- First ramp of a plan, scaled microsteps (R200). -/
def Plan.da (p : Plan) : Nat := absDiff (p.vc * p.vc) (p.vs * p.vs) / (2 * p.first * planS)

/-- Final ramp of a plan, scaled microsteps (R200). -/
def Plan.db (p : Plan) : Nat := (p.vc * p.vc - p.ve * p.ve) / (2 * p.dec * planS)

/-- Duration of the first ramp, ns. -/
def Plan.t1 (p : Plan) : Nat := absDiff p.vc p.vs * 1000000000 / (p.first * planS)

/-- Duration of the cruise, ns. -/
def Plan.t2 (p : Plan) : Nat := (p.d - p.da - p.db) * 1000000000 / p.vc

/-- Duration of the final ramp, ns. -/
def Plan.t3 (p : Plan) : Nat := (p.vc - p.ve) * 1000000000 / (p.dec * planS)

/-- End instant of a plan. -/
def Plan.tEnd (p : Plan) : Nat := p.t0 + p.t1 + p.t2 + p.t3

/-- Distance and speed of a plan at an instant, with the phase: 0 first ramp, 1 cruise, 2 final ramp, 3 over (R200). -/
def Plan.eval (p : Plan) (now : Nat) : Nat × Nat × Nat :=
  let e := 1000000000
  let t := now - p.t0
  let half (acc u : Nat) := acc * planS * u * u / (2 * e * e)
  if t < p.t1 then
    (if p.vs ≤ p.vc then (p.vs * t / e + half p.first t, p.vs + p.first * planS * t / e, 0)
     else (p.vs * t / e - half p.first t, p.vs - p.first * planS * t / e, 0))
  else if t < p.t1 + p.t2 then (p.da + p.vc * (t - p.t1) / e, p.vc, 1)
  else if t < p.t1 + p.t2 + p.t3 then
    let u := t - p.t1 - p.t2
    (min p.d (p.d - p.db + p.vc * u / e - half p.dec u), p.vc - p.dec * planS * u / e, 2)
  else (p.d, p.ve, 3)

/-- Speed of a plan at a distance from its origin (R200). -/
def Plan.speedAt (p : Plan) (x : Nat) : Nat :=
  if x ≤ p.da then
    (if p.vs ≤ p.vc then isqrt (p.vs * p.vs + 2 * p.first * x * planS) else isqrt (p.vs * p.vs - 2 * p.first * x * planS))
  else if x ≤ p.d - p.db then p.vc
  else isqrt (p.vc * p.vc - 2 * p.dec * (x - (p.d - p.db)) * planS)

/-- The plan of a move: a trapezoid, or a triangle with its peak speed (R200). `v` is the cruise speed in
microsteps/s. -/
def mkPlan (t0 : Nat) (p0 : Int) (neg : Bool) (d vs v ve acc dec : Nat) : Plan :=
  let acc := max 1 acc
  let dec := max 1 dec
  let p : Plan := { t0 := t0, p0 := p0, neg := neg, d := d, vs := vs, vc := v * planS, ve := ve, acc := acc,
                    first := if vs ≤ v * planS then acc else dec, dec := dec }
  if p.da + p.db ≤ d then p
  else { p with vc := isqrt ((2 * acc * dec * d * planS + dec * vs * vs + acc * ve * ve) / (acc + dec)), first := acc }

/-- Scaled position of a plan after a distance. -/
def Plan.pos (p : Plan) (dist : Nat) : Int := if p.neg then p.p0 - dist else p.p0 + dist

/-- The count of microstep edges at a scaled position in a direction of travel (R192). -/
def microOf (neg : Bool) (x : Int) : Int := if neg then -(fdiv (-x) planS) else fdiv x planS

/-- A signed speed. -/
def signed (neg : Bool) (v : Nat) : Int := if neg then -(v : Int) else v

/-- The first queued move begins at an instant with a start speed: pending ramps come into force and its profile is
planned (R200, R203). -/
def Axis.begin (t vs : Nat) (a : Axis) : Axis :=
  match a.queue with
  | [] => a
  | mv :: _ =>
    let ad := a.pending.getD (a.acc, a.dec)
    let neg := decide (mv.target < a.pCmd)
    { a with acc := ad.1, dec := ad.2, pending := none, accPending := false, dirNeg := neg, state := .moving,
             plan := some (mkPlan t (a.pCmd * planS) neg ((mv.target - a.pCmd).natAbs * planS) vs mv.speed mv.vEnd
               ad.1 ad.2) }

/-- A moving axis brought to an instant: its position and speed, the moves that end on the way, and the limit it meets
with its speed there (R199, R204, R210). The first argument bounds the moves that end. -/
def Axis.run : Nat → Nat → Axis → Axis × Option (Int × Int)
  | 0, _, a => (a, none)
  | n + 1, now, a =>
    match a.plan, a.queue with
    | some p, mv :: rest =>
      let e := p.eval now
      let pos := microOf p.neg (p.pos e.1)
      let spd := signed p.neg e.2.1
      let meets (limit : Int) : Int × Int :=
        (limit, signed p.neg (p.speedAt (limit * planS - p.p0).natAbs / planS))
      if p.neg && decide (pos < a.item.posMin) then (a, some (meets a.item.posMin))
      else if !p.neg && decide (a.item.posMax < pos) then (a, some (meets a.item.posMax))
      else if now < p.tEnd then ({ a with pCmd := pos, speed := spd, dirNeg := p.neg }, none)
      else if mv.clipped then (a, some (mv.target, 0))
      else
        let a := { a with pCmd := mv.target, speed := 0, queue := rest, plan := none }
        (match rest with
         | [] => ({ a with state := .holding, holdAt := p.tEnd }, none)
         | _ :: _ => Axis.run n now (a.begin p.tEnd mv.vEnd))
    | _, _ => (a, none)

/-- An axis of a field die. -/
def Module.axis (m : Module) (d c : Nat) : Axis := at? (m.fd d).axes c {}

/-- The module with one axis changed. -/
def Module.updAxis (m : Module) (d c : Nat) (f : Axis → Axis) : Module :=
  m.updFd d fun fd => { fd with axes := upd fd.axes c f }

/-- Bits of MOT_IRQ_STATUS set on the lane a field die obeys. -/
def raiseMot (d bits : Nat) (m : Module) : Module :=
  if m.fdHeard d then raise (claimLane (m.fd d).claim) 7 bits m else m

/-- The limit fault (R204). -/
def axisLimit (d c : Nat) (pos spd : Int) (m : Module) : Module :=
  let m := axisDrop d c .fault m
  let m := m.updAxis d c fun a => { a with pCmd := pos, limit := true }
  reportFd d 7 0x4102 (64 * d + c) (ofS 32 pos) (ofS 32 spd) (raiseMot d 2 m)

/-- The stall fault (R207). -/
def axisStallFault (d c : Nat) (m : Module) : Module :=
  let a := m.axis d c
  let m := axisDrop d c .fault m
  let m := m.updFd d fun fd =>
    { fd with axes := upd fd.axes c fun a =>
        { a.fromEnc (at? fd.chans c {}).enc with stall := true, stallCount := sat max32 (a.stallCount + 1) } }
  reportFd d 7 0x4101 (64 * d + c) (ofS 32 a.pCmd) (ofS 32 a.dev) (raiseMot d 1 m)

/-- States in which the stall test applies (R206). -/
def Axis.tested (a : Axis) : Bool :=
  match a.state with
  | .standstill | .waiting | .moving | .holding => true
  | _ => false

/-- The interval just ended: position, end of moves, limit, deviation and stall (R192 item 1, R206, R216). -/
def axisInterval (d c : Nat) (m : Module) : Module :=
  let fd := m.fd d
  let a := at? fd.axes c {}
  let r := if a.state == .moving then Axis.run 9 m.now a else (a, none)
  let a := r.1
  let pCmd := match r.2 with | none => a.pCmd | some l => l.1
  let e := pCmd - a.pEnc (at? fd.chans c {}).enc
  let out := a.tested && decide (e.natAbs > a.item.window)
  let a := { a with pCmd := pCmd, dev := if a.tested then e else a.dev, beyond := if out then a.beyond + 1 else 0 }
  let m := m.updAxis d c fun _ => a
  let stall := out && decide (a.beyond ≥ a.item.windowUpdates)
  let m := match r.2 with
    | none => m
    | some l => axisLimit d c l.1 l.2 m
  let m := if stall then axisStallFault d c m else m
  axisUnfault d c m

/-- A moving axis brought to the present instant, with the limit it meets (R204). -/
def axisAdvance (d c : Nat) (m : Module) : Module :=
  let a := m.axis d c
  if a.state == .moving then
    let r := Axis.run 9 m.now a
    let m := m.updAxis d c fun _ => r.1
    match r.2 with
    | none => m
    | some l => axisLimit d c l.1 l.2 m
  else m

/-- A command rejected (R198). -/
def axisReject (d c op code : Nat) (m : Module) : Module :=
  let m := m.updAxis d c fun a => { a with rejectCount := sat 65535 (a.rejectCount + 1), rejectReason := code }
  reportFd d 7 0x4103 (64 * d + c) op code (raiseMot d 4 m)

/-- The first reason of R198 that applies to a record, 0 for none. -/
def Axis.judge (a : Axis) (op : Nat) (target : Int) (speed acc dec : Nat) : Nat :=
  let move := op == 1 || op == 2 || op == 3
  let still := a.state == .standstill || a.state == .holding
  if op > 7 || a.state == .notAxis then 6
  else if move && (a.state == .fault || a.state == .safe) then 4
  else if op == 6 && (!still || decide (target < a.item.posMin) || decide (a.item.posMax < target)) then 4
  else if (op == 1 || op == 3) && !a.referenced then 5
  else if move && (speed == 0 || decide (speed > a.item.vMax)) then 2
  else if op == 5 && (acc == 0 || decide (acc > a.item.accMax) || dec == 0 || decide (dec > a.item.decMax)) then 3
  else if (op == 1 || op == 2) && decide (a.queue.length ≥ 8) then 1
  else 0

/-- A move to a position: planned to the limit where it lies outside (R204). -/
def Axis.moveTo (a : Axis) (target : Int) (speed : Nat) : Move :=
  let c := clampI a.item.posMin a.item.posMax target
  { target := c.1, speed := speed, clipped := c.2 }

/-- The joint speed between the last queued move and a new one (R201). `vs`, `d`, `acc` are the start speed, length and
acceleration of the last, `rev` whether the new one turns round, `nd`, `nv`, `ndec` the length, speed and deceleration
of the new one. -/
def jointSpeed (vs d acc lastV nd nv ndec : Nat) (rev : Bool) : Nat :=
  if rev then 0
  else min (min (lastV * planS) (nv * planS))
    (min (isqrt (2 * ndec * nd * planS)) (isqrt (vs * vs + 2 * acc * d * planS)))

/-- Position at which a queued move of index `k` starts. -/
def Axis.startOf (a : Axis) (k : Nat) : Int := if k = 0 then a.pCmd else (at? a.queue (k - 1) {}).target

/-- A move appended behind queued moves: the joint is fixed, and an executing move's final ramp is planned anew toward
it, or is left as it is once it has begun (R199, R201). -/
def Axis.append (now : Nat) (mv : Move) (a : Axis) : Axis :=
  let k := a.queue.length - 1
  let last := at? a.queue k {}
  let ad := a.pending.getD (a.acc, a.dec)
  let nd := (mv.target - last.target).natAbs * planS
  let nneg := decide (mv.target < last.target)
  match a.plan, k with
  | some p, 0 =>
    if (p.eval now).2.2 ≥ 2 then { a with queue := a.queue ++ [mv] }
    else
      let j := jointSpeed p.vs p.d p.acc last.speed nd mv.speed ad.2 (nneg != p.neg)
      { a with queue := [{ last with vEnd := j }, mv],
               plan := some (mkPlan p.t0 p.p0 p.neg p.d p.vs last.speed j p.acc p.dec) }
  | _, _ =>
    let from_ := a.startOf k
    let vs := if k = 0 then 0 else (at? a.queue (k - 1) {}).vEnd
    let j := jointSpeed vs ((last.target - from_).natAbs * planS) ad.1 last.speed nd mv.speed ad.2
      (nneg != decide (last.target < from_))
    { a with queue := (a.queue.take k) ++ [{ last with vEnd := j }, mv] }

/-- A move accepted by an axis that has none queued (R199, R210, R212). -/
def axisFirst (d c : Nat) (mv : Move) (m : Module) : Module :=
  let a := m.axis d c
  if mv.target = a.pCmd then
    (if mv.clipped then axisLimit d c mv.target 0 m else m)
  else if a.state == .holding then m.updAxis d c fun a => { a with queue := [mv] }.begin m.now 0
  else m.updAxis d c fun a => { a with queue := [mv], state := .waiting, reqAt := m.now, granted := false }

/-- An accepted MOVE_ABS or MOVE_REL (R199). -/
def axisMove (d c : Nat) (mv : Move) (m : Module) : Module :=
  if (m.axis d c).queue = [] then axisFirst d c mv m
  else m.updAxis d c fun a => a.append m.now mv

/-- The executing move becomes a stop at the rate of its deceleration from the present position (R202). -/
def Axis.stopNow (now : Nat) (a : Axis) : Axis :=
  match a.plan with
  | none => a
  | some p =>
    let e := p.eval now
    let v := e.2.1
    let p' := mkPlan now (p.pos e.1) p.neg (v * v / (2 * p.dec * planS)) v (v / planS) 0 p.acc p.dec
    let p' := { p' with vc := v, first := p.dec, d := p'.d }
    { a with plan := some p', queue := [{ target := microOf p.neg (p'.pos p'.d), speed := v / planS }] }

/-- The waiting move goes and the request with it (R202). -/
def Axis.unwait (a : Axis) : Axis := { a with queue := [], state := .standstill, granted := false }

/-- STOP (R202). A grant that came for the waiting move is given back (R216). -/
def axisStopNow (d c : Nat) (m : Module) : Module :=
  let a := m.axis d c
  match a.state with
  | .moving => m.updAxis d c (Axis.stopNow m.now)
  | .waiting =>
    let m := m.updAxis d c Axis.unwait
    if a.granted then m.updFd d fun fd => { fd with relSlots := fd.relSlots ++ [c] } else m
  | _ => m

/-- REPLACE_ABS (R202). -/
def axisReplace (d c : Nat) (mv : Move) (m : Module) : Module :=
  let a := m.axis d c
  match a.state, a.plan with
  | .waiting, _ =>
    if mv.target = a.pCmd then
      let m := axisStopNow d c m
      if mv.clipped then axisLimit d c mv.target 0 m else m
    else m.updAxis d c fun a => { a with queue := [mv] }
  | .moving, some p =>
    let e := p.eval m.now
    let pos := p.pos e.1
    let ahead := if p.neg then pos - mv.target * planS else mv.target * planS - pos
    let stop := e.2.1 * e.2.1 / (2 * p.dec * planS)
    if ahead ≥ (stop : Int) then
      m.updAxis d c fun a =>
        { a with queue := [mv],
                 plan := some (mkPlan m.now pos p.neg ahead.toNat e.2.1 mv.speed 0 p.acc p.dec) }
    else m.updAxis d c fun a =>
      let a := a.stopNow m.now
      { a with queue := a.queue ++ [mv] }
  | _, _ => axisFirst d c mv m

/-- Fault bits cleared by ACK_FAULT or a register write (R209). -/
def axisAck (d c bits source : Nat) (m : Module) : Module :=
  let a := m.axis d c
  let gone := bits &&& (b2n a.stall + 2 * b2n a.limit)
  if gone = 0 then m
  else
    let m := m.updAxis d c fun a => { a with stall := a.stall && !nbit gone 0, limit := a.limit && !nbit gone 1 }
    reportFd d 7 0x4104 (64 * d + c) gone source (axisUnfault d c m)

/-- SET_RAMPS: the values wait for the next move; one that begins at this very instant runs under them (R203, R216). -/
def Axis.setRamps (now acc dec : Nat) (a : Axis) : Axis :=
  let a := { a with pending := some (acc, dec), accPending := true }
  match a.plan with
  | some p => if p.t0 = now then a.begin now p.vs else a
  | none => a

/-- A command record acted on: the axis first reaches the present instant, then judges and does it (R195 to R205). -/
def axisAct (d c : Nat) (rec : Bytes) (m : Module) : Module :=
  let op := leAt rec 0 1
  let m := m.updAxis d c fun a => { a with ackSeq := leAt rec 1 1, cmd := none }
  let m := axisAdvance d c m
  let fd := m.fd d
  let a := m.axis d c
  let target := leIntAt rec 4 4
  let speed := leAt rec 8 4
  let code := a.judge op target speed (leAt rec 12 4) (leAt rec 16 4)
  let m :=
    if code ≠ 0 then axisReject d c op code m
    else
      let speed := match fd.bank with
        | some b => if fd.inComm then min speed b.safety.commMaxRate else speed
        | none => speed
      match op with
      | 1 => axisMove d c (a.moveTo target speed) m
      | 2 => axisMove d c (a.moveTo ((match a.queue.getLast? with | some l => l.target | none => a.pCmd) + target) speed) m
      | 3 => axisReplace d c (a.moveTo target speed) m
      | 4 => axisStopNow d c m
      | 5 => m.updAxis d c fun a => Axis.setRamps m.now (leAt rec 12 4) (leAt rec 16 4) a
      | 6 =>
        let m := m.updFd d fun fd =>
          { fd with axes := upd fd.axes c fun a =>
              { a with pCmd := target, pRef := target, cRef := (at? fd.chans c {}).enc, referenced := true } }
        reportFd d 7 0x4105 (64 * d + c) (ofS 32 a.pCmd) (ofS 32 target) m
      | 7 => axisAck d c 3 0 m
      | _ => m
  refreshOut d c 0 m

/-- The record an axis holds for this update, acted on if its operation is one a selector names (R192 item 2). -/
def axisTake (d c : Nat) (ok : Nat → Bool) (m : Module) : Module :=
  match (m.axis d c).cmd with
  | none => m
  | some rec => if m.fdUp d && ok (leAt rec 0 1) then axisAct d c rec m else m

/-- The hold time is over: the STANDSTILL action, and the slot is released (R210, R213). -/
def axisHoldEnd (d c : Nat) (m : Module) : Module := refreshOut d c 0 (axisDrop d c .standstill m)

/-- A changed MOTION item comes into force where the axis does not move and holds no queued move (R203). -/
def axisItem (d c : Nat) (m : Module) : Module :=
  m.updAxis d c fun a =>
    match a.nextItem with
    | none => a
    | some i =>
      if a.state != .moving && a.queue.isEmpty then
        { a with item := i, nextItem := none, pending := some (i.accInit, i.decInit), accPending := true }
      else a

/-- One axis at a profile update, in the order of R192; on a channel that is no axis a record is only rejected (R198). An
axis is updated once at a tick. -/
def axisUpdate (d c : Nat) (m : Module) : Module :=
  if decide (m.now ≤ (m.axis d c).updAt) then m
  else if (m.axis d c).state == .notAxis then axisTake d c (fun _ => true) m
  else
    let m := m.updAxis d c fun a => { a with updAt := m.now }
    let m := axisInterval d c m
    let m := axisItem d c m
    let m := axisTake d c (fun _ => true) m
    let a := m.axis d c
    let m :=
      if a.state == .waiting && a.granted then m.updAxis d c fun a => { a with granted := false }.begin m.now 0
      else m
    let a := m.axis d c
    let m :=
      if a.state == .holding && decide (a.holdAt + a.item.holdTime * 1000000 ≤ m.now) then axisHoldEnd d c m else m
    refreshOut d c 0 m

/-- PROFILE_UPDATE: the profile update of a field die at the next 100 us tick (R192). -/
def profileUpdateBody (d : Nat) (_ : Store) (m : Module) : Module :=
  if m.fdUp d then
    let m := clockTo (m.gridAfter 100000 (m.fd d).updAt) m
    let m := m.updFd d fun fd => { fd with updAt := m.now }
    forEach (List.range 64) (axisUpdate d) m
  else m

/-- The next profile update of one axis: the tick of its die that comes next, ahead of the die's other axes (R192). -/
def axisNext (d c : Nat) (m : Module) : Module :=
  axisUpdate d c (clockTo (m.gridAfter 100000 (max (m.fd d).updAt (m.axis d c).updAt)) m)

/-- AXIS_STALL: the profile update of an axis at which the deviation has lain beyond WINDOW for WINDOW_UPDATES updates
(R206, R207). -/
def axisStallBody (d ch : Nat) (_ : Store) (m : Module) : Module :=
  let a := m.axis d ch
  let n := axisNext d ch m
  let b := n.axis d ch
  if m.fdUp d && (decide (a.stallCount < b.stallCount) || (!a.stall && b.stall)) then n else m

/-- HOLD_TIME_EXPIRY: the first profile update at or after HOLD_TIME from the stop; a move that applies at it wins (R210,
R216). -/
def holdTimeExpiryBody (d ch : Nat) (_ : Store) (m : Module) : Module :=
  let a := m.axis d ch
  if m.fdUp d && a.state == .holding then
    axisNext d ch (clockTo (cdiv (a.holdAt + a.item.holdTime * 1000000) 100000 * 100000) m)
  else m

/-- The profile update of an axis at which its record applies, if the record's operation is the one named: faults of the
interval just ended come first (R192, R216). -/
def axisCommand (d c op : Nat) (m : Module) : Module :=
  match (m.axis d c).cmd with
  | none => m
  | some rec => if m.fdUp d && leAt rec 0 1 == op then axisNext d c m else m

/-- MOVE_ABS (R199). -/
def moveAbsBody (d ch : Nat) (_ : Store) (m : Module) : Module := axisCommand d ch 1 m

/-- MOVE_REL (R199). -/
def moveRelBody (d ch : Nat) (_ : Store) (m : Module) : Module := axisCommand d ch 2 m

/-- REPLACE_ABS (R202). -/
def replaceAbsBody (d ch : Nat) (_ : Store) (m : Module) : Module := axisCommand d ch 3 m

/-- STOP (R202). -/
def axisStopBody (d ch : Nat) (_ : Store) (m : Module) : Module := axisCommand d ch 4 m

/-- SET_RAMPS (R203). -/
def setRampsBody (d ch : Nat) (_ : Store) (m : Module) : Module := axisCommand d ch 5 m

/-- SET_POSITION (R205). -/
def setPositionBody (d ch : Nat) (_ : Store) (m : Module) : Module := axisCommand d ch 6 m

/-- ACK_FAULT (R209). -/
def ackFaultBody (d ch : Nat) (_ : Store) (m : Module) : Module := axisCommand d ch 7 m

/-- The admission budget in force: AXIS_BUDGET, in COMMISSION no more than COMM_MAX_AXES (R211). -/
def Lane.budget (L : Lane) : Nat :=
  match L.cfg.active with
  | none => 0
  | some b => if L.sys.mode == .commission then min b.power.axisBudget b.safety.commMaxAxes else b.power.axisBudget

/-- Whether one request goes before another (R212). -/
def reqBefore (a b : Nat × Nat × Nat) : Bool :=
  decide (a.2.2 < b.2.2) || a.2.2 == b.2.2 &&
    (decide (a.2.1 < b.2.1) || a.2.1 == b.2.1 && decide (a.1 ≤ b.1))

/-- A request put in its place in the order of R212. -/
def insertReq (x : Nat × Nat × Nat) : List (Nat × Nat × Nat) → List (Nat × Nat × Nat)
  | [] => [x]
  | y :: t => if reqBefore x y then x :: y :: t else y :: insertReq x t

/-- ADMISSION_ROUND: the arbiter of the active lane grants free slots in the order of R212; none while the governor is
at its second step or beyond (R214), and none until the dies of a raise have been heard; an axis of a die the lane does not
reach, or that has no heartbeat, waits (R215). -/
def admissionRoundBody (l : LaneId) (_ : Store) (m : Module) : Module :=
  let L := m.lane l
  if !L.red.holds || L.pwr.step ≥ 2 || !L.mot.await.isEmpty then m
  else
    let order := (L.mot.requests.filter fun x => m.fdReach l (x.1 / 64) && !(m.fd (x.1 / 64)).vacant).foldr insertReq []
    let pick := order.take (L.budget - L.mot.granted.length)
    let m := forEach pick (fun x m =>
      let m := send l.num (fdId (x.1 / 64)) (.grant L.red.claim (x.1 % 64)) m
      m.updLane l fun L =>
        { L with mot := { L.mot with requests := L.mot.requests.filter (·.1 != x.1),
                                     granted := L.mot.granted ++ [x.1],
                                     waitMax := max L.mot.waitMax ((m.now - x.2.1) / 1000) } }) m
    m.updLane l fun L => { L with mot := { L.mot with peak := max L.mot.peak L.mot.granted.length } }

/-- ADMISSION_GRANT: a grant of the latched claim reaches a field die over its lane's link; one for an axis that no longer
waits is returned, as is one that comes while the die has no heartbeat (R20, R213, R215, R274). A grant of another claim is passed over: it is none of the commands R187 counts. -/
def admissionGrantBody (d : Nat) (_ : Store) (m : Module) : Module :=
  match takeTo (fdId d) (fun x => match x with | .grant claim ch => some (claim, ch) | _ => none) m.mail with
  | none => m
  | some (src, (claim, ch), rest) =>
    let m := { m with mail := rest }
    if !m.fdReach (laneOfDie src) d || claim != (m.fd d).claim || claimLane claim != laneOfDie src then m
    else if (m.axis d ch).state == .waiting && !(m.fd d).vacant then m.updAxis d ch fun a => { a with granted := true }
    else m.updFd d fun fd => { fd with relSlots := fd.relSlots ++ [ch] }

/-- What the lane's arbiter learns from the axis entries of a frame (R212, R213, R215). -/
def admissionFrame (l : LaneId) (f : InFrame) (m : Module) : Module :=
  m.updLane l fun L =>
    let go (q : Mot) (x : FrameAxis) : Mot :=
      let ch := 64 * f.die + x.ch
      if x.waiting && !q.granted.contains ch then
        (if q.requests.any (·.1 == ch) then q else { q with requests := q.requests ++ [(ch, x.reqAt, x.prio)] })
      else
        let q := { q with requests := q.requests.filter (·.1 != ch) }
        if x.energised && !q.granted.contains ch then { q with granted := q.granted ++ [ch] } else q
    let q := { L.mot with granted := L.mot.granted.filter fun ch => !(ch / 64 == f.die && f.released.contains (ch % 64)) }
    let q := f.axes.foldl go q
    { L with mot := { q with await := q.await.filter (· != f.die), peak := max q.peak q.granted.length } }

/-- The governor crosses its second step: admissions are deferred or resumed, and it is recorded (R214, R217). -/
def deferEdge (l : LaneId) (before after : Nat) (m : Module) : Module :=
  let w := (m.lane l).mot.requests.length
  let b := (m.lane l).budget
  if before < 2 ∧ after ≥ 2 then report l 7 0x4106 w b 1 (raise l 7 8 m)
  else if before ≥ 2 ∧ after < 2 then report l 7 0x4106 w b 0 m
  else m

/-! ## Meanings of the commands -/

/-- PROFILE_UPDATE (R192). -/
def execProfileUpdate (d : Nat) (s : State) : Host.Outcome State Fault Refusal :=
  .next (commit s (profileUpdateBody d))

/-- AXIS_STALL (R207). -/
def execAxisStall (d : Nat) (ch : Nat) (s : State) : Host.Outcome State Fault Refusal :=
  .next (commit s (axisStallBody d ch))

/-- HOLD_TIME_EXPIRY (R210). -/
def execHoldTimeExpiry (d : Nat) (ch : Nat) (s : State) : Host.Outcome State Fault Refusal :=
  .next (commit s (holdTimeExpiryBody d ch))

/-- MOVE_ABS (R199). -/
def execMoveAbs (d : Nat) (ch : Nat) (s : State) : Host.Outcome State Fault Refusal :=
  .next (commit s (moveAbsBody d ch))

/-- MOVE_REL (R199). -/
def execMoveRel (d : Nat) (ch : Nat) (s : State) : Host.Outcome State Fault Refusal :=
  .next (commit s (moveRelBody d ch))

/-- REPLACE_ABS (R202). -/
def execReplaceAbs (d : Nat) (ch : Nat) (s : State) : Host.Outcome State Fault Refusal :=
  .next (commit s (replaceAbsBody d ch))

/-- AXIS_STOP (R202). -/
def execAxisStop (d : Nat) (ch : Nat) (s : State) : Host.Outcome State Fault Refusal :=
  .next (commit s (axisStopBody d ch))

/-- SET_RAMPS (R203). -/
def execSetRamps (d : Nat) (ch : Nat) (s : State) : Host.Outcome State Fault Refusal :=
  .next (commit s (setRampsBody d ch))

/-- SET_POSITION (R205). -/
def execSetPosition (d : Nat) (ch : Nat) (s : State) : Host.Outcome State Fault Refusal :=
  .next (commit s (setPositionBody d ch))

/-- ACK_FAULT (R209). -/
def execAckFault (d : Nat) (ch : Nat) (s : State) : Host.Outcome State Fault Refusal :=
  .next (commit s (ackFaultBody d ch))

/-- ADMISSION_ROUND (R212). -/
def execAdmissionRound (l : LaneId) (s : State) : Host.Outcome State Fault Refusal :=
  .next (commit s (admissionRoundBody l))

/-- ADMISSION_GRANT (R213). -/
def execAdmissionGrant (d : Nat) (s : State) : Host.Outcome State Fault Refusal :=
  .next (commit s (admissionGrantBody d))

end Sys2Proof.Machine
end

