-- ==== Sys2Proof/Machine/HostRing.lean ====
section
/-! DEFINITION. The rings of a lane's host port: how a descriptor ends, the messages of a ring, and what a change of
the active lane does to them (R460 to R470). -/

namespace Sys2Proof.Machine

/-- The host block of a lane changed. -/
def updHst (l : LaneId) (f : Hst → Hst) (m : Module) : Module := m.updLane l fun L => { L with hst := f L.hst }

/-- A ring of a lane. -/
def Lane.ring (L : Lane) (r : Nat) : Ring := at? L.hst.rings r {}

/-- A ring of a lane changed. -/
def updRing (l : LaneId) (r : Nat) (f : Ring → Ring) (m : Module) : Module :=
  updHst l (fun h => { h with rings := upd h.rings r f }) m

/-- Descriptors posted and not yet consumed. -/
def Ring.waiting (g : Ring) : Nat := (g.prod + 65536 - g.cons) % 65536

/-- A completion's message on a ring's vector, at most one per hold-off (R469). -/
def ringMsg (l : LaneId) (r : Nat) (m : Module) : Module :=
  let g := (m.lane l).ring r
  let early := match g.msgAt with
    | some t => decide (m.now < t + g.holdoff * 1000)
    | none => false
  if early then updRing l r (fun g => { g with msgWait := true }) m
  else sendMsi l (18 + r) (updRing l r (fun g => { g with msgAt := some m.now, msgWait := false }) m)

/-- Where a ring's descriptor n lies in host memory (R461). -/
def Ring.slotAddr (g : Ring) (n : Nat) : Nat := g.base + 32 * (n % max 1 g.size)

/-- The posted writes of a completion, in the order of R466. -/
def ringWrites (g : Ring) (d : Desc) (code len : Nat) (m : Module) : Module :=
  let a := g.slotAddr g.cons
  let m := if g.outData = [] then m else programRaw 2 d.addr (g.outData.take len) m
  let m := programRaw 2 (a + 0x18) (leBytes 4 len) m
  let m := programRaw 2 (a + 0x0E) (leBytes 1 code) m
  programRaw 2 (a + 0x0D) (leBytes 1 (1 + 2 * b2n d.irq + 4 * b2n d.fence)) m

/-- A ring put in ERROR (R461, R468). -/
def ringError (l : LaneId) (r code : Nat) (m : Module) : Module :=
  let g := (m.lane l).ring r
  let m := updRing l r (fun g => { g with state := 3, err := code, run := false, cur := none, ending := none, outData := [] }) m
  report l 17 0x7201 r g.cons code (raise l 17 2 m)

/-- The end of a ring's descriptor with a status and a length: the posted writes, CONS, and the message (R463, R466,
R468). -/
def ringEnd (l : LaneId) (r code len : Nat) (m : Module) : Module :=
  let g := (m.lane l).ring r
  match g.cur with
  | none => m
  | some d =>
    let m := ringWrites g d code len m
    if code = 5 then ringError l r 5 (ringMsg l r m)
    else
      let next := (g.cons + 1) % 65536
      let m := if g.wb = 0 then m else programRaw 2 g.wb (leBytes 4 next) m
      let left (p : Nat × Nat) : Bool := p.2 != next
      let m := updRing l r (fun g => { g with
        cons := next, cur := none, ending := none, outData := [], firstAt := none, posts := g.posts.filter left
        state := if g.state = 2 then 0 else g.state }) m
      if d.irq then ringMsg l r m else m

/-- The end a transfer has reached, kept until the completion's writes go out. -/
def ringDone (l : LaneId) (r code len : Nat) (out : Bytes) (m : Module) : Module :=
  updRing l r (fun g => { g with ending := some (code, len), outData := out }) m

/-- A read-out record that waits goes to the READOUT descriptor that waits for it on ring 3 (R464). -/
def readoutGive (l : LaneId) (m : Module) : Module :=
  let g := (m.lane l).ring 3
  match (m.lane l).mtr.readoutRec, g.cur with
  | some bs, some d => if d.op = 1 && g.ending.isNone then ringDone l 3 0 bs.length bs m else m
  | _, _ => m

/-- A lane that stops mastering: descriptors in execution end ABORTED where the host can still be written, posted ones stay
without DONE, and every ring stops (R468, R470). -/
def abortRings (l : LaneId) (m : Module) : Module :=
  forEach (List.range 8) (fun r m =>
    let m := if ((m.lane l).ring r).cur.isSome && (m.lane l).hst.linkUp && (m.lane l).hst.bme then ringEnd l r 4 0 m else m
    updRing l r (fun g => { g with run := false, state := 0, cur := none, ending := none, outData := [] }) m) m

/-- The rings of a lane that halts or loses its supply: nothing further is written back (R470). -/
def dropRings (l : LaneId) (m : Module) : Module :=
  updHst l (fun h => { h with rings := h.rings.map fun g =>
    { g with run := false, state := 0, cur := none, ending := none, outData := [] } }) m

/-- The host port of a lane that becomes active (R460). -/
def hostActive (l : LaneId) (m : Module) : Module :=
  let m := updHst l (fun h => { h with rings := List.replicate 8 {} }) m
  let h := (m.lane l).hst
  report l 17 0x7202 (m.lane l).red.claim h.width h.speed (raise l 17 1 m)

/-- An item of a streaming ring without a buffer: counted, and recorded at most once a second (R464, R471). -/
def ringDrop (l : LaneId) (r n : Nat) (m : Module) : Module :=
  let g := (m.lane l).ring r
  let say := match g.dropEvAt with
    | none => true
    | some t => decide (t + 1000000000 ≤ m.now)
  let m := updRing l r (fun g => { g with
    dropped := sat max32 (g.dropped + n), dropNew := if say then 0 else g.dropNew + n
    dropEvAt := if say then some m.now else g.dropEvAt }) m
  let m := raise l 17 4 m
  if say then report l 17 0x7204 r (g.dropNew + n) 0 m else m

end Sys2Proof.Machine
end

