-- ==== Sys2Proof/Machine/Steer.lean ====
section
/-! DEFINITION. The state of network time that other parts of the machine touch too: the time slots and their states, the
steering of module time with its steps, slews, switches and HOLDOVER, and the links of the Ethernet ports (R340, R341, R349
to R359). Module time is the time base plus `PRG_TB_OFFSET`; the clock of the model is the active lane's time base itself, so
a rate correction and a slew show in the rates of every other reference against it (R27, R140, R350; assumption 15). -/

namespace Sys2Proof.Machine

/-- The time block of a lane changed. -/
def updPtp (l : LaneId) (f : Ptp → Ptp) (m : Module) : Module := m.updLane l fun L => { L with ptp := f L.ptp }

/-- A slot of a lane changed. -/
def updSlot (l : LaneId) (k : Nat) (f : PtpSlot → PtpSlot) (m : Module) : Module :=
  updPtp l (fun p => { p with slots := upd p.slots k f }) m

/-- The configuration a lane works under; the empty one where it has none. -/
def Lane.conf (L : Lane) : Conf := L.cfg.active.getD {}

/-- A slot of a lane. -/
def Lane.slot (L : Lane) (k : Nat) : PtpSlot := at? L.ptp.slots k {}

/-- The NETWORK section of a lane's active image. -/
def Lane.net (L : Lane) : NetworkCfg := L.conf.network.getD {}

/-- A slot's item (R344). -/
def Lane.slotCfg (L : Lane) (k : Nat) : DomCfg := at? L.net.doms k {}

/-- A port's entry (R343). -/
def Lane.portCfg (L : Lane) (l : LaneId) (port : Nat) : EthPortCfg := at? L.net.eth (2 * l.num + port) {}

/-- Module time of a lane, ns (R140). -/
def Module.modNs (m : Module) (l : LaneId) : Int := m.now + 1000 * (m.lane l).prg.tbOffset

/-- Whether a lane's port has its link. -/
def Lane.linkUp (L : Lane) (port : Nat) : Bool := decide (port < 2) && (at? L.ptp.ports port {}).up

/-- Whether a lane's port operates: it has its link, and the lane is active (R340). -/
def Lane.portUp (L : Lane) (port : Nat) : Bool := L.red.holds && L.linkUp port

/-- Whether a slot runs on a port: enabled, named, and PTP on there (R344, R345). -/
def Lane.slotOn (L : Lane) (l : LaneId) (k port : Nat) : Bool :=
  nbit (L.slotCfg k).flags 0 && nbit (L.slotCfg k).ports port && nbit (L.portCfg l port).ptp 0

/-- A slot's state as it reads (R349). -/
def Lane.slotState (L : Lane) (k : Nat) : SlotState := (L.slot k).reads L.red.holds (L.slotCfg k)

/-- Whether a slot can steer (R351). -/
def Lane.slotSteers (L : Lane) (k : Nat) : Bool := L.slotState k == .locked || L.slotState k == .degraded

/-- The state in which a slot begins on a lane's port: LISTENING (4) where it runs on a port that operates, else DISABLED
(3) (IEEE 1588-2019, R346). -/
def Lane.portBegins (L : Lane) (l : LaneId) (k port : Nat) : Nat := if L.slotOn l k port && L.portUp port then 4 else 3

/-- The states of both slots as they read under a NETWORK section. -/
def Lane.statesUnder (L : Lane) (n : NetworkCfg) : List SlotState :=
  [0, 1].map fun k => (L.slot k).reads L.red.holds (at? n.doms k {})

/-- The states of both slots as they read. -/
def Lane.slotStates (L : Lane) : List SlotState := L.statesUnder L.net

/-! ### Steering -/

/-- A quotient rounded to the nearest whole number (assumption 37). -/
def nearest (a b : Int) : Int := if b = 0 then 0 else fdiv (2 * a + b.natAbs * (if b < 0 then -1 else 1)) (2 * b)

/-- A 32-bit signed register's saturating value. -/
def satS32 (i : Int) : Int := max (-(2 ^ 31 - 1)) (min (2 ^ 31 - 1) i)

/-- The slots whose state differs from what it was before, recorded (R349, R359). -/
def slotChanges (l : LaneId) (was : List SlotState) (m : Module) : Module :=
  forEach [0, 1] (fun k m =>
    let is := (m.lane l).slotState k
    if at? was k .disabled = is then m
    else report l 12 0x7101 k is.code (((m.lane l).slot k).q.getD max32) (raise l 12 8 m)) m

/-- A slot's new state recorded where it changed (R349, R359). -/
def setSlotState (l : LaneId) (k : Nat) (s : SlotState) (m : Module) : Module :=
  slotChanges l (m.lane l).slotStates (updSlot l k (fun x => { x with state := s }) m)

/-- A rate correction within its limit of 200 ppm (R350). -/
def ppmLimit (r : Int) : Int := max (-200000) (min 200000 r)

/-- The rate correction in force, ppb: the steering slot's, and 50 ppm beside it while a slew runs, within 200 ppm in all
(R350, R355). -/
def Ptp.speed (p : Ptp) : Int :=
  ppmLimit (p.rate + if !p.slewing then 0 else if p.slewLeft > 0 then -50000 else 50000)

/-- The steering of a lane's module time changed; where it is the active lane's, every reference takes its new rate against
the time base (R27, R140, R350). -/
def steering (l : LaneId) (f : Ptp → Ptp) (m : Module) : Module :=
  let before := (m.lane l).ptp.speed
  let m := updPtp l f m
  if m.active l then retime ((m.lane l).ptp.speed - before) m else m

/-- A slew under way ends where it is: the rate is its slot's again (R355, R357). -/
def stopSlew (l : LaneId) (m : Module) : Module := steering l (fun p => { p with slewing := false, slewLeft := 0 }) m

/-- The rate correction of the steering slot's servo: it drives theta to 0 with a time constant of 8 Sync intervals,
within 200 ppm (R350). -/
def servoRate (rate rho theta logSync : Int) : Int :=
  let pull := if logSync < 0 then fdiv (theta * 2 ^ (-logSync).toNat) 8 else fdiv theta (8 * 2 ^ logSync.toNat)
  ppmLimit (rate - rho - pull)

/-- What a slew under way has taken off an offset in ns since an instant (R355, R357). -/
def Ptp.slewed (p : Ptp) (since now : Nat) : Int :=
  if p.slewing then fdiv ((p.speed - ppmLimit p.rate) * (now - max since p.slewAt : Nat)) 1000000000 else 0

/-- A slew of an offset begins: 50 ppm beyond the slot's rate until it is 0, or the less that the limit of 200 ppm leaves
(R350, R355). With nothing left it ends as it begins (assumption 52). -/
def slew (l : LaneId) (delta : Int) (m : Module) : Module :=
  steering l (fun p =>
    let p := { p with slewing := decide (delta ≠ 0), slewLeft := delta, slewAt := m.now }
    let v := (p.speed - ppmLimit p.rate).natAbs
    if v = 0 then { p with slewing := false, slewLeft := 0 }
    else { p with slewEnd := m.now + cdiv (delta.natAbs * 1000000000) v }) m

/-- Module time stepped: `PRG_TB_OFFSET` takes whole microseconds and the rest is slewed out; the samples held move with
module time (R354, R355). -/
def stepTime (l : LaneId) (step : Int) (cause slot : Nat) (m : Module) : Module :=
  let us := nearest step 1000
  let shift := 1000 * us
  let move (x : PtpSlot) : PtpSlot := { x with
    samples := x.samples.map fun p => (p.1 + shift, p.2 + shift), theta := x.theta + shift
    msDiff := x.msDiff.map fun d => (d.1, d.2 + shift), waitFu := x.waitFu.map fun w => (w.1, w.2.1, w.2.2.1 + shift, w.2.2.2)
    delayReq := x.delayReq.map fun r => r.map fun q => { q with sent := q.sent + shift, resp := q.resp.map fun a => (a.1 + shift, a.2) } }
  let m := m.updLane l fun L => { L with
    prg := { L.prg with tbOffset := L.prg.tbOffset + us }
    ptp := { L.ptp with stepAt := some m.now, slots := L.ptp.slots.map move } }
  let m := slew l (shift - step) m
  report l 12 0x7103 (ofS 32 (satS32 step)) cause slot (raise l 12 2 m)

/-- The first lock of a lane whose module time is FREE (R354). -/
def firstLock (l : LaneId) (k : Nat) (m : Module) : Module :=
  stepTime l (-((m.lane l).slot k).theta) 0 k
    (updPtp l (fun p => { p with steerState := 1, untrusted := false }) (stopSlew l m))

/-- Steering moves to a slot, recorded with its offset and method: by command or not. A slew that runs ends first, and what
it has taken off since the slot's newest sample counts (R354 to R357). -/
def switchTo (l : LaneId) (k : Nat) (command : Bool) (m : Module) : Module :=
  let L := m.lane l
  let x := L.slot k
  let n := L.net
  let delta := x.theta + L.ptp.slewed (x.syncAt.getD 0) m.now
  let free := L.ptp.steerState == 0 && L.slotState k == .locked
  let step := free || (decide (delta.natAbs > n.switchNs) && nbit n.flags 1)
  let m := steering l (fun p => { p with
    steer := k, steerState := if L.ptp.steerState = 0 then 0 else 1, rate := ppmLimit (p.rate - x.rho) }) (stopSlew l m)
  let m := report l 12 0x7102 k (ofS 32 (satS32 delta)) (b2n step + 2 * b2n command) (raise l 12 1 m)
  if free then firstLock l k m else if step then stepTime l (-delta) 1 k m else slew l delta m

/-- Module time enters HOLDOVER (R351, R356). -/
def holdover (l : LaneId) (m : Module) : Module :=
  let p := (m.lane l).ptp
  if p.steerState != 1 then m
  else report l 12 0x7104 p.steer 1 0 (raise l 12 4 (updPtp l (fun p => { p with steerState := 2 }) m))

/-- Whether the automatic switch is due (R355). -/
def Lane.autoDue (L : Lane) (now : Nat) : Bool :=
  let s := L.slotState L.ptp.steer
  let quiet := match L.ptp.autoAt with
    | some t => decide (t + 10000000000 ≤ now)
    | none => true
  nbit L.net.flags 0 && (s == .lost || s == .degraded) && L.slotState (1 - L.ptp.steer) == .locked && quiet

/-- Steering after a slot's change: the first lock, an automatic switch, HOLDOVER or the end of it (R351, R354 to
R356). -/
def steerAfter (l : LaneId) (k : Nat) (was : SlotState) (m : Module) : Module :=
  let L := m.lane l
  let p := L.ptp
  let reached := was != .locked && L.slotState k == .locked
  if L.autoDue m.now then
    let m := if p.steerState = 2 then report l 12 0x7104 p.steer 0 0 m else m
    switchTo l (1 - p.steer) false (updPtp l (fun p => { p with autoAt := some m.now }) m)
  else if p.steerState = 0 then (if reached && k == p.steer then firstLock l k m else m)
  else if p.steerState = 2 then (if reached then switchTo l k false (report l 12 0x7104 p.steer 0 0 m) else m)
  else if L.slotSteers p.steer then m
  else holdover l m

/-- A slot's samples thrown away; it listens (R349, R357). -/
def slotRestart (l : LaneId) (k : Nat) (m : Module) : Module :=
  let was := (m.lane l).slotState k
  steerAfter l k was (setSlotState l k .listening (updSlot l k (fun x => { x with samples := [], q := none }) m))

/-! ### Ports -/

/-- The 802.1Q tag of the frames that a port sends, 0 where they go untagged (R343). -/
def EthPortCfg.tag (p : EthPortCfg) : Nat := if p.vlan % 4096 = 0 then 0 else p.vlan

/-- The next hop of a port's datagram to an IPv4 address: the address itself inside the prefix, else the router's; none
where the entry has none (R343). -/
def EthPortCfg.hop (p : EthPortCfg) (dest : Nat) : Option Nat :=
  let k := 2 ^ (32 - p.prefixLen)
  if dest / k = p.ipv4 / k then some dest else if p.router = 0 then none else some p.router

/-- A frame that a port of a lane sends, with its tag. -/
def sendFrame (l : LaneId) (port kind : Nat) (fields : List Int) (m : Module) : Module :=
  put (.eth l.num port kind (((m.lane l).portCfg l port).tag :: fields)) m

/-- A received frame that the port discards, counted (R341). -/
def discardFrame (l : LaneId) (port : Nat) (fcs : Bool) (m : Module) : Module :=
  updPtp l (fun p => { p with ports := upd p.ports port fun e =>
    if fcs then { e with fcs := sat 65535 (e.fcs + 1) } else { e with other := sat 65535 (e.other + 1) } }) m

/-- A port's link comes up at a speed or goes down: recorded, and its slots begin anew on it (R340, R349, R359). -/
def setLink (l : LaneId) (port : Nat) (up gig : Bool) (m : Module) : Module :=
  let m := updPtp l (fun p => { p with ports := upd p.ports port fun e => { e with up := up, gig := up && gig } }) m
  let m := report l 12 0x7105 (2 * l.num + port) (b2n up) (b2n gig) (raise l 12 16 m)
  forEach [0, 1] (fun k m =>
    let L := m.lane l
    let was := L.slot k
    let m := updSlot l k (fun x => { x with
      portState := upd x.portState port fun _ => L.portBegins l k port, foreign := x.foreign.filter (·.port != port) }) m
    if at? was.portState port 0 = 9 then slotRestart l k m else m) m

end Sys2Proof.Machine
end

