-- ==== Sys2Proof/Machine/Can.lean ====
section
/-! DEFINITION. CAN FD ports, capture and the record engine (chapter 12). -/

namespace Sys2Proof.Machine

/-- Data bytes of a DLC code. -/
def canLen (fdf : Bool) (dlc : Nat) : Nat :=
  if dlc ≤ 8 then dlc
  else if !fdf then 8
  else at? [12, 16, 20, 24, 32, 48, 64] (dlc - 9) 64

/-- The least DLC code of a CAN FD frame that holds `n` bytes. -/
def canDlc (n : Nat) : Nat := ((List.range 16).find? fun k => decide (n ≤ canLen true k)).getD 15

/-- Port item of a local port in the die's active bank. -/
def FieldDie.canCfg (fd : FieldDie) (d p : Nat) : CanPortCfg :=
  match fd.bank with
  | none => {}
  | some b => match b.network with
    | none => {}
    | some n => at? n.ports (4 * d + p) {}

/-- A CAN port of a field die. -/
def Module.canPort (m : Module) (d p : Nat) : CanPort := at? (m.fd d).can p {}

/-- The module with one CAN port changed. -/
def Module.updCan (m : Module) (d p : Nat) (f : CanPort → CanPort) : Module :=
  m.updFd d fun fd => { fd with can := upd fd.can p f }

/-- Bits of CAN_IRQ_STATUS set on the lane a field die obeys. -/
def raiseCan (d bits : Nat) (m : Module) : Module :=
  if m.fdHeard d then raise (claimLane (m.fd d).claim) 11 bits m else m

/-- Whether an event limited to one a second may be recorded now. -/
def secondPast (now : Nat) (last : Option Nat) : Bool :=
  match last with
  | none => true
  | some t => decide (t + 1000000000 ≤ now)

/-- Frames dropped by a port: counted, and recorded at most once a second (R326, R338). -/
def canDrop (d p n cause : Nat) (m : Module) : Module :=
  if n = 0 then m
  else
    let say := secondPast m.now (m.canPort d p).dropEvAt
    let m := m.updCan d p fun c =>
      { c with txDropped := sat max32 (c.txDropped + n), dropEvAt := if say then some m.now else c.dropEvAt }
    if say then reportFd d 11 0x7003 (4 * d + p) n cause m else m

/-- Whether a port may transmit: enabled, neither listening only nor restricted, on the bus (R324, R325). -/
def CanPort.maySend (c : CanPort) (i : CanPortCfg) : Bool :=
  i.mode != 0 && !nbit i.flags 1 && !c.restricted && decide (c.state < 2)

/-- The frame a port offers: the one it has begun, else the lowest identifier, the one queued first among equals
(R326). -/
def offered (q : List TxFrame) : Option TxFrame :=
  match q.find? (·.started) with
  | some f => some f
  | none => q.foldl (fun best f => match best with
      | none => some f
      | some b => if f.ident < b.ident then some f else some b) none

/-- A port with frames queued and none begun begins the one it offers (assumption 22). -/
def CanPort.begin (i : CanPortCfg) (c : CanPort) : CanPort :=
  if c.maySend i && !c.txq.any (·.started) then
    match offered c.txq with
    | none => c
    | some f => { c with txq := c.txq.map fun g => if g.order == f.order then { g with started := true } else g }
  else c

/-- A frame has ended on the bus that is not the port's own: what the port had on offer has lost the bus, and the lowest
identifier of its queue is offered next (R326; assumption 22). -/
def CanPort.yield_ (i : CanPortCfg) (c : CanPort) : CanPort :=
  CanPort.begin i { c with txq := c.txq.map fun g => { g with started := false } }

/-- An entry captured into a port's FIFO; a full FIFO drops and counts it (R327, R328). -/
def canCapture (d p : Nat) (e : CapEntry) (m : Module) : Module :=
  let c := m.canPort d p
  if c.fifo.length < 256 then m.updCan d p fun c => { c with fifo := c.fifo ++ [e] }
  else
    let say := secondPast m.now c.lostEvAt
    let m := m.updCan d p fun c =>
      { c with lostFifo := sat 65535 (c.lostFifo + 1), lostEvAt := if say then some m.now else c.lostEvAt }
    let c := m.canPort d p
    let m := raiseCan d 0x20000 m
    if say then reportFd d 11 0x7004 (4 * d + p) c.lostFifo c.lostRing m else m

/-- The capture entry of a frame that ends now (R327). -/
def capEntry (m : Module) (d p : Nat) (f : CanFrame) (own : Bool) : CapEntry :=
  let len := if f.rtr then 0 else min f.data.length (canLen f.fdf f.dlc)
  { tbUs := (m.fd d).tbUs m.now, frac := ((m.fd d).tb m.now).toNat % 1000 / 10, port := 4 * d + p,
    flags := flags [f.ide, f.fdf, f.brs, f.esi, f.rtr, own], ident := f.ident, dlc := f.dlc, len := len,
    data := f.data.take len }

/-- The substation entry a record frame of a port belongs to: an IN entry of transport 0 on the port (R329). -/
def recordEntry (n : NetworkCfg) (port : Nat) (e : CapEntry) : Option SubCfg :=
  if nbit e.flags 0 && nbit e.flags 1 && !nbit e.flags 4 && !nbit e.flags 6 && e.ident % 4096 == n.canTag
      && !nbit e.ident 24 then
    n.subs.find? fun s => s.record == e.ident / 4096 % 4096 && s.transport == 0 && s.port == port && nbit s.dir 0
  else none

/-- Whether an enabled filter of the single-lane parts accepts a frame (R339). -/
def CanFilter.accepts (f : CanFilter) (ident : Nat) (ide : Bool) : Bool :=
  let key := word ident ||| word (b2n ide <<< 29)
  bitOf f.filt 30 && (f.filt &&& f.mask &&& 0x3FFFFFFF) == (key &&& f.mask &&& 0x3FFFFFFF)

/-- Acceptance on the single-lane parts: copies into the buffers of filters 0 to 7 with MATCH, with an interrupt, and
whether the frame passes on (R339). -/
def canFilter (d p : Nat) (e : CapEntry) (isRec : Bool) (m : Module) : Bool × Module :=
  let c := m.canPort d p
  let ide := nbit e.flags 0
  let ok := isRec || c.filters.any (·.accepts e.ident ide)
  let hit := c.filters.zipIdx.any fun x => decide (x.2 < 8) && bitOf x.1.filt 31 && x.1.accepts e.ident ide
  let take := fun (x : CanFilter × Nat) =>
    if x.2 < 8 && bitOf x.1.filt 31 && x.1.accepts e.ident ide then { x.1 with buf := e, full := true } else x.1
  let m := m.updCan d p fun c => { c with filters := c.filters.zipIdx.map take }
  (ok, if hit then sendMsi .A 11 m else m)

/-- An entry goes to the port's FIFO as the variant captures: everything on the NFJ8-256, what a filter or the record
protocol accepts elsewhere (R327, R339). -/
def canKeep (d p : Nat) (e : CapEntry) (m : Module) : Module :=
  if m.variant == .nfj8 then canCapture d p e m
  else
    let isRec := match (m.fd d).bank with
      | none => false
      | some b => match b.network with
        | none => false
        | some n => (recordEntry n (4 * d + p) e).isSome
    if nbit e.flags 6 || nbit e.flags 5 then m
    else
      let r := canFilter d p e isRec m
      if r.1 then canCapture d p e r.2 else r.2

/-- Fault-confinement state of two counters (R324). -/
def canStateOf (tec rec_ : Nat) : Nat := if tec > 255 then 2 else if tec ≥ 128 ∨ rec_ ≥ 128 then 1 else 0

/-- A port's state changed: recorded, and its interrupt bits set (R324). -/
def canState (d p s : Nat) (m : Module) : Module :=
  if (m.canPort d p).state = s then m
  else
    let m := m.updCan d p fun c => { c with state := s }
    let m := if s = 2 then raiseCan d (1 <<< (4 * d + p)) m else if s = 1 then raiseCan d 0x10000 m else m
    reportFd d 11 0x7001 (4 * d + p) s (m.canPort d p).tecCnt m

/-- The counters have moved: the state follows, and bus-off empties the queue and recovers as declared (R324). -/
def canConfine (d p : Nat) (m : Module) : Module :=
  let c := m.canPort d p
  let s := canStateOf c.tecCnt c.recCnt
  if s = 2 && c.state < 2 then
    let n := c.txq.length
    let m := canState d p 2 m
    let m := m.updCan d p fun c => { c with txq := [], busOffs := sat 65535 (c.busOffs + 1) }
    let m := canDrop d p n 1 m
    if ((m.fd d).canCfg d p).recovery = 0 then canState d p 3 m else m
  else if c.state < 2 then canState d p s m
  else m

/-- Whether a port takes part in bus traffic: die up, enabled, neither bus-off nor recovering. -/
def Module.canOn (m : Module) (d p : Nat) : Bool :=
  m.fdUp d && ((m.fd d).canCfg d p).mode != 0 && decide ((m.canPort d p).state < 2) && decide (p < 4)

/-- The error entry of a frame that ends in error: what is known of the frame, that on offer where the port was sending, and
no data (R327; assumption 22). -/
def errEntry (m : Module) (d p code : Nat) (known : Option (CanFrame × Bool)) : CapEntry :=
  let e := capEntry m d p ((known.map (·.1)).getD {}) ((known.map (·.2)).getD false)
  { e with flags := e.flags + 64, err := code, len := 0, data := [] }

/-- A queued frame as it goes on the bus. -/
def TxFrame.frame (f : TxFrame) (passive : Bool) : CanFrame :=
  { ident := f.ident, ide := f.ide, fdf := f.fdf, brs := f.brs, esi := passive, dlc := f.dlc, data := f.data }

/-- A frame ends in error at a port: the counters of ISO 11898-1 move, and an error entry is captured (R324, R326, R327).
PRESUMED steps, assumption 22. -/
def canError (d p : Nat) (e : CanErr) (seen : Option CanFrame) (m : Module) : Module :=
  let c := m.canPort d p
  let known := if e.tx then (offered c.txq).map fun f => (f.frame (c.state == 1), true) else seen.map fun f => (f, false)
  let entry := errEntry m d p (e.code % 8) known
  let m := m.updCan d p fun c =>
    let c := { c with lastErr := e.code % 8 }
    if e.tx then { c with tecCnt := if e.exempt then c.tecCnt else sat 256 (c.tecCnt + 8) }
    else { c with recCnt := sat 255 (c.recCnt + if e.primary then 8 else 1) }
  (canConfine d p (canKeep d p entry m)).updCan d p (CanPort.yield_ ((m.fd d).canCfg d p))

/-- CAN_FRAME_RECEIVED: a valid frame ends at a port (R327). FD frames are errors to a MODE 1 port (R321). -/
def canFrameReceivedBody (d port : Nat) (frame : CanFrame) (_ : Store) (m : Module) : Module :=
  if !m.canOn d port then m
  else if frame.fdf && ((m.fd d).canCfg d port).mode == 1 then canError d port { code := 2 } (some frame) m
  else
    let e := capEntry m d port frame false
    let isRec := match (m.fd d).bank with
      | none => false
      | some b => match b.network with
        | none => false
        | some n => (recordEntry n (4 * d + port) e).isSome
    let c := m.canPort d port
    let back := 119 + m.draw.toNat % 9
    let m := if c.recCnt > 127 then m.drawn else m
    let m := m.updCan d port fun c =>
      { c with rxCount := (c.rxCount + 1) % 2 ^ 32, recCnt := if c.recCnt > 127 then back else c.recCnt - 1,
               strangers := if isRec then c.strangers else sat max32 (c.strangers + 1) }
    (canConfine d port (canKeep d port e m)).updCan d port (CanPort.yield_ ((m.fd d).canCfg d port))

/-- The transmitter delay a port in TDC_MODE 1 measures on an FD frame it transmits, in mtq; a secondary sample point
beyond 127 mtq is held there (R322). -/
def CanPort.delay (c : CanPort) (i : CanPortCfg) (fdf : Bool) (mtq : Nat) : CanPort :=
  if fdf && i.tdcMode == 1 then
    { c with tdc := min 127 mtq, tdcSat := c.tdcSat || decide (127 < mtq + i.tdcOffset) }
  else c

/-- CAN_FRAME_TRANSMITTED: the offered frame has been sent and acknowledged; `mtq` is the transmitter delay it met
(R322, R326, R327). -/
def canFrameTransmittedBody (d port mtq : Nat) (_ : Store) (m : Module) : Module :=
  let c := m.canPort d port
  let i := (m.fd d).canCfg d port
  match offered c.txq with
  | none => m
  | some f =>
    if !m.canOn d port || !(c.maySend i || f.started) then m
    else
      let e := capEntry m d port (f.frame (c.state == 1)) true
      let m := m.updCan d port fun c =>
        { c.delay i f.fdf mtq with
            txCount := (c.txCount + 1) % 2 ^ 32, tecCnt := c.tecCnt - 1, txq := c.txq.filter fun g => g.order != f.order }
      let m := canConfine d port (canKeep d port e m)
      m.updCan d port (CanPort.begin i)

/-- CAN_FRAME_ERROR (R324). -/
def canFrameErrorBody (d port : Nat) (err : CanErr) (_ : Store) (m : Module) : Module :=
  if m.canOn d port then canError d port err none m else m

/-- BUS_OFF_RECOVERY_COMPLETE: 128 occurrences of 11 recessive bits; error-active with both counters 0 (R324). -/
def busOffRecoveryCompleteBody (d port : Nat) (_ : Store) (m : Module) : Module :=
  if m.fdUp d && (m.canPort d port).state == 3 then
    let m := m.updCan d port fun c => { c with tecCnt := 0, recCnt := 0 }
    (canState d port 0 m).updCan d port (CanPort.begin ((m.fd d).canCfg d port))
  else m

/-- Whether two queued frames are segments of one copy of a record: the segments of a copy are queued in one go, so
that a frame's order less its index is that of the copy's first segment (R326, R336). -/
def TxFrame.sameCopy (f g : TxFrame) : Bool :=
  match f.record, g.record with
  | some (r, k), some (q, n) => r == q && f.order + n == g.order + k
  | _, _ => false

/-- Whether the first segment of a frame's copy has begun transmission (R336). -/
def TxFrame.copyBegun (q : List TxFrame) (f : TxFrame) : Bool :=
  let copy := q.filter f.sameCopy
  copy.any (·.started) || !copy.any fun g => g.record.map (·.2) == some 0

/-- Frames handed to a port as one unit: refused whole for want of room, or queued (R325, R326). A newer copy of a
record takes the place of one whose first segment has not begun (R336). -/
def canQueue (d p claim : Nat) (fs : List TxFrame) (m : Module) : Module :=
  let i := (m.fd d).canCfg d p
  let m := if (m.canPort d p).restricted && i.mode != 0 then
      reportFd d 11 0x7002 (4 * d + p) 0 claim (m.updCan d p fun c => { c with restricted := false })
    else m
  let recNo := (fs.head?.bind (·.record)).map (·.1)
  let m := if recNo.isNone then m else
      m.updCan d p fun c => { c with
        txq := c.txq.filter fun g => g.record.map (·.1) != recNo || g.copyBegun c.txq }
  let c := m.canPort d p
  if i.mode = 0 ∨ nbit i.flags 1 then canDrop d p fs.length 4 m
  else if c.txq.length + fs.length > 32 then canDrop d p fs.length 0 m
  else
    m.updCan d p fun c =>
      let q := fs.zipIdx.map fun x => { x.1 with claim := claim, order := c.txOrder + x.2, started := false }
      let c := { c with txq := c.txq ++ q, txOrder := c.txOrder + fs.length }
      c.begin i

/-- A port enters restricted operation at T_safe: the queue is discarded and counted (R325). -/
def canRestrict (d p : Nat) (m : Module) : Module :=
  let c := m.canPort d p
  if ((m.fd d).canCfg d p).mode = 0 ∨ c.restricted then m
  else
    let n := c.txq.length
    let m := m.updCan d p fun c => { c with txq := [], restricted := true }
    reportFd d 11 0x7002 (4 * d + p) 1 (m.fd d).claim (canDrop d p n 2 m)

/-- A port as its die latches a higher claim: the frame in transmission completes, the rest of the lower claim goes,
and restricted operation ends (R325). -/
def canClaim (d p claim : Nat) (m : Module) : Module :=
  let c := m.canPort d p
  let gone := c.txq.filter fun f => !f.started && decide (f.claim < claim)
  let m := m.updCan d p fun c => { c with txq := c.txq.filter fun f => f.started || decide (f.claim ≥ claim) }
  let m := canDrop d p gone.length 3 m
  if c.restricted then
    reportFd d 11 0x7002 (4 * d + p) 0 claim (m.updCan d p fun c => { c with restricted := false })
  else m

/-- The raw frame of a port's buffer registers with a control word (R326). -/
def CanPort.rawFrame (c : CanPort) (ctrl : Word) : TxFrame :=
  let ide := bitOf ctrl 4
  let fdf := bitOf ctrl 5
  let dlc := fld ctrl 3 0
  { ident := if ide then fld c.rawId 28 0 else fld c.rawId 10 0, ide := ide, fdf := fdf, brs := bitOf ctrl 6,
    dlc := dlc, data := fitTo (canLen fdf dlc) (bytesOf c.rawData) }

/-- DOMINANT_TIMEOUT: the transceiver releases the bus and the frame in transmission ends in error, a dominant bit
read recessive (R490). -/
def dominantTimeoutBody (d port : Nat) (_ : Store) (m : Module) : Module :=
  if m.canOn d port && (m.canPort d port).txq.any (·.started) then canError d port { code := 5, tx := true } none m else m

/-- CAN_BUS_IDLE: a changed timing waiting for the bus to be idle comes into force (R61). -/
def canBusIdleBody (d port : Nat) (_ : Store) (m : Module) : Module :=
  if m.fdUp d then m.updCan d port fun c => { c with oldTiming := none } else m

/-- The engine state of a record; one not listed is empty. -/
def Can.eng (c : Can) (r : Nat) : RecEng := (c.recs.find? (·.record == r)).getD { record := r }

/-- The engine state of a record put back. -/
def Can.setEng (c : Can) (e : RecEng) : Can :=
  { c with recs := if c.recs.any (·.record == e.record) then c.recs.map (fun x => if x.record == e.record then e else x)
                   else c.recs ++ [e] }

/-- The engine state of a record on a lane changed. -/
def updEng (l : LaneId) (r : Nat) (f : RecEng → RecEng) (m : Module) : Module :=
  m.updLane l fun L => { L with can := L.can.setEng (f (L.can.eng r)) }

/-- A record or assembly discarded: counted by cause, recorded at most once a second per record (R332, R338). Causes:
0 CHECK, 1 SEQUENCE, 2 ABANDONED, 3 TIMEOUT, 4 OLD. -/
def recDiscard (l : LaneId) (r cause seq : Nat) (m : Module) : Module :=
  let say := secondPast m.now ((m.lane l).can.eng r).discEvAt
  let m := updEng l r (fun e =>
    let e := { e with discEvAt := if say then some m.now else e.discEvAt }
    match cause with
    | 0 => { e with eCheck := sat 255 (e.eCheck + 1) }
    | 1 | 2 => { e with eSeq := sat 255 (e.eSeq + 1) }
    | 3 => { e with eTimeout := sat 255 (e.eTimeout + 1) }
    | _ => { e with eOld := sat 255 (e.eOld + 1) }) m
  let m := raise l 11 0x40000 m
  if say then report l 11 0x7005 r cause seq m else m

/-- A complete message judged and, when accepted, swapped in (R331 to R333). `exact` is whether its length is known to
be that of the message. -/
def recMessage (l : LaneId) (s : SubCfg) (epoch : Nat) (msg : Bytes) (lenOk : Nat → Bool) (rxTb : Nat) (m : Module) :
    Module :=
  let seq := leAt msg 0 2
  let len := leAt msg 2 2
  let crc := crc32 (leBytes 2 s.record ++ leBytes 1 epoch ++ slice msg 0 (4 + len))
  if !lenOk len || len != s.inLen || leAt msg (4 + len) 4 != crc then recDiscard l s.record 0 seq m
  else
    let front := keyed (m.lane l).prg.recIn s.record {}
    let ahead := (seq + 65536 - front.seq) % 65536
    if !front.valid || ((m.lane l).can.eng s.record).epoch != epoch || (1 ≤ ahead && ahead ≤ 32767) then
      let buf : RecBuf := { rxTb := rxTb, stamp := m.stampAt l (1000 * rxTb), seq := seq, valid := true, payload := slice msg 4 len }
      let m := m.updLane l fun L => { L with prg := { L.prg with recIn := putKey L.prg.recIn s.record buf } }
      updEng l s.record (fun e => { e with epoch := epoch }) m
    else recDiscard l s.record 4 seq m

/-- SEQ of an open assembly. -/
def Assembly.seq (a : Assembly) : Nat := leAt a.bytes 0 2

/-- Whether the bytes of an assembly with their padding are those of a message of a payload length (R330, R332). -/
def segmentedOk (total len : Nat) : Bool :=
  let n := 8 + len
  let full := (n - 1) / 62
  total == 62 * full + (canLen true (canDlc (n - 62 * full + 2)) - 2)

/-- A segment taken by the record engine (R332). -/
def recSegment (l : LaneId) (s : SubCfg) (e : CapEntry) (m : Module) : Module :=
  let at_ := e.tbUs * 1000 + e.frac * 10
  let r := s.record
  let m := match ((m.lane l).can.eng r).asm with
    | some a =>
      if a.openedAt + s.timeoutMs * 1000000 ≤ at_ then
        recDiscard l r 3 a.seq (updEng l r (fun g => { g with asm := none }) m)
      else m
    | none => m
  let b0 := leAt e.data 0 1
  let idx := b0 % 16
  let tog := b0 / 16 % 2
  let first := nbit b0 5
  let last := nbit b0 6
  let epoch := leAt e.data 1 1
  let body := e.data.drop 2
  let finish (a : Assembly) (m : Module) : Module :=
    if last then
      recMessage l s a.epoch a.bytes (segmentedOk a.bytes.length) e.tbUs (updEng l r (fun g => { g with asm := none }) m)
    else updEng l r (fun g => { g with asm := some a }) m
  match ((m.lane l).can.eng r).asm with
  | none =>
    if first && idx == 0 then
      finish { record := r, index := 0, toggle := tog, epoch := epoch, openedAt := at_, bytes := body } m
    else m
  | some a =>
    if first && idx == 0 then
      finish { record := r, index := 0, toggle := tog, epoch := epoch, openedAt := at_, bytes := body }
        (recDiscard l r 2 a.seq m)
    else if idx == a.index && tog == a.toggle && epoch == a.epoch then
      updEng l r (fun g => { g with dups := g.dups + 1 }) m
    else if idx == a.index + 1 && tog == a.toggle && epoch == a.epoch then
      finish { a with index := idx, bytes := a.bytes ++ body } m
    else recDiscard l r 1 a.seq (updEng l r (fun g => { g with asm := none }) m)

/-- A capture entry in its 96 bytes (R327). -/
def CapEntry.bytes (e : CapEntry) : Bytes :=
  leBytes 8 e.tbUs ++ leBytes 2 e.frac ++ leBytes 1 e.port ++ leBytes 1 e.flags ++ leBytes 4 e.ident ++ leBytes 1 e.dlc ++
    leBytes 1 e.len ++ leBytes 1 e.err ++ leBytes 13 0 ++ fitTo 64 e.data

/-- An entry of ring 5 of the host port while that ring runs: into the buffer in execution, else dropped (R327, R464). -/
def hostCapture (l : LaneId) (e : CapEntry) (m : Module) : Module :=
  let g := (m.lane l).ring 5
  if g.state != 1 then m
  else match (if g.ending.isSome then none else g.cur) with
    | none => ringDrop l 5 1 m
    | some d =>
      let out := g.outData ++ e.bytes
      updRing l 5 (fun g => { g with
        outData := out, firstAt := some (g.firstAt.getD m.now)
        ending := if out.length ≥ d.len then some (0, d.len) else none }) m

/-- CAPTURE_ENTRY: the oldest entry of a port's FIFO lands in the ring of the lane whose claim the die holds, unless
that ring is full, with its time-stamp in module time, and the record engine takes it (R327, R328, R332, R347). -/
def captureEntryBody (l : LaneId) (d port : Nat) (full : Bool) (_ : Store) (m : Module) : Module :=
  let c := m.canPort d port
  let n := 4 * d + port
  match c.fifo with
  | [] => m
  | e :: rest =>
    if !m.fdHeard d || claimLane (m.fd d).claim ≠ l then m
    else
      let m := m.updCan d port fun c => { c with fifo := rest }
      if full then
        let say := secondPast m.now c.lostEvAt
        let m := m.updCan d port fun c =>
          { c with lostRing := sat 65535 (c.lostRing + 1), lostEvAt := if say then some m.now else c.lostEvAt }
        let c := m.canPort d port
        let m := raise l 11 0x20000 m
        if say then report l 11 0x7004 n c.lostFifo c.lostRing m else m
      else
        let put := fun (q : List CapEntry) =>
          let q := q ++ [{ e with stamp := some (m.stampAt l (1000 * e.tbUs + 10 * e.frac)) }]
          q.drop (q.length - 1024)
        let m := hostCapture l e (m.updLane l fun L => { L with can := { L.can with rings := upd L.can.rings n put } })
        match ((m.lane l).cfg.active.bind (·.network)) with
        | none => m
        | some nw =>
          if nbit e.flags 5 then m
          else match recordEntry nw n e with
            | none => m
            | some s => recSegment l s e m

/-- RECORD_ASSEMBLY_TIMEOUT: an assembly still open TIMEOUT_MS after its first segment (R332). -/
def recordAssemblyTimeoutBody (l : LaneId) (rec : Nat) (_ : Store) (m : Module) : Module :=
  match ((m.lane l).can.eng rec).asm with
  | none => m
  | some a =>
    let ms := match ((m.lane l).cfg.active.bind (·.network)) with
      | none => 0
      | some nw => ((nw.subs.find? (·.record == rec)).map (·.timeoutMs)).getD 0
    let m := clockTo (a.openedAt + ms * 1000000) m
    recDiscard l rec 3 a.seq (updEng l rec (fun g => { g with asm := none }) m)

/-- The records of a datagram from a byte on (R334). The first argument bounds their number. -/
def udpRecords (l : LaneId) (nw : NetworkCfg) (srcIp : Nat) (bs : Bytes) : Nat → Nat → Module → Module
  | 0, _, m => m
  | n + 1, off, m =>
    let len := 8 + leAt bs (off + 10) 2
    if off + 16 > bs.length ∨ off + 8 + len > bs.length then m
    else
      let hit := nw.subs.find? fun s =>
        s.record == leAt bs (off + 2) 2 && s.transport == 1 && nbit s.dir 0 && s.gateway == srcIp
      let m := match hit with
        | some s =>
          if leAt bs off 2 % 4096 == nw.canTag && leAt bs (off + 4) 1 == 0 then
            recMessage l s (leAt bs (off + 5) 1) (slice bs (off + 8) len) (fun _ => true) m.us m
          else m.updLane l fun L => { L with can := { L.can with udpStrangers := sat max32 (L.can.udpStrangers + 1) } }
        | none => m.updLane l fun L => { L with can := { L.can with udpStrangers := sat max32 (L.can.udpStrangers + 1) } }
      udpRecords l nw srcIp bs n (off + 8 + len) m

/-- UDP_RECORD_DATAGRAM: the records of a datagram to UDP_PORT on a port of the active lane; any other datagram is
discarded and counted (R334, R341). -/
def udpRecordDatagramBody (l : LaneId) (port : Nat) (datagram : UdpDatagram) (_ : Store) (m : Module) : Module :=
  if !(m.lane l).portUp port then m
  else
    match (m.lane l).cfg.active.bind (·.network) with
    | none => discardFrame l port false m
    | some nw =>
      if datagram.port == nw.udpPort && decide (datagram.payload.length ≤ 1472) then
        udpRecords l nw datagram.srcIp.toNat datagram.payload 184 0 m
      else discardFrame l port false m

/-- The message of an outgoing record (R331). -/
def recordMessage (record epoch seq : Nat) (payload : Bytes) : Bytes :=
  let b := leBytes 2 seq ++ leBytes 2 payload.length ++ payload
  b ++ leBytes 4 (crc32 (leBytes 2 record ++ leBytes 1 epoch ++ b))

/-- The segments of an outgoing record on CAN FD (R329, R330). -/
def recordFrames (nw : NetworkCfg) (s : SubCfg) (brs : Bool) (epoch seq : Nat) (payload : Bytes) : List TxFrame :=
  let msg := recordMessage s.record epoch seq payload
  let n := cdiv msg.length 62
  (List.range n).map fun k =>
    let part := (msg.drop (62 * k)).take 62
    let b0 := k + 16 * (seq % 2) + 32 * b2n (k == 0) + 64 * b2n (k + 1 == n)
    let dlc := canDlc (part.length + 2)
    { ident := s.prio % 16 * 2 ^ 25 + 2 ^ 24 + s.record % 4096 * 4096 + nw.canTag % 4096, ide := true, fdf := true,
      brs := brs, dlc := dlc, data := fitTo (canLen true dlc) (leBytes 1 b0 ++ leBytes 1 epoch ++ part),
      record := some (s.record, k) }

/-- Words 1 to 23 of a filter buffer's entry latched in a view. -/
def latchEntry (l : LaneId) (v : View) (bs : Bytes) (m : Module) : Module :=
  forEach ((List.range 24).drop 1) (fun k => latchWord l v (0xB0160 + 4 * k) (word (leAt bs (4 * k) 4))) m

/-- CAN_FILT_BUF_READ: a read of word `index` of the selected filter buffer; the read of the first word latches the
others and empties the buffer (R339). The window reads 0 on the NFJ8-256. -/
def canFiltBufReadBody (l : LaneId) (v : View) (index : Nat) (_ : Store) (m : Module) : Module :=
  guardRead l v (fun m =>
    let s := m.sel l v
    let d := s.canPort / 4
    let p := s.canPort % 4
    if m.variant == .nfj8 || !m.fdReach l d then onBus 0 m
    else if index ≠ 0 then onBus (keyed s.latch (0xB0160 + 4 * index) 0) m
    else
      let bs := (at? (m.canPort d p).filters s.canFiltBuf {}).buf.bytes
      let m := latchEntry l v bs m
      let m := m.updCan d p fun c => { c with filters := upd c.filters s.canFiltBuf fun f => { f with full := false } }
      onBus (word (leAt bs 0 4)) m) m

/-- CAN_REC_ERRORS_READ: the discards of the selected record, which the read clears (R14, R332). -/
def canRecErrorsReadBody (l : LaneId) (v : View) (_ : Store) (m : Module) : Module :=
  guardRead l v (fun m =>
    let r := (m.sel l v).canRec
    let e := (m.lane l).can.eng r
    let m := updEng l r (fun e => { e with eCheck := 0, eSeq := 0, eTimeout := 0, eOld := 0 }) m
    onBus (word (e.eCheck + 256 * e.eSeq + 65536 * e.eTimeout + 16777216 * e.eOld)) m) m

/-! ## Meanings of the commands -/

/-- CAN_FRAME_RECEIVED (R327). -/
def execCanFrameReceived (d : Nat) (port : Nat) (frame : CanFrame) (s : State) : Host.Outcome State Fault Refusal :=
  .next (commit s (canFrameReceivedBody d port frame))

/-- CAN_FRAME_TRANSMITTED (R326). -/
def execCanFrameTransmitted (d : Nat) (port : TxDone) (s : State) : Host.Outcome State Fault Refusal :=
  .next (commit s (canFrameTransmittedBody d port.port port.mtq))

/-- CAN_FRAME_ERROR (R324). -/
def execCanFrameError (d : Nat) (port : Nat) (err : CanErr) (s : State) : Host.Outcome State Fault Refusal :=
  .next (commit s (canFrameErrorBody d port err))

/-- BUS_OFF_RECOVERY_COMPLETE (R324). -/
def execBusOffRecoveryComplete (d : Nat) (port : Nat) (s : State) : Host.Outcome State Fault Refusal :=
  .next (commit s (busOffRecoveryCompleteBody d port))

/-- DOMINANT_TIMEOUT (R490). -/
def execDominantTimeout (d : Nat) (port : Nat) (s : State) : Host.Outcome State Fault Refusal :=
  .next (commit s (dominantTimeoutBody d port))

/-- CAN_BUS_IDLE (R61). -/
def execCanBusIdle (d : Nat) (port : Nat) (s : State) : Host.Outcome State Fault Refusal :=
  .next (commit s (canBusIdleBody d port))

/-- CAPTURE_ENTRY (R332). -/
def execCaptureEntry (l : LaneId) (d : Nat) (port : Nat) (full : Bool) (s : State) : Host.Outcome State Fault Refusal :=
  .next (commit s (captureEntryBody l d port full))

/-- RECORD_ASSEMBLY_TIMEOUT (R332). -/
def execRecordAssemblyTimeout (l : LaneId) (rec : Nat) (s : State) : Host.Outcome State Fault Refusal :=
  .next (commit s (recordAssemblyTimeoutBody l rec))

/-- UDP_RECORD_DATAGRAM (R334). -/
def execUdpRecordDatagram (l : LaneId) (port : Nat) (datagram : UdpDatagram) (s : State) : Host.Outcome State Fault Refusal :=
  .next (commit s (udpRecordDatagramBody l port datagram))

/-- CAN_FILT_BUF_READ (R339). -/
def execCanFiltBufRead (l : LaneId) (v : View) (index : Nat) (s : State) : Host.Outcome State Fault Refusal :=
  .next (commit s (canFiltBufReadBody l v index))

/-- CAN_REC_ERRORS_READ (R14). -/
def execCanRecErrorsRead (l : LaneId) (v : View) (s : State) : Host.Outcome State Fault Refusal :=
  .next (commit s (canRecErrorsReadBody l v))

end Sys2Proof.Machine
end

