-- ==== Sys2Proof/Machine/Store.lean ====
section
/-! DEFINITION. The non-volatile store of a lane: the map and its writers, page programs, error correction, records
with their header, two-copy blocks and the multi-cell counters (R361 to R379). -/

namespace Sys2Proof.Machine

/-- Bytes of an MRAM. -/
def mramSize : Nat := 0x4000000

/-- Base of an image slot (R361). -/
def imageBase (slot : Nat) : Nat := if slot = 0 then 0 else 0xC00000

/-- Base of the provenance area of an image slot (R363). -/
def provBase (slot : Nat) : Nat := if slot = 0 then 0x2720200 else 0x2720600

/-- Base of a checkpoint slot (R361). -/
def ckptBase (slot : Nat) : Nat := if slot = 0 then 0x1800000 else 0x1E00000

/-- Base of the general ring (R388). -/
def ringBase : Nat := 0x2400000

/-- Base of the metrology log (R390). -/
def mlogBase : Nat := 0x2600000

/-- Base of a field die's accumulator record in a slot (R362). -/
def accuBase (slot d : Nat) : Nat := (if slot = 0 then 0x2620000 else 0x262A000) + 0x2800 * d

/-- Addresses and TYPE words of the two-copy blocks (R362, R363, R373). -/
def optmBase : Nat := 0x2634000
def pcycBase : Nat := 0x2634080
def sealBase : Nat := 0x2634100
def lossBase : Nat := 0x2634180
def slotSelBase : Nat := 0x2720000
def autoBase : Nat := 0x2720080
def utcBase : Nat := 0x2720100
def epochBase : Nat := 0x2720180
def optmType : Nat := 0x4D54504F
def pcycType : Nat := 0x43594350
def sealType : Nat := 0x4C414553
def lossType : Nat := 0x53534F4C
def slotType : Nat := 0x544F4C53
def autoType : Nat := 0x4F545541
def utcType : Nat := 0x4F435455
def epochType : Nat := 0x48435045
def ckptType : Nat := 0x54504B43
def accuType : Nat := 0x55434341

/-- Bases and cell counts of the tallies (R362, R377). -/
def optmTally : Nat := 0x2638000
def optmCells : Nat := 4096
def pcycTally : Nat := 0x2640000
def pcycCells : Nat := 256

/-- The shadow slot: the image slot that is not active (R34). -/
def Cfg.shadowSlot (c : Cfg) : Nat := if c.activeSlot = 0 then 1 else 0

/-- Writers of the store, as NVM_WRITE_REFUSED numbers them (R382); `owner` is the part of the lane's own firmware that a
fixed block of R363 belongs to. -/
inductive Writer where
  | firmware | shadow | peer | save | counter | recorder | owner
  deriving DecidableEq, Repr

/-- A writer's number (R382). -/
def Writer.code : Writer → Nat
  | .firmware => 0
  | .shadow => 1
  | .peer => 2
  | .save => 3
  | .counter => 4
  | .recorder => 5
  | .owner => 0

/-- Region of an address, as NVM_REFUSED.REGION numbers it. -/
def nvmRegion (a : Nat) : Nat :=
  if a < 0x1800000 then 0
  else if a < 0x2400000 then 1
  else if a < 0x2600000 then 2
  else if a < 0x2620000 then 3
  else if a < 0x2634000 then 4
  else if a < 0x2634100 then 5
  else if a < 0x2638000 then 4
  else if a < 0x2640800 then 5
  else if a < 0x2720000 then 4
  else 6

/-- The writers the tables name for an address (R361 to R363), the active slot and its provenance area refused to all
(R364); `holds` says that the lane is active, whose firmware alone writes its seal-count block. The checkpoint slots of
a single-lane part have no writer (R383). -/
def mayWrite (v : Variant) (activeSlot : Nat) (holds : Bool) (w : Writer) (a : Nat) : Bool :=
  let peer := w == .peer && v == .nfj8
  if a < 0x1800000 then
    (if a < 0xC00000 then activeSlot != 0 else activeSlot != 1) && (w == .shadow || w == .firmware || peer)
  else if a < 0x2400000 then peer
  else if a < 0x2620000 then w == .recorder
  else if a < 0x2634000 then w == .save || peer
  else if a < 0x2634100 then w == .counter
  else if a < 0x2634180 then (w == .firmware && holds) || w == .owner || peer
  else if a < 0x2634200 then w == .recorder
  else if a < 0x2638000 then false
  else if a < 0x2640800 then w == .counter
  else if a < 0x2720000 then w == .firmware
  else if a < 0x2720080 then w == .owner
  else if a < 0x2720100 then w == .owner || peer
  else if a < 0x2720200 then w == .owner
  else if a < 0x2720600 then activeSlot != 0 && (w == .shadow || w == .firmware || peer)
  else if a < 0x2720A00 then activeSlot != 1 && (w == .shadow || w == .firmware || peer)
  else w == .firmware && decide (a < mramSize)

/-- A program split where it wraps at the end of its page (R366). -/
def pageParts (a : Nat) (bs : Bytes) : List (Nat × Bytes) :=
  let room := 64 - a % 64
  if bs.length ≤ room then [(a, bs)] else [(a, bs.take room), (a - a % 64, bs.drop room)]

/-- Groups a stretch of bytes touches, in the order in which a program visits them (R370). -/
def groupsOf (a n : Nat) : List Nat :=
  if n = 0 then [] else (List.range ((a + n - 1) / 8 - a / 8 + 1)).map fun k => a / 8 + k

/-- The ECC state of a group: 0 sound, 1 or 2 corrected bits, 3 uncorrectable (R371). -/
def Nvm.eccOf (n : Nvm) (g : Nat) : Nat := keyed n.ecc g 0

/-- Whether every group of a stretch can be read (R374). -/
def Nvm.readable (n : Nvm) (a len : Nat) : Bool := n.ecc.all fun e => !(e.2 == 3 && (groupsOf a len).contains e.1)

/-- A refused write counted and recorded (R364). -/
def nvmRefuse (l : LaneId) (a : Nat) (w : Writer) (m : Module) : Module :=
  let reg := nvmRegion a
  let m := m.updLane l fun L => { L with nvm := { L.nvm with refused := sat 0xFFFF (L.nvm.refused + 1), refRegion := reg } }
  report l 13 0x8102 a reg w.code (raise l 13 2 m)

/-- An uncorrectable group read: counted, its address kept, recorded (R371). -/
def nvmUe (l : LaneId) (g : Nat) (m : Module) : Module :=
  let m := m.updLane l fun L => { L with nvm := { L.nvm with eccUe := sat max32 (L.nvm.eccUe + 1), ueAddr := 8 * g } }
  report l 13 0x8101 (8 * g) (nvmRegion (8 * g)) 0 (raise l 13 1 m)

/-- The ECC consequences of reading a stretch (R371). -/
def nvmRead (l : LaneId) (a len : Nat) (m : Module) : Module :=
  let bad := (m.lane l).nvm.ecc.filter fun e => len != 0 && decide (a / 8 ≤ e.1) && decide (e.1 ≤ (a + len - 1) / 8)
  forEach bad (fun e m =>
    if e.2 == 3 then nvmUe l e.1 m
    else m.updLane l fun L => { L with nvm := { L.nvm with eccCorr := sat max32 (L.nvm.eccCorr + 1) } }) m

/-- The first and the last group of a stretch that it covers only in part, which a program reads to merge (R367). -/
def partGroups (a n : Nat) : List Nat :=
  (groupsOf a n).filter fun g => decide (8 * g < a) || decide (a + n < 8 * g + 8)

/-- The ECC consequences of the merge in a program's partly covered groups (R367, R371). -/
def mergeRead (l : LaneId) (a n : Nat) (m : Module) : Module := forEach (partGroups a n) (fun g => nvmRead l (8 * g) 8) m

/-- The engines' transfer that is under way at an instant (R368, R372). -/
def Nvm.underWay (n : Nvm) (now : Nat) : Option Transfer := n.flight.find? fun f => decide (now < f.endAt)

/-- Whether a stretch touches a group of the metrology log that holds any bit other than 0 (R365). -/
def logTaken (mem : Mem) (a n : Nat) : Bool :=
  mem.any fun c => decide (mlogBase ≤ c.1) && decide (c.1 < mlogBase + 0x20000) && decide (a / 8 ≤ c.1 / 8) &&
    decide (c.1 / 8 ≤ (a + n - 1) / 8)

/-- Whether the controller refuses a write of an engine: a writer that the tables do not name, the active slot, or a group
of the metrology log that is taken (R364, R365). -/
def writeRefused (m : Module) (st : Store) (l : LaneId) (w : Writer) (a n : Nat) : Bool :=
  let L := m.lane l
  ((groupsOf a n).any fun g => !mayWrite m.variant L.cfg.activeSlot L.red.holds w (8 * g)) ||
    logTaken ((m.cur st).mram l) a n

/-- Whether a lane may write its store: HOLDUP_OK is set, or its final save runs (R302, R317). -/
def Lane.mayProgram (L : Lane) : Bool := L.sys.holdupOk || L.sys.phase == .saving

/-- Bytes programmed by one of the module's own engines, or refused. The counter port and the final save program in
LOW_POWER mode, 20 us to a page, the others in NORMAL mode, 4 us; the pages count in NVM_PROG_PAGES and the groups become
sound. What stood there is kept while the transfer is under way (R302, R361 to R370, R372). -/
def mramWrite (w : Writer) (st : Store) (l : LaneId) (a : Nat) (bs : Bytes) (m : Module) : Module :=
  let L := m.lane l
  if bs.isEmpty || decide (a + bs.length > mramSize) || !L.mayProgram then m
  else if writeRefused m st l w a bs.length then nvmRefuse l a w m
  else
    let gs := groupsOf a bs.length
    let low := w == .counter || L.sys.phase == .saving
    let pages := (a + bs.length - 1) / 64 - a / 64 + 1
    let ahead := L.nvm.flight.filter fun f => decide (m.now < f.endAt)
    let f : Transfer :=
      { addr := a, old := Memory.reads ((m.cur st).mram l) a bs.length
        ecc := L.nvm.ecc.filter fun e => gs.contains e.1
        lowPower := low, port := w == .counter
        endAt := max m.now (((ahead.getLast?).map (·.endAt)).getD 0) + pages * (if low then 20000 else 4000) }
    let m := programRaw l.num a bs (mergeRead l a bs.length m)
    m.updLane l fun L => { L with nvm := { L.nvm with
      lowPower := if L.nvm.busy.isSome then L.nvm.lowPower else low
      progPages := L.nvm.progPages + pages
      flight := ahead ++ [f]
      ecc := L.nvm.ecc.filter fun e => !gs.contains e.1 } }

/-- A record with its header (R373). -/
def mkRecord (type seq : Nat) (body : Bytes) : Bytes :=
  let t := leBytes 4 seq ++ leBytes 4 type ++ leBytes 4 (16 + body.length) ++ body
  leBytes 4 (crc32 t) ++ t

/-- The valid record at an address: its SEQ and its bytes from the header on (R374). -/
def readRecord (n : Nvm) (mem : Mem) (a size type : Nat) : Option (Nat × Bytes) :=
  let h := Memory.reads mem a 16
  let len := leAt h 12 4
  if leAt h 8 4 = type ∧ 16 ≤ len ∧ len ≤ size ∧ n.readable a len then
    let bs := Memory.reads mem a len
    if leAt bs 0 4 = crc32 (bs.drop 4) then some (leAt bs 4 4, bs) else none
  else none

/-- The record in force of two places: the newest valid one, or the lower where they differ by exactly 2^31 (R375);
with its address. -/
def newestOf (n : Nvm) (mem : Mem) (a b size type : Nat) : Option (Nat × Nat × Bytes) :=
  match readRecord n mem a size type, readRecord n mem b size type with
  | some x, some y => if newer y.1 x.1 then some (b, y) else some (a, x)
  | some x, none => some (a, x)
  | none, some y => some (b, y)
  | none, none => none

/-- A two-copy block's record in force (R376). -/
def readBlock (n : Nvm) (mem : Mem) (base type : Nat) : Option (Nat × Nat × Bytes) :=
  newestOf n mem base (base + 64) 64 type

/-- Where and with what SEQ the next record of a two-place structure is written (R375, R376). -/
def nextPlace (cur : Option (Nat × Nat × Bytes)) (a b : Nat) : Nat × Nat :=
  match cur with
  | none => (a, 1)
  | some (at_, seq, _) => (if at_ = a then b else a, nextSeq seq)

/-- Bytes read to judge the record at an address: its length where that lies within its slot, else its header (R374). -/
def recordSpan (mem : Mem) (a size : Nat) : Nat :=
  let len := leAt (Memory.reads mem (a + 12) 4) 0 4
  if 16 ≤ len ∧ len ≤ size then len else 16

/-- The records of two places read: corrected and uncorrectable groups count, and two valid records exactly 2^31 apart are
recorded with the winner (R371, R375, R381). -/
def seqCheck (st : Store) (l : LaneId) (a b size type : Nat) (m : Module) : Module :=
  let mem := st.mram l
  let m := nvmRead l b (recordSpan mem b size) (nvmRead l a (recordSpan mem a size) m)
  let n := (m.lane l).nvm
  match readRecord n (st.mram l) a size type, readRecord n (st.mram l) b size type with
  | some x, some y =>
    if (x.1 + 2 ^ 32 - y.1) % 2 ^ 32 = 2 ^ 31 then report l 13 0x8103 a x.1 y.1 m else m
  | _, _ => m

/-- A two-copy block written with a new body: its copies are read, and the one that does not hold the newest valid record
is written (R371, R375, R376). -/
def writeBlock (w : Writer) (st : Store) (l : LaneId) (base type : Nat) (body : Bytes) (m : Module) : Module :=
  let m := seqCheck (m.cur st) l base (base + 64) 64 type m
  let p := nextPlace (readBlock (m.lane l).nvm ((m.cur st).mram l) base type) base (base + 64)
  mramWrite w st l p.1 (mkRecord type p.2 body) m

/-- The marker of a generation in a tally cell (R377). -/
def tallyCell (g : Nat) : Bytes := leBytes 4 g ++ leBytes 4 (2 ^ 32 - 1 - g % 2 ^ 32)

/-- Index of the first cell that does not hold the marker, among `n` cells from cell `k` on (R377). -/
def tallyCount (nv : Nvm) (mem : Mem) (base g : Nat) : Nat → Nat → Nat
  | 0, k => k
  | n + 1, k =>
    let a := base + 8 * k
    if Memory.reads mem a 8 = tallyCell g ∧ nv.readable a 8 then tallyCount nv mem base g n (k + 1) else k

/-- A multi-cell counter's base in force: VALUE and G; a module without one counts from VALUE 0 with G 1 (R378). -/
def counterBase (nv : Nvm) (mem : Mem) (base type : Nat) : Nat × Nat :=
  match readBlock nv mem base type with
  | some (_, _, bs) => (leAt bs 16 8, leAt bs 24 4)
  | none => (0, 1)

/-- A multi-cell counter's value (R377). -/
def counterValue (nv : Nvm) (mem : Mem) (base type tally cells : Nat) : Nat :=
  let vg := counterBase nv mem base type
  vg.1 + tallyCount nv (mem.filter fun c => tally ≤ c.1 && c.1 < tally + 8 * cells) tally vg.2 cells 0

/-- The generation after one; 0 is never one (R377, R378). -/
def nextGeneration (g : Nat) : Nat := if (g + 1) % 2 ^ 32 = 0 then 1 else (g + 1) % 2 ^ 32

/-- A multi-cell counter's increment, by the counter port in LOW_POWER mode (R368, R378). -/
def counterIncrement (st : Store) (l : LaneId) (base type tally cells : Nat) (m : Module) : Module :=
  let nv := (m.lane l).nvm
  let mem := st.mram l
  let vg := counterBase nv mem base type
  let k := tallyCount nv (mem.filter fun c => tally ≤ c.1 && c.1 < tally + 8 * cells) tally vg.2 cells 0
  if k < cells then mramWrite .counter st l (tally + 8 * k) (tallyCell vg.2) m
  else writeBlock .counter st l base type (leBytes 8 (vg.1 + cells + 1) ++ leBytes 4 (nextGeneration vg.2)) m

/-- Whether an address lies in an image slot or a provenance area. -/
def inSlot (a : Nat) : Bool := decide (a < 0x1800000) || (decide (0x2720200 ≤ a) && decide (a < 0x2720A00))

/-- Whether a page program is refused: an address its writer is not named for, or a slot of a lane in STANDBY or RESYNC,
which only the active lane writes (R36, R364). No writer of a page program is named for the metrology log. -/
def programRefused (m : Module) (l : LaneId) (w : Writer) (a : Nat) (bs : Bytes) : Bool :=
  let L := m.lane l
  let rests := L.sys.mode == .standby || L.sys.mode == .resync
  (pageParts a bs).any fun p =>
    (List.range p.2.length).any fun k =>
      !mayWrite m.variant L.cfg.activeSlot L.red.holds w (p.1 + k) || (rests && w != .peer && inSlot (p.1 + k))

/-- Start of the next waiting page program, if none is in progress (R372). -/
def Nvm.advance (n : Nvm) : Nvm :=
  match n.busy, n.waiting with
  | none, p :: rest => { n with busy := some p, lowPower := p.lowPower, waiting := rest }
  | _, _ => n

/-- Configuration state numbers of `CFG_STATUS` (R47). -/
def CfgState.code : CfgState → Nat
  | .empty => 0
  | .loading => 1
  | .checking => 2
  | .passed => 3
  | .refused => 4
  | .armed => 5

/-- A write into a lane's shadow slot accepted (R47). -/
def shadowAccepted (l : LaneId) (m : Module) : Module :=
  m.updLane l fun L => { L with cfg := { L.cfg with
    state := match L.cfg.state with
      | .empty | .passed | .refused => .loading
      | s => s
    shadowDigest := [] } }

/-- A write into the shadow slot rejected while CHECKING or ARMED (R35): source 0 ring 0, 1 firmware. -/
def shadowRejected (l : LaneId) (source : Nat) (m : Module) : Module :=
  report l 1 0x1007 source (m.lane l).cfg.state.code 0
    (m.updLane l fun L => { L with cfg := { L.cfg with shadowWriteRejected := true } })

/-- An image and its provenance area written into a lane's shadow slot by the other lane: rejected while CHECKING or ARMED,
else an accepted shadow write (R35, R47). -/
def peerShadowWrite (st : Store) (l : LaneId) (prov image : Bytes) (m : Module) : Module :=
  let c := (m.lane l).cfg
  if c.state == .checking || c.state == .armed then
    m.updLane l fun L => { L with cfg := { L.cfg with shadowWriteRejected := true } }
  else mramWrite .peer st l (provBase c.shadowSlot) prov (mramWrite .peer st l (imageBase c.shadowSlot) image (shadowAccepted l m))

/-- Whether a slot's provenance area must be all 0: the image in the slot is a full one (R55). -/
def fullImage (mem : Mem) (slot : Nat) : Bool := leAt (Memory.reads mem (imageBase slot + 28) 1) 0 1 == 0

/-- After a write into a lane's shadow slot: a full image leaves the slot's provenance area all 0 (R55, R363). -/
def clearProvenance (st : Store) (l : LaneId) (m : Module) : Module :=
  let slot := (m.lane l).cfg.shadowSlot
  let mem := (m.cur st).mram l
  if fullImage mem slot && (Memory.reads mem (provBase slot) 1024).any (· != 0) then
    mramWrite .shadow st l (provBase slot) (List.replicate 1024 0) m
  else m

/-- NVM_PROGRAM: a firmware write of GO to NVM_PROG_CTRL starts a page program, or is refused (R366, R364). A write
into the shadow slot while the configuration is CHECKING or ARMED is discarded (R35). Before HOLDUP_OK nothing is
programmed (R302). -/
def nvmProgramBody (l : LaneId) (v : View) (value : Word) (_ : Store) (m : Module) : Module :=
  let L := m.lane l
  if v == .host || !L.sysOn || !L.mayProgram then m
  else
    let len := fld value 6 0
    let m := m.updLane l fun L => { L with nvm := { L.nvm with progCtrl := value &&& 0xFF } }
    if !bitOf value 31 then m
    else
      let a := L.nvm.progAddr.toNat
      let bs := (bytesOf L.nvm.progData).take len
      let frozen := L.cfg.state == .checking || L.cfg.state == .armed
      if len = 0 ∨ len > 64 then nvmRefuse l a .firmware m
      else if programRefused m l .firmware a bs then nvmRefuse l a .firmware m
      else if inSlot a && frozen then shadowRejected l 1 m
      else
        let m := if a < 0x1800000 then shadowAccepted l m else m
        m.updLane l fun L => { L with nvm :=
          ({ L.nvm with waiting := L.nvm.waiting ++
              [{ addr := a, bytes := bs, lowPower := bitOf value 7, writer := 0 }] } : Nvm).advance }

/-- PAGE_PROGRAM_COMPLETE: the program in progress ends: its groups take the new bytes, merged with the old ones of a
group it covers in part, and the next one starts (R55, R366 to R368, R372). -/
def pageProgramCompleteBody (l : LaneId) (st : Store) (m : Module) : Module :=
  match (m.lane l).nvm.busy with
  | none => m
  | some p =>
    let m := forEach (pageParts p.addr p.bytes) (fun q m => programRaw l.num q.1 q.2 (mergeRead l q.1 q.2.length m)) m
    let gs := (pageParts p.addr p.bytes).flatMap fun q => groupsOf q.1 q.2.length
    let m := m.updLane l fun L => { L with nvm :=
      ({ L.nvm with busy := none, progPages := L.nvm.progPages + 1,
                    ecc := L.nvm.ecc.filter fun e => !gs.contains e.1 } : Nvm).advance }
    let slot := imageBase (m.lane l).cfg.shadowSlot
    let m := if slot ≤ p.addr ∧ p.addr < slot + 0xC00000 then clearProvenance st l m else m
    if p.writer = 0 then raise l 13 4 m else m

/-- The program in progress, where it programs the page of an address: a read of that page waits until it ends (R372,
R381). -/
def Nvm.awaited (n : Nvm) (a : Nat) : Option PageProg :=
  match n.busy with
  | some p => if p.addr / 64 = a / 64 then some p else none
  | none => none

/-- A lane's MRAM as a read of an address finds it, once a program of its page has ended (R372, R381). -/
def readMram (n : Nvm) (st : Store) (l : LaneId) (a : Nat) : Mem :=
  match n.awaited a with
  | some p => (Store.program st ((pageParts p.addr p.bytes).map fun q => (l.num, q.1, q.2))).mram l
  | none => st.mram l

/-- The stores as reads find them that wait for the program under way in a lane (R372, R381). -/
def Module.settled (m : Module) (st : Store) (l : LaneId) : Store :=
  match (m.lane l).nvm.busy with
  | some p => Store.program (m.cur st) ((pageParts p.addr p.bytes).map fun q => (l.num, q.1, q.2))
  | none => m.cur st

/-- The ECC state a read of an address finds: a group that the awaited program covers has become sound (R371, R372). -/
def Nvm.readEcc (n : Nvm) (a : Nat) : Nat :=
  match n.awaited a with
  | some p =>
    if ((pageParts p.addr p.bytes).flatMap fun q => groupsOf q.1 q.2.length).contains (a / 8) then 0 else n.eccOf (a / 8)
  | none => n.eccOf (a / 8)

/-- NVM_WIN_LO_READ: the selected group is read through the ECC; its high word and its status are latched (R371). A
program of its page is awaited (R372). -/
def nvmWinLoReadBody (l : LaneId) (v : View) (st : Store) (m : Module) : Module :=
  let L := m.lane l
  let a := (m.sel l v).nvmWin
  guardRead l v (fun m =>
    let bs := Memory.reads (readMram L.nvm st l a) a 8
    let e := L.nvm.readEcc a
    let m := latchWord l v 0xD0028 (word (leAt bs 4 4)) (if e = 0 then m else nvmRead l a 8 m)
    let m := m.updLane l fun L => { L with nvm := { L.nvm with
      winCorr := upd L.nvm.winCorr (viewIdx v) fun _ => (if e = 3 then 0 else e)
      winUe := upd L.nvm.winUe (viewIdx v) fun _ => decide (e = 3) } }
    onBus (word (leAt bs 0 4)) m) m

/-! ## Meanings of the commands -/

/-- NVM_PROGRAM (R366). -/
def execNvmProgram (l : LaneId) (v : View) (value : Word) (s : State) : Host.Outcome State Fault Refusal :=
  .next (commit s (nvmProgramBody l v value))

/-- PAGE_PROGRAM_COMPLETE (R368). -/
def execPageProgramComplete (l : LaneId) (s : State) : Host.Outcome State Fault Refusal :=
  .next (commit s (pageProgramCompleteBody l))

/-- NVM_WIN_LO_READ (R371). -/
def execNvmWinLoRead (l : LaneId) (v : View) (s : State) : Host.Outcome State Fault Refusal :=
  .next (commit s (nvmWinLoReadBody l v))

end Sys2Proof.Machine
end

