-- ==== Sys2Proof/Machine/Keys.lean ====
section
/-! DEFINITION. The key store: slots and their attribute words, the judgement of imports, uses and their counts, the
register commands (R420 to R437). -/

namespace Sys2Proof.Machine

/-- Results of a key command (KEY_CMD_STATUS.RESULT). -/
def keyMode : Nat := 1
def keySlotBad : Nat := 2
def keyLocked : Nat := 3
def keyAttr : Nat := 4
def keyExhausted : Nat := 5
def keyUnwrap : Nat := 6
def keyEmpty : Nat := 7
def keyPeer : Nat := 8
def keyBusy : Nat := 9
def keyNotActive : Nat := 10
def keyTrng : Nat := 11
def keyFaulty : Nat := 12
def keySignature : Nat := 13

/-- TYPE of an attribute word (R421). -/
def attrType (a : Nat) : Nat := a / 512 % 8

/-- The attribute word a slot shows: an empty slot reads TYPE 0 EMPTY (R431). -/
def KeySlot.shown (s : KeySlot) : Nat := if s.key.isSome then s.attr else 0

/-- A slot that an erase has emptied and whose attribute word is kept (R431). -/
def KeySlot.kept (s : KeySlot) : Bool := s.key.isNone && nbit s.attr 5

/-- LOCK binds: the slot holds a key, or the kept word of an erased one (R421, R431). -/
def KeySlot.locked (s : KeySlot) : Bool := nbit s.attr 7 && (s.key.isSome || s.kept)

/-- LIMITED with count 0 (R430). -/
def KeySlot.isDead (s : KeySlot) : Bool := nbit s.shown 8 && s.count == 0

/-- The two shares in which the working store holds a key: their XOR is the key (R432). -/
def KeySlot.shares (s : KeySlot) : Bytes × Bytes :=
  let m := fitTo 32 s.mask
  (m, List.zipWith (· ^^^ ·) m (fitTo 32 (s.key.getD [])))

/-- The attribute sets no slot may hold (R422). -/
def attrForbidden (a count : Nat) : Bool :=
  let t := attrType a
  let use := nbit a 0 || nbit a 1 || nbit a 2 || nbit a 4
  (nbit a 3 && use) || ((t == 2 || t == 3 || t == 4) && use) || (t == 1 && nbit a 3) ||
    (nbit a 4 && (nbit a 1 || nbit a 2)) || (t == 0 && a != 0) || (nbit a 8 && count == 0) || decide (t ≥ 5) ||
    decide (a ≥ 4096)

/-- A slot by number. -/
def Key.slot (k : Key) (n : Nat) : KeySlot := at? k.slots n {}

/-- The entry of R428 in its first 56 bytes. -/
def secEntryOf (bs : Bytes) : SecEntry :=
  { slot := leAt bs 0 1, op := leAt bs 1 1, kekSlot := leAt bs 2 1, attr := leAt bs 4 4, count := leAt bs 8 4,
    key := slice bs 16 40 }

/-- The reserved bytes of an entry's first 56 bytes are 0. -/
def secEntryResv (bs : Bytes) : Bool := leAt bs 3 1 == 0 && leAt bs 12 4 == 0

/-- The key an OP 1 entry carries: unwrapped under its key-encryption slot, which is not dead, or a plain public coordinate
(R427, R430). -/
def entryKey (slots : List KeySlot) (e : SecEntry) (target : KeySlot) : Except Nat Bytes :=
  let t := attrType e.attr
  if e.kekSlot = 0xFF then
    if (t = 3 ∨ t = 4) ∧ allZero (e.key.drop 32) ∧
        !(nbit e.attr 6 || (nbit target.attr 6 && (target.key.isSome || target.kept))) then .ok (e.key.take 32)
    else .error keyAttr
  else
    let kek := at? slots e.kekSlot {}
    if e.kekSlot > 63 ∨ !nbit kek.shown 1 then .error keyAttr
    else if kek.isDead then .error keyExhausted
    else
      match kwUnwrap (kek.key.getD []) e.key with
      | some k => .ok k
      | none => .error keyUnwrap

/-- The slot an entry would leave, or the result that refuses it (R427, R428, R433). `reg` is a register IMPORT, which
compares the count and takes no OP 2; a SECURITY entry does not compare the count of a LIMITED slot. -/
def judgeEntry (reg : Bool) (slots : List KeySlot) (e : SecEntry) (resv : Bool) : Except Nat KeySlot :=
  let s := at? slots e.slot {}
  let cnt := if nbit e.attr 8 then e.count else 0
  let sameCount := !reg || s.count == cnt
  if reg ∧ e.op = 2 then .error keyAttr
  else if e.slot < 8 ∨ e.slot > 63 then .error keySlotBad
  else if !resv ∨ e.op > 2 ∨ e.count ≥ 2 ^ 24 then .error keyAttr
  else if e.op = 2 then (if s.locked then .error keyLocked else .ok {})
  else if attrForbidden e.attr e.count ∨ attrType e.attr = 0 then .error keyAttr
  else if e.op = 0 then
    if !(s.key.isSome || s.kept) ∨ attrType e.attr ≠ attrType s.attr then .error keyAttr
    else if s.locked then (if e.attr = s.attr ∧ sameCount then .ok s else .error keyLocked)
    else if !reg ∧ e.attr = s.attr then .ok s
    else .ok { s with attr := e.attr, count := cnt }
  else
    match entryKey slots e s with
    | .error c => .error c
    | .ok k =>
      let same := s.key == some k && e.attr == s.attr
      if s.locked ∧ s.key.isSome then (if same ∧ sameCount then .ok s else .error keyLocked)
      else if s.locked ∧ e.attr ≠ s.attr then .error keyLocked
      else if !reg ∧ same then .ok s
      else .ok { key := some k, attr := e.attr, count := if s.kept && !reg && e.attr == s.attr then s.count else cnt }

/-- Whether the judgement of an entry comes to a use of its key-encryption slot (R421, R427, R428). -/
def SecEntry.tries (e : SecEntry) (resv : Bool) : Bool :=
  e.op == 1 && e.kekSlot != 0xFF && decide (e.kekSlot ≤ 63) && decide (8 ≤ e.slot) && decide (e.slot ≤ 63) && resv &&
    decide (e.count < 2 ^ 24) && !attrForbidden e.attr e.count && attrType e.attr != 0

/-- 256 bits from the DRBG: what noise seeds is open, so they are free values (R423). -/
def Module.random (m : Module) : Bytes :=
  (List.range 4).flatMap fun i => leBytes 8 (Config.freeValue (m.free + i)).toNat

/-- The DRBG's output taken. -/
def Module.randomised (m : Module) : Module := { m with free := m.free + 4 }

/-- The newer copy of a slot in the array, none where it was never written (R373, R432). -/
def newestCopy (cs : List KeyCopy) : Option KeyCopy :=
  (cs.filter (·.seq != 0)).foldl (fun a c => match a with
    | none => some c
    | some x => if newer c.seq x.seq then some c else some x) none

/-- A slot written into the array over its older copy: its content under the device key, but of an EXPIRE_AT_RESET slot
only its attribute word and count (R373, R431, R432). -/
def storeCopy (l : LaneId) (s : KeySlot) (cs : List KeyCopy) : List KeyCopy :=
  let kept := newestCopy cs
  let c : KeyCopy := { seq := nextSeq ((kept.map (·.seq)).getD 0), attr := s.attr, count := s.count
                       wrapped := if nbit s.attr 5 then [] else (s.key.map (kwWrap (fitTo 32 (Config.deviceKey l.num)))).getD [] }
  match cs with
  | [a, b] => if kept == some a && a.seq != b.seq then [a, c] else [c, b]
  | o => o

/-- The content of a slot as the array holds it (R432). -/
def Key.stored (k : Key) (l : LaneId) (n : Nat) : Option Bytes :=
  (newestCopy (at? k.array n [])).bind fun c => kwUnwrap (fitTo 32 (Config.deviceKey l.num)) c.wrapped

/-- Key-store slots of a lane replaced at one number, in the working store with fresh shares and in the array (R432). -/
def setSlot (l : LaneId) (n : Nat) (s : KeySlot) (m : Module) : Module :=
  let r := m.random
  m.randomised.updLane l fun L => { L with key := { L.key with
    slots := upd L.key.slots n fun _ => { s with mask := r }, array := upd L.key.array n (storeCopy l s) } }

/-- The slots of a lane as its array gives them at a start, with fresh shares; the scrambling key is drawn anew (R431,
R432). -/
def loadArray (l : LaneId) (m : Module) : Module :=
  let r := m.random
  m.randomised.updLane l fun L => { L with key := { L.key with
    scramble := if L.key.trngFailed then L.key.scramble else r
    slots := L.key.slots.zipIdx.map fun x => match newestCopy (at? L.key.array x.2 []) with
      | none => x.1
      | some c => { key := L.key.stored l x.2, attr := c.attr, count := c.count, mask := r } } }

/-- A use refused to a block: counted and, where attributes, count or a fault refuse it, recorded (R421, R430, R432). -/
def refuseUseAs (user : Nat) (l : LaneId) (slot code : Nat) (m : Module) : Module :=
  let m := m.updLane l fun L => { L with key := { L.key with refused := sat max32 (L.key.refused + 1) } }
  if code = keyAttr ∨ code = keyExhausted ∨ code = keyFaulty then
    report l 16 0x9004 slot code (32 * l.num + user) m
  else m

/-- A slot used by a block for the operation of an attribute bit: its key, or the result that refuses the use. `fault` says
whether the store's parity finds a fault in the slot's shares; a slot found faulty is reloaded from the array before its next
use. A LIMITED slot gives up one count first, and the shares are refreshed (R421, R423, R430, R432). -/
def useSlotAs (user : Nat) (l : LaneId) (slot bit : Nat) (fault : Bool) (m : Module) : Except Nat Bytes × Module :=
  let k := (m.lane l).key
  let s := k.slot slot
  match s.key with
  | none => (.error keyEmpty, refuseUseAs user l slot keyEmpty m)
  | some held =>
    if !nbit s.attr bit then (.error keyAttr, refuseUseAs user l slot keyAttr m)
    else if s.isDead then (.error keyExhausted, refuseUseAs user l slot keyExhausted m)
    else if k.trngFailed then (.error keyTrng, refuseUseAs user l slot keyTrng m)
    else if fault then
      let m := m.updLane l fun L => { L with key := { L.key with faulty := slot :: L.key.faulty.filter (· != slot) } }
      (.error keyFaulty, report l 16 0x9008 slot 0 0 (raise l 16 4 (refuseUseAs user l slot keyFaulty m)))
    else
      let key := if k.faulty.contains slot then (k.stored l slot).getD held else held
      let m := m.updLane l fun L => { L with key := { L.key with faulty := L.key.faulty.filter (· != slot) } }
      if !nbit s.attr 8 then
        let r := m.random
        (.ok key, m.randomised.updLane l fun L => { L with key := { L.key with
          slots := upd L.key.slots slot fun s => { s with key := some key, mask := r } } })
      else
        let m := setSlot l slot { s with key := some key, count := s.count - 1 } m
        (.ok key, if s.count = 1 then report l 16 0x9005 slot 0 0 (raise l 16 2 m) else m)

/-- A use refused to the key store's own commands. -/
def refuseUse (l : LaneId) (slot code : Nat) (m : Module) : Module := refuseUseAs 16 l slot code m

/-- A slot used by a command of the key store. -/
def useSlot (l : LaneId) (slot bit : Nat) (fault : Bool) (m : Module) : Except Nat Bytes × Module :=
  useSlotAs 16 l slot bit fault m

/-- Uses that a block makes of slots, one after the other: slot and attribute bit. What gives no occasion to a fault
operand finds no fault (assumption 52). -/
def spend (user : Nat) (l : LaneId) (uses : List (Nat × Nat)) (m : Module) : Module :=
  forEach uses (fun u m => (useSlotAs user l u.1 u.2 false m).2) m

/-- A SECURITY section applied in item order; a changed slot is recorded with source image. In the lane that has checked the
image its entries are unwrapped already; any other uses the key-encryption slots for it (R429 to R431, R435; assumption
52). -/
def applySecurity (checked : Bool) (l : LaneId) (es : List SecEntry) (m : Module) : Module :=
  forEach es (fun e m =>
    let k := (m.lane l).key
    let alive (s : KeySlot) : KeySlot := if s.isDead then { s with count := 1 } else s
    let slots := if checked && e.kekSlot != e.slot then upd k.slots e.kekSlot alive else k.slots
    let j := if e.op = 1 ∧ k.trngFailed then .error keyTrng else judgeEntry false slots e true
    let m := if checked || !e.tries true then m else spend 1 l [(e.kekSlot, 1)] m
    match j with
    | .error _ => m
    | .ok s =>
      if s = k.slot e.slot then m
      else
        let m := setSlot l e.slot s m
        if e.op = 2 then report l 16 0x9003 e.slot 1 0 m else report l 16 0x9001 e.slot e.attr 1 m) m

/-- The entries of a lane's active image that name its EXPIRE_AT_RESET slots applied again, as at each of its starts
(R431). -/
def reapplySecurity (l : LaneId) (m : Module) : Module :=
  applySecurity false l ((m.lane l).conf.security.filter fun e => nbit e.attr 5) m

/-- What a check finds of the SECURITY entries: the index of the first that is refused, counted from 1, 0 without one; the
slots in the end; and the uses of key-encryption slots that it makes on the way. -/
structure SecVerdict where
  index : Nat := 0
  slots : List KeySlot := []
  uses : List (Nat × Nat) := []

/-- The SECURITY entries judged in item order, each on the slots its forerunners leave. A key-encryption slot that an entry
before has filled is used as that entry leaves it, and not in the store (R423, R428, R430). -/
def judgeSection (trng : Bool) : List KeySlot → List Nat → Nat → List (SecEntry × Bool) → SecVerdict
  | slots, _, _, [] => { slots := slots }
  | slots, touched, i, (e, resv) :: t =>
    let use := if e.tries resv && !touched.contains e.kekSlot then [(e.kekSlot, 1)] else []
    let j := if e.op = 1 ∧ trng then .error keyTrng else judgeEntry false slots e resv
    match j with
    | .error _ => { index := i, slots := slots, uses := use }
    | .ok s =>
      let spent (s : KeySlot) : KeySlot := if nbit s.attr 8 then { s with count := s.count - 1 } else s
      let slots := if e.tries resv && e.kekSlot != e.slot then upd slots e.kekSlot spent else slots
      let r := judgeSection trng (upd slots e.slot fun _ => s) (e.slot :: touched) (i + 1) t
      { r with uses := use ++ r.uses }

/-- Content of the slots with EXPIRE_AT_RESET erased (R431). -/
def expireSlots (l : LaneId) (m : Module) : Module :=
  m.updLane l fun L => { L with key := { L.key with
    slots := L.key.slots.map fun s => if nbit s.attr 5 then { s with key := none } else s } }

/-- K_HB and K_TOK as every die derives them from the package secret (R424). -/
def keyHb : Bytes := kdf (fitTo 32 Config.packageSecret) [0x4E, 0x46, 0x4A, 0x2D, 0x48, 0x42] []
def keyTok : Bytes := kdf (fitTo 32 Config.packageSecret) [0x4E, 0x46, 0x4A, 0x2D, 0x54, 0x4F, 0x4B] []

/-- Slots 1 and 2 refilled at a start (R420, R424). -/
def fillInterDie (l : LaneId) (m : Module) : Module :=
  setSlot l 2 { key := some keyTok, attr := 0x2A1 } (setSlot l 1 { key := some keyHb, attr := 0x2A1 } m)

/-- The end of a key command: STATE, RESULT and the DONE event (R433). -/
def keyEnd (l : LaneId) (state result : Nat) (m : Module) : Module :=
  raise l 16 1 (m.updLane l fun L => { L with key := { L.key with cmdState := state, cmdResult := result } })

/-- A command refused and counted (R433). -/
def keyRefuse (l : LaneId) (code : Nat) (m : Module) : Module :=
  keyEnd l 3 code (m.updLane l fun L => { L with key := { L.key with refused := sat max32 (L.key.refused + 1) } })

/-- Modes in which DERIVE, CHALLENGE, MAC and VERIFY are accepted: BLANK to RUN_FORCED and SAFE_HOLD (R433). -/
def keyUseMode (md : Mode) : Bool := !(md == .standby || md == .resync)

/-- Modes in which IMPORT and ERASE are accepted (R433). -/
def keyLoadMode (md : Mode) : Bool := md == .blank || md == .loaded || md == .commission

/-- A key command of a view, judged for the lane and its mode before `f` runs (R433). -/
def keyCommand (l : LaneId) (v : View) (modeOk : Mode → Bool) (f : Module → Module) (m : Module) : Module :=
  guardWrite l v (fun m =>
    if !m.active l then keyRefuse l keyNotActive m
    else if (m.lane l).key.cmdState = 1 then keyRefuse l keyBusy m
    else if !modeOk (m.lane l).sys.mode then keyRefuse l keyMode m
    else f m) m

/-- Whether the standby lane can confirm a write over the lane links (R433). -/
def Module.peerWrites (m : Module) (l : LaneId) : Bool :=
  let p := m.lane l.other
  m.laneLink && (p.sys.mode == .standby || p.sys.mode == .resync) && !p.sys.failed && p.sys.phase == .up

/-- The command buffer's bytes. -/
def Module.keyBuf (m : Module) (l : LaneId) : Bytes := bytesOf (m.lane l).key.buf

/-- The command buffer with bytes put at an offset. -/
def putKeyBuf (l : LaneId) (off : Nat) (bs : Bytes) (m : Module) : Module :=
  m.updLane l fun L => { L with key := { L.key with buf := wordsOf 32 (putAt (bytesOf L.key.buf) off bs) } }

/-- KEY_IMPORT: the entry in the buffer fills a slot or changes its attribute word, on both lanes where BOTH is set
(R427, R428, R430, R433). An unwrapping is a use of its key-encryption slot, also where its result then refuses the import. -/
def keyImportBody (l : LaneId) (v : View) (value : Word) (fault : Bool) (_ : Store) (m : Module) : Module :=
  keyCommand l v keyLoadMode (fun m =>
    let bs := m.keyBuf l
    let e := secEntryOf bs
    let both := bitOf value 24 && m.variant == .nfj8
    let wrapped := e.op = 1 ∧ e.kekSlot ≠ 0xFF
    match judgeEntry true (m.lane l).key.slots e (secEntryResv bs) with
    | .error c =>
      if !e.tries (secEntryResv bs) then keyRefuse l c m
      else if c = keyAttr ∨ c = keyExhausted then keyEnd l 3 c (refuseUse l e.kekSlot c m)
      else
        let use := useSlot l e.kekSlot 1 fault m
        match use.1 with
        | .error c => keyEnd l 3 c use.2
        | .ok _ => keyRefuse l c use.2
    | .ok s =>
      if (m.lane l).key.trngFailed ∧ e.op = 1 then keyRefuse l keyTrng m
      else
        let peer := judgeEntry true (m.lane l.other).key.slots e (secEntryResv bs)
        match (if both then (if m.peerWrites l then peer else .error keyPeer) else .ok s) with
        | .error _ => keyRefuse l keyPeer m
        | .ok sp =>
          let use := if wrapped then useSlot l e.kekSlot 1 fault m else (.ok [], m)
          match use.1 with
          | .error c => keyEnd l 3 c use.2
          | .ok _ =>
            let m := report l 16 0x9001 e.slot e.attr 0 (setSlot l e.slot s use.2)
            let m := if both then
                let m := if wrapped then spend 16 l.other [(e.kekSlot, 1)] m else m
                report l.other 16 0x9001 e.slot e.attr 2 (setSlot l.other e.slot sp m)
              else m
            let m := if e.op = 1 then putKeyBuf l 0 (List.replicate 128 0) m else m
            keyEnd l 2 0 m) m

/-- KEY_DERIVE: the target takes the key the KDF gives from the source slot (R426). -/
def keyDeriveBody (l : LaneId) (v : View) (value : Word) (fault : Bool) (_ : Store) (m : Module) : Module :=
  keyCommand l v keyUseMode (fun m =>
    let bs := m.keyBuf l
    let target := fld value 13 8
    let source := fld value 21 16
    let ll := leAt bs 0 1
    let cl := leAt bs 1 1
    let attr := leAt bs 0x70 4 - attrType (leAt bs 0x70 4) * 512 + 512
    let count := leAt bs 0x74 4
    let t := (m.lane l).key.slot target
    if target < 8 then keyRefuse l keySlotBad m
    else if ll < 1 ∨ ll > 32 ∨ cl > 64 ∨ count ≥ 2 ^ 24 ∨ attrForbidden attr count ∨ nbit attr 6 ∨
        (nbit t.attr 6 ∧ (t.key.isSome ∨ t.kept)) then keyRefuse l keyAttr m
    else if t.locked ∧ (t.key.isSome ∨ attr ≠ t.attr) then keyRefuse l keyLocked m
    else
      let u := useSlot l source 2 fault m
      match u.1 with
      | .error c => keyEnd l 3 c u.2
      | .ok k =>
        let out := kdf k (slice bs 2 ll) (slice bs (2 + ll) cl)
        let m := setSlot l target { key := some out, attr := attr, count := if nbit attr 8 then count else 0 } u.2
        keyEnd l 2 0 (report l 16 0x9002 source target attr m)) m

/-- KEY_ERASE: a slot is emptied, on both lanes where BOTH is set (R433). -/
def keyEraseBody (l : LaneId) (v : View) (value : Word) (_ : Store) (m : Module) : Module :=
  keyCommand l v keyLoadMode (fun m =>
    let target := fld value 13 8
    let both := bitOf value 24 && m.variant == .nfj8
    let s := (m.lane l).key.slot target
    let sp := (m.lane l.other).key.slot target
    if target < 8 then keyRefuse l keySlotBad m
    else if s.locked then keyRefuse l keyLocked m
    else if s.key.isNone then keyRefuse l keyEmpty m
    else if both ∧ (!m.peerWrites l ∨ sp.locked) then keyRefuse l keyPeer m
    else
      let m := report l 16 0x9003 target 0 0 (setSlot l target {} m)
      let m := if both then report l.other 16 0x9003 target 2 0 (setSlot l.other target {} m) else m
      keyEnd l 2 0 m) m

/-- The seal word of a challenge: the seal count with UNSEALED in bit 31 (R434). -/
def Mtr.sealWord (t : Mtr) : Nat := t.sealCount % 2 ^ 31 + 2 ^ 31 * b2n t.unsealed

/-- KEY_CHALLENGE: the inspector's message and its MAC under the challenge slot (R434). -/
def keyChallengeBody (l : LaneId) (v : View) (_value : Word) (fault : Bool) (_ : Store) (m : Module) : Module :=
  keyCommand l v keyUseMode (fun m =>
    let L := m.lane l
    let slot := (L.cfg.active.map (·.challengeSlot)).getD 0
    if !nbit (L.key.slot slot).shown 4 then keyEnd l 3 keyAttr (refuseUse l slot keyAttr m)
    else
      let u := useSlot l slot 4 fault m
      match u.1 with
      | .error c => keyEnd l 3 c u.2
      | .ok k =>
        let msg := slice (m.keyBuf l) 0 16 ++ fitTo 16 Config.serial ++ leBytes 1 l.num ++ leBytes 3 0 ++
          leBytes 4 L.mtr.sealWord ++ fitTo 32 L.cfg.activeDigest
        let m := putKeyBuf l 0 (msg ++ hmac k msg) u.2
        keyEnd l 2 0 (report l 16 0x9006 slot L.mtr.sealWord (leAt L.cfg.activeDigest 0 4) m)) m

/-- KEY_MAC: the HMAC of the buffer's data under a slot (R433). -/
def keyMacBody (l : LaneId) (v : View) (value : Word) (fault : Bool) (_ : Store) (m : Module) : Module :=
  keyCommand l v keyUseMode (fun m =>
    let bs := m.keyBuf l
    let slot := fld value 13 8
    let n := leAt bs 0 1
    if n > 96 then keyRefuse l keyAttr m
    else
      let u := useSlot l slot 0 fault m
      match u.1 with
      | .error c => keyEnd l 3 c u.2
      | .ok k => keyEnd l 2 0 (putKeyBuf l 0x60 (hmac k (slice bs 1 n)) u.2)) m

/-- KEY_VERIFY: an ECDSA signature over a digest judged under a public-key pair, a use of both its slots (R430, R433). -/
def keyVerifyBody (l : LaneId) (v : View) (value : Word) (fault : Bool) (_ : Store) (m : Module) : Module :=
  keyCommand l v keyUseMode (fun m =>
    let bs := m.keyBuf l
    let slot := fld value 13 8
    let k := (m.lane l).key
    let x := k.slot slot
    let y := k.slot (slot + 1)
    if x.key.isSome ∧ (attrType x.attr ≠ 3 ∨ attrType y.shown ≠ 4 ∨ !nbit y.shown 3) then
      keyEnd l 3 keyAttr (refuseUse l slot keyAttr m)
    else if x.key.isSome ∧ y.isDead then keyEnd l 3 keyExhausted (refuseUse l (slot + 1) keyExhausted m)
    else
      let u := useSlot l slot 3 fault m
      match u.1 with
      | .error c => keyEnd l 3 c u.2
      | .ok qx =>
        let ok := ecdsaVerify (slice bs 0 32) (slice bs 32 32) (slice bs 64 32) qx (y.key.getD [])
        keyEnd l 2 (if ok then 0 else keySignature) (spend 16 l [(slot + 1, 3)] u.2)) m

/-! ## Meanings of the commands -/

/-- KEY_IMPORT (R427). -/
def execKeyImport (l : LaneId) (v : View) (value : KeyWrite) (s : State) : Host.Outcome State Fault Refusal :=
  .next (commit s (keyImportBody l v value.word value.fault))

/-- KEY_DERIVE (R426). -/
def execKeyDerive (l : LaneId) (v : View) (value : KeyWrite) (s : State) : Host.Outcome State Fault Refusal :=
  .next (commit s (keyDeriveBody l v value.word value.fault))

/-- KEY_ERASE (R433). -/
def execKeyErase (l : LaneId) (v : View) (value : Word) (s : State) : Host.Outcome State Fault Refusal :=
  .next (commit s (keyEraseBody l v value))

/-- KEY_CHALLENGE (R434). -/
def execKeyChallenge (l : LaneId) (v : View) (value : KeyWrite) (s : State) : Host.Outcome State Fault Refusal :=
  .next (commit s (keyChallengeBody l v value.word value.fault))

/-- KEY_MAC (R433). -/
def execKeyMac (l : LaneId) (v : View) (value : KeyWrite) (s : State) : Host.Outcome State Fault Refusal :=
  .next (commit s (keyMacBody l v value.word value.fault))

/-- KEY_VERIFY (R433). -/
def execKeyVerify (l : LaneId) (v : View) (value : KeyWrite) (s : State) : Host.Outcome State Fault Refusal :=
  .next (commit s (keyVerifyBody l v value.word value.fault))

end Sys2Proof.Machine
end

