-- ==== Sys2Proof/Machine/Domains.lean ====
section
/-! DEFINITION. Power domains: which states each has, its parent, and the handling of requests with one transition in
progress and one pending slot (R444 to R447). -/

namespace Sys2Proof.Machine

/-- The power domains of a die by its ID. -/
def Module.doms (m : Module) (die : Nat) : List Dom :=
  match die with
  | 0 => m.laneA.pwr.doms
  | 1 => m.laneB.pwr.doms
  | 2 | 3 => (m.sd (die - 2)).doms
  | _ => (m.fd (die - 4)).doms

/-- One domain of a die. -/
def Module.dom (m : Module) (die i : Nat) : Dom := at? (m.doms die) i {}

/-- One domain of a die changed. -/
def updDom (die i : Nat) (f : Dom → Dom) (m : Module) : Module :=
  match die with
  | 0 => { m with laneA := { m.laneA with pwr := { m.laneA.pwr with doms := upd m.laneA.pwr.doms i f } } }
  | 1 => { m with laneB := { m.laneB with pwr := { m.laneB.pwr with doms := upd m.laneB.pwr.doms i f } } }
  | 2 | 3 => m.updSd (die - 2) fun s => { s with doms := upd s.doms i f }
  | _ => m.updFd (die - 4) fun s => { s with doms := upd s.doms i f }

/-- Number of domains of a die (R444). -/
def domCount (die : Nat) : Nat := if die < 2 then 17 else if die < 4 then 22 else 18

/-- Whether a domain can be in RET (R444). -/
def retCapable (die i : Nat) : Bool :=
  if die < 2 then decide (2 ≤ i) && decide (i ≤ 13)
  else if die < 4 then i == 0 || (decide (5 ≤ i) && decide (i ≤ 20))
  else false

/-- Whether a domain has a state (R444). -/
def domSupports (die i : Nat) : DomState → Bool
  | .on => decide (i < domCount die)
  | .ret => retCapable die i
  | .off => decide (i < domCount die) && !(decide (die < 2) && i == 0)

/-- The parent of a domain (R444). -/
def domParent (die i : Nat) : Option Nat :=
  if die < 2 then (if i ≤ 1 then none else some 1) else (if i = 0 then none else some 0)

/-- Whether a domain is out of ON and not entering it. -/
def Dom.leftOn (d : Dom) : Bool := d.state != .on && !(d.moving && d.target == .on)

/-- Whether a domain may start toward a state: ON needs the parent ON, leaving ON needs every child out of ON and none on its
way there (R444). -/
def domMayEnter (ds : List Dom) (die i : Nat) : DomState → Bool
  | .on => match domParent die i with
    | none => true
    | some p => (at? ds p {}).state == .on && !(at? ds p {}).moving
  | .ret => ds.zipIdx.all fun x =>
      domParent die x.2 != some i || x.1.leftOn || (decide (2 ≤ die) && decide (die < 4) && x.2 == 21)
  | .off => ds.zipIdx.all fun x => domParent die x.2 != some i || x.1.leftOn

/-- A request's number in `PWR_DOM_STATUS`. -/
def DomState.code : DomState → Nat
  | .off => 0
  | .ret => 1
  | .on => 2

/-- The state a request's number names. -/
def domStateOf : Nat → DomState
  | 0 => .off
  | 1 => .ret
  | _ => .on

/-- A request on a domain whose transition may or may not start now: the domain after it, its LAST, and the pending request
that it has replaced (R447). -/
def Dom.ask (d : Dom) (may : Bool) (t : DomState) : Dom × Nat × Option DomState :=
  if d.moving then
    if t == d.target then ({ d with pending := none }, 3, d.pending) else ({ d with pending := some t }, 2, d.pending)
  else if d.state == t then ({ d with pending := none, target := t }, 1, d.pending)
  else if may then ({ d with moving := true, target := t, pending := none }, 1, d.pending)
  else ({ d with pending := some t }, 2, d.pending)

/-- What a lane's `PWR_DOM_STATUS` keeps of its last request for a domain: LAST, and SUPERSEDED where it replaced another
(R16, R447). -/
def keepLast (l : LaneId) (die i code : Nat) (superseded : Bool) (m : Module) : Module :=
  let k := 32 * die + i
  m.updLane l fun L => { L with pwr := { L.pwr with
    lastReq := putKey L.pwr.lastReq k code
    superseded := if superseded then k :: L.pwr.superseded.filter (· != k) else L.pwr.superseded } }

/-- A request of a sequencer or of firmware of lane l for a domain (R447). -/
def domRequest (l : LaneId) (die i : Nat) (t : DomState) (m : Module) : Module :=
  let r := (m.dom die i).ask (domMayEnter (m.doms die) die i t) t
  let m := keepLast l die i r.2.1 r.2.2.isSome (updDom die i (fun _ => r.1) m)
  match r.2.2 with
  | none => m
  | some p => report l 2 0x8002 die i p.code (raise l 2 8 m)

/-- The same request for several domains of a die. -/
def domRequests (l : LaneId) (die : Nat) (is : List Nat) (t : DomState) (m : Module) : Module :=
  forEach is (fun i => domRequest l die i t) m

/-- Pending requests of a die that may start now do so (R444, R447). -/
def domAdvance (die : Nat) (m : Module) : Module :=
  forEach (List.range (domCount die)) (fun i m =>
    let d := m.dom die i
    match d.pending with
    | some t =>
      if !d.moving && domMayEnter (m.doms die) die i t then
        updDom die i (fun d => if d.state == t then { d with pending := none } else { d with moving := true, target := t, pending := none }) m
      else m
    | none => m) m

/-- A transition at its end: the domain is in the state it was entering. -/
def domArrive (die i : Nat) (m : Module) : Module :=
  updDom die i (fun d => if d.moving then { d with state := d.target, moving := false } else d) m

/-- Domains that an event shows to be up already: their transitions to ON are over (assumption 30). A domain that leaves
RET is released by its exit check alone (R448). -/
def domSettle (die : Nat) (is : List Nat) (m : Module) : Module :=
  forEach is (fun i m =>
    updDom die i (fun d =>
      if d.state == .ret then d
      else if d.moving && d.target == .on then { d with state := .on, moving := false }
      else if d.pending == some .on then { d with state := .on, pending := none, moving := false, target := .on }
      else d) m) m

/-- Domains of a lane's receive path: NVM and SYS, the parent it needs (R26, R444, R454). -/
def rxDoms : List Nat := [1, 16]

/-- A wake command over the peer path, acknowledged and recorded (R454). -/
def peerWake (p : LaneId) (byte : Nat) (m : Module) : Module :=
  report p 2 0x8005 byte 1 0 (raise p 2 16 (put (.wakeAck p.num true) m))

/-- RX_PATH_ON over the peer path: the other lane's receive path is asked ON for a transfer into its store (R18, R290,
R454). -/
def wakeReceiver (p : LaneId) (m : Module) : Module :=
  domRequests p p.num rxDoms .on (peerWake p 1 m)

/-- A transfer into a lane's store has ended: its receive path was ON, and goes OFF again unless the lane is up for
another reason, which its HOST domain shows (R18, R454). -/
def receiverDone (p : LaneId) (m : Module) : Module :=
  let m := domSettle p.num rxDoms m
  if (m.dom p.num 15).state == .off && !(m.dom p.num 15).moving then domRequests p p.num [16, 1] .off m else m

/-- What reads or writes the other lane's store, its path woken for it if it is not ON (R261, R304, R307). -/
def onPeerPath (p : LaneId) (f : Module → Module) (m : Module) : Module :=
  if (m.dom p.num 16).state == .on then f m else receiverDone p (f (domSettle p.num rxDoms (wakeReceiver p m)))

/-- The steps from one setting to another (R449). Down: the frequency, within 2 us, then the voltage. Up: the voltage, the
wait for power-good, at most 50 us, then the frequency; a clock that starts below the voltage it finds takes the lower
voltage last. -/
def railSteps (t : Nat) (old new : Nat × Nat) : List (Nat × Nat × Nat) :=
  if new = old then []
  else if new.1 ≤ old.1 then [(t + 2000, new.1, old.2), (t + 2000, new.1, new.2)]
  else if old.2 < new.2 then [(t, old.1, new.2), (t + 50000, new.1, new.2)]
  else [(t, new.1, old.2), (t, new.1, new.2)]

/-- The setting that a rail's transition in progress enters. -/
def Rail.target (r : Rail) : Nat × Nat := ((r.steps.getLast?).map (·.2)).getD (r.mhz, r.mv)

/-- The steps of a rail to come: those of the transition in progress, and from its end those of the pending request
(R447, R449). -/
def Rail.path (r : Rail) : List (Nat × Nat × Nat) :=
  let t := ((r.steps.getLast?).map (·.1)).getD 0
  r.steps ++ ((r.pending.map fun p => railSteps t r.target p).getD [])

/-- The setting a rail comes to once its steps are over: MHz and mV. -/
def Rail.final (r : Rail) : Nat × Nat := r.pending.getD r.target

/-- The setting of a rail at an instant: that of the last step it has made. -/
def Rail.at_ (r : Rail) (now : Nat) : Nat × Nat :=
  (((r.path.filter fun s => decide (s.1 ≤ now)).getLast?).map (·.2)).getD (r.mhz, r.mv)

/-- A rail at an instant: a transition that is over is its setting, and the pending request, if any, has started
(R447). -/
def Rail.settle (now : Nat) (r : Rail) : Rail :=
  let over_ (r : Rail) : Bool := r.steps.all fun s => decide (s.1 ≤ now)
  if !over_ r then r
  else
    let q : Rail := { mhz := r.target.1, mv := r.target.2, steps := r.path.drop r.steps.length }
    if over_ q then { mhz := q.target.1, mv := q.target.2 } else q

/-- A rail asked for a frequency and its voltage: its transition starts at once, or the request waits in the one pending slot
for the end of the transition in progress, replacing what waits there; one for the setting being entered cancels it. A rail
has no place in PWR_DOM_STATUS and no number in the event of a superseded request (R447, R449; assumption 52). -/
def Rail.ask (now mhz mv : Nat) (r : Rail) : Rail :=
  let r := r.settle now
  if r.steps = [] then { r with steps := railSteps now (r.mhz, r.mv) (mhz, mv) }
  else if r.target = (mhz, mv) then { r with pending := none }
  else { r with pending := some (mhz, mv) }

/-- All domains of a die but the always-on one OFF at once, as at a loss of supply. -/
def domsOff (die : Nat) (m : Module) : Module :=
  forEach (List.range (domCount die)) (fun i =>
    when (!(decide (die < 2) && i == 0)) (updDom die i fun d =>
      { d with state := .off, moving := false, target := .off, pending := none })) m

end Sys2Proof.Machine
end

