-- ==== Sys2Proof/Machine/Float.lean ====
section
/-! DEFINITION. IEEE 754 binary64 arithmetic of the solver engines, rounded to nearest, ties to even, with subnormals
and one rounding for a fused multiply-add, and the rounding to binary32 of stored factors (R68, R69). A value carries
the sticky overflow and invalid flag of everything it came from (R94). -/

namespace Sys2Proof.Machine

/-- A binary64 value with the overflow or invalid flag raised on the way to it (R94). -/
structure Fl where
  v : F64 := 0
  bad : Bool := false
  deriving DecidableEq, Repr, Inhabited

/-- A value that has just been loaded. -/
def fl (v : F64) : Fl := { v := v }

/-- Sign bit. -/
def fNeg (x : F64) : Bool := x.getLsbD 63

/-- Exponent field. -/
def fExpo (x : F64) : Nat := x.toNat / 2 ^ 52 % 2048

/-- Fraction field. -/
def fFrac (x : F64) : Nat := x.toNat % 2 ^ 52

/-- A NaN. -/
def fNan (x : F64) : Bool := (fExpo x) == 2047 && (fFrac x) != 0

/-- An infinity. -/
def fInf (x : F64) : Bool := (fExpo x) == 2047 && (fFrac x) == 0

/-- A NaN or an infinity (R71). -/
def fWild (x : F64) : Bool := (fExpo x) == 2047

/-- A zero of either sign. -/
def fZero (x : F64) : Bool := x.toNat % 2 ^ 63 == 0

/-- Integer significand of a finite value. -/
def fSig (x : F64) : Nat := if (fExpo x) = 0 then (fFrac x) else 2 ^ 52 + (fFrac x)

/-- Power of two the significand is scaled by. -/
def fPow (x : F64) : Int := if (fExpo x) = 0 then -1074 else ((fExpo x) : Int) - 1075

/-- The quiet NaN an invalid operation gives. -/
def nan64 : F64 := 0x7FF8000000000000

/-- An infinity of a sign. -/
def inf64 (s : Bool) : F64 := if s then 0xFFF0000000000000 else 0x7FF0000000000000

/-- A zero of a sign. -/
def zero64 (s : Bool) : F64 := if s then 0x8000000000000000 else 0

/-- The constant 1. -/
def one64 : F64 := 0x3FF0000000000000

/-- The constant 2 to an exponent within the normal range. -/
def pow64 (e : Int) : F64 := BitVec.ofNat 64 ((e + 1023).toNat * 2 ^ 52)

/-- A significand cut to `p` bits at a least power of two `lo`, to nearest with ties to even; `sticky` says that bits
below the given ones are not all 0. Answers the rounded significand and its power. -/
def roundSig (p : Nat) (lo : Int) (m : Nat) (e : Int) (sticky : Bool) : Nat × Int :=
  let q := max (e + (Nat.log2 m + 1 : Nat) - p) lo
  if q ≤ e then (m * 2 ^ (e - q).toNat, q)
  else
    let sh := (q - e).toNat
    let t := m >>> sh
    let r := m % 2 ^ sh
    let half := 2 ^ (sh - 1)
    if half < r || (r == half && (sticky || t % 2 == 1)) then (t + 1, q) else (t, q)

/-- The binary64 value of a sign, significand and power, rounded; an overflow gives the infinity and the flag. -/
def pack64 (s : Bool) (m : Nat) (e : Int) (sticky : Bool) : Fl :=
  if m = 0 then fl (zero64 s)
  else
    let r := roundSig 53 (-1074) m e sticky
    let t := if r.1 = 2 ^ 53 then (2 ^ 52, r.2 + 1) else r
    if t.2 > 971 then { v := inf64 s, bad := true }
    else
      let bits := if t.1 < 2 ^ 52 then t.1 else (t.2 + 1075).toNat * 2 ^ 52 + (t.1 - 2 ^ 52)
      fl (BitVec.ofNat 64 (bits + if s then 2 ^ 63 else 0))

/-- A value with the flags of its operands added. -/
def Fl.carry (r : Fl) (b : Bool) : Fl := { r with bad := r.bad || b }

/-- An invalid operation. -/
def invalid64 : Fl := { v := nan64, bad := true }

/-- The exact sum of two scaled integers, rounded. `sz` is the sign of an exact zero. -/
def sumPack (a : Int) (ea : Int) (b : Int) (eb : Int) (sz : Bool) : Fl :=
  let e := min ea eb
  let t := a * 2 ^ (ea - e).toNat + b * 2 ^ (eb - e).toNat
  if t = 0 then fl (zero64 sz) else pack64 (decide (t < 0)) t.natAbs e false

/-- A finite value's signed significand. -/
def fInt (x : F64) : Int := if (fNeg x) then -((fSig x) : Int) else (fSig x)

/-- Fused multiply-add a·b + c, rounded once (R69). -/
def Fl.fma (a b c : Fl) : Fl :=
  let bad := a.bad || b.bad || c.bad
  let s := xor (fNeg a.v) (fNeg b.v)
  let r :=
    if (fNan a.v) || (fNan b.v) || (fNan c.v) then fl nan64
    else if ((fInf a.v) && (fZero b.v)) || ((fZero a.v) && (fInf b.v)) then invalid64
    else if (fInf a.v) || (fInf b.v) then (if (fInf c.v) && (fNeg c.v) != s then invalid64 else fl (inf64 s))
    else if (fInf c.v) then fl c.v
    else sumPack ((fInt a.v) * (fInt b.v)) ((fPow a.v) + (fPow b.v)) (fInt c.v) (fPow c.v) (s && (fNeg c.v))
  r.carry bad

/-- Product. -/
def Fl.mul (a b : Fl) : Fl :=
  let s := xor (fNeg a.v) (fNeg b.v)
  let r :=
    if (fNan a.v) || (fNan b.v) then fl nan64
    else if ((fInf a.v) && (fZero b.v)) || ((fZero a.v) && (fInf b.v)) then invalid64
    else if (fInf a.v) || (fInf b.v) then fl (inf64 s)
    else pack64 s ((fSig a.v) * (fSig b.v)) ((fPow a.v) + (fPow b.v)) false
  r.carry (a.bad || b.bad)

/-- Sum. -/
def Fl.add (a b : Fl) : Fl :=
  let r :=
    if (fNan a.v) || (fNan b.v) then fl nan64
    else if (fInf a.v) then (if (fInf b.v) && (fNeg b.v) != (fNeg a.v) then invalid64 else fl a.v)
    else if (fInf b.v) then fl b.v
    else sumPack (fInt a.v) (fPow a.v) (fInt b.v) (fPow b.v) ((fNeg a.v) && (fNeg b.v))
  r.carry (a.bad || b.bad)

/-- The value with its sign turned. -/
def Fl.neg (a : Fl) : Fl := { a with v := a.v ^^^ 0x8000000000000000 }

/-- Magnitude. -/
def Fl.abs (a : Fl) : Fl := { a with v := a.v &&& 0x7FFFFFFFFFFFFFFF }

/-- Difference. -/
def Fl.sub (a b : Fl) : Fl := a.add b.neg

/-- Quotient; a division of a finite value by zero gives an infinity without either flag. -/
def Fl.div (a b : Fl) : Fl :=
  let s := xor (fNeg a.v) (fNeg b.v)
  let r :=
    if (fNan a.v) || (fNan b.v) then fl nan64
    else if ((fInf a.v) && (fInf b.v)) || ((fZero a.v) && (fZero b.v)) then invalid64
    else if (fInf a.v) || (fZero b.v) then fl (inf64 s)
    else if (fInf b.v) || (fZero a.v) then fl (zero64 s)
    else
      let n := (fSig a.v) * 2 ^ 120
      pack64 s (n / (fSig b.v)) ((fPow a.v) - (fPow b.v) - 120) (n % (fSig b.v) != 0)
  r.carry (a.bad || b.bad)

/-- Square root. -/
def Fl.sqrt (a : Fl) : Fl :=
  let r :=
    if (fNan a.v) then fl nan64
    else if (fZero a.v) then fl a.v
    else if (fNeg a.v) then invalid64
    else if (fInf a.v) then fl a.v
    else
      let odd := (fPow a.v) % 2 != 0
      let m := (if odd then 2 * (fSig a.v) else (fSig a.v)) * 2 ^ 120
      let e := if odd then (fPow a.v) - 1 else (fPow a.v)
      let q := Nat.sqrt m
      pack64 false q (e / 2 - 60) (q * q != m)
  r.carry a.bad

/-- A number whose order is that of the values; both zeros give 0. -/
def fKey (x : F64) : Int := if (fNeg x) then -((x.toNat % 2 ^ 63 : Nat) : Int) else x.toNat

/-- Order of values; a NaN compares with nothing. -/
def Fl.le (a b : Fl) : Bool := !(fNan a.v) && !(fNan b.v) && decide ((fKey a.v) ≤ (fKey b.v))

/-- Strict order of values. -/
def Fl.lt (a b : Fl) : Bool := !(fNan a.v) && !(fNan b.v) && decide ((fKey a.v) < (fKey b.v))

/-- The smaller of two values. -/
def Fl.min (a b : Fl) : Fl := if b.lt a then b else a

/-- A value rounded to binary32 and widened again exactly; a magnitude beyond binary32 raises the flag (R68, R86). -/
def Fl.to32 (a : Fl) : Fl :=
  if (fWild a.v) then { a with bad := true }
  else if (fSig a.v) = 0 then a
  else
    let r := roundSig 24 (-149) (fSig a.v) (fPow a.v) false
    if r.1 * 2 ^ (r.2 + 149).toNat ≥ 2 ^ (128 + 149) then { v := inf64 (fNeg a.v), bad := true }
    else (pack64 (fNeg a.v) r.1 r.2 false).carry a.bad

end Sys2Proof.Machine
end

