-- ==== Sys2Proof/Machine/Numerics.lean ====
section
/-! DEFINITION. Network problems as a solver die computes them: assembly, preconditioners with their pivot rule, and
the three methods with their common check (chapter 03). The order of sums and the fusing of products are open
(assumption 9). -/

namespace Sys2Proof.Machine

/-- A matrix by rows: column and value, columns rising. -/
abbrev Rows := List (List (Nat × F64))

/-- A product added to a sum. -/
def mulAdd (a b c : Fl) : Fl := if Config.solverFused then a.fma b c else c.add (a.mul b)

/-- An entry of a vector. -/
def vAt (x : List Fl) (i : Nat) : Fl := at? x i {}

/-- A vector loaded. -/
def vLoad (x : List F64) : List Fl := x.map fl

/-- The values of a vector. -/
def vVals (x : List Fl) : List F64 := x.map (·.v)

/-- Whether an operation on a vector raised a flag (R94). -/
def vBad (x : List Fl) : Bool := x.any (·.bad)

/-- Two vectors combined entry by entry; a missing entry counts as 0. -/
def vZip (f : Fl → Fl → Fl) (x y : List Fl) : List Fl := x.zipIdx.map fun a => f a.1 (vAt y a.2)

/-- x + a·p. -/
def vAxpy (a : Fl) (p x : List Fl) : List Fl := vZip (fun x p => mulAdd a p x) x p

/-- Difference of vectors. -/
def vSub (x y : List Fl) : List Fl := vZip Fl.sub x y

/-- A vector divided by a number. -/
def vDiv (x : List Fl) (s : Fl) : List Fl := x.map (·.div s)

/-- The blocks of the 16 logical engines: consecutive stretches, the last taking what is left (R70). -/
def takeBlocks {α : Type} : Nat → List Nat → List α → List (List α)
  | 0, _, _ => []
  | 1, _, xs => [xs]
  | n + 1, ls, xs => let k := ls.headD 0; xs.take k :: takeBlocks n ls.tail (xs.drop k)

/-- Neighbours added in pairs. -/
def pairSums : List Fl → List Fl
  | a :: b :: t => a.add b :: pairSums t
  | t => t

/-- A dot product: the partial sums of the 16 blocks, combined by the pairwise tree (R70). -/
def vDot (x y : List Fl) : Fl :=
  let terms := x.zipIdx.map fun a => (a.1, vAt y a.2)
  let parts := (takeBlocks 16 (Config.solverBlocks x.length) terms).map fun b =>
    b.foldl (fun s p => mulAdd p.1 p.2 s) (fl 0)
  (pairSums (pairSums (pairSums (pairSums parts)))).headD (fl 0)

/-- 2-norm (R70). -/
def vNorm (x : List Fl) : Fl := (vDot x x).sqrt

/-- Product of a matrix with a vector. -/
def spmv (a : Rows) (x : List Fl) : List Fl :=
  a.map fun r => r.foldl (fun s e => mulAdd (fl e.2) (vAt x e.1) s) (fl 0)

/-- The rows of a pattern, each with its columns (R72). -/
def patternRows (rowPtr colIdx : List Nat) (n : Nat) : List (List Nat) :=
  (List.range n).map fun i =>
    let a := at? rowPtr i 0
    (colIdx.drop a).take (at? rowPtr (i + 1) 0 - a)

/-- The value at a position of a row. -/
def rowAt (r : List (Nat × F64)) (j : Nat) : F64 := keyed r j 0

/-- The rows of a matrix from values in CSR order. -/
def fullRows : List (List Nat) → List F64 → Rows
  | [], _ => []
  | cs :: t, vs => cs.zipIdx.map (fun c => (c.1, at? vs c.2 0)) :: fullRows t (vs.drop cs.length)

/-- The upper-triangle rows of a symmetric matrix from its values in the order of those positions (R73). -/
def upperRows : Nat → List (List Nat) → List F64 → Rows
  | _, [], _ => []
  | i, cs :: t, vs =>
    let us := cs.filter (i ≤ ·)
    us.zipIdx.map (fun c => (c.1, at? vs c.2 0)) :: upperRows (i + 1) t (vs.drop us.length)

/-- The matrix with each upper value in both of its positions (R73). -/
def mirrored (pat : List (List Nat)) (up : Rows) : Rows :=
  pat.zipIdx.map fun r => r.1.map fun j =>
    (j, if r.2 ≤ j then rowAt (at? up r.2 []) j else rowAt (at? up j []) r.2)

/-- A matrix of a class from delivered values (R73): SPD and KKT take the upper triangle. -/
def valueRows (cls : Nat) (pat : List (List Nat)) (vs : List F64) : Rows :=
  if cls = 2 then fullRows pat vs else mirrored pat (upperRows 0 pat vs)

/-- Coefficients an element takes (R79): kind and form, 0 SYM or 1 GEN. -/
def coeffsOf (kind form : Nat) : Nat :=
  match kind, form with
  | 3, 0 => 4
  | 3, _ => 14
  | 7, 0 => 1
  | 7, _ => 2
  | 4, _ | 5, _ | 6, _ => 2
  | _, 0 => 2
  | _, _ => 6

/-- The coefficient number and sign of each entry an element stamps, in order (R79). -/
def stampsOf (kind form : Nat) : List (Nat × Bool) :=
  match kind, form with
  | 3, 0 => [(0, false), (0, false), (0, true), (1, true), (1, false), (2, false), (2, false), (2, true), (3, true),
      (3, false)]
  | 3, _ => (List.range 14).map fun k => (k, false)
  | 4, _ | 5, _ => [(0, false), (1, false)]
  | 6, _ => [(0, false), (1, true)]
  | 7, 0 => [(0, false), (0, false), (0, true)]
  | 7, _ => [(0, false), (1, false)]
  | _, 0 => [(0, false), (0, false), (0, true), (1, true), (1, false)]
  | _, _ => (List.range 6).map fun k => (k, false)

/-- Coefficients of an element that must not be negative in class SPD: its g, g1, g2 and c (R82). -/
def signedCoeffs (kind : Nat) : List Nat := if kind = 3 then [0, 2] else [0]

/-- The elements with the coefficients delivered for each (R97). -/
def elementCoeffs : List Element → List F64 → List (Element × List F64)
  | [], _ => []
  | e :: t, cs => let k := coeffsOf e.kind e.form; (e, cs.take k) :: elementCoeffs t (cs.drop k)

/-- The first element of an SPD job with a negative coefficient (R82). -/
def negativeElement (els : List (Element × List F64)) : Option Nat :=
  els.findIdx? fun e => (signedCoeffs e.1.kind).any fun k => (fl (at? e.2 k 0)).lt (fl 0)

/-- Assembly: the values and the right-hand side after every entry of the map (R81). -/
def assembleMap (nvals : Nat) (scatter : List Nat) (els : List (Element × List F64)) (b : List F64) :
    List Fl × List Fl :=
  let adds := els.flatMap fun e => (stampsOf e.1.kind e.1.form).map fun s =>
    let c := fl (at? e.2 s.1 0)
    if s.2 then c.neg else c
  (scatter.zip adds).foldl (fun (acc : List Fl × List Fl) x =>
      let k := x.1 % 2 ^ 31
      if x.1 / 2 ^ 31 % 2 = 0 then (upd acc.1 k (·.add x.2), acc.2) else (acc.1, upd acc.2 k (·.add x.2)))
    (List.replicate nvals (fl 0), vLoad b)

/-- Infinity norm of a row (R85). -/
def rowNorm (r : List (Nat × F64)) : Fl := r.foldl (fun s e => if s.lt (fl e.2).abs then (fl e.2).abs else s) (fl 0)

/-- A factorisation under way: FP64 multipliers as the elimination uses them, the pivots so far, the replaced pivots
(count and first row), and whether a stored value overflowed FP32 (R85, R86). -/
structure Elim where
  rows : List (List (Nat × Fl)) := []
  piv : List Fl := []
  count : Nat := 0
  first : Nat := 0xFFFFFFFF
  bad : Bool := false

/-- The pivot after the test of R85, and whether it was replaced. -/
def regularise (tau nu d : Fl) : Fl × Bool :=
  let lim := tau.mul nu
  if d.abs.lt lim then ((if d.lt (fl 0) then lim.neg else lim), true) else (d, false)

/-- A multiplier as later rows of the elimination use it. -/
def asUsed (x : Fl) : Fl := if Config.factorRounded then x.to32 else x

/-- An entry of U as later rows of the elimination use it. -/
def upperUsed (x : Fl) : Fl := if Config.upperRounded then x.to32 else x

/-- A pivot taken into an elimination at row i. -/
def Elim.pivot (tau nu : Fl) (i : Nat) (d : Fl) (row : List (Nat × Fl)) (e : Elim) : Elim :=
  let p := regularise tau nu d
  { rows := e.rows ++ [row], piv := e.piv ++ [p.1], count := e.count + (if p.2 then 1 else 0)
    first := if p.2 && e.count == 0 then i else e.first
    bad := e.bad || p.1.bad || row.any (·.2.bad) }

/-- An entry of a row of multipliers. -/
def flAt (r : List (Nat × Fl)) (j : Nat) : Fl := keyed r j {}

/-- One row of the incomplete LDLᵀ factorisation (R84). `lo` is the first row of the block. -/
def ldltRow (tau : Fl) (nus : List Fl) (lo i : Nat) (r : List (Nat × F64)) (e : Elim) : Elim :=
  let ls := (r.filter fun x => lo ≤ x.1 && x.1 < i).foldl (fun (acc : List (Nat × Fl)) x =>
      let j := x.1
      let rj := at? e.rows (j - lo) []
      let s := acc.foldl (fun s k =>
          if rj.any (·.1 == k.1) then mulAdd ((k.2.mul (vAt e.piv (k.1 - lo))).neg) (flAt rj k.1) s else s) (fl x.2)
      acc ++ [(j, asUsed (s.div (vAt e.piv (j - lo))))]) []
  let d := ls.foldl (fun s k => mulAdd ((k.2.mul (vAt e.piv (k.1 - lo))).neg) k.2 s) (fl (rowAt r i))
  e.pivot tau (vAt nus i) i d ls

/-- One row of the incomplete LU factorisation: multipliers left of the diagonal, the row of U from it on (R84). The
row kept holds both parts. Whether multipliers and entries of U act before or after their rounding to FP32 is open
(assumption 9). -/
def luRow (tau : Fl) (nus : List Fl) (lo hi i : Nat) (r : List (Nat × F64)) (e : Elim) : Elim :=
  let start : List (Nat × Fl) := (r.filter fun x => lo ≤ x.1 && x.1 < hi).map fun x => (x.1, fl x.2)
  let row := (start.filter (·.1 < i)).foldl (fun (row : List (Nat × Fl)) x =>
      let k := x.1
      let rk := at? e.rows (k - lo) []
      let l := asUsed ((flAt row k).div (vAt e.piv (k - lo)))
      row.map fun y =>
        if y.1 == k then (k, l)
        else if k < y.1 && rk.any (·.1 == y.1) then (y.1, mulAdd l.neg (upperUsed (flAt rk y.1)) y.2) else y) start
  e.pivot tau (vAt nus i) i (flAt row i) row

/-- Rows lo to hi - 1 factored for a class (R84). -/
def factor (cls : Nat) (tau : Fl) (nus : List Fl) (lo hi : Nat) (a : Rows) : Elim :=
  ((a.drop lo).take (hi - lo)).zipIdx.foldl (fun e r =>
    if cls = 2 then luRow tau nus lo hi (lo + r.2) r.1 e else ldltRow tau nus lo (lo + r.2) r.1 e) {}

/-- Rows with every place from lo to hi - 1 held, 0 where the pattern has none: a block of code 2 is factored whole, the
rule of no fill being that of codes 3 to 5 (R84). -/
def denseRows (lo hi : Nat) (a : Rows) : Rows :=
  a.map fun r => (List.range (hi - lo)).map fun k => (lo + k, rowAt r (lo + k))

/-- Solve with a unit lower factor, rows in order. -/
def forward (low : List (List (Nat × Fl))) (r : List Fl) : List Fl :=
  (low.zip r).foldl (fun y x => y ++ [x.1.foldl (fun s e => mulAdd e.2.neg (vAt y e.1) s) x.2]) []

/-- Solve with an upper factor whose diagonal is given by its reciprocals, rows from the last up. -/
def backward (up : List (List (Nat × Fl))) (recip y : List Fl) : List Fl :=
  let n := y.length
  (List.range n).foldl (fun z k =>
      let i := n - 1 - k
      let s := (at? up i []).foldl (fun s e => mulAdd e.2.neg (vAt z e.1) s) (vAt y i)
      upd z i fun _ => s.mul (vAt recip i)) (List.replicate n (fl 0))

/-- The transpose of strictly triangular rows. -/
def transposed (n : Nat) (a : List (List (Nat × Fl))) : List (List (Nat × Fl)) :=
  (List.range n).map fun j => a.zipIdx.filterMap fun r =>
    (r.1.find? (·.1 == j)).map fun x => (r.2, x.2)

/-- One column of the inverse of a factored block (R84). -/
def blockColumn (cls size : Nat) (e : Elim) (lo j : Nat) : List Fl :=
  let shift (r : List (Nat × Fl)) := r.map fun x => (x.1 - lo, x.2)
  let low := e.rows.zipIdx.map fun r => shift (r.1.filter (·.1 < lo + r.2))
  let y := forward low ((List.range size).map fun i => fl (if i = j then one64 else 0))
  if cls = 2 then
    let up := e.rows.zipIdx.map fun r => shift (r.1.filter (lo + r.2 < ·.1))
    backward up (e.piv.map fun d => (fl one64).div d) y
  else
    let y := vZip (fun y d => y.div d.abs) y e.piv
    backward (transposed size low) (List.replicate size (fl one64)) y

/-- The stored value of FP32 rows, with whether one overflowed. -/
def store32 (rows : List (List (Nat × Fl))) : Rows × Bool :=
  let r := rows.map fun r => r.map fun x => (x.1, x.2.to32)
  (r.map fun r => r.map fun x => (x.1, x.2.v), r.any fun r => r.any fun x => x.2.bad)

/-- What a preparation gives: the preconditioner, the replaced pivots, and overflow (R84 to R86). -/
structure Prepared where
  pre : Precond := {}
  count : Nat := 0
  first : Nat := 0xFFFFFFFF
  bad : Bool := false

/-- The stored diagonal reciprocals: of |d| for the symmetric classes (R84). -/
def recips (cls : Nat) (piv : List Fl) : List Fl :=
  piv.map fun d => ((fl one64).div (if cls = 2 then d else d.abs)).to32

/-- The preconditioner of a code for a matrix (R84). -/
def prepare (code cls block : Nat) (tau : Fl) (a : Rows) : Prepared :=
  let n := a.length
  let nus := a.map rowNorm
  match code with
  | 0 => {}
  | 1 =>
    let e := a.zipIdx.foldl (fun (e : Elim) r => e.pivot tau (vAt nus r.2) r.2 (fl (rowAt r.1 r.2)) []) {}
    let rs := recips cls e.piv
    { pre := { recip := vVals rs }, count := e.count, first := e.first, bad := e.bad || vBad rs }
  | 2 =>
    let size := max 1 block
    let es := (List.range (cdiv n size)).map fun k =>
      let lo := k * size
      let hi := min n (lo + size)
      let e := factor cls tau nus lo hi (denseRows lo hi a)
      (e, (List.range (hi - lo)).map fun j => (blockColumn cls (hi - lo) e lo j).map Fl.to32)
    let inv := es.map fun e =>
      (List.range e.2.length).map fun i => e.2.map fun col => (vAt col i).v
    { pre := { blocks := inv }, count := es.foldl (fun s e => s + e.1.count) 0
      first := ((es.find? (·.1.count != 0)).map (·.1.first)).getD 0xFFFFFFFF
      bad := es.any fun e => e.1.bad || e.2.any vBad }
  | _ =>
    let e := factor cls tau nus 0 n a
    let low := e.rows.zipIdx.map fun r => r.1.filter (·.1 < r.2)
    let up := if cls = 2 then e.rows.zipIdx.map (fun r => r.1.filter (r.2 < ·.1)) else transposed n low
    let l := store32 low
    let u := store32 up
    let rs := recips cls e.piv
    { pre := { low := l.1, up := u.1, recip := vVals rs }, count := e.count, first := e.first
      bad := e.bad || l.2 || u.2 || vBad rs }

/-- Rows of stored values loaded. -/
def loaded (r : Rows) : List (List (Nat × Fl)) := r.map fun r => r.map fun x => (x.1, fl x.2)

/-- The blocks of code 2 applied, one after the other. -/
def blocksApply : List (List (List F64)) → List Fl → List Fl
  | [], _ => []
  | b :: t, r =>
    b.map (fun row => row.zipIdx.foldl (fun s x => mulAdd (fl x.1) (vAt r x.2) s) (fl 0)) ++
      blocksApply t (r.drop b.length)

/-- M⁻¹·r (R84). -/
def preApply (code cls : Nat) (p : Precond) (r : List Fl) : List Fl :=
  match code with
  | 0 => r
  | 1 => vZip Fl.mul r (vLoad p.recip)
  | 2 => blocksApply p.blocks r
  | _ =>
    let y := forward (loaded p.low) r
    if cls = 2 then backward (loaded p.up) (vLoad p.recip) y
    else backward (loaded p.up) (List.replicate y.length (fl one64)) (vZip Fl.mul y (vLoad p.recip))

/-- The system a job iterates on, with the parameters of its method. -/
structure SolveSys where
  cls : Nat := 0
  code : Nat := 0
  a : Rows := []
  b : List F64 := []
  pre : Precond := {}
  tol : F64 := 0
  cap : Nat := 0
  k : Nat := 16
  m : Nat := 0

/-- M⁻¹·r for a system. -/
def SolveSys.pc (s : SolveSys) (r : List Fl) : List Fl := preApply s.code s.cls s.pre r

/-- b - A·x (R88). -/
def SolveSys.residual (s : SolveSys) (x : List Fl) : List Fl := vSub (vLoad s.b) (spmv s.a x)

/-- An iteration's state with the status that ends the job, 0 while none: 3 CONVERGED, 4 CAP_REACHED, 5 STAGNATED,
8 OVERFLOW, 10 INPUT_INVALID (R106). -/
abbrev IterEnd := IterSt × Nat

/-- A check on x at the present count (R87, R88); one made already at this count is not made again. -/
def SolveSys.check (s : SolveSys) (x : List F64) (regular : Bool) (it : IterSt) : IterEnd :=
  if it.checks.any (·.1 == it.i) then (it, 0)
  else
    let t := s.residual (vLoad x)
    let rho := (vNorm t).div (fl it.bnorm)
    let before := (it.checks.head?.map (·.2)).getD rho.v
    let best := ((fl before).min rho).v
    let it := { it with t := vVals t, rho := rho.v, checks := (it.i, best) :: it.checks }
    let old := ((it.checks.find? (·.1 + 64 == it.i)).map (·.2)).getD best
    if vBad t || rho.bad then (it, 8)
    else if rho.le (fl s.tol) then ({ it with x := x }, 3)
    else if it.i ≥ s.cap then ({ it with x := x }, 4)
    else if regular && it.i ≥ 64 && ((fl 0x3FEFAE147AE147AE).mul (fl old)).lt (fl best) then ({ it with x := x }, 5)
    else (it, 0)

/-- The check due after a step with estimate η: regular, candidate or at the cap (R87). -/
def SolveSys.due (s : SolveSys) (it : IterSt) (eta : Fl) : Bool :=
  it.i % s.k == 0 || eta.le (fl it.theta) || it.i == s.cap

/-- The check of a step with its candidate count and threshold (R87). -/
def SolveSys.stepCheck (s : SolveSys) (x : List F64) (eta : Fl) (it : IterSt) : IterEnd :=
  let regular := it.i % s.k == 0
  let cand := eta.le (fl it.theta)
  let it := if regular then it else { it with cand := it.cand + 1 }
  let r := s.check x regular it
  if cand && r.2 == 0 then ({ r.1 with theta := (eta.mul (fl 0x3FE0000000000000)).v }, 0) else r

/-- The check a breakdown calls for: convergence, or the stated ending (R92). -/
def SolveSys.breakdown (s : SolveSys) (status : Nat) (it : IterSt) : IterEnd :=
  let r := s.check it.x false it
  if r.2 = 3 ∨ r.2 = 8 then r else if (fl r.1.rho).le (fl s.tol) then (r.1, 3) else (r.1, status)

/-- The start of a job's iterations from x₀. The β₁ of MINRES, by which the first step divides, is tested as its β is
(R87, R89, R90, R92, R94). -/
def SolveSys.begin (s : SolveSys) (x0 : List F64) : IterEnd :=
  let bn := vNorm (vLoad s.b)
  let it : IterSt := { x := x0, theta := s.tol, bnorm := bn.v }
  if bn.bad then (it, 8)
  else if (fl 0).le bn && bn.le (fl 0) then ({ it with x := s.b.map fun _ => 0, rho := 0 }, 3)
  else
    let c := s.check x0 true it
    let it := c.1
    if c.2 ≠ 0 then c
    else
      match s.cls with
      | 0 =>
        let r := vLoad it.t
        let z := s.pc r
        let g := vDot r z
        ({ it with r := it.t, z := vVals z, p := vVals z, gamma := g.v }, if vBad z || g.bad then 8 else 0)
      | 1 =>
        let u := vLoad it.t
        let y := s.pc u
        let d := vDot u y
        let b1 := d.sqrt
        if vBad y || d.bad then (it, 8)
        else if d.lt (fl 0) then s.breakdown 10 it
        else if d.le (fl 0) then s.breakdown 5 it
        else ({ it with u := it.t, y := vVals y, beta1 := b1.v, beta := b1.v, betaOld := one64, phibar := b1.v
                        cs := 0xBFF0000000000000, rho0 := it.rho, uOld := s.b.map fun _ => 0, w := s.b.map fun _ => 0
                        wOld := s.b.map fun _ => 0 }, if b1.bad then 8 else 0)
      | _ => (it, 0)

/-- One PCG iteration (R89). -/
def SolveSys.pcg (s : SolveSys) (it : IterSt) : IterEnd :=
  let p := vLoad it.p
  let q := spmv s.a p
  let d := vDot p q
  if vBad q || d.bad then (it, 8)
  else if d.le (fl 0) || (fl it.gamma).le (fl 0) then s.breakdown 10 it
  else
    let al := (fl it.gamma).div d
    let x := vAxpy al p (vLoad it.x)
    let r := vAxpy al.neg q (vLoad it.r)
    let eta := (vNorm r).div (fl it.bnorm)
    let it0 : IterSt := { it with x := vVals x, r := vVals r }
    let it := { it0 with i := it.i + 1 }
    if vBad x || vBad r then (it0, 8)
    else if eta.bad then (it, 8)
    else
      let c := if s.due it eta then s.stepCheck it.x eta it else (it, 0)
      if c.2 ≠ 0 then c
      else
        let it := if s.due it eta then { c.1 with r := c.1.t } else c.1
        let r := vLoad it.r
        let z := s.pc r
        let g := vDot r z
        let be := g.div (fl it.gamma)
        let p := vAxpy be p z
        ({ it with z := vVals z, p := vVals p, gamma := g.v }, if vBad z || be.bad || vBad p then 8 else 0)

/-- One MINRES iteration (R90). Where β is 0 and g with it, the breakdown is tested before the divisions by g, so the check is
made on x as it stands (R92, R94). -/
def SolveSys.minres (s : SolveSys) (it : IterSt) : IterEnd :=
  let beta := fl it.beta
  let u := vLoad it.u
  let v := vDiv (vLoad it.y) beta
  let y := vAxpy (beta.div (fl it.betaOld)).neg (vLoad it.uOld) (spmv s.a v)
  let al := vDot v y
  let y := vAxpy (al.div beta).neg u y
  let z := s.pc y
  let b2 := vDot y z
  if vBad v || vBad y || vBad z || al.bad || b2.bad then (it, 8)
  else if b2.lt (fl 0) then s.breakdown 10 it
  else
    let bn := b2.sqrt
    let cs := fl it.cs
    let sn := fl it.sn
    let db := fl it.dbar
    let de := mulAdd sn al (cs.mul db)
    let gb := mulAdd cs.neg al (sn.mul db)
    let ep := sn.mul bn
    let db' := (cs.mul bn).neg
    let g := (mulAdd gb gb (bn.mul bn)).sqrt
    let cs' := gb.div g
    let sn' := bn.div g
    let phi := cs'.mul (fl it.phibar)
    let phib := sn'.mul (fl it.phibar)
    let w := vDiv (vAxpy de.neg (vLoad it.w) (vAxpy (fl it.eps).neg (vLoad it.wOld) v)) g
    let x := vAxpy phi w (vLoad it.x)
    let eta := ((fl it.rho0).mul phib.abs).div (fl it.beta1)
    let it0 := it
    let bad := de.bad || gb.bad || ep.bad || db'.bad || g.bad || cs'.bad || sn'.bad || vBad w || vBad x
    let it := { it with x := vVals x, u := vVals y, uOld := it.u, y := vVals z, beta := bn.v, betaOld := it.beta
                        cs := cs'.v, sn := sn'.v, dbar := db'.v, eps := ep.v, phibar := phib.v, w := vVals w
                        wOld := it.w, i := it.i + 1 }
    if bn.le (fl 0) && g.le (fl 0) then s.breakdown 5 { it0 with i := it0.i + 1 }
    else if bad then ({ it with i := it0.i }, 8)
    else if bn.le (fl 0) then s.breakdown 5 it
    else if eta.bad then (it, 8)
    else if s.due it eta then s.stepCheck it.x eta it
    else (it, 0)

/-- The solution of the upper-triangular system of a GMRES cycle. At a breakdown its last diagonal element can be 0, which
leaves that component open: it is a free value, and no division by 0 is performed (R91, R92, R94; DESIGN CHOICE,
assumption 52). -/
def triSolve (cols : List (List F64)) (g : List F64) : List Fl :=
  let j := cols.length
  (List.range j).foldl (fun y k =>
      let i := j - 1 - k
      let s := (List.range j).foldl (fun s c =>
        if i < c then mulAdd (fl (at? (at? cols c []) i 0)).neg (vAt y c) s else s) (fl (at? g i 0))
      let d := fl (at? (at? cols i []) i 0)
      upd y i fun _ => if d.le (fl 0) && (fl 0).le d then fl (Config.gmresComponent cols g) else s.div d)
    (List.replicate j (fl 0))

/-- x + M⁻¹·(V·y) of a GMRES cycle (R91). -/
def SolveSys.gmresX (s : SolveSys) (it : IterSt) : List Fl :=
  let y := triSolve it.cols it.g
  let v := y.zipIdx.foldl (fun acc c => vAxpy c.1 (vLoad (at? it.basis c.2 [])) acc) (s.b.map fun _ => fl 0)
  vZip Fl.add (vLoad it.x) (s.pc v)

/-- A rotation applied to a column at positions k and k + 1. -/
def rotate (k : Nat) (r : F64 × F64) (h : List Fl) : List Fl :=
  let a := vAt h k
  let b := vAt h (k + 1)
  let h := upd h k fun _ => mulAdd (fl r.2) b ((fl r.1).mul a)
  upd h (k + 1) fun _ => mulAdd (fl r.2).neg a ((fl r.1).mul b)

/-- The start of a restart cycle (R91). -/
def SolveSys.gmresBegin (s : SolveSys) (it : IterSt) : IterEnd :=
  if !it.basis.isEmpty then (it, 0)
  else
    let c := s.check it.x (it.i % s.k == 0) it
    if c.2 ≠ 0 then c
    else
      let t := vLoad c.1.t
      let nt := vNorm t
      let v := vDiv t nt
      ({ c.1 with basis := [vVals v], g := [nt.v], cols := [], rots := [] }, if vBad v then 8 else 0)

/-- The end of a restart cycle: x moves on and the basis goes (R91). -/
def IterSt.endCycle (it : IterSt) (x : List F64) : IterSt := { it with x := x, basis := [], cols := [], rots := [], g := [] }

/-- One Arnoldi step of GMRES (R91). -/
def SolveSys.gmres (s : SolveSys) (it : IterSt) : IterEnd :=
  let c := s.gmresBegin it
  if c.2 ≠ 0 then c
  else
    let it := c.1
    let vs := it.basis.map vLoad
    let j := vs.length
    let w := spmv s.a (s.pc (vAt2 vs (j - 1)))
    let pass := fun (w : List Fl) =>
      let h := vs.map fun v => vDot v w
      (h, (h.zip vs).foldl (fun w x => vAxpy x.1.neg x.2 w) w)
    let p1 := pass w
    let p2 := pass p1.2
    let hn := vNorm p2.2
    let h := vZip Fl.add p1.1 p2.1 ++ [hn]
    let h := it.rots.zipIdx.foldl (fun h r => rotate r.2 r.1 h) h
    let a := vAt h (j - 1)
    let zero := hn.le (fl 0)
    let r := (mulAdd a a (hn.mul hn)).sqrt
    let rot : Fl × Fl := if zero then (fl one64, fl 0) else (a.div r, hn.div r)
    let h := rotate (j - 1) (rot.1.v, rot.2.v) h
    let g := rotate (j - 1) (rot.1.v, rot.2.v) (vLoad (it.g ++ [0]))
    let eta := (vAt g j).abs.div (fl it.bnorm)
    let it := { it with cols := it.cols ++ [vVals (h.take j)], rots := it.rots ++ [(rot.1.v, rot.2.v)], g := vVals g
                        i := it.i + 1 }
    if vBad p2.2 || vBad h || vBad g || rot.1.bad || rot.2.bad then ({ it with i := it.i - 1 }, 8)
    else if eta.bad then (it, 8)
    else if zero then
      let xc := s.gmresX it
      let c := s.check (vVals xc) (it.i % s.k == 0) it
      if vBad xc then (it, 8) else if c.2 ≠ 0 then c else (c.1.endCycle (vVals xc), 0)
    else
      let it := { it with basis := it.basis ++ [vVals (vDiv p2.2 hn)] }
      let last := decide (j ≥ s.m)
      if s.due it eta || last then
        let xc := s.gmresX it
        if vBad xc then (it, 8)
        else
          let c := if s.due it eta then s.stepCheck (vVals xc) eta it else (it, 0)
          if c.2 ≠ 0 then c else (if last then c.1.endCycle (vVals xc) else c.1, 0)
      else (it, 0)
where
  /-- A vector of a list of vectors. -/
  vAt2 (vs : List (List Fl)) (k : Nat) : List Fl := at? vs k []

/-- One iteration of a class's method (R65). -/
def SolveSys.step (s : SolveSys) (it : IterSt) : IterEnd :=
  match s.cls with
  | 0 => s.pcg it
  | 1 => s.minres it
  | _ => s.gmres it

/-- Iterations until the job ends; the first argument bounds them. -/
def SolveSys.run (s : SolveSys) : Nat → IterEnd → IterEnd
  | 0, r => r
  | n + 1, r => if r.2 ≠ 0 then r else SolveSys.run s n (s.step r.1)

end Sys2Proof.Machine
end

