-- ==== Sys2Proof/Machine/Solver.lean ====
section
/-! DEFINITION. Solver jobs on the solver dies: descriptors, start, phases, endings, verification and commit, batch
jobs, aborts, self-tests and the lane's view of them (R97 to R124, R450). -/

namespace Sys2Proof.Machine

/-- Die ID of a solver die (R5). -/
def sdId (sd : Nat) : Nat := 2 + sd

/-- The SLV points: MHz and power per die in 0.1 W, highest first (R450). -/
def slvPoints : List (Nat × Nat) := [(1200, 220), (1000, 160), (800, 110), (600, 75), (400, 45)]

/-- Greatest power of a die at a point, in 0.1 W (R450). -/
def slvPower (mhz : Nat) : Nat := keyed slvPoints mhz 0

/-- The proof clock f_P of a POWER item, 0 where no point qualifies (R450). -/
def proofClock (p : PowerCfg) : Nat :=
  ((slvPoints.find? fun x => decide (x.2 ≤ p.pSolver) && decide (x.1 ≤ p.slvFMax)).map (·.1)).getD 0

/-- The point `CLK_SLV_CAP` stands for; a cap below the lowest point is taken as that point (assumption 29). -/
def capPoint (cap : Nat) : Nat :=
  if cap = 0 then 1200 else ((slvPoints.find? fun x => decide (x.1 ≤ cap)).map (·.1)).getD 400

/-- The lowest of f_P, the governor's step-3 point and the cap (R450). -/
def Lane.slvLimit (L : Lane) : Nat :=
  let fp := match L.cfg.active with
    | some c => proofClock c.power
    | none => 0
  min (min fp (capPoint L.clk.cap)) (if L.pwr.step ≥ 3 then 600 else 1200)

/-- VSLV of a point, mV (R450). -/
def slvVolt (mhz : Nat) : Nat :=
  if 1000 < mhz then 900 else if 800 < mhz then 830 else if 600 < mhz then 760 else if 400 < mhz then 700 else 650

/-- Clocks of the solver dies brought to the running point of the lane whose claim they hold; stopped while the engines
are not ON, which leaves their rail as it is (R27, R449, R450). -/
def slvClocks (m : Module) : Module :=
  { m with sds := m.sds.map fun s =>
      let l := claimLane s.claim
      let on := (List.range 4).any fun e => (at? s.doms (1 + e) {}).state == .on
      let f := (m.lane l).slvLimit
      { s with rail := if on && f != 0 then s.rail.ask m.now f (slvVolt f) else s.rail.ask m.now 0 s.rail.final.2 } }

/-- `SLV_DIE_STATE` of a die as a lane sees it (R121). -/
def Module.dieState (m : Module) (l : LaneId) (sd : Nat) : SdState :=
  let s := m.sd sd
  if sd ≥ m.variant.nSd then .absent
  else if !s.powered || !at? (m.lane l).slv.linkUp sd false then .unreachable
  else s.state

/-- A die's state number. -/
def SdState.code : SdState → Nat
  | .absent => 0
  | .asleep => 1
  | .waking => 2
  | .active => 3
  | .selfTest => 4
  | .outOfService => 5
  | .parked => 6
  | .unreachable => 7

/-- Whether a die is available to a lane (R121). -/
def Module.dieAvailable (m : Module) (l : LaneId) (sd : Nat) : Bool :=
  match m.dieState l sd with
  | .asleep | .waking | .active => true
  | _ => false

/-- Domains ENG0 to ENG3 and BANK0 to BANK15 of a solver die (R444). -/
def engDoms : List Nat := [1, 2, 3, 4]
def bankDoms : List Nat := (List.range 16).map (5 + ·)

/-- Whether a solver die's banks hold template data or results (R122; which bank holds which is open, assumption 50). -/
def SolverDie.holdsData (s : SolverDie) : Bool := (s.bank.any fun c => !c.templates.isEmpty) || !s.results.isEmpty

/-- The banks of a solver die asked ON while they hold data or a job is on the die, else OFF (R122). -/
def askBanks (sd : Nat) (m : Module) : Module :=
  let s := m.sd sd
  let on := s.holdsData || s.run.isSome || !s.queue.isEmpty
  domRequests (claimLane s.claim) (sdId sd) bankDoms (if on then .on else .off) m

/-- The lanes' DIE_STATE bits raised where a die's state has changed. -/
def slvWatch (m : Module) : Module :=
  forEach m.laneList (fun l m =>
    let now := (List.range 2).map (m.dieState l)
    let old := (m.lane l).slv.lastDie
    let m := m.updLane l fun L => { L with slv := { L.slv with lastDie := now } }
    if now = old then m else raise l 4 0x10 m) (slvClocks m)

/-- A lane's view of a requested template changed. -/
def updTpl (l : LaneId) (req : Nat) (f : TplView → TplView) (m : Module) : Module :=
  m.updLane l fun L => { L with slv := { L.slv with tpls := upd L.slv.tpls (req - 1) f } }

/-- A job of the lane no longer open. -/
def closeJob (l : LaneId) (seq : Nat) (m : Module) : Module :=
  m.updLane l fun L => { L with slv := { L.slv with jobs := L.slv.jobs.filter (·.seq != seq) } }

/-- Number of an abort's source (R123). -/
def AbortSrc.code : AbortSrc → Nat
  | .program => 0
  | .register => 1
  | .claim => 2

/-- How a job ended without a commit: what its status and event carry (R106, R123). -/
structure JobEnd where
  status : Nat := 0
  /-- third parameter of the event -/
  p2 : Nat := 0
  iterations : Nat := 0
  /-- ρ of the ending check, where the job made one -/
  rho : Option F64 := none
  pivotCount : Nat := 0
  pivotFirst : Nat := 0xFFFFFFFF
  firstBad : Nat := 0xFFFFFFFF
  flags : Nat := 0

/-- Event code of an ending (R123). -/
def endEvent : Nat → Nat
  | 6 => 0x2001
  | 8 => 0x2002
  | 9 => 0x2003
  | 10 => 0x2004
  | _ => 0x2005

/-- Whether a status is an error (R106). -/
def isError (status : Nat) : Bool := status == 6 || status == 8 || status == 9 || status == 10

/-- The releasing lane's view after an ending without a commit (R106 to R108). -/
def viewEnd (l : LaneId) (req seq : Nat) (e : JobEnd) (m : Module) : Module :=
  let m := updTpl l req (fun v => { v with
    status := e.status, flags := e.flags, iter := e.iterations, rho := e.rho.getD v.rho
    pivotCount := e.pivotCount, pivotFirst := e.pivotFirst, firstBad := e.firstBad
    miss := if e.status = 6 then sat max32 (v.miss + 1) else v.miss, committed := false }) (closeJob l seq m)
  if isError e.status then raise l 4 (if e.status = 9 then 6 else 2) m else m

/-- The running job of a die gone, its engines asleep or parked where nothing waits (R102, R122, R441). -/
def sdFree (sd : Nat) (m : Module) : Module :=
  let m := m.updSd sd fun s => { s with run := none, collector := [], heldDone := [] }
  let s := m.sd sd
  let l := claimLane s.claim
  let die := sdId sd
  if s.parkReq && s.state != .outOfService then
    let m := m.updSd sd fun s => { s with state := .parked, parkReq := false }
    let m := domRequests l die engDoms .off m
    slvWatch (domRequest l die 0 .ret (domRequests l die bankDoms .ret m))
  else if s.queue = [] ∧ s.suspect = [] then
    slvWatch (askBanks sd (domRequests l die engDoms .off (m.updSd sd fun s =>
      if s.state == .active || s.state == .waking then { s with state := .asleep } else s)))
  else slvWatch m

/-- What a running job has to show for its ending. -/
def SlvRun.ending (r : SlvRun) (status p2 : Nat) (rho : Option F64) : JobEnd :=
  { status := status, p2 := p2, iterations := r.it.i, rho := rho, pivotCount := r.pivotCount
    pivotFirst := r.pivotFirst, firstBad := if status = 10 then r.firstBad else 0xFFFFFFFF, flags := r.job.flags }

/-- The running job of a die ended without a commit. -/
def endRun (sd : Nat) (e : JobEnd) (m : Module) : Module :=
  match (m.sd sd).run with
  | none => m
  | some r =>
    let j := r.job
    let m := reportSd sd 4 (endEvent e.status) j.requested j.seq e.p2 m
    sdFree sd (viewEnd j.lane j.requested j.seq e m)

/-- A job that has not started ended without a commit. -/
def endQueued (sd : Nat) (j : SlvJob) (e : JobEnd) (m : Module) : Module :=
  let m := m.updSd sd fun s => { s with queue := s.queue.filter (·.seq != j.seq) }
  let m := reportSd sd 4 (endEvent e.status) j.requested j.seq e.p2 m
  let m := viewEnd j.lane j.requested j.seq { e with flags := j.flags } m
  if (m.sd sd).run.isNone then sdFree sd m else m

/-- The deadline test and the abort sample of a phase end; the rest of the phase runs where neither ends the job
(R102, R114). -/
def sampled (sd : Nat) (r : SlvRun) (abortable : Bool) (f : Module → Module) (m : Module) : Module :=
  if m.now > r.job.deadlineUs * 1000 then endRun sd (r.ending 6 r.it.i none) m
  else match (if abortable then r.job.abort else none) with
    | some a => endRun sd (r.ending 7 a.code none) m
    | none => f m

/-- The running job of a die changed. -/
def updRun (sd : Nat) (f : SlvRun → SlvRun) (m : Module) : Module := m.updSd sd fun s => { s with run := s.run.map f }

/-- JOB_DESCRIPTOR: a descriptor arrives. One of a lower claim than the latched one, or of that claim over the other
lane's link, is rejected and counted; one of a higher claim, which the die has not latched, is not acted on and not counted
(DESIGN CHOICE, assumption 49), nor is any while the die accepts no job (R119). One of a wrong image counter ends; another is
queued, and the engine domains and the SLV clock are requested (R20, R27, R100, R122, R274). -/
def jobDescriptorBody (l : LaneId) (sd : Nat) (_ : Store) (m : Module) : Module :=
  match takeMail l.num (sdId sd) (fun x => match x with | .job j => some j | _ => none) m.mail with
  | none => m
  | some (j, rest) =>
    let m := { m with mail := rest }
    let s := m.sd sd
    let swapped := s.confirmed && (match s.applyAt with | some t => decide (t ≤ m.now) | none => false)
    let takes := s.state == .asleep || s.state == .waking || s.state == .active
    if j.claim < s.claim || (j.claim = s.claim && claimLane j.claim != l) then m.updSd sd fun s => { s with rejected := sat max32 (s.rejected + 1) }
    else if j.claim ≠ s.claim || !takes then m
    else if j.imageCounter ≠ (if swapped then s.shadowCounter else s.bankCounter) then
      endQueued sd j { status := 10, p2 := 0xFFFFFFFF } m
    else
      let m := m.updSd sd fun s =>
        { s with queue := s.queue ++ [j], state := if s.state == .asleep then .waking else s.state }
      slvWatch (askBanks sd (domRequests l (sdId sd) engDoms .on m))

/-- Whether a warm-start set breaks R78 against a template. -/
def WarmSet.broken (w : WarmSet) (t : Template) : Bool :=
  (w.fingerprint == t.fingerprint && w.n != t.n) ||
  (w.mapPresent && (!w.map.Nodup || w.map.contains 0xFFFFFFFF)) ||
  w.x.any fun x => x.toNat / 2 ^ 52 % 2048 == 2047

/-- The initial iterate of R118 from a set or from none: x₀, the flag bits, and the cause of WARM_REJECTED. The map of a
BATCH template names the first N unknowns, those of all problems counted through; an unknown without an ID starts at 0 (R75,
R77; DESIGN CHOICE, assumption 49). A set fills the first of the unknowns so counted, with as many values as it carries: a ring-2
set N, the die's own result those of all problems (R76; DESIGN CHOICE, assumption 52). -/
def warmStart (t : Template) (n : Nat) : Option WarmSet → List F64 × Nat × Option Nat
  | none => (List.replicate n 0, 0, none)
  | some w =>
    if w.lost then (List.replicate n 0, 4, some 3)
    else if w.broken t then (List.replicate n 0, 4, some 1)
    else if w.n > t.warmNMax then (List.replicate n 0, 4, some 2)
    else if w.fingerprint = t.fingerprint then ((List.range n).map fun i => at? w.x i 0, 0, none)
    else if w.mapPresent && t.map then
      ((List.range n).map fun i =>
        match t.idMap[i]?.bind fun id => w.map.findIdx? (· == id) with
        | some k => at? w.x k 0
        | none => 0, 2, none)
    else (List.replicate n 0, 4, some 0)

/-- A committed result as a warm-start set (R76, R118). -/
def SlvResult.warm (r : SlvResult) (lost : Bool) : WarmSet :=
  { fingerprint := r.fingerprint, n := r.n, mapPresent := r.map.isSome
    x := if r.batch.isEmpty then r.x else r.batch.flatMap (·.x), map := r.map.getD [], lost := lost }

/-- The problems of a template: unknowns and pattern each; one for a network or optimisation job (R97). -/
def Template.problemList (t : Template) : List (Nat × List (List Nat)) :=
  if t.kind = 2 then t.batch.map fun b => (b.n, patternRows b.rowPtr b.colIdx b.n)
  else [(t.n, patternRows t.rowPtr t.colIdx t.n)]

/-- Unknowns of all problems of a template. -/
def Template.unknowns (t : Template) : Nat := t.problemList.foldl (fun s p => s + p.1) 0

/-- A running job given its initial iterate; its warm-start flags show in its lane's view from then on (R107, R118). -/
def giveStart (sd : Nat) (set : Option WarmSet) (m : Module) : Module :=
  match (m.sd sd).run with
  | none => m
  | some r =>
    let w := warmStart r.job.tmpl r.job.tmpl.unknowns set
    let m := updRun sd (fun r => { r with x0 := w.1, job := { r.job with flags := r.job.flags ||| w.2.1 } }) m
    let m := updTpl r.job.lane r.job.requested (fun v => { v with flags := r.job.flags ||| w.2.1 }) m
    match w.2.2 with
    | none => m
    | some c => reportSd sd 4 0x2008 r.job.requested r.job.seq c m

/-- The values of all problems of a job delivered as a value array, each in the full order of its pattern (R73). -/
def deliveredRows (cls : Nat) : List (Nat × List (List Nat)) → List F64 → List Rows
  | [], _ => []
  | p :: t, vs =>
    let nnz := p.2.foldl (fun s r => s + r.length) 0
    let k := if cls = 2 then nnz else (nnz + p.1) / 2
    valueRows cls p.2 (vs.take k) :: deliveredRows cls t (vs.drop k)

/-- The matrix rows of all problems from values in full CSR order. -/
def storedRows : List (Nat × List (List Nat)) → List F64 → List Rows
  | [], _ => []
  | p :: t, vs =>
    let nnz := p.2.foldl (fun s r => s + r.length) 0
    fullRows p.2 (vs.take nnz) :: storedRows t (vs.drop nnz)

/-- Values of matrices in full CSR order. -/
def rowValues (rs : List Rows) : List F64 := rs.flatMap fun a => a.flatMap fun r => r.map (·.2)

/-- Whether a value is a NaN or an infinity. -/
def notFinite (x : F64) : Bool := x.toNat / 2 ^ 52 % 2048 == 2047

/-- A running job with its payload examined: NaN and infinity end it, a value array is stored, and the next phase
begins (R71, R73, R81). The index of the first offending value counts the values or coefficients and then b in one run
(DESIGN CHOICE, assumption 49). -/
def takePayload (sd : Nat) (m : Module) : Module :=
  match (m.sd sd).run with
  | none => m
  | some r => match r.job.payload with
    | none => m
    | some p =>
      let t := r.job.tmpl
      let m := if r.job.warmSrc = 2 then giveStart sd p.warm m else m
      match (p.values ++ p.b).findIdx? notFinite with
      | some k =>
        match (m.sd sd).run with
        | some r => endRun sd ({ r with firstBad := k }.ending 10 k none) m
        | none => m
      | none =>
        if t.valueSrc = 1 then updRun sd (fun r => { r with phase := .assembly, b := p.b }) m
        else updRun sd (fun r => { r with
          phase := if t.kind = 2 then .iterating else .preparation
          values := rowValues (deliveredRows t.cls t.problemList p.values), b := p.b }) m

/-- The queued job that starts next: the earliest deadline, then the lower template (R101). -/
def SolverDie.nextJob (s : SolverDie) : Option SlvJob :=
  let first (a b : SlvJob) : SlvJob :=
    if b.deadlineUs < a.deadlineUs || (b.deadlineUs == a.deadlineUs && b.template < a.template) then b else a
  match s.queue with
  | [] => none
  | j :: rest => some (rest.foldl first j)

/-- The committed result a job with WARM_SRC 1 starts from: its die's own, or the newer one that the other die holds of the
fallback of a FULL template (R118). -/
def priorResult (sd : Nat) (req : Nat) (m : Module) : Option WarmSet :=
  let held (k : Nat) : Option SlvResult := ((m.sd k).results.find? (·.1 == req)).map (·.2)
  let set (k : Nat) (r : SlvResult) : WarmSet := r.warm ((m.sd k).warmLost.contains req)
  let own := held sd
  match (if sd < 2 && 1 - sd < m.variant.nSd then held (1 - sd) else none) with
  | none => own.map (set sd)
  | some r =>
    if r.template != r.requested && (own.all fun o => decide (o.commitUs < r.commitUs)) then some (set (1 - sd) r)
    else own.map (set sd)

/-- A queued job starts on its die: the engine domains are up, and it takes its initial iterate and, where it is there, its
payload (R101, R118). -/
def startJob (sd : Nat) (j : SlvJob) (m : Module) : Module :=
  let m := domSettle (sdId sd) (engDoms ++ bankDoms) m
  let m := m.updSd sd fun s =>
    { s with queue := s.queue.filter (·.seq != j.seq), state := .active,
             run := some { job := j, batch := j.tmpl.problemList.map fun _ => none } }
  let m := slvWatch (updTpl j.lane j.requested (fun v => { v with
    status := 2, flags := j.flags, pivotCount := 0, pivotFirst := 0xFFFFFFFF }) m)
  takePayload sd (giveStart sd (if j.warmSrc = 1 then priorResult sd j.requested m else none) m)

/-- JOB_START: the next queued job starts on a free die (R101). -/
def jobStartBody (sd : Nat) (_ : Store) (m : Module) : Module :=
  let s := m.sd sd
  if s.run.isSome || !s.powered || !(s.state == .waking || s.state == .active) then m
  else match s.nextJob with
    | none => m
    | some j => startJob sd j m

/-- PAYLOAD_RECEIVED: the payload of a job has arrived and is examined (R71, R99). -/
def payloadReceivedBody (l : LaneId) (sd : Nat) (_ : Store) (m : Module) : Module :=
  match takeMail l.num (sdId sd) (fun x => match x with | .payload n p => some (n, p) | _ => none) m.mail with
  | none => m
  | some ((seq, p), rest) =>
    let m := { m with mail := rest }
    let give (j : SlvJob) : SlvJob := if j.seq = seq && j.lane == l then { j with payload := some p } else j
    let m := m.updSd sd fun s =>
      { s with queue := s.queue.map give, run := s.run.map fun r => { r with job := give r.job } }
    match (m.sd sd).run with
    | some r => if r.job.seq = seq && r.phase == .waitPayload then takePayload sd m else m
    | none => m

/-- Assembly of a running job: a negative SPD element ends it; else its matrix and right-hand side are kept for the next
phase (R79 to R82). -/
def assembleJob (sd : Nat) (r : SlvRun) (m : Module) : Module :=
  let t := r.job.tmpl
  let els := elementCoeffs t.elements ((r.job.payload.map (·.values)).getD [])
  match (if t.cls = 0 then negativeElement els else none) with
  | some k => endRun sd ({ r with firstBad := k }.ending 10 k none) m
  | none =>
    let a := assembleMap t.nnz t.scatter els r.b
    let rows := storedRows t.problemList (vVals a.1)
    let rows := if t.cls = 2 then rows else
      (t.problemList.zip rows).map fun x => mirrored x.1.2 x.2
    updRun sd (fun r => { r with
      phase := if t.kind = 2 then .iterating else .preparation
      values := rowValues rows, b := vVals a.2 }) m

/-- ASSEMBLY_END: the matrix and right-hand side assembled from the coefficients (R79 to R82). -/
def assemblyEndBody (sd : Nat) (_ : Store) (m : Module) : Module :=
  match (m.sd sd).run with
  | none => m
  | some r =>
    if r.phase != .assembly then m else sampled sd r true (assembleJob sd r) m

/-- τ of a template: 2 to the minus TAU_EXP (R97). -/
def Template.tau (t : Template) : Fl := fl (BitVec.ofNat 64 ((1023 - t.tauExp) * 2 ^ 52))

/-- The system of one problem of a template. -/
def Template.sys (t : Template) (a : Rows) (b : List F64) (pre : Precond) : SolveSys :=
  { cls := t.cls, code := t.precond, a := a, b := b, pre := pre, tol := t.tol, cap := t.cap, k := t.k, m := t.m }

/-- The first row whose infinity norm is 0 (R86). -/
def zeroRow (a : Rows) : Option Nat := a.findIdx? fun r => (rowNorm r).le (fl 0)

/-- What a check or breakdown makes of a running job: verification, OVERFLOW, INPUT_INVALID, or another iteration. -/
def settleIter (sd : Nat) (r : SlvRun) (e : IterEnd) (m : Module) : Module :=
  let r' : SlvRun := { r with it := e.1, endStatus := e.2 }
  let ninth := decide (r.it.cand ≤ 8) && decide (e.1.cand > 8)
  let m := when ninth (fun m => reportSd sd 4 0x200E r.job.requested r.job.seq e.1.i (raise r.job.lane 4 0x20 m)) m
  match e.2 with
  | 0 => updRun sd (fun _ => { r' with phase := .iterating }) m
  | 8 => endRun sd (r'.ending 8 e.1.i none) (updRun sd (fun _ => r') m)
  | 10 => endRun sd (r'.ending 10 0xFFFFFFFF none) (updRun sd (fun _ => r') m)
  | _ => updRun sd (fun _ => { r' with phase := .verifying }) m

/-- The pivots a running job has replaced, shown by its lane's registers as they are replaced (R85). -/
def livePivots (r : SlvRun) (m : Module) : Module :=
  updTpl r.job.lane r.job.requested (fun v => { v with
    flags := r.job.flags, pivotCount := r.pivotCount, pivotFirst := r.pivotFirst }) m

/-- Preparation of a running job: a zero row ends it; else the preconditioner is factored, its replaced pivots are told,
and the check at iteration 0 is made (R84 to R88). -/
def prepareJob (sd : Nat) (r : SlvRun) (m : Module) : Module :=
  let t := r.job.tmpl
  let a := at? (storedRows t.problemList r.values) 0 []
  match zeroRow a with
  | some k => endRun sd ({ r with firstBad := k }.ending 10 k none) m
  | none =>
    let p := prepare t.precond t.cls t.block t.tau a
    let r : SlvRun := { r with pre := p.pre, pivotCount := p.count, pivotFirst := p.first
                               job := { r.job with flags := r.job.flags ||| (if p.count = 0 then 0 else 1) } }
    let m := livePivots r (updRun sd (fun _ => r) m)
    let m := when (p.count != 0) (reportSd sd 4 0x2007 r.job.requested r.job.seq p.first) m
    if p.bad then endRun sd (r.ending 8 0 none) m
    else settleIter sd r ((t.sys a r.b p.pre).begin r.x0) m

/-- PREPARATION_END: the preconditioner is factored with its pivots tested, and the check at iteration 0 is made
(R84 to R88). -/
def preparationEndBody (sd : Nat) (_ : Store) (m : Module) : Module :=
  match (m.sd sd).run with
  | none => m
  | some r =>
    if r.phase != .preparation then m else sampled sd r true (prepareJob sd r) m

/-- ITERATION: one iteration of the method, with the checks at its end (R87 to R94). -/
def iterationBody (sd : Nat) (_ : Store) (m : Module) : Module :=
  match (m.sd sd).run with
  | none => m
  | some r =>
    if r.phase != .iterating || r.job.tmpl.kind = 2 then m
    else sampled sd r true (fun m =>
      let t := r.job.tmpl
      let a := at? (storedRows t.problemList r.values) 0 []
      settleIter sd r ((t.sys a r.b r.pre).step r.it) m) m

/-- The physical engine that serves a logical index (R120). -/
def SolverDie.engineOf (s : SolverDie) (i : Nat) : Nat := if s.spare == some i then 16 else i

/-- Physical engines marked suspect, each recorded (R111, R123). -/
def markSuspect (sd : Nat) (es : List Nat) (m : Module) : Module :=
  forEach es (fun e m =>
    if (m.sd sd).suspect.contains e then m
    else reportSd sd 4 0x200A (sdId sd) e 0 (m.updSd sd fun s => { s with suspect := s.suspect ++ [e] })) m

/-- The physical engines of the blocks a bitmap names: the one of the main path and the one that recomputed it
(R110, R111). -/
def SolverDie.blockEngines (s : SolverDie) (bits : Nat) : List Nat :=
  (List.range 16).flatMap fun i => if nbit bits i then [s.engineOf i, s.engineOf ((i + 4) % 16)] else []

/-- The running job of a die commits a result. The header of a batch job holds the largest count of iterations of its problems,
and its RHO the value a run begins with (R106, R109, R112; DESIGN CHOICE, assumption 52). -/
def commitRun (sd : Nat) (r : SlvRun) (status : Nat) (batch : List BatchRec) (m : Module) : Module :=
  let j := r.job
  let t := j.tmpl
  let fl := j.flags ||| (if j.abort.isSome then 8 else 0)
  let res : SlvResult :=
    { requested := j.requested, template := j.template, status := status, flags := fl, jobSeq := j.seq
      iterations := r.it.i, rho := r.it.rho, releaseUs := j.releaseUs, commitUs := m.us, fingerprint := t.fingerprint
      n := t.n, pivotCount := r.pivotCount, pivotFirst := r.pivotFirst, candChecks := r.it.cand
      x := if t.kind = 2 then [] else r.it.x, map := if t.map then some t.idMap else none, batch := batch }
  let m := m.updSd sd fun s =>
    { s with results := putKey s.results j.requested res, warmLost := s.warmLost.filter (· != j.requested) }
  let m := updTpl j.lane j.requested (fun v => { v with
    status := status, flags := fl, result := some res, iter := res.iterations, rho := res.rho, commitUs := res.commitUs
    pivotCount := r.pivotCount, pivotFirst := r.pivotFirst, copied := false, committed := true
    firstBad := if status = 10 then r.firstBad else 0xFFFFFFFF })
    (closeJob j.lane j.seq m)
  sdFree sd (raise j.lane 4 (1 + if isError status then 2 else 0) m)

/-- The status of a batch job from its problems' (R113). -/
def batchStatus (rs : List BatchRec) : Nat :=
  ([9, 8, 10, 5, 4, 3].find? fun s => rs.any (·.status == s)).getD 3

/-- One problem of a batch job solved whole on its engine: its record before verification, the first replaced pivot and
the index an invalid input gives (R104, R112). Its sums keep the order of R70 (DESIGN CHOICE, assumption 49). -/
def solveProblem (t : Template) (a : Rows) (b x0 : List F64) : BatchRec × Nat × Nat × Nat × Nat :=
  match zeroRow a with
  | some k => ({ status := 10 }, 0, 0xFFFFFFFF, k, 0)
  | none =>
    let p := prepare t.precond t.cls t.block t.tau a
    let fl := if p.count = 0 then 0 else 1
    if p.bad then ({ status := 8, flags := fl }, p.count, p.first, 0xFFFFFFFF, 0)
    else
      let s := t.sys a b p.pre
      let e := s.run (t.cap + 1) (s.begin x0)
      ({ status := e.2, flags := fl, iterations := e.1.i, rho := e.1.rho, x := e.1.x }, p.count, p.first, 0xFFFFFFFF
       , e.1.cand)

/-- A problem's stretch of a vector over all problems. -/
def problemPart (ps : List (Nat × List (List Nat))) (p : Nat) (v : List F64) : List F64 :=
  let off := (ps.take p).foldl (fun s q => s + q.1) 0
  (v.drop off).take (at? ps p (0, [])).1

/-- A batch problem completed by a physical engine: posted to the collector, or held by the engine while its former entry is
still queued; what its verification finds is kept beside it (R115). An engine that holds a completion completes no
further problem. -/
def postProblem (sd : Nat) (x : Nat × Nat) (m : Module) : Module :=
  let s := m.sd sd
  match s.run with
  | none => m
  | some r =>
    let t := r.job.tmpl
    let logical := if x.1 = 16 then s.spare else if s.spare == some x.1 then none else some x.1
    match logical with
    | none => m
    | some e =>
      if s.heldDone.any (·.1 == x.1) then m
      else match (List.range t.problems).find? (fun p => p % 16 == e && !r.posted.contains p) with
        | none => m
        | some p =>
          let m := updRun sd (fun r => { r with posted := r.posted ++ [p] }) m
          m.updSd sd fun s =>
            if s.collector.any (·.1 == x.1) then { s with heldDone := s.heldDone ++ [(x.1, p, x.2)] }
            else { s with collector := s.collector ++ [(x.1, p, x.2)] }

/-- The collector without the entry of an engine; a completion that engine held takes its place (R115). -/
def SolverDie.taken (s : SolverDie) (e : Nat) : SolverDie :=
  { s with collector := s.collector.filter (·.1 != e) ++ s.heldDone.filter (·.1 == e)
           heldDone := s.heldDone.filter (·.1 != e) }

/-- The collector takes an entry: the problem's result is verified and recorded (R111, R112). The row of a replaced pivot or
of an invalid input counts within its problem, and the first is that of the problem taken first; CAND_LIMIT_EXCEEDED is judged for
each problem, with its own count of iterations, while CAND_CHECKS sums over the problems; a problem's record shows PIVOT_REG
only, the other flags being the job's (R85, R86, R113, R123; DESIGN CHOICE, assumption 52). Stale values that a retention failure
zeroed are not kept (R448). -/
def takeProblem (sd : Nat) (m : Module) : Module :=
  let s := m.sd sd
  match s.run, s.collector with
  | some r, c :: cs =>
    let low := cs.foldl (fun a b => if b.1 < a.1 then b else a) c
    let p := low.2.1
    let t := r.job.tmpl
    let ps := t.problemList
    let a := at? (storedRows ps r.values) p []
    let o := solveProblem t a (problemPart ps p r.b) (problemPart ps p r.x0)
    let fails := low.2.2 % 2 ^ 17 ≠ 0 && 3 ≤ o.1.status && o.1.status ≤ 5
    let bits := low.2.2 % 65536
    let lost := s.warmLost.contains r.job.requested
    let old := if lost then {} else ((keyed s.results r.job.requested {}).batch[p]?).getD {}
    let kept := (List.range (at? ps p (0, [])).1).map fun i => at? old.x i 0
    let rec' : BatchRec := if fails then { o.1 with status := 9, x := kept }
      else if o.1.status = 8 ∨ o.1.status = 10 then { o.1 with x := kept } else o.1
    let m := m.updSd sd fun s => s.taken low.1
    let m := updRun sd (fun r => { r with
      batch := upd r.batch p fun _ => some rec'
      pivotCount := r.pivotCount + o.2.1
      pivotFirst := if r.pivotCount = 0 then o.2.2.1 else r.pivotFirst
      firstBad := if r.firstBad = 0xFFFFFFFF then o.2.2.2.1 else r.firstBad
      it := { r.it with i := max r.it.i o.1.iterations, cand := r.it.cand + o.2.2.2.2 }
      job := { r.job with flags := r.job.flags ||| rec'.flags } }) m
    let m := match (m.sd sd).run with
      | some r => livePivots r m
      | none => m
    let say (code p2 : Nat) := reportSd sd 4 code r.job.requested r.job.seq p2
    let m := when (o.2.1 != 0) (say 0x2007 o.2.2.1) m
    let m := when (o.2.2.2.2 > 8) (fun m => say 0x200E o.1.iterations (raise r.job.lane 4 0x20 m)) m
    let m := match rec'.status with
      | 8 => say 0x2002 o.1.iterations m
      | 10 => say 0x2004 o.2.2.2.1 m
      | 9 =>
        let es := (List.range 16).flatMap fun i => if nbit bits i then [low.1, s.engineOf ((i + 4) % 16)] else []
        let m := m.updSd sd fun s => { s with verifyFails := sat max32 (s.verifyFails + 1) }
        markSuspect sd es (say 0x2003 bits (raise r.job.lane 4 4 m))
      | _ => m
    m
  | _, _ => m

/-- BATCH_PROBLEM_COMPLETE: one SLV cycle of a batch job: engines that finish a problem in it post their completions,
and the collector takes one entry (R115, R116). Each engine comes with what its problem's verification finds: bit i for row
block i whose partial disagrees, bit 16 for the residual (R111). -/
def batchProblemCompleteBody (sd : Nat) (engines : List (Nat × Nat)) (_ : Store) (m : Module) : Module :=
  match (m.sd sd).run with
  | none => m
  | some r =>
    if r.phase != .iterating || r.job.tmpl.kind != 2 then m
    else sampled sd r true (fun m =>
      let m := forEach engines (postProblem sd) m
      let m := m.updSd sd fun s => { s with collectMax := max s.collectMax s.collector.length }
      takeProblem sd m) m

/-- A batch job once its engines are done: the collector takes what is left in it, and with every problem recorded the job
commits (R112, R113). -/
def verifyBatch (sd : Nat) (m : Module) : Module :=
  let m := forEach (List.range 17) (fun _ => takeProblem sd) m
  match (m.sd sd).run with
  | none => m
  | some r =>
    let rs := r.batch.filterMap id
    if rs.length = r.batch.length then commitRun sd r (batchStatus rs) rs m else m

/-- What the verification of a job of one problem finds: all agrees and it commits, or its blocks or its residual disagree
and it ends VERIFY_FAIL with the engines concerned marked suspect (R110, R111). -/
def verifyJob (sd : Nat) (r : SlvRun) (faulty : Nat) (m : Module) : Module :=
  if faulty % 2 ^ 17 = 0 then commitRun sd r r.endStatus [] m
  else
    let bits := faulty % 65536
    let es := (m.sd sd).blockEngines bits
    let m := m.updSd sd fun s => { s with verifyFails := sat max32 (s.verifyFails + 1) }
    endRun sd (r.ending 9 bits (some r.it.rho)) (markSuspect sd es m)

/-- VERIFICATION_END: the recomputed residual and partials agree and the job commits, or the blocks that bits 0 to 15 of
`faulty` name, or the residual itself (bit 16), disagree and it ends with VERIFY_FAIL; a batch job commits once its last
problem is verified (R110 to R113). -/
def verificationEndBody (sd faulty : Nat) (_ : Store) (m : Module) : Module :=
  match (m.sd sd).run with
  | none => m
  | some r =>
    if r.job.tmpl.kind = 2 then
      if r.phase != .iterating then m else sampled sd r false (verifyBatch sd) m
    else if r.phase != .verifying then m
    else sampled sd r false (verifyJob sd r faulty) m

/-- RESULT_COPY_DONE: the copy of the committed result to the lane's SRAM is complete (R112). -/
def resultCopyDoneBody (l : LaneId) (sd : Nat) (_ : Store) (m : Module) : Module :=
  let s := m.sd sd
  if !at? (m.lane l).slv.linkUp sd false then m
  else
    match s.results.find? (fun r =>
      let v := at? (m.lane l).slv.tpls (r.1 - 1) {}
      !v.copied && v.result == some r.2) with
    | none => m
    | some r => updTpl l r.1 (fun v => { v with copied := true }) m

/-- A released job whose descriptor or payload is still on its way is taken back. -/
def recallJob (l : LaneId) (seq : Nat) (m : Module) : Module :=
  { m with mail := m.mail.filter fun x => match x.msg with
      | .job j => !(j.seq == seq && j.lane == l)
      | .payload n _ => !(n == seq && x.src == l.num)
      | _ => true }

/-- The ending of an open job that no die holds any more: what a start on a die has shown of it stays (R107, R114). -/
def lostEnd (l : LaneId) (o : OpenJob) (status p2 : Nat) (m : Module) : JobEnd :=
  let v := at? (m.lane l).slv.tpls (o.requested - 1) {}
  if v.status = 2 then
    { status := status, p2 := p2, flags := o.flags ||| v.flags, pivotCount := v.pivotCount, pivotFirst := v.pivotFirst }
  else { status := status, p2 := p2, flags := o.flags }

/-- DEADLINE_EXPIRY: the deadline instant of an open job of a template passes without a commit (R102, R106). -/
def deadlineExpiryBody (l : LaneId) (tmpl : Nat) (_ : Store) (m : Module) : Module :=
  match (m.lane l).slv.jobs.find? (·.requested == tmpl) with
  | none => m
  | some o =>
    let m := recallJob l o.seq (clockTo (o.deadlineUs * 1000) m)
    let sd := o.die.getD 2
    let s := m.sd sd
    match s.run, s.queue.find? (fun j => j.seq == o.seq && j.lane == l) with
    | _, some j => endQueued sd j { status := 6 } m
    | some r, none =>
      if r.job.seq = o.seq && r.job.lane == l then endRun sd (r.ending 6 r.it.i none) m
      else report l 4 0x2001 o.requested o.seq 0 (viewEnd l o.requested o.seq (lostEnd l o 6 0 m) m)
    | none, none => report l 4 0x2001 o.requested o.seq 0 (viewEnd l o.requested o.seq (lostEnd l o 6 0 m) m)

/-- An abort request for a template's job (R114): sampled by a running job, at once for one that has not started;
after the commit it is ignored. -/
def abortTemplate (l : LaneId) (src : AbortSrc) (tmpl : Nat) (m : Module) : Module :=
  match (m.lane l).slv.jobs.find? (·.requested == tmpl) with
  | none =>
    let v := at? (m.lane l).slv.tpls (tmpl - 1) {}
    if v.committed && decide (1 ≤ tmpl) then
      report l 4 0x2006 tmpl ((v.result.map (·.jobSeq)).getD 0) 0 m
    else m
  | some o =>
    let sd := o.die.getD 2
    let s := m.sd sd
    let mine (j : SlvJob) : Bool := j.seq == o.seq && j.lane == l
    let running := match s.run with
      | some r => mine r.job
      | none => false
    if running then
      updRun sd (fun r => { r with job := { r.job with abort := some (r.job.abort.getD src) } }) m
    else
      match s.queue.find? mine with
      | some j => endQueued sd j { status := 7, p2 := src.code } m
      | none =>
        let m := recallJob l o.seq m
        report l 4 0x2005 tmpl o.seq src.code (viewEnd l tmpl o.seq (lostEnd l o 7 src.code m) m)

/-- Every open job of a lane aborted (R114). -/
def abortAll (l : LaneId) (src : AbortSrc) (m : Module) : Module :=
  forEach ((m.lane l).slv.jobs.map (·.requested)).dedup (abortTemplate l src) m

/-- SLV_ABORT: a write of `SLV_ABORT` asks for the abort of the named template's job, or with ALL of every job. -/
def slvAbortBody (l : LaneId) (v : View) (value : Word) (_ : Store) (m : Module) : Module :=
  guardWrite l v (fun m =>
    if bitOf value 31 then abortAll l .register m else abortTemplate l .register (fld value 15 0) m) m

/-- SLV_ABORT_ALL: a write of `SLV_ABORT` with ALL. -/
def slvAbortAllBody (l : LaneId) (v : View) (_ : Store) (m : Module) : Module :=
  guardWrite l v (abortAll l .register) m

/-- Whether a solver die answers a lane. -/
def Module.sdReach (m : Module) (l : LaneId) (sd : Nat) : Bool :=
  decide (sd < m.variant.nSd) && (m.sd sd).powered && at? (m.lane l).slv.linkUp sd false

/-- A register write carried to a solver die, rejected and counted unless it carries the latched claim (R20, R274,
R508); one that cannot be reached is counted, one that is not fitted ignored (R505, R124). -/
def sdWrite (l : LaneId) (v : View) (sd : Nat) (f : Module → Module) (m : Module) : Module :=
  guardWrite l v (fun m =>
    if sd ≥ m.variant.nSd then m
    else if !m.sdReach l sd then m.updLane l fun L => { L with sys := { L.sys with unreach := sat 65535 (L.sys.unreach + 1) } }
    else
      let claim := mkClaim (claimEpoch (m.lane l).red.claim) l
      if claim ≠ (m.sd sd).claim || (m.variant == .nfj8 && !m.active l) then
        m.updSd sd fun s => { s with writeRejected := sat max32 (s.writeRejected + 1) }
      else f m) m

/-- SELFTEST_REQUEST: a write of 1 to `SLV_SELFTEST` marks every in-service engine of the selected die suspect
(R119). -/
def selftestRequestBody (l : LaneId) (v : View) (_ : Store) (m : Module) : Module :=
  let sd := (m.sel l v).slvDie
  sdWrite l v sd (fun m =>
    let s := m.sd sd
    let es := (List.range 17).filter fun e => !s.retired.contains e
    let m := markSuspect sd es (m.updSd sd fun s => { s with selftestReq := true })
    if s.run.isNone && s.queue.isEmpty && (s.state == .asleep || s.state == .active) then
      slvWatch (domRequests l (sdId sd) engDoms .on m)
    else m) m

/-- The jobs of a lost die: none of them commits, and each ends at its deadline instant (R114). -/
def loseJobs (sd : Nat) (m : Module) : Module :=
  let m := m.updSd sd fun s => { s with queue := [], run := none, collector := [], heldDone := [] }
  { m with mail := m.mail.filter fun x => x.src != sdId sd && x.dst != sdId sd }

/-- Whether every solver domain of a die that leaves RET has passed its exit check (R441, R448). -/
def SolverDie.released (s : SolverDie) : Bool :=
  s.doms.all fun d => !(d.state == .ret && ((d.moving && d.target == .on) || d.pending == some .on))

/-- A die whose full self-test has ended becomes available once its domains are released from RET (R119, R441). -/
def testedFree (sd : Nat) (m : Module) : Module :=
  let s := m.sd sd
  if s.state == .selfTest && s.testing.isEmpty && s.released then
    sdFree sd (m.updSd sd fun s => { s with state := .asleep })
  else slvWatch m

/-- The full self-test of a die (R119). -/
def fullSelfTest (l : LaneId) (sd : Nat) (m : Module) : Module :=
  if (m.sd sd).state == .outOfService then m
  else
    let m := m.updSd sd fun s => { s with state := .selfTest, testing := List.range 17 }
    slvWatch (askBanks sd (domRequests l (sdId sd) (0 :: 21 :: engDoms) .on m))

/-- On leaving step 4 a parked die returns through its retention check and self-test (R441). -/
def unpark (l : LaneId) (m : Module) : Module :=
  forEach m.sdList (fun s m =>
    let m := m.updSd s fun x => { x with parkReq := false }
    if (m.sd s).state == .parked then
      fullSelfTest l s (domRequests l (sdId s) (0 :: bankDoms) .on m)
    else m) m

/-- An engine retired: the spare serves its index, or the die goes out of service, also where the unused spare itself was
retired before (R120; DESIGN CHOICE, assumption 52). -/
def retireEngine (sd e : Nat) (m : Module) : Module :=
  let s := m.sd sd
  let lane := claimLane s.claim
  let logical := if e = 16 then s.spare.getD 0x1F else e
  let out := if e = 16 then s.spare.isSome else s.spare.isSome || s.retired.contains 16
  let m := m.updSd sd fun s =>
    { s with retired := s.retired ++ [e], suspect := s.suspect.filter (· != e),
             spare := if e = 16 || out then s.spare else some e }
  let m := reportSd sd 4 0x200C (sdId sd) e logical (raise lane 4 8 m)
  if out then
    reportSd sd 4 0x200D (sdId sd) e 0 (loseJobs sd (m.updSd sd fun s => { s with state := .outOfService, testing := [] }))
  else m

/-- SELF_TEST_END: an engine's self-test ends. Suspect engines are tested while the queue is empty, beside a batch job between
two of their problems: the spare then takes over their further ones (R116, R119, R120). -/
def selfTestEndBody (sd engine : Nat) (pass : Bool) (_ : Store) (m : Module) : Module :=
  let s := m.sd sd
  let full := s.state == .selfTest && s.testing.contains engine
  let single := s.state != .selfTest && s.suspect.contains engine && s.queue.isEmpty &&
    (match s.run with
     | none => true
     | some r => r.job.tmpl.kind == 2 || (engine == 16 && s.spare.isNone))
  if !s.powered || sd ≥ m.variant.nSd || s.state == .outOfService || !(full || single) then m
  else
    let m := m.updSd sd fun s => { s with testing := s.testing.filter (· != engine) }
    let m :=
      if s.retired.contains engine then m
      else if !pass then retireEngine sd engine m
      else if s.suspect.contains engine then
        reportSd sd 4 0x200B (sdId sd) engine 0
          (m.updSd sd fun s => { s with suspect := s.suspect.filter (· != engine) })
      else m
    let m := m.updSd sd fun s => if s.suspect.isEmpty then { s with selftestReq := false } else s
    let s := m.sd sd
    if s.state == .selfTest then testedFree sd m
    else if s.state != .selfTest && s.run.isNone then sdFree sd m
    else slvWatch m

/-- A solver die whose link comes up: where its bank is not that of the active image of the lane whose claim it holds, it
is staged from the active slot and swapped before it accepts a job (R60 steps 2 and 7). -/
def stageLate (sd : Nat) (m : Module) : Module :=
  let l := claimLane (m.sd sd).claim
  let c := (m.lane l).cfg
  match (if m.sdReach l sd && m.active l && (m.sd sd).bankCounter != c.activeCounter then c.active else none) with
  | none => m
  | some new => askBanks sd (m.updSd sd fun s =>
      { s with bank := some new, bankCounter := c.activeCounter, shadow := s.bank, shadowCounter := s.bankCounter
               applyAt := none, confirmed := false })

/-- A solver die's link to a lane goes down or up: the die is lost to the lane, or self-tests in full before it is
available again (R24, R121). -/
def solverLink (l : LaneId) (sd : Nat) (up : Bool) (m : Module) : Module :=
  if sd ≥ m.variant.nSd || at? (m.lane l).slv.linkUp sd false == up then m
  else
    let m := m.updLane l fun L => { L with slv := { L.slv with linkUp := upd L.slv.linkUp sd fun _ => up } }
    let m := if up then stageLate sd m else m
    let mine := claimLane (m.sd sd).claim == l || (up && m.active l)
    if !mine then slvWatch m
    else if up then (if (m.sd sd).powered then fullSelfTest l sd m else slvWatch m)
    else slvWatch (loseJobs sd m)

/-- A higher claim latched by a solver die: its jobs of the lower claim end ABORTED and commit nothing; committed
results stay (R21). -/
def solverClaim (sd claim : Nat) (m : Module) : Module :=
  let s := m.sd sd
  if claim ≤ s.claim then m
  else
    let m := forEach s.queue (fun j => endQueued sd j { status := 7, p2 := 2 }) m
    let m := match (m.sd sd).run with
      | some r => endRun sd (r.ending 7 2 none) m
      | none => m
    slvWatch (m.updSd sd fun s => { s with claim := claim })

/-! ## Meanings of the commands -/

/-- JOB_DESCRIPTOR (R100). -/
def execJobDescriptor (l : LaneId) (sd : Nat) (s : State) : Host.Outcome State Fault Refusal :=
  .next (commit s (jobDescriptorBody l sd))

/-- JOB_START (R101). -/
def execJobStart (sd : Nat) (s : State) : Host.Outcome State Fault Refusal :=
  .next (commit s (jobStartBody sd))

/-- PAYLOAD_RECEIVED (R71). -/
def execPayloadReceived (l : LaneId) (sd : Nat) (s : State) : Host.Outcome State Fault Refusal :=
  .next (commit s (payloadReceivedBody l sd))

/-- ASSEMBLY_END (R81). -/
def execAssemblyEnd (sd : Nat) (s : State) : Host.Outcome State Fault Refusal :=
  .next (commit s (assemblyEndBody sd))

/-- PREPARATION_END (R85). -/
def execPreparationEnd (sd : Nat) (s : State) : Host.Outcome State Fault Refusal :=
  .next (commit s (preparationEndBody sd))

/-- ITERATION (R89). -/
def execIteration (sd : Nat) (s : State) : Host.Outcome State Fault Refusal :=
  .next (commit s (iterationBody sd))

/-- BATCH_PROBLEM_COMPLETE (R115). -/
def execBatchProblemComplete (sd : Nat) (engines : List (Nat × Nat)) (s : State) : Host.Outcome State Fault Refusal :=
  .next (commit s (batchProblemCompleteBody sd engines))

/-- VERIFICATION_END (R111). -/
def execVerificationEnd (sd : Nat) (faulty : Nat) (s : State) : Host.Outcome State Fault Refusal :=
  .next (commit s (verificationEndBody sd faulty))

/-- RESULT_COPY_DONE (R112). -/
def execResultCopyDone (l : LaneId) (sd : Nat) (s : State) : Host.Outcome State Fault Refusal :=
  .next (commit s (resultCopyDoneBody l sd))

/-- DEADLINE_EXPIRY (R102). -/
def execDeadlineExpiry (l : LaneId) (tmpl : Nat) (s : State) : Host.Outcome State Fault Refusal :=
  .next (commit s (deadlineExpiryBody l tmpl))

/-- SLV_ABORT (R114). -/
def execSlvAbort (l : LaneId) (v : View) (value : Word) (s : State) : Host.Outcome State Fault Refusal :=
  .next (commit s (slvAbortBody l v value))

/-- SLV_ABORT_ALL (R114). -/
def execSlvAbortAll (l : LaneId) (v : View) (s : State) : Host.Outcome State Fault Refusal :=
  .next (commit s (slvAbortAllBody l v))

/-- SELFTEST_REQUEST (R119). -/
def execSelftestRequest (l : LaneId) (v : View) (s : State) : Host.Outcome State Fault Refusal :=
  .next (commit s (selftestRequestBody l v))

/-- SELF_TEST_END (R120). -/
def execSelfTestEnd (sd : Nat) (engine : Nat) (pass : Bool) (s : State) : Host.Outcome State Fault Refusal :=
  .next (commit s (selfTestEndBody sd engine pass))

end Sys2Proof.Machine
end

