-- ==== Sys2Proof/Machine/ProgramOps.lean ====
section
/-! DEFINITION. What a cyclic program works on: its configuration, the frames and their standard function blocks, the
images, the input snapshot, forces, outgoing records, the release of solver jobs, and the carry-over of an exchange
(chapter 05, R143 to R145, R151, R159, R330, R331, R334, R511). -/

namespace Sys2Proof.Machine

/-- The PROGRAM section of a configuration. -/
def Conf.prog (c : Conf) : ProgramCfg := c.program.getD {}

/-- A task's entry. -/
def Conf.task (c : Conf) (t : Nat) : TaskCfg := at? c.prog.tasks t {}

/-- A task of a lane. -/
def Lane.task (L : Lane) (t : Nat) : Task := at? L.prg.tasks t {}

/-- A task of a lane changed. -/
def updTask (l : LaneId) (t : Nat) (f : Task → Task) (m : Module) : Module :=
  m.updLane l fun L => { L with prg := { L.prg with tasks := upd L.prg.tasks t f } }

/-- The program block of a lane changed. -/
def updPrg (l : LaneId) (f : Prg → Prg) (m : Module) : Module := m.updLane l fun L => { L with prg := f L.prg }

/-- The configuration under which a task's cycle runs: the old one while a cycle begun before an exchange point is not
yet published (R161). -/
def Lane.taskConf (L : Lane) (t : Nat) : Conf :=
  match L.prg.exchOld with
  | some (old, at_) => if (L.task t).executing && decide ((L.task t).boundaryAt < at_) then old else L.conf
  | none => L.conf

/-- Tasks with a period. -/
def Conf.configured (c : Conf) : List Nat := (List.range 4).filter fun t => (c.task t).periodUs != 0

/-- Period of the common boundaries in microseconds, 0 without a task (R127). -/
def Conf.commonUs (c : Conf) : Nat :=
  if c.configured = [] then 0 else (c.configured.map fun t => (c.task t).periodUs).foldl Nat.lcm 1

/-- `CFG_BOUNDARY_NOW` while the tasks run (R127). -/
def Lane.boundaryCount (L : Lane) (now : Nat) : Nat :=
  let p := L.conf.commonUs * 1000
  if !L.prg.running || p = 0 then L.cfg.boundaryNow
  else if now < L.prg.t0 then L.prg.boundaryBase - 1
  else L.prg.boundaryBase + (now - L.prg.t0) / p

/-- Whether a mode runs the program (R125). -/
def Mode.runs : Mode → Bool
  | .commission | .run | .runForced => true
  | _ => false

/-- Size of an element of a field type (R142). -/
def typeSize (t : Nat) : Nat :=
  if t ∈ [0x01, 0x02, 0x06, 0x0D] then 1
  else if t ∈ [0x03, 0x07, 0x0E] then 2
  else if t ∈ [0x04, 0x08, 0x0A, 0x0F] then 4
  else if t ∈ [0x05, 0x09, 0x0B, 0x0C, 0x10] then 8
  else if 0x20 ≤ t ∧ t ≤ 0x22 then 24
  else if t = 0x23 ∨ t = 0x24 then 4
  else if 0x25 ≤ t ∧ t ≤ 0x27 then 16
  else 0

/-- The field descriptors of a frame. -/
def ProgramCfg.descsOf (p : ProgramCfg) (i : InstCfg) : List FieldDesc := (p.descs.drop i.descFirst).take i.descCount

/-- Bytes of a field. -/
def FieldDesc.bytes (f : FieldDesc) : Nat := f.count * typeSize f.type

/-- Initial value of a field (R142, R146). -/
def ProgramCfg.initOf (p : ProgramCfg) (f : FieldDesc) : Bytes :=
  if nbit f.flags 0 then slice p.consts f.initOffset f.bytes else List.replicate f.bytes 0

/-- The frame area with every field at its initial value (R146). -/
def ProgramCfg.initFrames (p : ProgramCfg) : Bytes :=
  p.insts.foldl (fun acc i =>
    (p.descsOf i).foldl (fun acc f => putAt acc (i.frameOffset + f.offset) (p.initOf f)) acc)
    (List.replicate p.instBytes 0)

/-- Result of a carry-over: the new frame area, fields initialised, and frames dropped (R159). -/
structure Carried where
  frames : Bytes := []
  initialised : Nat := 0
  dropped : Nat := 0

/-- One field carried over from the old program's frame of the same number, or initialised (R159). -/
def carryField (old new : ProgramCfg) (area : Bytes) (oi : Option InstCfg) (ni : InstCfg) (c : Carried)
    (f : FieldDesc) : Carried :=
  let src := oi.bind fun o => ((old.descsOf o).find? (·.fieldId == f.fieldId)).map fun g => (o, g)
  match src with
  | some (o, g) =>
    if g.type = f.type then
      let n := min g.bytes f.bytes
      let v := slice area (o.frameOffset + g.offset) n ++ (new.initOf f).drop n
      { c with frames := putAt c.frames (ni.frameOffset + f.offset) v }
    else { c with frames := putAt c.frames (ni.frameOffset + f.offset) (new.initOf f), initialised := c.initialised + 1 }
  | none =>
    { c with frames := putAt c.frames (ni.frameOffset + f.offset) (new.initOf f), initialised := c.initialised + 1 }

/-- The carry-over of a frame area from an old program to a new one (R159). -/
def carryOver (old new : ProgramCfg) (area : Bytes) : Carried :=
  let c := new.insts.foldl (fun c ni =>
    let oi := old.insts.find? (·.instId == ni.instId)
    (new.descsOf ni).foldl (carryField old new area oi ni) c) { frames := List.replicate new.instBytes 0 }
  { c with dropped := (old.insts.filter fun o => !new.insts.any (·.instId == o.instId)).length }

/-! ### Standard function blocks -/

/-- A timer of type 0x20 TON, 0x21 TOF, 0x22 TP after an invocation with its input and preset (R143). -/
def timerStep (type : Nat) (now : Nat) (inp : Bool) (pt : Int) (s : Bytes) : Bytes :=
  let start := leAt s 0 8
  let w := leAt s 16 4
  let prev := nbit w 0
  let run := nbit w 2
  let rise := inp && !prev
  let fall := !inp && prev
  let since (start : Nat) : Int := (now : Int) - (start : Int)
  let o : Nat × Bool × Bool :=
    match type with
    | 0x20 =>
      if inp then
        let st := if rise then now else start
        let q := decide (since st ≥ pt)
        (st, q, (run || rise) && !q)
      else (start, false, false)
    | 0x21 =>
      if inp then (start, true, run && !rise)
      else
        let st := if fall then now else start
        let q := decide (since st < pt)
        (st, q, (run || fall) && q)
    | _ =>
      let st := if rise && !run then now else start
      let r := run || rise
      let q := r && decide (since st < pt)
      (st, q, r && q)
  leBytes 8 o.1 ++ leBytes 8 (ofS 64 pt) ++
    leBytes 4 (flags [inp, o.2.1, o.2.2] + w / 8 * 8) ++ slice s 20 4

/-- An edge detector of type 0x23 R_TRIG or 0x24 F_TRIG (R144). -/
def edgeStep (type : Nat) (clk : Bool) (s : Bytes) : Bytes :=
  let w := leAt s 0 4
  let prev := nbit w 0
  let armed := nbit w 2
  let q := armed && (if type = 0x23 then clk && !prev else !clk && prev)
  leBytes 4 (flags [clk, q, true] + w / 8 * 8)

/-- A counter of type 0x25 CTU, 0x26 CTD, 0x27 CTUD (R145). A CTUD whose two inputs rise together keeps CV, and its reset comes
before its load (DESIGN CHOICE, assumption 52). -/
def counterStep (type : Nat) (cu cd reset load : Bool) (pv : Int) (s : Bytes) : Bytes :=
  let cv := leIntAt s 0 4
  let w := leAt s 8 4
  let armed := nbit w 4
  let up := armed && cu && !nbit w 0 && type != 0x26
  let down := armed && cd && !nbit w 1 && type != 0x25
  let sat := nbit w 5
  let pv := toS 32 (ofS 32 pv)
  let o : Int × Bool :=
    if reset && type != 0x26 then (0, false)
    else if load && type != 0x25 then (pv, sat)
    else if up && !down then (if cv ≥ 2147483647 then (cv, true) else (cv + 1, sat))
    else if down && !up then (if cv ≤ -2147483648 then (cv, true) else (cv - 1, sat))
    else (cv, sat)
  leBytes 4 (ofS 32 o.1) ++ leBytes 4 (ofS 32 pv) ++
    leBytes 4 (flags [cu, cd, decide (o.1 ≥ pv), decide (o.1 ≤ 0), true, o.2] + w / 64 * 64) ++ slice s 12 4

/-- One standard block invoked on the frame area under a cycle stamp; a place that holds no such block changes
nothing. -/
def invokeBlock (p : ProgramCfg) (stamp : Nat) (area : Bytes) (b : FbInvoke) : Bytes :=
  match p.insts[b.frame]? with
  | none => area
  | some i =>
    match (p.descsOf i).find? (fun f =>
      decide (f.offset ≤ b.offset) && decide (b.offset < f.offset + f.bytes) && decide (0x20 ≤ f.type) &&
        decide (f.type ≤ 0x27) && (b.offset - f.offset) % typeSize f.type == 0) with
    | none => area
    | some f =>
      let a := i.frameOffset + b.offset
      let s := slice area a (typeSize f.type)
      if f.type ≤ 0x22 then putAt area a (timerStep f.type stamp b.in1 b.preset s)
      else if f.type ≤ 0x24 then putAt area a (edgeStep f.type b.in1 s)
      else putAt area a (counterStep f.type b.in1 b.in2 b.reset b.load b.preset s)

/-! ### Images -/

/-- A task's output image as R511 initialises it. -/
def Conf.initOut (c : Conf) (t : Nat) : Bytes :=
  c.routes.foldl (fun img r => if r.source = 16 ∧ r.task = t then putAt img r.offset [1] else img)
    (List.replicate (c.task t).publishBytes 0)

/-- An output image at an exchange: a point whose entry is unchanged keeps its bytes (R511). -/
def exchangeOut (old new : Conf) (t : Nat) (img : Bytes) : Bytes :=
  new.routes.foldl (fun acc r =>
    if r.task = t && decide (16 ≤ r.source) && old.routes.contains r then putAt acc r.offset (slice img r.offset r.bytes)
    else acc) (new.initOut t)

/-- The field die whose frame gives an input point its value. -/
def RouteCfg.die (r : RouteCfg) : Nat := if r.source = 4 then r.index / 8 else r.index / 64

/-- Quality code of an input point at a boundary (R135). -/
def Lane.quality (L : Lane) (b : Nat) (r : RouteCfg) : Nat :=
  match at? L.frames r.die none with
  | none => 3
  | some f =>
    if !at? L.heard r.die false then 3
    else if r.source ≠ 4 && r.source ≠ 6 && L.prg.nyv.contains r.index then 1
    else if f.tick + 1000000 < b then 2
    else 0

/-- The value bytes of a point of a field die, none where the die's frame holds no such entry (R130, R167, R196,
R225). -/
def InFrame.value (f : InFrame) (r : RouteCfg) : Option Bytes :=
  let c := at? f.chans (r.index % 64) {}
  match r.source with
  | 0 => some (leBytes 4 (ofS 32 c.in1))
  | 1 => some (leBytes 4 (ofS 32 c.in2))
  | 2 => some (leBytes 4 c.enc.toNat)
  | 3 => some (leBytes 2 c.status)
  | 4 => some (leBytes 4 (ofS 32 (at? f.vs (r.index % 8) 0)))
  | 5 => (f.axes.find? (·.ch == r.index % 64)).map fun a =>
      leBytes 4 (ofS 32 a.pCmd) ++ leBytes 4 (ofS 32 a.pEnc) ++ leBytes 4 (ofS 32 a.speed) ++ leBytes 2 a.status ++
        leBytes 1 a.ack ++ leBytes 1 a.depth
  | _ => (f.loops.find? (·.slot == r.index % 64)).map fun s =>
      leBytes 4 (ofS 32 s.y) ++ leBytes 4 (ofS 32 s.r) ++ leBytes 2 s.status ++ leBytes 1 s.ack ++ [0]

/-- Offset of the quality byte in a point (R130). -/
def qualityAt (source : Nat) : Nat := if source = 5 then 16 else if source = 6 then 12 else 4

/-- A record as the input image holds it (R150). -/
def RecBuf.image (b : RecBuf) (len : Nat) (forced : Bool) : Bytes :=
  leBytes 8 b.rxTb ++ leBytes 2 b.seq ++ leBytes 1 (flags [b.valid, forced]) ++ [0] ++ leBytes 2 len ++ [0, 0] ++
    fitTo len b.payload

/-- One input point written into an input image at a boundary (R132 step 3, R135, R150). -/
def Lane.snapPoint (L : Lane) (b : Nat) (img : Bytes) (r : RouteCfg) : Bytes :=
  if r.source = 7 then
    let buf := keyed L.prg.recIn r.index {}
    let forced := L.prg.forces.any fun f =>
      f.2.target / 2 ^ 28 == 2 && f.2.target / 64 % 4096 == r.index
    putAt img r.offset (buf.image (r.bytes - 16) forced)
  else
    let v := ((at? L.frames r.die none).bind fun f => f.value r).getD (slice img r.offset (qualityAt r.source))
    let v := fitTo (qualityAt r.source) v
    putAt img r.offset (fitTo r.bytes (v ++ leBytes 1 (L.quality b r)))

/-! ### Forces -/

/-- A field a force may name: offset and size in its point, and whether it is signed. -/
structure ForceField where
  offset : Nat := 0
  size : Nat := 4
  signed : Bool := false

/-- The fields of a point in the order of their layout (R152, R195, R196, R225, R229). -/
def forceFields : Nat → List ForceField
  | 0 | 1 | 2 | 4 => [{ signed := true }]
  | 3 => [{ size := 2 }]
  | 5 => [{ signed := true }, { offset := 4, signed := true }, { offset := 8, signed := true }, { offset := 12, size := 2 },
      { offset := 14, size := 1 }, { offset := 15, size := 1 }]
  | 6 => [{ signed := true }, { offset := 4, signed := true }, { offset := 8, size := 2 }, { offset := 10, size := 1 }]
  | 16 => [{ size := 1 }]
  | 17 => [{ size := 1 }, { offset := 1, size := 1 }, { offset := 4, signed := true }, { offset := 8 }, { offset := 12 },
      { offset := 16 }]
  | 18 => [{ size := 1 }, { offset := 1, size := 1 }, { offset := 4, signed := true }, { offset := 8, signed := true },
      { offset := 12, signed := true }]
  | _ => []

/-- Whether a 64-bit force value lies in a field's type: unsigned, or signed and extended to 64 bits. -/
def ForceField.admits (f : ForceField) (v : Nat) : Bool :=
  if f.signed then decide (-(2 : Int) ^ (8 * f.size - 1) ≤ toS 64 v) && decide (toS 64 v < (2 : Int) ^ (8 * f.size - 1))
  else decide (v < 2 ^ (8 * f.size))

/-- Parts of a force target (R152). -/
def forceKind (t : Nat) : Nat := t / 2 ^ 28 % 16
def forcePoint (t : Nat) : Nat := t / 16 % 2 ^ 24
def forcePos (t : Nat) : Nat := t % 16
def forceRec (t : Nat) : Nat := t / 64 % 4096
def forceFieldNo (t : Nat) : Nat := t % 64

/-- Where a force of kind 0 or 1 acts: the point's entry and the field. -/
def Conf.forcePlace (c : Conf) (t : Nat) : Option (RouteCfg × ForceField) :=
  match c.routes[forcePoint t]? with
  | none => none
  | some r =>
    let ok := if forceKind t = 0 then decide (r.source ≤ 6) else decide (16 ≤ r.source) && decide (r.source ≤ 18)
    if ok then ((forceFields r.source)[forcePos t]?).map fun f => (r, f) else none

/-- A record's entry of the substation table. -/
def Conf.sub (c : Conf) (rec : Nat) : Option SubCfg := c.network.bind fun n => n.subs.find? (·.record == rec)

/-- Whether a force target is there in a configuration (R153 code 4). -/
def Conf.forceTargetOk (c : Conf) (t : Nat) : Bool :=
  match forceKind t with
  | 0 | 1 => (c.forcePlace t).isSome
  | 2 | 3 =>
    t / 2 ^ 18 % 1024 == 0 &&
      match c.sub (forceRec t) with
      | none => false
      | some s =>
        if forceKind t = 2 then nbit s.dir 0 && decide (4 * forceFieldNo t < s.inLen)
        else nbit s.dir 1 && decide (4 * forceFieldNo t < s.outLen)
  | _ => false

/-- Whether a force target is a metrology quantity (R153 code 3). -/
def Conf.forceMetrology (c : Conf) (t : Nat) : Bool :=
  match c.forcePlace t with
  | none => false
  | some (r, _) =>
    let func := (keyed c.chans r.index {}).function
    let pulses (ch out : Nat) : Bool :=
      match c.metering with
      | none => false
      | some mt =>
        (mt.mps.zipIdx.any fun p => p.1.kind != 0 && decide (p.2 / 32 = ch / 64) &&
          p.1.pulses.any fun u => u.onCode != 0 && u.ch == ch % 64 && u.out == out) ||
        (mt.hps.zipIdx.any fun p => p.1.kind != 0 && decide (p.2 / 16 = ch / 64) &&
          p.1.pulses.any fun u => u.onCode != 0 && u.ch == ch % 64 && u.out == out)
    match r.source with
    | 0 | 1 | 2 => func == 4 || func == 7
    | 4 =>
      match c.metering with
      | none => false
      | some mt => mt.mps.zipIdx.any fun p =>
          p.1.kind != 0 && decide (p.2 / 32 = r.index / 8) && p.1.vs.any (· == r.index % 8)
    | 16 => pulses r.index r.sub
    | _ => false

/-- Whether a value lies in a target's type (R153 code 6); a field of a record takes 32 bits, signed or not. -/
def Conf.forceValueOk (c : Conf) (t v : Nat) : Bool :=
  match forceKind t with
  | 0 | 1 => match c.forcePlace t with
    | none => false
    | some (r, f) => f.admits v && (r.source != 16 || admits (keyed c.chans r.index {}).function r.sub v)
  | _ => ({} : ForceField).admits v || ({ signed := true } : ForceField).admits v

/-- Forces of a kind put into an image of a task. A force on an input reaches every task that reads the input (R152,
R154). -/
def putForces (forces : List (Nat × ForceEntry)) (c : Conf) (t : Nat) (input : Bool) (img : Bytes) : Bytes :=
  forces.foldl (fun img f =>
    let tg := f.2.target
    let k := forceKind tg
    if k = (if input then 0 else 1) then
      match c.forcePlace tg with
      | some (p, fl) => c.routes.foldl (fun img r =>
          if r.task = t && r.source == p.source && r.index == p.index && r.sub == p.sub then
            putAt img (r.offset + fl.offset) (leBytes fl.size f.2.value)
          else img) img
      | none => img
    else if k = (if input then 2 else 3) then
      c.routes.foldl (fun img r =>
        if r.task = t && r.source == (if input then 7 else 19) && r.index == forceRec tg then
          putAt img (r.offset + (if input then 16 else 0) + 4 * forceFieldNo tg) (leBytes 4 f.2.value)
        else img) img
    else img) img

/-! ### Outgoing records -/

/-- A record's UDP datagram put on every Ethernet port of a lane that operates and has a way to the gateway: kind 4 with port,
gateway, next hop and the bytes (R334, R343; assumption 52). -/
def recordDatagram (l : LaneId) (n : NetworkCfg) (s : SubCfg) (epoch : Nat) (msg : Bytes) (m : Module) : Module :=
  let body := leBytes 2 n.canTag ++ leBytes 2 s.record ++ [1] ++ leBytes 1 epoch ++ [0, 0] ++ msg
  forEach [0, 1] (fun p m =>
    match if (m.lane l).portUp p then (at? n.eth (2 * l.num + p) {}).hop s.gateway else none with
    | some hop => sendFrame l p 4 ([(n.udpPort : Int), s.gateway, hop] ++ body.map fun b => (b.toNat : Int)) m
    | none => m) m

/-! ### Solver jobs of a task -/

/-- A template of a configuration by index, 1 the first (R97). -/
def Conf.tmpl (c : Conf) (i : Nat) : Option Template := if i = 0 then none else c.templates[i - 1]?

/-- Where a released job runs: the template run, the die, and whether it is the fallback (R121). -/
def Module.placeJob (m : Module) (l : LaneId) (t : Template) (i : Nat) : Nat × Option Nat × Bool :=
  let home := t.homeDie - 2
  let away := 1 - home
  if m.dieAvailable l home then (i, some home, false)
  else if m.dieAvailable l away then
    (if t.degrade = 1 then (t.fallback, some away, true) else (i, some away, false))
  else (i, none, false)

/-- One requested job released at a boundary (R32, R99, R121). The DEADLINE is the requested template's, also where its
fallback runs (DEDUCED, assumption 49). -/
def releaseJob (l : LaneId) (task : Nat) (q : Nat × SlvPayload × Nat) (m : Module) : Module :=
  let c := (m.lane l).conf
  match c.tmpl q.1 with
  | none => m
  | some t =>
    if t.degrade = 2 ∨ t.releaseTask ≠ task then m
    else
      let p := m.placeJob l t q.1
      let tr := (c.tmpl p.1).getD {}
      let seq := nextSeq (m.lane l).slv.jobSeq
      let dl := m.us + t.deadline
      let fl := if p.2.2 then 16 else 0
      let m := m.updLane l fun L => { L with slv := { L.slv with
        jobSeq := seq, fallbackCount := if p.2.2 then sat max32 (L.slv.fallbackCount + 1) else L.slv.fallbackCount
        jobs := L.slv.jobs ++ [{ requested := q.1, template := p.1, seq := seq, deadlineUs := dl, die := p.2.1, flags := fl }] } }
      let m := updTpl l q.1 (fun v => { v with status := 1, flags := fl, committed := false }) m
      match p.2.1 with
      | none => m
      | some sd =>
        let m := when p.2.2 (report l 4 0x2009 q.1 p.1 (sdId sd)) m
        let warm := if q.2.2 = 2 then ((m.lane l).slv.warmIn.find? (·.1 == q.1)).map (·.2) else none
        let j : SlvJob := { lane := l, template := p.1, requested := q.1, warmSrc := q.2.2, fallback := p.2.2, seq := seq
                            claim := (m.lane l).red.claim, imageCounter := (m.lane l).cfg.activeCounter
                            releaseUs := m.us, deadlineUs := dl, tmpl := tr, flags := fl }
        send l.num (sdId sd) (.payload seq { q.2.1 with warm := warm }) (send l.num (sdId sd) (.job j) m)

/-! ### Commands to the field dies -/

/-- The apply tick of a publish or safe-state command: the first 100 us tick at least 100 us on (R31). -/
def Module.applyTick (m : Module) : Nat := cdiv (m.now + 100000) 100000 * 100000

/-- Commands sent to the field dies a lane reaches (R31, R136). -/
def sendCmds (l : LaneId) (f : Nat → OutCmds) (m : Module) : Module :=
  let L := m.lane l
  let tick := m.applyTick
  forEach (m.fdList.filter fun d => m.fdReach l d) (fun d =>
    let c := { f d with claim := L.red.claim, counter := L.cfg.activeCounter }
    send l.num (fdId d) (.outputs { c with tick := tick, start := L.prg.starts })) m

/-- Safe states commanded for every output (R184, R301, R312). -/
def sendSafe (l : LaneId) (m : Module) : Module := sendCmds l (fun _ => { safe := true }) m

/-- Whether a cycle is between its snapshot and its publish on a lane. -/
def Lane.anyExecuting (L : Lane) : Bool := L.prg.tasks.any (·.executing)

/-- Domain index of a block processor. -/
def blkDom (p : Nat) : Nat := 2 + p

/-- The block processors of the configured tasks asked into a state, the others OFF (R126, R444). -/
def blkDoms (l : LaneId) (t : DomState) (m : Module) : Module :=
  let c := (m.lane l).conf
  let used := c.configured.map fun k => (c.task k).processor
  forEach [0, 1, 2, 3] (fun p => domRequest l l.num (blkDom p) (if used.contains p then t else .off)) m

/-- The force table emptied or thinned, each entry that goes recorded with its cause (R154, R161). -/
def dropForces (l : LaneId) (cause : Nat) (gone : Nat → ForceEntry → Bool) (m : Module) : Module :=
  let out := (m.lane l).prg.forces.filter fun f => gone f.1 f.2
  let m := updPrg l (fun p => { p with forces := p.forces.filter fun f => !gone f.1 f.2 }) m
  let m := forEach out (fun f => report l 5 0x3005 f.1 f.2.target cause) m
  if out = [] then m else raise l 5 0x200 m

/-- A task's frames copied into the checkpoint being captured (R147, R287). -/
def capturePart (l : LaneId) (t : Nat) (m : Module) : Module :=
  m.updLane l fun L =>
    match L.red.ckpt with
    | none => L
    | some c =>
      let p := (L.taskConf t).prog
      let fr := (p.insts.filter (·.ownerTask == t)).foldl (fun acc i =>
        putAt acc i.frameOffset (slice L.prg.frames i.frameOffset i.frameBytes)) c.frames
      let c := { c with frames := fr, stamps := upd c.stamps t fun _ => (L.task t).stamp }
      { L with red := { L.red with ckpt := some c, ckptWait := L.red.ckptWait.filter (· != t) } }

/-- The area an INSTANCE_READ has captured goes to its descriptor: the bytes from PARAM on (R464). -/
def instEnd (l : LaneId) (area : Bytes) (m : Module) : Module :=
  let m := updHst l (fun h => { h with instCap := none }) m
  match ((m.lane l).ring 4).cur with
  | none => m
  | some d => ringDone l 4 0 d.len (slice area d.param d.len) m

/-- A task's frames copied into the area an INSTANCE_READ captures, at the instant or at the task's publish (R287,
R464). -/
def instPart (l : LaneId) (t : Nat) (m : Module) : Module :=
  let L := m.lane l
  match L.hst.instCap with
  | none => m
  | some (wait, area) =>
    let p := (L.taskConf t).prog
    let area := (p.insts.filter (·.ownerTask == t)).foldl (fun acc i =>
      putAt acc i.frameOffset (slice L.prg.frames i.frameOffset i.frameBytes)) area
    let wait := wait.filter (· != t)
    if wait.isEmpty then instEnd l area m else updHst l (fun h => { h with instCap := some (wait, area) }) m

end Sys2Proof.Machine
end

