-- ==== Sys2Proof/Machine/Image.lean ====
section
/-! DEFINITION. The bytes of an Oamin image: header, directory, section bodies as a configuration, composition of a
delta, the canonical form with the configuration digest, and the verification of a slot (R37 to R40, R42, R44, R51, R55,
R97, R128, R130, R193, R220, R235, R236, R239, R321, R335, R342 to R344, R428). -/

namespace Sys2Proof.Machine

/-- A directory entry with the body it names (R38). -/
structure RawSec where
  id : Nat := 0
  version : Nat := 0
  off : Nat := 0
  len : Nat := 0
  op : Nat := 0
  flags : Nat := 0
  itemSize : Nat := 0
  count : Nat := 0
  first : Nat := 0
  resv : Nat := 0
  body : Bytes := []
  deriving DecidableEq, Repr, Inhabited

/-- An image's header with its directory (R37). -/
structure RawImage where
  magicOk : Bool := false
  ver : Nat × Nat := (0, 0)
  variant : Nat := 0
  counter : Nat := 0
  length : Nat := 0
  kind : Nat := 0
  signer : Nat := 0
  count : Nat := 0
  base : Bytes := []
  build : Nat := 0
  resvOk : Bool := false
  digest : Bytes := []
  sigR : Bytes := []
  sigS : Bytes := []
  secs : List RawSec := []
  deriving DecidableEq, Repr, Inhabited

/-- Bytes of an image slot (R37). -/
def imageMax : Nat := 12582912

/-- Value of MAGIC (R37). -/
def imageMagic : Nat := 0x474D494E494D414F

/-- A directory entry at an offset. -/
def rawSec (bs : Bytes) (o : Nat) : RawSec :=
  let e := slice bs o 32
  let off := leAt e 4 4
  let len := leAt e 8 4
  { id := leAt e 0 2, version := leAt e 2 2, off := off, len := len, op := leAt e 12 2, flags := leAt e 14 2
    itemSize := leAt e 16 4, count := leAt e 20 4, first := leAt e 24 4, resv := leAt e 28 4
    body := (bs.drop off).take len }

/-- Header and directory of an image, at most eleven entries. -/
def rawImage (bs : Bytes) : RawImage :=
  let h := slice bs 0 256
  let n := leAt h 0x1E 2
  { magicOk := leAt h 0 8 == imageMagic, ver := (leAt h 8 2, leAt h 10 2), variant := leAt h 12 4
    counter := leAt h 16 8, length := leAt h 24 4, kind := leAt h 28 1, signer := leAt h 29 1, count := n
    base := slice h 32 32, build := leAt h 64 8
    resvOk := allZero (slice h 0x48 56) && allZero (slice h 0xE0 32)
    digest := slice h 0x80 32, sigR := slice h 0xA0 32, sigS := slice h 0xC0 32
    secs := (List.range (min n 11)).map fun k => rawSec bs (256 + 32 * k) }

/-- What DIGEST covers of an image's bytes (R37). -/
def digestOf (bs : Bytes) (length : Nat) : Bytes :=
  sha256 (slice bs 0 128 ++ slice (bs.drop 256) 0 (length - 256))

/-- The uses that a signature's verification makes of its pair of slots: both where they can verify it, else of the one that
refuses it (R421, R430). -/
def signUses (slots : List KeySlot) (signer : Nat) : List (Nat × Nat) :=
  let x := at? slots signer {}
  let y := at? slots (signer + 1) {}
  if 63 ≤ signer then []
  else if x.key.isNone || !nbit x.attr 3 || x.isDead then [(signer, 3)]
  else if y.key.isNone || !nbit y.attr 3 || y.isDead then [(signer + 1, 3)]
  else if attrType x.attr != 3 || attrType y.attr != 4 || !nbit x.attr 7 || !nbit y.attr 7 then []
  else [(signer, 3), (signer + 1, 3)]

/-- The signature's integers verified over a digest under a pair of public-key slots, which must not be dead (R37, R53,
R430). -/
def signatureOk (slots : List KeySlot) (signer : Nat) (digest r s : Bytes) : Bool :=
  let x := at? slots signer {}
  let y := at? slots (signer + 1) {}
  match x.key, y.key with
  | some kx, some ky =>
    attrType x.attr == 3 && attrType y.attr == 4 && !x.isDead && !y.isDead && nbit x.attr 3 && nbit x.attr 7 && nbit y.attr 3 && nbit y.attr 7 &&
      decide (signer < 63) && ecdsaVerify digest r s kx ky
  | _, _ => false

/-! ### Composition and the canonical form -/

/-- Section bodies by ID. -/
abbrev Bodies := List (Nat × Bytes)

/-- The bodies of an image put over those of another (R38, R51). -/
def composeOver (base : Bodies) (i : RawImage) : Bodies :=
  i.secs.foldl (fun acc s =>
    if s.op = 0 then putKey acc s.id s.body
    else putKey acc s.id (putAt (keyed acc s.id []) (s.first * s.itemSize) s.body)) base

/-- ITEM_SIZE of each section (R40, R42, R44, R97, R128, R130, R193, R220, R235, R321, R428). -/
def itemSizeOf : Nat → Nat
  | 1 | 3 | 5 | 7 | 8 | 9 | 10 => 64
  | 2 => 16
  | 4 | 6 | 11 => 128
  | _ => 0

/-- Padding up to a multiple of 64 bytes. -/
def pad64 (n : Nat) : Bytes := List.replicate (cdiv n 64 * 64 - n) 0

/-- Bodies of the canonical form with their offsets: the padded bytes from offset 608 on, and the directory (R55). -/
def canonBodies (bodies : Bodies) : Bytes × Bytes × Nat :=
  (List.range 11).foldl (fun acc k =>
    let id := k + 1
    let body := keyed bodies id []
    let off := cdiv acc.2.2 64 * 64
    let size := itemSizeOf id
    let entry := leBytes 2 id ++ leBytes 2 1 ++ leBytes 4 off ++ leBytes 4 body.length ++ leBytes 2 0 ++
      leBytes 2 (b2n (id == 4)) ++ leBytes 4 size ++ leBytes 4 (body.length / max 1 size) ++ leBytes 4 0 ++ leBytes 4 0
    (acc.1 ++ pad64 acc.2.2 ++ body, acc.2.1 ++ entry, off + body.length)) ([], [], 256 + 32 * 11)

/-- The canonical full form of a composition under an image's header fields, with its DIGEST (R55). -/
def canonical (i : RawImage) (bodies : Bodies) : Bytes :=
  let c := canonBodies bodies
  let head := leBytes 8 imageMagic ++ leBytes 2 i.ver.1 ++ leBytes 2 i.ver.2 ++ leBytes 4 i.variant ++
    leBytes 8 i.counter ++ leBytes 4 c.2.2 ++ [0] ++ leBytes 1 i.signer ++ leBytes 2 11 ++ List.replicate 32 0 ++
    leBytes 8 i.build ++ List.replicate 56 0
  let tail := c.2.1 ++ c.1
  head ++ sha256 (head ++ tail) ++ List.replicate 96 0 ++ tail

/-- The DIGEST field of an image's bytes. -/
def digestField (bs : Bytes) : Bytes := slice bs 128 32

/-! ### Sections -/

/-- A body cut into items; the first argument bounds their number. -/
def itemsOf (size : Nat) : Nat → Bytes → List Bytes
  | 0, _ => []
  | n + 1, bs => bs.take size :: itemsOf size n (bs.drop size)

/-- The items of a section. -/
def Bodies.items (b : List (Nat × Bytes)) (id : Nat) : List Bytes :=
  let body := keyed b id []
  itemsOf (itemSizeOf id) (body.length / itemSizeOf id) body

/-- A CHANNELS item (R40). -/
def chanCfgOf (i : Bytes) : ChanCfg :=
  let s := leAt i 4 4
  { function := leAt i 0 1, in1Range := leAt i 1 1, in2Range := leAt i 2 1, encMode := leAt i 3 1
    safe := [s % 16, s / 16 % 16, s / 256 % 16, s / 4096 % 16]
    safeDriveTime := leAt i 8 2, runCurrent := leAt i 10 2, holdCurrent := leAt i 12 2, point := leAt i 14 2
    rangeLo := leIntAt i 16 4, rangeHi := leIntAt i 20 4 }

/-- A ROUTING entry (R130). -/
def routeCfgOf (i : Bytes) : RouteCfg :=
  { source := leAt i 0 1, task := leAt i 1 1, sub := leAt i 2 1, index := leAt i 4 2, offset := leAt i 8 4
    bytes := leAt i 12 4 }

/-- A MOTION item (R193). -/
def motionCfgOf (i : Bytes) : MotionCfg :=
  { vMax := leAt i 0 4, accMax := leAt i 4 4, decMax := leAt i 8 4, accInit := leAt i 12 4, decInit := leAt i 16 4
    posMin := leIntAt i 20 4, posMax := leIntAt i 24 4, encNum := leIntAt i 28 2, encDen := leAt i 30 2
    window := leAt i 32 2, windowUpdates := leAt i 34 1, standstill := leAt i 35 1, holdTime := leAt i 36 2
    priority := leAt i 38 1 }

/-- A LOOPS item (R220). -/
def loopCfgOf (i : Bytes) : LoopCfg :=
  { kind := leAt i 0 1, inSrc := leAt i 1 1, inCh := leAt i 2 1, filterShift := leAt i 3 1, outCh := leAt i 4 1
    outN := leAt i 5 1, onCode := leAt i 6 1, offCode := leAt i 7 1, div := leAt i 8 2, flags := leAt i 10 1
    fallback := leAt i 11 1, sp := leIntAt i 12 4, eOn := leIntAt i 16 4, eOff := leIntAt i 20 4
    minOnMs := leAt i 24 2, minOffMs := leAt i 26 2, k := leIntAt i 28 4, tauMs := leAt i 32 4, yAmb := leIntAt i 36 4
    ambCh := leAt i 40 1, ambIn := leAt i 41 1, m := leAt i 42 1, rMax := leIntAt i 44 4 }

/-- A pulse output descriptor (R236). -/
def pulseCfgOf (i : Bytes) (o : Nat) : PulseCfg :=
  { ch := leAt i o 1, out := leAt i (o + 1) 1, qty := leAt i (o + 2) 1, onCode := leAt i (o + 3) 1
    weight := leAt i (o + 4) 4 }

/-- An electrical point item (R236). -/
def mpCfgOf (i : Bytes) : MpCfg :=
  { kind := leAt i 0 1, sensor := leAt i 1 1, nominalHz := leAt i 2 1, flags := leAt i 3 1, ch := leAt i 4 1
    vs := [leAt i 5 1, leAt i 6 1, leAt i 7 1], iGain := (List.range 4).map fun k => leAt i (8 + 4 * k) 4
    iDelay := (List.range 4).map fun k => leIntAt i (24 + 2 * k) 2
    vGain := (List.range 3).map fun k => leAt i (32 + 4 * k) 4
    vDelay := (List.range 3).map fun k => leIntAt i (44 + 2 * k) 2
    startI := leAt i 0x34 4, pmaxW := leAt i 0x38 4, pulses := [pulseCfgOf i 0x3C, pulseCfgOf i 0x44] }

/-- A thermal point item (R239). -/
def hpCfgOf (i : Bytes) : HpCfg :=
  { kind := leAt i 0 1, ch := leAt i 1 1, flowSide := leAt i 2 1, pulseVol := leAt i 4 4, pressureKpa := leAt i 8 2
    dtCutoffMk := leAt i 10 2, tSupOffset := leAt i 12 4, tRetOffset := leAt i 16 4, pmaxW := leAt i 20 4
    pulses := [pulseCfgOf i 0x18, pulseCfgOf i 0x20] }

/-- Electrical points of a variant (R234, R270). -/
def mpCount (v : Variant) : Nat := 32 * v.nFd

/-- Thermal points of a variant. -/
def hpCount (v : Variant) : Nat := 16 * v.nFd

/-- The METERING section (R235, R236, R239). -/
def meteringOf (v : Variant) (items : List Bytes) : MeteringCfg :=
  let h := at? items 0 []
  let pts := items.drop 1
  { sealCounter := leAt h 0 4, sealSlot := leAt h 4 1, readoutSlot := leAt h 5 1, demandMin := leAt h 6 1
    demandOffsetS := leIntAt h 8 4, sealMac := slice h 32 32
    mps := (pts.take (mpCount v)).map mpCfgOf, hps := ((pts.drop (mpCount v)).take (hpCount v)).map hpCfgOf }

/-- `n` little-endian words of 4 bytes from the start of a byte string. -/
def u32s : Nat → Bytes → List Nat
  | 0, _ => []
  | n + 1, bs => leAt (bs.take 4) 0 4 :: u32s n (bs.drop 4)

/-- `n` little-endian numbers of 2 bytes. -/
def u16s : Nat → Bytes → List Nat
  | 0, _ => []
  | n + 1, bs => leAt (bs.take 2) 0 2 :: u16s n (bs.drop 2)

/-- The bytes of a SOLVER section from an item on; none for 0xFFFF_FFFF. -/
def fromItem (body : Bytes) (size item : Nat) : Bytes := if item * size < body.length then body.drop (item * size) else []

/-- An element-list entry (R97). -/
def elementOf (bs : Bytes) : Element :=
  { kind := leAt bs 0 1, form := leAt bs 1 1, ports := (List.range 4).map fun k => leAt bs (4 + 4 * k) 4 }

/-- Numbers a count field may have without more than a section's bytes behind it. -/
def fits (n size : Nat) (bs : Bytes) : Nat := min n (bs.length / max 1 size)

/-- A batch-table entry with its pattern (R97). -/
def batchEntryOf (body e : Bytes) : BatchEntry :=
  let n := leAt e 0 4
  let nnz := leAt e 4 4
  let pat := fromItem body 128 (leAt e 16 4)
  { n := n, nnz := nnz, fingerprint := leAt e 8 8, patternItem := leAt e 16 4, levels := leAt e 20 2
    rowPtr := u32s (fits (n + 1) 4 pat) pat
    colIdx := u32s (fits nnz 4 (pat.drop (4 * (n + 1)))) (pat.drop (4 * (n + 1))) }

/-- A job template with its data blocks (R97). -/
def templateOf (body i : Bytes) : Template :=
  let n := leAt i 8 4
  let nnz := leAt i 12 4
  let kind := leAt i 0 1
  let pat := fromItem body 128 (leAt i 0x40 4)
  let ids := fromItem body 128 (leAt i 0x44 4)
  let els := fromItem body 128 (leAt i 0x48 4)
  let sc := fromItem body 128 (leAt i 0x4C 4)
  let bt := fromItem body 128 (leAt i 0x50 4)
  let ec := leAt i 0x3C 4
  let sn := leAt i 0x34 4
  let probs := leAt i 0x2E 2
  let hasMap := nbit (leAt i 0x2D 1) 0
  { kind := kind, cls := leAt i 1 1, precond := leAt i 2 1, block := leAt i 3 1, homeDie := leAt i 4 1
    degrade := leAt i 5 1, fallback := leAt i 6 2, n := n, nnz := nnz, fingerprint := leAt i 16 8
    tol := BitVec.ofNat 64 (leAt i 24 8), cap := leAt i 32 2, k := leAt i 34 1, m := leAt i 35 1, tauExp := leAt i 36 1
    valueSrc := leAt i 37 1, levels := leAt i 38 2, deadline := leAt i 40 4, releaseTask := leAt i 44 1
    map := hasMap, problems := probs, coeffCount := leAt i 0x30 4, scatterCount := sn, warmNMax := leAt i 0x38 4
    elementCount := ec
    rowPtr := if kind = 2 then [] else u32s (fits (n + 1) 4 pat) pat
    colIdx := if kind = 2 then [] else u32s (fits nnz 4 (pat.drop (4 * (n + 1)))) (pat.drop (4 * (n + 1)))
    idMap := if hasMap then u32s (fits n 4 ids) ids else []
    elements := (itemsOf 20 (fits ec 20 els) els).map elementOf
    scatter := u32s (fits sn 4 sc) sc
    batch := if kind = 2 then (itemsOf 32 (fits probs 32 bt) bt).map (batchEntryOf body) else [] }

/-- The job templates of a SOLVER section (R97). -/
def templatesOf (body : Bytes) (items : List Bytes) : List Template :=
  ((items.drop 1).take (min 64 (leAt (at? items 0 []) 0 2))).map (templateOf body)

/-- A task entry with its record list (R128). -/
def taskCfgOf (body i : Bytes) : TaskCfg :=
  let item := leAt i 0x1C 4
  let count := leAt i 0x20 4
  let recs := fromItem body 64 item
  { periodUs := leAt i 0 4, processor := leAt i 4 1, overrunLimit := leAt i 5 1, wcetUs := leAt i 8 4
    watchdogUs := leAt i 12 4, entry := leAt i 16 4, snapshotBytes := leAt i 20 4, publishBytes := leAt i 24 4
    recordItem := item, recordCount := count, records := u16s (fits count 2 recs) recs }

/-- A frame-table entry (R128). -/
def instCfgOf (i : Bytes) : InstCfg :=
  { instId := leAt i 0 4, typeId := leAt i 4 4, ownerTask := leAt i 8 1, frameOffset := leAt i 12 4
    frameBytes := leAt i 16 4, descFirst := leAt i 20 4, descCount := leAt i 24 4 }

/-- A field descriptor (R142). -/
def fieldDescOf (i : Bytes) : FieldDesc :=
  { fieldId := leAt i 0 4, type := leAt i 4 1, flags := leAt i 5 1, count := leAt i 6 2, offset := leAt i 8 4
    initOffset := leAt i 12 4 }

/-- The PROGRAM section (R128). -/
def programOf (body : Bytes) (items : List Bytes) : ProgramCfg :=
  let h := at? items 0 []
  let insts := fromItem body 64 (leAt h 12 4)
  let descs := fromItem body 64 (leAt h 20 4)
  { codeBytes := leAt h 0 4, codeItem := leAt h 4 4, instCount := leAt h 8 4, instItem := leAt h 12 4
    descCount := leAt h 16 4, descItem := leAt h 20 4, constBytes := leAt h 24 4, constItem := leAt h 28 4
    instBytes := leAt h 32 4, programId := leAt h 36 4
    tasks := ((items.drop 1).take 4).map (taskCfgOf body)
    insts := (itemsOf 32 (fits (leAt h 8 4) 32 insts) insts).map instCfgOf
    descs := (itemsOf 16 (fits (leAt h 16 4) 16 descs) descs).map fieldDescOf
    code := (fromItem body 64 (leAt h 4 4)).take (leAt h 0 4)
    consts := (fromItem body 64 (leAt h 28 4)).take (leAt h 24 4) }

/-- A CAN port item (R321). -/
def canPortCfgOf (i : Bytes) : CanPortCfg :=
  { mode := leAt i 0 1, recovery := leAt i 1 1, flags := leAt i 2 1, tdcMode := leAt i 3 1, nBrp := leAt i 4 2
    nTseg1 := leAt i 6 2, nTseg2 := leAt i 8 1, nSjw := leAt i 9 1, dBrp := leAt i 10 1, dTseg1 := leAt i 11 1
    dTseg2 := leAt i 12 1, dSjw := leAt i 13 1, tdcOffset := leAt i 14 1, tdcValue := leAt i 15 1 }

/-- A substation-table entry (R335); an address is read first octet highest. -/
def subCfgOf (i : Bytes) : SubCfg :=
  { record := leAt i 0 2, transport := leAt i 2 1, port := leAt i 3 1, dir := leAt i 4 1, prio := leAt i 5 1
    inLen := leAt i 6 2, outLen := leAt i 8 2, timeoutMs := leAt i 10 2, gateway := beNat (slice i 12 4) }

/-- An Ethernet port entry (R343). -/
def ethPortCfgOf (i : Bytes) : EthPortCfg :=
  { mode := leAt i 0 1, ptp := leAt i 1 1, prefixLen := leAt i 2 1, ipv4 := beNat (slice i 4 4)
    asymNs := leIntAt i 8 2, vlan := leAt i 10 2, router := beNat (slice i 12 4) }

/-- A PTP domain slot item (R344). -/
def domCfgOf (i : Bytes) : DomCfg :=
  { domain := leAt i 0 1, transport := leAt i 1 1, sdoId := leAt i 2 2, ports := leAt i 4 1, logSync := leIntAt i 5 1
    logAnnounce := leIntAt i 6 1, logDelay := leIntAt i 7 1, announceTimeout := leAt i 8 1, priority1 := leAt i 9 1
    priority2 := leAt i 10 1, flags := leAt i 11 1, qualityNs := leAt i 12 4, lossMs := leAt i 16 2 }

/-- The NETWORK section (R321, R342). -/
def networkOf (body : Bytes) (items : List Bytes) : NetworkCfg :=
  let h := at? items 0 []
  let subs := fromItem body 64 (leAt h 8 4)
  let p := leAt h 12 4
  let eth := at? items p []
  { canTag := leAt h 0 2 % 4096, udpPort := leAt h 2 2, subCount := leAt h 4 2, subItem := leAt h 8 4, ptpItem := p
    clockType := leAt h 16 1, steerInit := leAt h 17 1, flags := leAt h 18 1, switchNs := leAt h 20 4
    utcOffset := leAt h 24 2, ports := ((items.drop 1).take 16).map canPortCfgOf
    subs := (itemsOf 16 (fits (leAt h 4 2) 16 subs) subs).map subCfgOf
    eth := (itemsOf 16 4 (fitTo 64 eth)).map ethPortCfgOf
    doms := [domCfgOf (at? items (p + 1) []), domCfgOf (at? items (p + 2) [])] }

/-- The SAFETY item (R42). -/
def safetyOf (i : Bytes) : SafetyCfg :=
  { tVacant := leAt i 0 2, tSafe := leAt i 2 2, quorum := leAt i 4 1, commissionAllowed := nbit (leAt i 5 1) 0
    forcingAllowed := nbit (leAt i 5 1) 1, ckptPeriod := leAt i 8 4, ckptAgeLimit := leAt i 12 4
    ckptMaxBytes := leAt i 16 4, commMaxAxes := leAt i 20 2, commMaxRate := leAt i 22 2, commMaxCurrent := leAt i 24 2
    commConnectors := leAt i 26 1 }

/-- The POWER item (R44). -/
def powerOf (i : Bytes) : PowerCfg :=
  { pMax := leAt i 0 2, axisBudget := leAt i 2 2, pAxis := leAt i 4 2, sensorEnable := leAt i 6 2, sensorLimit := leAt i 8 2
    pSolver := leAt i 10 2, slvFMax := leAt i 12 2, blkFMax := leAt i 14 2
    groupOff := (List.range 4).map fun d => leAt i (16 + 2 * d) 2 }

/-- The entries of a SECURITY section, with whether their reserved bytes are 0. -/
def secEntriesOf (items : List Bytes) : List (SecEntry × Bool) :=
  ((items.drop 1).take (leAt (at? items 0 []) 0 2)).map fun i => (secEntryOf i, secEntryResv i && allZero (i.drop 0x38))

/-- A configuration from an image's header fields and its composed bodies (R37). -/
def confOf (v : Variant) (i : RawImage) (digest : Bytes) (b : Bodies) : Conf :=
  let it := Bodies.items b
  { ver := i.ver, variant := i.variant, counter := i.counter, signerSlot := i.signer, buildTime := i.build
    digest := digest, sections := b.map (·.1)
    chans := (it 1).zipIdx.map fun x => (x.2, chanCfgOf x.1)
    routes := ((it 2).drop 1).map routeCfgOf
    loops := ((it 3).zipIdx.filter fun x => leAt x.1 0 1 != 0).map fun x => (x.2, loopCfgOf x.1)
    motion := ((it 5).zipIdx.filter fun x => !allZero x.1).map fun x => (x.2, motionCfgOf x.1)
    metering := some (meteringOf v (it 4)), metBytes := keyed b 4 []
    templates := templatesOf (keyed b 6 []) (it 6)
    program := some (programOf (keyed b 7 []) (it 7))
    network := some (networkOf (keyed b 8 []) (it 8))
    safety := safetyOf (at? (it 9) 0 []), power := powerOf (at? (it 10) 0 [])
    security := (secEntriesOf (it 11)).map (·.1), challengeSlot := leAt (at? (it 11) 0 []) 2 1 }

/-! ### Slots -/

/-- The bytes of a slot's image, as long as its header says within the slot, and never less than header and directory
may take (R37, R38). -/
def slotBytes (mem : Mem) (slot : Nat) : Bytes :=
  let n := leAt (Memory.reads mem (imageBase slot) 32) 24 4
  Memory.reads mem (imageBase slot) (max 608 (min n imageMax))

/-- The provenance area of a slot (R55, R363). -/
def provBytes (mem : Mem) (slot : Nat) : Bytes := Memory.reads mem (provBase slot) 1024

/-- The uses of the key store that the verification of a slot makes (R55, R430). -/
def slotUses (L : Lane) (mem : Mem) (slot : Nat) : List (Nat × Nat) :=
  let prov := provBytes mem slot
  let i := rawImage (if allZero prov then slotBytes mem slot else prov)
  if i.magicOk then signUses L.key.slots i.signer else []

/-- Whether a slot's digest and authority verify (R55), and its bytes can be read (R371); a verification needs random bits
(R423). -/
def slotValid (L : Lane) (mem : Mem) (slot : Nat) : Bool :=
  let bs := slotBytes mem slot
  let i := rawImage bs
  let prov := provBytes mem slot
  let p := rawImage prov
  !L.key.trngFailed && i.magicOk && i.kind == 0 && decide (i.counter ≠ 0) && decide (i.length ≤ imageMax) &&
    L.nvm.readable (imageBase slot) bs.length && digestOf bs i.length == i.digest &&
    (if allZero prov then signatureOk L.key.slots i.signer i.digest i.sigR i.sigS
     else p.magicOk && p.counter == i.counter && signatureOk L.key.slots p.signer p.digest p.sigR p.sigS)

/-- The configuration a slot holds. -/
def slotConf (v : Variant) (mem : Mem) (slot : Nat) : Conf :=
  let i := rawImage (slotBytes mem slot)
  let b := composeOver [] i
  confOf v i (digestField (canonical i b)) b

/-- The configuration of a slot whose image verifies. -/
def loadSlot (v : Variant) (L : Lane) (mem : Mem) (slot : Nat) : Option Conf :=
  if slotValid L mem slot then some (slotConf v mem slot) else none

end Sys2Proof.Machine
end

