-- ==== Sys2Proof/Machine/CheckHead.lean ====
section
/-! DEFINITION. The consistency check, stages 1 and 2: structure and authority of a shadow image (R38, R39, R50 to R55,
R64, R428). -/

namespace Sys2Proof.Machine

/-- Why a check refuses: CFG_REASON.CODE, its SECTION and CFG_REASON_INDEX (R52). -/
structure Reason where
  code : Nat := 0
  sect : Nat := 0
  index : Nat := 0xFFFFFFFF
  deriving DecidableEq, Repr, Inhabited

/-- One test of the check: none where it passes. -/
abbrev Check := Option Reason

/-- CFG_REASON_INDEX where no item applies (R52). -/
def noIndex : Nat := 0xFFFFFFFF

/-- Refused where a condition holds. -/
def refuseIf (c : Bool) (code sect index : Nat) : Check := if c then some { code := code, sect := sect, index := index } else none

/-- The first refusal over numbered things, in order. -/
def firstOf {α : Type} (f : Nat → α → Check) : Nat → List α → Check
  | _, [] => none
  | k, x :: t => f k x <|> firstOf f (k + 1) t

/-- What a check sees of the lane (R50, R51). -/
structure CheckEnv where
  variant : Variant := .nfj8
  /-- the lane is in COMMISSION (R265) -/
  commission : Bool := false
  /-- bodies of the active image, none in BLANK -/
  active : Option Bodies := none
  activeConf : Option Conf := none
  activeDigest : Bytes := []
  activeCounter : Nat := 0
  floor : Nat := 0
  slots : List KeySlot := []
  /-- the random source has failed (R423) -/
  trng : Bool := false
  /-- seal count in force, bits 30 to 0 (R264) -/
  sealCount : Nat := 0
  /-- free records of the metrology log (R266) -/
  mlogFree : Nat := 0
  /-- tasks run (R158) -/
  running : Bool := false

/-- Items of the sections whose count the variant fixes (R40, R42, R44, R64, R193, R220, R235, R270). -/
def fixedCount (v : Variant) (id : Nat) : Option Nat :=
  if id = 1 ∨ id = 3 ∨ id = 5 then some (64 * v.nFd)
  else if id = 4 then some (1 + mpCount v + hpCount v)
  else if id = 9 ∨ id = 10 then some 1
  else none

/-- Items of a section that a delta's item range must lie within: the fixed count, or the active image's (R53). -/
def rangeCount (e : CheckEnv) (id : Nat) : Option Nat :=
  match fixedCount e.variant id with
  | some n => some n
  | none => e.active.map fun b => (keyed b id []).length / max 1 (itemSizeOf id)

/-- Whether two byte ranges share a byte. -/
def overlaps (a la b lb : Nat) : Bool := decide (0 < la) && decide (0 < lb) && decide (a < b + lb) && decide (b < a + la)

/-- Version and reserved fields of header and directory (R37, R38, R53). -/
def checkVersion (i : RawImage) : Check :=
  refuseIf (i.ver.1 != 1 || decide (2 < i.ver.2) || decide (1 < i.kind) || (i.kind == 0 && !allZero i.base) || !i.resvOk)
      0x0105 0 noIndex <|>
  firstOf (fun k (s : RawSec) => refuseIf (s.version != 1 || s.flags != b2n (s.id == 4) || s.resv != 0) 0x0105 0 k)
    0 i.secs

/-- VARIANT, the item counts it fixes, and templates where no solver is fitted (R33, R53, R64). -/
def checkVariant (v : Variant) (i : RawImage) : Check :=
  refuseIf (i.variant != v.sysId) 0x0106 0 noIndex <|>
  firstOf (fun k (s : RawSec) =>
    refuseIf (s.op == 0 && (fixedCount v s.id).any (· != s.count)) 0x0106 0 k <|>
    refuseIf (v.nSd == 0 && s.id == 6 && s.first == 0 && leAt s.body 0 2 != 0) 0x0106 6 0) 0 i.secs

/-- One directory entry against its forerunners (R38, R53). -/
def checkEntry (e : CheckEnv) (i : RawImage) (k : Nat) (s : RawSec) : Check :=
  let before := i.secs.take k
  let size := itemSizeOf s.id
  refuseIf
    (size == 0 || before.any (·.id == s.id) || decide (1 < s.op) || (i.kind == 0 && s.op == 1) || s.itemSize != size ||
      s.len != size * s.count || (s.op == 0 && s.first != 0) || s.off % 64 != 0 || decide (i.length < s.off + s.len) ||
      overlaps 0 (256 + 32 * i.count) s.off s.len || before.any (fun t => overlaps t.off t.len s.off s.len) ||
      (s.op == 1 && (rangeCount e s.id).any fun n => decide (n < s.first + s.count)))
    0x0104 0 k

/-- Length and directory (R38, R53). -/
def checkDirectory (e : CheckEnv) (i : RawImage) : Check :=
  refuseIf (i.count == 0 || decide (11 < i.count) || decide (i.length < 256 + 32 * i.count) || decide (imageMax < i.length))
      0x0104 0 noIndex <|>
  firstOf (checkEntry e i) 0 i.secs

/-- Presence of the eleven sections in a full image (R39). The reason names the ID of the section that is missing, with no
index (DEDUCED from R52, assumption 49). -/
def checkPresence (i : RawImage) : Check :=
  if i.kind = 0 then
    firstOf (fun _ id => refuseIf (!i.secs.any (·.id == id)) 0x0103 id noIndex) 0 ((List.range 11).map (· + 1))
  else none

/-- Stage 1, in the order of R50. -/
def stage1 (e : CheckEnv) (bs : Bytes) (i : RawImage) : Check :=
  refuseIf (!i.magicOk) 0x0101 0 noIndex <|> checkVersion i <|> checkVariant e.variant i <|> checkDirectory e i <|>
  checkPresence i <|> refuseIf (digestOf bs i.length != i.digest) 0x0102 0 0

/-- Whether the head of the SECURITY section is refused before its entries are judged (R428). -/
def securityHeadBad (items : List Bytes) : Bool :=
  let h := at? items 0 []
  let n := leAt h 0 2
  let ch := leAt h 2 1
  decide (56 < n) || decide (items.length < n + 1) || decide (ch < 8) || decide (63 < ch) || !allZero (h.drop 3)

/-- The SECURITY head and entries (R422, R423, R427, R428). -/
def checkSecurity (e : CheckEnv) (items : List Bytes) : Check :=
  let j := judgeSection e.trng e.slots [] 1 (secEntriesOf items)
  refuseIf (securityHeadBad items) 0x0A02 11 0 <|>
  refuseIf (j.index != 0) 0x0A02 11 j.index <|>
  refuseIf (!nbit (at? j.slots (leAt (at? items 0 []) 2 1) {}).shown 4) 0x0A02 11 0

/-- Stage 2 before the SECURITY section: signature and signer slot, counter, delta base (R50, R51, R53, R54). -/
def checkAuthority (e : CheckEnv) (i : RawImage) : Check :=
  refuseIf (e.trng || !signatureOk e.slots i.signer i.digest i.sigR i.sigS) 0x0A01 0 noIndex <|>
  refuseIf (decide (i.counter ≤ (if i.kind = 0 then e.floor else e.activeCounter))) 0x0A03 0 noIndex <|>
  refuseIf (i.kind == 1 && (e.active.isNone || i.base != e.activeDigest)) 0x0102 0 1

/-- Stage 2, in the order of R50 (R51, R53, R54). -/
def stage2 (e : CheckEnv) (i : RawImage) (b : Bodies) : Check :=
  checkAuthority e i <|> checkSecurity e (Bodies.items b 11)

/-- The uses of the key store that stage 2 makes: the signer's pair, and the key-encryption slots of the entries as far as
they are judged (R430). -/
def stage2Uses (e : CheckEnv) (i : RawImage) (b : Bodies) : List (Nat × Nat) :=
  let items := Bodies.items b 11
  signUses e.slots i.signer ++
    (if (checkAuthority e i).isSome || securityHeadBad items then []
     else (judgeSection e.trng e.slots [] 1 (secEntriesOf items)).uses)

end Sys2Proof.Machine
end

