-- ==== Sys2Proof/Machine/Loops.lean ====
section
/-! DEFINITION. Hysteretic band loops: one evaluation of a slot, its minimum times, its plausibility model and the
commands of the program (chapter 08). Values are Q16.16 as signed integers. -/

namespace Sys2Proof.Machine

/-- 2^128, the scale in which e^(-q) is computed. -/
def expS : Nat := 340282366920938463463374607431768211456

/-- Terms of the series of e^(-x), x scaled by 2^128: the alternating sum from term `k` on. -/
def expTerms (x : Nat) : Nat → Nat → Int → Int
  | 0, _, _ => 0
  | n + 1, k, t => t + expTerms x n (k + 1) (-(fdiv (t * x) (expS * k)))

/-- A number multiplied by itself `n` times wide in the scale 2^128. -/
def squares : Nat → Nat → Nat
  | 0, x => x
  | n + 1, x => squares n (x * x / expS)

/-- e^(-num/den), scaled by 2^128: the series of the 1024th part, squared ten times. -/
def expNeg (num den : Nat) : Nat := squares 10 (expTerms (num * expS / (den * 1024)) 40 1 expS).toNat

/-- A of R226: 1 - e^(-Ts/tau), rounded to the nearest Q16.16. -/
def loopA (div tauMs : Nat) : Int :=
  if tauMs = 0 then 0 else roundDiv (((expS : Int) - expNeg div (10 * tauMs)) * 65536) expS

/-- A sum in Q16.16 with whether it saturated (R222). -/
def qAdd (a b : Int) : Int × Bool := clampI q16Lo q16Hi (a + b)

/-- A difference in Q16.16 (R222). -/
def qSub (a b : Int) : Int × Bool := clampI q16Lo q16Hi (a - b)

/-- A product in Q16.16, rounded to nearest with ties toward plus infinity (R222). -/
def qMul (a b : Int) : Int × Bool := clampI q16Lo q16Hi (fdiv (a * b + 32768) 65536)

/-- The module with one loop slot changed. -/
def Module.updLoop (m : Module) (d k : Nat) (f : LoopSlot → LoopSlot) : Module :=
  m.updFd d fun fd => { fd with loops := upd fd.loops k f }

/-- A loop slot of a field die. -/
def Module.loop (m : Module) (d k : Nat) : LoopSlot := at? (m.fd d).loops k {}

/-- The slot's mode after its flags changed: FALLBACK while PLAUS or INPUT_BAD is set, AUTO when both are clear; a
disabled slot stays disabled (R223, R228). -/
def LoopSlot.modeNow (s : LoopSlot) : LoopMode :=
  match s.mode with
  | .unused => .unused
  | .disabled => .disabled
  | _ => if s.plaus || s.inputBad then .fallback else .auto

/-- A slot's state set; a change counts, and a PUBLISH slot measures its times on it (R223, R224). -/
def LoopSlot.setOn (now kind : Nat) (on : Bool) (s : LoopSlot) : LoopSlot :=
  if s.on == on then s
  else
    let s := { s with on := on, switches := sat max32 (s.switches + 1) }
    if kind = 1 then s
    else if on then { s with onSince := some now } else { s with offSince := some now }

/-- Whether the minimum time of a wanted switch has elapsed, or the switch would not change what the output carries
(R224). `u` is whether the driven value is ON_CODE. -/
def LoopSlot.mayTurn (now : Nat) (l : LoopCfg) (u want : Bool) (s : LoopSlot) : Bool :=
  if want then
    (l.kind == 1 && u) ||
      (match s.offSince with | none => true | some t => decide (t + l.minOffMs * 1000000 ≤ now))
  else
    (l.kind == 1 && !u) ||
      (match s.onSince with | none => true | some t => decide (t + l.minOnMs * 1000000 ≤ now))

/-- A wanted switch taken or held (R224). -/
def LoopSlot.turn (now : Nat) (l : LoopCfg) (u want : Bool) (s : LoopSlot) : LoopSlot :=
  if s.on == want then { s with minHold := false }
  else if s.mayTurn now l u want then { s.setOn now l.kind want with minHold := false }
  else { s with minHold := true }

/-- The state FALLBACK sets (R227). -/
def LoopSlot.fallbackState (now : Nat) (l : LoopCfg) (u : Bool) (s : LoopSlot) : LoopSlot :=
  match l.fallback with
  | 1 => { s.turn now l u true with fbSafe := false }
  | 2 => { s with minHold := false, fbSafe := false }
  | 3 => { s.setOn now l.kind false with minHold := false, fbSafe := true }
  | _ => { s.setOn now l.kind false with minHold := false, fbSafe := false }

/-- The values of a SET come into force (R230). -/
def LoopSlot.takeSet (s : LoopSlot) : LoopSlot :=
  match s.setNext with
  | none => s
  | some (sp, a, b) => { s with sp := sp, eOn := a, eOff := b, setNext := none }

/-- A slot leaves FALLBACK, or a disabled one has both flags clear: the model starts from y (R226, R228). -/
def LoopSlot.resume (s : LoopSlot) : LoopSlot :=
  if s.plaus || s.inputBad then s
  else
    let s := { s with yhat := s.y, fbSafe := false }
    if s.mode == .disabled then s else { s with mode := .auto }.takeSet

/-- PLAUS raised on a slot: FALLBACK unless it is disabled (R227). -/
def raisePlaus (d k : Nat) (m : Module) : Module :=
  let s := m.loop d k
  let m := m.updLoop d k fun s => let s := { s with plaus := true }
                                  { s with mode := s.modeNow }
  reportFd d 8 0x4201 (64 * d + k) (ofS 32 s.r) (ofS 32 s.yhat) (raiseLp d 1 m)

/-- PLAUS cleared, with its source (R228, R233). -/
def clearPlaus (d k source : Nat) (m : Module) : Module :=
  let s := m.loop d k
  if !s.plaus then m
  else
    let m := m.updLoop d k fun s => { s with plaus := false, count := 0 }.resume
    reportFd d 8 0x4202 (64 * d + k) source (ofS 32 s.y) m

/-- INPUT_BAD judged from the input's OPEN flag (R228). -/
def judgeInput (d k : Nat) (bad : Bool) (m : Module) : Module :=
  let s := m.loop d k
  if s.inputBad == bad then m
  else
    let m := m.updLoop d k fun s =>
      if bad then
        let s := { s with inputBad := true }
        { s with mode := s.modeNow }
      else { s with inputBad := false }.resume
    let m := if bad then raiseLp d 2 m else m
    reportFd d 8 0x4203 (64 * d + k) (b2n bad) 0 m

/-- Bits of `LP_FLAGS` that rise are recorded (R222, R233). -/
def loopSat (d k : Nat) (f e mo : Bool) (m : Module) : Module :=
  let s := m.loop d k
  let new := flags [f && !s.satFilter, e && !s.satError, mo && !s.satModel]
  if new = 0 then m
  else
    let m := m.updLoop d k fun s =>
      { s with satFilter := s.satFilter || f, satError := s.satError || e, satModel := s.satModel || mo }
    reportFd d 8 0x4204 (64 * d + k) new 0 (raiseLp d 4 m)

/-- The value of a slot's source (R219): an input's operand converted, a voltage-sense value, or the counts since the
last sample, with whether it saturated. -/
def FieldDie.loopSource (fd : FieldDie) (d k : Nat) (l : LoopCfg) (x : Int) : Int × Bool :=
  let i := fd.chanCfg d l.inCh
  let ch := at? fd.chans l.inCh {}
  match l.inSrc with
  | 0 => let r := convert i.in1Range i.rangeLo i.rangeHi x false ch.in1
         (r.value, r.satd)
  | 1 => let r := convert i.in2Range i.rangeLo i.rangeHi x false ch.in2
         (r.value, r.satd)
  | 2 => ((at? fd.vs l.inCh {}).rms, false)
  | _ => clampI q16Lo q16Hi (countDiff ch.enc (at? fd.loops k {}).encLast * 65536)

/-- The filter and the error of one evaluation (R223): x and the saturation flags of the filter and the error. -/
def LoopSlot.filter (l : LoopCfg) (x : Int) (s : LoopSlot) : LoopSlot × Int × Bool × Bool :=
  let s := if s.first then { s with y := x } else s
  let dx := qSub x s.y
  let y := qAdd s.y (fdiv dx.1 (2 ^ l.filterShift))
  let s := { s with y := y.1, yhat := if s.first && nbit l.flags 3 then y.1 else s.yhat, first := false }
  let e := if nbit l.flags 1 then qSub y.1 s.sp else qSub s.sp y.1
  (s, e.1, dx.2 || y.2, e.2)

/-- The state the band logic asks for (R223). -/
def LoopSlot.want (e : Int) (s : LoopSlot) : Bool :=
  if !s.on && decide (s.eOn ≤ e) then true else if s.on && decide (e ≤ s.eOff) then false else s.on

/-- The model and the residual (R226), with whether any step saturated. -/
def LoopSlot.model (l : LoopCfg) (u : Bool) (amb : Int) (s : LoopSlot) : LoopSlot × Bool :=
  let t1 := qSub s.yhat amb
  let t2 := qSub (if u then l.k else 0) t1.1
  let t3 := qMul (loopA l.div l.tauMs) t2.1
  let yh := qAdd s.yhat t3.1
  let r := qSub s.y yh.1
  ({ s with yhat := yh.1, r := r.1 }, t1.2 || t2.2 || t3.2 || yh.2 || r.2)

/-- The state and minimum-hold flag a slot's mode leaves it with at a sample (R223, R227). -/
def LoopSlot.settle (now : Nat) (l : LoopCfg) (u want : Bool) (s : LoopSlot) : LoopSlot :=
  match s.mode with
  | .auto => s.turn now l u want
  | .fallback => s.fallbackState now l u
  | _ => { s.setOn now l.kind false with minHold := false, fbSafe := false }

/-- One evaluation of a slot (R223). At the sample at which it returns from FALLBACK it keeps its state (R228). -/
def loopEval (d k : Nat) (x amb : Int) (m : Module) : Module :=
  let fd := m.fd d
  let l := fd.loopCfg d k
  let ch := at? fd.chans l.inCh {}
  let ic := fd.chanCfg d l.inCh
  let x := if l.inSrc < 2 then m.measured d l.inCh l.inSrc (if l.inSrc = 0 then ic.in1Range else ic.in2Range) x else x
  let ac := fd.chanCfg d l.ambCh
  let amb := m.measured d l.ambCh l.ambIn (if l.ambIn = 0 then ac.in1Range else ac.in2Range) amb
  let bad := match l.inSrc with
    | 0 => ch.in1Open
    | 1 => ch.in2Open
    | _ => false
  let fell := (m.loop d k).mode == .fallback
  let m := judgeInput d k bad m
  let back := fell && (m.loop d k).mode == .auto
  let u := fd.loopU d k
  let src := fd.loopSource d k l x
  let s := (m.loop d k)
  let s := if s.mode == .fallback then s else s.takeSet
  let (s, e, satF, satE) := { s with encLast := ch.enc }.filter l src.1
  let want := if back then s.on else s.want e
  let on' := if s.mode == .auto && (s.on == want || s.mayTurn m.now l u want) then want else s.on
  let uM := if l.kind = 1 then u else on'
  let ai := fd.chanCfg d l.ambCh
  let ambV :=
    if nbit l.flags 2 then
      (convert (if l.ambIn = 0 then ai.in1Range else ai.in2Range) ai.rangeLo ai.rangeHi amb false
        (if l.ambIn = 0 then (at? fd.chans l.ambCh {}).in1 else (at? fd.chans l.ambCh {}).in2)).value
    else l.yAmb
  let (s, satM) := if nbit l.flags 3 then s.model l uM ambV else (s, false)
  let wide := nbit l.flags 3 && decide ((s.r.natAbs : Int) > l.rMax)
  let s := { s with count := if wide then sat 255 (s.count + 1) else 0 }
  let m := m.updLoop d k fun _ => s
  let m := if wide && decide (s.count ≥ l.m) && !s.plaus then raisePlaus d k m else m
  let m := loopSat d k (satF || src.2) satE satM m
  m.updLoop d k fun s => s.settle m.now l u want

/-- Whether a record is rejected: a SET whose band is empty, an operation above 3, or a slot of KIND 0 (R230). -/
def loopRejects (kind : Nat) (rec : Bytes) : Bool :=
  let op := leAt rec 0 1
  op > 3 || kind == 0 || (op == 1 && decide (leIntAt rec 8 4 ≤ leIntAt rec 12 4))

/-- A record rejected: counted and recorded, its SEQ taken (R196, R230). -/
def loopReject (d k : Nat) (rec : Bytes) (m : Module) : Module :=
  let seq := leAt rec 1 1
  let m := m.updLoop d k fun s => { s with ackSeq := seq, cmd := none, rejects := sat 65535 (s.rejects + 1) }
  reportFd d 8 0x4205 (64 * d + k) (leAt rec 0 1) seq (raiseLp d 8 m)

/-- A loop command record acted on (R229, R230). -/
def loopAct (d k : Nat) (rec : Bytes) (m : Module) : Module :=
  let l := (m.fd d).loopCfg d k
  if loopRejects l.kind rec then loopReject d k rec m
  else
    let m := m.updLoop d k fun s => { s with ackSeq := leAt rec 1 1, cmd := none }
    let m := match leAt rec 0 1 with
      | 1 => m.updLoop d k fun s =>
          let s := { s with setNext := some (leIntAt rec 4 4, leIntAt rec 8 4, leIntAt rec 12 4) }
          if s.mode == .disabled then
            let s := { s with mode := .auto }
            { s with mode := s.modeNow }
          else s
      | 2 => m.updLoop d k fun s =>
          { s.setOn m.now l.kind false with
            mode := .disabled, minHold := false, fbSafe := false, yhat := if s.mode == .fallback then s.y else s.yhat }
      | 3 => clearPlaus d k 0 m
      | _ => m
    if l.kind = 1 then refreshOut d l.outCh l.outN m else m

/-- The record a slot holds, acted on if its operation is one a selector names. -/
def loopTake (d k : Nat) (ok : Nat → Bool) (m : Module) : Module :=
  match (m.loop d k).cmd with
  | none => m
  | some rec => if m.fdUp d && ok (leAt rec 0 1) then loopAct d k rec m else m

/-- The origin from which a slot's ticks count: t0 of the running program, or the die's power-up (R219). The spec names no message
that tells a die of a new t0 or of the program's stop: the die knows both at once, also while its link is down (R25; DESIGN
CHOICE, assumption 52). -/
def Module.loopOrigin (m : Module) (d : Nat) : Nat :=
  let L := m.lane (claimLane (m.fd d).claim)
  if L.prg.running then L.prg.t0 else (m.fd d).upAt

/-- LOOP_SAMPLE: a slot's evaluation at its next tick, with the newest fast samples of its inputs (R219, R223). -/
def loopSampleBody (d slot : Nat) (x amb : Int) (_ : Store) (m : Module) : Module :=
  let l := (m.fd d).loopCfg d slot
  if m.fdUp d && l.kind != 0 && !(m.fd d).atRest m.supplyGood then
    let m := clockTo (m.gridFrom (m.loopOrigin d) (l.div * 100000) (m.loop d slot).sampleAt) m
    let m := m.updLoop d slot fun s => { s with sampleAt := m.now }
    let m := loopTake d slot (fun _ => true) m
    let m := loopEval d slot x amb m
    if l.kind = 1 then refreshOut d l.outCh l.outN m else m
  else m

/-- LOOP_PLAUS: the residual has lain beyond its bound for M samples (R227). -/
def loopPlausBody (d slot : Nat) (_ : Store) (m : Module) : Module :=
  let l := (m.fd d).loopCfg d slot
  let s := m.loop d slot
  if m.fdUp d && l.kind != 0 && nbit l.flags 3 && !s.plaus && decide ((s.r.natAbs : Int) > l.rMax) &&
      decide (l.m ≤ s.count) then
    let u := (m.fd d).loopU d slot
    let m := raisePlaus d slot m
    let m := m.updLoop d slot fun s => if s.mode == .fallback then s.fallbackState m.now l u else s
    if l.kind = 1 then refreshOut d l.outCh l.outN m else m
  else m

/-- LOOP_SET (R230). -/
def loopSetBody (d slot : Nat) (_ : Store) (m : Module) : Module := loopTake d slot (· == 1) m

/-- LOOP_DISABLE (R230). -/
def loopDisableBody (d slot : Nat) (_ : Store) (m : Module) : Module := loopTake d slot (· == 2) m

/-- RESET_PLAUS (R228). -/
def resetPlausBody (d slot : Nat) (_ : Store) (m : Module) : Module := loopTake d slot (· == 3) m

/-- A write of `LP_FLAGS`: SAT flags clear with 1, PLAUS acts as RESET_PLAUS (R222, R228). -/
def lpFlagsWrite (d k : Nat) (value : Word) (m : Module) : Module :=
  let l := (m.fd d).loopCfg d k
  let m := m.updLoop d k fun s =>
    { s with satFilter := s.satFilter && !bitOf value 0, satError := s.satError && !bitOf value 1,
             satModel := s.satModel && !bitOf value 2 }
  if bitOf value 3 then
    let m := clearPlaus d k 1 m
    if l.kind = 1 then refreshOut d l.outCh l.outN m else m
  else m

/-! ## Meanings of the commands -/

/-- LOOP_SAMPLE (R223). -/
def execLoopSample (d : Nat) (slot : Nat) (x : Int) (amb : Int) (s : State) : Host.Outcome State Fault Refusal :=
  .next (commit s (loopSampleBody d slot x amb))

/-- LOOP_PLAUS (R227). -/
def execLoopPlaus (d : Nat) (slot : Nat) (s : State) : Host.Outcome State Fault Refusal :=
  .next (commit s (loopPlausBody d slot))

/-- LOOP_SET (R230). -/
def execLoopSet (d : Nat) (slot : Nat) (s : State) : Host.Outcome State Fault Refusal :=
  .next (commit s (loopSetBody d slot))

/-- LOOP_DISABLE (R230). -/
def execLoopDisable (d : Nat) (slot : Nat) (s : State) : Host.Outcome State Fault Refusal :=
  .next (commit s (loopDisableBody d slot))

/-- RESET_PLAUS (R228). -/
def execResetPlaus (d : Nat) (slot : Nat) (s : State) : Host.Outcome State Fault Refusal :=
  .next (commit s (resetPlausBody d slot))

end Sys2Proof.Machine
end

