-- ==== Sys2Proof/Machine/CheckSections.lean ====
section
/-! DEFINITION. The consistency check, stage 3: the sections CHANNELS, MOTION, LOOPS, METERING, PROGRAM, NETWORK, SAFETY
and POWER, each by itself (R40 to R46, R126 to R129, R164, R165, R193, R194, R220, R221, R235 to R239, R321 to R323, R335,
R339, R342 to R345, R360). The SOLVER section is judged in CheckSolver. -/

namespace Sys2Proof.Machine

/-- A number within bounds. -/
def between (lo hi x : Nat) : Bool := decide (lo ≤ x) && decide (x ≤ hi)

/-! ### CHANNELS -/

/-- Range codes a function admits on IN1 (R164). -/
def in1Codes : Nat → List Nat
  | 0 => [0]
  | 4 => [1, 2, 3]
  | 5 => [1, 2, 4, 5, 6, 7]
  | 7 => [6, 7]
  | _ => [0, 4, 5, 6, 7]

/-- Whether a function admits a range code on IN2 beside that of IN1 (R164). -/
def in2Ok (fn r1 r2 : Nat) : Bool :=
  match fn with
  | 0 => r2 == 0
  | 4 => r2 == 0 || r2 == r1
  | 5 => [0, 1, 2, 4, 5, 6, 7].contains r2
  | 7 => r2 == r1
  | _ => [0, 4, 5, 6, 7].contains r2

/-- ENC_MODE values a function admits (R164). -/
def encModes : Nat → List Nat
  | 1 => [1]
  | 2 | 3 | 5 => [0, 2]
  | 6 => [1, 2, 3]
  | 7 => [2, 3]
  | _ => [0]

/-- Outputs a function uses (R41). -/
def outputsOf : Nat → Nat
  | 1 => 1
  | 2 => 2
  | 3 => 4
  | _ => 0

/-- Output codes a function admits, NONE apart (R41). -/
def outCodes : Nat → List Nat
  | 1 => [1, 2]
  | 2 => [1, 2, 5, 6]
  | 3 => [1, 3, 4]
  | _ => []

/-- Whether a channel's currents are as R40 and R165 ask. -/
def currentsOk (c : ChanCfg) : Bool :=
  if c.function = 1 ∨ c.function = 2 then
    between 50 1000 c.runCurrent && decide (c.holdCurrent ≤ c.runCurrent) && (c.function == 1 || c.holdCurrent == 0)
  else c.runCurrent == 0 && c.holdCurrent == 0

/-- Whether a channel's ranges are as R164 and R165 ask. -/
def rangesOk (c : ChanCfg) : Bool :=
  (in1Codes c.function).contains c.in1Range && in2Ok c.function c.in1Range c.in2Range &&
  (if c.in1Range = 0 ∧ c.in2Range = 0 then c.rangeLo == 0 && c.rangeHi == 0 else decide (c.rangeLo < c.rangeHi))

/-- Whether a channel's safe states are as R41 asks. -/
def safeOk (c : ChanCfg) : Bool :=
  (List.range 4).all (fun n =>
    let s := at? c.safe n 0
    if n < outputsOf c.function then (outCodes c.function).contains s else s == 0) &&
  (c.safeDriveTime != 0 || !(c.safe.contains 5 || c.safe.contains 6))

/-- Whether a channel may share its point with its forerunners: CH(2k) and CH(2k+1) of METER_CURRENT alone (R165). -/
def sharingOk (before : List ChanCfg) (n : Nat) (c : ChanCfg) : Bool :=
  let same := (before.zipIdx.filter fun x => x.1.function == c.function && x.1.point == c.point).map (·.2)
  same.isEmpty || (c.function == 4 && n % 2 == 1 && same == [n - 1])

/-- One CHANNELS item (R40, R41, R164, R165). -/
def checkChannel (v : Variant) (cs : List ChanCfg) (n : Nat) (i : Bytes) : Check :=
  let c := chanCfgOf i
  let metered := c.function == 4 || c.function == 7
  refuseIf (decide (7 < c.function) || leAt i 6 2 != 0 || !allZero (i.drop 0x18) ||
      !(encModes c.function).contains c.encMode || (!metered && c.point != 0xFFFF) || !currentsOk c) 0x0201 1 n <|>
  refuseIf (!rangesOk c) 0x0204 1 n <|>
  refuseIf (!safeOk c) 0x0203 1 n <|>
  refuseIf (metered && decide ((if c.function = 4 then mpCount v else hpCount v) ≤ c.point)) 0x0703 1 n <|>
  refuseIf (metered && !sharingOk (cs.take n) n c) 0x0202 1 n

/-! ### MOTION -/

/-- Whether a MOTION item's fields are as R193 and R194 ask. -/
def motionOk (i : Bytes) (m : MotionCfg) : Bool :=
  let num := m.encNum.natAbs
  between 1 20000 m.vMax && between 1 200000 m.accMax && between 1 200000 m.decMax && between 1 m.accMax m.accInit &&
  between 1 m.decMax m.decInit && decide (m.posMin < m.posMax) && between 1 32767 num && decide (1 ≤ m.encDen) &&
  between 1 32767 m.window && decide (1 ≤ m.windowUpdates) && decide (m.standstill ≤ 1) && decide (m.priority ≤ 7) &&
  allZero (i.drop 0x27) && decide (m.vMax * m.encDen ≤ 1000000 * num) &&
  decide ((m.posMax - m.posMin) * m.encDen < 2 ^ 31 * num)

/-- One MOTION item (R193, R194). -/
def checkMotion (cs : List ChanCfg) (n : Nat) (i : Bytes) : Check :=
  refuseIf (if (at? cs n {}).function = 1 then !motionOk i (motionCfgOf i) else !allZero i) 0x0502 5 n

/-! ### LOOPS -/

/-- Whether input IN1 (0) or IN2 (1) of a channel has a range, or its encoder (3) a mode. -/
def hasInput (c : ChanCfg) (n : Nat) : Bool :=
  if n = 0 then c.in1Range != 0 else if n = 1 then c.in2Range != 0 else c.encMode != 0

/-- Ranges of a slot's fields (R220, R221). -/
def loopFieldsOk (i : Bytes) (p : LoopCfg) : Bool :=
  decide (p.kind ≤ 2) && decide (p.inSrc ≤ 3) && decide (p.inCh < (if p.inSrc = 2 then 8 else 64)) &&
  decide (p.filterShift ≤ 15) && between 1 10000 p.div && decide (p.flags < 16) && decide (p.fallback ≤ 3) &&
  decide (p.eOff < p.eOn) && leAt i 0x2B 1 == 0 && allZero (i.drop 0x30) &&
  (!nbit p.flags 3 || (between 1 3600000 p.tauMs && decide (p.ambIn ≤ 1) && (!nbit p.flags 2 || decide (p.ambCh < 64))))

/-- The driven output of a SWITCH slot (R221). -/
def loopOutOk (c : ChanCfg) (p : LoopCfg) : Bool :=
  (c.function == 2 || c.function == 3) && decide (p.outCh < 64) && decide (p.outN < outputsOf c.function) &&
  (outCodes c.function).contains p.onCode && (outCodes c.function).contains p.offCode && p.onCode != p.offCode

/-- The plausibility model of a slot (R221, R226). -/
def loopModelOk (cs : List ChanCfg) (base : Nat) (p : LoopCfg) : Bool :=
  if nbit p.flags 3 then
    let a := loopA p.div p.tauMs
    decide (0 < p.rMax) && decide (0 < p.m) && decide (0 < a) && decide (a ≤ 0x10000) &&
      (!nbit p.flags 2 || hasInput (at? cs (base + p.ambCh) {}) p.ambIn)
  else
    p.k == 0 && p.tauMs == 0 && p.yAmb == 0 && p.ambCh == 0 && p.ambIn == 0 && p.m == 0 && p.rMax == 0

/-- One LOOPS item (R220, R221). -/
def checkLoop (cs : List ChanCfg) (n : Nat) (i : Bytes) : Check :=
  let p := loopCfgOf i
  let base := n / 64 * 64
  if p.kind = 0 then refuseIf (!allZero i) 0x0503 3 n
  else
    refuseIf (!loopFieldsOk i p || (p.inSrc != 2 && !hasInput (at? cs (base + p.inCh) {}) p.inSrc) ||
      (p.kind == 1 && !loopOutOk (at? cs (base + p.outCh) {}) p)) 0x0503 3 n <|>
    refuseIf (!loopModelOk cs base p) 0x0504 3 n

/-! ### METERING -/

/-- Whether a binary32 pattern is finite. -/
def finite32 (x : Nat) : Bool := x / 2 ^ 23 % 256 != 255

/-- Whether a binary32 pattern is finite and positive. -/
def positive32 (x : Nat) : Bool := finite32 x && decide (0 < x) && decide (x < 2 ^ 31)

/-- Whether a binary32 pattern is a zero. -/
def zero32 (x : Nat) : Bool := x % 2 ^ 31 == 0

/-- The METERING head (R235, R238). -/
def meteringHeadOk (h : Bytes) (c : MeteringCfg) : Bool :=
  [1, 5, 10, 15, 30, 60].contains c.demandMin && decide (-3599 ≤ c.demandOffsetS) && decide (c.demandOffsetS ≤ 3599) &&
  leAt h 7 1 == 0 && allZero (slice h 12 20) && allZero (h.drop 64)

/-- A pulse output descriptor of a point on the die whose first channel is `base` (R236, R238). -/
def pulseOk (cs : List ChanCfg) (base qtys pmax : Nat) (p : PulseCfg) : Bool :=
  if p.onCode = 0 then p.ch == 0 && p.out == 0 && p.qty == 0 && p.weight == 0
  else
    (p.onCode == 3 || p.onCode == 4) && decide (p.ch < 64) && (at? cs (base + p.ch) {}).function == 3 &&
    decide (p.out ≤ 3) && decide (p.qty < qtys) && decide (0 < p.weight) && decide (pmax ≤ 72 * p.weight)

/-- Channels and currents of an electrical point's wiring: local channel with whether its IN2 is used, numbers of the
currents and voltages used (R237). -/
def wiringOf (p : MpCfg) : List (Nat × Bool) × List Nat × List Nat :=
  let neu := nbit p.flags 0
  let nc := if neu then [3] else []
  match p.kind with
  | 1 => ([(p.ch, neu)], 0 :: nc, [0])
  | 2 => ([(p.ch, true), (p.ch + 1, neu)], [0, 1, 2] ++ nc, [0, 1, 2])
  | _ => ([(p.ch, true)], [0, 2], [0, 2])

/-- Module channels of a metered function bound to a point. -/
def boundTo (cs : List ChanCfg) (fn point : Nat) : List Nat :=
  (cs.zipIdx.filter fun x => x.1.function == fn && x.1.point == point).map (·.2)

/-- One electrical point (R236 to R238). -/
def mpOk (cs : List ChanCfg) (k : Nat) (i : Bytes) : Bool :=
  let p := mpCfgOf i
  let base := k / 32 * 64
  let bound := boundTo cs 4 k
  if p.kind = 0 then allZero i && bound.isEmpty
  else
    let w := wiringOf p
    decide (p.kind ≤ 3) && decide (p.flags < 2) && !(p.kind == 3 && nbit p.flags 0) && (p.kind != 2 || p.ch % 2 == 0) &&
    w.1.all (fun x => decide (x.1 < 64) && (at? cs (base + x.1) {}).in1Range == p.sensor &&
      ((at? cs (base + x.1) {}).in2Range != 0) == x.2) &&
    bound == w.1.map (fun x => base + x.1) && (p.nominalHz == 50 || p.nominalHz == 60) && between 1 2000000000 p.pmaxW &&
    (List.range 3).all (fun n => if w.2.2.contains n then decide (at? p.vs n 0 < 8) else at? p.vs n 0 == 0xFF) &&
    (List.range 4).all (fun n => if w.2.1.contains n then positive32 (at? p.iGain n 0)
      else zero32 (at? p.iGain n 0) && at? p.iDelay n 0 == 0) &&
    (List.range 3).all (fun n => if w.2.2.contains n then positive32 (at? p.vGain n 0)
      else zero32 (at? p.vGain n 0) && at? p.vDelay n 0 == 0) &&
    finite32 p.startI && (decide (p.startI < 2 ^ 31) || zero32 p.startI) && leAt i 0x32 2 == 0 && allZero (i.drop 0x4C) &&
    p.pulses.all (pulseOk cs base 8 p.pmaxW)

/-- One thermal point (R238, R239). -/
def hpOk (cs : List ChanCfg) (k : Nat) (i : Bytes) : Bool :=
  let p := hpCfgOf i
  let base := k / 16 * 64
  let bound := boundTo cs 7 k
  if p.kind = 0 then allZero i && bound.isEmpty
  else
    decide (p.kind ≤ 2) && decide (p.ch < 64) && bound == [base + p.ch] && decide (p.flowSide ≤ 1) &&
    decide (1 ≤ p.pulseVol) && between 100 2500 p.pressureKpa && decide (p.dtCutoffMk ≤ 5000) &&
    finite32 p.tSupOffset && finite32 p.tRetOffset && between 1 2000000000 p.pmaxW && leAt i 3 1 == 0 &&
    allZero (i.drop 0x28) && p.pulses.all (pulseOk cs base 6 p.pmaxW)

/-- The METERING section (R235 to R239). -/
def checkMetering (v : Variant) (cs : List ChanCfg) (items : List Bytes) : Check :=
  let n := mpCount v
  refuseIf (!meteringHeadOk (at? items 0 []) (meteringOf v items)) 0x0703 4 0 <|>
  firstOf (fun k i => refuseIf (if k ≤ n then !mpOk cs (k - 1) i else !hpOk cs (k - 1 - n) i) 0x0703 4 k) 1
    (items.drop 1)

/-! ### PROGRAM -/

/-- Item ranges of the four data blocks of PROGRAM: first item and number of items (R128). -/
def progBlocks (p : ProgramCfg) : List (Nat × Nat) :=
  [(p.codeItem, cdiv p.codeBytes 64), (p.instItem, cdiv p.instCount 2), (p.descItem, cdiv p.descCount 4),
    (p.constItem, cdiv p.constBytes 64)]

/-- Whether a block of items, if it has any, lies clear of items 0 to 4, of other blocks and of the section's end. -/
def blockOk (items : Nat) (others : List (Nat × Nat)) (b : Nat × Nat) : Bool :=
  b.2 == 0 || (decide (5 ≤ b.1) && decide (b.1 + b.2 ≤ items) && others.all fun o => !overlaps b.1 b.2 o.1 o.2)

/-- The item range of a task's record list. -/
def recordBlock (t : TaskCfg) : Nat × Nat := (t.recordItem, cdiv t.recordCount 32)

/-- One task entry of PROGRAM (R126 to R129). -/
def taskOk (p : ProgramCfg) (items k : Nat) (i : Bytes) : Bool :=
  let t := at? p.tasks k {}
  let others := progBlocks p ++ ((p.tasks.take k).map recordBlock)
  leAt i 6 2 == 0 && allZero (i.drop 0x24) && decide (t.processor ≤ 3) && decide (t.recordCount ≤ 4096) &&
  blockOk items others (recordBlock t) &&
  (t.periodUs == 0 ||
    (between 1000 10000000 t.periodUs && t.periodUs % 100 == 0 && between t.wcetUs (4 * t.periodUs) t.watchdogUs &&
      decide (t.entry < p.codeBytes) &&
      (p.tasks.take k).all (fun u => u.periodUs == 0 || u.processor != t.processor)))

/-- What of the block code a configured task's entry item answers for: its length, its form as seen from the task's
entry point, and templates named on a part without solver dies (R129, R163). Without a configured task the first entry
answers for the length. -/
def codeOk (v : Variant) (p : ProgramCfg) (k : Nat) : Bool :=
  let t := at? p.tasks k {}
  if t.periodUs = 0 then k != 0 || p.tasks.any (·.periodUs != 0) || decide (p.codeBytes ≤ 4194304)
  else decide (p.codeBytes ≤ 4194304) && !Config.codeMalformed p.code t.entry &&
    (v.nSd != 0 || !Config.codeNamesTemplate p.code)

/-- The PROGRAM section by itself (R128, R129, R163). The form of the block code is not in the spec: what it says is
asked of constants without a body (assumption 42). -/
def checkProgram (v : Variant) (items : List Bytes) (p : ProgramCfg) : Check :=
  let n := items.length
  let bs := progBlocks p
  refuseIf (p.codeBytes == 0 || !between 1 65536 p.instCount || !between 1 1048576 p.descCount ||
      !allZero ((at? items 0 []).drop 0x28) || decide (n < 5) ||
      !((List.range 4).all fun k => blockOk n (bs.take k) (at? bs k (0, 0)))) 0x0401 7 0 <|>
  firstOf (fun k i => refuseIf (!taskOk p n k i || !codeOk v p k) 0x0401 7 (k + 1)) 0 ((items.drop 1).take 4)

/-! ### NETWORK -/

/-- Bit time of a CAN phase in CAN clocks of 12.5 ns (R322). -/
def bitClocks (brp t1 t2 : Nat) : Nat := brp * (1 + t1 + t2)

/-- One CAN port item: those of absent ports are zero; the data-phase fields are zero in MODE 1 and in their ranges in every
other mode (R321, R323, R339). -/
def canPortOk (v : Variant) (subs : List SubCfg) (k : Nat) (i : Bytes) : Bool :=
  let p := canPortCfgOf i
  if 4 * v.nFd ≤ k then allZero i
  else
    let nb := bitClocks p.nBrp p.nTseg1 p.nTseg2
    let db := bitClocks p.dBrp p.dTseg1 p.dTseg2
    let none_ := p.dBrp == 0 && p.dTseg1 == 0 && p.dTseg2 == 0 && p.dSjw == 0
    let data := between 1 32 p.dBrp && between 2 32 p.dTseg1 && between 1 16 p.dTseg2 && between 1 16 p.dSjw &&
      decide (p.dSjw ≤ p.dTseg1) && decide (p.dSjw ≤ p.dTseg2)
    !(p.mode == 0 && subs.any fun s => s.transport == 0 && s.port == k) &&
      decide (p.mode ≤ 2) && decide (p.recovery ≤ 1) && decide (p.flags < 8) && decide (p.tdcMode ≤ 2) &&
      decide (p.tdcOffset ≤ 127) && decide (p.tdcValue ≤ 127) && allZero (i.drop 16) &&
      between 1 256 p.nBrp && between 2 256 p.nTseg1 && between 1 128 p.nTseg2 && between 1 128 p.nSjw &&
      decide (80 ≤ nb) && decide (nb ≤ 8000) && decide (p.nSjw ≤ p.nTseg1) && decide (p.nSjw ≤ p.nTseg2) &&
      !(p.tdcMode != 0 && decide (2 < p.dBrp)) &&
      (match p.mode with
        | 2 => data && decide (16 ≤ db) && decide (db ≤ nb)
        | 1 => none_
        | _ => data)

/-- One substation-table entry (R335). -/
def subOk (v : Variant) (ports : List CanPortCfg) (before : List SubCfg) (s : SubCfg) : Bool :=
  let p := at? ports s.port {}
  let inb := nbit s.dir 0
  let outb := nbit s.dir 1
  decide (s.record ≤ 4095) && !before.any (·.record == s.record) && decide (s.transport ≤ 1) && decide (s.prio ≤ 15) &&
  between 1 3 s.dir && between 1 1000 s.timeoutMs &&
  decide (s.inLen ≤ 256) && s.inLen % 4 == 0 && (inb || s.inLen == 0) &&
  decide (s.outLen ≤ 256) && s.outLen % 4 == 0 && (outb || s.outLen == 0) &&
  (if s.transport = 0 then
    decide (s.port < 4 * v.nFd) && p.mode != 1 && !(nbit p.flags 1 && outb) && s.gateway == 0
  else s.port == 0 && s.gateway != 0)

/-- The time fields of the head (R342, R345, R360). -/
def timeHeadOk (items : Nat) (h : Bytes) (n : NetworkCfg) : Bool :=
  decide (n.clockType ≤ 1) && decide (n.steerInit ≤ 1) && decide (n.flags < 4) && leAt h 0x13 1 == 0 &&
  between 100 1000000 n.switchNs && allZero (h.drop 0x1A) && decide (17 ≤ n.ptpItem) && decide (n.ptpItem + 3 ≤ items) &&
  !overlaps n.ptpItem 3 n.subItem (cdiv n.subCount 4) && nbit (at? n.doms n.steerInit {}).flags 0

/-- One Ethernet port entry (R343, R345). -/
def ethPortOk (i : Bytes) (p : EthPortCfg) : Bool :=
  decide (p.mode ≤ 3) && decide (p.ptp < 16) && between 8 30 p.prefixLen && leAt i 3 1 == 0 && decide (p.vlan < 32768)

/-- Whether two ports share an IPv4 subnet. -/
def sameSubnet (a b : EthPortCfg) : Bool :=
  let k := 2 ^ (32 - min a.prefixLen b.prefixLen)
  a.ipv4 / k == b.ipv4 / k

/-- The port item (R343, R345, R360). -/
def ethItemOk (v : Variant) (i : Bytes) (n : NetworkCfg) : Bool :=
  let two (a : Nat) : Bool :=
    let p := at? n.eth a {}
    let q := at? n.eth (a + 1) {}
    !sameSubnet p q && !(n.clockType == 0 && nbit p.ptp 0 && nbit q.ptp 0)
  ((n.eth.zipIdx.take (2 * v.nLane)).all fun x => ethPortOk (slice i (16 * x.2) 16) x.1) && two 0 &&
  (if v.nLane = 2 then two 2 else allZero (i.drop 32))

/-- Whether the ports a slot names serve it in every lane fitted: an enabled slot names one at least, of a MODE and with PTP
enabled; TRANSPORT 1 of any slot asks for an IPv4 address (R345). -/
def slotPortsOk (v : Variant) (n : NetworkCfg) (s : DomCfg) : Bool :=
  let enabled := nbit s.flags 0
  (!enabled || s.ports != 0) && (List.range (2 * v.nLane)).all fun k =>
    let p := at? n.eth k {}
    !nbit s.ports (k % 2) || ((!enabled || (p.mode != 0 && nbit p.ptp 0)) && (s.transport != 1 || p.ipv4 != 0))

/-- One domain slot item (R344, R345). -/
def domainOk (v : Variant) (n : NetworkCfg) (i : Bytes) (s : DomCfg) : Bool :=
  let rangesOk :=
    decide (s.domain ≤ 127) && decide (s.transport ≤ 1) && decide (s.sdoId < 4096) && decide (s.ports < 4) &&
    decide (-7 ≤ s.logSync) && decide (s.logSync ≤ 4) && decide (-3 ≤ s.logAnnounce) && decide (s.logAnnounce ≤ 4) &&
    decide (-7 ≤ s.logDelay) && decide (s.logDelay ≤ 6) && between 2 10 s.announceTimeout && decide (s.flags < 4) &&
    between 10 1000000 s.qualityNs && between 100 60000 s.lossMs && allZero (i.drop 0x12)
  rangesOk && slotPortsOk v n s

/-- The NETWORK section (R321 to R323, R335, R342 to R345). -/
def checkNetwork (v : Variant) (items : List Bytes) (n : NetworkCfg) : Check :=
  let h := at? items 0 []
  let count := items.length
  let subN := cdiv n.subCount 4
  let d0 := at? n.doms 0 {}
  let d1 := at? n.doms 1 {}
  let both := nbit d0.flags 0 && nbit d1.flags 0 && d0.domain == d1.domain && d0.sdoId == d1.sdoId
  refuseIf (decide (4096 ≤ leAt h 0 2) || decide (count < 17)) 0x0901 8 0 <|>
  firstOf (fun k i => refuseIf (!canPortOk v n.subs k i) 0x0901 8 (k + 1)) 0 ((items.drop 1).take 16) <|>
  refuseIf (decide (n.udpPort < 1024) || decide (4096 < n.subCount) || leAt h 6 2 != 0 ||
      (subN != 0 && (decide (n.subItem < 17) || decide (count < n.subItem + subN)))) 0x0903 8 0 <|>
  firstOf (fun k s => refuseIf (!subOk v n.ports (n.subs.take k) s) 0x0903 8 k) 0 n.subs <|>
  refuseIf (!timeHeadOk count h n) 0x0902 8 0 <|>
  refuseIf (!ethItemOk v (at? items n.ptpItem []) n) 0x0902 8 n.ptpItem <|>
  refuseIf (!domainOk v n (at? items (n.ptpItem + 1) []) d0) 0x0902 8 (n.ptpItem + 1) <|>
  refuseIf (!domainOk v n (at? items (n.ptpItem + 2) []) d1 || both) 0x0902 8 (n.ptpItem + 2)

/-! ### SAFETY and POWER -/

/-- Connectors J2 to J9 of a variant, as the bits of COMM_CONNECTORS and SENSOR_ENABLE (R42, R44). -/
def connectorMask (v : Variant) : Nat := 2 ^ (2 * v.nFd) - 1

/-- The SAFETY item (R42, R43, R64). -/
def checkSafety (v : Variant) (i : Bytes) : Check :=
  let s := safetyOf i
  refuseIf (s.quorum != v.quorum) 0x0801 9 0 <|>
  refuseIf (!(between 5 200 s.tVacant && between 100 5000 s.tSafe && between 500 60000 s.ckptPeriod &&
    between 1 86400 s.ckptAgeLimit && decide (s.ckptMaxBytes ≤ 6291456) && decide (s.commMaxAxes ≤ 64) &&
    between 1 20000 s.commMaxRate && decide (s.commMaxCurrent ≤ 1000) && decide (leAt i 5 1 < 4) && leAt i 6 2 == 0 &&
    allZero (i.drop 0x1B) && decide (s.commConnectors ≤ connectorMask v) &&
    (v.nLane != 2 || decide (s.tVacant + 300 < s.tSafe)))) 0x0802 9 0

/-- The POWER item's fields (R44, R46). -/
def checkPower (v : Variant) (i : Bytes) : Check :=
  let p := powerOf i
  refuseIf (!between 1 1200 p.pMax) 0x0601 10 0 <|>
  refuseIf (!between 1 64 p.axisBudget) 0x0501 10 0 <|>
  refuseIf (!(between 100 2000 p.pAxis && decide (p.sensorLimit ≤ 500) && decide (p.pSolver ≤ 220) &&
    (p.slvFMax == 0 || between 400 1200 p.slvFMax) && (v.nSd != 0 || (p.pSolver == 0 && p.slvFMax == 0)) &&
    between 100 1000 p.blkFMax && decide (p.sensorEnable ≤ connectorMask v) && allZero (i.drop 0x18) &&
    (p.groupOff.drop v.nFd).all (· == 0))) 0x0601 10 0

end Sys2Proof.Machine
end

