-- ==== Sys2Proof/Machine/CheckSolver.lean ====
section
/-! DEFINITION. The consistency check of the SOLVER section: each template by itself (stage 3), and memory fit, fallback
presence and deadline feasibility (stage 4) (R65 to R67, R72 to R75, R79, R80, R83, R84, R95 to R98, R103 to R105,
R124, R450). -/

namespace Sys2Proof.Machine

/-! ### Patterns -/

/-- Whether a row's columns rise strictly. -/
def rising : List Nat → Bool
  | a :: b :: t => decide (a < b) && rising (b :: t)
  | _ => true

/-- Whether row pointers never fall. -/
def falling : List Nat → Bool
  | a :: b :: t => decide (b < a) || falling (b :: t)
  | _ => false

/-- Whether a CSR pattern is well formed (R72), and symmetric where the class asks it (R73). -/
def patternOk (sym : Bool) (n nnz : Nat) (rowPtr colIdx : List Nat) : Bool :=
  rowPtr.length == n + 1 && colIdx.length == nnz && at? rowPtr 0 1 == 0 && at? rowPtr n 0 == nnz && !falling rowPtr &&
  colIdx.all (fun j => decide (j < n)) &&
  (let rows := patternRows rowPtr colIdx n
   rows.zipIdx.all fun x =>
    rising x.1 && x.1.contains x.2 && (!sym || x.1.all fun j => (at? rows j []).contains x.2))

/-- The structure fingerprint of a pattern (R74). -/
def fingerprintOf (n nnz : Nat) (rowPtr colIdx : List Nat) : Nat :=
  leNat ((sha256 (leBytes 4 n ++ leBytes 4 nnz ++ rowPtr.flatMap (leBytes 4) ++ colIdx.flatMap (leBytes 4))).take 8)

/-- The first entry of an unknown-ID map that repeats an earlier one or is not valid (R75). -/
def badId (seen : List Nat) (k : Nat) : List Nat → Option Nat
  | [] => none
  | x :: t => if x = 0xFFFFFFFF ∨ seen.contains x then some k else badId (x :: seen) (k + 1) t

/-! ### Elements and the scatter map -/

/-- Ports an element kind uses (R79). -/
def portsOf : Nat → Nat
  | 3 => 4
  | 4 | 5 | 6 => 1
  | _ => 2

/-- Where each entry of an element goes: none the right-hand side, a pair of port numbers a matrix position (R79). -/
def placesOf (kind form : Nat) : List (Option (Nat × Nat)) :=
  let pipe (a b : Nat) : List (Option (Nat × Nat)) := [some (a, a), some (b, b), some (a, b), none, none]
  match kind, form with
  | 3, 0 => pipe 0 1 ++ pipe 2 3
  | 3, _ => [some (0, 0), some (0, 1), some (1, 0), some (1, 1), some (2, 2), some (2, 3), some (3, 2), some (3, 3),
      some (1, 2), some (3, 0), none, none, none, none]
  | 4, _ | 5, _ | 6, _ => [some (0, 0), none]
  | 7, 0 => [some (0, 0), some (1, 1), some (0, 1)]
  | 7, _ => [some (0, 1), some (1, 0)]
  | _, 0 => pipe 0 1
  | _, _ => [some (0, 0), some (0, 1), some (1, 0), some (1, 1), none, none]

/-- Whether an element-list entry is as R97 lays it out. -/
def elementOk (n : Nat) (bs : Bytes) (e : Element) : Bool :=
  decide (e.kind ≤ 7) && decide (e.form ≤ 1) && leAt bs 2 2 == 0 &&
  e.ports.zipIdx.all fun x => if x.2 < portsOf e.kind then decide (x.1 < n) else x.1 == 0xFFFFFFFF

/-- The row and column of a position in CSR order. -/
def positionOf (rowPtr colIdx : List Nat) (k : Nat) : Nat × Nat :=
  (((rowPtr.drop 1).takeWhile fun p => decide (p ≤ k)).length, at? colIdx k 0)

/-- Whether a scatter entry fits what its element stamps (R80). -/
def scatterOk (t : Template) (e : Element) (place : Option (Nat × Nat)) (entry : Nat) : Bool :=
  let rhs := nbit entry 31
  let k := entry % 2 ^ 31
  decide (k < (if rhs then t.n else t.nnz)) && !(t.cls == 0 && e.form == 1) &&
  match place with
  | none => rhs || e.form != 0 || decide ((positionOf t.rowPtr t.colIdx k).1 ≤ (positionOf t.rowPtr t.colIdx k).2)
  | some (p, q) =>
    let a := at? e.ports p 0
    let b := at? e.ports q 0
    let want := if e.form = 0 then (min a b, max a b) else (a, b)
    !rhs && positionOf t.rowPtr t.colIdx k == want

/-- The entries of a map with the element and place each belongs to, in order. -/
def stampPlaces (es : List Element) : List (Element × Option (Nat × Nat)) :=
  es.flatMap fun e => (placesOf e.kind e.form).map fun p => (e, p)

/-- The first entry of a scatter map that R80 refuses. -/
def badScatter (t : Template) : Option Nat :=
  ((stampPlaces t.elements).zip t.scatter).findIdx? fun x => !scatterOk t x.1.1 x.1.2 x.2

/-! ### A template by itself -/

/-- Preconditioner codes a class admits (R65). -/
def precondsOf : Nat → List Nat
  | 0 => [0, 1, 2, 3]
  | 1 => [0, 1, 2, 4]
  | _ => [0, 1, 2, 5]

/-- Whether a data block of a number of bytes lies in the items behind the templates. -/
def dataOk (items T item bytes : Nat) : Bool := decide (T < item) && decide (item + cdiv bytes 128 ≤ items)

/-- Values per job of a value array (R73, R97). -/
def Template.valueCount (t : Template) : Nat :=
  let one (n nnz : Nat) : Nat := if t.cls = 2 then nnz else (nnz + n) / 2
  if t.kind = 2 then t.batch.foldl (fun s b => s + one b.n b.nnz) 0 else one t.n t.nnz

/-- The ranges of a template's fields, those of R67 and R97 that answer PATTERN_INVALID. A BATCH template that names the
assembly unit is refused, an OPTIMISATION one of class SPD is not (DESIGN CHOICE, assumption 49; R65). -/
def templateFieldsOk (v : Variant) (T : Nat) (i : Bytes) (t : Template) : Bool :=
  let asm := t.valueSrc == 1
  decide (t.kind ≤ 2) && decide (t.cls ≤ 2) && !(t.kind == 0 && t.cls == 1) && !(t.kind == 1 && t.cls == 2) &&
  (if v.nSd = 2 then t.homeDie == 2 || t.homeDie == 3 else t.homeDie == 2 && t.degrade == 0) && decide (t.degrade ≤ 2) &&
  (t.degrade == 1 || t.fallback == 0xFFFF) && (t.fallback == 0xFFFF || (decide (1 ≤ t.fallback) && decide (t.fallback ≤ T)) ||
    t.degrade == 1) &&
  decide (1 ≤ t.n) && decide (t.n ≤ (if t.kind = 2 then 512 else 131072)) && decide (t.nnz ≤ 2097152) &&
  decide (((1023 - 50) * 2 ^ 52 : Nat) ≤ t.tol.toNat) && decide (t.tol.toNat ≤ (1023 - 1) * 2 ^ 52) && decide (1 ≤ t.cap) &&
  [1, 2, 4, 8, 16, 32, 64].contains t.k && (if t.cls = 2 then decide (1 ≤ t.m) && decide (t.m ≤ 64) else t.m == 0) &&
  decide (t.valueSrc ≤ 1) && !(t.cls == 1 && asm) && !(t.kind == 2 && asm) &&
  (if 3 ≤ t.precond then decide (1 ≤ t.levels) else t.levels == 0) && decide (100 ≤ t.deadline) &&
  decide (t.releaseTask ≤ 3) && decide (leAt i 0x2D 1 ≤ 1) &&
  (if t.kind = 2 then decide (1 ≤ t.problems) && decide (t.problems ≤ 4096) else t.problems == 1) &&
  decide (1 ≤ t.warmNMax) && decide (t.warmNMax ≤ 131072) &&
  (asm || (t.scatterCount == 0 && t.elementCount == 0)) && allZero (i.drop 0x54)

/-- The items a template's data blocks name (R97). -/
def templateItemsOk (items T : Nat) (i : Bytes) (t : Template) : Bool :=
  let pat := leAt i 0x40 4
  let ids := leAt i 0x44 4
  let els := leAt i 0x48 4
  let sc := leAt i 0x4C 4
  let bt := leAt i 0x50 4
  let asm := t.valueSrc == 1
  (t.kind == 2 || dataOk items T pat (4 * (t.n + 1) + 4 * t.nnz)) &&
  (if t.map then dataOk items T ids (4 * t.n) else ids == 0xFFFFFFFF) &&
  (if asm then dataOk items T els (20 * t.elementCount) && dataOk items T sc (4 * t.scatterCount)
   else els == 0xFFFFFFFF && sc == 0xFFFFFFFF) &&
  (if t.kind = 2 then dataOk items T bt (32 * t.problems) else bt == 0xFFFFFFFF)

/-- The batch table of a template (R66, R97). -/
def batchOk (items T : Nat) (body i : Bytes) (t : Template) : Bool :=
  let bs := fromItem body 128 (leAt i 0x50 4)
  t.batch.zipIdx.all (fun x =>
    let b := x.1
    decide (1 ≤ b.n) && decide (b.n ≤ 512) && dataOk items T b.patternItem (4 * (b.n + 1) + 4 * b.nnz) &&
    patternOk (t.cls != 2) b.n b.nnz b.rowPtr b.colIdx && fingerprintOf b.n b.nnz b.rowPtr b.colIdx == b.fingerprint &&
    (if 3 ≤ t.precond then decide (1 ≤ b.levels) else b.levels == 0) && allZero (slice bs (32 * x.2 + 22) 10)) &&
  t.batch.length == t.problems && t.nnz == t.batch.foldl (fun s b => s + b.nnz) 0 &&
  t.n == t.batch.foldl (fun s b => max s b.n) 0 && t.fingerprint == 0

/-- One template by itself (R65 to R67, R72 to R75, R79, R80, R84, R97). BLOCK 0 with code 2, and a BLOCK that is not 0 with
another code, are refused as an invalid preconditioner (R84; DESIGN CHOICE, assumption 52). -/
def checkTemplate (v : Variant) (T : Nat) (body : Bytes) (items : List Bytes) (k : Nat) (t : Template) : Check :=
  let i := at? items k []
  let n := items.length
  refuseIf (decide (n ≤ k)) 0x0301 6 k <|>
  refuseIf (decide (t.tauExp < 10) || decide (60 < t.tauExp) || decide (5 < t.precond) ||
      (decide (t.cls ≤ 2) && !(precondsOf t.cls).contains t.precond) || decide (8 < t.block) ||
      (t.precond == 2 && t.block == 0) || (t.precond != 2 && t.block != 0)) 0x0305 6 k <|>
  refuseIf (!templateFieldsOk v T i t || !templateItemsOk n T i t) 0x0301 6 k <|>
  (if t.kind = 2 then refuseIf (!batchOk n T body i t) 0x0301 6 k
   else refuseIf (!patternOk (t.cls != 2) t.n t.nnz t.rowPtr t.colIdx ||
      fingerprintOf t.n t.nnz t.rowPtr t.colIdx != t.fingerprint) 0x0301 6 k) <|>
  (if t.map then (badId [] 0 t.idMap).bind fun b => refuseIf true 0x0301 6 b else none) <|>
  refuseIf (!((itemsOf 20 t.elementCount (fromItem body 128 (leAt i 0x48 4))).zip t.elements).all
      (fun x => elementOk t.n x.1 x.2) ||
      t.coeffCount != (if t.valueSrc = 1 then t.elements.foldl (fun s e => s + coeffsOf e.kind e.form) 0
        else t.valueCount) ||
      (t.valueSrc == 1 && t.scatterCount != (stampPlaces t.elements).length)) 0x0301 6 k <|>
  (badScatter t).bind fun b => refuseIf true 0x0301 6 b

/-- The SOLVER section, stage 3 (R97). -/
def checkTemplates (v : Variant) (body : Bytes) (items : List Bytes) (ts : List Template) : Check :=
  let h := at? items 0 []
  let T := leAt h 0 2
  refuseIf (decide (64 < T) || !allZero (h.drop 2) || decide (items.length < T + 1)) 0x0301 6 0 <|>
  firstOf (checkTemplate v T body items) 1 ts

/-! ### Memory fit -/

/-- Bytes of a preconditioner (R84). -/
def precondBytes (code block n nnz : Nat) : Nat :=
  match code with
  | 0 => 0
  | 1 => 4 * n
  | 2 => 4 * block * block * cdiv n (max 1 block)
  | _ => 8 * (nnz - n) + 4 * n + 8 * (n + 1)

/-- Working vectors of a template (R95). -/
def Template.vectors (t : Template) : Nat := 6 + (if t.cls = 0 then 5 else if t.cls = 1 then 8 else t.m + 5)

/-- The footprint F of a template (R95). -/
def Template.footprint (t : Template) : Nat :=
  if t.kind = 2 then
    t.batch.foldl (fun s b => s + 12 * b.nnz + 4 * (b.n + 1) + precondBytes t.precond t.block b.n b.nnz + 16 * b.n) 0 +
      16 * (8 * t.vectors * t.n)
  else
    12 * t.nnz + 4 * (t.n + 1) + precondBytes t.precond t.block t.n t.nnz + 4 * t.scatterCount + 8 * t.n * t.vectors +
      8 * t.n * b2n t.map

/-- Whether a template can run on a solver die with its companions there or lost: a MOVE template on either die, a FULL
template on its home die, a fallback problem on the die that is not its FULL template's home (R98, R121, R124). -/
def runsOn (ts : List Template) (k die : Nat) : Bool :=
  let t := at? ts (k - 1) {}
  match t.degrade with
  | 0 => true
  | 1 => t.homeDie == die
  | _ => ts.any fun u => u.degrade == 1 && u.fallback == k && u.homeDie != die

/-- Template indices that satisfy a condition. -/
def pick (ts : List Template) (p : Nat → Bool) : List Nat := ((List.range ts.length).map (· + 1)).filter p

/-- Whether a template's coefficient buffer exceeds its overlay (R95). -/
def Template.overlayBad (t : Template) : Bool :=
  t.valueSrc == 1 && decide (8 * t.n * (t.vectors - 4) < 8 * t.coeffCount)

/-- Memory fit of one die (R96): the template whose footprint is the largest is named. The n of a BATCH template is its N
(DESIGN CHOICE, assumption 49). -/
def checkMemory (ts : List Template) (die : Nat) : Check :=
  let ks := pick ts fun k => runsOn ts k die
  let f (k : Nat) : Nat := (at? ts (k - 1) {}).footprint
  let big := ks.foldl (fun b k => if f b < f k then k else b) (ks.headD 0)
  let rest := (ks.filter (· != big)).foldl (fun s k => s + 24 * (at? ts (k - 1) {}).n) 0
  refuseIf (!ks.isEmpty && decide (62914560 < f big + rest)) 0x0302 6 big

/-- Fallback presence (R98). -/
def checkFallback (ts : List Template) (k : Nat) (t : Template) : Check :=
  let u := at? ts (t.fallback - 1) {}
  refuseIf (t.degrade == 1 && !(decide (1 ≤ t.fallback) && decide (t.fallback ≤ ts.length) && u.degrade == 2 &&
    u.releaseTask == t.releaseTask)) 0x0304 6 k

/-! ### Proven times -/

/-- Cycle counts of one system (R103, and R104 with the rates of one engine). -/
structure Cost where
  prep : Nat
  remap : Nat
  chk : Nat
  it : Nat
  cand : Nat
  ver : Nat

/-- The cost of a system of `n` unknowns, `nnz` positions and `lv` levels under a template's method. -/
def costOf (t : Template) (batch : Bool) (n nnz lv : Nat) : Cost :=
  let rate := if batch then 48 else 768
  let lat := if batch then 8 else 300
  let pass := if batch then cdiv nnz 4 else cdiv nnz 64
  let p := precondBytes t.precond t.block n nnz
  let base := 12 * nnz + 4 * (n + 1)
  let chk := cdiv (base + 16 * n) rate + lat
  let vr := if t.cls = 0 then (2, 3) else if t.cls = 1 then (3, 2) else (2 * t.m, 2 * t.m + 1)
  { prep := match t.precond with
      | 0 => pass
      | 1 => pass + cdiv n 128
      | 2 => pass + cdiv (n * t.block * t.block) 128
      | _ => (if batch then 10 * nnz else cdiv (5 * nnz) 8) + lat * lv
    remap := if t.map then 2 * (t.warmNMax + n) else 0
    chk := chk
    it := cdiv (base + p + 8 * n * vr.1) rate + lat * vr.2 +
      (if t.cls = 2 then cdiv (cdiv (p + 8 * n * (t.m + 1)) rate) (max 1 t.m) else 0)
    cand := if t.cls = 2 then chk + cdiv (p + 8 * n * t.m) rate else chk
    ver := cdiv (base + 16 * n) 256 + 32 }

/-- Cycles of a system before verification. -/
def Cost.cycles (c : Cost) (t : Template) : Nat :=
  c.prep + c.remap + c.chk + t.cap * (c.it + cdiv c.chk t.k) + 8 * c.cand

/-- SLV cycles of a template's proven time (R103, R104). -/
def Template.cycles (t : Template) : Nat :=
  if t.kind = 2 then
    let cs := t.batch.map fun b => costOf t true b.n b.nnz b.levels
    let load (e : Nat) : Nat := (cs.zipIdx.filter fun x => x.2 % 16 == e).foldl (fun s x => s + x.1.cycles t) 0
    64 + ((List.range 16).map load).foldl max 0 + 17 + cs.foldl (fun s c => s + c.ver) 0 + 1
  else
    let c := costOf t false t.n t.nnz t.levels
    let asm := if t.valueSrc = 1 then
      cdiv t.nnz 128 + cdiv t.scatterCount 4 + (if t.cls = 0 then cdiv (t.nnz + t.n) 128 else 0) else 0
    64 + asm + c.cycles t + c.ver + 1

/-- B_in of R103, with the unknowns of all problems for the n of a BATCH template (R104; DESIGN CHOICE, assumption 52). Whether the program may ask for the ring-2 set lies in its block code, whose form the spec does not
give. -/
def Template.bytesIn (t : Template) (ring2 : Bool) : Nat :=
  let n := if t.kind = 2 then t.batch.foldl (fun s b => s + b.n) 0 else t.n
  8 * t.coeffCount + 8 * n + (if ring2 then 12 * t.warmNMax + 32 else 0)

/-- The proven time of a template in units of 1/(32 000 f) µs, at a clock of f MHz. -/
def provenTime (code : Bytes) (f k : Nat) (t : Template) : Nat :=
  32000 * f * 50 + t.bytesIn (Config.ring2Set code k) * f + 32000 * t.cycles

/-- The templates each configuration of R105 puts on a die: both dies, T0 alone, T1 alone. -/
def configurations (v : Variant) (ts : List Template) : List (List Nat) :=
  let home (die k : Nat) : Bool := (at? ts (k - 1) {}).homeDie == die && (at? ts (k - 1) {}).degrade != 2
  if v.nSd = 2 then [pick ts (home 2), pick ts (home 3), pick ts (runsOn ts · 2), pick ts (runsOn ts · 3)]
  else [pick ts fun _ => true]

/-- Deadline feasibility of the templates on one die (R105), in the order of their indices. -/
def checkDie (code : Bytes) (f : Nat) (periods : List Nat) (ts : List Template) (ks : List Nat) : Check :=
  let t (k : Nat) : Template := at? ts (k - 1) {}
  let tm (k : Nat) : Nat := provenTime code f k (t k)
  firstOf (fun _ j =>
    let d := (t j).deadline
    let b := ((ks.filter (· != j)).map tm).foldl max 0
    let q := ks.foldl (fun s i => s + cdiv d (max 1 (at? periods (t i).releaseTask 0)) * tm i) b
    refuseIf (decide (32000 * f * d < q)) 0x0303 6 j) 0 ks

/-- Deadline feasibility (R98, R103 to R105, R124, R450). -/
def checkDeadlines (v : Variant) (p : PowerCfg) (code : Bytes) (periods : List Nat) (ts : List Template) : Check :=
  let f := proofClock p
  firstOf (fun k (t : Template) =>
    refuseIf (f == 0 || decide (at? periods t.releaseTask 0 < t.deadline)) 0x0303 6 k) 1 ts <|>
  firstOf (fun _ ks => checkDie code f periods ts ks) 0 (configurations v ts)

end Sys2Proof.Machine
end

