-- ==== Sys2Proof/Machine/CheckWhole.lean ====
section
/-! DEFINITION. The consistency check, stage 4, and the check as a whole: routing and ownership, domain dependency, power,
the program's times and frames, exchange, checkpoint size, metrology seal and log (R45, R50, R130, R131, R158 to R160,
R171, R182, R264 to R266, R289, R310, R511). -/

namespace Sys2Proof.Machine

/-! ### ROUTING and ownership -/

/-- Bytes a point occupies (R130); none for a source not in the table or a record that does not exist. -/
def pointBytes (c : Conf) (r : RouteCfg) : Option Nat :=
  match r.source with
  | 0 | 1 | 2 | 3 | 4 | 16 => some 8
  | 5 => some 24
  | 6 | 18 => some 16
  | 17 => some 32
  | 7 => (c.sub r.index).map fun s => 16 + s.inLen
  | 19 => (c.sub r.index).map (·.outLen)
  | _ => none

/-- Sources of the table of R130. -/
def knownSource (n : Nat) : Bool := decide (n ≤ 7) || between 16 19 n

/-- Whether INDEX names something that provides the source (R130, R131). -/
def provides (v : Variant) (c : Conf) (r : RouteCfg) : Bool :=
  let ch := keyed c.chans r.index {}
  let slot := keyed c.loops r.index {}
  let here := decide (r.index < 64 * v.nFd)
  match r.source with
  | 0 => here && ch.in1Range != 0
  | 1 => here && ch.in2Range != 0
  | 2 => here && ch.encMode != 0
  | 3 => here && ch.function != 0
  | 4 => decide (r.index < 8 * v.nFd)
  | 5 | 17 => here && ch.function == 1
  | 6 => here && slot.kind != 0
  | 7 => (c.sub r.index).any fun s => nbit s.dir 0
  | 16 => here && (ch.function == 2 || ch.function == 3) && decide (r.sub < outputsOf ch.function)
  | 18 => here && slot.kind == 1
  | _ => (c.sub r.index).any fun s => nbit s.dir 1

/-- Outputs that loop slots own: channel, output, section and item (R182, R221). -/
def loopOwners (c : Conf) : List ((Nat × Nat) × Nat × Nat) :=
  (c.loops.filter fun x => x.2.kind == 1).map fun x => ((x.1 / 64 * 64 + x.2.outCh, x.2.outN), 3, x.1)

/-- Outputs that metering pulses own (R182, R238). -/
def pulseOwners (v : Variant) (c : Conf) : List ((Nat × Nat) × Nat × Nat) :=
  let m := c.metering.getD {}
  let of (base item : Nat) (ps : List PulseCfg) : List ((Nat × Nat) × Nat × Nat) :=
    (ps.filter fun p => p.onCode != 0).map fun p => ((base + p.ch, p.out), 4, item)
  (m.mps.zipIdx.flatMap fun x => of (x.2 / 32 * 64) (1 + x.2) x.1.pulses) ++
  (m.hps.zipIdx.flatMap fun x => of (x.2 / 16 * 64) (1 + mpCount v + x.2) x.1.pulses)

/-- Whether two entries write the same output, axis, loop slot or outgoing record (R131). -/
def sameTarget (a b : RouteCfg) : Bool := decide (16 ≤ a.source) && a.source == b.source && a.index == b.index && a.sub == b.sub

/-- Whether two entries clash in a task's image: a shared byte, or one input point twice (R131, R511). -/
def sameSpace (a b : RouteCfg) : Bool :=
  a.task == b.task &&
  ((decide (16 ≤ a.source) == decide (16 ≤ b.source) && overlaps a.offset a.bytes b.offset b.bytes) ||
   (decide (a.source < 16) && a.source == b.source && a.index == b.index))

/-- One ROUTING entry against its forerunners (R131). -/
def checkRoute (v : Variant) (c : Conf) (owned : List ((Nat × Nat) × Nat × Nat)) (rs : List RouteCfg) (items : List Bytes)
    (k : Nat) (r : RouteCfg) : Check :=
  let i := at? items k []
  let t := c.task r.task
  let before := rs.take (k - 1)
  let room := if r.source < 16 then t.snapshotBytes else t.publishBytes
  refuseIf (!knownSource r.source || decide (3 < r.task) || t.periodUs == 0 || (r.source != 16 && r.sub != 0) ||
      decide (3 < r.sub) || leAt i 3 1 != 0 || leAt i 6 2 != 0) 0x0403 2 k <|>
  refuseIf ((pointBytes c r).any (· != r.bytes) || r.offset % 8 != 0 || decide (room < r.offset + r.bytes) ||
      before.any (sameSpace r)) 0x0403 2 k <|>
  refuseIf (r.source == 7 && !t.records.contains r.index) 0x0403 2 k <|>
  refuseIf (!provides v c r) 0x0201 2 k <|>
  refuseIf (before.any (sameTarget r) || (r.source == 16 && owned.any fun o => o.1 == (r.index, r.sub))) 0x0202 2 k

/-- The ROUTING section (R130, R131). -/
def checkRouting (v : Variant) (c : Conf) (items : List Bytes) : Check :=
  let h := at? items 0 []
  let n := leAt h 0 4
  let owned := loopOwners c ++ pulseOwners v c
  let listed (t r : Nat) : Bool := c.routes.any fun x => x.source == 7 && x.task == t && x.index == r
  refuseIf (decide (262144 < n) || items.length != n + 1 || !allZero (h.drop 4)) 0x0403 2 0 <|>
  firstOf (checkRoute v c owned c.routes items) 1 c.routes <|>
  refuseIf ((List.range 4).any fun t => (c.task t).periodUs != 0 && (c.task t).records.any fun r => !listed t r) 0x0403 2 0

/-- A second owner among loop slots and pulse outputs (R182). -/
def checkOwners (v : Variant) (c : Conf) : Check :=
  let os := loopOwners c ++ pulseOwners v c
  firstOf (fun k (o : (Nat × Nat) × Nat × Nat) => refuseIf ((os.take k).any fun x => x.1 == o.1) 0x0202 o.2.1 o.2.2) 0 os

/-! ### Domains and power -/

/-- Domain dependency of one channel (R44, R171, R444). -/
def checkDomain (p : PowerCfg) (n : Nat) (c : ChanCfg) : Check :=
  let off := at? p.groupOff (n / 64) 0
  let g := n % 64 / 8
  let usesIn := c.in1Range != 0 || c.in2Range != 0
  refuseIf ((usesIn && nbit off g) || (outputsOf c.function != 0 && nbit off (8 + g)) ||
      ((c.in1Range == 5 || c.in2Range == 5) && !nbit p.sensorEnable (n / 32))) 0x0602 1 n

/-- Power in mW that R45 computes for an axis budget. -/
def powerNeed (v : Variant) (p : PowerCfg) (budget : Nat) : Nat :=
  let sensors := ((List.range 8).filter fun k => nbit p.sensorEnable k).length
  budget * p.pAxis + v.nSd * p.pSolver * 100 + sensors * 5 * p.sensorLimit + 27000

/-- Power and axis budget (R45, R53). -/
def checkBudget (v : Variant) (p : PowerCfg) : Check :=
  let fits (b : Nat) : Bool := decide (powerNeed v p b ≤ p.pMax * 100)
  if fits p.axisBudget then none else refuseIf true (if fits 48 then 0x0501 else 0x0601) 10 0

/-! ### The program -/

/-- U_i of R134 and C_X of R160, in units of 1/16 000 µs, from a count of bytes and the fixed microseconds. -/
def copyTime (us bytes : Nat) : Nat := us * 16000 + bytes

/-- Predicted overrun of a task, with the carry-over of an exchange where there is one (R129, R158). -/
def overrunBad (extra : Nat) (t : TaskCfg) : Bool :=
  t.periodUs != 0 && decide (16000 * t.periodUs < extra + 16000 * t.wcetUs + copyTime 4 t.publishBytes)

/-- A field descriptor within its frame (R142). -/
def descOk (p : ProgramCfg) (i : InstCfg) (before : List FieldDesc) (d : FieldDesc) : Bool :=
  let size := typeSize d.type
  let al := if 8 ≤ size then 8 else size
  decide (0 < size) && d.fieldId != 0xFFFFFFFF && !before.any (·.fieldId == d.fieldId) && decide (1 ≤ d.count) &&
  decide (d.flags < 2) && d.offset % max 1 al == 0 && decide (d.offset + d.count * size ≤ i.frameBytes) &&
  (if nbit d.flags 0 then decide (d.initOffset + d.count * size ≤ p.constBytes) else d.initOffset == 0)

/-- Whether a field of a frame that both programs have changes its type (R159). -/
def typeChanged (old : ProgramCfg) (i : InstCfg) (d : FieldDesc) : Bool :=
  (old.insts.find? (·.instId == i.instId)).any fun o =>
    ((old.descsOf o).find? (·.fieldId == d.fieldId)).any fun f => f.type != d.type

/-- One entry of the frame table (R128, R129, R142, R159); its 32 bytes are given for the reserved ones. -/
def checkInst (old : Option ProgramCfg) (p : ProgramCfg) (k : Nat) (x : InstCfg × Bytes) : Check :=
  let i := x.1
  let before := p.insts.take k
  let ds := p.descsOf i
  refuseIf (decide (3 < i.ownerTask) || !allZero (slice x.2 9 3) || leAt x.2 28 4 != 0 || i.frameOffset % 8 != 0 ||
      decide (p.instBytes < i.frameOffset + i.frameBytes) || before.any (·.instId == i.instId) ||
      before.any (fun j => overlaps i.frameOffset i.frameBytes j.frameOffset j.frameBytes) ||
      decide (p.descCount < i.descFirst + i.descCount) || ds.length != i.descCount ||
      !(ds.zipIdx.all fun y => descOk p i (ds.take y.2) y.1) ||
      old.any (fun o => ds.any (typeChanged o i))) 0x0403 7 k

/-- Predicted overrun and frame layout (R129). An INSTANCE_BYTES too large is named by the first frame that ends past the
limit, else by the first. -/
def checkLayout (old : Option ProgramCfg) (p : ProgramCfg) (items : List Bytes) : Check :=
  let table := (items.drop p.instItem).flatMap fun i => [i.take 32, i.drop 32]
  firstOf (fun k t => refuseIf (overrunBad 0 t) 0x0402 7 k) 1 p.tasks <|>
  refuseIf (decide (4194304 < p.instBytes)) 0x0403 7
    ((p.insts.findIdx? fun i => decide (4194304 < i.frameOffset + i.frameBytes)).getD 0) <|>
  firstOf (checkInst old p) 0 (p.insts.zip table)

/-- Whether a changed PROGRAM may be exchanged (R158, R161). -/
def checkExchange (running : Bool) (old : Option Conf) (p : ProgramCfg) : Check :=
  let o := (old.map Conf.prog).getD {}
  refuseIf (running && decide (10000000 < (old.getD {}).commonUs)) 0x0404 7 noIndex <|>
  refuseIf (decide (12582912 < o.codeBytes + p.codeBytes + o.instBytes + p.instBytes)) 0x0404 7 noIndex <|>
  (if running then firstOf (fun k t => refuseIf (overrunBad (copyTime 2 p.instBytes) t) 0x0404 7 k) 1 p.tasks else none)

/-! ### Metrology -/

/-- The METERING body a lane in BLANK counts as active: zeros (R310, R319). -/
def blankMetering (v : Variant) : Bytes := List.replicate (128 * (1 + mpCount v + hpCount v)) 0

/-- Whether a changed METERING section carries a valid seal authorisation (R264). `carries0` says that the image gives
item 0. -/
def sealValid (slots : List KeySlot) (sealCount : Nat) (carries0 : Bool) (body : Bytes) : Bool :=
  let s := at? slots (leAt body 4 1) {}
  let n := leAt body 0 4
  let msg := fitTo 16 Config.serial ++ leBytes 4 n ++ slice body 0 32 ++ List.replicate 32 0 ++ body.drop 64
  carries0 && n == sealCount + 1 && nbit s.attr 0 && nbit s.attr 7 && !s.isDead &&
  match s.key with
  | some k => hmac k msg == slice body 32 32
  | none => false

/-- The use of the seal slot that the test of an authorisation makes, where it comes to its MAC (R264, R430). -/
def sealUses (slots : List KeySlot) (sealCount : Nat) (carries0 : Bool) (body : Bytes) : List (Nat × Nat) :=
  let n := leAt body 4 1
  if carries0 && leAt body 0 4 == sealCount + 1 && nbit (at? slots n {}).attr 7 then [(n, 0)] else []

/-! ### The check as a whole -/

/-- What a check finds: its refusal if it has one, and the candidate. -/
structure Verdict where
  refusal : Check := none
  /-- configuration digest of the composed image, once stage 1 has passed -/
  digest : Option Bytes := none
  stage : Nat := 1
  bodies : Bodies := []
  conf : Conf := {}
  meteringChanged : Bool := false
  sealOk : Bool := false
  programChanged : Bool := false
  /-- uses of the key store that the check makes: slot and attribute bit (R430) -/
  uses : List (Nat × Nat) := []

/-- Stage 3, in the order of R50. -/
def stage3 (v : Variant) (b : Bodies) (c : Conf) : Check :=
  let it := Bodies.items b
  let cs := c.chans.map (·.2)
  firstOf (checkChannel v cs) 0 (it 1) <|> firstOf (checkMotion cs) 0 (it 5) <|> firstOf (checkLoop cs) 0 (it 3) <|>
  checkMetering v cs (it 4) <|> checkTemplates v (keyed b 6 []) (it 6) c.templates <|> checkProgram v (it 7) c.prog <|>
  checkNetwork v (it 8) (c.network.getD {}) <|> checkSafety v (at? (it 9) 0 []) <|> checkPower v (at? (it 10) 0 [])

/-- Stage 4 up to the mirror check, in the order of R50. -/
def stage4 (e : CheckEnv) (b : Bodies) (c : Conf) (metChanged sealOk progChanged : Bool) : Check :=
  let v := e.variant
  let it := Bodies.items b
  let periods := c.prog.tasks.map (·.periodUs)
  let oldProg := if progChanged then e.activeConf.map Conf.prog else none
  checkRouting v c (it 2) <|> checkOwners v c <|>
  firstOf (checkDomain c.power) 0 (c.chans.map (·.2)) <|> checkBudget v c.power <|>
  firstOf (fun _ d => checkMemory c.templates d) 0 ((List.range v.nSd).map (2 + ·)) <|>
  firstOf (fun k t => if t.overlayBad then refuseIf true 0x0302 6 k else none) 1 c.templates <|>
  firstOf (checkFallback c.templates) 1 c.templates <|>
  checkDeadlines v c.power c.prog.code periods c.templates <|>
  checkLayout oldProg c.prog (it 7) <|>
  (if progChanged then checkExchange e.running e.activeConf c.prog else none) <|>
  refuseIf (v.nLane == 2 && decide (c.safety.ckptMaxBytes < 128 + c.prog.instBytes + 16384 + 131072)) 0x0403 9 noIndex <|>
  refuseIf (metChanged && !sealOk && !e.commission) 0x0701 4 0 <|>
  refuseIf (metChanged && decide (e.mlogFree < 65)) 0x0702 4 noIndex

/-- Whether an image gives item 0 of METERING, or is full. -/
def carriesHead (i : RawImage) : Bool := i.secs.any fun s => s.id == 4 && s.first == 0 && decide (0 < s.count)

/-- The consistency check of a shadow's bytes up to the mirror check (R50, R51). -/
def consistency (e : CheckEnv) (bs : Bytes) : Verdict :=
  let i := rawImage bs
  match stage1 e bs i with
  | some r => { refusal := some r }
  | none =>
    let b := composeOver (if i.kind = 0 then [] else e.active.getD []) i
    let digest := digestField (canonical i b)
    let uses := stage2Uses e i b
    match stage2 e i b with
    | some r => { refusal := some r, digest := some digest, stage := 2, uses := uses }
    | none =>
      let c := confOf e.variant i digest b
      match stage3 e.variant b c with
      | some r => { refusal := some r, digest := some digest, stage := 3, uses := uses }
      | none =>
        let oldMet := match e.active with
          | some a => keyed a 4 []
          | none => blankMetering e.variant
        let met := keyed b 4 []
        let metChanged := met != oldMet
        let ok := !e.trng && sealValid e.slots e.sealCount (carriesHead i) met
        let prog := match e.active with
          | some a => keyed a 7 [] != keyed b 7 []
          | none => true
        let refusal := stage4 e b c metChanged ok prog
        let judged := refusal.all fun r => r.code == 0x0701 || r.code == 0x0702
        let sealed_ := if metChanged && judged then sealUses e.slots e.sealCount (carriesHead i) met else []
        { refusal := refusal, digest := some digest, stage := 4, bodies := b, conf := c
          meteringChanged := metChanged, sealOk := metChanged && ok, programChanged := prog, uses := uses ++ sealed_ }

end Sys2Proof.Machine
end

