-- ==== Sys2Proof/Machine/Recorder.lean ====
section
/-! DEFINITION. The event recorder: the records, the general ring, the metrology log, rate limits, freezes and the
read window (R384 to R401). -/

namespace Sys2Proof.Machine

/-- A record's 32 bytes (R384). -/
def EvRec.bytes (r : EvRec) (seq : Nat) : Bytes :=
  let t := leBytes 4 seq ++ leBytes 2 r.code ++ leBytes 1 r.source ++ leBytes 1 r.flags ++ leBytes 4 r.opsec ++
    leBytes 3 r.pcc ++ [0] ++ leBytes 4 r.p0 ++ leBytes 4 r.p1 ++ leBytes 4 r.p2
  t ++ leBytes 4 (crc32 t)

/-- Whether 32 bytes are a valid record (R374, R384). -/
def evValid (n : Nvm) (a : Nat) (bs : Bytes) : Bool :=
  n.readable a 32 && !allZero bs && leAt bs 28 4 == crc32 (bs.take 28)

/-- Address of the ring record with a sequence number (R388). -/
def ringAddr (seq : Nat) : Nat := ringBase + 32 * (seq % 65536)

/-- Slots of a region of 32-byte records that hold a byte other than 0, lowest first. -/
def usedSlots (mem : Mem) (base count : Nat) : List Nat :=
  ((mem.filter fun c => base ≤ c.1 && c.1 < base + 32 * count).map fun c => (c.1 - base) / 32).dedup

/-- The newest sequence number of a list, or a default. -/
def newestSeq (d : Nat) : List Nat → Nat
  | [] => d
  | s :: t => t.foldl (fun a b => if newer b a then b else a) s

/-- The oldest sequence number of a list, or a default. -/
def oldestSeq (d : Nat) : List Nat → Nat
  | [] => d
  | s :: t => t.foldl (fun a b => if newer a b then b else a) s

/-- HEAD and TAIL as the recorder reads them from the ring at a lane's start (R389). -/
def scanRing (n : Nvm) (mem : Mem) : Nat × Nat :=
  let slots := usedSlots mem ringBase 65536
  let seqs := slots.filterMap fun k =>
    let bs := Memory.reads mem (ringBase + 32 * k) 32
    if evValid n (ringBase + 32 * k) bs && leAt bs 0 4 % 65536 == k then some (leAt bs 0 4) else none
  if seqs.isEmpty then (0, 1)
  else
    let h := newestSeq 0 seqs
    let lowest := (h + 2 ^ 32 - 65535) % 2 ^ 32
    (h, oldestSeq h (seqs.filter fun s => s == lowest || newer s lowest))

/-- The metrology log as the recorder reads it at a start: slots in use, newest and oldest SEQ, damaged slots
(R390). -/
def scanMlog (n : Nvm) (mem : Mem) : Nat × Nat × Nat × List Nat :=
  let slots := usedSlots mem mlogBase 4096
  let used := slots.foldl (fun a k => max a (k + 1)) 0
  let rd (k : Nat) := Memory.reads mem (mlogBase + 32 * k) 32
  let good := slots.filter fun k => evValid n (mlogBase + 32 * k) (rd k)
  let seqs := good.map fun k => leAt (rd k) 0 4
  (used, newestSeq 0 seqs, oldestSeq 1 seqs, slots.filter fun k => !good.contains k)

/-- The metrology-loss block's body: the damaged slots found and MTR_MLOG_LOST (R362). Layout: assumption 10. -/
def lossBody (L : Lane) : Bytes := leBytes 4 L.evr.damaged ++ leBytes 4 L.mtr.mlogLost

/-- Metrology events lost, counted in MTR_MLOG_LOST and written into the loss block (R266, R390). -/
def mlogLose (st : Store) (l : LaneId) (n : Nat) (m : Module) : Module :=
  if n = 0 then m
  else
    let m := m.updLane l fun L => { L with mtr := { L.mtr with mlogLost := sat 0xFFFF (L.mtr.mlogLost + n) } }
    writeBlock .recorder st l lossBase lossType (lossBody (m.lane l)) m

/-- Codes for which the last 64 records of the metrology log are kept (R266). -/
def usesReserve (code : Nat) : Bool := code == 0x5802 || code == 0x5805 || code == 0x5803

/-- Free records of the metrology log. -/
def Evr.mFree (e : Evr) : Nat := 4096 - e.mUsed

/-- Whether the metrology log has a record for a code (R266). -/
def Evr.mRoom (e : Evr) (code : Nat) : Bool := if usesReserve code then decide (0 < e.mFree) else decide (64 < e.mFree)

/-- A record of 32 bytes put into the lowest free slot of the metrology log (R390). -/
def mlogPut (st : Store) (l : LaneId) (seq : Nat) (bs : Bytes) (m : Module) : Module :=
  let e := (m.lane l).evr
  let m := mramWrite .recorder st l (mlogBase + 32 * e.mUsed) bs m
  let m := m.updLane l fun L => { L with evr := { L.evr with
    mUsed := L.evr.mUsed + 1
    mHead := if L.evr.mHead = 0 || newer seq L.evr.mHead then seq else L.evr.mHead
    mTail := if L.evr.mHead = 0 then seq else L.evr.mTail } }
  let m := if (m.lane l).evr.mFree < 65 then raise l 9 0x20 m else m
  raise l 14 4 m

/-- A metrology record written under the lane's next metrology SEQ, or counted as lost (R266, R391). -/
def mlogWrite (st : Store) (l : LaneId) (r : EvRec) (m : Module) : Module :=
  let e := (m.lane l).evr
  if e.mRoom r.code then
    let seq := nextSeq e.mHead
    mlogPut st l seq (r.bytes seq) m
  else mlogLose st l 1 m

/-- A general record written to the ring under the next sequence (R388). -/
def ringWrite (st : Store) (l : LaneId) (r : EvRec) (m : Module) : Module :=
  let e := (m.lane l).evr
  let empty := e.head = 0 && e.tail = 1
  let seq := if empty then 1 else nextSeq e.head
  let tail := if empty then 1
    else if (seq + 2 ^ 32 - e.tail) % 2 ^ 32 ≥ 65536 then (seq + 2 ^ 32 - 65535) % 2 ^ 32 else e.tail
  let m := mramWrite .recorder st l (ringAddr seq) (r.bytes seq) m
  m.updLane l fun L => { L with evr := { L.evr with head := seq, tail := tail } }

/-- A record bound for a frozen ring: held, or lost and counted (R397). -/
def holdRecord (l : LaneId) (r : EvRec) (m : Module) : Module :=
  if (m.lane l).evr.held.length < 256 then
    m.updLane l fun L => { L with evr := { L.evr with held := L.evr.held ++ [{ r with flags := r.flags ||| 4 }] } }
  else
    raise l 14 1 (m.updLane l fun L => { L with evr := { L.evr with
      holdOverflow := sat 0xFFFF (L.evr.holdOverflow + 1), holdLostNow := L.evr.holdLostNow + 1 } })

/-- A lane can program its logs: SYS or NVM is ON. -/
def Lane.nvmOn (L : Lane) : Bool := L.sysOn || (at? L.pwr.doms 16 {}).state == .on

/-- The records that wait for a lane's recorder beside the held ones: those of its always-on store, then the intake queue
(R394). -/
def Evr.queue (e : Evr) : List EvRec := e.aoStore ++ e.intake

/-- The first waiting record taken. -/
def Evr.next (e : Evr) : Evr :=
  match e.aoStore with
  | [] => { e with intake := e.intake.tail }
  | _ :: rest => { e with aoStore := rest }

/-- Whether a lane's recorder can program: its logs have been read, its NVM path is ON, HOLDUP_OK is set and no shutdown
runs in the module (R302, R317, R389, R396). -/
def Module.canRecord (m : Module) (l : LaneId) : Bool :=
  let L := m.lane l
  L.evr.known && L.nvmOn && L.sys.holdupOk && m.supplyGood &&
    !(L.sys.phase == .stopped || L.sys.phase == .off) && m.laneList.all fun k => (m.lane k).sys.phase != .saving

/-- EVENT_RECORD_WRITTEN: the recorder writes the next record: held records first once no freeze is in force, then those
that wait, in order; a metrology record goes to the metrology log, which the active lane alone continues, and is never
held (R385, R386, R391, R394, R397). While a final save runs only its lane's metrology records are written (R396). -/
def eventRecordWrittenBody (l : LaneId) (st : Store) (m : Module) : Module :=
  let e := (m.lane l).evr
  let down := (m.lane l).sys.phase == .saving
  if !(m.canRecord l || down) then m
  else
    match (if e.frozen || down then [] else e.held), e.queue with
    | r :: rest, _ => ringWrite st l r (m.updLane l fun L => { L with evr := { L.evr with held := rest } })
    | [], [] => m
    | [], r :: _ =>
      let next := m.updLane l fun L => { L with evr := L.evr.next }
      if isMetrology r.code then (if (m.lane l).red.holds then mlogWrite st l r next else m)
      else if down then next
      else if e.frozen then holdRecord l r next
      else ringWrite st l r next

/-- EVENT_REPORTED: a subsystem of a die reports an event to the lane's recorder; SOURCE names the die and the block
(R384, R394, R395). -/
def eventReportedBody (l : LaneId) (code source p0 p1 p2 : Nat) (_ : Store) (m : Module) : Module :=
  let die := source / 32 % 8
  let block := source % 32
  if code ≥ 65536 then m
  else if die ≥ 4 then reportFd (die - 4) block code p0 p1 p2 m
  else if die ≥ 2 then reportSd (die - 2) block code p0 p1 p2 m
  else if die = l.num then report l block code p0 p1 p2 m
  else m

/-- BUCKET_REFILL: 1 000 ms after the last one a code's bucket gains a token; suppressed records of the code are
summarised (R392). -/
def bucketRefillBody (l : LaneId) (code : Nat) (_ : Store) (m : Module) : Module :=
  let L := m.lane l
  if !L.evr.buckets.any (·.code == code) then m
  else
    let b := L.evr.bucket code
    let due := b.refillAt + 1000000000
    let m := clockTo due m
    let b' : Bucket := { b with tokens := min 16 (b.tokens + 1), suppressed := 0, refillAt := due }
    let m := m.updLane l fun L => { L with evr := L.evr.setBucket b' }
    if b.suppressed = 0 then m
    else
      let r : EvRec := { code := 0x0101, source := 32 * l.num + 14, flags := m.recFlags l 0x0101 2,
                         opsec := L.sys.opsec, pcc := L.sys.pcc, p0 := code, p1 := b.suppressed, p2 := b.firstOpsec }
      m.updLane l fun L => { L with evr := L.evr.enqueue (!L.sysOn) r }

/-- EVR_FREEZE_SET: an ordinary reader's view sets its own freeze bit (R397). -/
def evrFreezeSetBody (l : LaneId) (v : View) (_ : Store) (m : Module) : Module :=
  guardWrite l v (fun m => m.updLane l fun L =>
    let e := L.evr
    let e := if e.frozen then e else { e with freezeAt := m.now, freezeBits := 0, holdLostNow := 0 }
    let e := match v with
      | .host => { e with freezeHost := some (e.freezeHost.getD m.now), freezeBits := e.freezeBits ||| 1 }
      | .fw => { e with freezeFw := some (e.freezeFw.getD m.now), freezeBits := e.freezeBits ||| 2 }
    { L with evr := e }) m

/-- The end of a freeze: once no bit is set, one EVR_HOLD_OVERFLOW follows the held records if any was lost
(R397). -/
def thaw (l : LaneId) (m : Module) : Module :=
  let L := m.lane l
  let e := L.evr
  if e.frozen || e.holdLostNow = 0 then m
  else
    let b := e.bucket 0x0102
    m.updLane l fun L =>
      if b.tokens = 0 then
        let e' := L.evr.suppress 0x0102 L.sys.opsec
        { L with evr := { e' with holdLostNow := 0 } }
      else
        let r : EvRec := { code := 0x0102, source := 32 * l.num + 14, flags := m.recFlags l 0x0102 0,
                           opsec := L.sys.opsec, pcc := L.sys.pcc, p0 := e.holdLostNow,
                           p1 := (m.now - e.freezeAt) / 1000000, p2 := e.freezeBits }
        let e' := L.evr.setBucket (b.spend m.now)
        { L with evr := { e' with held := e'.held ++ [r], holdLostNow := 0 } }

/-- EVR_FREEZE_CLEAR: a view clears its own freeze bit (R397). -/
def evrFreezeClearBody (l : LaneId) (v : View) (_ : Store) (m : Module) : Module :=
  guardWrite l v (fun m =>
    if !(m.lane l).evr.frozen then m
    else thaw l (m.updLane l fun L => match v with
      | .host => { L with evr := { L.evr with freezeHost := none } }
      | .fw => { L with evr := { L.evr with freezeFw := none } })) m

/-- FREEZE_TIMEOUT: a freeze bit left set for 2 000 ms is cleared and recorded (R397). -/
def freezeTimeoutBody (l : LaneId) (bit : Nat) (_ : Store) (m : Module) : Module :=
  let e := (m.lane l).evr
  match (if bit = 0 then e.freezeHost else e.freezeFw) with
  | none => m
  | some t =>
    if bit > 1 then m
    else
      let m := (clockTo (t + 2000000000) m).updLane l fun L =>
        if bit = 0 then { L with evr := { L.evr with freezeHost := none } }
        else { L with evr := { L.evr with freezeFw := none } }
      report l 14 0x0103 bit 0 0 (raise l 14 2 (thaw l m))

/-- EVR_RD_DATA_READ: the read of the first data word reads the selected record and latches its other words and the
status (R388, R397). -/
def evrRdDataReadBody (l : LaneId) (v : View) (st : Store) (m : Module) : Module :=
  guardRead l v (fun m =>
    let s := m.sel l v
    let n := (m.lane l).nvm
    let log := bitOf s.evrCtrl 0
    let pos := s.evrPos.toNat
    let out := log && decide (pos > 4095)
    let a := if log then mlogBase + 32 * pos else ringAddr pos
    let bs := if out then List.replicate 32 0 else Memory.reads (st.mram l) a 32
    let ok := !out && evValid n a bs && (log || leAt bs 0 4 == pos)
    let m := if out then m else nvmRead l a 32 m
    let m := forEach (List.range 7) (fun k m => latchWord l v (0xE0044 + 4 * k) (word (leAt bs (4 * k + 4) 4)) m) m
    let m := m.updLane l fun L => { L with evr := { L.evr with
      rdValid := upd L.evr.rdValid (viewIdx v) fun _ => ok
      rdEmpty := upd L.evr.rdEmpty (viewIdx v) fun _ => !out && allZero bs } }
    onBus (word (leAt bs 0 4)) m) m

/-- The recorder's part of a lane's start: HEAD and TAIL of the ring, the metrology log, and the newly damaged slots
(R389, R390). The newly found slots are recorded once the lane's intake runs. -/
def recorderStart (st : Store) (l : LaneId) (m : Module) : Module :=
  let n := (m.lane l).nvm
  let mem := st.mram l
  let ht := scanRing n mem
  let ml := scanMlog n mem
  let loss := (readBlock n mem lossBase lossType).map fun r => (leAt r.2.2 16 4, leAt r.2.2 20 4)
  let d0 := (loss.map (·.1)).getD 0
  let lost := (loss.map (·.2)).getD 0
  let fresh := ml.2.2.2.drop d0
  let m := nvmRead l mlogBase 0x20000 (nvmRead l ringBase 0x200000 m)
  let m := m.updLane l fun L => { L with
    evr := { L.evr with head := ht.1, tail := ht.2, mUsed := ml.1, mHead := ml.2.1, mTail := ml.2.2.1,
                        damaged := max d0 ml.2.2.2.length, known := true }
    mtr := { L.mtr with mlogLost := lost } }
  let m := forEach fresh (fun k m => report l 14 0x0104 k 0 0 (raise l 14 8 m)) m
  if fresh.isEmpty then m
  else
    let m := m.updLane l fun L => { L with mtr := { L.mtr with mlogLost := sat 0xFFFF (lost + fresh.length) } }
    writeBlock .recorder st l lossBase lossType (lossBody (m.lane l)) m

/-! ## Meanings of the commands -/

/-- EVENT_RECORD_WRITTEN (R386). -/
def execEventRecordWritten (l : LaneId) (s : State) : Host.Outcome State Fault Refusal :=
  .next (commit s (eventRecordWrittenBody l))

/-- EVENT_REPORTED (R394). -/
def execEventReported (l : LaneId) (code : Nat) (source : Nat) (p0 : Nat) (p1 : Nat) (p2 : Nat) (s : State) : Host.Outcome State Fault Refusal :=
  .next (commit s (eventReportedBody l code source p0 p1 p2))

/-- BUCKET_REFILL (R392). -/
def execBucketRefill (l : LaneId) (code : Nat) (s : State) : Host.Outcome State Fault Refusal :=
  .next (commit s (bucketRefillBody l code))

/-- EVR_FREEZE_SET (R397). -/
def execEvrFreezeSet (l : LaneId) (v : View) (s : State) : Host.Outcome State Fault Refusal :=
  .next (commit s (evrFreezeSetBody l v))

/-- EVR_FREEZE_CLEAR (R397). -/
def execEvrFreezeClear (l : LaneId) (v : View) (s : State) : Host.Outcome State Fault Refusal :=
  .next (commit s (evrFreezeClearBody l v))

/-- FREEZE_TIMEOUT (R397). -/
def execFreezeTimeout (l : LaneId) (bit : Nat) (s : State) : Host.Outcome State Fault Refusal :=
  .next (commit s (freezeTimeoutBody l bit))

/-- EVR_RD_DATA_READ (R388). -/
def execEvrRdDataRead (l : LaneId) (v : View) (s : State) : Host.Outcome State Fault Refusal :=
  .next (commit s (evrRdDataReadBody l v))

end Sys2Proof.Machine
end

