-- ==== Sys2Proof/Machine/Samples.lean ====
section
/-! DEFINITION. The precision samples of a field die: clipping at the measuring limits, the metering integrator, the
windows an rms value is taken over, and the signal chain of the electrical points with the sums of the block in progress
(R167, R169, R170, R175, R240 to R243). Arithmetic in FP64, one operation after the other (assumption 48). -/

namespace Sys2Proof.Machine

/-! ### Numbers -/

/-- An integer in FP64. -/
def f64OfInt (x : Int) : Fl := pack64 (decide (x < 0)) x.natAbs 0 false

/-- A finite binary32 pattern in FP64, exactly. -/
def f64OfF32 (w : Nat) : Fl :=
  let e : Nat := w / 2 ^ 23 % 256
  let f : Nat := w % 2 ^ 23
  let p : Int := if e = 0 then -149 else (e : Int) - 150
  pack64 (nbit w 31) (if e = 0 then f else f + 2 ^ 23) p false

/-- A quantity in 10^-9 of its unit, in FP64. -/
def f64OfNano (x : Int) : Fl := (f64OfInt x).div (f64OfInt 1000000000)

/-- The magnitude of a finite FP64 value times `n / k`, rounded toward zero. -/
def f64Scale (x : F64) (n k : Nat) : Nat :=
  if 0 ≤ fPow x then fSig x * 2 ^ (fPow x).toNat * n / k else fSig x * n / (k * 2 ^ (-fPow x).toNat)

/-- A finite FP64 value times `n / k`, rounded toward zero. -/
def f64ScaleI (x : F64) (n k : Nat) : Int := if fNeg x then -(f64Scale x n k : Int) else f64Scale x n k

/-- Sum of products of taps and values, the first pair first. -/
def dotF (taps vals : List F64) : Fl := (taps.zip vals).foldl (fun a x => a.add ((fl x.1).mul (fl x.2))) (fl 0)

/-- The sampling frequency f_s of the precision decimator, Hz (R241). -/
def sampleHz : Nat := 8000

/-! ### The samples of an input -/

/-- The constant a of R241: e^(-2 pi 0.5 / 8000), rounded to FP64. -/
def integratorA : F64 := 0x3FEFFCC89CAD33AF

/-- One step of the metering integrator from the sample before and this one, in V (R241). -/
def integrate (y x0 x1 : F64) : F64 :=
  (((fl integratorA).mul (fl y)).add (((fl x1).add (fl x0)).div (f64OfInt (2 * sampleHz)))).v

/-- A sample as it is used: held at its measuring limit (R170, R240). -/
def clipSample (range : Nat) (x : Int) : Int := (clampI (rangeLimits range).1 (rangeLimits range).2 x).1

/-- Whether a sample lies beyond its measuring limit (R170). -/
def beyondLimit (range : Nat) (x : Int) : Bool := (clampI (rangeLimits range).1 (rangeLimits range).2 x).2

/-- Whether a sample reaches its measuring limit (R240). -/
def atLimit (range : Nat) (x : Int) : Bool :=
  decide (x ≤ (rangeLimits range).1) || decide ((rangeLimits range).2 ≤ x)

/-- The sensor quantity of an input: its clipped sample, or for range 2 its integrator (R169, R240). -/
def sensorValue (range : Nat) (raw : Int) (y : F64) : F64 :=
  if range = 2 then y else (f64OfNano (clipSample range raw)).v

/-- A channel after one more precision sample of each of its inputs (R167, R169, R241). -/
def Channel.sample (i : ChanCfg) (x1 x2 : Int) (c : Channel) : Channel :=
  let step (range : Nat) (x0 x : Int) (y : F64) : F64 :=
    if range = 2 then integrate y (f64OfNano (clipSample range x0)).v (f64OfNano (clipSample range x)).v else y
  let y1 := step i.in1Range c.raw1 x1 c.int1
  let y2 := step i.in2Range c.raw2 x2 c.int2
  let push (range : Nat) (x : Int) (y : F64) (w : List (F64 × Bool)) : List (F64 × Bool) :=
    if i.function = 4 then ((sensorValue range x y, beyondLimit range x) :: w).take 160 else []
  { c with raw1 := x1, raw2 := x2, int1 := y1, int2 := y2
           win1 := push i.in1Range x1 y1 c.win1, win2 := push i.in2Range x2 y2 c.win2 }

/-- Measuring limit of a voltage-sense input, 10^-9 V (R175). -/
def vsLimit : Int := 250000000000

/-- A voltage-sense input after one more precision sample (R175). -/
def VsInput.sample (x : Int) (v : VsInput) : VsInput :=
  let c := clampI (-vsLimit) vsLimit x
  { v with raw := x, win := (((f64OfNano c.1).v, c.2) :: v.win).take 160 }

/-- The rms value over a window of samples (R169, R175). -/
def rmsOf (w : List (F64 × Bool)) : F64 :=
  if w = [] then 0
  else (((w.foldl (fun a x => a.add ((fl x.1).mul (fl x.1))) (fl 0)).div (f64OfInt w.length)).sqrt).v

/-- Whether a sample of a window lay beyond its limit. -/
def anyBeyond (w : List (F64 × Bool)) : Bool := w.any (·.2)

/-! ### The filters of the metering chain -/

/-- One in the 2^-60 fixed point of the filter checks. -/
def fxOne : Int := 2 ^ 60

/-- Product in the 2^-60 fixed point. -/
def fxMul60 (a b : Int) : Int := a * b / fxOne

/-- Quotient in the 2^-60 fixed point. -/
def fxDiv60 (a b : Int) : Int := a * fxOne / b

/-- Sine and cosine of a small angle in 2^-60 rad: twenty terms of their series. -/
def sinCos60 (x : Int) : Int × Int :=
  let next (t : Int × Int × Int) (k : Nat) : Int × Int × Int :=
    let term := fxMul60 t.1 x / ((k : Int) + 1)
    match k % 4 with
    | 0 => (term, t.2.1 + term, t.2.2)
    | 1 => (term, t.2.1, t.2.2 - term)
    | 2 => (term, t.2.1 - term, t.2.2)
    | _ => (term, t.2.1, t.2.2 + term)
  ((List.range 20).foldl next (fxOne, 0, fxOne)).2

/-- The angle that a frequency in Hz turns in one sample, 2^-60 rad. -/
def tone60 (hz : Nat) : Int := 2 * 3622009729038561421 * hz / sampleHz

/-- A finite FP64 value in the 2^-60 fixed point. -/
def toFx60 (x : F64) : Int := f64ScaleI x (2 ^ 60) 1

/-- An FP64 value of a fixed-point one. -/
def ofFx60 (x : Int) : F64 := ((f64OfInt x).div (f64OfInt fxOne)).v

/-- Product of complex numbers in the fixed point. -/
def cMul60 (a b : Int × Int) : Int × Int :=
  (fxMul60 a.1 b.1 - fxMul60 a.2 b.2, fxMul60 a.1 b.2 + fxMul60 a.2 b.1)

/-- The response of a FIR filter at an angle per sample, real and imaginary part, taps newest sample first. -/
def response60 (w : Int) (taps : List F64) : Int × Int :=
  let r : Int × Int := ((sinCos60 w).2, -(sinCos60 w).1)
  let step (a : (Int × Int) × Int × Int) (t : F64) : (Int × Int) × Int × Int :=
    (cMul60 a.1 r, a.2.1 + fxMul60 (toFx60 t) a.1.1, a.2.2 + fxMul60 (toFx60 t) a.1.2)
  (taps.foldl step ((fxOne, 0), 0, 0)).2

/-- The two taps whose response at an angle is a given one, exactly. -/
def twoTaps (w : Int) (c : Int × Int) : List F64 :=
  let k := fxDiv60 (-c.2) (sinCos60 w).1
  [ofFx60 (c.1 - fxMul60 k (sinCos60 w).2), ofFx60 k]

/-- The response of a delay, in 10 ns, at NOMINAL_HZ: gain 1, and the phase that the delay is of a cycle; positive
delays (R240). -/
def delayResponse (hz : Nat) (delay : Int) : Int × Int :=
  let a := sinCos60 (2 * 3622009729038561421 * hz * delay / 100000000)
  (a.2, -a.1)

/-- Whether taps delay as R240 asks: at NOMINAL_HZ the phase is within 0.002 degrees of the delay's, and the gain is 1
within 2^-20 (assumption 48). -/
def delayMeets (hz : Nat) (delay : Int) (taps : List F64) : Bool :=
  let a := delayResponse hz delay
  let r := cMul60 (response60 (tone60 hz) taps) (a.1, -a.2)
  taps.all (fun t => fExpo t != 2047) && decide (0 < r.1) && decide ((r.2.natAbs : Int) * 100000000 ≤ r.1 * 3490) &&
  decide ((r.1 - fxOne).natAbs ≤ 2 ^ 40)

/-- Taps of the fractional-delay interpolator: the free ones where they delay as R240 asks, else the two that do so
exactly at NOMINAL_HZ (assumption 48). -/
def delayTaps (hz : Nat) (delay : Int) : List F64 :=
  if delayMeets hz delay (Config.delayTaps hz delay) then Config.delayTaps hz delay
  else twoTaps (tone60 hz) (delayResponse hz delay)

/-- What the integrator of R241 lacks at NOMINAL_HZ: 1 / (j 2 pi f) over its own response (assumption 48). -/
def rogowskiResponse (hz : Nat) : Int × Int :=
  let w := tone60 hz
  let a := toFx60 integratorA
  let h := sinCos60 (w / 2)
  (fxDiv60 (fxMul60 (fxOne + a) (fxDiv60 h.1 h.2)) w, -(fxDiv60 (fxOne - a) w))

/-- Whether taps correct the integrator at NOMINAL_HZ exactly, to one part in 2^30 (R241; assumption 48). -/
def rogowskiMeets (hz : Nat) (taps : List F64) : Bool :=
  let c := rogowskiResponse hz
  let r := response60 (tone60 hz) taps
  taps.all (fun t => fExpo t != 2047) && decide ((r.1 - c.1).natAbs ≤ 2 ^ 30) && decide ((r.2 - c.2).natAbs ≤ 2 ^ 30)

/-- Taps of the correction of the Rogowski integrator: the free ones where they correct it at NOMINAL_HZ, else the two
that do so there (R241; assumption 48). -/
def rogowskiTaps (hz : Nat) : List F64 :=
  if rogowskiMeets hz (Config.rogowskiTaps hz) then Config.rogowskiTaps hz
  else twoTaps (tone60 hz) (rogowskiResponse hz)

/-- The antisymmetric FIR of 127 taps, newest sample first, with a given half on the older side of its centre: its
phase shift is exactly 90 degrees of lag at every frequency where its gain is positive (R242). -/
def antisymmetric (half : List F64) : List F64 :=
  (half.reverse.map fun t => (fl t).neg.v) ++ [0] ++ half

/-- Whether a half of the Hilbert FIR has 63 taps and gain 1 within 0.0001 at 50 Hz and at 60 Hz (R242; assumption 48). -/
def hilbertMeets (half : List F64) : Bool :=
  let gain (hz : Nat) : Int := -2 * (response60 (tone60 hz) (0 :: half)).2
  decide (half.length = 63) && half.all (fun t => fExpo t != 2047) &&
  [50, 60].all fun hz => decide ((gain hz - fxOne).natAbs * 10000 ≤ 2 ^ 60)

/-- A half of the FIR that has this gain with two taps, 24 and 40 samples from the centre. -/
def plainHalf : List F64 :=
  (List.range 63).map fun k => if k = 23 then 0x3FC7221BCF24978F else if k = 39 then 0x3FD6A474ECC9C196 else 0

/-- The half of the Hilbert FIR: the free one where its gain is that of R242 (assumption 48). -/
def hilbertHalf : List F64 := if hilbertMeets Config.hilbertHalf then Config.hilbertHalf else plainHalf

/-- The 127 taps of the Hilbert-transform FIR, newest sample first (R242). -/
def hilbertTaps : List F64 := antisymmetric hilbertHalf

/-! ### The electrical points -/

/-- METERING head and items in a die's active bank. -/
def FieldDie.metCfg (fd : FieldDie) : MeteringCfg :=
  match fd.bank with
  | none => {}
  | some b => b.metering.getD {}

/-- Item of a local electrical point. -/
def FieldDie.mpCfg (fd : FieldDie) (d p : Nat) : MpCfg := at? fd.metCfg.mps (32 * d + p) {}

/-- Item of a local thermal point. -/
def FieldDie.hpCfg (fd : FieldDie) (d p : Nat) : HpCfg := at? fd.metCfg.hps (16 * d + p) {}

/-- The channel input, by local channel and input, of currents 1, 2, 3 and N of a point (R237). -/
def MpCfg.currents (i : MpCfg) : List (Option (Nat × Nat)) :=
  let n (c k : Nat) : Option (Nat × Nat) := if nbit i.flags 0 then some (c, k) else none
  match i.kind with
  | 1 => [some (i.ch, 0), none, none, n i.ch 1]
  | 2 => [some (i.ch, 0), some (i.ch, 1), some (i.ch + 1, 0), n (i.ch + 1) 1]
  | 3 => [some (i.ch, 0), none, some (i.ch, 1), none]
  | _ => [none, none, none, none]

/-- Phases in use by KIND (R237). -/
def phasesOf : Nat → List Nat
  | 1 => [0]
  | 2 => [0, 1, 2]
  | 3 => [0, 2]
  | _ => []

/-- The voltage-sense input of voltages 1, 2 and 3 of a point (R237). -/
def MpCfg.voltages (i : MpCfg) : List (Option Nat) :=
  (List.range 3).map fun k => if (phasesOf i.kind).contains k then i.vs[k]? else none

/-- One more sample through the chain of an input: the correction of the integrator, the gain and the delay (R240,
R241). -/
def InChain.push (hz : Nat) (rogowski : Bool) (gain : Nat) (delay : Int) (q : F64) (c : InChain) : InChain :=
  let fix := rogowskiTaps hz
  let taps := delayTaps hz delay
  let y := if rogowski then (q :: c.y).take fix.length else []
  let g := (((if rogowski then dotF fix y else fl q).mul (f64OfF32 gain)).v :: c.g).take taps.length
  { y := y, g := g, z := ((dotF taps g).v :: c.z).take 127 }

/-- The chains of a point after one more sample of each of its inputs (R237, R240). -/
def chainsNext (fd : FieldDie) (i : MpCfg) (cs : List InChain) : List InChain :=
  let current (k : Nat) (c : InChain) : InChain :=
    match at? i.currents k none with
    | none => c
    | some (n, input) =>
      let ch := at? fd.chans n {}
      let q := if input = 0 then sensorValue i.sensor ch.raw1 ch.int1 else sensorValue i.sensor ch.raw2 ch.int2
      c.push i.nominalHz (i.sensor == 2) (at? i.iGain k 0) (at? i.iDelay k 0) q
  let voltage (k : Nat) (c : InChain) : InChain :=
    match at? i.voltages k none with
    | none => c
    | some n =>
      let q := (f64OfNano (clampI (-vsLimit) vsLimit (at? fd.vs n {}).raw).1).v
      c.push i.nominalHz false (at? i.vGain k 0) (at? i.vDelay k 0) q
  cs.zipIdx.map fun x => if x.2 < 4 then current x.2 x.1 else voltage (x.2 - 4) x.1

/-- Whether a sample of an input of a point has reached its measuring limit (R240). -/
def inputClips (fd : FieldDie) (i : MpCfg) : Bool :=
  (i.currents.any fun x => match x with
    | none => false
    | some (n, input) =>
      let ch := at? fd.chans n {}
      atLimit i.sensor (if input = 0 then ch.raw1 else ch.raw2)) ||
  (i.voltages.any fun x => match x with
    | none => false
    | some n => decide (vsLimit ≤ ((at? fd.vs n {}).raw.natAbs : Int)))

/-- The group delay D of the Hilbert FIR, samples (R242). -/
def hilbertD : Nat := 63

/-- One sample added to the sums of a phase: p[n] and q[n] of the phase with the squares for its rms values (R242,
R243). -/
def PhSums.add (v i : InChain) (s : PhSums) : PhSums :=
  let vn := fl (at? v.z hilbertD 0)
  let inn := fl (at? i.z hilbertD 0)
  { p := ((fl s.p).add (vn.mul inn)).v
    q := ((fl s.q).add ((dotF hilbertTaps v.z).mul inn)).v
    v2 := ((fl s.v2).add (vn.mul vn)).v
    i2 := ((fl s.i2).add (inn.mul inn)).v }

/-- Whether the sign of a waveform changes from one sample to the next. -/
def crosses (a b : F64) : Bool := ((fl a).lt (fl 0) && (fl 0).le (fl b)) || ((fl b).lt (fl 0) && (fl 0).le (fl a))

/-- The instant of a zero crossing in 2^-32 of the sample interval, from the number of the sample that ends it, the sample
before and that sample (R243). -/
def crossingAt (x : Nat × F64 × F64) : Nat := x.1 * 2 ^ 32 + (Config.crossingPart x.2.1 x.2.2).toNat

/-- The frequency of a block, in 0.001 Hz, from the zero crossings of voltage 1: two crossings to a cycle, from the first to
the last of the block; 0 without voltage, that is with fewer than two crossings (R243; assumption 48). -/
def blockFrequency (xs : List (Nat × F64 × F64)) : Nat :=
  match xs with
  | [] => 0
  | x :: r =>
    let span := crossingAt (r.getLastD x) - crossingAt x
    if span = 0 then 0 else r.length * sampleHz * 500 * 2 ^ 32 / span

/-- An electrical point after one more sample of its inputs. A sample counts as energy unless the point settles or a
channel bound to it is under injection (R241, R243, R315). -/
def MeterPoint.sample (fd : FieldDie) (i : MpCfg) (counts : Bool) (a : MeterPoint) : MeterPoint :=
  if i.kind = 0 then a
  else
    let cs := chainsNext fd i a.chain
    let chain (k : Nat) : InChain := at? cs k {}
    let add (x : PhSums × Nat) : PhSums :=
      if (phasesOf i.kind).contains x.2 then x.1.add (chain (4 + x.2)) (chain x.2) else x.1
    let n := fl (at? (chain 3).z hilbertD 0)
    let v0 := at? (chain 4).z (hilbertD + 1) 0
    let v1 := at? (chain 4).z hilbertD 0
    { a with
      chain := cs, sums := a.sums.zipIdx.map add
      counted := if counts then a.counted.zipIdx.map add else a.counted
      n2 := ((fl a.n2).add (n.mul n)).v, nAll := a.nAll + 1, nCounted := a.nCounted + b2n counts
      clipped := a.clipped || inputClips fd i
      crossings := if crosses v0 v1 then a.crossings ++ [(a.nAll, v0, v1)] else a.crossings }

/-- The valid temperature of an RTD sample, Q16.16 (R169, R170). -/
def rtdSample (range : Nat) (x : Int) : Option Int :=
  let lim := rangeLimits range
  if 4 * x > 5 * lim.2 ∨ 2 * x < lim.1 then none else some (rtdTemp range (clipSample range x))

/-- A thermal point after one more sample of its RTDs; an open or short input holds its last valid temperature (R170,
R251). -/
def HeatPoint.sample (fd : FieldDie) (d : Nat) (i : HpCfg) (h : HeatPoint) : HeatPoint :=
  if i.kind = 0 then h
  else
    let c := fd.chanCfg d i.ch
    let ch := at? fd.chans i.ch {}
    let tS := (rtdSample c.in1Range ch.raw1).getD h.lastS
    let tR := (rtdSample c.in2Range ch.raw2).getD h.lastR
    { h with lastS := tS, lastR := tR, sumS := h.sumS + tS, sumR := h.sumR + tR, nAll := h.nAll + 1 }

/-! ### One sample of every input of a die -/

/-- Number of sample instants of a frame: the longest list of samples in it. -/
def frameSamples (x : FrameMeas) : Nat :=
  max (x.chans.foldl (fun n c => max n (max c.2.s1.length c.2.s2.length)) 0)
    (x.vs.foldl (fun n v => max n v.2.length) 0)

/-- The inputs of a die at one sample instant of a frame, with an injection in the place of the measurement (R167,
R315). -/
def sampleInputs (d : Nat) (x : FrameMeas) (k : Nat) (m : Module) : Module :=
  m.updFd d fun fd =>
    let chan (c : Channel × Nat) : Channel :=
      let i := fd.chanCfg d c.2
      let s := keyed x.chans c.2 {}
      let x1 := m.measured d c.2 0 i.in1Range ((s.s1[k]?).getD c.1.raw1)
      let x2 := m.measured d c.2 1 i.in2Range ((s.s2[k]?).getD c.1.raw2)
      if i.in1Range = 0 && i.in2Range = 0 then c.1 else c.1.sample i x1 x2
    let vs (v : VsInput × Nat) : VsInput := v.1.sample (((keyed x.vs v.2 [])[k]?).getD v.1.raw)
    { fd with chans := fd.chans.zipIdx.map chan, vs := fd.vs.zipIdx.map vs }

/-- The points of a die take the newest sample of their inputs; a die whose metering has ended takes none (R240, R251,
R260). -/
def samplePoints (d : Nat) (m : Module) : Module :=
  if (m.fd d).atRest m.supplyGood then m
  else
    m.updFd d fun fd =>
      let mp (a : MeterPoint × Nat) : MeterPoint :=
        a.1.sample fd (fd.mpCfg d a.2) (!a.1.settling && !m.injectedPoint d false a.2)
      let hp (h : HeatPoint × Nat) : HeatPoint := h.1.sample fd d (fd.hpCfg d h.2)
      { fd with mps := fd.mps.zipIdx.map mp, hps := fd.hps.zipIdx.map hp }

/-- Every sample of a frame, in its order. -/
def sampleDie (d : Nat) (x : FrameMeas) (m : Module) : Module :=
  forEach (List.range (frameSamples x)) (fun k m => samplePoints d (sampleInputs d x k m)) m

end Sys2Proof.Machine
end

