-- ==== Sys2Proof/Machine/Water.lean ====
section
/-! DEFINITION. Density and enthalpy of water by the IAPWS-IF97 region 1 equations (R251), in fixed point of 200
fraction bits. PRESUMED coefficients, assumption 21. -/

namespace Sys2Proof.Machine

/-- Scale of the water arithmetic. -/
def fxS : Int := 2 ^ 200

/-- Coefficients of region 1, first half: I, J and n as an integer over a power of ten. -/
def waterA : List (Nat × Int × Int × Nat) := [
  (0, -2, 14632971213167, 14),
  (0, -1, -84548187169114, 14),
  (0, 0, -37563603672040, 13),
  (0, 1, 33855169168385, 13),
  (0, 2, -95791963387872, 14),
  (0, 3, 15772038513228, 14),
  (0, 4, -16616417199501, 15),
  (0, 5, 81214629983568, 17),
  (1, -9, 28319080123804, 17),
  (1, -7, -60706301565874, 17),
  (1, -1, -18990068218419, 15),
  (1, 0, -32529748770505, 15),
  (1, 1, -21841717175414, 15),
  (1, 3, -52838357969930, 18),
  (2, -3, -47184321073267, 17),
  (2, 0, -30001780793026, 17),
  (2, 1, 47661393906987, 18)]

/-- Coefficients of region 1, second half. -/
def waterB : List (Nat × Int × Int × Nat) := [
  (2, 3, -44141845330846, 19),
  (2, 17, -72694996297594, 29),
  (3, -4, -31679644845054, 18),
  (3, 0, -28270797985312, 19),
  (3, 6, -85205128120103, 23),
  (4, -5, -22425281908000, 19),
  (4, -2, -65171222895601, 20),
  (4, 10, -14341729937924, 26),
  (5, -8, -40516996860117, 20),
  (8, -11, -12734301741641, 22),
  (8, -6, -17424871230634, 23),
  (21, -29, -68762131295531, 32),
  (23, -31, 14478307828521, 33),
  (29, -38, 26335781662795, 36),
  (30, -39, -11947622640071, 36),
  (31, -40, 18228094581404, 37),
  (32, -41, -93537087292458, 39)]

/-- A product in the scale. -/
def fxMul (a b : Int) : Int := fdiv (a * b) fxS

/-- A power in the scale. -/
def fxPow (a : Int) : Nat → Int
  | 0 => fxS
  | n + 1 => fxMul a (fxPow a n)

/-- A power with a signed exponent, from a number and its reciprocal. -/
def fxPowI (a inv : Int) (j : Int) : Int := if j ≥ 0 then fxPow a j.toNat else fxPow inv (-j).toNat

/-- Derivatives of the region 1 function by pressure and by temperature: gamma_pi and gamma_tau, for a temperature in
10^-6 K and a pressure in kPa. -/
def waterGamma (tK p : Int) : Int × Int :=
  let a := fdiv (71 * fxS) 10 - fdiv (p * fxS) 16530
  let b := fdiv (1386000000 * fxS) tK - fdiv (1222 * fxS) 1000
  let inv := fdiv (fxS * fxS) b
  let term (c : Nat × Int × Int × Nat) : Int × Int :=
    let n (x : Int) := fdiv (c.2.2.1 * x) (10 ^ c.2.2.2)
    (if c.1 = 0 then 0 else -(n (c.1 * fxMul (fxPow a (c.1 - 1)) (fxPowI b inv c.2.1))),
     n (c.2.1 * fxMul (fxPow a c.1) (fxPowI b inv (c.2.1 - 1))))
  (waterA ++ waterB).foldl (fun acc c => (acc.1 + (term c).1, acc.2 + (term c).2)) (0, 0)

/-- Density in kg per cubic metre, in the scale: p* / (R T gamma_pi). -/
def waterRho (tK p : Int) : Int :=
  fdiv (16530 * 1000000 * fxS * fxS * 1000000) (461526 * tK * (waterGamma tK p).1)

/-- Specific enthalpy in kJ/kg, in the scale: R T* gamma_tau. -/
def waterH (tK p : Int) : Int := fdiv (461526 * 1386 * (waterGamma tK p).2) 1000000

end Sys2Proof.Machine
end

