-- ==== Sys2Proof/Machine/Metering.lean ====
section
/-! DEFINITION. Energy and quantity metering: blocks, registers, demand, thermal points, pulse outputs, saves and the
inspector read-out (chapter 09). -/

namespace Sys2Proof.Machine

/-- Point code of a local point: TYPE 256 + INDEX (R269). -/
def pointCode (d : Nat) (thermal : Bool) (p : Nat) : Nat := if thermal then 256 + 16 * d + p else 32 * d + p

/-- The module with one electrical point changed. -/
def Module.updMp (m : Module) (d p : Nat) (f : MeterPoint → MeterPoint) : Module :=
  m.updFd d fun fd => { fd with mps := upd fd.mps p f }

/-- The module with one thermal point changed. -/
def Module.updHp (m : Module) (d p : Nat) (f : HeatPoint → HeatPoint) : Module :=
  m.updFd d fun fd => { fd with hps := upd fd.hps p f }

/-- An increment in 2^-32 units added to a register: integer part, fraction and rollover (R247, R248). -/
def MReg.add (inc : Nat) (r : MReg) : MReg × Bool :=
  let t := r.frac + inc
  let v := r.value + t / 2 ^ 32
  if v ≥ 10 ^ 18 then
    ({ value := v - 10 ^ 18, frac := t % 2 ^ 32, roll := (r.roll + 1) % 65536 }, true)
  else ({ value := v, frac := t % 2 ^ 32, roll := r.roll }, false)

/-- An increment added to a register of a point; a rollover is recorded (R248). -/
def addReg (d : Nat) (thermal : Bool) (p idx inc : Nat) (m : Module) : Module :=
  let regs := if thermal then (at? (m.fd d).hps p {}).regs else (at? (m.fd d).mps p {}).regs
  let r := (at? regs idx {}).add inc
  let m := if thermal then m.updHp d p fun h => { h with regs := upd h.regs idx fun _ => r.1 }
           else m.updMp d p fun h => { h with regs := upd h.regs idx fun _ => r.1 }
  if r.2 then reportFd d 9 0x5803 (pointCode d thermal p) idx r.1.roll m else m

/-- A finite FP64 energy in J as an increment in 2^-32 mWh, rounded toward zero: 1 mWh is 3.6 J (R247). -/
def toMwh (j : F64) : Nat := f64Scale j (10 * 2 ^ 32) 36

/-- A binary32 pattern in 10^-6 units, rounded to the nearest. -/
def f32Micro (w : Nat) : Int :=
  let x := (f64OfF32 w).v
  let v := roundDiv (f64Scale x (2 * 1000000) 1) 2
  if nbit w 31 then -v else v

/-- Energy fed to a pulse output credited up to an instant: uniform over the 200 ms after its block (R254). -/
def PulseOut.credit (t : Nat) (p : PulseOut) : PulseOut :=
  let fed := p.feed * min (t - p.feedAt) 200000000 / 200000000
  { p with residue := p.residue + (fed - p.fed), fed := fed }

/-- A block's energy handed to a pulse output: what is left of the last feed is credited, and the new feed begins. -/
def PulseOut.newFeed (t inc : Nat) (p : PulseOut) : PulseOut :=
  { p with residue := p.residue + (p.feed - p.fed), feed := inc, feedAt := t, fed := 0 }

/-- The rms value of a phase over a number of samples from the sum of its squares (R243). -/
def blockRms (sq : F64) (n : Nat) : Fl := if n = 0 then fl 0 else ((fl sq).div (f64OfInt n)).sqrt

/-- Phases of a point at or above START_I in a block (R243). -/
def phasesOn (i : MpCfg) (a : MeterPoint) : List Nat :=
  (phasesOf i.kind).filter fun k => (f64OfF32 i.startI).le (blockRms (at? a.sums k {}).i2 a.nAll)

/-- The duration T_B of a block in s, of which `n` of `of_` samples count (R243). -/
def blockT (tNs n of_ : Nat) : Fl := if of_ = 0 then fl 0 else (f64OfInt (tNs * n / of_)).div (f64OfInt 1000000000)

/-- Energies of a block in J, var s and VA s over the phases at or above START_I, from sums over all its samples or over
those that count (R243). -/
def blockSums (i : MpCfg) (a : MeterPoint) (all : Bool) (tNs : Nat) : F64 × F64 × F64 :=
  let on := phasesOn i a
  let sums := if all then a.sums else a.counted
  let hz := f64OfInt sampleHz
  let eP := (on.foldl (fun e k => e.add (fl (at? sums k {}).p)) (fl 0)).div hz
  let eQ := (on.foldl (fun e k => e.add (fl (at? sums k {}).q)) (fl 0)).div hz
  let vi (k : Nat) : Fl := (blockRms (at? a.sums k {}).v2 a.nAll).mul (blockRms (at? a.sums k {}).i2 a.nAll)
  let eS := if i.kind = 3 then ((eP.mul eP).add (eQ.mul eQ)).sqrt
            else (on.foldl (fun e k => e.add (vi k)) (fl 0)).mul (blockT tNs (if all then a.nAll else a.nCounted) a.nAll)
  (eP.v, eQ.v, eS.v)

/-- Whether an energy is below 0. -/
def below0 (e : F64) : Bool := (fl e).lt (fl 0)

/-- Registers a block's energy goes to, by the signs of its sums (R244). -/
def blockRegs (s : F64 × F64 × F64) : List (Nat × Nat) :=
  let quad := if below0 s.1 then (if below0 s.2.1 then 4 else 3) else (if below0 s.2.1 then 5 else 2)
  [(if below0 s.1 then 1 else 0, toMwh s.1), (quad, toMwh s.2.1), (if below0 s.1 then 7 else 6, toMwh s.2.2)]

/-- Increment of a register among those of a block. -/
def incOf (incs : List (Nat × Nat)) (idx : Nat) : Nat := keyed incs idx 0

/-- The block of one electrical point (R243, R244, R250, R254). -/
def mpBlock (d p : Nat) (m : Module) : Module :=
  let fd := m.fd d
  let i := fd.mpCfg d p
  let a := at? fd.mps p {}
  if i.kind = 0 then m
  else
    let t := m.now - max fd.blockAt a.startAt
    let s := blockSums i a true t
    let watts (e : F64) : Int := if t = 0 then 0 else f64ScaleI e 1000000000 t
    let incs := if a.nCounted = 0 then [] else blockRegs (blockSums i a false t)
    let m := forEach incs (fun r => addReg d false p r.1 r.2) m
    let milli (sq : F64) : Nat := f64Scale (blockRms sq a.nAll).v 1000 1
    let v (k : Nat) : Nat := milli (at? a.sums k {}).v2
    let c (k : Nat) : Nat := milli (at? a.sums k {}).i2
    m.updMp d p fun a =>
      { a with
        p := watts s.1, q := watts s.2.1, s := (watts s.2.2).toNat, ovr := a.clipped
        freq := blockFrequency a.crossings
        vrms := [v 0, v 1, v 2, 0]
        irms := [c 0, c 1, c 2, if nbit i.flags 0 then milli a.n2 else 0]
        sums := [{}, {}, {}], counted := [{}, {}, {}], n2 := 0, nAll := 0, nCounted := 0, clipped := false
        crossings := []
        demand := { a.demand with impAcc := a.demand.impAcc + incOf incs 0, expAcc := a.demand.expAcc + incOf incs 1,
                                  durNs := a.demand.durNs + t }
        pulses := a.pulses.zipIdx.map fun u =>
          let c := at? i.pulses u.2 {}
          u.1.newFeed m.now (if c.onCode = 0 then 0 else incOf incs c.qty) }

/-- Whether a thermal point's temperatures forbid energy (R253). -/
def heatBad (fd : FieldDie) (i : HpCfg) (h : HeatPoint) : Bool :=
  let ch := at? fd.chans i.ch {}
  let out (t : Int) := decide (t < 2000000) || decide (180000000 < t)
  ch.in1Open || ch.in2Open || (h.haveTemps && (out h.tS || out h.tR))

/-- TEMP_RANGE of a thermal point judged, and recorded as it begins and ends (R253). -/
def judgeHeat (d p : Nat) (m : Module) : Module :=
  let fd := m.fd d
  let i := fd.hpCfg d p
  let h := at? fd.hps p {}
  let bad := heatBad fd i h
  if bad == h.tempRange then m
  else
    let m := m.updHp d p fun h => { h with tempRange := bad }
    let supBad := (at? fd.chans i.ch {}).in1Open || decide (h.tS < 2000000) || decide (180000000 < h.tS)
    let t := fdiv (if supBad || !bad then h.tS else h.tR) 10000
    let m := if bad && m.fdHeard d then raise (claimLane fd.claim) 9 0x10 m else m
    reportFd d 9 0x5002 (16 * d + p) (ofS 32 t) (b2n bad) m

/-- Energy per cubic metre that a pulse carries at the temperatures of a block, J in FP64 (R251). -/
def heatUnit (i : HpCfg) (tS tR : Int) : F64 :=
  let k (t : Int) := t + 273150000
  let p : Int := i.pressureKpa
  if ((tS - tR).natAbs : Int) < i.dtCutoffMk * 1000 then 0
  else
    let e := 1000 * fxMul (waterRho (k (if i.flowSide = 0 then tR else tS)) p) (waterH (k tS) p - waterH (k tR) p)
    (pack64 (xor (decide (e < 0)) (i.kind == 2)) e.natAbs (-200) false).v

/-- The block of one thermal point: temperatures and properties for the pulses to come, and the pulse feeds (R251). A
block without a sample keeps the temperatures. -/
def hpBlock (d p : Nat) (m : Module) : Module :=
  let i := (m.fd d).hpCfg d p
  if i.kind = 0 then m
  else
    let mean (sum : Int) (n : Nat) : Int := roundDiv (sum * 1000000) (65536 * n)
    let m := m.updHp d p fun h =>
      if h.nAll = 0 then h
      else
        let tS := mean h.sumS h.nAll + f32Micro i.tSupOffset
        let tR := mean h.sumR h.nAll + f32Micro i.tRetOffset
        { h with tS := tS, tR := tR, haveTemps := true, eUnit := heatUnit i tS tR, sumS := 0, sumR := 0, nAll := 0 }
    let m := judgeHeat d p m
    m.updHp d p fun h =>
      { h with
        pulses := h.pulses.zipIdx.map fun u =>
          let c := at? i.pulses u.2 {}
          u.1.newFeed m.now (if c.onCode = 0 then 0 else at? h.blockInc c.qty 0)
        blockInc := [0, 0, 0, 0, 0, 0] }

/-- A pulse output's state and descriptor by point code within the die: 256 and above thermal. -/
def FieldDie.pulseAt (fd : FieldDie) (d point k : Nat) : PulseOut × PulseCfg :=
  if point ≥ 256 then
    (fd.pulse true (point - 256) k,
     if (fd.hpCfg d (point - 256)).kind = 0 then {} else at? (fd.hpCfg d (point - 256)).pulses k {})
  else (fd.pulse false point k, if (fd.mpCfg d point).kind = 0 then {} else at? (fd.mpCfg d point).pulses k {})

/-- The module with one pulse output changed. -/
def Module.updPulse (m : Module) (d point k : Nat) (f : PulseOut → PulseOut) : Module :=
  if point ≥ 256 then m.updHp d (point - 256) fun h => { h with pulses := upd h.pulses k f }
  else m.updMp d point fun a => { a with pulses := upd a.pulses k f }

/-- PULSE_BACKLOG set or cleared, recorded as it changes (R255). -/
def setBacklog (d point k : Nat) (on : Bool) (m : Module) : Module :=
  let p := ((m.fd d).pulseAt d point k).1
  if p.backlog == on then m
  else
    let m := m.updPulse d point k fun p => { p with backlog := on }
    let m := if on && m.fdHeard d then raise (claimLane (m.fd d).claim) 9 8 m else m
    let thermal := decide (point ≥ 256)
    reportFd d 9 0x5001 (pointCode d thermal (if thermal then point - 256 else point)) k (b2n on) m

/-- The end of a pulse's 50 ms spacing judged once it has come: PULSE_BACKLOG holds while the residue at that instant is
at or above the WEIGHT in force (R255). -/
def judgePulse (d point k : Nat) (m : Module) : Module :=
  let x := (m.fd d).pulseAt d point k
  match x.1.spacing, x.1.lastAt with
  | true, some s =>
    if m.now < s + 50000000 then m
    else
      let left := (x.1.credit (s + 50000000)).residue
      setBacklog d point k (x.2.onCode != 0 && decide (x.2.weight * 2 ^ 32 ≤ left))
        (m.updPulse d point k fun p => { p with spacing := false })
  | _, _ => m

/-- Every pulse output of a die whose spacing waits to be judged (R255). -/
def judgePulses (d : Nat) (m : Module) : Module :=
  let fd := m.fd d
  let waits (ps : List PulseOut) : List Nat := (List.range 2).filter fun k => (at? ps k {}).spacing
  let mps := fd.mps.zipIdx.flatMap fun a => (waits a.1.pulses).map fun k => (a.2, k)
  let hps := fd.hps.zipIdx.flatMap fun h => (waits h.1.pulses).map fun k => (256 + h.2, k)
  forEach (mps ++ hps) (fun x => judgePulse d x.1 x.2) m

/-- The block in progress of every point of a die ends now (R243). -/
def blockEnd (d : Nat) (m : Module) : Module :=
  let m := forEach (List.range 32) (fun p => mpBlock d p) (judgePulses d m)
  let m := forEach (List.range 16) (fun p => hpBlock d p) m
  m.updFd d fun fd => { fd with blockAt := m.now }

/-- METERING_BLOCK_END: a block ends at the next multiple of 200 ms, with the samples since the last input frame (R243). -/
def meteringBlockEndBody (d : Nat) (meas : FrameMeas) (_ : Store) (m : Module) : Module :=
  if m.fdUp d && !(m.fd d).atRest m.supplyGood then
    blockEnd d (sampleDie d meas (clockTo (m.gridAfter 200000000 (m.fd d).blockAt) m))
  else m

/-- The blocks that end at or before the present instant, assigned before anything that is latched at it (R268). -/
def blocksFirst (ds : List Nat) (m : Module) : Module :=
  forEach ds (fun d m =>
    let due := (m.fd d).blockAt / 200000000 * 200000000 + 200000000
    if m.fdUp d && !(m.fd d).atRest m.supplyGood && decide (due ≤ m.now) then blockEnd d m else m) m

/-- SETTLING_END: the Rogowski integrator has settled 3.0 s after the die's power-up (R241). -/
def settlingEndBody (d mp : Nat) (_ : Store) (m : Module) : Module :=
  if m.fdUp d && (at? (m.fd d).mps mp {}).settling then
    (clockTo ((m.fd d).upAt + 3000000000) m).updMp d mp fun a => { a with settling := false }
  else m

/-- FLOW_PULSE: a flow pulse of a thermal point with the direction sampled at its edge; at a block end it belongs to the block
that begins there (R247, R251, R252, R268). -/
def flowPulseBody (d hp : Nat) (reverse : Bool) (_ : Store) (m : Module) : Module :=
  let i := (m.fd d).hpCfg d hp
  if m.fdUp d && i.kind != 0 && !m.injectedPoint d true hp then
    let m := judgeHeat d hp (blocksFirst [d] m)
    let h := at? (m.fd d).hps hp {}
    let rev := reverse && ((m.fd d).chanCfg d i.ch).encMode == 3
    let e := if h.tempRange then 0 else ((f64OfNano i.pulseVol).mul (fl h.eUnit)).v
    let vInc := f64Scale ((f64OfInt i.pulseVol).div (f64OfInt 1000)).v (2 ^ 32) 1
    let eInc := toMwh e
    let eIdx := (if rev then 2 else 0) + (if below0 e then 1 else 0)
    let vIdx := if rev then 5 else 4
    let m := addReg d true hp vIdx vInc m
    let m := if h.tempRange then m else addReg d true hp eIdx eInc m
    let eJ := f64ScaleI e (2 ^ 32) 1
    m.updHp d hp fun h =>
      { h with
        reverse := rev
        blockInc := upd (upd h.blockInc vIdx (· + vInc)) eIdx (· + if h.tempRange then 0 else eInc)
        recent := (h.recent.filter fun r => decide (m.now < r.1 + 1000000000)) ++
          [(m.now, if rev then -(i.pulseVol : Int) else i.pulseVol, if rev then -eJ else eJ)] }
  else m

/-- The first demand boundary at or after an instant under an offset of module time, ns (R250). -/
def boundaryAfter (demandMin : Nat) (demandOffsetS tbOffset : Int) (t : Nat) : Nat :=
  let period : Int := 60000000 * max 1 demandMin
  let off := tbOffset + demandOffsetS * 1000000
  (-(fdiv (-((cdiv t 1000 : Nat) + off)) period) * period - off).toNat * 1000

/-- The instant of the next demand boundary on a die's time base, ns: the one the active lane sent, or, where it has
sent none since the last, the first by the last conversion received (R250). -/
def FieldDie.boundary (fd : FieldDie) : Nat :=
  fd.demandSent.getD (boundaryAfter fd.metCfg.demandMin fd.metCfg.demandOffsetS fd.tbOffset (fd.demandAt + 1000000000))

/-- A heartbeat's time message taken by a die: its counter is aligned to the time base it names, never backwards, and runs on
at that time base's rate; the conversion is kept, and with it the next demand boundary at least 1 s ahead; one
sent before stays while it is less than 1 s ahead (R28, R250, R353; assumption 15). -/
def FieldDie.takeTime (fd : FieldDie) (now tb : Nat) (off : Int) (slot state : Nat) : FieldDie :=
  let sent := fd.demandSent.filter fun t => decide (now < t) && decide (t < now + 1000000000)
  { fd with
    tbBase := 1000 * tb, tbSetAt := now, tbHold := max (fd.tb now) (1000 * tb), tbRate := -fd.refPpb
    tbOffset := off, tbSlot := slot, tbState := state, tbValid := true
    demandSent := some (sent.getD (boundaryAfter fd.metCfg.demandMin fd.metCfg.demandOffsetS off (now + 1000000000))) }

/-- Module-time seconds as a field die has them. -/
def FieldDie.modS (fd : FieldDie) (now : Nat) : Nat := (fdiv ((now / 1000 : Nat) + fd.tbOffset) 1000000).toNat

/-- A demand interval closed (R250): averages, maximum and regularity. -/
def Demand.close (modS demandMin : Nat) (a : Demand) : Demand :=
  let avg (x : Nat) := if a.durNs = 0 then 0 else x * 36 * 1000000000 / (10 * 2 ^ 32 * a.durNs)
  let imp := avg a.impAcc
  { a with impAcc := 0, expAcc := 0, durNs := 0, imp := imp, exp := avg a.expAcc
           max := if imp > a.max then imp else a.max
           maxTime := if imp > a.max then modS else a.maxTime
           irregular := a.crossed || decide (absDiff a.durNs (demandMin * 60000000000) > 200000000)
           crossed := false }

/-- The maximum demand of an electrical point cleared, as MD_RESET does (R250). -/
def clearMd (d p : Nat) (m : Module) : Module :=
  m.updMp d p fun a => { a with demand := { a.demand with max := 0, maxTime := 0, mdReset := false } }

/-- The MD_RESETs that wait for the close of a demand interval carried out and recorded (R266, R268). -/
def lateMdResets (d : Nat) (m : Module) : Module :=
  forEach (List.range 32) (fun p m =>
    let g := (at? (m.fd d).mps p {}).demand
    if g.mdReset then reportFd d 9 0x5804 (32 * d + p) g.max (g.maxTime % 2 ^ 32) (clearMd d p m) else m) m

/-- DEMAND_BOUNDARY: the demand interval of every electrical point of a die closes, and then a reset that waited for it
clears the maximum (R250, R268). -/
def demandBoundaryBody (d : Nat) (_ : Store) (m : Module) : Module :=
  let fd := m.fd d
  if m.fdUp d && fd.tbValid && fd.metCfg.demandMin != 0 then
    let m := clockTo fd.boundary m
    let s := fd.modS m.now
    lateMdResets d <| m.updFd d fun fd =>
      { fd with demandAt := m.now, demandSent := none,
                mps := fd.mps.zipIdx.map fun a =>
                  if (fd.mpCfg d a.2).kind = 0 then a.1
                  else { a.1 with demand := a.1.demand.close s fd.metCfg.demandMin } }
  else m

/-- The instant at which the accumulator reaches a weight within the present feed, if it does (R254). What the feed has
credited so far stands in the residue, less the pulses already taken from it. -/
def PulseOut.reachAt (w : Nat) (p : PulseOut) : Option Nat :=
  let need := (w : Int) - ((p.residue : Int) - p.fed)
  if need ≤ 0 then some p.feedAt
  else if p.feed = 0 ∨ (p.feed : Int) < need then none
  else some (p.feedAt + cdiv (need.toNat * 200000000) p.feed)

/-- PULSE_START: a pulse starts at the instant its accumulator reaches WEIGHT, no earlier than 50 ms after the last,
on the 10 ns grid, unless its output is held open (R254, R255, R257). -/
def pulseStartBody (d point slot : Nat) (_ : Store) (m : Module) : Module :=
  let x := (m.fd d).pulseAt d point slot
  let p := x.1
  let c := x.2
  let w := c.weight * 2 ^ 32
  match p.reachAt w with
  | none => m
  | some t =>
    if !m.fdUp d || c.onCode == 0 || p.active || (m.fd d).openBy m.supplyGood c.ch c.out then m
    else
      let spaced := match p.lastAt with | none => 0 | some s => s + 50000000
      let m := judgePulse d point slot (clockTo (cdiv (max t spaced) 10 * 10) m)
      let m := m.updPulse d point slot fun p =>
        let p := p.credit m.now
        { p with residue := p.residue - w, lastAt := some m.now, active := true, spacing := true
                 count := (p.count + 1) % 65536 }
      refreshOut d c.ch c.out m

/-- PULSE_END: 30 ms after its start the output is OFF (R254). -/
def pulseEndBody (d point slot : Nat) (_ : Store) (m : Module) : Module :=
  let x := (m.fd d).pulseAt d point slot
  match x.1.active, x.1.lastAt with
  | true, some s =>
    if m.fdUp d then
      let m := clockTo (s + 30000000) m
      let m := m.updPulse d point slot fun p => { p.credit m.now with active := false }
      refreshOut d x.2.ch x.2.out m
    else m
  | _, _ => m

/-- A pulse output as a new descriptor finds it: the residue is kept for the same QTY (R256). -/
def PulseOut.retune (c : PulseCfg) (p : PulseOut) : PulseOut :=
  if c.onCode = 0 ∨ c.qty ≠ p.qty then
    { p with residue := 0, feed := 0, fed := 0, qty := c.qty, backlog := false }
  else p

/-- A register in an accumulator record, 14 bytes. -/
def MReg.bytes (r : MReg) : Bytes := leBytes 8 r.value ++ leBytes 4 r.frac ++ leBytes 2 r.roll

/-- A residue in an accumulator record, 17 bytes: the residue as it would be with its feed credited in full. -/
def PulseOut.bytes (p : PulseOut) (c : PulseCfg) : Bytes :=
  leBytes 16 (p.residue + (p.feed - p.fed)) ++ leBytes 1 (if c.onCode = 0 then 0 else c.qty + 1)

/-- The accumulator record of a die (R258). Layout of the blocks: assumption 10. -/
def accuRecord (m : Module) (l : LaneId) (d kind seq : Nat) : Bytes :=
  let fd := m.fd d
  let head := leBytes 1 kind ++ leBytes 1 (fdId d) ++ leBytes 2 0 ++ leBytes 4 (m.lane l).sys.opsec ++
    leBytes 8 fd.bankCounter ++ leBytes 4 (m.lane l).mtr.sealWord ++ leBytes 8 (m.modS l)
  let mp (p : Nat) :=
    let a := at? fd.mps p {}
    let i := fd.mpCfg d p
    let g := a.demand
    fitTo 248 (a.regs.flatMap MReg.bytes ++ (a.pulses.zipIdx.flatMap fun u => u.1.bytes (at? i.pulses u.2 {})) ++
      leBytes 12 g.impAcc ++ leBytes 12 g.expAcc ++ leBytes 8 g.durNs ++ leBytes 4 g.max ++ leBytes 8 g.maxTime)
  let hp (p : Nat) :=
    let a := at? fd.hps p {}
    let i := fd.hpCfg d p
    fitTo 128 (a.regs.flatMap MReg.bytes ++ (a.pulses.zipIdx.flatMap fun u => u.1.bytes (at? i.pulses u.2 {})))
  mkRecord accuType seq (fitTo 240 head ++ (List.range 32).flatMap mp ++ (List.range 16).flatMap hp)

/-- The newest valid accumulator record of a die in a lane's store. -/
def accuNewest (st : Store) (m : Module) (l : LaneId) (d : Nat) : Option (Nat × Nat × Bytes) :=
  newestOf (m.lane l).nvm (st.mram l) (accuBase 0 d) (accuBase 1 d) 10240 accuType

/-- A register restored: the saved value plus what was accumulated since, rolling over (R261). -/
def MReg.restore (bs : Bytes) (r : MReg) : MReg × Bool :=
  MReg.add (leAt bs 0 8 * 2 ^ 32 + leAt bs 8 4) { r with roll := (r.roll + leAt bs 12 2) % 65536 }

/-- A residue restored under R256. -/
def PulseOut.restore (bs : Bytes) (c : PulseCfg) (p : PulseOut) : PulseOut :=
  if c.onCode ≠ 0 ∧ leAt bs 16 1 = c.qty + 1 then { p with residue := p.residue + leAt bs 0 16, qty := c.qty } else p

/-- A die's set restored from a record (R261). -/
def restoreSet (d : Nat) (bs : Bytes) (fd : FieldDie) : FieldDie :=
  { fd with
    restored := true
    mps := fd.mps.zipIdx.map fun x =>
      let b := slice bs (256 + 248 * x.2) 248
      let g := x.1.demand
      { x.1 with
        regs := x.1.regs.zipIdx.map fun r => (r.1.restore (slice b (14 * r.2) 14)).1
        pulses := x.1.pulses.zipIdx.map fun u =>
          u.1.restore (slice b (112 + 17 * u.2) 17) (at? (fd.mpCfg d x.2).pulses u.2 {})
        demand := { g with impAcc := g.impAcc + leAt b 146 12, expAcc := g.expAcc + leAt b 158 12,
                           durNs := g.durNs + leAt b 170 8, crossed := true,
                           max := if leAt b 178 4 ≥ g.max then leAt b 178 4 else g.max,
                           maxTime := if leAt b 178 4 ≥ g.max then leAt b 182 8 else g.maxTime } }
    hps := fd.hps.zipIdx.map fun x =>
      let b := slice bs (256 + 7936 + 128 * x.2) 128
      { x.1 with
        regs := x.1.regs.zipIdx.map fun r => (r.1.restore (slice b (14 * r.2) 14)).1
        pulses := x.1.pulses.zipIdx.map fun u =>
          u.1.restore (slice b (84 + 17 * u.2) 17) (at? (fd.hpCfg d x.2).pulses u.2 {}) } }

/-- The registers of a die that roll over as a record is restored: thermal, point, register and new count (R248, R261). -/
def restoreRolls (bs : Bytes) (fd : FieldDie) : List (Bool × Nat × Nat × Nat) :=
  let rolls (thermal : Bool) (p base : Nat) (regs : List MReg) : List (Bool × Nat × Nat × Nat) :=
    regs.zipIdx.filterMap fun r =>
      let x := r.1.restore (slice bs (base + 14 * r.2) 14)
      if x.2 then some (thermal, p, r.2, x.1.roll) else none
  (fd.mps.zipIdx.flatMap fun x => rolls false x.2 (256 + 248 * x.2) x.1.regs) ++
    fd.hps.zipIdx.flatMap fun x => rolls true x.2 (256 + 7936 + 128 * x.2) x.1.regs

/-- Whether a lane can write the other lane's store: that lane is a standby in STANDBY over links that are up. -/
def Module.mirrors (m : Module) (l : LaneId) : Bool :=
  m.variant == .nfj8 && m.laneLink && (m.lane l.other).red.role == .standby && !(m.lane l.other).sys.failed

/-- A save of a kind begins: the next SAVE_SEQ, the records of the dies a lane reaches, and an event for each present
die it does not (R258, R259). -/
def saveStart (l : LaneId) (kind : Nat) (m : Module) : Module :=
  let seq := nextSeq (m.lane l).mtr.saveSeq
  let m := m.updLane l fun L => { L with mtr := { L.mtr with saveSeq := seq } }
  let recs := (m.fdList.filter fun d => m.fdReach l d).map fun d => (d, accuRecord m l d kind seq)
  let m := m.updLane l fun L => { L with mtr := { L.mtr with save := some (kind, recs, m.now) } }
  let m := if kind = 0 && m.mirrors l then wakeReceiver l.other m else m
  forEach (m.fdList.filter fun d => !m.fdReach l d) (fun d m =>
    report l 9 0x5003 (fdId d) seq 0 (raise l 9 2 m)) m

/-- The records of a save written into a lane's store, each into the slot that does not hold its die's newest valid
record; a write that the controller refuses leaves its die out of the save (R258, R371, R375, R381). -/
def saveWrite (st : Store) (dst : LaneId) (recs : List (Nat × Bytes)) (m : Module) : Module :=
  forEach recs (fun r m =>
    let m := seqCheck (m.cur st) dst (accuBase 0 r.1) (accuBase 1 r.1) 10240 accuType m
    let at_ := match accuNewest st m dst r.1 with
      | some (a, _, _) => if a = accuBase 0 r.1 then accuBase 1 r.1 else accuBase 0 r.1
      | none => accuBase 0 r.1
    let bad := writeRefused m st dst .save at_ r.2.length
    let m := mramWrite .save st dst at_ r.2 m
    when bad (report dst 9 0x5003 (fdId r.1) (leAt r.2 4 4) 0 ∘ raise dst 9 2) m) m

/-- Whether the restore of R261 has come to its end for every field die that a lane reaches. -/
def Module.restored (m : Module) (l : LaneId) : Bool := m.fdList.all fun d => !m.fdReach l d || (m.fd d).restored

/-- PERIODIC_SAVE: at the next multiple of 60 s of the time base the active lane takes the sets of the dies it reaches
(R259). -/
def periodicSaveBody (l : LaneId) (_ : Store) (m : Module) : Module :=
  let L := m.lane l
  if L.red.holds && m.restored l && m.supplyGood && L.sys.phase == .up then
    let m := clockTo (m.gridAfter 60000000000 (m.now - 1)) m
    saveStart l 0 (blocksFirst (m.fdList.filter fun d => m.fdReach l d) m)
  else m

/-- SAVE_RECORDS_WRITTEN: the records of the save under way are in the store, and in the standby lane's (R258,
R259). -/
def saveRecordsWrittenBody (l : LaneId) (st : Store) (m : Module) : Module :=
  match (m.lane l).mtr.save with
  | none => m
  | some (kind, recs, _) =>
    if kind = 1 then m
    else
      let m := saveWrite st l recs m
      let m := if kind = 0 && m.mirrors l then receiverDone l.other (saveWrite st l.other recs m) else m
      let m := m.updLane l fun L => { L with mtr := { L.mtr with save := none, saveAt := some m.now } }
      let map := recs.foldl (fun a r => a ||| 1 <<< r.1) 0
      report l 9 0x5004 (m.lane l).mtr.saveSeq kind map (raise l 9 1 m)

/-- The end of a metering command: STATE and REASON. -/
def mtrEnd (l : LaneId) (state reason : Nat) (m : Module) : Module :=
  m.updLane l fun L => { L with mtr := { L.mtr with cmdState := state, cmdReason := reason } }

/-- READOUT: the command takes the nonce, or is refused by mode, while one runs, or without ring 3 (R267). -/
def readoutBody (l : LaneId) (v : View) (_ : Store) (m : Module) : Module :=
  guardWrite l v (fun m =>
    let L := m.lane l
    if L.sys.mode == .blank then mtrEnd l 3 3 m
    else if L.mtr.readoutAt.isSome then mtrEnd l 3 4 m
    else if (at? L.hst.rings 3 {}).state ≠ 1 then mtrEnd l 3 5 m
    else (mtrEnd l 1 0 m).updLane l fun L =>
      { L with mtr := { L.mtr with readoutAt := some m.now, readoutNonce := fitTo 16 L.mtr.nonce } }) m

/-- `MTR_PT_STATUS` of a point of a die that is reachable. -/
def FieldDie.ptStatus (fd : FieldDie) (d : Nat) (thermal : Bool) (p : Nat) : Nat :=
  if thermal then
    let h := at? fd.hps p {}
    (fd.hpCfg d p).kind + 16 * flags [fd.restored, false, false, h.tempRange, h.pulses.any (·.backlog), true, h.reverse]
  else
    let a := at? fd.mps p {}
    (fd.mpCfg d p).kind + 16 * flags [fd.restored, a.settling, a.ovr, false, a.pulses.any (·.backlog), true, false,
      a.demand.irregular]

/-- Entry of a point in a read-out record: a 16-byte field for each register (R267). -/
def readoutEntry (fd : FieldDie) (d : Nat) (thermal : Bool) (p : Nat) : Bytes :=
  let st := fd.ptStatus d thermal p
  let regs := if thermal then (at? fd.hps p {}).regs else (at? fd.mps p {}).regs
  regs.flatMap fun r => leBytes 8 r.value ++ leBytes 2 r.roll ++ leBytes 2 st ++ leBytes 4 0

/-- The read-out record's header: nonce, serial number, lane and flags, tables' sizes, seal, counters, image, time
(R267). -/
def readoutHead (m : Module) (l : LaneId) (missing : Bool) : Bytes :=
  fitTo 16 (m.lane l).mtr.readoutNonce ++ fitTo 16 Config.serial ++ leBytes 1 l.num ++
    leBytes 1 (b2n (m.lane l).mtr.unsealed + 2 * b2n missing) ++
    leBytes 2 (32 * m.variant.nFd) ++ leBytes 2 (16 * m.variant.nFd) ++ leBytes 2 0 ++ leBytes 4 (m.lane l).mtr.sealWord ++
    leBytes 4 (m.lane l).sys.opsec ++ leBytes 4 (m.lane l).sys.pcc ++ leBytes 4 0 ++ leBytes 8 (m.modS l) ++
    fitTo 32 (m.lane l).cfg.activeDigest ++ leBytes 8 (m.lane l).cfg.activeCounter ++
    leBytes 4 (m.lane l).mtr.saveSeq ++ leBytes 4 0 ++ leBytes 8 m.us ++ leBytes 8 0

/-- The read-out record's table of one kind of points: an unreached die's entries are zero (R267). -/
def readoutTable (m : Module) (l : LaneId) (thermal : Bool) (n : Nat) : Bytes :=
  m.fdList.flatMap fun d => (List.range n).flatMap fun p =>
    if m.fdReach l d then readoutEntry (m.fd d) d thermal p
    else List.replicate (readoutEntry (m.fd d) d thermal p).length 0

/-- The read-out record before its MAC (R267). -/
def readoutBytes (m : Module) (l : LaneId) : Bytes :=
  readoutHead m l (m.fdList.any fun d => !m.fdReach l d) ++ readoutTable m l false 32 ++ readoutTable m l true 16

/-- READOUT_LATCH: the registers are latched at the first common block end at least 1 ms after the command, and the
record with its MAC waits for a descriptor of ring 3 (R267, R464). -/
def readoutLatchBody (l : LaneId) (_ : Store) (m : Module) : Module :=
  match (m.lane l).mtr.readoutAt with
  | none => m
  | some t =>
    if (m.lane l).mtr.readoutRec.isSome then m
    else
      let m := clockTo (cdiv (t + 1000000) 200000000 * 200000000) m
      let m := blocksFirst (m.fdList.filter fun d => m.fdReach l d) m
      let slot := match (m.lane l).cfg.active with
        | none => 0
        | some b => (b.metering.getD {}).readoutSlot
      let bs := readoutBytes m l
      let u := useSlotAs 9 l slot 4 false m
      match u.1 with
      | .error _ => (mtrEnd l 3 0 u.2).updLane l fun L => { L with mtr := { L.mtr with readoutAt := none } }
      | .ok k => readoutGive l (u.2.updLane l fun L => { L with mtr := { L.mtr with readoutRec := some (bs ++ hmac k bs) } })

/-- Bytes of a read-out record with its MAC (R267). -/
def Module.readoutSize (m : Module) : Nat := 160 + 5632 * m.variant.nFd

/-- READOUT_RING_TIMEOUT: no descriptor of ring 3 has taken the record within 1 s of the command (R464). -/
def readoutRingTimeoutBody (l : LaneId) (_ : Store) (m : Module) : Module :=
  let t := (m.lane l).mtr
  match t.readoutRec, t.readoutAt with
  | some _, some a =>
    if ((m.lane l).ring 3).ending.isSome && (((m.lane l).ring 3).cur.map (·.op)) == some 1 then m
    else
      (mtrEnd l 3 5 (clockTo (a + 1000000000) m)).updLane l fun L =>
        { L with mtr := { L.mtr with readoutAt := none, readoutRec := none } }
  | _, _ => m

/-- Whether the block in progress of a die is the last of its demand interval: the boundary comes before the next block end
(R250, R268). -/
def FieldDie.closesDemand (fd : FieldDie) : Bool :=
  fd.tbValid && fd.metCfg.demandMin != 0 && decide (fd.boundary < fd.blockAt / 200000000 * 200000000 + 400000000)

/-- MD_RESET: the maximum demand of the selected electrical point is cleared and logged; in the block that closes an
interval the interval closes first, and the reset is DONE at once (R250, R266, R268; DESIGN CHOICE, assumption 52). -/
def mdResetBody (l : LaneId) (v : View) (_ : Store) (m : Module) : Module :=
  guardWrite l v (fun m =>
    let L := m.lane l
    let w := (m.sel l v).mtrPt
    let idx := fld w 6 0
    let d := idx / 32
    let md := L.sys.mode
    if !(md == .commission || md == .run || md == .runForced) then mtrEnd l 3 3 m
    else if L.mtr.readoutAt.isSome then mtrEnd l 3 4 m
    else if bitOf w 8 || !m.fdReach l d || ((m.fd d).mpCfg d (idx % 32)).kind == 0 then mtrEnd l 3 2 m
    else if L.evr.mFree < 65 then mtrEnd l 3 1 m
    else
      let m := blocksFirst [d] m
      let fd := m.fd d
      if fd.closesDemand then
        mtrEnd l 2 0 (m.updMp d (idx % 32) fun a => { a with demand := { a.demand with mdReset := true } })
      else
        let g := (at? fd.mps (idx % 32) {}).demand
        mtrEnd l 2 0 (report l 9 0x5804 idx g.max (g.maxTime % 2 ^ 32) (clearMd d (idx % 32) m))) m

/-- MTR_REG_LO_READ: the low word of the selected register, with its high word and rollover count latched (R249). -/
def mtrRegLoReadBody (l : LaneId) (v : View) (_ : Store) (m : Module) : Module :=
  guardRead l v (fun m =>
    let s := m.sel l v
    let thermal := bitOf s.mtrPt 8
    let idx := fld s.mtrPt 6 0
    let d := if thermal then idx / 16 else idx / 32
    let fd := m.fd d
    let r : MReg :=
      if !m.fdReach l d then {}
      else if thermal then at? (at? fd.hps (idx % 16) {}).regs s.mtrReg {}
      else at? (at? fd.mps (idx % 32) {}).regs s.mtrReg {}
    let m := latchWord l v 0x90010 (word (r.value / 2 ^ 32)) (latchWord l v 0x90014 (word r.roll) m)
    onBus (word r.value) m) m

/-! ## Meanings of the commands -/

/-- METERING_BLOCK_END (R243). -/
def execMeteringBlockEnd (d : Nat) (meas : FrameMeas) (s : State) : Host.Outcome State Fault Refusal :=
  .next (commit s (meteringBlockEndBody d meas))

/-- SETTLING_END (R241). -/
def execSettlingEnd (d : Nat) (mp : Nat) (s : State) : Host.Outcome State Fault Refusal :=
  .next (commit s (settlingEndBody d mp))

/-- FLOW_PULSE (R251). -/
def execFlowPulse (d : Nat) (hp : Nat) (reverse : Bool) (s : State) : Host.Outcome State Fault Refusal :=
  .next (commit s (flowPulseBody d hp reverse))

/-- DEMAND_BOUNDARY (R250). -/
def execDemandBoundary (d : Nat) (s : State) : Host.Outcome State Fault Refusal :=
  .next (commit s (demandBoundaryBody d))

/-- PULSE_START (R254). -/
def execPulseStart (d : Nat) (point : Nat) (slot : Nat) (s : State) : Host.Outcome State Fault Refusal :=
  .next (commit s (pulseStartBody d point slot))

/-- PULSE_END (R254). -/
def execPulseEnd (d : Nat) (point : Nat) (slot : Nat) (s : State) : Host.Outcome State Fault Refusal :=
  .next (commit s (pulseEndBody d point slot))

/-- PERIODIC_SAVE (R259). -/
def execPeriodicSave (l : LaneId) (s : State) : Host.Outcome State Fault Refusal :=
  .next (commit s (periodicSaveBody l))

/-- SAVE_RECORDS_WRITTEN (R258). -/
def execSaveRecordsWritten (l : LaneId) (s : State) : Host.Outcome State Fault Refusal :=
  .next (commit s (saveRecordsWrittenBody l))

/-- READOUT (R267). -/
def execReadout (l : LaneId) (v : View) (s : State) : Host.Outcome State Fault Refusal :=
  .next (commit s (readoutBody l v))

/-- READOUT_LATCH (R267). -/
def execReadoutLatch (l : LaneId) (s : State) : Host.Outcome State Fault Refusal :=
  .next (commit s (readoutLatchBody l))

/-- READOUT_RING_TIMEOUT (R464). -/
def execReadoutRingTimeout (l : LaneId) (s : State) : Host.Outcome State Fault Refusal :=
  .next (commit s (readoutRingTimeoutBody l))

/-- MD_RESET (R266). -/
def execMdReset (l : LaneId) (v : View) (s : State) : Host.Outcome State Fault Refusal :=
  .next (commit s (mdResetBody l v))

/-- MTR_REG_LO_READ (R249). -/
def execMtrRegLoRead (l : LaneId) (v : View) (s : State) : Host.Outcome State Fault Refusal :=
  .next (commit s (mtrRegLoReadBody l v))

end Sys2Proof.Machine
end

