-- ==== Sys2Proof/Machine/Modes.lean ====
section
/-! DEFINITION. The operating modes of a lane: the transitions of R311 with what each does to the program, the outputs
and an armed configuration, and test injection (R300, R301, R311 to R313, R315). -/

namespace Sys2Proof.Machine

/-- Number of a mode in `SYS_MODE` (R300). -/
def Mode.code : Mode → Nat
  | .blank => 0
  | .loaded => 1
  | .commission => 2
  | .run => 3
  | .runForced => 4
  | .standby => 5
  | .resync => 6
  | .safeHold => 7

/-- The mode a number names. -/
def modeOf : Nat → Mode
  | 0 => .blank
  | 1 => .loaded
  | 2 => .commission
  | 3 => .run
  | 4 => .runForced
  | 5 => .standby
  | 6 => .resync
  | _ => .safeHold

/-- The system block of a lane changed. -/
def updSys (l : LaneId) (f : Sys → Sys) (m : Module) : Module := m.updLane l fun L => { L with sys := f L.sys }

/-- The configuration block of a lane changed. -/
def updCfg (l : LaneId) (f : Cfg → Cfg) (m : Module) : Module := m.updLane l fun L => { L with cfg := f L.cfg }

/-- A test injection ended and recorded (R315). -/
def endInjection (l : LaneId) (m : Module) : Module :=
  let s := (m.lane l).sys
  if s.testEnable then
    report l 0 0x0008 s.testCh (8 * s.testInput + s.testLevel) 0 (updSys l (fun s => { s with testEnable := false }) m)
  else m

/-- Die IDs an apply concerns: the control die, every present field die and every solver die whose LINK is ON
(R60). -/
def Module.applyDies (m : Module) (l : LaneId) : List Nat :=
  l.num :: (m.fdList.map (4 + ·)) ++
    (m.sdList.filter fun s => m.sdReach l s && (m.dom (sdId s) 21).state == .on).map sdId

/-- An arm returned to PASSED: CANCEL goes to every die, and the event names the die that failed, or 0xFF (R47,
R60). -/
def cancelArm (l : LaneId) (die : Nat) (m : Module) : Module :=
  let c := (m.lane l).cfg
  if c.state == .armed && !c.confirmSent then
    let claim := (m.lane l).red.claim
    let m := forEach ((m.applyDies l).filter (2 ≤ ·)) (fun d => send l.num d (.cancel claim)) m
    let m := updCfg l (fun c => { c with
      state := .passed, armCancelled := true, applySent := [], staged := [], acked := [] }) m
    report l 1 0x1004 die (c.applyInstant / 1000) 0 m
  else m

/-- The carry-over of an exchange ends: the frames stand under the new program, and EXCHANGED is recorded (R159 to R162). -/
def finishExchange (l : LaneId) (m : Module) : Module :=
  let L := m.lane l
  match L.prg.exchOld with
  | none => m
  | some (old, at_) =>
    let c := carryOver old.prog L.conf.prog L.prg.frames
    let ns := 2000 + cdiv L.conf.prog.instBytes 16
    let m := clockTo (at_ + L.prg.exchDelayUs * 1000 + ns) m
    let m := updPrg l (fun p => { p with
      exchOld := none, frames := c.frames, exchCarryNs := ns, exchInit := sat 65535 c.initialised
      exchDropped := sat 65535 c.dropped }) m
    report l 5 0x3007 L.cfg.activeCounter ns c.initialised (raise l 5 0x100 m)

/-- The tasks of a lane start: an exchange still open is completed, t0 lies on the grid of R127, frames from their initial
values or held, images as R511 says, no frame of a field die received yet (R146, R161, R312, R511). -/
def programBegin (l : LaneId) (fresh : Bool) (m : Module) : Module :=
  let m := finishExchange l m
  let c := (m.lane l).conf
  let m := m.updLane l fun L =>
    let tasks := L.prg.tasks.zipIdx.map fun x =>
      { x.1 with executing := false, publishing := false, clockOn := false, consec := 0, cycles := 0, skippedNow := 0
                 halted := false, lastB := 0, requests := [], released := []
                 heldImage := fitTo (c.task x.2).snapshotBytes x.1.heldImage, seen := []
                 inImage := fitTo (c.task x.2).snapshotBytes (if fresh then [] else x.1.inImage)
                 outImage := if fresh then c.initOut x.2 else fitTo (c.task x.2).publishBytes x.1.outImage }
    { L with heard := [false, false, false, false]
             prg := { L.prg with
               running := true, startWait := none, safeSent := true, starts := (L.prg.starts + 1) % 2 ^ 32, t0 := cdiv (m.now + 1000000) 1000000 * 1000000, boundaryBase := 1, tasks := tasks
               frames := if fresh then c.prog.initFrames else fitTo c.prog.instBytes L.prg.frames } }
  blkDoms l .on m

/-- The tasks of a lane are to start: at once, or, where cycles of the mode it left are still in progress, once the last of them
has published and the safe-state commands have followed it (R312; DESIGN CHOICE, assumption 52). -/
def programStart (l : LaneId) (fresh : Bool) (m : Module) : Module :=
  if (m.lane l).anyExecuting then updPrg l (fun p => { p with startWait := some fresh }) m else programBegin l fresh m

/-- The safe states commanded once no cycle is in progress, and the block processors asked to RET (R312, R444). -/
def commandSafe (l : LaneId) (m : Module) : Module :=
  updPrg l (fun p => { p with safeSent := true }) (sendSafe l (blkDoms l .ret m))

/-- Whether a task's present cycle waits for the carry-over of an exchange (R160). -/
def Lane.waitsCarry (L : Lane) (t : Nat) : Bool :=
  match L.prg.exchOld with
  | none => false
  | some (_, at_) => decide (at_ ≤ (L.task t).boundaryAt)

/-- The tasks of a lane start no further cycle, not even one that waits for a carry-over (R161); the safe-state commands
follow the last cycle in progress (R312). -/
def programStop (l : LaneId) (m : Module) : Module :=
  let m := m.updLane l fun L =>
    { L with cfg := { L.cfg with boundaryNow := L.boundaryCount m.now }
             prg := { L.prg with
               running := false, startWait := none
               safeSent := false
               tasks := L.prg.tasks.zipIdx.map fun x =>
                 if L.waitsCarry x.2 then { x.1 with executing := false, publishing := false, clockOn := false } else x.1 } }
  if (m.lane l).anyExecuting then m else commandSafe l m

/-- The tasks of a lane end at once, with nothing published; an INSTANCE_READ that waits for them takes the area as it
stands. -/
def programAbort (l : LaneId) (m : Module) : Module :=
  let m := match (m.lane l).hst.instCap with
    | none => m
    | some _ => instEnd l (m.lane l).prg.frames m
  m.updLane l fun L =>
    { L with cfg := { L.cfg with boundaryNow := L.boundaryCount m.now }
             prg := { L.prg with
               running := false, startWait := none, safeSent := true, exchOld := none
               tasks := L.prg.tasks.map fun t =>
                 { t with executing := false, publishing := false, clockOn := false, requests := [], released := [] } } }

/-- From a supply failure on `SYS_MODE` is frozen and no task runs (R316). -/
def Module.frozen (m : Module) (l : LaneId) : Bool := (m.lane l).sys.phase == .saving || (m.lane l).sys.phase == .stopped

/-- A transition recorded: `SYS_MODE`, its event and interrupt; leaving COMMISSION ends a test injection, and leaving a
mode cancels an arm; from a supply failure on the mode is frozen (R311, R312, R315, R316). -/
def setMode (l : LaneId) (dest : Mode) (cause : Nat) (m : Module) : Module :=
  let was := (m.lane l).sys.mode
  if m.frozen l then m else
  let m := if was == .commission && dest != .commission then endInjection l m else m
  let m := updSys l (fun s => { s with mode := dest, cause := cause, prev := was.code }) m
  let m := report l 0 0x0003 was.code dest.code cause (raise l 0 1 m)
  if cause = 5 then m else cancelArm l 0xFF m

/-- RUN, or RUN_FORCED where the force table holds an entry (R311). -/
def Lane.runMode (L : Lane) : Mode := if L.prg.forces.isEmpty then .run else .runForced

/-- A transition of the active lane with its effect on the program and the outputs (R311, R312). -/
def enterMode (l : LaneId) (dest : Mode) (cause : Nat) (m : Module) : Module :=
  let was := (m.lane l).sys.mode
  if m.frozen l then m else
  let m := setMode l dest cause m
  let m := if dest == .safeHold && (cause == 3 || cause == 4) then raise l 0 4 m else m
  if was.runs && !dest.runs then programStop l m
  else if !was.runs && dest.runs then programStart l (was != .safeHold) m
  else m

/-- RUN and RUN_FORCED follow the force table (R155, R311). -/
def followForces (l : LaneId) (m : Module) : Module :=
  let L := m.lane l
  if L.sys.mode == .run && !L.prg.forces.isEmpty then enterMode l .runForced 2 m
  else if L.sys.mode == .runForced && L.prg.forces.isEmpty then enterMode l .run 2 m
  else m

/-- Whether R311 lists a request's transition. -/
def listed (was : Mode) (target : Nat) : Bool :=
  match was with
  | .loaded => target == 2 || target == 3
  | .safeHold => target == 1 || target == 2 || target == 3
  | .commission => target == 1 || target == 3 || target == 7
  | .run | .runForced => target == 1 || target == 2 || target == 7
  | _ => false

/-- RESULT of a request for a mode (R311). -/
def Lane.judgeMode (L : Lane) (target : Nat) : Nat :=
  let s := L.sys
  if !L.red.holds || s.mode == .standby || s.mode == .resync then 2
  else if s.reqState = 1 then 6
  else if !listed s.mode target then 1
  else if L.cfg.state == .armed && target != 7 then 5
  else if target = 2 && !L.conf.safety.commissionAllowed then 3
  else if !s.mode.runs && target != 1 && !s.restored then 4
  else 0

/-- A request for a mode judged and done (R311, R312); from a supply failure on none is judged (R316). -/
def requestMode (l : LaneId) (target cause : Nat) (m : Module) : Module :=
  let L := m.lane l
  let r := L.judgeMode target
  if m.frozen l then m
  else if r = 0 then
    let dest := if target = 3 then L.runMode else modeOf target
    let m := enterMode l dest cause m
    let m := updSys l (fun s => { s with reqState := 2, reqResult := 0, reqLast := some (m.now, target) }) m
    raise l 0 2 m
  else
    let m := updSys l (fun s => { s with reqState := 3, reqResult := r }) m
    report l 0 0x0004 target r 0 (raise l 0 2 m)

/-- Whether a request was accepted less than 1 ms ago (R313). -/
def Lane.justRequested (L : Lane) (now : Nat) : Bool := L.sys.reqLast.any fun x => decide (now < x.1 + 1000000)

/-- The SAFE_HOLD a request has taken in the same 1 ms becomes the automatic one, which comes first: its cause, its event and
its interrupts (R311, R313). -/
def holdAgain (l : LaneId) (cause : Nat) (m : Module) : Module :=
  let m := updSys l (fun s => { s with cause := cause }) m
  report l 0 0x0003 (m.lane l).sys.prev Mode.safeHold.code cause (raise l 0 5 m)

/-- SAFE_HOLD taken by itself (R138, R139, R311). A request accepted in the same 1 ms gives way: SAFE_HOLD is taken
first, and the request is then judged from SAFE_HOLD (R313). -/
def autoHold (l : LaneId) (cause : Nat) (m : Module) : Module :=
  let s := (m.lane l).sys
  let hold (m : Module) : Module := if s.mode == .safeHold then holdAgain l cause m else enterMode l .safeHold cause m
  match s.reqLast with
  | some (t, target) =>
    if decide (m.now < t + 1000000) && m.active l && s.mode != .blank then
      updSys l (fun s => { s with reqLast := none }) (requestMode l target 1 (hold m))
    else if s.mode.runs then hold m
    else m
  | none => if s.mode.runs then hold m else m

/-- The mode `SYS_AUTOSTART` names requested once a start is complete, judged like any other request (R306). -/
def autostart (l : LaneId) (m : Module) : Module :=
  requestMode l (m.lane l).sys.autostart 11 (updSys l (fun s => { s with autoDue := false }) m)

/-- MODE_REQUEST: a write of `SYS_MODE_REQ` with TARGET; GO submits it (R311). -/
def modeRequestBody (l : LaneId) (v : View) (value : Word) (_ : Store) (m : Module) : Module :=
  guardWrite l v (fun m =>
    let t := fld value 2 0
    let m := updSys l (fun s => { s with reqTarget := t }) m
    if bitOf value 3 then requestMode l t 1 m else m) m

/-- A write of `SYS_TEST` (R315). -/
def writeTest (l : LaneId) (value : Word) (m : Module) : Module :=
  let s := (m.lane l).sys
  let on := bitOf value 31
  if on && s.mode != .commission then m
  else
    let m := endInjection l m
    let m := updSys l (fun s => { s with
      testCh := fld value 7 0, testInput := fld value 8 8, testLevel := fld value 11 9, testEnable := on }) m
    if on then report l 0 0x0008 (fld value 7 0) (8 * fld value 8 8 + fld value 11 9) 1 m else m

/-- TEST_INJECTION_START: a write of `SYS_TEST` with ENABLE 1 in COMMISSION connects an input to the internal source
(R315). -/
def testInjectionStartBody (l : LaneId) (v : View) (value : Word) (_ : Store) (m : Module) : Module :=
  guardWrite l v (writeTest l value) m

/-- TEST_INJECTION_STOP: a write of `SYS_TEST` with ENABLE 0 ends the injection (R315). -/
def testInjectionStopBody (l : LaneId) (v : View) (value : Word) (_ : Store) (m : Module) : Module :=
  guardWrite l v (writeTest l value) m

/-! ## Meanings of the commands -/

/-- MODE_REQUEST (R311). -/
def execModeRequest (l : LaneId) (v : View) (value : Word) (s : State) : Host.Outcome State Fault Refusal :=
  .next (commit s (modeRequestBody l v value))

/-- TEST_INJECTION_START (R315). -/
def execTestInjectionStart (l : LaneId) (v : View) (value : Word) (s : State) : Host.Outcome State Fault Refusal :=
  .next (commit s (testInjectionStartBody l v value))

/-- TEST_INJECTION_STOP (R315). -/
def execTestInjectionStop (l : LaneId) (v : View) (value : Word) (s : State) : Host.Outcome State Fault Refusal :=
  .next (commit s (testInjectionStopBody l v value))

end Sys2Proof.Machine
end

