-- ==== Sys2Proof/Machine/Program.lean ====
section
/-! DEFINITION. The cyclic tasks, the exchange of a program, what the field dies do with a publish, and forces
(R31, R32, R125 to R162, R183 to R187, R511). -/

namespace Sys2Proof.Machine

/-- Whether a task of a lane may begin cycles: the lane is active and in a mode that runs it, the task has a period,
its processor is not halted, and a switchover's final checkpoint has not yet taken its part (R125, R139, R296). -/
def Lane.mayCycle (L : Lane) (t : Nat) : Bool :=
  L.red.holds && L.prg.running && L.sys.mode.runs && (L.conf.task t).periodUs != 0 && !(L.task t).halted &&
    !(L.red.finalCkpt && !L.red.ckptWait.contains t)

/-- Period of a task in ns. -/
def Lane.periodNs (L : Lane) (t : Nat) : Nat := (L.conf.task t).periodUs * 1000

/-- CYCLE_CLOCK_REQUEST: 25 us before a task's boundary the BLK clock of its processor is requested (R27, R132). -/
def cycleClockRequestBody (l : LaneId) (t : Nat) (_ : Store) (m : Module) : Module :=
  let L := m.lane l
  if L.mayCycle t then
    let b := ({ m with now := m.now + 25000 }).gridFrom L.prg.t0 (L.periodNs t) (L.task t).lastB
    let m := clockTo (b - 25000) m
    updTask l t (fun k => { k with clockOn := true }) m
  else m

/-- The last committed result of each template that a snapshot at a boundary takes: its JOB_SEQ, and its age, the
boundary minus the commit instant; where a result is not yet committed before the boundary, the one taken last stays, older by
the time since the boundary it was taken at (R30, R32, R108, R112). -/
def Lane.seenResults (L : Lane) (b last : Nat) (old : List (Nat × Nat × Nat)) : List (Nat × Nat × Nat) :=
  (List.range L.conf.templates.length).filterMap fun k =>
    match (at? L.slv.tpls k {}).result with
    | some r =>
      if r.commitUs * 1000 < b then some (k + 1, r.jobSeq, b / 1000 - r.commitUs)
      else (old.find? (·.1 == k + 1)).map fun o => (o.1, o.2.1, o.2.2 + (b / 1000 - last / 1000))
    | none => none

/-- Step 3 of R132: the stamp, the snapshot with its qualities and input forces, and the release of the jobs that the
task's last publish registered. -/
def beginCycle (l : LaneId) (t b : Nat) (m : Module) : Module :=
  let L := m.lane l
  let c := L.conf
  let n := (c.task t).snapshotBytes
  let held := fitTo n ((c.routes.filter fun r => r.task == t && decide (r.source < 8)).foldl (L.snapPoint b)
    (fitTo n (L.task t).heldImage))
  let img := fitTo n (putForces L.prg.forces c t true held)
  let due := (L.task t).released
  let m := updTask l t (fun k => { k with
    executing := true, publishing := false, clockOn := true, boundaryAt := b, stamp := b / 1000, skippedNow := 0
    heldImage := held, inImage := img, requests := [], released := [], seen := L.seenResults b k.boundaryAt k.seen }) m
  forEach due (fun q => releaseJob l t q) m

/-- TASK_BOUNDARY: a boundary of a task begins its next cycle, or is skipped while the last one has not published
(R127, R132, R137). A boundary at or after a confirmed apply instant comes after the apply (R60). -/
def taskBoundaryBody (l : LaneId) (t : Nat) (_ : Store) (m : Module) : Module :=
  let L := m.lane l
  if !L.mayCycle t then m
  else
    let b := m.gridFrom L.prg.t0 (L.periodNs t) (L.task t).lastB
    if L.cfg.state == .armed && L.cfg.confirmSent && decide (L.cfg.applyInstant ≤ b) then m
    else
    let m := clockTo b m
    let m := updTask l t (fun k => { k with lastB := b }) m
    if (L.task t).executing then
      let first := (L.task t).skippedNow == 0
      let m := updTask l t (fun k => { k with
        skipped := sat max32 (k.skipped + 1), skippedNow := k.skippedNow + 1
        overruns := if first then sat max32 (k.overruns + 1) else k.overruns
        consec := if first then sat 255 (k.consec + 1) else k.consec }) m
      if first then raise l 5 (1 <<< t) m else m
    else beginCycle l t b m

/-- OVERRUN_LIMIT: OVERRUN_LIMIT consecutive cycles have overrun, and the lane asks for SAFE_HOLD (R138). -/
def overrunLimitBody (l : LaneId) (t : Nat) (_ : Store) (m : Module) : Module :=
  let L := m.lane l
  let lim := (L.conf.task t).overrunLimit
  if (L.prg.running || L.justRequested m.now) && lim != 0 && decide (lim ≤ (L.task t).consec) then
    autoHold l 3 (report l 5 0x3002 t (L.task t).consec 0 m)
  else m

/-- Whether a cycle of the old program still runs at an exchange (R161). -/
def Lane.oldCycle (L : Lane) : Bool :=
  match L.prg.exchOld with
  | none => false
  | some (_, at_) => L.prg.tasks.any fun k => k.executing && decide (k.boundaryAt < at_)

/-- EXECUTION_END: a task's execution ends with what its block code did: writes to its output image and its frames,
standard blocks invoked under the cycle stamp, solver requests and aborts (R132, R133, R143 to R145). -/
def executionEndBody (l : LaneId) (t : Nat) (result : ExecResult) (_ : Store) (m : Module) : Module :=
  let L := m.lane l
  let k := L.task t
  let c := L.taskConf t
  if !k.executing || k.publishing || k.halted || L.waitsCarry t
      || decide (k.boundaryAt + (c.task t).watchdogUs * 1000 ≤ m.now) then m
  else
    let out := result.out.foldl (fun img w => putAt img w.1 w.2) k.outImage
    let area := result.frames.foldl (fun a w => putAt a w.1 w.2) L.prg.frames
    let area := result.blocks.foldl (invokeBlock c.prog k.stamp) area
    let reqs := result.jobs.map fun j => (j.1, ({ values := j.2.1, b := j.2.2.1 } : SlvPayload), j.2.2.2)
    let m := updPrg l (fun p => { p with frames := fitTo p.frames.length area }) m
    let m := updTask l t (fun k => { k with
      publishing := true, outImage := fitTo k.outImage.length out, requests := reqs, pubForces := L.prg.forces }) m
    forEach result.aborts (fun i => abortTemplate l .program i) m

/-- The wait of a carry-over recorded once the last old cycle is over (R161). -/
def exchDelayed (l : LaneId) (t : Nat) (m : Module) : Module :=
  let L := m.lane l
  match L.prg.exchOld with
  | none => m
  | some (_, at_) =>
    if L.oldCycle then m
    else
      let us := (m.now - at_) / 1000
      report l 5 0x3008 t us 0 (updPrg l (fun p => { p with exchDelayUs := sat max32 us }) m)

/-- A task's images under the new program once its last old cycle is over (R511). -/
def switchImages (l : LaneId) (t : Nat) (old : Conf) (m : Module) : Module :=
  let c := (m.lane l).conf
  updTask l t (fun k => { k with
    inImage := fitTo (c.task t).snapshotBytes k.inImage, outImage := exchangeOut old c t k.outImage }) m

/-- Once the last cycle of a program that starts no further one has ended, the safe-state commands follow it; a start of the
tasks that waited for it then begins (R301, R312). -/
def safeOnceStopped (l : LaneId) (m : Module) : Module :=
  let L := m.lane l
  if L.prg.running || L.prg.safeSent || L.anyExecuting then m
  else
    let m := commandSafe l m
    match L.prg.startWait with
    | none => m
    | some fresh => programBegin l fresh m

/-- A task that reaches its WATCHDOG_US: its processor halts and its cycle ends with nothing published (R137, R139). -/
def haltTask (l : LaneId) (t : Nat) (m : Module) : Module :=
  let L := m.lane l
  let k := L.task t
  let m := clockTo (k.boundaryAt + ((L.taskConf t).task t).watchdogUs * 1000) m
  let m := updTask l t (fun k => { k with halted := true, executing := false, clockOn := false, requests := [] }) m
  let m := report l 5 0x3003 t k.stamp 0 (raise l 5 (16 <<< t) m)
  if k.skippedNow = 0 then m else report l 5 0x3001 t k.skippedNow ((m.now - k.boundaryAt) / 1000) m

/-- The end of a cycle of the old program at an exchange: its task's images follow the new program, and the wait is
recorded once it was the last (R161, R511). -/
def endOldCycle (l : LaneId) (t : Nat) (old : Conf) (m : Module) : Module := exchDelayed l t (switchImages l t old m)

/-- WATCHDOG: execution reaches WATCHDOG_US: the processor halts, nothing is published, and the lane asks for SAFE_HOLD
(R139, R161). -/
def watchdogBody (l : LaneId) (t : Nat) (_ : Store) (m : Module) : Module :=
  let L := m.lane l
  let k := L.task t
  if k.executing && !k.publishing && !k.halted then
    let m := if L.oldCycle && !L.waitsCarry t then endOldCycle l t (L.taskConf t) (haltTask l t m) else haltTask l t m
    safeOnceStopped l (autoHold l 4 m)
  else m

/-- Whether a solver request stays good across an exchange (R161). -/
def keepsRequest (old new : Conf) (i : Nat) : Bool :=
  match old.tmpl i, new.tmpl i with
  | some a, some b => a.fingerprint == b.fingerprint
  | _, _ => false

/-- The requests of a task that an exchange drops, recorded (R161). -/
def dropRequests (l : LaneId) (t : Nat) (old new : Conf) (qs : List (Nat × SlvPayload × Nat)) (m : Module) : Module :=
  forEach (qs.filter fun q => !keepsRequest old new q.1) (fun q m => report l 5 0x3009 q.1 t 0 (raise l 5 0x400 m)) m

/-- The commands a publish sends to one field die: those of the outputs, axes and loop slots that the task owns there
(R130, R183, R187). -/
def outCmdsOf (c : Conf) (t d : Nat) (img : Bytes) (comm : Bool) : OutCmds :=
  let rs := c.routes.filter fun r => r.task == t && decide (r.index / 64 = d)
  { outs := (rs.filter (·.source == 16)).map fun r => (r.index % 64, r.sub, leAt img r.offset 1)
    axes := (rs.filter (·.source == 17)).map fun r => (r.index % 64, slice img r.offset 32)
    loops := (rs.filter (·.source == 18)).map fun r => (r.index % 64, slice img r.offset 16)
    comm := comm }

/-- The outgoing records of a publish with the SEQ each is sent under, and the counts after them (R151, R331, R333). -/
def Lane.outRecords (L : Lane) (c : Conf) (t : Nat) (img : Bytes) : List (SubCfg × Nat × Bytes) × List (Nat × Nat) :=
  (c.routes.filter fun r => r.task == t && r.source == 19).foldl (fun acc r =>
    match c.sub r.index with
    | none => acc
    | some s =>
      let seq := keyed acc.2 r.index 0
      (acc.1 ++ [(s, seq, slice img r.offset s.outLen)], putKey acc.2 r.index ((seq + 1) % 65536))) ([], L.can.outSeq)

/-- The CAN frames of outgoing records for a field die, by local port (R329, R330, R336). -/
def recFrames (c : Conf) (epoch d : Nat) (recs : List (SubCfg × Nat × Bytes)) : List (Nat × List TxFrame) :=
  match c.network with
  | none => []
  | some n =>
    (recs.filter fun r => r.1.transport == 0 && decide (r.1.port / 4 = d)).map fun r =>
      (r.1.port % 4, recordFrames n r.1 (nbit (at? n.ports r.1.port {}).flags 2) epoch r.2.1 r.2.2)

/-- Step 6 of R132: the task's output image with the forces in force, sent to the field dies with the outgoing records
(R31, R151). -/
def publishCommands (l : LaneId) (t : Nat) (m : Module) : Module :=
  let L := m.lane l
  let k := L.task t
  let c := L.taskConf t
  let img := fitTo k.outImage.length (putForces k.pubForces c t false k.outImage)
  let recs := L.outRecords c t img
  let epoch := L.red.claim % 256
  let m := sendCmds l (fun d =>
    { outCmdsOf c t d img (L.sys.mode == .commission) with frames := recFrames c epoch d recs.1 }) m
  let m := m.updLane l fun L => { L with can := { L.can with outSeq := recs.2 } }
  match c.network with
  | none => m
  | some n => forEach (recs.1.filter fun r => r.1.transport == 1) (fun r =>
      recordDatagram l n r.1 epoch (recordMessage r.1.record epoch r.2.1 r.2.2)) m

/-- A task's part of a checkpoint or an INSTANCE_READ that waits for its publish (R147, R287). -/
def publishParts (l : LaneId) (t : Nat) (m : Module) : Module :=
  let L := m.lane l
  let m := if L.red.ckptWait.contains t then capturePart l t m else m
  let m := if L.red.ckptWait == [t] then wakeReceiver l.other m else m
  if (L.hst.instCap.map (·.1.contains t)) == some true then instPart l t m else m

/-- Step 7 of R132: the cycle ends with the requests it registered and its counts (R32, R137). -/
def endCycle (l : LaneId) (t : Nat) (kept : List (Nat × SlvPayload × Nat)) (m : Module) : Module :=
  let k := (m.lane l).task t
  let us := (m.now - k.boundaryAt) / 1000
  let m := updTask l t (fun k => { k with
    executing := false, publishing := false, clockOn := false, requests := [], released := k.released ++ kept
    cycles := k.cycles + 1, lastUs := sat max32 us, maxUs := max k.maxUs (sat max32 us)
    consec := if k.skippedNow = 0 then 0 else k.consec }) m
  if k.skippedNow = 0 then m else report l 5 0x3001 t k.skippedNow us m

/-- PUBLISH_COMPLETE: steps 6 and 7 of R132: forces, the commands to the field dies with their apply tick, outgoing
records, solver requests registered, the checkpoint's part, and the counts of the cycle (R31, R32, R137, R147, R151). -/
def publishCompleteBody (l : LaneId) (t : Nat) (_ : Store) (m : Module) : Module :=
  let L := m.lane l
  let k := L.task t
  if !k.executing || !k.publishing then m
  else
    let c := L.taskConf t
    if L.oldCycle && !L.waitsCarry t then
      let m := publishParts l t (dropRequests l t c L.conf k.requests (publishCommands l t m))
      safeOnceStopped l (endOldCycle l t c (endCycle l t (k.requests.filter fun q => keepsRequest c L.conf q.1) m))
    else safeOnceStopped l (endCycle l t k.requests (publishParts l t (publishCommands l t m)))

/-- CARRY_OVER_END: the frames of the old program are carried over in C_X, and the new cycles may execute (R159 to
R162). -/
def carryOverEndBody (l : LaneId) (_ : Store) (m : Module) : Module :=
  let L := m.lane l
  match L.prg.exchOld with
  | none => m
  | some _ => if L.oldCycle then m else finishExchange l m

/-! ### The field dies -/

/-- Number of commands a publish carries to a die, its CAN frames apart; the command of safe states stands for one
command of each output of the die that no metering pulse owns (R184, R187). -/
def FieldDie.cmdCount (fd : FieldDie) (d : Nat) (c : OutCmds) : Nat :=
  if c.safe then
    (List.range 64).foldl (fun n k => n + ((List.range (outsOf (fd.chanCfg d k).function)).filter fun o =>
      (fd.pulseOf d k o).isNone).length) 0
  else c.outs.length + c.axes.length + c.loops.length

/-- Number of outgoing CAN frames a publish carries to a die (R187). -/
def OutCmds.frameCount (c : OutCmds) : Nat := c.frames.foldl (fun n f => n + f.2.length) 0

/-- OUTPUT_COMMANDS_RECEIVED: a publish reaches a field die, which keeps it for its apply tick, or rejects it for its
claim or its image counter; its CAN frames are queued at once (R31, R187, R274, R326). Sensor limits an earlier lane's
governor held end with the first command of a lane whose governor holds none (R443). -/
def outputCommandsReceivedBody (l : LaneId) (d : Nat) (_ : Store) (m : Module) : Module :=
  match takeMail l.num (fdId d) (fun x => match x with | .outputs c => some c | _ => none) m.mail with
  | none => m
  | some (c, rest) =>
    let m := { m with mail := rest }
    let fd := m.fd d
    if !m.fdReach l d then m
    else if c.claim ≠ fd.claim || c.counter ≠ fd.bankCounter || claimLane c.claim ≠ l then rejectClaim d c.claim (fd.cmdCount d c + c.frameCount) m
    else
      let free := !fd.firstCmd && (m.lane l).pwr.step == 0
      let m := m.updFd d fun fd => { fd with
        cmds := fd.cmds ++ [c], firstCmd := true
        supplies := if free then fd.supplies.map fun s => { s with held := none } else fd.supplies }
      forEach c.frames (fun f => canQueue d f.1 c.claim f.2) m

/-- T_safe of a die's bank in ns. -/
def FieldDie.tSafeNs (fd : FieldDie) : Nat := match fd.bank with
  | none => 0
  | some b => b.safety.tSafe * 1000000

/-- T_safe has expired without a valid heartbeat: every output of the die takes its safe state, and its CAN ports go
into restricted operation (R24, R184, R276, R325). -/
def tSafeExpire (d : Nat) (m : Module) : Module :=
  let m := m.updFd d fun fd => { fd with tSafeDone := true }
  let m := enterSafe d (fun _ _ => true) 0 m
  forEach [0, 1, 2, 3] (fun p => canRestrict d p) m

/-- Whether T_safe of a die has run out at the present instant. -/
def Module.tSafeDue (m : Module) (d : Nat) : Bool :=
  let fd := m.fd d
  m.fdUp d && fd.bank.isSome && !fd.tSafeDone && decide (fd.heartAt + fd.tSafeNs ≤ m.now)

/-- The limits of COMMISSION as the lane's commands state them; connectors that become masked enter their safe states
(R42, R184). -/
def setComm (d : Nat) (on : Bool) (m : Module) : Module :=
  let fd := m.fd d
  if fd.inComm == on then m
  else refreshFd d (maskChanged d (fun c => fd.masked d c) (m.updFd d fun fd => { fd with inComm := on }))

/-- A record that an axis may act on: the first after a claim or a start only sets ACK_SEQ; one of another SEQ than
ACK_SEQ waits for the next profile update (R192, R196, R197), as does one for a channel that is no axis, which that update
rejects (R198). A record also ends the axis's safe state (R184). -/
def applyAxis (d c : Nat) (rec : Bytes) (m : Module) : Module :=
  let seq := leAt rec 1 1
  let m := axisLeaveSafe d c (m.updOut d c 0 (leaveSafe ((m.fd d).masked d c)))
  let f (a : Axis) : Axis :=
    if a.state == .notAxis then (if leAt rec 0 1 ≠ 0 then { a with cmd := some rec } else a)
    else if a.syncSeq then { a with syncSeq := false, ackSeq := seq, cmd := none }
    else if leAt rec 0 1 ≠ 0 && seq ≠ a.ackSeq then { a with cmd := some rec }
    else a
  let m := m.updFd d fun fd => { fd with axes := upd fd.axes c f }
  refreshOut d c 0 m

/-- A record that a loop slot may act on (R230): one it rejects is rejected at once, another waits for the row that acts on
it or the slot's next sample. A record ends the safe state of the slot's output (R231). -/
def applyLoop (d k : Nat) (rec : Bytes) (m : Module) : Module :=
  let seq := leAt rec 1 1
  let l := (m.fd d).loopCfg d k
  let s := m.loop d k
  let m :=
    if s.syncSeq then m.updLoop d k fun s => { s with syncSeq := false, ackSeq := seq, cmd := none }
    else if leAt rec 0 1 = 0 || seq = s.ackSeq then m
    else if loopRejects l.kind rec then loopReject d k rec m
    else m.updLoop d k fun s => { s with cmd := some rec }
  if l.kind = 1 then refreshOut d l.outCh l.outN (m.updOut d l.outCh l.outN (leaveSafe ((m.fd d).masked d l.outCh))) else m

/-- The first publish of a start of the lane's tasks that a die applies: the first record of each axis and loop slot only
sets its ACK_SEQ (R197, R230). -/
def seeStart (d : Nat) (c : OutCmds) (m : Module) : Module :=
  if (m.fd d).startSeen = c.start then m
  else m.updFd d fun fd => { fd with
    startSeen := c.start
    axes := fd.axes.map fun a => { a with syncSeq := true }
    loops := fd.loops.map fun s => { s with syncSeq := true } }

/-- One publish applied on a die. -/
def applyCmds (d : Nat) (c : OutCmds) (m : Module) : Module :=
  let m := seeStart d c m
  if c.safe then setComm d false (enterSafe d (fun _ _ => true) 1 m)
  else
    let m := setComm d c.comm m
    let m := forEach c.outs (fun x => applyOut d x.1 x.2.1 x.2.2) m
    let m := forEach c.axes (fun x => applyAxis d x.1 x.2) m
    forEach c.loops (fun x => applyLoop d x.1 x.2) m

/-- Commands of a die whose apply tick has come, oldest first. -/
def FieldDie.dueCmds (fd : FieldDie) (now : Nat) : List OutCmds := fd.cmds.filter fun c => decide (c.tick ≤ now)

/-- A publish kept for its apply tick acts, or is rejected where a higher claim has been latched since it came: every
bridge and step generator compares at its tick (R186, R187). -/
def applyHeld (d : Nat) (c : OutCmds) (m : Module) : Module :=
  let fd := m.fd d
  if c.claim ≠ fd.claim then rejectClaim d c.claim (fd.cmdCount d c) m else applyCmds d c m

/-- What a field die applies at an instant: the publishes whose tick has come, in their order, after a T_safe that has
run out (R31, R184, R186). -/
def applyDue (d : Nat) (m : Module) : Module :=
  if !m.fdUp d then m
  else
    let due := (m.fd d).dueCmds m.now
    let m := m.updFd d fun fd => { fd with cmds := fd.cmds.filter fun c => !decide (c.tick ≤ m.now) }
    let m := if due != [] && m.tSafeDue d then tSafeExpire d m else m
    forEach due (fun c => applyHeld d c) m

/-- COMMAND_APPLY: at the next apply tick every field die applies the commands published for it; a T_safe that ends at
the same instant comes first (R31, R183, R184, R186). -/
def commandApplyBody (_ : Store) (m : Module) : Module :=
  let ticks := m.fdList.flatMap fun d => if m.fdUp d then (m.fd d).cmds.map (·.tick) else []
  match ticks with
  | [] => m
  | t :: ts =>
    let m := clockTo (ts.foldl min t) m
    forEach m.fdList applyDue m

/-! ### Forces -/

/-- Free entries of the force table: the lowest, if any (R154). -/
def Prg.freeEntry (p : Prg) : Option Nat := (List.range 1024).find? fun k => !p.forces.any (·.1 == k)

/-- Result of a force command kept, and a refusal recorded (R153). -/
def forceEnd (l : LaneId) (target code : Nat) (m : Module) : Module :=
  let m := updPrg l (fun p => { p with forceResult := code }) m
  if code = 0 then m else report l 5 0x3006 target code 0 m

/-- R153 code of a SET: the lowest where several conditions hold (DESIGN CHOICE, assumption 52). -/
def Lane.judgeForce (L : Lane) (target value : Nat) : Nat :=
  let c := L.conf
  let held := L.prg.forces.any fun f => f.2.target == target
  if !c.safety.forcingAllowed then 1
  else if !L.sys.mode.runs then 2
  else if c.forceMetrology target then 3
  else if !c.forceTargetOk target then 4
  else if !held && L.prg.freeEntry.isNone then 5
  else if !c.forceValueOk target value then 6
  else 0

/-- Entry a SET uses: the target's own, else the selected one where it is free, else the lowest free one (R154). -/
def Prg.entryFor (p : Prg) (sel target : Nat) : Nat :=
  match p.forces.find? fun f => f.2.target == target with
  | some f => f.1
  | none => if p.forces.any (·.1 == sel) then p.freeEntry.getD 0 else sel

/-- FORCE_SET: OP 1 of `PRG_FORCE_CMD` forces the written target to the written value (R152 to R155). -/
def forceSetBody (l : LaneId) (v : View) (_ : Store) (m : Module) : Module :=
  guardWrite l v (fun m =>
    let L := m.lane l
    let target := L.prg.forceTarget
    let value := L.prg.forceValue
    let code := L.judgeForce target value
    if code ≠ 0 then forceEnd l target code m
    else
      let e := L.prg.entryFor (m.sel l v).prgForce target
      let m := updPrg l (fun p => { p with forces := putKey p.forces e { target := target, value := value } }) m
      let m := updSel l v (fun s => { s with prgForce := e }) m
      let m := report l 5 0x3004 e target value (raise l 5 0x200 (forceEnd l target 0 m))
      followForces l m) m

/-- Whether the mode allows a CLEAR (R153 code 2). -/
def mayClear (md : Mode) : Bool := md.runs || md == .safeHold

/-- FORCE_CLEAR: OP 2 of `PRG_FORCE_CMD` clears the selected entry (R153 to R155). -/
def forceClearBody (l : LaneId) (v : View) (_ : Store) (m : Module) : Module :=
  guardWrite l v (fun m =>
    let L := m.lane l
    let e := (m.sel l v).prgForce
    let target := ((L.prg.forces.find? (·.1 == e)).map fun f => f.2.target).getD 0xFFFFFFFF
    if !mayClear L.sys.mode then forceEnd l target 2 m
    else followForces l (dropForces l 0 (fun k _ => k == e) (forceEnd l target 0 m))) m

/-- FORCE_CLEAR_ALL: OP 3 of `PRG_FORCE_CMD` empties the table (R153 to R155). -/
def forceClearAllBody (l : LaneId) (v : View) (_ : Store) (m : Module) : Module :=
  guardWrite l v (fun m =>
    if !mayClear (m.lane l).sys.mode then forceEnd l 0xFFFFFFFF 2 m
    else followForces l (dropForces l 2 (fun _ _ => true) (forceEnd l 0xFFFFFFFF 0 m))) m

/-! ## Meanings of the commands -/

/-- CYCLE_CLOCK_REQUEST (R27). -/
def execCycleClockRequest (l : LaneId) (t : Nat) (s : State) : Host.Outcome State Fault Refusal :=
  .next (commit s (cycleClockRequestBody l t))

/-- TASK_BOUNDARY (R132). -/
def execTaskBoundary (l : LaneId) (t : Nat) (s : State) : Host.Outcome State Fault Refusal :=
  .next (commit s (taskBoundaryBody l t))

/-- OVERRUN_LIMIT (R138). -/
def execOverrunLimit (l : LaneId) (t : Nat) (s : State) : Host.Outcome State Fault Refusal :=
  .next (commit s (overrunLimitBody l t))

/-- EXECUTION_END (R132). -/
def execExecutionEnd (l : LaneId) (t : Nat) (result : ExecResult) (s : State) : Host.Outcome State Fault Refusal :=
  .next (commit s (executionEndBody l t result))

/-- WATCHDOG (R139). -/
def execWatchdog (l : LaneId) (t : Nat) (s : State) : Host.Outcome State Fault Refusal :=
  .next (commit s (watchdogBody l t))

/-- PUBLISH_COMPLETE (R132). -/
def execPublishComplete (l : LaneId) (t : Nat) (s : State) : Host.Outcome State Fault Refusal :=
  .next (commit s (publishCompleteBody l t))

/-- CARRY_OVER_END (R160). -/
def execCarryOverEnd (l : LaneId) (s : State) : Host.Outcome State Fault Refusal :=
  .next (commit s (carryOverEndBody l))

/-- OUTPUT_COMMANDS_RECEIVED (R187). -/
def execOutputCommandsReceived (l : LaneId) (d : Nat) (s : State) : Host.Outcome State Fault Refusal :=
  .next (commit s (outputCommandsReceivedBody l d))

/-- COMMAND_APPLY (R31). -/
def execCommandApply (s : State) : Host.Outcome State Fault Refusal :=
  .next (commit s (commandApplyBody))

/-- FORCE_SET (R154). -/
def execForceSet (l : LaneId) (v : View) (s : State) : Host.Outcome State Fault Refusal :=
  .next (commit s (forceSetBody l v))

/-- FORCE_CLEAR (R154). -/
def execForceClear (l : LaneId) (v : View) (s : State) : Host.Outcome State Fault Refusal :=
  .next (commit s (forceClearBody l v))

/-- FORCE_CLEAR_ALL (R154). -/
def execForceClearAll (l : LaneId) (v : View) (s : State) : Host.Outcome State Fault Refusal :=
  .next (commit s (forceClearAllBody l v))

end Sys2Proof.Machine
end

