-- ==== Sys2Proof/Machine/Apply.lean ====
section
/-! DEFINITION. A configuration coming into force on a die: what each subsystem of a field die, a solver die and a lane
does as its bank changes (R60, R61, R162, R184, R205, R213, R232, R241, R256, R337, R440, R470, R507). -/

namespace Sys2Proof.Machine

/-! ### A field die -/

/-- Local channels whose CHANNELS item differs between two configurations of a die; all of them where there was none. -/
def changedChans (d : Nat) (old : Option Conf) (new : Conf) : List Nat :=
  (List.range 64).filter fun c =>
    let item (x : Conf) : ChanCfg := keyed x.chans (64 * d + c) {}
    match old with
    | none => true
    | some o => item o != item new

/-- Whether a group of a die's channels uses an input (IN1 or IN2) of its converters. -/
def groupInputs (c : Conf) (d g : Nat) : Bool :=
  (List.range 8).any fun k =>
    let i := keyed c.chans (64 * d + 8 * g + k) {}
    i.in1Range != 0 || i.in2Range != 0

/-- Whether a group of a die's channels uses a bridge. -/
def groupBridges (c : Conf) (d g : Nat) : Bool :=
  (List.range 8).any fun k => outsOf (keyed c.chans (64 * d + 8 * g + k) {}).function != 0

/-- Whether a CAN port of a die is in use. -/
def canUsed (c : Conf) (d : Nat) : Bool :=
  (List.range 4).any fun p => ((c.network.bind fun n => n.ports[4 * d + p]?).getD {}).mode != 0

/-- The domains of a field die asked into the states its configuration gives them (R44, R444). -/
def fieldDoms (d : Nat) (c : Conf) (m : Module) : Module :=
  let die := fdId d
  let l := claimLane (m.fd d).claim
  let off := at? c.power.groupOff d 0
  let state (b : Bool) : DomState := if b then .on else .off
  let m := domRequest l die 0 .on m
  let m := forEach (List.range 8) (fun g => domRequest l die (1 + g) (state (groupInputs c d g && !nbit off g))) m
  let m := forEach (List.range 8) (fun g => domRequest l die (9 + g) (state (groupBridges c d g && !nbit off (8 + g)))) m
  domRequest l die 17 (state (canUsed c d)) m

/-- An axis as a new or changed CHANNELS item leaves it (R205). -/
def Axis.fresh (a : Axis) (stepper : Bool) (item : MotionCfg) (count : BitVec 32) : Axis :=
  if stepper then
    { a with state := .safe, dirNeg := false, accPending := false, referenced := false, stall := false, limit := false
             pCmd := 0, pRef := 0, cRef := count, dev := 0, beyond := 0, speed := 0, acc := item.accInit
             dec := item.decInit, pending := none, item := item, nextItem := none, queue := [], plan := none
             granted := false, cmd := none, ackSeq := 0 }
  else { syncSeq := a.syncSeq, rejectCount := a.rejectCount, rejectReason := a.rejectReason
         stallCount := a.stallCount }

/-- The axes of a die at a swap (R61, R203, R205). -/
def swapAxes (d : Nat) (old : Option Conf) (new : Conf) (changed : List Nat) (m : Module) : Module :=
  let swap (fd : FieldDie) (x : Axis × Nat) : Axis :=
    let n := 64 * d + x.2
    let stepper := (keyed new.chans n {}).function == 1
    let item := keyed new.motion n {}
    if changed.contains x.2 then x.1.fresh stepper item (at? fd.chans x.2 {}).enc
    else if stepper && (old.map fun o => keyed o.motion n {}) != some item then
      { x.1 with nextItem := some item, accPending := true }
    else x.1
  m.updFd d fun fd => { fd with axes := fd.axes.zipIdx.map (swap fd) }

/-- Whether a loop slot's wiring differs (R232). -/
def rewired (a b : LoopCfg) : Bool := a.inSrc != b.inSrc || a.inCh != b.inCh || a.outCh != b.outCh || a.outN != b.outN

/-- A loop slot under a changed item: the image's values in AUTO, the filter and the model from the next sample on; where
its wiring changed, also INIT_ON and both minimum times elapsed; one that is newly configured has ACK_SEQ 0 (R197, R230). Its
saturation flags stay (R222). A change of KIND alone is no change of wiring
(DEDUCED, assumption 49) (R61, R223, R226, R232). -/
def LoopSlot.changed (s : LoopSlot) (old : Option LoopCfg) (new : Option LoopCfg) (count : BitVec 32) : LoopSlot :=
  match new with
  | none => { switches := s.switches, rejects := s.rejects, ackSeq := s.ackSeq, syncSeq := s.syncSeq
              satFilter := s.satFilter, satError := s.satError, satModel := s.satModel }
  | some p =>
    let s := { s with ackSeq := if (match old with | none => true | some o => o.kind == 0) then 0 else s.ackSeq }
    let s := { s with mode := .auto, sp := p.sp, eOn := p.eOn, eOff := p.eOff, setNext := none, plaus := false, count := 0
                      inputBad := false, fbSafe := false, y := 0, yhat := 0, r := 0, first := true, cmd := none }
    if (match old with | none => true | some o => rewired o p) then
      { s with on := nbit p.flags 0, minHold := false, onSince := none, offSince := none, encLast := count }
    else s

/-- The loop slots of a die at a swap; a PLAUS that goes is recorded with source 2, an INPUT_BAD as left (R232, R233). -/
def swapLoops (d : Nat) (old : Option Conf) (new : Conf) (m : Module) : Module :=
  let item (c : Conf) (k : Nat) : Option LoopCfg := (c.loops.find? (·.1 == 64 * d + k)).map (·.2)
  let hit := (List.range 64).filter fun k => (match old with | none => true | some o => item o k != item new k)
  let say (k : Nat) (m : Module) : Module :=
    let s := m.loop d k
    let m := when s.plaus (reportFd d 8 0x4202 (64 * d + k) 2 (ofS 32 s.y)) m
    when s.inputBad (reportFd d 8 0x4203 (64 * d + k) 0 0) m
  let m := forEach hit say m
  let swap (fd : FieldDie) (x : LoopSlot × Nat) : LoopSlot :=
    if hit.contains x.2 then
      let p := item new x.2
      x.1.changed (old.bind fun o => item o x.2) p (at? fd.chans (p.getD {}).inCh {}).enc
    else x.1
  m.updFd d fun fd => { fd with loops := fd.loops.zipIdx.map (swap fd) }

/-- The metering points of a die at a swap: accumulators carry over, pulse slots by R256, settling by R241. -/
def swapMetering (d : Nat) (old : Option Conf) (new : Conf) (m : Module) : Module :=
  let mt := new.metering.getD {}
  let was := old.bind (·.metering)
  let pulses (cs : List PulseCfg) (ps : List PulseOut) : List PulseOut :=
    ps.zipIdx.map fun y => PulseOut.retune (at? cs y.2 {}) y.1
  let mp (fd : FieldDie) (x : MeterPoint × Nat) : MeterPoint :=
    let p := at? mt.mps (32 * d + x.2) {}
    let went := was.any fun o => (at? o.mps (32 * d + x.2) {}).kind != 0
    let settling := p.kind != 0 && p.sensor == 2 && decide (m.now < fd.upAt + 3000000000)
    let a : MeterPoint :=
      if went then x.1
      else { x.1 with startAt := m.now, chain := List.replicate 7 {}, sums := [{}, {}, {}], counted := [{}, {}, {}], n2 := 0
                      nAll := 0, nCounted := 0, clipped := false, crossings := [] }
    { a with settling := settling, pulses := pulses p.pulses x.1.pulses }
  let hp (x : HeatPoint × Nat) : HeatPoint :=
    { x.1 with pulses := pulses (at? mt.hps (16 * d + x.2) {}).pulses x.1.pulses }
  m.updFd d fun fd => { fd with mps := fd.mps.zipIdx.map (mp fd), hps := fd.hps.zipIdx.map hp }

/-- Whether two port items differ in their bit timing. -/
def timingDiffers (a b : CanPortCfg) : Bool :=
  let x : CanPortCfg := { a with recovery := b.recovery, flags := b.flags }
  x != b

/-- The CAN ports of a die at a swap (R61, R337). -/
def swapCan (d : Nat) (old : Option Conf) (new : Conf) (m : Module) : Module :=
  let item (c : Conf) (p : Nat) : CanPortCfg := (c.network.bind fun n => n.ports[4 * d + p]?).getD {}
  let swap (x : CanPort × Nat) : CanPort :=
    let n := item new x.2
    match old.map (item · x.2) with
    | none => x.1
    | some o =>
      let c := x.1
      if o.mode != 0 && timingDiffers o n then { c with oldTiming := some o } else c
  let auto (p : Nat) : Bool := (m.canPort d p).state == 2 && (old.map fun o => (item o p).recovery) == some 1 && (item new p).recovery == 0
  forEach ((List.range 4).filter auto) (fun p => canState d p 3) (m.updFd d fun fd => { fd with can := fd.can.zipIdx.map swap })

/-- The sensor supplies of a die. One that comes on while the governor stands at step 1 or beyond is held at its draw as those
before it (R44, R171, R440; assumption 52). -/
def swapSensors (d : Nat) (new : Conf) (m : Module) : Module :=
  let limited := decide (0 < (m.lane (claimLane (m.fd d).claim)).pwr.step)
  let swap (x : SensorSupply × Nat) : SensorSupply :=
    let on := nbit new.power.sensorEnable (2 * d + x.2)
    let held := if !on then none else if limited && !x.1.on then some (min new.power.sensorLimit (cdiv x.1.ma 10 * 10)) else x.1.held
    { x.1 with on := on, held := held }
  m.updFd d fun fd => { fd with supplies := fd.supplies.zipIdx.map swap }

/-- The item of a loop slot of a die in a configuration. -/
def loopItem (c : Option Conf) (d k : Nat) : Option LoopCfg := c.bind fun c => (c.loops.find? (·.1 == 64 * d + k)).map (·.2)

/-- A configuration comes into force on a field die (R60, R61, R162, R184). Commands accepted before it for a channel
whose item changes, or for a loop slot that changes or drives such a channel, go: the channel holds its safe state until its
first command under the new configuration. -/
def loadField (d : Nat) (new : Conf) (counter : Nat) (m : Module) : Module :=
  let m := judgePulses d m
  let fd := m.fd d
  let old := fd.bank
  let changed := changedChans d old new
  let m := forEach (changed.filter fun c => (at? fd.axes c {}).state != .notAxis) (fun c => axisDrop d c .safe) m
  let loopsChanged := (List.range 64).filter fun k =>
    loopItem old d k != loopItem (some new) d k || (loopItem (some new) d k).any fun p => changed.contains p.outCh
  let held (c : OutCmds) : OutCmds :=
    { c with outs := c.outs.filter (fun o => !changed.contains (o.1 % 64))
             axes := c.axes.filter (fun a => !changed.contains (a.1 % 64))
             loops := c.loops.filter (fun a => !loopsChanged.contains (a.1 % 64)) }
  let idle (x : Channel × Nat) : Channel :=
    let outs := x.1.outs.map fun o => { o with cmd := .off, endOut := false }
    if changed.contains x.2 then { x.1 with outs := outs } else x.1
  let m := m.updFd d fun fd => { fd with
    bank := some new, bankCounter := counter, shadow := old, shadowCounter := fd.bankCounter, applyAt := none
    confirmed := false, cmds := fd.cmds.map held, chans := fd.chans.zipIdx.map idle }
  let m := fieldDoms d new (swapAxes d old new changed m)
  let m := swapCan d old new (swapMetering d old new (swapLoops d old new m))
  let m := maskChanged d (fun c => fd.masked d c) (swapSensors d new m)
  refreshFd d (enterSafe d (fun c _ => changed.contains c) 2 m)

/-- The shadow bank of a field die swapped in (R60 step 7). -/
def swapField (d : Nat) (m : Module) : Module :=
  let fd := m.fd d
  match fd.shadow with
  | some new => loadField d new fd.shadowCounter m
  | none => m

/-! ### A solver die -/

/-- The shadow bank of a solver die swapped in (R60 step 7). -/
def swapSolver (sd : Nat) (m : Module) : Module :=
  askBanks sd (m.updSd sd fun s => match s.shadow with
    | some new => { s with bank := some new, bankCounter := s.shadowCounter, shadow := s.bank
                           shadowCounter := s.bankCounter, applyAt := none, confirmed := false }
    | none => s)

/-- A configuration written into the shadow banks of dies; a die that is not reached stays as it is. The dies that
report STAGED are the control die and those (R60 step 2). -/
def stageDies (l : LaneId) (c : Conf) (dies : List Nat) (m : Module) : Module :=
  let ok := dies.filter fun k =>
    if k < 2 then true else if k < 4 then m.sdReach l (k - 2) else m.fdReach l (k - 4)
  let m := forEach ok (fun k m =>
    if k < 2 then m
    else if k < 4 then m.updSd (k - 2) fun s => { s with shadow := some c, shadowCounter := c.counter }
    else m.updFd (k - 4) fun fd => { fd with shadow := some c, shadowCounter := c.counter }) m
  updCfg l (fun g => { g with staged := ok }) m

/-! ### A lane -/

/-- The slot-selector block: active slot, active counter, counter floor (R34). Its inner layout: assumption 10. -/
def slotSelBody (c : Cfg) : Bytes := leBytes 4 c.activeSlot ++ leBytes 4 0 ++ leBytes 8 c.activeCounter ++ leBytes 8 c.floor

/-- The slot-selector block of a lane written. -/
def writeSlotSel (st : Store) (l : LaneId) (m : Module) : Module :=
  writeBlock .owner st l slotSelBase slotType (slotSelBody (m.lane l).cfg) m

/-- The seal-count block of a lane written, by its own firmware or by the peer active lane. -/
def writeSeal (w : Writer) (st : Store) (l : LaneId) (m : Module) : Module :=
  writeBlock w st l sealBase sealType (leBytes 4 (m.lane l).mtr.sealWord) m

/-- Lane registers that take their value from the active image, and the records of the time slots whose state that changes
(R342, R344, R349, R357, R450, R451, R507). -/
def imageRegs (l : LaneId) (old : Option Conf) (new : Conf) (m0 : Module) : Module :=
  let n := new.network.getD {}
  let p := new.power
  let before := (old.bind (·.network)).getD {}
  let vblk := if 800 < p.blkFMax then 850 else if 600 < p.blkFMax then 780 else if 400 < p.blkFMax then 720 else 680
  let m := m0.updLane l fun L =>
    let slot (x : PtpSlot × Nat) : PtpSlot :=
      let d := at? n.doms x.2 {}
      if !nbit d.flags 0 then {}
      else if old.isSome && at? before.doms x.2 {} == d then x.1
      else { state := .listening, portState := [L.portBegins l x.2 0, L.portBegins l x.2 1] }
    { L with
      clk := { L.clk with blk := L.clk.blk.ask m0.now p.blkFMax vblk, fp := proofClock p }
      pwr := { L.pwr with pAvail := min p.pMax (12 * L.pwr.vIn / 100) }
      ptp := { L.ptp with
        steer := if old.isNone then n.steerInit else L.ptp.steer, slots := L.ptp.slots.zipIdx.map slot
        utcOffset := if L.ptp.utcKnown || new.network.isNone then L.ptp.utcOffset else n.utcOffset } }
  let m := slotChanges l ((m0.lane l).statesUnder before) m
  let m := if old.isSome && !(m.lane l).slotSteers (m.lane l).ptp.steer then holdover l m else m
  slvClocks m

/-- A lane's views of the templates at an apply: IDLE where no job is open, and nothing left of a template that the new
image lacks (R106, R161). -/
def dropViews (l : LaneId) (new : Conf) (m : Module) : Module :=
  m.updLane l fun L =>
    let isOpen (i : Nat) : Bool := L.slv.jobs.any (·.requested == i)
    let view (x : TplView × Nat) : TplView :=
      let v : TplView := if isOpen (x.2 + 1) then x.1 else { result := x.1.result, copied := x.1.copied, miss := x.1.miss }
      if (new.tmpl (x.2 + 1)).isSome then v else { v with result := none, copied := false }
    { L with slv := { L.slv with tpls := L.slv.tpls.zipIdx.map view } }

/-- What of the record engine an apply removes: assemblies and front buffers of entries that change (R337). -/
def dropRecords (l : LaneId) (old : Option Conf) (new : Conf) (m : Module) : Module :=
  let same (r : Nat) : Bool := (old.bind fun o => o.sub r) == new.sub r
  m.updLane l fun L => { L with
    can := { L.can with recs := L.can.recs.map fun e => if same e.record then e else { e with asm := none } }
    prg := { L.prg with recIn := L.prg.recIn.filter fun x => same x.1 }
    slv := { L.slv with warmIn := L.slv.warmIn.filter fun x => (new.tmpl x.1).isSome } }

/-- The program of a lane at a swap with its PROGRAM section changed: requests, forces and output images by R161 and
R511; the frames wait for the carry-over, or are carried at once while no task runs. -/
def swapProgram (l : LaneId) (old : Option Conf) (new : Conf) (m : Module) : Module :=
  let o := old.getD {}
  let L := m.lane l
  let running := L.prg.running
  let count := L.boundaryCount m.now
  let m := forEach [0, 1, 2, 3] (fun t m => dropRequests l t o new (L.task t).released m) m
  let m := dropForces l 1 (fun _ f => !new.forceTargetOk f.target) m
  let swap (x : Task × Nat) : Task :=
    let k := { x.1 with released := x.1.released.filter (fun q => keepsRequest o new q.1) }
    if k.executing then k
    else { k with inImage := fitTo (new.task x.2).snapshotBytes k.inImage, outImage := exchangeOut o new x.2 k.outImage }
  let m := updPrg l (fun p => { p with gen := 1 - p.gen, tasks := p.tasks.zipIdx.map swap }) m
  let m := m.updLane l fun L =>
    if L.red.ckptWait = [] then L else { L with red := { L.red with ckpt := none, ckptWait := [], mirrorAt := none, mirrorDone := none, finalCkpt := false } }
  if running then
    updPrg l (fun p => { p with exchOld := some (o, m.now), exchDelayUs := 0, t0 := m.now, boundaryBase := count }) m
  else
    let c := carryOver o.prog new.prog L.prg.frames
    updPrg l (fun p => { p with
      frames := c.frames, exchInit := sat 65535 c.initialised, exchDropped := sat 65535 c.dropped }) m

end Sys2Proof.Machine
end

