-- ==== Sys2Proof/Machine/Configure.lean ====
section
/-! DEFINITION. The configuration block of a lane: its commands, the end of the consistency check with the mirror to
the standby lane, the arm, and the apply by all dies at one instant (R34 to R36, R47 to R63). -/

namespace Sys2Proof.Machine

/-! ### Commands and the check -/

/-- A command of `CFG_CTRL` refused with a code (R47). -/
def cfgRefuse (l : LaneId) (code : Nat) (m : Module) : Module :=
  updCfg l (fun c => { c with cmdRefused := true, cmdReason := code }) m

/-- Whether a lane's mode forbids ENABLE and APPLY_ARM (R36). -/
def Mode.rests : Mode → Bool
  | .standby | .resync => true
  | _ => false

/-- The check of a LOADING shadow starts; a command out of place is refused (R36, R47). -/
def startCheck (st : Store) (l : LaneId) (m : Module) : Module :=
  let L := m.lane l
  if L.sys.mode.rests then cfgRefuse l 0x0B02 m
  else match L.cfg.state with
    | .checking => cfgRefuse l 0x0B01 m
    | .loading =>
      let i := rawImage (Memory.reads ((m.settled st l).mram l) (imageBase L.cfg.shadowSlot) 256)
      updCfg l (fun c => { c with
        state := .checking, stage := 1, enableAt := m.now, delta := i.kind == 1, mirrorWait := false }) m
    | _ => cfgRefuse l 0x0B02 m

/-- CFG_ENABLE: a write of ENABLE starts the consistency check of a LOADING shadow (R47). -/
def cfgEnableBody (l : LaneId) (v : View) (st : Store) (m : Module) : Module := guardWrite l v (startCheck st l) m

/-- What the check sees of a lane (R50, R51). -/
def Module.checkEnv (m : Module) (st : Store) (l : LaneId) : CheckEnv :=
  let L := m.lane l
  { variant := m.variant, commission := L.sys.mode == .commission
    active := L.cfg.active.map fun _ => composeOver [] (rawImage (slotBytes (st.mram l) L.cfg.activeSlot))
    activeConf := L.cfg.active, activeDigest := L.cfg.activeDigest, activeCounter := L.cfg.activeCounter
    floor := L.cfg.floor, slots := L.key.slots, trng := L.key.trngFailed, sealCount := L.mtr.sealCount, mlogFree := L.evr.mFree
    running := L.prg.running }

/-- The check ends PASSED (R47, R63). -/
def checkPassed (l : LaneId) (mirrored : Bool) (m : Module) : Module :=
  let c := (m.lane l).cfg
  let us := (m.now - c.enableAt) / 1000
  let m := updCfg l (fun c => { c with
    state := .passed, stage := 0, reason := 0, reasonSection := 0, reasonIndex := noIndex, checkTime := us
    mirrorWait := false, mirrored := mirrored }) m
  report l 1 0x1001 c.shadowCounter (c.shadowCounter / 2 ^ 32) us m

/-- The check ends REFUSED (R47, R52, R63). -/
def checkRefused (l : LaneId) (r : Reason) (m : Module) : Module :=
  let us := (m.now - (m.lane l).cfg.enableAt) / 1000
  let m := updCfg l (fun c => { c with
    state := .refused, stage := 0, reason := r.code, reasonSection := r.sect, reasonIndex := r.index, checkTime := us
    mirrorWait := false }) m
  report l 1 0x1002 r.code r.sect r.index m

/-- Code CFG_E_LANE_IMAGE_MISMATCH (R53). -/
def imageMismatch : Reason := { code := 0x0803, sect := 0, index := noIndex }

/-- What a shadow's slot and provenance area hold after its image is composed (R55): a full image stands as it was written; a
delta leaves the composed image in canonical form, and its own signed header with the directory in the area. -/
def storeComposed (st : Store) (l : LaneId) (delta : Bool) (shadow : Bytes) (bodies : Bodies) (m : Module) : Module :=
  let slot := (m.lane l).cfg.shadowSlot
  let i := rawImage shadow
  if delta then
    mramWrite .shadow st l (provBase slot) (fitTo 1024 (shadow.take (256 + 32 * i.count)))
      (mramWrite .shadow st l (imageBase slot) (canonical i bodies) m)
  else m

/-- An image slot and its provenance area read: corrected and uncorrectable groups count (R371). -/
def readSlot (mem : Mem) (l : LaneId) (slot : Nat) (m : Module) : Module :=
  nvmRead l (provBase slot) 1024 (nvmRead l (imageBase slot) (slotBytes mem slot).length m)

/-- The mirror check, the last of stage 4. A lane that is neither in STANDBY nor in RESYNC cannot answer the wake: the check
waits for it as for a silent standby, until MIRROR_TIMEOUT (R56; DESIGN CHOICE, assumption 52). -/
def mirrorCheck (l : LaneId) (m : Module) : Module :=
  let P := m.lane l.other
  if m.variant.nLane = 1 then checkPassed l false m
  else if P.sys.mode == .resync then checkRefused l imageMismatch m
  else updCfg l (fun c => { c with mirrorWait := true, mirrorAt := m.now, stage := 4 }) m

/-- CONSISTENCY_CHECK_END: the check ends, a stated time after its ENABLE, with the first failure or with the mirror
to the standby lane still to come (R50 to R56). In a lane that has come to STANDBY or RESYNC meanwhile it writes no slot and
is refused with CFG_E_MODE_FORBIDS (R36; DESIGN CHOICE, assumption 52). -/
def consistencyCheckEndBody (l : LaneId) (checkUs : Nat) (st : Store) (m : Module) : Module :=
  let L := m.lane l
  if L.cfg.state != .checking || L.cfg.mirrorWait then m
  else
    let m := clockTo (L.cfg.enableAt + 1000 * checkUs) m
    if L.sys.mode.rests then checkRefused l { code := 0x0B02, sect := 0, index := noIndex } m
    else
    let st := m.settled st l
    let shadow := slotBytes (st.mram l) L.cfg.shadowSlot
    let r := consistency (m.checkEnv st l) shadow
    let m := spend 1 l r.uses (readSlot (st.mram l) l L.cfg.shadowSlot m)
    let m := updCfg l (fun c => { c with shadowDigest := r.digest.getD [] }) m
    match r.refusal with
    | some x => checkRefused l x m
    | none =>
      let m := storeComposed st l L.cfg.delta shadow r.bodies m
      let m := updCfg l (fun c => { c with
        candidate := some r.conf, shadowCounter := r.conf.counter, meteringChanged := r.meteringChanged
        sealOk := r.sealOk, programChanged := r.programChanged }) m
      mirrorCheck l m

/-- The shadow of a lane with its provenance area copied into the other lane's shadow slot (R56). -/
def mirrorShadow (st : Store) (l : LaneId) (m : Module) : Module :=
  let from_ := (m.lane l).cfg.shadowSlot
  let mem := (m.settled st l).mram l
  peerShadowWrite st l.other (provBytes mem from_) (slotBytes mem from_) (readSlot mem l from_ m)

/-- STANDBY_DIGEST_REPORT: the standby has programmed the transferred image and reports its configuration digest
(R56). -/
def standbyDigestReportBody (l : LaneId) (st : Store) (m : Module) : Module :=
  let c := (m.lane l).cfg
  let P := m.lane l.other
  if c.state != .checking || !c.mirrorWait || P.sys.mode != .standby || !m.laneLink then m
  else
    let m := mirrorShadow st l m
    let now := (m.cur st).mram l.other
    let i := rawImage (slotBytes now P.cfg.shadowSlot)
    let digest := digestField (canonical i (composeOver [] i))
    if digest = c.shadowDigest then checkPassed l true m else checkRefused l imageMismatch m

/-- MIRROR_TIMEOUT: the standby answers neither the wake nor the transfer in 50 ms, and the check passes without it
(R56). -/
def mirrorTimeoutBody (l : LaneId) (_ : Store) (m : Module) : Module :=
  let c := (m.lane l).cfg
  if c.state != .checking || !c.mirrorWait then m
  else
    let m := clockTo (c.mirrorAt + 50000000) m
    checkPassed l false (report l 1 0x1008 c.shadowCounter (c.shadowCounter / 2 ^ 32) 0 m)

/-! ### Arm and abandon -/

/-- Nanoseconds between the arm and the earliest apply instant (R58, R59). -/
def armLead : Nat := 5000000

/-- The apply instant of an arm written now; none where `CFG_APPLY_AT` names a boundary that is over or too near (R47,
R58, R59). In a mode that runs with no task configured there is no boundary, and the instant is the first 1 ms tick that
leaves the lead (DESIGN CHOICE, assumption 49). -/
def Module.applyInstant (m : Module) (l : LaneId) : Option Nat :=
  let L := m.lane l
  let least := m.now + armLead
  let p := L.conf.commonUs * 1000
  if L.sys.mode.runs && p != 0 then
    if L.cfg.applyAt != 0 then
      let t := L.prg.t0 + (L.cfg.applyAt - L.prg.boundaryBase) * p
      if L.cfg.applyAt ≤ L.boundaryCount m.now ∨ t < least then none else some t
    else some (L.prg.t0 + cdiv (least - L.prg.t0) p * p)
  else some (cdiv least 1000000 * 1000000)

/-- An arm: the apply instant fixed and the shadow banks of the dies written (R47, R58, R60 steps 1 and 2). -/
def arm (l : LaneId) (m : Module) : Module :=
  let c := (m.lane l).cfg
  if (m.lane l).sys.mode.rests then cfgRefuse l 0x0B02 m
  else match c.state, c.candidate with
    | .checking, _ => cfgRefuse l 0x0B01 m
    | .passed, some new =>
      (match m.applyInstant l with
       | none => cfgRefuse l 0x0B02 m
       | some t =>
         let m := updCfg l (fun c => { c with
           state := .armed, armAt := m.now, applyInstant := t, applySent := [], acked := [], confirmSent := false }) m
         stageDies l new (m.applyDies l) m)
    | _, _ => cfgRefuse l 0x0B02 m

/-- APPLY_ARM: a write of APPLY_ARM (R47). -/
def applyArmBody (l : LaneId) (v : View) (_ : Store) (m : Module) : Module := guardWrite l v (arm l) m

/-- A SHADOW_WRITE in execution ends ABORTED (R470). -/
def abortShadowWrite (l : LaneId) (m : Module) : Module :=
  let stop (r : Ring) : Ring := if r.cur.any (·.op == 1) then { r with ending := some (4, 0) } else r
  m.updLane l fun L => { L with hst := { L.hst with rings := upd L.hst.rings 0 stop } }

/-- The shadow discarded (R47). -/
def abandon (l : LaneId) (m : Module) : Module :=
  let c := (m.lane l).cfg
  match c.state with
  | .empty => cfgRefuse l 0x0B02 m
  | .checking =>
    abortShadowWrite l (updCfg l (fun c => { c with
      state := .empty, stage := 0, shadowDigest := [], candidate := none, delta := false, mirrorWait := false }) m)
  | s =>
    if s == .armed && (c.confirmSent || decide (c.applyInstant ≤ m.now)) then
      updCfg l (fun c => { c with abandonLate := true }) m
    else
      let claim := (m.lane l).red.claim
      let m := if s == .armed then
          forEach ((m.applyDies l).filter (2 ≤ ·)) (fun d => send l.num d (.cancel claim)) m
        else m
      let m := updCfg l (fun c => { c with
        state := .empty, shadowDigest := [], candidate := none, delta := false, applySent := [], staged := []
        acked := [] }) m
      report l 1 0x1005 s.code 0 0 (abortShadowWrite l m)

/-- CFG_ABANDON: a write of ABANDON (R47, R48). -/
def cfgAbandonBody (l : LaneId) (v : View) (_ : Store) (m : Module) : Module := guardWrite l v (abandon l) m

/-- A write of `CFG_CTRL`; one with more than one bit set is refused (ch. 02). -/
def writeCfgCtrl (st : Store) (l : LaneId) (value : Word) (m : Module) : Module :=
  let c := fld value 2 0
  if c = 1 then startCheck st l m
  else if c = 2 then arm l m
  else if c = 4 then abandon l m
  else if c = 0 then m
  else cfgRefuse l 0x0B02 m

/-! ### The messages of an apply -/

/-- APPLY_ANNOUNCE: APPLY with t_A goes to every die, 2 ms before t_A and again 1 ms before (R60 steps 3 and 4). -/
def applyAnnounceBody (l : LaneId) (_ : Store) (m : Module) : Module :=
  let c := (m.lane l).cfg
  if c.state != .armed || c.confirmSent then m
  else
    let m := clockTo (c.applyInstant - (if c.applySent = [] then 2000000 else 1000000)) m
    let dies := if c.applySent = [] then m.applyDies l else c.applySent
    let claim := (m.lane l).red.claim
    let m := updCfg l (fun c => { c with applySent := dies, acked := if c.acked.contains l.num then c.acked else l.num :: c.acked }) m
    forEach (dies.filter (2 ≤ ·)) (fun d => send l.num d (.apply claim c.applyInstant)) m

/-- Claim a field or solver die has latched. -/
def Module.dieClaim (m : Module) (die : Nat) : Nat := if die < 4 then (m.sd (die - 2)).claim else (m.fd (die - 4)).claim

/-- The apply registers of a field or solver die. -/
def setDieApply (die : Nat) (at_ : Option Nat) (ok : Bool) (m : Module) : Module :=
  if die < 4 then m.updSd (die - 2) fun s => { s with applyAt := at_, confirmed := ok }
  else m.updFd (die - 4) fun f => { f with applyAt := at_, confirmed := ok }

/-- When a field or solver die is to apply, where it has been told. -/
def Module.dieApplyAt (m : Module) (die : Nat) : Option Nat :=
  if die < 4 then (m.sd (die - 2)).applyAt else (m.fd (die - 4)).applyAt

/-- The message of a kind that waits for a die from one of the lanes, taken from the mail. -/
def takeFromLane {α : Type} (die : Nat) (pick : Msg → Option α) (m : Module) : Option (LaneId × α × Module) :=
  match takeTo die pick m.mail with
  | some (src, a, rest) => some (laneOfDie src, a, { m with mail := rest })
  | none => none

/-- APPLY_MSG: a die that holds the staged image takes t_A and acknowledges to the lane whose claim it has latched
(R60 step 4). -/
def applyMsgBody (die : Nat) (_ : Store) (m : Module) : Module :=
  if die < 2 then m
  else
    let pick : Msg → Option (Nat × Nat)
      | .apply c t => some (c, t)
      | _ => none
    match takeFromLane die pick m with
    | none => m
    | some (l, (claim, t), m) =>
      let c := (m.lane l).cfg
      if claim != m.dieClaim die || !c.staged.contains die then m
      else
        let m := setDieApply die (some t) false m
        updCfg l (fun c => { c with acked := if c.acked.contains die then c.acked else die :: c.acked }) m

/-- The first die that was sent APPLY and has not both staged the image and acknowledged. -/
def Cfg.laggard (c : Cfg) (dies : List Nat) : Option Nat :=
  dies.find? fun d => !(c.staged.contains d && c.acked.contains d)

/-- APPLY_ACK_DEADLINE: 500 µs before t_A the apply is cancelled if any die is not ready (R60 step 5). -/
def applyAckDeadlineBody (l : LaneId) (_ : Store) (m : Module) : Module :=
  let c := (m.lane l).cfg
  if c.state != .armed || c.confirmSent then m
  else
    let m := clockTo (c.applyInstant - 500000) m
    match c.laggard (if c.applySent = [] then m.applyDies l else c.applySent) with
    | some d => cancelArm l d m
    | none => m

/-- CANCEL_MSG: a die forgets the apply it was told of (R60 step 5). -/
def cancelMsgBody (die : Nat) (_ : Store) (m : Module) : Module :=
  if die < 2 then m
  else
    let pick : Msg → Option Nat
      | .cancel c => some c
      | _ => none
    match takeFromLane die pick m with
    | none => m
    | some (_, claim, m) => if claim != m.dieClaim die then m else setDieApply die none false m

/-- APPLY_CONFIRM: 200 µs before t_A CONFIRM goes to every die; from here the apply cannot be stopped. A die that is
not ready by then cancels the apply instead (R60 steps 5 and 6). -/
def applyConfirmBody (l : LaneId) (_ : Store) (m : Module) : Module :=
  let c := (m.lane l).cfg
  if c.state != .armed || c.confirmSent then m
  else match c.laggard (if c.applySent = [] then m.applyDies l else c.applySent) with
    | some d => cancelArm l d m
    | none =>
      let m := clockTo (c.applyInstant - 200000) m
      let claim := (m.lane l).red.claim
      let m := updCfg l (fun c => { c with confirmSent := true }) m
      forEach (c.applySent.filter (2 ≤ ·)) (fun d => send l.num d (.confirm claim)) m

/-- CONFIRM_MSG: a die that knows t_A will swap its banks at it (R60 step 6). -/
def confirmMsgBody (die : Nat) (_ : Store) (m : Module) : Module :=
  if die < 2 then m
  else
    let pick : Msg → Option Nat
      | .confirm c => some c
      | _ => none
    match takeFromLane die pick m with
    | none => m
    | some (_, claim, m) =>
      if claim != m.dieClaim die then m
      else match m.dieApplyAt die with
        | none => m
        | some t => setDieApply die (some t) true m

/-- Whether a die's CONFIRM has come. -/
def Module.dieConfirmed (m : Module) (die : Nat) : Bool :=
  if die < 4 then (m.sd (die - 2)).confirmed else (m.fd (die - 4)).confirmed

/-- BANK_SWAP: a confirmed field or solver die swaps its banks at t_A. The control die's swap is the lane's own
APPLY_INSTANT (R60 step 7). -/
def bankSwapBody (die : Nat) (_ : Store) (m : Module) : Module :=
  if die < 2 || 8 ≤ die then m
  else match m.dieApplyAt die with
    | none => m
    | some t =>
      if !m.dieConfirmed die then m
      else
        let m := clockTo t m
        if die < 4 then swapSolver (die - 2) m else swapField (die - 4) m

/-! ### The apply instant on a lane -/

/-- What of the program's effects an apply with an unchanged PROGRAM section can touch: forces on absent targets go,
and output images follow a changed routing. -/
def keepProgram (l : LaneId) (old : Option Conf) (new : Conf) (m : Module) : Module :=
  let o := old.getD {}
  let m := dropForces l 1 (fun _ f => !new.forceTargetOk f.target) m
  let swap (x : Task × Nat) : Task := { x.1 with outImage := exchangeOut o new x.2 x.1.outImage }
  if o.routes = new.routes then m else updPrg l (fun p => { p with tasks := p.tasks.zipIdx.map swap }) m

/-- The metrology record of a METERING change, with the count in force (R266). -/
def recordChange (l : LaneId) (new : Conf) (m : Module) : Module :=
  report l 9 0x5801 (m.lane l).mtr.sealWord new.counter (leAt new.digest 0 4) m

/-- The seal count, its block and the metrology record of a METERING change that comes into force; the standby's block is
written with its path woken (R264 to R266, R510). -/
def sealChange (st : Store) (l : LaneId) (new : Conf) (ok : Bool) (m : Module) : Module :=
  let m := m.updLane l fun L => { L with mtr := { L.mtr with
    sealCount := (L.mtr.sealCount + 1) % 2 ^ 31, unsealed := !ok } }
  let t := (m.lane l).mtr
  let m := recordChange l new (writeSeal .owner st l m)
  if m.variant.nLane = 1 then m
  else if (m.lane l.other).sys.mode == .standby && m.laneLink then
    let m := wakeReceiver l.other m
    let m := m.updLane l.other fun P => { P with mtr := { P.mtr with sealCount := t.sealCount, unsealed := t.unsealed } }
    receiverDone l.other (writeSeal .peer st l.other m)
  else report l 1 0x1008 new.counter (new.counter / 2 ^ 32) 0 m

/-- The lane's own part of an apply: registers, slot selector, record, metrology, keys, program, what the image gives
the lane's registers, and the mode (R60 steps 7 and 8, R61). -/
def applyLane (st : Store) (l : LaneId) (new : Conf) (m : Module) : Module :=
  let c := (m.lane l).cfg
  let old := c.active
  let m := if c.programChanged then swapProgram l old new m else keepProgram l old new m
  let m := updCfg l (fun c => { c with
    state := .empty, active := some new, activeCounter := new.counter, activeDigest := new.digest
    floor := max c.floor new.counter, activeSlot := c.shadowSlot, shadowDigest := [], candidate := none, delta := false
    applySent := [], staged := [], acked := [], confirmSent := false }) m
  let m := writeSlotSel st l m
  let m := report l 1 0x1003 new.counter (new.counter / 2 ^ 32) (leAt new.digest 0 4) m
  let m := if c.meteringChanged then sealChange st l new c.sealOk m else m
  let m := applySecurity true l new.security m
  let m := if c.mirrored && m.variant.nLane = 2 then applySecurity false l.other new.security m else m
  let changed := (m.fdList.flatMap fun d => (changedChans d old new).map (64 * d + ·))
  let m := dropViews l new (dropRecords l old new (imageRegs l old new m))
  let m := updPrg l (fun p => { p with nyv := p.nyv ++ changed.filter fun x => !p.nyv.contains x }) m
  let m := blkDoms l (if (m.lane l).prg.running then .on else .ret) m
  let m := followForces l m
  match (m.lane l).sys.mode with
  | .blank => enterMode l .loaded 5 m
  | .commission => if new.safety.commissionAllowed then m else enterMode l .loaded 5 m
  | _ => m

/-- APPLY_INSTANT: at t_A the candidate becomes the active image of the lane (R60 steps 7 to 9). -/
def applyInstantBody (l : LaneId) (st : Store) (m : Module) : Module :=
  let c := (m.lane l).cfg
  match c.state == .armed && c.confirmSent, c.candidate with
  | true, some new => applyLane st l new (clockTo c.applyInstant m)
  | _, _ => m

/-! ## Meanings of the commands -/

/-- CFG_ENABLE (R47). -/
def execCfgEnable (l : LaneId) (v : View) (s : State) : Host.Outcome State Fault Refusal :=
  .next (commit s (cfgEnableBody l v))

/-- CONSISTENCY_CHECK_END (R50). -/
def execConsistencyCheckEnd (l : LaneId) (checkUs : Nat) (s : State) : Host.Outcome State Fault Refusal :=
  .next (commit s (consistencyCheckEndBody l checkUs))

/-- STANDBY_DIGEST_REPORT (R56). -/
def execStandbyDigestReport (l : LaneId) (s : State) : Host.Outcome State Fault Refusal :=
  .next (commit s (standbyDigestReportBody l))

/-- MIRROR_TIMEOUT (R56). -/
def execMirrorTimeout (l : LaneId) (s : State) : Host.Outcome State Fault Refusal :=
  .next (commit s (mirrorTimeoutBody l))

/-- APPLY_ARM (R58). -/
def execApplyArm (l : LaneId) (v : View) (s : State) : Host.Outcome State Fault Refusal :=
  .next (commit s (applyArmBody l v))

/-- CFG_ABANDON (R47). -/
def execCfgAbandon (l : LaneId) (v : View) (s : State) : Host.Outcome State Fault Refusal :=
  .next (commit s (cfgAbandonBody l v))

/-- APPLY_ANNOUNCE (R60). -/
def execApplyAnnounce (l : LaneId) (s : State) : Host.Outcome State Fault Refusal :=
  .next (commit s (applyAnnounceBody l))

/-- APPLY_MSG (R60). -/
def execApplyMsg (die : Nat) (s : State) : Host.Outcome State Fault Refusal :=
  .next (commit s (applyMsgBody die))

/-- APPLY_ACK_DEADLINE (R60). -/
def execApplyAckDeadline (l : LaneId) (s : State) : Host.Outcome State Fault Refusal :=
  .next (commit s (applyAckDeadlineBody l))

/-- CANCEL_MSG (R60). -/
def execCancelMsg (die : Nat) (s : State) : Host.Outcome State Fault Refusal :=
  .next (commit s (cancelMsgBody die))

/-- APPLY_CONFIRM (R60). -/
def execApplyConfirm (l : LaneId) (s : State) : Host.Outcome State Fault Refusal :=
  .next (commit s (applyConfirmBody l))

/-- CONFIRM_MSG (R60). -/
def execConfirmMsg (die : Nat) (s : State) : Host.Outcome State Fault Refusal :=
  .next (commit s (confirmMsgBody die))

/-- BANK_SWAP (R60). -/
def execBankSwap (die : Nat) (s : State) : Host.Outcome State Fault Refusal :=
  .next (commit s (bankSwapBody die))

/-- APPLY_INSTANT (R60). -/
def execApplyInstant (l : LaneId) (s : State) : Host.Outcome State Fault Refusal :=
  .next (commit s (applyInstantBody l))

end Sys2Proof.Machine
end

