-- ==== Sys2Proof/Machine/Claims.lean ====
section
/-! DEFINITION. Claims on the dies' side: heartbeats, vacancy, T_safe, the replies of a quorum exchange and the latch of
a raise, with the lane's heartbeats (R20, R21, R271 to R279, R184, R353, R395). -/

namespace Sys2Proof.Machine

/-- The redundancy block of a lane changed. -/
def updRed (l : LaneId) (f : Red → Red) (m : Module) : Module := m.updLane l fun L => { L with red := f L.red }

/-- Whether a lane's link to a field die works, whatever the die's supply. -/
def Lane.fldLink (L : Lane) (d : Nat) : Bool := at? L.fldUp d false

/-- T_VACANT of a lane's image in ns. -/
def Lane.tVacantNs (L : Lane) : Nat := L.conf.safety.tVacant * 1000000

/-- T_VACANT of a field die's bank in ns. -/
def FieldDie.tVacantNs (fd : FieldDie) : Nat := ((fd.bank.map Conf.safety).getD {}).tVacant * 1000000

/-! ### Heartbeats -/

/-- The MAC of a heartbeat under K_HB (R424). -/
def heartbeatMac (key : Bytes) (claim counter seq tb : Nat) (tbOffset : Int) (slot state : Nat) : Bytes :=
  (hmac key (Config.heartbeatBytes claim counter seq tb tbOffset slot state)).take 8

/-- The present heartbeat of a lane sent to every field die it reaches (R275, R353). -/
def sendHeartbeats (l : LaneId) (m : Module) : Module :=
  let L := m.lane l
  let mac := heartbeatMac keyHb L.red.claim L.cfg.activeCounter L.red.hbSeq m.us L.prg.tbOffset L.ptp.steer L.ptp.steerState
  let msg : Msg := .heartbeat L.red.claim L.cfg.activeCounter L.red.hbSeq m.us L.prg.tbOffset L.ptp.steer
    L.ptp.steerState mac
  forEach (m.fdList.filter fun d => m.fdReach l d) (fun d => send l.num (fdId d) msg) m

/-- A lane toggles its end of the lane wire; the other lane sees an edge, the first of a span without a gap of 3 ms where
the one before is that long ago (R275, R277). -/
def toggleWire (l : LaneId) (m : Module) : Module :=
  let last := (m.lane l).red.wireAt
  let two := m.variant.nLane == 2
  let m := updRed l (fun r => { r with wire := if two then !r.wire else r.wire, wireAt := m.now }) m
  let span (s : Option Nat) : Option Nat := match s with
    | some t => if m.now < last + 3000000 then some t else some m.now
    | none => some m.now
  if two then updRed l.other (fun r => { r with wireSince := span r.wireSince }) m else m

/-- HEARTBEAT_TICK: every 1 ms the active lane sends its heartbeats and toggles its end of the lane wire; a lane that
has sent RELEASE sends none (R275, R296). -/
def heartbeatTickBody (l : LaneId) (_ : Store) (m : Module) : Module :=
  let L := m.lane l
  if !L.red.holds || L.red.releaseAt.isSome then m
  else
    let m := clockTo (m.gridAfter 1000000 L.red.wireAt) m
    sendHeartbeats l (toggleWire l (updRed l (fun r => { r with hbSeq := (r.hbSeq + 1) % 2 ^ 32 }) m))

/-- A die that missed CONFIRM swaps at the first heartbeat that carries the new counter (R60 step 10). -/
def lateSwap (l : LaneId) (d counter : Nat) (m : Module) : Module :=
  let fd := m.fd d
  match fd.applyAt with
  | some t =>
    if !fd.confirmed && counter != fd.bankCounter && fd.shadowCounter == counter && decide (t ≤ m.now) then
      let m := updCfg l (fun c => { c with applyLateDie := true }) (swapField d m)
      reportFd d 1 0x1006 (fdId d) ((m.now - t) / 1000) 0 m
    else m
  | none => m

/-- HEARTBEAT_RECEIVED: a field die checks the next heartbeat of a lane. A valid one ends a vacancy and starts T_VACANT
and T_safe anew; the die aligns its time base to the message's and keeps the rest of it (R28, R275, R276, R353). -/
def heartbeatReceivedBody (l : LaneId) (d : Nat) (_ : Store) (m : Module) : Module :=
  let pick : Msg → Option (Nat × Nat × (Nat × Nat × Int) × Nat × Nat × Bytes)
    | .heartbeat c k s tb o sl sst mac => some (c, k, (s, tb, o), sl, sst, mac)
    | _ => none
  match takeMail l.num (fdId d) pick m.mail with
  | none => m
  | some ((claim, counter, (seq, tb, off), slot, state, mac), rest) =>
    let m := { m with mail := rest }
    let fd := m.fd d
    if !m.fdReach l d || claim != fd.claim || claimLane claim != l ||
        mac != heartbeatMac fd.kHb claim counter seq tb off slot state then m
    else
      let m := m.updFd d fun fd =>
        { fd.takeTime m.now tb off slot state with heartAt := m.now, vacant := false, tSafeDone := false }
      lateSwap l d counter m

/-! ### Vacancy and T_safe -/

/-- A field die enters VACANT (R276). -/
def vacate (d : Nat) (m : Module) : Module := m.updFd d fun fd =>
  { fd with vacant := true, vacantAt := m.now, vacantTb := (fd.tb m.now).toNat }

/-- VACANCY: a field die has had no valid heartbeat for T_VACANT (R276). -/
def vacancyBody (d : Nat) (_ : Store) (m : Module) : Module :=
  let fd := m.fd d
  if !m.fdUp d || fd.vacant || m.variant.nLane = 1 then m
  else vacate d (clockTo (fd.heartAt + fd.tVacantNs) m)

/-- T_SAFE_EXPIRY: T_safe has passed since the last valid heartbeat or latch; outputs take their safe states and CAN
ports restricted operation (R184, R276, R325). -/
def tSafeExpiryBody (d : Nat) (_ : Store) (m : Module) : Module :=
  let fd := m.fd d
  if !m.fdUp d || fd.bank.isNone || fd.tSafeDone then m
  else tSafeExpire d (clockTo (fd.heartAt + fd.tSafeNs) m)

/-- RELEASE_MSG: RELEASE under the latched claim puts a field die into VACANT at once (R276, R296). -/
def releaseMsgBody (l : LaneId) (d : Nat) (_ : Store) (m : Module) : Module :=
  let pick : Msg → Option Nat
    | .release c => some c
    | _ => none
  match takeMail l.num (fdId d) pick m.mail with
  | none => m
  | some (claim, rest) =>
    let m := { m with mail := rest }
    if !m.fdReach l d || claim != (m.fd d).claim || claimLane claim != l then m else vacate d m

/-! ### Replies -/

/-- Bytes 0x00 to 0x2F of a reply (R278). -/
def ClaimReply.body (r : ClaimReply) : Bytes :=
  leBytes 1 r.die ++ leBytes 1 r.result ++ leBytes 2 0 ++ leBytes 4 r.claim ++ leBytes 4 r.proposed ++ leBytes 4 0 ++
    leBytes 8 r.vacantSince ++ leBytes 8 r.replyTb ++ leBytes 8 r.imageCounter ++ leBytes 8 0

/-- The MAC of a reply under K_TOK (R278, R424). -/
def ClaimReply.macBy (key : Bytes) (r : ClaimReply) : Bytes := (hmac key r.body).take 16

/-- Whether a reply is raise evidence for a claim (R278). -/
def ClaimReply.evidence (c : Nat) (r : ClaimReply) : Bool :=
  (r.result == 0 && r.proposed == c) || (r.result == 1 && r.claim == c)

/-- CLAIM_REQUEST: a field die answers a lane's request (R278). -/
def claimRequestBody (l : LaneId) (d : Nat) (_ : Store) (m : Module) : Module :=
  let pick : Msg → Option Nat
    | .claimRequest c => some c
    | _ => none
  match takeMail l.num (fdId d) pick m.mail with
  | none => m
  | some (c, rest) =>
    let m := { m with mail := rest }
    let fd := m.fd d
    if !m.fdReach l d then m
    else
      let res := if fd.vacant then 0 else if fd.claim = c then 1 else 2
      let r : ClaimReply := { die := fdId d, result := res, claim := fd.claim, proposed := c
                              vacantSince := if res = 0 then fd.vacantTb / 1000 else 0, replyTb := fd.tbUs m.now
                              imageCounter := fd.bankCounter }
      send (fdId d) l.num (.claimReply { r with mac := r.macBy fd.kTok }) m

/-! ### The latch -/

/-- Whether the evidence of a raise lets a die that holds a claim latch `c` (R279). -/
def raiseAccepted (quorum held : Nat) (key : Bytes) (now c : Nat) (ev : List ClaimReply) : Bool :=
  decide (held < c) && decide (quorum ≤ (ev.map (·.die)).dedup.length) &&
    ev.all fun r =>
      r.mac == r.macBy key && (if r.result = 0 then r.claim == held && r.proposed == c else r.result == 1 && r.claim == c)
        && decide (now / 1000 ≤ r.replyTb + 10000)

/-- Events a field die kept while it heard no heartbeat, delivered to a lane with the counts of those it dropped
(R395). -/
def deliverEvents (st : Store) (l : LaneId) (d : Nat) (m : Module) : Module :=
  let fd := m.fd d
  let m := m.updFd d fun fd => { fd with evq := [], evDropped := 0, evDroppedMet := 0 }
  let m := forEach fd.evq (fun r m =>
    m.updLane l fun L =>
      let r := { r with opsec := L.sys.opsec, pcc := L.sys.pcc, flags := m.recFlags l r.code r.flags }
      L.take m.now m.supplyGood r) m
  if fd.evDropped = 0 then m
  else reportAs l (fdId d) 14 0x0105 0 (fdId d) fd.evDropped fd.evDroppedMet (mlogLose (m.cur st) l fd.evDroppedMet m)

/-- A field die latches a claim: every arbiter of the die in one FLD cycle (R187, R197, R276, R325). -/
def latchField (st : Store) (l : LaneId) (d c : Nat) (m : Module) : Module :=
  let m := m.updFd d fun fd => { fd with
    claim := c, heartAt := m.now, vacant := false, tSafeDone := false, firstCmd := false
    axes := fd.axes.map fun a => { a with syncSeq := true }
    loops := fd.loops.map fun s => { s with syncSeq := true } }
  let m := forEach [0, 1, 2, 3] (fun p => canClaim d p c) m
  deliverEvents st l d m

/-- CLAIM_RAISE: a die checks a raise and its evidence, and latches the claim or rejects it (R279). -/
def claimRaiseBody (l : LaneId) (die : Nat) (st : Store) (m : Module) : Module :=
  let pick : Msg → Option (Nat × List ClaimReply)
    | .claimRaise c ev => some (c, ev)
    | _ => none
  match (if 2 ≤ die then takeMail l.num die pick m.mail else none) with
  | none => m
  | some ((c, ev), rest) =>
    let m := { m with mail := rest }
    let q := m.variant.quorum
    if die < 4 then
      let sd := die - 2
      if !m.sdReach l sd then m
      else if raiseAccepted q (m.sd sd).claim (m.sd sd).kTok m.now c ev && claimLane c == l then solverClaim sd c m
      else reportSd sd 10 0x6006 die c 1 m
    else
      let d := die - 4
      let fd := m.fd d
      if !m.fdReach l d then m
      else if raiseAccepted q fd.claim fd.kTok (fd.tb m.now).toNat c ev && claimLane c == l then
        send die l.num (.claimAck c) (latchField st l d c m)
      else
        let m := m.updFd d fun fd => { fd with claimRejected := sat max32 (fd.claimRejected + 1) }
        reportFd d 10 0x6006 die c 1 m

/-! ## Meanings of the commands -/

/-- HEARTBEAT_TICK (R275). -/
def execHeartbeatTick (l : LaneId) (s : State) : Host.Outcome State Fault Refusal :=
  .next (commit s (heartbeatTickBody l))

/-- HEARTBEAT_RECEIVED (R275). -/
def execHeartbeatReceived (l : LaneId) (d : Nat) (s : State) : Host.Outcome State Fault Refusal :=
  .next (commit s (heartbeatReceivedBody l d))

/-- VACANCY (R276). -/
def execVacancy (d : Nat) (s : State) : Host.Outcome State Fault Refusal :=
  .next (commit s (vacancyBody d))

/-- T_SAFE_EXPIRY (R184). -/
def execTSafeExpiry (d : Nat) (s : State) : Host.Outcome State Fault Refusal :=
  .next (commit s (tSafeExpiryBody d))

/-- RELEASE_MSG (R276). -/
def execReleaseMsg (l : LaneId) (d : Nat) (s : State) : Host.Outcome State Fault Refusal :=
  .next (commit s (releaseMsgBody l d))

/-- CLAIM_REQUEST (R278). -/
def execClaimRequest (l : LaneId) (d : Nat) (s : State) : Host.Outcome State Fault Refusal :=
  .next (commit s (claimRequestBody l d))

/-- CLAIM_RAISE (R279). -/
def execClaimRaise (l : LaneId) (die : Nat) (s : State) : Host.Outcome State Fault Refusal :=
  .next (commit s (claimRaiseBody l die))

end Sys2Proof.Machine
end

