-- ==== Sys2Proof/Machine/Keeper.lean ====
section
/-! DEFINITION. Thyme, the time keeper of a lane's always-on domain: the calendar and its coherent reading, staging and
commit, the alarm and the power-on request, the cells, and the operating time (R378, R402 to R418). -/

namespace Sys2Proof.Machine

/-- The time keeper of a lane changed. -/
def updRtc (l : LaneId) (f : Rtc → Rtc) (m : Module) : Module := m.updLane l fun L => { L with rtc := f L.rtc }

/-! ### The calendar -/

/-- A leap year (R403). -/
def leapYear (y : Nat) : Bool := y % 4 == 0 && (y % 100 != 0 || y % 400 == 0)

/-- Days of a month (R403). -/
def daysIn (y mon : Nat) : Nat :=
  if mon = 2 then (if leapYear y then 29 else 28) else if mon ∈ [4, 6, 9, 11] then 30 else 31

/-- Days from 2000-01-01 to a date. -/
def dayNumber (y mon day : Nat) : Nat :=
  let years := (List.range (y - 2000)).foldl (fun n k => n + if leapYear (2000 + k) then 366 else 365) 0
  years + (List.range (mon - 1)).foldl (fun n k => n + daysIn y (k + 1)) 0 + (day - 1)

/-- Weekday of a date, 1 Monday to 7 Sunday (R402). -/
def weekday (y mon day : Nat) : Nat := (dayNumber y mon day + 5) % 7 + 1

/-- Seconds of a calendar since 2000-01-01 00:00:00. -/
def Cal.seconds (c : Cal) : Int := (((dayNumber c.year c.mon c.day * 24 + c.hour) * 60 + c.min) * 60 + c.sec : Nat)

/-- A calendar one second on; at the end of the range it runs on at its start (R403, R406). -/
def Cal.next (c : Cal) : Cal :=
  if c.sec < 59 then { c with sec := c.sec + 1 }
  else if c.min < 59 then { c with sec := 0, min := c.min + 1 }
  else if c.hour < 23 then { c with sec := 0, min := 0, hour := c.hour + 1 }
  else
    let wd := c.wday % 7 + 1
    if c.day < daysIn c.year c.mon then { c with sec := 0, min := 0, hour := 0, wday := wd, day := c.day + 1 }
    else if c.mon < 12 then { c with sec := 0, min := 0, hour := 0, wday := wd, day := 1, mon := c.mon + 1 }
    else if c.year < 2399 then { sec := 0, min := 0, hour := 0, wday := wd, day := 1, mon := 1, year := c.year + 1 }
    else {}

/-- The date parameter of an event (R418). -/
def dateParam (year mon day : Nat) : Nat := year * 65536 + mon * 256 + day

/-- The time parameter of an event (R418). -/
def timeParam (hour min sec : Nat) : Nat := hour * 65536 + min * 256 + sec

/-- Whether a lane's always-on domain runs: it has had supply, and no source failed since. -/
def Rtc.alive (r : Rtc) : Bool := !r.lostAll && !r.stopped

/-! ### Events, OSF and the power-on request -/

/-- An event of the time keeper: recorded on supply, kept as a status on backup (R416). -/
def rtcEvent (l : LaneId) (code p0 p1 : Nat) (m : Module) : Module :=
  if m.supplyGood && !(m.lane l).rtc.onBackup then report l 15 code p0 p1 0 m
  else updRtc l (fun r => { r with kept := putKey r.kept code (p0, p1) }) m

/-- OSF is set (R408). -/
def setOsf (l : LaneId) (cause : Nat) (m : Module) : Module :=
  rtcEvent l 0x8203 cause 0 (raise l 15 2 (updRtc l (fun r => { r with osf := true, osfCause := cause }) m))

/-- PWR_ON_REQ driven while the supply is not good (R415). -/
def requestPower (l : LaneId) (source : Nat) (m : Module) : Module :=
  if m.supplyGood || (m.lane l).rtc.pwrOnAt.isSome then m
  else updRtc l (fun r => { r with pwrOnAt := some (m.now, source), pwron := true }) m

/-- PWR_ON_REQ released; its event waits for the lane's start (R415, R416). -/
def releasePower (l : LaneId) (m : Module) : Module :=
  match (m.lane l).rtc.pwrOnAt with
  | none => m
  | some (t, source) =>
    updRtc l (fun r => { r with pwrOnAt := none, kept := putKey r.kept 0x8205 (source, (m.now - t) / 1000000000) }) m

/-- PWR_ON_REQ_TIMEOUT: the request is released after HOLD_S seconds; 0 is taken as 1 (R415). -/
def pwrOnReqTimeoutBody (l : LaneId) (_ : Store) (m : Module) : Module :=
  let r := (m.lane l).rtc
  match r.pwrOnAt with
  | none => m
  | some (t, _) => releasePower l (clockTo (t + 1000000000 * max 1 r.holdS) m)

/-! ### Seconds and the alarm -/

/-- Whether every enabled alarm field matches the calendar (R414). -/
def Rtc.alarmHit (r : Rtc) (c : Cal) : Bool :=
  let on (k : Nat) : Bool := bitOf r.almCtrl k
  let ok (k a b : Nat) : Bool := !on k || a == b
  fld r.almCtrl 4 0 != 0 && ok 0 (fld r.almTime 5 0) c.sec && ok 1 (fld r.almTime 13 8) c.min &&
    ok 2 (fld r.almTime 20 16) c.hour && ok 3 (fld r.almDate 4 0) c.day && ok 4 (fld r.almDate 11 8) c.mon

/-- The alarm matches (R414, R415). -/
def alarm (l : LaneId) (m : Module) : Module :=
  let r := (m.lane l).rtc
  let c := r.cal
  let m := updRtc l (fun r => { r with alarm := true }) m
  let m := rtcEvent l 0x8204 (dateParam c.year c.mon c.day) (timeParam c.hour c.min c.sec) (raise l 15 1 m)
  if r.alarmEn then requestPower l 0 m else m

/-- A time put into the staging registers (R407). -/
def Rtc.stage (c : Cal) (r : Rtc) : Rtc :=
  { r with stgSec := c.sec, stgMin := c.min, stgHour := c.hour, stgDay := c.day, stgMon := c.mon, stgYear := c.year }

/-- The time that the staging registers hold (R407). -/
def Rtc.staged (r : Rtc) : Cal :=
  { sec := r.stgSec, min := r.stgMin, hour := r.stgHour, day := r.stgDay, mon := r.stgMon, year := r.stgYear }

/-- Whether a staged set is a time that exists (R407). -/
def Rtc.stagedOk (r : Rtc) : Bool :=
  decide (r.stgSec ≤ 59) && decide (r.stgMin ≤ 59) && decide (r.stgHour ≤ 23) && decide (1 ≤ r.stgMon) &&
    decide (r.stgMon ≤ 12) && decide (2000 ≤ r.stgYear) && decide (r.stgYear ≤ 2399) && decide (1 ≤ r.stgDay) &&
    decide (r.stgDay ≤ daysIn r.stgYear r.stgMon)

/-- A second tick in the AO cycle of a commit discarded: what it set, and its records that still wait (R417). -/
def discardTick (l : LaneId) (m : Module) : Module :=
  let r := (m.lane l).rtc
  match r.undo with
  | none => m
  | some u =>
    if r.secAt + 30518 ≤ m.now then m
    else
      let ticks (e : EvRec) : Bool := e.code == 0x8203 || e.code == 0x8204
      m.updLane l fun L => { L with
        rtc := { r with
          osf := u.osf, osfCause := u.osfCause, alarm := u.alarm, pwron := u.pwron, pwrOnAt := u.pwrOnAt, irq := u.irq
          kept := u.kept, undo := none }
        evr := { L.evr with intake := (L.evr.intake.reverse.dropWhile ticks).reverse } }

/-- The running calendar set: a tick of the same AO cycle is discarded, the prescaler restarts and OSF clears (R407,
R417). -/
def setCalendar (l : LaneId) (c : Cal) (m : Module) : Module :=
  updRtc l (fun r => { r with cal := { c with wday := weekday c.year c.mon c.day }, secAt := m.now, osf := false })
    (discardTick l m)

/-- A staged set that is no time is rejected: the event goes to the lane whose time keeper it is (R407). -/
def rejectDate (l : LaneId) (view : Nat) (m : Module) : Module :=
  let r := (m.lane l).rtc
  report l 15 0x8202 (dateParam r.stgYear r.stgMon r.stgDay) (timeParam r.stgHour r.stgMin r.stgSec) view
    (raise l 15 8 (updRtc l (fun r => { r with errDate := true }) m))

/-- The active lane commits, at its own second, what it has staged into its standby's time keeper; its lockout keeps the
staged set and commits nothing (R407, R409, R412, R417). -/
def peerCalendar (l : LaneId) (m : Module) : Module :=
  let a := (m.lane l).rtc
  let b := (m.lane l.other).rtc
  let m := updRtc l (fun r => { r with peerSet := false }) m
  if !m.active l || !m.laneLink || !b.alive || a.osf || b.lockout then m
  else if !b.stagedOk then rejectDate l.other 1 m
  else
    let m := setCalendar l.other b.staged m
    report l 15 0x8207 (ofS 32 (b.cal.seconds - a.cal.seconds)) (b2n b.osf) 0 m

/-- RTC_SECOND_TICK: the calendar moves on by one second, 1 s after the present one began (R403, R406, R409, R414). -/
def rtcSecondTickBody (l : LaneId) (_ : Store) (m : Module) : Module :=
  let r := (m.lane l).rtc
  if !r.alive then m
  else
    let m := clockTo (r.secAt + 1000000000) m
    let wrap := r.cal.year == 2399 && r.cal.next.year == 2000
    let hit := r.alarmHit r.cal.next
    let undo : TickUndo := { osf := r.osf, osfCause := r.osfCause, alarm := r.alarm, pwron := r.pwron, pwrOnAt := r.pwrOnAt
                             irq := r.irq, kept := r.kept }
    let m := updRtc l (fun r => { r with
      cal := r.cal.next, secAt := m.now, undo := if wrap || hit then some undo else none }) m
    let m := if wrap then setOsf l 3 m else m
    let m := if hit then alarm l m else m
    if r.peerSet then peerCalendar l m else m

/-! ### Registers -/

/-- A read of the time keeper: 0 under the lockout (R412). -/
def rtcRead (l : LaneId) (v : View) (f : Module → Module) (m : Module) : Module :=
  guardRead l v (fun m => if (m.lane l).rtc.lockout then onBus 0 m else f m) m

/-- A write to the time keeper: ignored under the lockout (R412). -/
def rtcWrite (l : LaneId) (v : View) (f : Module → Module) (m : Module) : Module :=
  guardWrite l v (fun m => if (m.lane l).rtc.lockout then m else f m) m

/-- A view's frozen calendar. -/
def Rtc.frozen (r : Rtc) (v : View) : Option (Cal × Nat) := at? r.shadow (viewIdx v) none

/-- RTC_SEC_READ: outside a freeze the read copies the calendar into the view's shadows and starts a freeze (R405). -/
def rtcSecReadBody (l : LaneId) (v : View) (_ : Store) (m : Module) : Module :=
  rtcRead l v (fun m =>
    let r := (m.lane l).rtc
    match r.frozen v with
    | some s => onBus (word s.1.sec) m
    | none => onBus (word r.cal.sec) (updRtc l (fun r => { r with shadow := upd r.shadow (viewIdx v) fun _ => some (r.cal, m.now) }) m)) m

/-- RTC_YEAR_READ: the shadow year, which ends the view's freeze (R405). -/
def rtcYearReadBody (l : LaneId) (v : View) (_ : Store) (m : Module) : Module :=
  rtcRead l v (fun m =>
    let r := (m.lane l).rtc
    let y := match r.frozen v with
      | some s => s.1.year
      | none => r.cal.year
    onBus (word y) (updRtc l (fun r => { r with shadow := upd r.shadow (viewIdx v) fun _ => none }) m)) m

/-- RTC_FREEZE_TIMEOUT: a freeze ends 1 s after the read that began it (R405). -/
def rtcFreezeTimeoutBody (l : LaneId) (v : View) (_ : Store) (m : Module) : Module :=
  match (m.lane l).rtc.frozen v with
  | none => m
  | some s => updRtc l (fun r => { r with shadow := upd r.shadow (viewIdx v) fun _ => none }) (clockTo (s.2 + 1000000000) m)

/-- RTC_COMMIT: a write of GO checks the staging set and takes or rejects it whole (R407). -/
def rtcCommitBody (l : LaneId) (v : View) (value : Word) (_ : Store) (m : Module) : Module :=
  rtcWrite l v (fun m =>
    let r := (m.lane l).rtc
    let date := dateParam r.stgYear r.stgMon r.stgDay
    let time := timeParam r.stgHour r.stgMin r.stgSec
    if !bitOf value 0 then m
    else if r.stagedOk then report l 15 0x8201 date time (viewIdx v) (setCalendar l r.staged m)
    else rejectDate l (viewIdx v) m) m

/-- Whether an alarm register takes a value (R414). -/
def alarmOk (date : Bool) (w : Word) : Bool :=
  if date then decide (1 ≤ fld w 4 0) && decide (1 ≤ fld w 11 8) && decide (fld w 11 8 ≤ 12)
  else decide (fld w 5 0 ≤ 59) && decide (fld w 13 8 ≤ 59) && decide (fld w 20 16 ≤ 23)

/-- RTC_ALARM_WRITE: a write of `RTC_ALM_TIME` (0x040) or `RTC_ALM_DATE` (0x044) is checked and stored, or refused
(R414). -/
def rtcAlarmWriteBody (l : LaneId) (v : View) (addr : Nat) (value : Word) (_ : Store) (m : Module) : Module :=
  rtcWrite l v (fun m =>
    let off := addr % 0x1000
    if off ≠ 0x40 ∧ off ≠ 0x44 then m
    else if !alarmOk (off == 0x44) value then updRtc l (fun r => { r with errAlarm := true }) m
    else if off = 0x40 then updRtc l (fun r => { r with almTime := value &&& 0x001F3F3F }) m
    else updRtc l (fun r => { r with almDate := value &&& 0x0FFF0F1F }) m) m

/-! ### Oscillator, cells, operating time -/

/-- OSCILLATOR_STOP: the oscillator has missed 8 or more cycles (R408). -/
def oscillatorStopBody (l : LaneId) (_ : Store) (m : Module) : Module :=
  if (m.lane l).rtc.alive then setOsf l 1 m else m

/-- Whether a backup on the external cell is selected (R410). -/
def Rtc.extern (r : Rtc) (extMv : Nat) : Bool := (r.backupCfg % 4 == 1 || r.backupCfg % 4 == 2) && decide (2500 ≤ extMv)

/-- Whether the charger of a supplied domain delivers current: to an internal cell below its float of 3.90 V, or with
EXT_MODE 2 to an external cell below EXT_FLOAT (R411). -/
def Rtc.charges (r : Rtc) : Bool :=
  decide (r.intMv < 3900) || (r.backupCfg % 4 == 2 && decide (r.extMv < if nbit r.backupCfg 4 then 3900 else 3000))

/-- CELL_MEASURE: every 60 s the cells are measured (R410, R411, R413). -/
def cellMeasureBody (l : LaneId) (intMv extMv : Nat) (_ : Store) (m : Module) : Module :=
  let r := (m.lane l).rtc
  if !r.alive then m
  else
    let m := clockTo (r.cellAt + 60000000000) m
    let low := decide (intMv < 3300)
    let m := updRtc l (fun r =>
      let r : Rtc := { r with
        cellAt := m.now, intMv := intMv % 65536, extMv := extMv % 65536, cellLow := low, extSelected := r.extern extMv }
      { r with charging := m.supplyGood && r.charges }) m
    if low = r.cellLow then m
    else
      let m := if low then raise l 15 4 m else m
      if m.supplyGood then report l 15 0x8206 intMv (b2n low) 0 m else m

/-- BACKUP_SOURCE_LOW: the selected source falls below 2.0 V and the domain stops (R413). -/
def backupSourceLowBody (l : LaneId) (_ : Store) (m : Module) : Module :=
  if (m.lane l).rtc.onBackup then updRtc l (fun r => { r with stopped := true, pwrOnAt := none, shadow := [none, none] }) m else m

/-- OPERATING_TIME_TICK: at each whole second of supply good the operating time goes up by one (R377, R378). -/
def operatingTimeTickBody (l : LaneId) (st : Store) (m : Module) : Module :=
  let L := m.lane l
  if !m.supplyGood || !L.sys.holdupOk || L.sys.failed || L.sys.phase == .saving || L.sys.phase == .stopped then m
  else
    let m := clockTo (m.gridFrom m.goodAt 1000000000 (max m.goodAt L.rtc.opAt)) m
    let m := m.updLane l fun L => { L with
      sys := { L.sys with opsec := sat max32 (L.sys.opsec + 1) }, rtc := { L.rtc with opAt := m.now } }
    counterIncrement st l optmBase optmType optmTally optmCells m

/-! ## Meanings of the commands -/

/-- PWR_ON_REQ_TIMEOUT (R415). -/
def execPwrOnReqTimeout (l : LaneId) (s : State) : Host.Outcome State Fault Refusal :=
  .next (commit s (pwrOnReqTimeoutBody l))

/-- RTC_SECOND_TICK (R406). -/
def execRtcSecondTick (l : LaneId) (s : State) : Host.Outcome State Fault Refusal :=
  .next (commit s (rtcSecondTickBody l))

/-- RTC_SEC_READ (R405). -/
def execRtcSecRead (l : LaneId) (v : View) (s : State) : Host.Outcome State Fault Refusal :=
  .next (commit s (rtcSecReadBody l v))

/-- RTC_YEAR_READ (R405). -/
def execRtcYearRead (l : LaneId) (v : View) (s : State) : Host.Outcome State Fault Refusal :=
  .next (commit s (rtcYearReadBody l v))

/-- RTC_FREEZE_TIMEOUT (R405). -/
def execRtcFreezeTimeout (l : LaneId) (v : View) (s : State) : Host.Outcome State Fault Refusal :=
  .next (commit s (rtcFreezeTimeoutBody l v))

/-- RTC_COMMIT (R407). -/
def execRtcCommit (l : LaneId) (v : View) (value : Word) (s : State) : Host.Outcome State Fault Refusal :=
  .next (commit s (rtcCommitBody l v value))

/-- RTC_ALARM_WRITE (R414). -/
def execRtcAlarmWrite (l : LaneId) (v : View) (addr : Nat) (value : Word) (s : State) : Host.Outcome State Fault Refusal :=
  .next (commit s (rtcAlarmWriteBody l v addr value))

/-- OSCILLATOR_STOP (R408). -/
def execOscillatorStop (l : LaneId) (s : State) : Host.Outcome State Fault Refusal :=
  .next (commit s (oscillatorStopBody l))

/-- CELL_MEASURE (R413). -/
def execCellMeasure (l : LaneId) (intMv : Nat) (extMv : Nat) (s : State) : Host.Outcome State Fault Refusal :=
  .next (commit s (cellMeasureBody l intMv extMv))

/-- BACKUP_SOURCE_LOW (R413). -/
def execBackupSourceLow (l : LaneId) (s : State) : Host.Outcome State Fault Refusal :=
  .next (commit s (backupSourceLowBody l))

/-- OPERATING_TIME_TICK (R378). -/
def execOperatingTimeTick (l : LaneId) (s : State) : Host.Outcome State Fault Refusal :=
  .next (commit s (operatingTimeTickBody l))

end Sys2Proof.Machine
end

