-- ==== Sys2Proof/Machine/Checkpoint.lean ====
section
/-! DEFINITION. Checkpoints: their layout, their capture, their mirror to the standby lane, and what a lane takes from
one (R147, R287 to R293, R391, R409). -/

namespace Sys2Proof.Machine

/-- The metrology records a store holds, with their sequence numbers (R390). -/
def mlogRecords (n : Nvm) (mem : Mem) : List (Nat × Bytes) :=
  (usedSlots mem mlogBase 4096).filterMap fun k =>
    let a := mlogBase + 32 * k
    let bs := Memory.reads mem a 32
    if evValid n a bs then some (leAt bs 0 4, bs) else none

/-- A checkpoint's body from offset 0x10 on (R288). -/
def Checkpoint.body (c : Checkpoint) : Bytes :=
  leBytes 4 c.claim ++ leBytes 1 c.mode ++ leBytes 3 0 ++ leBytes 8 c.imageCounter ++ leBytes 8 c.moduleTimeS ++
    leBytes 8 c.captureTb ++ leBytes 4 c.opsec ++ leBytes 4 c.pcc ++ (c.stamps.take 4).flatMap (leBytes 8) ++
    leBytes 4 c.frames.length ++ leBytes 2 c.forces.length ++ leBytes 2 c.mlog.length ++ leBytes 4 c.boundary ++
    leBytes 4 c.jobSeq ++ leBytes 4 c.saveSeq ++ List.replicate 20 0 ++ c.frames ++
    (c.forces.flatMap fun f => leBytes 4 f.2.target ++ leBytes 4 0 ++ leBytes 8 f.2.value) ++ c.mlog.flatten

/-- A checkpoint's bytes as a record (R288, R373). -/
def Checkpoint.bytes (c : Checkpoint) : Bytes := mkRecord ckptType c.seq c.body

/-- The checkpoint that a record's bytes hold. Entries of the force table come back under numbers 0, 1, 2 and so on:
their numbers are not carried. -/
def parseCheckpoint (bs : Bytes) : Checkpoint :=
  let n := leAt bs 0x58 4
  let k := leAt bs 0x5C 2
  let f := 128 + n
  let g := f + 16 * k
  { seq := leAt bs 4 4, claim := leAt bs 0x10 4, mode := leAt bs 0x14 1, imageCounter := leAt bs 0x18 8
    moduleTimeS := leAt bs 0x20 8, captureTb := leAt bs 0x28 8, opsec := leAt bs 0x30 4, pcc := leAt bs 0x34 4
    stamps := (List.range 4).map fun i => leAt bs (0x38 + 8 * i) 8
    boundary := leAt bs 0x60 4, jobSeq := leAt bs 0x64 4, saveSeq := leAt bs 0x68 4, frames := slice bs 128 n
    forces := (List.range k).map fun i => (i, { target := leAt bs (f + 16 * i) 4, value := leAt bs (f + 16 * i + 8) 8 })
    mlog := (List.range (leAt bs 0x5E 2)).map fun i => slice bs (g + 32 * i) 32 }

/-- Greatest size of a checkpoint. -/
def ckptMax : Nat := 0x600000

/-- The newest valid checkpoint of a lane's store: its address, SEQ and bytes (R290). -/
def newestCkpt (m : Module) (st : Store) (l : LaneId) : Option (Nat × Nat × Bytes) :=
  newestOf (m.lane l).nvm (st.mram l) (ckptBase 0) (ckptBase 1) ckptMax ckptType

/-- SEQ of the next checkpoint written into a lane's store (R375). -/
def nextCkptSeq (m : Module) (st : Store) (dst : LaneId) : Nat :=
  match newestCkpt m st dst with
  | some r => nextSeq r.2.1
  | none => 1

/-- The checkpoint of a lane at an instant: header, forces, and the frames as they stand (R287, R288). -/
def captureCkpt (st : Store) (l : LaneId) (m : Module) : Checkpoint :=
  let L := m.lane l
  let recs := (mlogRecords L.nvm (st.mram l)).filter fun r => newer r.1 L.red.mlogConfirmed
  { seq := nextCkptSeq m st l.other, claim := L.red.claim, mode := L.sys.mode.code, imageCounter := L.cfg.activeCounter
    moduleTimeS := m.modS l, captureTb := m.us, opsec := L.sys.opsec, pcc := L.sys.pcc
    stamps := L.prg.tasks.map (·.stamp), boundary := L.boundaryCount m.now, jobSeq := nextSeq L.slv.jobSeq
    saveSeq := L.mtr.saveSeq, frames := fitTo L.conf.prog.instBytes L.prg.frames, forces := L.prg.forces
    mlog := (recs.take 4096).map (·.2) }

/-- A checkpoint written into a lane's store, into the slot that does not hold its newest valid one (R290, R371, R375). -/
def storeCkpt (st : Store) (dst : LaneId) (c : Checkpoint) (m : Module) : Module :=
  let m := seqCheck (m.cur st) dst (ckptBase 0) (ckptBase 1) ckptMax ckptType m
  let a := match newestCkpt m st dst with
    | some r => if r.1 = ckptBase 0 then ckptBase 1 else ckptBase 0
    | none => ckptBase 0
  mramWrite .peer st dst a c.bytes m

/-- Metrology records carried to a lane, each under its own number unless the lane has it; one that finds no free record is
counted as lost (R266, R290, R391). -/
def carryRecords (st : Store) (dst : LaneId) (recs : List Bytes) (m : Module) : Module :=
  let held := (mlogRecords (m.lane dst).nvm (st.mram dst)).map (·.1)
  forEach recs (fun bs m =>
    if held.contains (leAt bs 0 4) then m
    else if (m.lane dst).evr.mRoom (leAt bs 4 2) then mlogPut st dst (leAt bs 0 4) bs m
    else mlogLose st dst 1 m) m

/-- Whether the other lane can be reached as a standby over the lane links. -/
def Module.peerAt (m : Module) (l : LaneId) (mode : Mode) : Bool :=
  let P := m.lane l.other
  m.variant.nLane == 2 && m.laneLink && P.sys.mode == mode && P.sys.phase == .up && !P.sys.failed

/-- `RED_LANE_STATE.PEER` (R297). -/
def Module.peerCode (m : Module) (l : LaneId) : Nat :=
  let P := m.lane l.other
  let toggles := P.red.holds && P.red.releaseAt.isNone && !(m.lane l).red.wireLost
  if m.variant.nLane = 1 then 0
  else if m.laneLink && !P.sys.failed then
    (if P.red.holds then 1 else if P.sys.mode == .standby then 2 else if P.sys.mode == .resync then 3 else 0)
  else if toggles && !P.sys.failed then 1
  else 4

/-- Whether the other lane can stand in for a lane: linked to it, not failed, and with a link to a field die (R286,
case 9). -/
def Module.backed (m : Module) (l : LaneId) : Bool :=
  let P := m.lane l.other
  m.laneLink && !P.sys.failed && m.fdList.any fun d => at? P.fldUp d false

/-- The loss of the standby lane recorded once, until it is reached again (R286, R298). -/
def standbyWatch (l : LaneId) (m : Module) : Module :=
  let r := (m.lane l).red
  if !r.holds || m.variant.nLane = 1 then m
  else if m.backed l then updRed l (fun r => { r with standbyLost := false }) m
  else if r.standbyLost then m
  else report l 10 0x600C (m.peerCode l) 0 0 (updRed l (fun r => { r with standbyLost := true }) m)

/-- A mirror that failed: 0 on a link, 1 on its CRC (R291). -/
def mirrorFailed (l : LaneId) (cause : Nat) (m : Module) : Module :=
  let r := (m.lane l).red
  let seq := (r.ckpt.map Checkpoint.seq).getD (nextSeq r.ckptSeq)
  let m := updRed l (fun r => { r with ckpt := none, ckptWait := [], mirrorAt := none, mirrorDone := none, finalCkpt := false }) m
  standbyWatch l (report l 10 0x600A seq cause 0 (raise l 10 8 m))

/-- CKPT_PERIOD of a lane in ns. -/
def Lane.ckptNs (L : Lane) : Nat := L.conf.safety.ckptPeriod * 1000000

/-- CHECKPOINT_INSTANT: at the next multiple of CKPT_PERIOD after t0 the active lane captures a checkpoint, each task's
part at its publish where the task is executing; an instant is skipped while a mirror runs, and a capture discarded
while the peer is in RESYNC (R287, R291, R293, R296). -/
def checkpointInstantBody (l : LaneId) (st : Store) (m : Module) : Module :=
  let L := m.lane l
  if !L.red.holds || m.variant.nLane = 1 || L.cfg.active.isNone || L.red.releaseAt.isSome || L.sys.phase != .up then m
  else
    let m := clockTo (max (L.prg.t0 + L.ckptNs) (m.gridFrom L.prg.t0 L.ckptNs L.red.ckptAt)) m
    let m := updRed l (fun r => { r with ckptAt := m.now }) m
    if L.red.mirrorAt.isSome || L.red.ckpt.isSome then
      report l 10 0x600B ((L.red.ckpt.map Checkpoint.seq).getD 0) 0 0 (raise l 10 8 m)
    else if !m.backed l then mirrorFailed l 0 m
    else if !m.peerAt l .standby then m
    else
      let m := standbyWatch l m
      let c := captureCkpt st l m
      let busy := (List.range 4).filter fun t => (L.task t).executing
      let m := updRed l (fun r => { r with
        ckpt := some c, ckptWait := busy, mirrorAt := some m.now, mirrorDone := none, finalCkpt := r.switchReady }) m
      if busy.isEmpty then wakeReceiver l.other m else m

/-- CHECKPOINT_RECEIVED: lane l, the standby, has the whole checkpoint in its store, verifies its CRC, takes the
metrology records it carries and confirms (R290). -/
def checkpointReceivedBody (l : LaneId) (st : Store) (m : Module) : Module :=
  let A := (m.lane l.other).red
  match (if m.peerAt l.other .standby && A.holds && A.ckptWait.isEmpty && A.mirrorDone.isNone then A.ckpt else none) with
  | none => m
  | some c =>
    let m := storeCkpt st l c (domSettle l.num rxDoms m)
    let ok := (newestCkpt m (m.cur st) l).any fun r => r.2.1 == c.seq
    let m := if ok then carryRecords st l c.mlog m else m
    let m := if ok then updRed l (fun r => { r with ckptSeq := c.seq, ckptTb := some c.captureTb, ckptBytes := c.bytes.length }) m else m
    receiverDone l (updRed l.other (fun r => { r with mirrorDone := some ok }) m)

/-- The standby's calendar compared with the active lane's at a mirror (R409): where its OSF is set or it differs by
more than a second, the active lane stages its own plus 1 s there, to commit it at its own next second. A lockout of either time keeper
leaves it be (R412). -/
def calendarWatch (l : LaneId) (m : Module) : Module :=
  let a := (m.lane l).rtc
  let b := (m.lane l.other).rtc
  if a.osf || a.lockout || b.lockout then m
  else if b.osf || decide (1 < (a.cal.seconds - b.cal.seconds).natAbs) then
    updRtc l.other (Rtc.stage a.cal.next) (updRtc l (fun r => { r with peerSet := true }) m)
  else m

/-- RELEASE to every field die, under the lane's claim; the standby goes on to raise its own (R296 steps 4 and 5). -/
def releaseDies (l : LaneId) (c : Checkpoint) (m : Module) : Module :=
  let claim := (m.lane l).red.claim
  let m := forEach (m.fdList.filter fun d => m.fdReach l d) (fun d => send l.num (fdId d) (.release claim)) m
  let m := updRed l (fun r => { r with releaseAt := some m.now, restored := some c }) m
  let m := updRed l.other (fun r => { r with role := .takeover, exch := some { why := .switchover } }) m
  updSys l.other (fun s => { s with phase := .waking }) m

/-- CHECKPOINT_CONFIRMED: the active lane has the standby's confirmation of the mirror, or finds that it failed; the
confirmation of a switchover's final checkpoint is followed by RELEASE (R290, R291, R296). -/
def checkpointConfirmedBody (l : LaneId) (_ : Store) (m : Module) : Module :=
  let r := (m.lane l).red
  match r.mirrorAt, r.ckpt with
  | some t, some c =>
    if !r.holds || !r.ckptWait.isEmpty then m
    else if !m.peerAt l .standby then mirrorFailed l 0 m
    else match r.mirrorDone with
      | none => m
      | some false => mirrorFailed l 1 m
      | some true =>
        let newest := c.mlog.foldl (fun a bs => if newer (leAt bs 0 4) a then leAt bs 0 4 else a) r.mlogConfirmed
        let m := updRed l (fun r => { r with
          ckpt := none, mirrorAt := none, mirrorDone := none, ckptSeq := c.seq, ckptTb := some c.captureTb
          ckptBytes := c.bytes.length, ckptTimeUs := (m.now - t) / 1000, mlogConfirmed := newest }) m
        let m := calendarWatch l m
        if r.finalCkpt then releaseDies l c m else m
  | _, _ => m

/-! ## Meanings of the commands -/

/-- CHECKPOINT_INSTANT (R287). -/
def execCheckpointInstant (l : LaneId) (s : State) : Host.Outcome State Fault Refusal :=
  .next (commit s (checkpointInstantBody l))

/-- CHECKPOINT_RECEIVED (R290). -/
def execCheckpointReceived (l : LaneId) (s : State) : Host.Outcome State Fault Refusal :=
  .next (commit s (checkpointReceivedBody l))

/-- CHECKPOINT_CONFIRMED (R290). -/
def execCheckpointConfirmed (l : LaneId) (s : State) : Host.Outcome State Fault Refusal :=
  .next (commit s (checkpointConfirmedBody l))

end Sys2Proof.Machine
end

