-- ==== Sys2Proof/Machine/Exchange.lean ====
section
/-! DEFINITION. The quorum exchange on a lane: its opening, its requests and replies, the raise, the window's end, and
what a lane does as it becomes active or stops being so (R57, R141, R215, R263, R273, R278 to R282, R284, R285, R292,
R296, R297, R305, R352, R510). -/

namespace Sys2Proof.Machine

/-- A set of die numbers as a bitmap. -/
def dieBits (ds : List Nat) : Nat := ds.foldl (fun a d => a ||| 1 <<< d) 0

/-- Four flags, one per field die, of a set of die numbers. -/
def dieFlags (ds : List Nat) : List Bool := (List.range 4).map fun d => ds.contains d

/-- Field dies a lane reaches with messages. -/
def Module.fdsOf (m : Module) (l : LaneId) : List Nat := m.fdList.filter fun d => m.fdReach l d

/-- The power-domain requests of a lane that comes up (R444). -/
def wakeDoms (l : LaneId) (m : Module) : Module :=
  domRequests l l.num [1, 6, 7, 8, 9, 10, 11, 13, 15, 16] .on m

/-- The power-domain requests of a lane that goes to rest (R444). -/
def restDoms (l : LaneId) (m : Module) : Module :=
  domRequests l l.num [2, 3, 4, 5, 6, 7, 8, 9, 10, 11, 12, 13, 14, 15, 16, 1] .off m

/-! ### Images of a lane -/

/-- A lane's active image becomes the one read from a slot, or none where the slot gave none (R34, R55). -/
def adoptImage (l : LaneId) (slot : Nat) (image : Option Conf) (m : Module) : Module :=
  match image with
  | some c =>
    imageRegs l (m.lane l).cfg.active c (updCfg l (fun g => { g with
      active := some c, activeCounter := c.counter, activeDigest := c.digest, activeSlot := slot }) m)
  | none => updCfg l (fun g => { g with active := none, activeCounter := 0, activeDigest := [] }) m

/-- A slot's image becomes the lane's active one, as read at a start, a takeover or a resync; groups that cannot be read
or were corrected count (R34, R55, R371, R381). -/
def adoptSlot (st : Store) (l : LaneId) (slot : Nat) (m : Module) : Module :=
  let mem := st.mram l
  let image := loadSlot m.variant (m.lane l) mem slot
  adoptImage l slot image (spend 1 l (slotUses (m.lane l) mem slot)
    (nvmRead l (provBase slot) 1024 (nvmRead l (imageBase slot) (slotBytes mem slot).length m)))

/-- Whether a lane's slot holds a valid image with a counter. -/
def slotHolds (st : Store) (L : Lane) (l : LaneId) (slot counter : Nat) : Bool :=
  slotValid L (st.mram l) slot && (rawImage (slotBytes (st.mram l) slot)).counter == counter

/-! ### Leaving the active role -/

/-- A lane stops driving the plant and enters RESYNC: no further heartbeat, command or publish, its jobs and rings
ended (R281, R282, R311, R470). -/
def leaveActive (l : LaneId) (cause : Nat) (m : Module) : Module :=
  let slots := (m.lane l).slotStates
  let m := programAbort l (abortAll l .claim (abortRings l m))
  let m := setMode l .resync cause m
  let m := m.updLane l fun L => { L with
    mot := { L.mot with requests := [], granted := [], await := [] }
    mtr := { L.mtr with save := none, takeoverWait := none, readoutAt := none }
    prg := { L.prg with forces := [] }
    red := { L.red with
      role := .resync, holds := false, exch := none, ckpt := none, ckptWait := [], mirrorAt := none, mirrorDone := none
      switchAt := none, switchReady := false, finalCkpt := false, releaseAt := none, restored := none } }
  let m := updPtp l (fun p => { p with slots := [{}, {}], slewing := false, slewLeft := 0 }) m
  let m := holdover l (slotChanges l slots m)
  let m := updRed l.other (fun r => { r with prepare := false }) m
  domRequests l l.num [2, 3, 4, 5, 14] .off m

/-- The records in the intake queue of a lane whose place another takes are lost with it (R399; assumption 52). -/
def dropIntake (l : LaneId) (m : Module) : Module :=
  m.updLane l fun L => { L with evr := { L.evr with intake := [] } }

/-- A lane that has found a claim above its own is demoted (R282). Its switchover, if it has sent RELEASE, is done. -/
def demote (l : LaneId) (claim die : Nat) (m : Module) : Module :=
  let r := (m.lane l).red
  let done := r.releaseAt.isSome
  let m := report l 10 0x6005 r.claim claim die (dropIntake l m)
  let m := leaveActive l (if done then 8 else 7) m
  let m := updRed l (fun r => { r with
    claim := mkClaim (claimEpoch claim) l, ctrlState := if done then 2 else r.ctrlState
    ctrlReason := if done then 0 else r.ctrlReason }) m
  raise l 10 (if done then 20 else 4) m

/-- An active lane finds a field die's claim above its own (R282). -/
def claimSeen (l : LaneId) (d claim : Nat) (m : Module) : Module :=
  if (m.lane l).red.holds && decide ((m.lane l).red.claim < claim) then demote l claim (fdId d) m else m

/-! ### Opening an exchange -/

/-- The epoch in a lane's claim-epoch block (R363). -/
def epochOf (m : Module) (st : Store) (l : LaneId) : Nat :=
  match readBlock (m.lane l).nvm (st.mram l) epochBase epochType with
  | some r => leAt r.2.2 16 4
  | none => 0

/-- The highest epoch a lane knows before any reply: its own, at a start the blocks', and on a single-lane part the
field dies' (R273, R319). -/
def knownEpoch (m : Module) (st : Store) (l : LaneId) (why : RaiseWhy) : Nat :=
  let blocks :=
    if why == .start then max (epochOf m st l) (if m.variant.nLane = 2 && m.laneLink then epochOf m st l.other else 0) else 0
  let dies := if m.variant.nLane = 1 then (m.fdsOf l).foldl (fun a d => max a (claimEpoch (m.fd d).claim)) 0 else 0
  max (claimEpoch (m.lane l).red.claim) (max blocks dies)

/-- CLAIM_RAISE to every field die and powered solver die a lane reaches (R279); a left-behind die that joins gets it
alone. -/
def sendRaise (l : LaneId) (e : Exchange) (m : Module) : Module :=
  let ev := e.replies.filter (·.evidence e.proposed)
  let join := e.why == .join
  let msg : Msg := .claimRaise e.proposed ev
  let fds := (m.fdsOf l).filter fun d => !join || (m.fd d).claim != e.proposed
  let sds := m.sdList.filter fun s => m.sdReach l s && (!join || (m.sd s).claim != e.proposed)
  let m := forEach fds (fun d => send l.num (fdId d) msg) m
  forEach sds (fun s => send l.num (sdId s) msg) m

/-- CLAIM_REQUEST to every field die a lane reaches (R278). -/
def sendRequests (l : LaneId) (c : Nat) (m : Module) : Module :=
  forEach (m.fdsOf l) (fun d => send l.num (fdId d) (.claimRequest c)) m

/-- The phase of a lane while an exchange runs: an active lane stays up. -/
def exchPhase (l : LaneId) (why : RaiseWhy) (p : LanePhase) (m : Module) : Module :=
  if why == .join || why == .revert then m else updSys l (fun s => { s with phase := p }) m

/-- An exchange that ends without a raise: the lane returns to STANDBY, or to RESYNC from there or from a switchover
that could not be reverted (R280, R285, R296, R297). -/
def exchangeFails (l : LaneId) (why : RaiseWhy) (result : Nat) (m : Module) : Module :=
  let m := updRed l (fun r => { r with exch := none, restored := none, quorumResult := if why == .join then r.quorumResult else result }) m
  match why with
  | .join => m
  | .revert =>
    let m := updRed l (fun r => { r with ctrlState := 3, ctrlReason := 6 }) (leaveActive l 8 m)
    raise l 10 16 m
  | _ =>
    let m := updSys l (fun s => { s with phase := .up }) m
    let m := if why == .start then setMode l .standby 0 m else m
    let rest : Role := if (m.lane l).sys.mode == .resync then .resync else .standby
    let take := why == .take
    let m := updRed l (fun r => { r with
      role := rest, wireArmed := r.wireArmed && why != .takeover, prepare := false
      ctrlState := if take then 3 else r.ctrlState, ctrlReason := if take then 6 else r.ctrlReason }) m
    restDoms l m

/-- A quorum exchange opens (R273, R278, R296); where no quorum is asked, the raise goes out at once (R33, R319). -/
def openExchange (st : Store) (l : LaneId) (why : RaiseWhy) (m : Module) : Module :=
  let L := m.lane l
  let epoch := if why == .join then claimEpoch L.red.claim else knownEpoch m st l why + 1
  let c := mkClaim epoch l
  if why != .join && decide (0x7FFFFFFF ≤ epoch) then
    exchangeFails l why 3 (report l 10 0x6006 0xFF c 3 m)
  else
    let raised := decide (m.variant.quorum = 0)
    let e : Exchange := { why := why, proposed := c, openedAt := m.now, requestAt := m.now, raised := raised }
    let m := updRed l (fun r => { r with
      exch := some e
      vacant := if why == .join then r.vacant else dieFlags []
      evidence := if why == .join then r.evidence else dieFlags []
      latched := if why == .join then r.latched else dieFlags [] }) m
    let m := exchPhase l why .exchange m
    if raised then sendRaise l e m else sendRequests l c m

/-- CLAIM_REQUEST_REPEAT: 1 ms after its last request a lane that still lacks the evidence asks again, within the
window (R278). -/
def claimRequestRepeatBody (l : LaneId) (_ : Store) (m : Module) : Module :=
  let L := m.lane l
  match L.red.exch with
  | none => m
  | some e =>
    let t := max m.now (e.requestAt + 1000000)
    if e.raised || L.sys.phase == .waking || decide (e.openedAt + L.tVacantNs + 50000000 < t) then m
    else
      let m := updRed l (fun r => { r with exch := r.exch.map fun e => { e with requestAt := t } }) (clockTo t m)
      sendRequests l e.proposed m

/-! ### Replies -/

/-- The image counter that most replies report; of equally many the higher (R57). -/
def majorityCounter (rs : List ClaimReply) : Nat :=
  let count (c : Nat) : Nat := (rs.filter (·.imageCounter == c)).length
  rs.foldl (fun best r =>
    let c := r.imageCounter
    if count best < count c ∨ (count best = count c ∧ best < c) then c else best) 0

/-- With evidence from a quorum, the lane raises on its image, reads the other slot first, or gives up (R57, R279,
R285). -/
def decideRaise (st : Store) (l : LaneId) (e : Exchange) (m : Module) : Module :=
  let L := m.lane l
  let c := majorityCounter e.replies
  let compares := e.why == .takeover || e.why == .switchover || e.why == .take
  if compares && c != L.cfg.activeCounter then
    if slotHolds st L l L.cfg.shadowSlot c then
      let m := updRed l (fun r => { r with exch := some { why := e.why, second := true } }) m
      exchPhase l e.why .waking m
    else exchangeFails l e.why 4 (report l 10 0x6007 (c % 2 ^ 32) 0 0 m)
  else
    let e := { e with raised := true }
    sendRaise l e (updRed l (fun r => { r with exch := some e }) m)

/-- CLAIM_REPLY: a lane takes the next reply of a field die, checks it, and raises once it holds evidence from a quorum.
A reply that shows an epoch at or above the proposed one makes it propose a higher one (R273, R278). A reply that comes
after the raise only adds its die to those whose first frame the admission arbiter awaits (R215). -/
def claimReplyBody (l : LaneId) (d : Nat) (st : Store) (m : Module) : Module :=
  let pick : Msg → Option ClaimReply
    | .claimReply r => some r
    | _ => none
  match takeMail (fdId d) l.num pick m.mail with
  | none => m
  | some (r, rest) =>
    let m := { m with mail := rest }
    let L := m.lane l
    match L.red.exch with
    | none =>
      if m.fdReach l d && L.red.holds && r.mac == r.macBy keyTok && r.proposed == L.red.claim &&
          (at? L.red.frameAt d none).isNone && !L.mot.await.contains d then
        m.updLane l fun L => { L with mot := { L.mot with await := L.mot.await ++ [d] } }
      else m
    | some e =>
      if !m.fdReach l d || L.sys.phase == .waking || r.mac != r.macBy keyTok || r.proposed != e.proposed then m
      else if e.raised then
        updRed l (fun x => { x with exch := some { e with replies := e.replies.filter (·.die != r.die) ++ [r] } }) m
      else if e.why != .join && r.result != 1 && decide (claimEpoch e.proposed ≤ claimEpoch r.claim) then
        let m := updRed l (fun x => { x with claim := mkClaim (claimEpoch r.claim) l }) m
        openExchange st l e.why m
      else
        let rs := e.replies.filter (·.die != r.die) ++ [r]
        let e := { e with replies := rs }
        let ev := (rs.filter (·.evidence e.proposed)).map fun x => x.die - 4
        let vac := (rs.filter (·.result == 0)).map fun x => x.die - 4
        let join := e.why == .join
        let m := updRed l (fun x => { x with
          exch := some e, evidence := if join then x.evidence else dieFlags ev
          vacant := if join then x.vacant else dieFlags vac }) m
        if m.variant.quorum ≤ ev.dedup.length then decideRaise st l e m else m

/-- An exchange that found no quorum counted and recorded (R280, R297). -/
def recordSplit (l : LaneId) (e : Exchange) (m : Module) : Module :=
  let dies (k : Nat) : Nat := dieBits ((e.replies.filter (·.result == k)).map fun x => x.die - 4)
  let m := report l 10 0x6003 (dies 0) (dies 2) e.proposed m
  let m := updRed l (fun r => { r with splitCount := sat max32 (r.splitCount + 1) }) m
  let m := raise l 10 2 m
  if e.why == .take then report l 10 0x6006 0xFF e.proposed 2 m else m

/-- QUORUM_WINDOW_EXPIRY: T_VACANT + 50 ms after its first request the exchange closes without a quorum (R278, R280,
R297). -/
def quorumWindowExpiryBody (l : LaneId) (_ : Store) (m : Module) : Module :=
  let L := m.lane l
  match (if L.sys.phase == .waking then none else L.red.exch) with
  | none => m
  | some e =>
    if e.raised && decide (m.variant.quorum ≤ e.latched.length) then m
    else
      let m := clockTo (e.openedAt + L.tVacantNs + 50000000) m
      if e.why == .join then exchangeFails l .join 2 m
      else exchangeFails l e.why 2 (recordSplit l e m)

/-! ### The raise on the lane's side -/

/-- The median of a list of integers; of an even number the mean of the two middle ones, rounded down. -/
def median (xs : List Int) : Int :=
  let s := xs.insertionSort (fun a b => a ≤ b)
  let n := s.length
  if n % 2 = 1 then s.getD (n / 2) 0 else fdiv (s.getD (n / 2 - 1) 0 + s.getD (n / 2) 0) 2

/-- The field dies whose replies are the evidence of a raise: its quorum (R278). -/
def raiseDies (e : Exchange) : List Nat := ((e.replies.filter (·.evidence e.proposed)).map fun r => r.die - 4).dedup

/-- Module time of a lane that takes over, from what the dies of its quorum hold: the median of their offsets, a rate
correction with which its time base advances as the median of theirs, and the steering slot they name, of the first of
them (R141, R352; assumption 15). -/
def inheritTime (l : LaneId) (dies : List Nat) (m : Module) : Module :=
  let held := dies.filter fun d => (m.fd d).tbValid && m.fdReach l d
  m.updLane l fun L =>
    let off := if held.isEmpty then L.prg.tbOffset else median (held.map fun d => (m.fd d).tbOffset)
    let rate := if held.isEmpty then L.ptp.rate else median (held.map fun d => (m.fd d).refPpb + (m.fd d).tbRate) - L.ptp.refPpb
    { L with prg := { L.prg with tbOffset := off }
             ptp := { L.ptp with steerState := 2, rate := rate, steer := ((held.head?).map fun d => (m.fd d).tbSlot).getD L.ptp.steer, slots := [{}, {}], slewing := false, slewLeft := 0 } }

/-- The highest SAVE_SEQ a lane's store or its checkpoint shows (R258, R288). -/
def newestSave (m : Module) (st : Store) (l : LaneId) : Nat :=
  let held := m.fdList.filterMap fun d => (accuNewest st m l d).map fun r => r.2.1
  (held ++ ((m.lane l).red.restored.map Checkpoint.saveSeq).toList).foldl (fun a s => if a = 0 || newer s a then s else a)
    (m.lane l).mtr.saveSeq

/-- The seal count of the newest METROLOGY_CHANGE in a lane's metrology log (R510). -/
def loggedSeal (m : Module) (st : Store) (l : LaneId) : Option Nat :=
  let recs := (mlogRecords (m.lane l).nvm (st.mram l)).filter fun r => leAt r.2 4 2 == 0x5801
  (recs.foldl (fun (a : Option (Nat × Bytes)) r => match a with
    | none => some r
    | some x => if newer r.1 x.1 then some r else a) none).map fun r => leAt r.2 16 4

/-- The seal count in force from a lane's block and its metrology log (R510). -/
def establishSeal (st : Store) (l : LaneId) (m : Module) : Module :=
  let own := ((readBlock (m.lane l).nvm (st.mram l) sealBase sealType).map fun r => leAt r.2.2 16 4).getD 0
  let w := match loggedSeal m st l with
    | some k => if own % 2 ^ 31 < k % 2 ^ 31 then k else own
    | none => own
  let m := m.updLane l fun L => { L with mtr := { L.mtr with sealCount := w % 2 ^ 31, unsealed := nbit w 31 } }
  if w = own then m else writeSeal .owner st l m

/-- The slot selector of a lane follows a takeover that read the other slot, and the counter floor is no lower than the
counter of an image that has become active (R34, R54). -/
def keepSelector (st : Store) (l : LaneId) (m : Module) : Module :=
  let c := (m.lane l).cfg
  let named := (readBlock (m.lane l).nvm (st.mram l) slotSelBase slotType).map fun r => leAt r.2.2 16 4
  let higher := decide (c.floor < c.activeCounter)
  if c.active.isSome && named.isSome && (higher || named != some c.activeSlot) then
    writeSlotSel st l (updCfg l (fun c => { c with floor := max c.floor c.activeCounter }) m)
  else m

/-- The frames of the restored checkpoint under the lane's program: as they are, or carried over where they were taken
under the configuration of the lane's other slot (R57). -/
def restoredFrames (st : Store) (L : Lane) (l : LaneId) (v : Variant) (c : Checkpoint) : Carried :=
  let p := L.conf.prog
  if c.imageCounter = L.cfg.activeCounter then { frames := fitTo p.instBytes c.frames }
  else match loadSlot v L (st.mram l) L.cfg.shadowSlot with
    | some o => if o.counter = c.imageCounter then carryOver o.prog p c.frames else { frames := p.initFrames }
    | none => { frames := p.initFrames }

/-- The mode a lane that takes over enters (R292, R311). -/
def takeoverMode (L : Lane) : Mode :=
  let code := match L.red.restored with
    | some c => modeOf c.mode
    | none => modeOf L.sys.autostart
  match L.cfg.active, code with
  | none, _ => .blank
  | some c, .commission => if c.safety.commissionAllowed then .commission else .loaded
  | some _, .run => L.runMode
  | some _, .runForced => L.runMode
  | some _, .safeHold => .safeHold
  | some _, _ => .loaded

/-- The results a solver die kept from the other lane's reign, taken into the views of a lane that takes over, for the
templates of its image (R21). -/
def takeResults (l : LaneId) (m : Module) : Module :=
  forEach (m.sdList.filter fun s => m.sdReach l s) (fun s m =>
    forEach (m.sd s).results (fun r m =>
      if ((m.lane l).conf.tmpl r.1).isNone then m
      else updTpl l r.1 (fun v => { v with
        status := r.2.status, flags := r.2.flags, result := some r.2, iter := r.2.iterations, rho := r.2.rho
        commitUs := r.2.commitUs, pivotCount := r.2.pivotCount, pivotFirst := r.2.pivotFirst, copied := false
        committed := true }) m) m) m

/-- The program of a lane that takes over: forces and frames from the checkpoint, output images as R511 says, the mode,
and the safe-state commands of a mode that runs no program (R57, R146, R284, R292, R311, R312). -/
def takeUpProgram (st : Store) (l : LaneId) (cause : Nat) (m : Module) : Module :=
  let cp := (m.lane l).red.restored
  let new := (m.lane l).conf
  let m := takeResults l m
  let m := updPrg l (fun p => { p with
    forces := (cp.map Checkpoint.forces).getD []
    tasks := p.tasks.zipIdx.map fun x => { x.1 with
      outImage := new.initOut x.2, inImage := fitTo (new.task x.2).snapshotBytes [] } }) m
  let m := dropForces l 1 (fun _ f => !new.forceTargetOk f.target) m
  let dest := takeoverMode (m.lane l)
  let m := if dest.runs then enterMode l dest cause m
    else sendSafe l (setMode l dest cause (if dest == .blank then m else blkDoms l .ret m))
  match cp with
  | none => m
  | some c =>
    let k := restoredFrames st (m.lane l) l m.variant c
    m.updLane l fun L => { L with
      slv := { L.slv with jobSeq := (c.jobSeq + (2 ^ 32 - 1)) % 2 ^ 32 }
      prg := { L.prg with
        frames := k.frames
        exchInit := if c.imageCounter = L.cfg.activeCounter then L.prg.exchInit else sat 65535 k.initialised
        exchDropped := if c.imageCounter = L.cfg.activeCounter then L.prg.exchDropped else sat 65535 k.dropped
        tasks := L.prg.tasks.zipIdx.map fun x => { x.1 with stamp := at? c.stamps x.2 0 } } }

/-- What every raise of a lane sets: its claim and role, the counters of the new reign, its block, the time base of a lane
that takes over, its first heartbeat (R141, R215, R280, R284, R333, R460). -/
def raisedCommon (st : Store) (l : LaneId) (e : Exchange) (m : Module) : Module :=
  let old := e.replies.foldl (fun a r => max a r.claim) 0
  let slots := (m.lane l).slotStates
  let single := decide (m.variant.nLane = 1)
  let m := updRed l (fun r => { r with
    claim := e.proposed, role := if single then .single else .active, holds := true, selfFenced := false
    quorumResult := 1, exch := none, frameAt := [none, none, none, none], mlogConfirmed := 0, prepare := false
    standbyLost := false, releaseAt := none, switchAt := none, switchReady := false, finalCkpt := false
    hbSeq := (r.hbSeq + 1) % 2 ^ 32 }) m
  let m := toggleWire l m
  let m := m.updLane l fun L => { L with
    heard := [false, false, false, false]
    mot := { L.mot with requests := [], granted := []
                        await := if !single then e.replies.map fun r => r.die - 4
                                 else if L.sys.startCause = 2 then m.fdsOf l else [] }
    sys := { L.sys with raisedAt := m.now }
    can := { L.can with recs := L.can.recs.map (fun x => { x with asm := none }), outSeq := [] }
    prg := { L.prg with recIn := [] } }
  let m := writeBlock .owner st l epochBase epochType (leBytes 4 (claimEpoch e.proposed)) m
  let m := report l 10 0x6002 e.proposed old (dieBits e.latched) (raise l 10 1 m)
  let inherits := e.why == .takeover || e.why == .switchover || e.why == .take
  let m := if inherits then inheritTime l (raiseDies e) m else m
  let p := (m.lane l).ptp
  sendHeartbeats l (retime (p.refPpb + p.speed) (slotChanges l slots m))

/-- A lane that has raised its claim after a start (R303, R305): the banks of the dies are staged; it becomes active for
its host. -/
def raisedStart (st : Store) (l : LaneId) (m : Module) : Module :=
  let m := hostActive l (establishSeal (m.cur st) l m)
  let m := match (m.lane l).cfg.active with
    | some c => stageDies l c (m.applyDies l) m
    | none => m
  domRequests l l.num [14, 15] .on (updSys l (fun s => { s with phase := .startSwap, elected := l }) m)

/-- A lane that has raised its claim in place of another (R263, R284, R296, R352). -/
def raisedTakeover (st : Store) (l : LaneId) (e : Exchange) (m : Module) : Module :=
  let dies := raiseDies e
  let m := establishSeal (m.cur st) l m
  let save := newestSave m (m.cur st) l
  let m := m.updLane l fun L => { L with
    pwr := { L.pwr with step := 0 }
    mtr := { L.mtr with takeoverWait := some dies, saveSeq := save }
    sys := { L.sys with phase := .up, restored := m.fdList.all fun d => (m.fd d).restored } }
  let m := keepSelector (m.cur st) l (hostActive l (unpark l m))
  let m := domRequests l l.num [14, 15] .on m
  let take := e.why == .take
  let m := updRed l (fun r => { r with
    ctrlState := if take then 2 else r.ctrlState, ctrlReason := if take then 0 else r.ctrlReason }) m
  let m := takeUpProgram st l (if e.why == .switchover then 8 else 6) m
  updRed l (fun r => { r with restored := none }) m

/-- What a lane takes from its final checkpoint where its switchover is taken back: force table, frames and cycle stamps
(R296). -/
def resumeFrom (l : LaneId) (c : Checkpoint) (m : Module) : Module :=
  updPrg l (fun p => { p with
    forces := c.forces, frames := c.frames
    tasks := p.tasks.zipIdx.map fun x => { x.1 with stamp := at? c.stamps x.2 0 } }) m

/-- A switchover taken back: the old lane holds a new claim, waits for its TAKEOVER save, and its program resumes from the
final checkpoint (R263, R296). -/
def raisedRevert (st : Store) (l : LaneId) (e : Exchange) (m : Module) : Module :=
  let m := report l 10 0x6010 (m.lane l).red.claim 0 0 m
  let m := match (m.lane l).red.restored with
    | some c => resumeFrom l c m
    | none => m
  let m := updRed l (fun r => { r with ctrlState := 3, ctrlReason := 7, restored := none }) m
  let save := newestSave m (m.cur st) l
  let m := m.updLane l fun L => { L with mtr := { L.mtr with takeoverWait := some (raiseDies e), saveSeq := save } }
  let m := followForces l m
  let m := if (m.lane l).sys.mode.runs then programStart l false m else m
  raise l 10 16 m

/-- A claim that a quorum has latched becomes the lane's (R280). -/
def raised (st : Store) (l : LaneId) (e : Exchange) (m : Module) : Module :=
  let m := raisedCommon st l e m
  match e.why with
  | .start => raisedStart st l m
  | .revert => raisedRevert st l e m
  | .join => m
  | _ => raisedTakeover st l e m

/-- Field dies whose latch of a claim a lane finds acknowledged, and the messages that stay. -/
def takeAcks (l : LaneId) (c : Nat) (ms : List Mail) : List Nat × List Mail :=
  let mine (x : Mail) : Bool := x.dst == l.num && x.msg == .claimAck c
  (((ms.filter mine).map fun x => x.src - 4), ms.filter fun x => !mine x)

/-- CLAIM_LATCH_ACK: the lane learns which dies have latched its claim. Once they are a quorum it holds the claim
(R280). -/
def claimLatchAckBody (l : LaneId) (st : Store) (m : Module) : Module :=
  let r := (m.lane l).red
  let c := (r.exch.map Exchange.proposed).getD r.claim
  let a := takeAcks l c m.mail
  let m := { m with mail := a.2 }
  let m := updRed l (fun r => { r with latched := (List.range 4).map fun d => at? r.latched d false || a.1.contains d }) m
  match r.exch with
  | none => m
  | some e =>
    if !e.raised then m
    else
      let e := { e with latched := (e.latched ++ a.1).dedup }
      if e.why == .join then updRed l (fun r => { r with exch := none }) m
      else if m.variant.quorum ≤ e.latched.length then raised st l e m
      else updRed l (fun r => { r with exch := some e }) m

/-! ## Meanings of the commands -/

/-- CLAIM_REQUEST_REPEAT (R278). -/
def execClaimRequestRepeat (l : LaneId) (s : State) : Host.Outcome State Fault Refusal :=
  .next (commit s (claimRequestRepeatBody l))

/-- CLAIM_REPLY (R278). -/
def execClaimReply (l : LaneId) (d : Nat) (s : State) : Host.Outcome State Fault Refusal :=
  .next (commit s (claimReplyBody l d))

/-- QUORUM_WINDOW_EXPIRY (R280). -/
def execQuorumWindowExpiry (l : LaneId) (s : State) : Host.Outcome State Fault Refusal :=
  .next (commit s (quorumWindowExpiryBody l))

/-- CLAIM_LATCH_ACK (R280). -/
def execClaimLatchAck (l : LaneId) (s : State) : Host.Outcome State Fault Refusal :=
  .next (commit s (claimLatchAckBody l))

end Sys2Proof.Machine
end

