-- ==== Sys2Proof/Machine/Start.lean ====
section
/-! DEFINITION. Starts and halts: supply good, hold-up, the power-up of the dies, the election, a lane's start up to its
claim, the start swap, the restore of the accumulators, the lane halt and restart (R261, R262, R302 to R310, R314, R317,
R352, R389, R416, R424, R431, R498). -/

namespace Sys2Proof.Machine

/-! ### Resets -/

/-- The LANE reset of a lane (R507): what stays is in the always-on domain, non-volatile, or a link's. -/
def resetLane (l : LaneId) (phase : LanePhase) (keep : Bool) (m : Module) : Module :=
  m.updLane l fun L =>
    { sys := { holdupOk := L.sys.holdupOk, opsec := L.sys.opsec, pcc := L.sys.pcc, startCause := L.sys.startCause
               failed := L.sys.failed, phase := phase }
      red := { claim := l.num, role := if m.variant.nLane = 1 then .single else .standby }
      slv := { linkUp := L.slv.linkUp, lastDie := L.slv.lastDie }
      pwr := { doms := L.pwr.doms }
      nvm := { ecc := L.nvm.ecc }
      evr := { intake := if keep then L.evr.intake else [], aoStore := L.evr.aoStore }
      rtc := L.rtc
      key := { slots := L.key.slots, array := L.key.array, trngFailed := L.key.trngFailed }
      fldUp := L.fldUp }

/-- Messages to and from a die dropped. -/
def dropMail (die : Nat) (m : Module) : Module := { m with mail := m.mail.filter fun x => x.src != die && x.dst != die }

/-- A lane halts (R314): it stops driving at once, records the halt and resets all but its always-on domain; its
EXPIRE_AT_RESET slots are erased (R431). Its intake queue is lost with SYS; the record of the halt enters after that
(R394, R446). -/
def haltLane (l : LaneId) (cause : Nat) (m : Module) : Module :=
  let m := expireSlots l (dropRings l (endInjection l m))
  let s := (m.lane l).sys
  let r : EvRec := { code := 0x0007, source := 32 * l.num, flags := m.recFlags l 0x0007 0, opsec := s.opsec, pcc := s.pcc
                     p0 := cause, p1 := s.mode.code }
  let m := dropMail l.num (domsOff l.num (resetLane l .halted false m))
  m.updLane l fun L => L.take m.now m.supplyGood r

/-- The keys of a lane at its start: the fused slot, the inter-die keys, and at the first start the root secret (R309,
R420, R424, R431). -/
def laneKeys (l : LaneId) (m : Module) : Module :=
  let m := expireSlots l (loadArray l m)
  let m := setSlot l 3 { key := some (fitTo 32 Config.transportKey), attr := 0x282 } (fillInterDie l m)
  let m := m.updLane l fun L => { L with key := { L.key with trngOk := !L.key.trngFailed } }
  let k := (m.lane l).key
  if (k.slot 0).key.isSome || k.trngFailed then m
  else report l 0 0x0005 0 0 0 (setSlot l 0 { key := some (fitTo 32 (Config.rootSecret l.num)), attr := 0x284 } m)

/-- Whether an island that supplies the field dies works: either of two, or the only one (R22, R33). -/
def Module.islandsOn (m : Module) : Bool := (List.range m.variant.nLane).any fun n => at? m.islands n true

/-- Field and solver dies power up: claim 0, no bank, the field dies VACANT, the solver dies testing all engines (R119,
R272, R276, R303 step 4, R507). -/
def powerUpDies (m : Module) : Module :=
  let fresh (d : Nat) : FieldDie :=
    { powered := decide (d < m.variant.nFd) && m.islandsOn, vacantAt := m.now, vacantTb := m.now, heartAt := m.now, tbBase := m.now, tbSetAt := m.now
      refPpb := (m.fd d).refPpb, kHb := keyHb, kTok := keyTok
      upAt := m.now, tick := m.now, blockAt := m.now, demandAt := m.now, updAt := m.now
      doms := upd (List.replicate 18 {}) 0 fun x => { x with state := .on } }
  let m := { m with fds := (List.range 4).map fresh, mail := []
                    sds := m.sdList.foldl (fun sds s => upd sds s fun _ => { powered := true, kHb := keyHb, kTok := keyTok }) [{}, {}] }
  let m := forEach m.laneList (fun l m => m.updLane l fun L =>
    { L with fldUp := (List.range 4).map (fun d => decide (d < m.variant.nFd))
             slv := { L.slv with linkUp := (List.range 2).map fun s => decide (s < m.variant.nSd) } }) m
  let linked := m.variant.nLane == 2 && m.laneList.all fun l => !(m.lane l).sys.failed
  let m := { m with laneLinks := [linked, linked] }
  forEach m.sdList (fun s m => if at? m.islands s true then fullSelfTest .A s m else m.updSd s fun x => { x with powered := false }) m

/-! ### A lane's start -/

/-- The records of a lane's store as a start reads them: groups that cannot be read or were corrected, and records that are
exactly 2^31 apart (R371, R375, R381). -/
def seqChecks (st : Store) (l : LaneId) (m : Module) : Module :=
  let blocks := [(optmBase, optmType), (pcycBase, pcycType), (sealBase, sealType), (lossBase, lossType), (slotSelBase, slotType),
    (autoBase, autoType), (utcBase, utcType), (epochBase, epochType)]
  let m := forEach blocks (fun b => seqCheck st l b.1 (b.1 + 64) 64 b.2) m
  let m := seqCheck st l (ckptBase 0) (ckptBase 1) ckptMax ckptType m
  forEach m.fdList (fun d => seqCheck st l (accuBase 0 d) (accuBase 1 d) 10240 accuType) m

/-- The accumulator records a start reads for the field dies: those of the lane's store, and those of the other lane's
over the lane links. -/
def startRecords (st : Store) (m : Module) (l : LaneId) : List (Nat × Nat × Bytes) :=
  let ls := if m.variant.nLane = 2 && m.laneLink then [l, l.other] else [l]
  ls.flatMap fun k => m.fdList.filterMap fun d => accuNewest st m k d

/-- The shutdown that ended the previous power cycle, known from the newest FINAL record of either lane (R317). -/
def recordShutdown (st : Store) (l : LaneId) (m : Module) : Module :=
  let recs := (startRecords st m l).filter fun r => leAt r.2.2 16 1 == 1
  match recs.foldl (fun (a : Option (Nat × Nat × Bytes)) r => match a with
      | none => some r
      | some x => if newer r.2.1 x.2.1 then some r else a) none with
  | none => m
  | some r => report l 0 0x0006 (leAt r.2.2 20 4) r.2.1 0 m

/-- The forces the last checkpoint held, which a start from power-off clears (R157). -/
def recordForces (st : Store) (l : LaneId) (m : Module) : Module :=
  match newestCkpt m st l with
  | none => m
  | some r =>
    let fs := (parseCheckpoint r.2.2).forces
    let m := forEach fs (fun f => report l 5 0x3005 f.1 f.2.target 3) m
    if fs.isEmpty then m else raise l 5 0x200 m

/-- What a lane takes from its MRAM into registers: slot selector, image, autostart, UTC offset, seal count, SAVE_SEQ and
checkpoint (R34, R258, R264, R290, R306, R376). -/
def readStore (st : Store) (l : LaneId) (m : Module) : Module :=
  let mem := st.mram l
  let block (base type : Nat) : Option Bytes := (readBlock (m.lane l).nvm mem base type).map fun r => r.2.2
  let m := match block slotSelBase slotType with
    | some bs => adoptSlot st l (leAt bs 16 4 % 2) (updCfg l (fun c => { c with floor := leAt bs 32 8, activeSlot := leAt bs 16 4 % 2 }) m)
    | none => m
  let auto := match block autoBase autoType with
    | some bs => if leAt bs 16 4 ∈ [1, 2, 3] then leAt bs 16 4 else 1
    | none => 1
  let utc := match block utcBase utcType with
    | some bs => leAt bs 16 2
    | none => (((m.lane l).conf.network.map fun n => n.utcOffset)).getD 37
  let sealed_ := ((block sealBase sealType).map fun bs => leAt bs 16 4).getD 0
  let save := newestSave m st l
  let m := m.updLane l fun L => { L with
    sys := { L.sys with autostart := auto }, ptp := { L.ptp with utcOffset := utc, utcKnown := (block utcBase utcType).isSome }
    mtr := { L.mtr with sealCount := sealed_ % 2 ^ 31, unsealed := nbit sealed_ 31, saveSeq := save } }
  match newestCkpt m st l with
  | some r => updRed l (fun x => { x with ckptSeq := r.2.1, ckptTb := some (leAt r.2.2 0x28 8), ckptBytes := r.2.2.length }) m
  | none => m

/-- Module time of a lane that starts, from its calendar (R352). -/
def startTime (l : LaneId) (m : Module) : Module :=
  m.updLane l fun L =>
    let s : Int := if L.rtc.osf then 946684800 else L.rtc.cal.seconds + 946684800 + L.ptp.utcOffset
    { L with prg := { L.prg with tbOffset := s * 1000000 - (m.now / 1000 : Nat) }
             ptp := { L.ptp with steerState := 0, rate := 0, untrusted := L.rtc.osf, slots := [{}, {}], slewing := false, slewLeft := 0 } }

/-- The status bits a time keeper kept on backup, recorded with the start's OPSEC and PCC (R416). -/
def recordKept (l : LaneId) (m : Module) : Module :=
  let ks := (m.lane l).rtc.kept
  forEach ks (fun k => report l 15 k.1 k.2.1 k.2.2 0) (updRtc l (fun r => { r with kept := [] }) m)

/-- What every control die does as it powers up: its keys (R424); without a root secret it halts before it does anything
else (R309). -/
def bootLane (l : LaneId) (m : Module) : Module :=
  let m := laneKeys l m
  if ((m.lane l).key.slot 0).key.isNone then haltLane l 2 m else m

/-- A lane's store read at its start: its records, its image, and then its event ring and metrology log; the entries of the
image refill its EXPIRE_AT_RESET slots (R34, R371, R381, R389, R431). -/
def loadStore (st : Store) (l : LaneId) (m : Module) : Module :=
  reapplySecurity l (recorderStart st l (readStore st l (seqChecks st l m)))

/-- A lane starts as the elected one, up to the opening of its exchange (R303 steps 5 to 7). -/
def startLane (st : Store) (l : LaneId) (m : Module) : Module :=
  let m := domSettle l.num [1, 6, 7, 8, 9, 10, 11, 13, 15, 16] (wakeDoms l m)
  let s := (m.lane l).sys
  let m := recordKept l (report l 0 0x0001 s.startCause s.pcc l.num m)
  let m := if s.startCause = 2 then m else recordForces st l (recordShutdown st l m)
  openExchange st l .start (startTime l (loadStore st l m))

/-- Image counter of a lane's valid image, 0 without one (R304). -/
def startCounter (m : Module) (st : Store) (l : LaneId) : Nat :=
  match readBlock (m.lane l).nvm (st.mram l) slotSelBase slotType with
  | none => 0
  | some r =>
    let slot := leAt r.2.2 16 4 % 2
    if slotValid (m.lane l) (st.mram l) slot then (rawImage (slotBytes (st.mram l) slot)).counter else 0

/-- What an election reads of a lane's store, through the ECC (R304, R371). -/
def electionRead (st : Store) (l : LaneId) (m : Module) : Module :=
  let slot := match readBlock (m.lane l).nvm (st.mram l) slotSelBase slotType with
    | some r => leAt r.2.2 16 4 % 2
    | none => 0
  let m := seqCheck st l epochBase (epochBase + 64) 64 epochType (seqCheck st l slotSelBase (slotSelBase + 64) 64 slotType m)
  nvmRead l (imageBase slot) (slotBytes (st.mram l) slot).length m

/-- The election by lane A (R304): lane B's store is read over its woken receive path, and lane B is woken to start where
it is elected. Lane B's store is out of reach without the lane links, and while lane B is halted (R309). -/
def elect (st : Store) (m : Module) : Module :=
  let m := domSettle 0 [1, 6, 7, 8, 9, 10, 11, 13, 15, 16] (wakeDoms .A m)
  let reach := m.laneLink && m.laneB.sys.phase == .starting
  let m := when reach (onPeerPath .B (electionRead st .B)) m
  let a := startCounter m st .A
  let b := startCounter m st .B
  let l : LaneId := if reach && decide (a < b) then .B else .A
  let m := report .A 0 0x0002 (a % 2 ^ 32) (if reach then b % 2 ^ 32 else max32) l.num m
  let m := updSys .A (fun s => { s with elected := l }) (updSys .B (fun s => { s with elected := l }) m)
  if l == .B then
    let s := (m.lane .A).sys
    let m := recordKept .A (report .A 0 0x0001 s.startCause s.pcc 1 m)
    let m := updSys .A (fun s => { s with phase := .up }) (startTime .A (loadStore st .A m))
    startLane st .B (peerWake .B 5 (updRed .A (fun r => { r with role := .resync }) (setMode .A .resync 0 m)))
  else startLane st .A m

/-! ### Supply good and hold-up -/

/-- The always-on domain of a lane back on the supply; one that had lost every source starts afresh with OSF set (R403,
R408, R411 to R413, R379). -/
def aoSupply (st : Store) (l : LaneId) (m : Module) : Module :=
  let r := (m.lane l).rtc
  let m := if r.alive then m
    else
      let cause := if r.stopped && !r.lostAll then 2 else 0
      let v (base type tally cells : Nat) : Nat := counterValue (m.lane l).nvm (st.mram l) base type tally cells
      let ops := v optmBase optmType optmTally optmCells
      let pcc := v pcycBase pcycType pcycTally pcycCells
      m.updLane l fun L => { L with
        rtc := { lostAll := false, osf := true, osfCause := cause, secAt := m.now, cellAt := m.now, irq := 2
                 kept := [(0x8203, cause, 0)] }
        evr := { L.evr with aoStore := [] }
        sys := { L.sys with opsec := ops, pcc := pcc } }
  updRtc l (fun r => { r with onBackup := false, charging := r.charges, extSelected := false }) m

/-- Every lane that has not failed waits for the hold-up voltage to start; what its recorder had not written is lost with the
shutdown (R302, R303, R317, R396). -/
def beginStart (m : Module) : Module :=
  forEach m.laneList (fun l m => m.updLane l fun L =>
    let s := L.sys
    { L with
      sys := { s with startCause := if s.phase == .off then 0 else 1, phase := if s.failed then s.phase else .starting, holdupOk := false }
      evr := { L.evr with intake := [], held := [], known := false } }) m

/-- SUPPLY_GOOD: the supply on J1 has been good; both always-on domains go over to it and the start begins. While a
shutdown still runs, the start waits for its end (R302, R303 steps 1 and 2, R317, R438). -/
def supplyGoodBody (vinMv : Nat) (st : Store) (m : Module) : Module :=
  if m.supplyGood || decide (vinMv < 8000) then m
  else
    let m := { m with supplyGood := true, goodAt := m.now }
    let m := forEach m.laneList (fun l m =>
      m.updLane l fun L => { L with
        pwr := { L.pwr with vIn := vinMv % 65536 }, key := { L.key with trngFailed := false } }) (forEach m.laneList (fun l => aoSupply st l) m)
    if m.laneList.any fun l => (m.lane l).sys.phase == .saving then m else beginStart m

/-- The power-cycle count of a lane goes up by one (R303 step 3, R378). -/
def countCycle (st : Store) (l : LaneId) (m : Module) : Module :=
  if (m.lane l).sys.pcc ≥ 0xFFFFFF then m
  else counterIncrement st l pcycBase pcycType pcycTally pcycCells (updSys l (fun s => { s with pcc := s.pcc + 1 }) m)

/-- The lanes that have not failed. -/
def Module.fitLanes (m : Module) : List LaneId := m.laneList.filter fun l => !(m.lane l).sys.failed

/-- The lanes whose start waits for the hold-up voltage (R303 step 3). -/
def Module.freshLanes (m : Module) : List LaneId :=
  m.fitLanes.filter fun l => (m.lane l).sys.phase == .starting && !(m.lane l).sys.holdupOk

/-- The supply-fail path of every lane that has not failed is armed; the lockout and a power-on request end (R302, R412,
R415). -/
def armHoldup (vHoldMv : Nat) (m : Module) : Module :=
  forEach m.fitLanes (fun l m => releasePower l (m.updLane l fun L => { L with
    sys := { L.sys with holdupOk := true }, pwr := { L.pwr with vHold := vHoldMv % 65536 }
    rtc := { L.rtc with lockout := false } })) m

/-- Lanes that power up: their resets, which leave what the always-on domains have reported since the supply is good, their
power-cycle counts and dies, then their boot and the election, or the start of the
only lane (R303 steps 3 to 7, R304). -/
def startFresh (st : Store) (fresh : List LaneId) (m : Module) : Module :=
  let m := forEach fresh (fun l m => countCycle st l (domsOff l.num (resetLane l .starting true m))) m
  let m := powerUpDies m
  let m := forEach fresh (fun l m => updDom l.num 0 (fun x => { x with state := .on })
    (updRtc l (fun r => { r with opAt := m.goodAt }) (bootLane l m))) m
  let st := m.cur st
  if !fresh.contains .A || m.laneA.sys.phase != .starting then m else if m.variant.nLane = 1 then startLane st .A m else elect st m

/-- HOLDUP_OK_SET: the hold-up voltage has reached 7.5 V: the supply-fail path is armed and a start that waited goes on
(R302, R303 steps 3 to 7, R412, R415). -/
def holdupOkSetBody (vHoldMv : Nat) (st : Store) (m : Module) : Module :=
  if !m.supplyGood || decide (vHoldMv < 7500) then m
  else
    let fresh := m.freshLanes
    if fresh.isEmpty then armHoldup vHoldMv m else startFresh st fresh (armHoldup vHoldMv m)

/-! ### The start swap and the restore -/

/-- The lane that was not elected, compared with the active one: STANDBY with equal digests over the lane links, else
RESYNC (R307). -/
def joinStandby (l : LaneId) (cause : Nat) (m : Module) : Module :=
  let eq := m.laneLink && (m.lane l).cfg.activeDigest == (m.lane l.other).cfg.activeDigest
  let m := updRed l (fun r => { r with role := if eq then .standby else .resync }) m
  setMode l (if eq then .standby else .resync) cause (updSys l (fun s => { s with phase := .up }) m)

/-- The staged dies of a starting lane swap their banks, and the lane is LOADED, or BLANK without an image (R303 step 8,
R305, R306, R310). -/
def swapAtStart (l : LaneId) (m : Module) : Module :=
  let L := m.lane l
  let m := forEach L.cfg.staged (fun k => if k < 2 then id else if k < 4 then swapSolver (k - 2) else swapField (k - 4)) m
  let m := updCfg l (fun c => { c with staged := [] }) (updSys l (fun s => { s with phase := .up }) m)
  if L.cfg.active.isSome then
    sendSafe l (setMode l .loaded 0 (blkDoms l .ret (updSys l (fun s => { s with autoDue := true }) m)))
  else setMode l .blank 0 m

/-- A lane that was not elected and still waits takes its place beside the active one (R307). -/
def joinPeer (st : Store) (l : LaneId) (m : Module) : Module :=
  let P := m.lane l
  if m.variant.nLane = 2 && P.sys.phase == .starting && !P.sys.failed then
    let m := recordKept l (report l 0 0x0001 P.sys.startCause P.sys.pcc l.other.num m)
    joinStandby l 0 (startTime l (onPeerPath l (loadStore (m.cur st) l) m))
  else m

/-- START_SWAP: at the first 1 ms tick at least 5 ms after the raise, all present dies swap; the lane is LOADED, or
BLANK without an image, and the other lane takes its place beside it (R303 step 8, R305 to R307, R310). -/
def startSwapBody (l : LaneId) (st : Store) (m : Module) : Module :=
  let L := m.lane l
  if L.sys.phase != .startSwap || !L.red.holds then m
  else joinPeer st l.other (swapAtStart l (clockTo (cdiv (L.sys.raisedAt + 5000000) 1000000 * 1000000) m))

/-- The record a die's set is restored from: the newest of both lanes' stores (R261). -/
def restoreRecord (m : Module) (st : Store) (l : LaneId) (d : Nat) : Option (Nat × Bytes) :=
  let own := (accuNewest st m l d).map fun r => r.2
  let peer := if m.variant.nLane = 2 && m.laneLink then (accuNewest st m l.other d).map fun r => r.2 else none
  match own, peer with
  | some a, some b => if newer b.1 a.1 then some b else some a
  | some a, none => some a
  | none, b => b

/-- One field die's set restored from the records read in both stores (R261, R262, R371, R375). -/
def restoreDie (st : Store) (l : LaneId) (d : Nat) (m : Module) : Module :=
  let ls := if m.variant.nLane = 2 && m.laneLink then [l, l.other] else [l]
  let m := forEach ls (fun k => seqCheck st k (accuBase 0 d) (accuBase 1 d) 10240 accuType) m
  match restoreRecord m st l d with
  | some r =>
    let rolls := restoreRolls r.2 (m.fd d)
    let m := m.updFd d (restoreSet d r.2)
    let m := forEach rolls (fun x m => report l 9 0x5803 (pointCode d x.1 x.2.1) x.2.2.1 x.2.2.2 m) m
    if leAt r.2 16 1 = 1 then m
    else report l 9 0x5802 (fdId d) ((m.lane l).sys.opsec - leAt r.2 20 4 + 1) r.1 m
  | none =>
    let m := m.updFd d fun fd => { fd with restored := true }
    if (loggedSeal m st l).isSome then report l 9 0x5805 (fdId d) 0 0 m else m

/-- Whether the METERING section of a lane's active image is known to differ from the one it replaced: the image of the other
slot, where that one is valid and older; where none is, the blank one, if the slot selector has been written once only, so
that no image was active before (R62, R310). -/
def changedMetering (m : Module) (st : Store) (l : LaneId) (c : Conf) : Bool :=
  match loadSlot m.variant (m.lane l) (st.mram l) (m.lane l).cfg.shadowSlot with
  | some o => decide (o.counter < c.counter) && c.metBytes != o.metBytes
  | none =>
    let first := match readBlock (m.lane l).nvm (st.mram l) slotSelBase slotType with
      | some r => r.2.1 == 1
      | none => false
    first && c.metBytes != blankMetering m.variant

/-- Whether a stored accumulator record other than a FINAL one was saved under an image: the lane went on after the apply
of that image, so the apply came to its end. -/
def savedUnder (st : Store) (m : Module) (l : LaneId) (counter : Nat) : Bool :=
  let ls := if m.variant.nLane = 2 && m.laneLink then [l, l.other] else [l]
  ls.any fun k => m.fdList.any fun d => [0, 1].any fun s =>
    match readRecord (m.lane k).nvm (st.mram k) (accuBase s d) 10240 accuType with
    | some r => leAt r.2 16 1 != 1 && leAt r.2 24 8 == counter
    | none => false

/-- The seal counts of the METROLOGY_CHANGE records in the logs a lane reads at its start, with their image counters. -/
def loggedChanges (st : Store) (m : Module) (l : LaneId) : List (Nat × Nat) :=
  let ls := if m.variant.nLane = 2 && m.laneLink then [l, l.other] else [l]
  let recs := ls.flatMap fun k => (mlogRecords (m.lane k).nvm (st.mram k)).filter fun r => leAt r.2 4 2 == 0x5801
  recs.map (fun r => (leAt r.2 16 4 % 2 ^ 31, leAt r.2 20 4)) ++
    ((m.lane l).evr.intake.filter fun r => r.code == 0x5801).map fun r => (r.p0 % 2 ^ 31, r.p1)

/-- A METERING change whose record the supply failure kept from being written, judged against the metrology log: where
the block already holds a count the log lacks, only the record is missing; where both lack it, the count rises too (R62,
R510). -/
def missingChange (st : Store) (l : LaneId) (m : Module) : Module :=
  match (m.lane l).cfg.active with
  | none => m
  | some c =>
    let logs := loggedChanges st m l
    let t := (m.lane l).mtr
    if logs.any fun r => r.2 == c.counter % 2 ^ 32 then m
    else if logs.all fun r => decide (r.1 < t.sealCount) && t.sealCount != 0 then recordChange l c m
    else if savedUnder st m l c.counter || !changedMetering m st l c then m
    else
      let k := (m.lane l).key
      let ok := !k.trngFailed && sealValid k.slots t.sealCount true c.metBytes
      sealChange st l c ok (spend 1 l (sealUses k.slots t.sealCount true c.metBytes) m)

/-- The newest save number of the stores a lane reads at its start (R258, R261). -/
def adoptSaveSeq (st : Store) (l : LaneId) (m : Module) : Module :=
  let save := newestSave m st l
  let peer := if m.variant.nLane = 2 && m.laneLink then newestSave m st l.other else save
  m.updLane l fun L => { L with mtr := { L.mtr with saveSeq := if newer peer save then peer else save } }

/-- Every reached field die that waits for it has its set restored; the other lane's store is read with that lane's path
ON (R261). -/
def restoreReached (st : Store) (l : LaneId) (m : Module) : Module :=
  let read (m : Module) : Module := forEach ((m.fdsOf l).filter fun d => !(m.fd d).restored) (restoreDie st l) (adoptSaveSeq st l m)
  let m := if m.variant.nLane = 2 && m.laneLink then onPeerPath l.other read m else read m
  let m := missingChange st l m
  updSys l (fun s => { s with restored := m.fdList.all fun d => (m.fd d).restored }) m

/-- ACCUMULATOR_RESTORE_COMPLETE: every reached field die's set is restored, the START save begins, and once every present die's
is, the mode of `SYS_AUTOSTART` is requested, once in a start (R62, R261, R262, R306). -/
def accumulatorRestoreCompleteBody (l : LaneId) (st : Store) (m : Module) : Module :=
  let L := m.lane l
  if L.sys.phase != .up || !L.red.holds || L.sys.restored then m
  else
    let m := saveStart l 2 (restoreReached st l m)
    let s := (m.lane l).sys
    if s.mode == .loaded && s.autoDue && s.restored then autostart l m else m

/-- The instant at which lane B arms its triggers: once lane A's wire has toggled for 100 ms without a gap of 3 ms, at the
latest 2 s after supply good (R308). -/
def Module.armInstant (m : Module) : Nat :=
  let late := m.goodAt + 2000000000
  match m.laneB.red.wireSince with
  | none => late
  | some t =>
    let due := max m.now (t + 100000000)
    if due < m.laneA.red.wireAt + 3000000 then min due late else late

/-- START_TRIGGER_ARM: lane B's always-on domain arms its triggers (R308). -/
def startTriggerArmBody (l : LaneId) (_ : Store) (m : Module) : Module :=
  let B := m.laneB
  if l = .A || m.variant.nLane = 1 || B.sys.failed || B.red.holds || B.red.patArmed || !B.sys.holdupOk then m
  else updRed .B (fun r => { r with wireArmed := true, patArmed := true }) (clockTo m.armInstant m)

/-! ### Halt and restart -/

/-- LOCKSTEP_MISMATCH: the supervisor pair of the active lane differs (cause 0), or its SRAM holds an uncorrectable error
(1) (R314). -/
def lockstepMismatchBody (l : LaneId) (cause : Nat) (_ : Store) (m : Module) : Module :=
  if (m.lane l).red.holds then haltLane l (min 1 cause) m else m

/-- LANE_RESET: a write of `SYS_CTRL` with the key halts the lane (R314). -/
def laneResetBody (l : LaneId) (v : View) (value : Word) (_ : Store) (m : Module) : Module :=
  guardWrite l v (fun m => if bitOf value 0 && fld value 31 16 == 0x4E52 then haltLane l 3 m else m) m

/-- A restarted lane of two takes the place of one not elected, its triggers armed in STANDBY (R307, R314). -/
def rejoin (st : Store) (l : LaneId) (m : Module) : Module :=
  let m := recordKept l (report l 0 0x0001 2 (m.lane l).sys.pcc l.other.num m)
  let m := joinStandby l 10 (startTime l (loadStore st l m))
  let on := (m.lane l).sys.mode == .standby
  updRed l (fun r => { r with wireArmed := on, patArmed := on }) m

/-- A halted lane boots again: its domains come up and what it keeps is read (R314). -/
def restartBoot (l : LaneId) (m : Module) : Module :=
  let m := updSys l (fun s => { s with startCause := 2, phase := .starting, elected := l.other }) m
  let m := m.updLane l fun L => { L with key := { L.key with trngFailed := false } }
  bootLane l (domSettle l.num [1, 6, 7, 8, 9, 10, 11, 13, 15, 16] (wakeDoms l m))

/-- LANE_RESTART: a halted lane is up again; beside another lane it takes the place of one not elected, alone it raises
the next claim (R314, R319). -/
def laneRestartBody (l : LaneId) (st : Store) (m : Module) : Module :=
  if (m.lane l).sys.phase != .halted then m
  else
    let m := restartBoot l m
    let st := m.cur st
    if (m.lane l).sys.phase != .starting then m
    else if m.variant.nLane = 1 then startLane st l (updSys l (fun s => { s with elected := l }) m)
    else rejoin st l m

/-- TRNG_HEALTH_FAILURE: a health test fails and the generator stops; at a lane's first start the lane will halt (R309,
R423). -/
def trngHealthFailureBody (l : LaneId) (test : Nat) (_ : Store) (m : Module) : Module :=
  let m := m.updLane l fun L => { L with key := { L.key with trngOk := false, trngFailed := true } }
  report l 16 0x9007 test 0 0 (raise l 16 4 m)

/-! ## Meanings of the commands -/

/-- SUPPLY_GOOD (R303). -/
def execSupplyGood (vinMv : Nat) (s : State) : Host.Outcome State Fault Refusal :=
  .next (commit s (supplyGoodBody vinMv))

/-- HOLDUP_OK_SET (R302). -/
def execHoldupOkSet (vHoldMv : Nat) (s : State) : Host.Outcome State Fault Refusal :=
  .next (commit s (holdupOkSetBody vHoldMv))

/-- START_SWAP (R305). -/
def execStartSwap (l : LaneId) (s : State) : Host.Outcome State Fault Refusal :=
  .next (commit s (startSwapBody l))

/-- ACCUMULATOR_RESTORE_COMPLETE (R261). -/
def execAccumulatorRestoreComplete (l : LaneId) (s : State) : Host.Outcome State Fault Refusal :=
  .next (commit s (accumulatorRestoreCompleteBody l))

/-- START_TRIGGER_ARM (R308). -/
def execStartTriggerArm (l : LaneId) (s : State) : Host.Outcome State Fault Refusal :=
  .next (commit s (startTriggerArmBody l))

/-- LOCKSTEP_MISMATCH (R314). -/
def execLockstepMismatch (l : LaneId) (cause : Nat) (s : State) : Host.Outcome State Fault Refusal :=
  .next (commit s (lockstepMismatchBody l cause))

/-- LANE_RESET (R314). -/
def execLaneReset (l : LaneId) (v : View) (value : Word) (s : State) : Host.Outcome State Fault Refusal :=
  .next (commit s (laneResetBody l v value))

/-- LANE_RESTART (R314). -/
def execLaneRestart (l : LaneId) (s : State) : Host.Outcome State Fault Refusal :=
  .next (commit s (laneRestartBody l))

/-- TRNG_HEALTH_FAILURE (R423). -/
def execTrngHealthFailure (l : LaneId) (test : Nat) (s : State) : Host.Outcome State Fault Refusal :=
  .next (commit s (trngHealthFailureBody l test))

end Sys2Proof.Machine
end

