-- ==== Sys2Proof/Machine/Failover.lean ====
section
/-! DEFINITION. Failover on the lanes' side: the triggers, the takeover's load, self-fencing, switchover and take,
resynchronisation, input frames as the active lane sees them, and changes of links (R18, R22 to R24, R30, R277, R281,
R282, R284, R285, R292, R294 to R297). -/

namespace Sys2Proof.Machine

/-! ### Reach and triggers -/

/-- Whether the newest valid input frame of a field die is at most 1 ms old (R281). -/
def Module.reached (m : Module) (l : LaneId) (d : Nat) : Bool :=
  match at? (m.lane l).red.frameAt d none with
  | some t => decide (m.now ≤ t + 1000000)
  | none => false

/-- Bitmap of the dies a lane reaches (R281). -/
def Module.reachBits (m : Module) (l : LaneId) : Nat := dieBits (m.fdList.filter fun d => m.reached l d)

/-- Field dies whose wake patterns reach a lane: vacant dies that last obeyed the other lane (R276). -/
def Module.patterns (m : Module) (l : LaneId) : List Nat :=
  (m.fdsOf l).filter fun d => (m.fd d).vacant && claimLane (m.fd d).claim == l.other

/-- Whether a lane may be woken by its triggers: a lane in STANDBY, or lane B before its first start of the power cycle
(R277, R308, R311). -/
def Lane.wakeable (L : Lane) : Bool :=
  !L.sys.failed && L.sys.holdupOk && ((L.sys.mode == .standby && L.sys.phase == .up) || L.sys.phase == .starting)

/-- A declared loss of the active lane: recorded, and the lane wakes for a takeover; one that has not started this power
cycle starts as the elected lane (R284 steps 2 and 3, R308). -/
def declareLoss (st : Store) (l : LaneId) (trigger : Nat) (m : Module) : Module :=
  let bits := dieBits (m.patterns l)
  let m := report l 10 0x6001 trigger bits 0 m
  if (m.lane l).sys.phase == .starting then startLane st l (updSys l (fun s => { s with elected := l }) m)
  else
    let m := updRed l (fun r => { r with role := .takeover, exch := some { why := .takeover } }) m
    wakeDoms l (updSys l (fun s => { s with phase := .waking }) m)

/-- LANE_WIRE_LOSS: the wire has shown no edge for 3 ms (R277). -/
def laneWireLossBody (l : LaneId) (st : Store) (m : Module) : Module :=
  let L := m.lane l
  if m.variant.nLane = 1 || !m.supplyGood || !L.red.wireArmed || !L.wakeable then m
  else
    let m := clockTo ((m.lane l.other).red.wireAt + 3000000) m
    declareLoss st l 0 (updRed l (fun r => { r with wireLost := true, wireSince := none }) m)

/-- VACANCY_PATTERN_WAKE: wake patterns come from at least QUORUM field dies (R277). -/
def vacancyPatternWakeBody (l : LaneId) (st : Store) (m : Module) : Module :=
  let L := m.lane l
  if m.variant.nLane = 1 || !m.supplyGood || !L.red.patArmed || !L.wakeable || decide ((m.patterns l).length < m.variant.quorum) then m
  else declareLoss st l 1 m

/-- TRIGGER_REARM: the wire has toggled for 100 ms without a gap of 3 ms; its trigger is armed again (R277). -/
def triggerRearmBody (l : LaneId) (_ : Store) (m : Module) : Module :=
  let r := (m.lane l).red
  match r.wireSince with
  | none => m
  | some t =>
    let due := max m.now (t + 100000000)
    if m.variant.nLane = 1 || !r.patArmed || decide ((m.lane l.other).red.wireAt + 3000000 ≤ due) then m
    else updRed l (fun r => { r with wireArmed := true, wireLost := false }) (clockTo due m)

/-! ### The takeover's load -/

/-- The newest checkpoint of a lane's store read for a takeover (R290, R292). -/
def readCheckpoint (st : Store) (l : LaneId) (m : Module) : Module :=
  let m := seqCheck st l (ckptBase 0) (ckptBase 1) ckptMax ckptType m
  match newestCkpt m st l with
  | none => report l 10 0x6009 0 0 0 (updRed l (fun r => { r with restored := none, ckptTb := none }) m)
  | some r =>
    let c := parseCheckpoint r.2.2
    let m := updRed l (fun x => { x with
      restored := some c, ckptSeq := c.seq, ckptTb := some c.captureTb, ckptBytes := r.2.2.length }) m
    let limit := (m.lane l).conf.safety.ckptAgeLimit
    let age := m.us - c.captureTb
    if limit * 1000000 < age then report l 10 0x6008 c.seq (age / 1000000) limit m else m

/-- TAKEOVER_LOAD_COMPLETE: the waking lane has read its image, or the other one that the dies' majority names, and its
newest checkpoint, and opens the exchange (R284 steps 5 to 8, R285, R292, R296, R297). -/
def takeoverLoadCompleteBody (l : LaneId) (st : Store) (m : Module) : Module :=
  let L := m.lane l
  match (if L.sys.phase == .waking then L.red.exch else none) with
  | none => m
  | some e =>
    let m := domSettle l.num [1, 6, 7, 8, 9, 10, 11, 13, 15, 16] m
    if e.second then
      let slot := L.cfg.shadowSlot
      let m := adoptSlot st l slot m
      openExchange st l e.why (report l 10 0x6011 ((m.lane l).cfg.activeCounter % 2 ^ 32) slot 0 m)
    else openExchange st l e.why (readCheckpoint st l (adoptSlot st l L.cfg.activeSlot m))

/-! ### Self-fencing and input frames -/

/-- The second newest of the instants at which a lane last heard its field dies. -/
def secondNewest (ts : List Nat) : Nat := ((ts.insertionSort (fun a b => b ≤ a)).drop 1).headD 0

/-- SELF_FENCE: the lane has reached no more than 4 − QUORUM field dies throughout T_VACANT (R281). -/
def selfFenceBody (l : LaneId) (_ : Store) (m : Module) : Module :=
  let L := m.lane l
  if !L.red.holds || m.variant.nLane = 1 then m
  else
    let seen := L.red.frameAt.map fun t => t.getD L.sys.raisedAt
    let m := clockTo (secondNewest seen + 1000000 + L.tVacantNs) m
    let m := report l 10 0x6004 L.red.claim (m.reachBits l) 0 (dropIntake l m)
    let done := L.red.releaseAt.isSome
    let m := updRed l (fun r => { r with selfFenced := true }) (leaveActive l (if done then 8 else 7) m)
    raise l 10 4 m

/-- INPUT_FRAME_RECEIVED: the active lane takes the next frame of a field die: reach, admission, the claim it shows, and
what waits for the die's first frame (R30, R61, R135, R215, R263, R281, R282). -/
def inputFrameReceivedBody (l : LaneId) (d : Nat) (_ : Store) (m : Module) : Module :=
  let pick : Msg → Option InFrame
    | .frame f => some f
    | _ => none
  match takeMail (fdId d) l.num pick m.mail with
  | none => m
  | some (f, rest) =>
    let m := { m with mail := rest }
    let L := m.lane l
    if !L.red.holds || !m.fdReach l d then m
    else if L.red.claim < f.claim then demote l f.claim (fdId d) m
    else
      let fresh := decide (L.cfg.applyInstant ≤ f.tick)
      let m := m.updLane l fun L => { L with
        frames := upd L.frames d fun _ => some f
        heard := upd L.heard d fun _ => true
        red := { L.red with frameAt := upd L.red.frameAt d fun _ => some m.now }
        prg := { L.prg with nyv := if fresh then L.prg.nyv.filter (fun c => c / 64 != d) else L.prg.nyv } }
      let m := admissionFrame l f m
      match L.mtr.takeoverWait with
      | none => m
      | some w =>
        let w := w.filter (· != d)
        let m := m.updLane l fun L => { L with mtr := { L.mtr with takeoverWait := if w.isEmpty then none else some w } }
        if w.isEmpty then saveStart l 3 m else m

/-! ### Switchover and take -/

/-- REASON with which SWITCHOVER is refused, 0 when it is accepted (R296). -/
def switchRefusal (m : Module) (l : LaneId) : Nat :=
  let L := m.lane l
  if !L.red.holds || L.sys.phase != .up then 4
  else if !m.laneLink then 8
  else if !m.peerAt l .standby then 1
  else if L.cfg.state == .checking || L.cfg.state == .armed then 2
  else if L.sys.mode == .blank then 3
  else 0

/-- SWITCHOVER: a write of `RED_CTRL` with the bit starts a switchover or is refused; single-lane parts ignore it
(R296, R299). -/
def switchoverBody (l : LaneId) (v : View) (_ : Store) (m : Module) : Module :=
  guardWrite l v (fun m =>
    if m.variant.nLane = 1 || (m.lane l).red.ctrlState = 1 then m
    else
      let why := switchRefusal m l
      if why ≠ 0 then updRed l (fun r => { r with ctrlState := 3, ctrlReason := why }) m
      else
        let m := updRed l (fun r => { r with
          ctrlState := 1, ctrlReason := 0, switchAt := some m.now, switchReady := false, role := .switching }) m
        let m := report l 10 0x600E (m.lane l).red.claim 0 0 m
        wakeDoms l.other (updRed l.other (fun r => { r with prepare := true }) m)) m

/-- A switchover ended before RELEASE: the active lane keeps its role and the standby its own (R296). -/
def abortSwitch (l : LaneId) (reason : Nat) (m : Module) : Module :=
  let m := updRed l (fun r => { r with
    ctrlState := 3, ctrlReason := reason, switchAt := none, switchReady := false, finalCkpt := false, role := .active }) m
  let m := report l 10 0x600F reason 0 0 (raise l 10 16 m)
  let P := m.lane l.other
  let m := updRed l.other (fun r => { r with prepare := false }) m
  if P.sys.mode == .standby then restDoms l.other m else m

/-- SWITCHOVER_READY: the standby of lane l has loaded its image and newest checkpoint and reports READY with its
configuration digest; the next checkpoint instant is the final one (R296 steps 2 and 3). -/
def switchoverReadyBody (l : LaneId) (st : Store) (m : Module) : Module :=
  let r := (m.lane l).red
  let p := l.other
  match r.switchAt with
  | none => m
  | some t =>
    if r.ctrlState ≠ 1 || r.switchReady || !(m.lane p).red.prepare || !m.peerAt l .standby || decide (t + 250000000 < m.now) then m
    else
      let m := domSettle p.num [1, 6, 7, 8, 9, 10, 11, 13, 15, 16] m
      let m := adoptSlot st p (m.lane p).cfg.activeSlot m
      if (m.lane p).cfg.activeDigest == (m.lane l).cfg.activeDigest then updRed l (fun r => { r with switchReady := true }) m
      else m

/-- SWITCHOVER_READY_TIMEOUT: without READY by 250 ms the switchover ends (R296 step 2). -/
def switchoverReadyTimeoutBody (l : LaneId) (_ : Store) (m : Module) : Module :=
  let r := (m.lane l).red
  match r.switchAt with
  | none => m
  | some t => if r.ctrlState ≠ 1 || r.switchReady then m else abortSwitch l 7 (clockTo (t + 250000000) m)

/-- SWITCHOVER_REVERT_TIMEOUT: no die has shown a higher claim 250 ms after RELEASE; the old lane raises its own next
epoch (R296). -/
def switchoverRevertTimeoutBody (l : LaneId) (st : Store) (m : Module) : Module :=
  let r := (m.lane l).red
  match r.releaseAt with
  | none => m
  | some t => if !r.holds || r.exch.isSome then m else openExchange st l .revert (clockTo (t + 250000000) m)

/-- TAKE: a write of `RED_CTRL` with the bit makes a lane in STANDBY or RESYNC run a takeover from its own MRAM (R297,
R299). -/
def takeLaneBody (l : LaneId) (v : View) (_ : Store) (m : Module) : Module :=
  guardWrite l v (fun m =>
    let L := m.lane l
    let refuse (k : Nat) (m : Module) : Module := updRed l (fun r => { r with ctrlState := 3, ctrlReason := k }) m
    if m.variant.nLane = 1 || L.red.ctrlState = 1 then m
    else if !L.sys.mode.rests || L.sys.phase != .up then refuse 3 m
    else if m.peerCode l = 1 then refuse 5 m
    else
      let m := updRed l (fun r => { r with ctrlState := 1, ctrlReason := 0, role := .takeover, exch := some { why := .take } }) m
      wakeDoms l (updSys l (fun s => { s with phase := .waking }) m)) m

/-! ### Resynchronisation -/

/-- The active image of lane a written into lane l's shadow slot and adopted there; what was written is then no longer in the
shadow slot, whose state is EMPTY (R294 steps 1 and 2; DESIGN CHOICE, assumption 52). -/
def adoptPeerImage (st : Store) (a l : LaneId) (m : Module) : Module :=
  let A := (m.lane a).cfg
  let slot := (m.lane l).cfg.shadowSlot
  let m := peerShadowWrite st l (provBytes (st.mram a) A.activeSlot) (slotBytes (st.mram a) A.activeSlot) m
  let m := adoptSlot (m.cur st) l slot m
  if (m.lane l).cfg.activeDigest != A.activeDigest then m
  else
    let m := updCfg l (fun c => { c with state := .empty, candidate := none, floor := max c.floor A.activeCounter }) m
    applySecurity false l (m.lane l).conf.security (writeSlotSel (m.cur st) l m)

/-- Every metrology record of lane a newer than lane l's newest, carried over (R391). -/
def carryNewer (st : Store) (a l : LaneId) (m : Module) : Module :=
  let newest := (m.lane l).evr.mHead
  let recs := (mlogRecords (m.lane a).nvm (st.mram a)).filter fun r => newest = 0 || newer r.1 newest
  carryRecords st l (recs.map (·.2)) m

/-- RESYNC_COMPLETE: lane l in RESYNC has caught up with the active lane: image, accumulators, seal count, metrology
records and a checkpoint; it enters STANDBY (R258, R294, R391, R510). -/
def resyncCompleteBody (l : LaneId) (st : Store) (m : Module) : Module :=
  let a := l.other
  let L := m.lane l
  if m.variant.nLane = 1 || L.sys.mode != .resync || L.sys.phase != .up || !m.laneLink || L.sys.failed ||
      !(m.lane a).red.holds || (m.lane a).sys.phase != .up then m
  else
    let m := if (m.lane a).cfg.activeDigest == L.cfg.activeDigest then m else adoptPeerImage st a l m
    if (m.lane l).cfg.activeDigest != (m.lane a).cfg.activeDigest then m
    else
      let seq := nextSeq (m.lane a).mtr.saveSeq
      let m := m.updLane a fun A => { A with mtr := { A.mtr with saveSeq := seq } }
      let m := saveWrite st l ((m.fdsOf a).map fun d => (d, accuRecord m a d 0 seq)) m
      let t := (m.lane a).mtr
      let m := m.updLane l fun L => { L with mtr := { L.mtr with
        saveSeq := seq, sealCount := t.sealCount, unsealed := t.unsealed } }
      let m := carryNewer st a l (writeSeal .peer st l m)
      let c := captureCkpt st a m
      let held (r : Red) : Red := { r with ckptSeq := c.seq, ckptTb := some c.captureTb, ckptBytes := c.bytes.length }
      let m := updRed l held (updRed a held (storeCkpt st l c m))
      let m := updRed a (fun r => { r with mlogConfirmed := (m.lane a).evr.mHead }) m
      let m := updRed l (fun r => { r with
        role := .standby, wireArmed := true, patArmed := true, wireLost := false, selfFenced := false }) m
      let m := setMode l .standby 9 m
      let m := report l 10 0x600D ((m.lane l).cfg.activeCounter % 2 ^ 32) c.seq 0 m
      restDoms l (raise a 10 32 (raise l 10 32 m))

/-! ### Links and islands -/

/-- Messages between two dies dropped. -/
def cutMail (a b : Nat) (m : Module) : Module :=
  { m with mail := m.mail.filter fun x => !((x.src == a && x.dst == b) || (x.src == b && x.dst == a)) }

/-- FIELD_LINK_CHANGE: a control–field link goes down, and what is under way on it is lost, or comes up; the active lane
brings a die that was left behind up to its claim (R24, R279). -/
def fieldLinkChangeBody (l : LaneId) (d : Nat) (up : Bool) (st : Store) (m : Module) : Module :=
  if m.variant.nFd ≤ d || !m.laneList.contains l || (m.lane l).sys.failed then m
  else
    let m := standbyWatch l.other (m.updLane l fun L => { L with fldUp := upd L.fldUp d fun _ => up })
    if !up then cutMail l.num (fdId d) m
    else
      let r := (m.lane l).red
      if r.holds && r.exch.isNone && r.releaseAt.isNone && m.fdUp d && decide ((m.fd d).claim < r.claim) then
        openExchange st l .join m
      else m

/-- SOLVER_LINK_CHANGE: a solver die's link to a lane goes down or up; the active lane brings a die that was left behind
up to its claim (R24, R121, R279). -/
def solverLinkChangeBody (l : LaneId) (sd : Nat) (up : Bool) (st : Store) (m : Module) : Module :=
  if !m.laneList.contains l || (m.lane l).sys.failed then m
  else
    let m := solverLink l sd up m
    let r := (m.lane l).red
    if up && r.holds && r.exch.isNone && r.releaseAt.isNone && m.sdReach l sd && decide ((m.sd sd).claim < r.claim) then
      openExchange st l .join m
    else m

/-- LANE_LINK_CHANGE: one of the two lane links goes down or comes up. Once neither is up, mirrors end, and a switchover
not yet released (R18, R286, R291, R294, R296). -/
def laneLinkChangeBody (link : Nat) (up : Bool) (_ : Store) (m : Module) : Module :=
  if m.variant.nLane = 1 || m.laneA.sys.failed || m.laneB.sys.failed then m
  else
    let m := { m with laneLinks := upd m.laneLinks link fun _ => up }
    let up := m.laneLink
    forEach m.laneList (fun l m =>
      let r := (m.lane l).red
      if !r.holds then m
      else
        let m := if !up && (r.mirrorAt.isSome || r.ckpt.isSome) then mirrorFailed l 0 m else m
        let m := if !up && r.switchAt.isSome && r.releaseAt.isNone then abortSwitch l 8 m else m
        standbyWatch l m) m

/-- A lane lost with its control die, of which only the always-on domain stays (R22, R24). -/
def loseLane (island : LaneId) (m : Module) : Module :=
  if (m.lane island).sys.failed then m
  else
    let n := island.num
    let m := dropMail n (domsOff n (dropRings island m))
    let m := m.updLane island fun L => { L with
      sys := { L.sys with failed := true, phase := .stopped }
      red := { L.red with holds := false, exch := none, ckpt := none, mirrorAt := none }
      prg := { L.prg with running := false }
      hst := { L.hst with linkUp := false }
      fldUp := [false, false, false, false], slv := { L.slv with linkUp := [false, false] } }
    { m with laneLinks := [false, false] }

/-- A regulator island lost: its solver die, and with the last island the field dies too (R22, R23, R33). -/
def loseIsland (n : Nat) (m : Module) : Module :=
  let m := { m with islands := upd m.islands n fun _ => false }
  let m := domsOff (sdId n) ((loseJobs n m).updSd n fun s => { s with powered := false, results := [] })
  if m.islandsOn then m
  else refreshAll (forEach m.fdList (fun d m =>
    dropMail (fdId d) (domsOff (fdId d) m) |>.updFd d fun fd => { fd with powered := false }) m)

/-- ISLAND_FAILURE: a control die fails, or an island with its control die and its solver die. A later failure of the
island whose control die is lost already takes the solver die (R22 to R24). -/
def islandFailureBody (island : LaneId) (controlOnly : Bool) (_ : Store) (m : Module) : Module :=
  let n := island.num
  if !m.laneList.contains island || !at? m.islands n true then m
  else
    let m := loseLane island m
    standbyWatch island.other (slvWatch (if controlOnly then m else loseIsland n m))

/-! ## Meanings of the commands -/

/-- LANE_WIRE_LOSS (R277). -/
def execLaneWireLoss (l : LaneId) (s : State) : Host.Outcome State Fault Refusal :=
  .next (commit s (laneWireLossBody l))

/-- VACANCY_PATTERN_WAKE (R277). -/
def execVacancyPatternWake (l : LaneId) (s : State) : Host.Outcome State Fault Refusal :=
  .next (commit s (vacancyPatternWakeBody l))

/-- TRIGGER_REARM (R277). -/
def execTriggerRearm (l : LaneId) (s : State) : Host.Outcome State Fault Refusal :=
  .next (commit s (triggerRearmBody l))

/-- TAKEOVER_LOAD_COMPLETE (R284). -/
def execTakeoverLoadComplete (l : LaneId) (s : State) : Host.Outcome State Fault Refusal :=
  .next (commit s (takeoverLoadCompleteBody l))

/-- SELF_FENCE (R281). -/
def execSelfFence (l : LaneId) (s : State) : Host.Outcome State Fault Refusal :=
  .next (commit s (selfFenceBody l))

/-- INPUT_FRAME_RECEIVED (R30). -/
def execInputFrameReceived (l : LaneId) (d : Nat) (s : State) : Host.Outcome State Fault Refusal :=
  .next (commit s (inputFrameReceivedBody l d))

/-- SWITCHOVER (R296). -/
def execSwitchover (l : LaneId) (v : View) (s : State) : Host.Outcome State Fault Refusal :=
  .next (commit s (switchoverBody l v))

/-- SWITCHOVER_READY (R296). -/
def execSwitchoverReady (l : LaneId) (s : State) : Host.Outcome State Fault Refusal :=
  .next (commit s (switchoverReadyBody l))

/-- SWITCHOVER_READY_TIMEOUT (R296). -/
def execSwitchoverReadyTimeout (l : LaneId) (s : State) : Host.Outcome State Fault Refusal :=
  .next (commit s (switchoverReadyTimeoutBody l))

/-- SWITCHOVER_REVERT_TIMEOUT (R296). -/
def execSwitchoverRevertTimeout (l : LaneId) (s : State) : Host.Outcome State Fault Refusal :=
  .next (commit s (switchoverRevertTimeoutBody l))

/-- TAKE (R297). -/
def execTakeLane (l : LaneId) (v : View) (s : State) : Host.Outcome State Fault Refusal :=
  .next (commit s (takeLaneBody l v))

/-- RESYNC_COMPLETE (R294). -/
def execResyncComplete (l : LaneId) (s : State) : Host.Outcome State Fault Refusal :=
  .next (commit s (resyncCompleteBody l))

/-- FIELD_LINK_CHANGE (R24). -/
def execFieldLinkChange (l : LaneId) (d : Nat) (up : Bool) (s : State) : Host.Outcome State Fault Refusal :=
  .next (commit s (fieldLinkChangeBody l d up))

/-- SOLVER_LINK_CHANGE (R121). -/
def execSolverLinkChange (l : LaneId) (sd : Nat) (up : Bool) (s : State) : Host.Outcome State Fault Refusal :=
  .next (commit s (solverLinkChangeBody l sd up))

/-- LANE_LINK_CHANGE (R294). -/
def execLaneLinkChange (up : LinkUp) (s : State) : Host.Outcome State Fault Refusal :=
  .next (commit s (laneLinkChangeBody up.link up.up))

/-- ISLAND_FAILURE (R23). -/
def execIslandFailure (island : LaneId) (controlOnly : Bool) (s : State) : Host.Outcome State Fault Refusal :=
  .next (commit s (islandFailureBody island controlOnly))

end Sys2Proof.Machine
end

