-- ==== Sys2Proof/Machine/Frames.lean ====
section
/-! DEFINITION. The input frame of a field die: conversion of what its converters measured, the flags and faults of
the inputs, and the frame that goes to the active lane (R30, R167 to R176, R196, R225). -/

namespace Sys2Proof.Machine

/-- A change of an input flag recorded, with bit 8 set where the flag falls (R170). -/
def flagEvent (d c input flag : Nat) (before after : Bool) (m : Module) : Module :=
  if before == after then m else reportFd d 6 0x4005 (64 * d + c) input (flag + if after then 0 else 256) m

/-- Whether an input of a channel is under injection (R315). -/
def Module.injects (m : Module) (d c input : Nat) : Bool := (m.injected d c).any fun x => x.1 == input

/-- An input of a channel as of this frame: the rms value over its window for METER_CURRENT, else its newest sample, with
an injection in the place of either (R167, R169, R170, R315). -/
def inputRead (m : Module) (d c input : Nat) : InRead :=
  let i := (m.fd d).chanCfg d c
  let ch := m.chan d c
  let first := decide (input = 0)
  let range := if first then i.in1Range else i.in2Range
  let win := if first then ch.win1 else ch.win2
  let x : Int :=
    if i.function = 4 then f64ScaleI (rmsOf win) 1000000000 1 else if first then ch.raw1 else ch.raw2
  convert range i.rangeLo i.rangeHi (m.measured d c input range x)
    (i.function == 4 && !m.injects d c input && anyBeyond win) (if first then ch.in1 else ch.in2)

/-- One channel's inputs and bridge currents as of this frame (R167 to R170, R176). An input without a new sample keeps
its reading. -/
def frameChan (d c : Nat) (x : Option ChanMeas) (m : Module) : Module :=
  let ch := m.chan d c
  let new1 := m.injects d c 0 || x.any fun x => !x.s1.isEmpty
  let new2 := m.injects d c 1 || x.any fun x => !x.s2.isEmpty
  let r1 := inputRead m d c 0
  let r2 := inputRead m d c 1
  let m := when new1 (fun m =>
    flagEvent d c 1 1 ch.in1Open r1.bad (flagEvent d c 1 0 ch.in1Ovr r1.ovr
      (m.updChan d c fun ch => { ch with in1 := r1.value, in1Ovr := r1.ovr, in1Open := r1.bad }))) m
  let m := when new2 (fun m =>
    flagEvent d c 2 1 ch.in2Open r2.bad (flagEvent d c 2 0 ch.in2Ovr r2.ovr
      (m.updChan d c fun ch => { ch with in2 := r2.value, in2Ovr := r2.ovr, in2Open := r2.bad }))) m
  let m := match x with
    | none => m
    | some x => m.updChan d c fun ch => { ch with curA := x.curA, curB := x.curB }
  if ch.encErrRep && !ch.encErr then
    flagEvent d c 3 2 true false (m.updChan d c fun ch => { ch with encErrRep := false })
  else m

/-- Voltage-sense inputs, group temperatures, rail and sensor supplies as of this frame (R175, R176). -/
def frameDie (d : Nat) (x : FrameMeas) (m : Module) : Module :=
  m.updFd d fun fd =>
    let vs (v : VsInput × Nat) : VsInput :=
      if keyed x.vs v.2 [] = [] then v.1
      else { v.1 with rms := satQ (f64ScaleI (rmsOf v.1.win) 65536 1), ovr := anyBeyond v.1.win }
    let brg := x.temps.foldl (fun b t => upd b t.1 fun g => { g with temp := t.2, warn := g.warn && decide (t.2 ≥ 1350) })
      fd.brg
    { fd with vs := fd.vs.zipIdx.map vs, brg := brg, railMv := x.railMv
              supplies := fd.supplies.zipIdx.map fun s => { s.1 with ma := (x.sensorMa[s.2]?).getD s.1.ma } }

/-- The frame a die sends (R30, R167, R196, R225). -/
def frameOf (d : Nat) (m : Module) : InFrame :=
  let fd := m.fd d
  { die := d, claim := fd.claim, tick := m.now, cfgValid := fd.bank.isSome
    chans := fd.chans.zipIdx.map fun x =>
      { in1 := x.1.in1, in2 := x.1.in2, enc := x.1.enc, status := fd.chStatus d x.2 }
    vs := fd.vs.map (·.rms)
    axes := fd.axes.zipIdx.filterMap fun x =>
      let a := x.1
      if a.state == .notAxis then none
      else some { ch := x.2, pCmd := a.pCmd, pEnc := a.pEnc (at? fd.chans x.2 {}).enc, speed := fdiv a.speed (2 ^ 32)
                  status := a.status, ack := a.ackSeq, depth := a.queue.length, waiting := a.state == .waiting
                  energised := a.energised, prio := a.item.priority, reqAt := a.reqAt }
    loops := fd.loops.zipIdx.filterMap fun x =>
      if x.1.mode == .unused then none
      else some { slot := x.2, y := x.1.y, r := if nbit (fd.loopCfg d x.2).flags 3 then x.1.r else 0, status := fd.loopStatus d m.supplyGood x.2, ack := x.1.ackSeq }
    released := fd.relSlots }

/-- Lanes a die's frames go to: over each link that is up, the lane of the latched claim and a lane that still counts
itself active (R30, R282). -/
def Module.frameLanes (m : Module) (d : Nat) : List LaneId :=
  let c := (m.fd d).claim
  m.laneList.filter fun l =>
    at? (m.lane l).fldUp d false && ((c != 0 && claimLane c == l) || (m.lane l).red.holds)

/-- INPUT_FRAME_TICK: at the next 100 us tick a field die converts its inputs and sends its frame (R30). -/
def inputFrameTickBody (d : Nat) (meas : FrameMeas) (_ : Store) (m : Module) : Module :=
  if m.fdUp d then
    let m := clockTo (m.gridAfter 100000 (m.fd d).tick) m
    let m := judgePulses d (sampleDie d meas m)
    let m := forEach (List.range 64) (fun c => frameChan d c ((meas.chans.find? (·.1 == c)).map (·.2))) m
    let m := frameDie d meas m
    let f := frameOf d m
    let sent := m.frameLanes d != []
    let m := m.updFd d fun fd =>
      { fd with tick := m.now, relSlots := if sent then [] else fd.relSlots
                chans := fd.chans.map fun c => { c with encErr := false } }
    forEach (m.frameLanes d) (fun l => send (fdId d) l.num (.frame f)) m
  else m

/-! ## Meanings of the commands -/

/-- INPUT_FRAME_TICK (R30). -/
def execInputFrameTick (d : Nat) (meas : FrameMeas) (s : State) : Host.Outcome State Fault Refusal :=
  .next (commit s (inputFrameTickBody d meas))

end Sys2Proof.Machine
end

