-- ==== Sys2Proof/Machine/Power.lean ====
section
/-! DEFINITION. The budget governor, the power domains' requests and transitions, reference failures and the wake port
(R438 to R455). -/

namespace Sys2Proof.Machine

/-- The power block of a lane changed. -/
def updPwr (l : LaneId) (f : Pwr → Pwr) (m : Module) : Module := m.updLane l fun L => { L with pwr := f L.pwr }

/-! ### The governor -/

/-- P_avail in 0.1 W: the smaller of P_MAX and 12 A times V_in; without an image P_MAX is the module's 120 W (R44,
R438). -/
def Lane.available (L : Lane) (vinMv : Nat) : Nat :=
  min ((L.cfg.active.map fun c => c.power.pMax).getD 1200) (12 * vinMv / 100)

/-- Power withheld at a step, in mW (R440). -/
def withheld (l : LaneId) (step : Nat) (m : Module) : Nat :=
  let L := m.lane l
  match step with
  | 2 => min L.mot.requests.length (L.budget - L.mot.granted.length) * L.conf.power.pAxis
  | 3 =>
    let fp := proofClock L.conf.power
    let clocked := m.sdList.filter fun s =>
      (m.dieAvailable l s || m.dieState l s == .selfTest) && (m.sd s).rail.final.1 != 0
    100 * (clocked.length * (slvPower fp - slvPower (min fp 600)))
  | 4 => if m.sdList.any fun s => (m.sd s).state == .parked then 100 * L.conf.power.pSolver else 0
  | _ => 0

/-- Whether the lowering condition holds (R440). -/
def mayLower (l : LaneId) (m : Module) : Bool :=
  let p := (m.lane l).pwr
  p.step != 0 && decide ((100 * p.pIn + withheld l p.step m) * 10 < 9 * 100 * p.pAvail)

/-- The start of the lowering condition kept or dropped. -/
def lowerWatch (l : LaneId) (m : Module) : Module :=
  let on := mayLower l m
  updPwr l (fun p => { p with lowSince := if on then some (p.lowSince.getD m.now) else none }) m

/-- The current limits of the enabled sensor supplies of the dies a lane reaches: held at their draw rounded up to
10 mA, or released (R440, R442). -/
def holdSupplies (l : LaneId) (on : Bool) (m : Module) : Module :=
  let top := (m.lane l).conf.power.sensorLimit
  forEach (m.fdsOf l) (fun d m => m.updFd d fun fd => { fd with
    supplies := fd.supplies.map fun s =>
      { s with held := if on && s.on then some (min top (cdiv s.ma 10 * 10)) else none } }) m

/-- Step 4 parks the available solver die with the higher die ID, if two are available (R440, R441). -/
def parkOne (l : LaneId) (m : Module) : Module :=
  if m.dieAvailable l 0 && m.dieAvailable l 1 then
    let m := m.updSd 1 fun s => { s with parkReq := true }
    if (m.sd 1).run.isSome then m else sdFree 1 m
  else m

/-- The governor takes a step, recorded, with what it does and undoes (R440 to R442). -/
def setStep (l : LaneId) (new : Nat) (m : Module) : Module :=
  let old := (m.lane l).pwr.step
  let up := decide (old < new)
  let m := updPwr l (fun p => { p with
    step := new, maxStep := max p.maxStep new, stepAt := m.now, lowSince := none
    raiseAt := if up then some m.now else p.raiseAt, govCount := if up then sat max32 (p.govCount + 1) else p.govCount }) m
  let m := report l 2 0x8001 new old (m.lane l).pwr.pIn (raise l 2 1 m)
  let m := if old = 0 then holdSupplies l true m else if new = 0 then holdSupplies l false m else m
  let m := deferEdge l old new m
  let m := if old < 3 && decide (3 ≤ new) || decide (3 ≤ old) && new < 3 then slvWatch m else m
  let m := if old < 4 && decide (4 ≤ new) then parkOne l m else if decide (4 ≤ old) && new < 4 then unpark l m else m
  lowerWatch l m

/-- GOVERNOR_TICK: every 1 ms the active lane measures its input and may raise its step (R438 to R442). -/
def governorTickBody (l : LaneId) (vinMv iinMa pinDw vHoldMv : Nat) (limit : Bool) (_ : Store) (m : Module) : Module :=
  let L := m.lane l
  if !L.red.holds || L.sys.phase != .up || !m.supplyGood then m
  else
    let m := clockTo (m.gridAfter 1000000 L.pwr.tickAt) m
    let low := decide (vinMv < 10000)
    let m := updPwr l (fun p => { p with
      tickAt := m.now, vIn := sat 65535 vinMv, iIn := sat 65535 iinMa, pIn := sat 65535 pinDw, vHold := sat 65535 vHoldMv
      limit := limit, vLow := low, pAvail := L.available vinMv }) m
    let m := forEach m.laneList (fun l => updSys l fun s => { s with holdupOk := s.holdupOk && decide (7500 ≤ vHoldMv) }) m
    let m := if low != L.pwr.vLow then report l 2 0x8004 vinMv (b2n low) 0 (raise l 2 2 m) else m
    let p := (m.lane l).pwr
    let rest := match p.raiseAt with
      | some t => decide (t + 2000000 ≤ m.now)
      | none => true
    if p.step < 4 && rest && decide (95 * p.pAvail < 100 * p.pIn) then setStep l (p.step + 1) m else lowerWatch l m

/-- GOVERNOR_STEP_DOWN: the lowering condition has held for 100 ms since it began and since the last step change
(R440). -/
def governorStepDownBody (l : LaneId) (_ : Store) (m : Module) : Module :=
  let L := m.lane l
  match L.pwr.lowSince with
  | none => m
  | some t =>
    if !L.red.holds || L.sys.phase != .up || !m.supplyGood || L.pwr.step = 0 then m
    else setStep l (L.pwr.step - 1) (clockTo (max t L.pwr.stepAt + 100000000) m)

/-! ### Domain requests and transitions -/

/-- Whether a die ID can be named by a lane's request: fitted, and not the other lane's control die (R445). -/
def Module.pwrFitted (m : Module) (l : LaneId) (die : Nat) : Bool :=
  if die < 2 then die == l.num
  else if die < 4 then decide (die - 2 < m.variant.nSd) else decide (die < 8) && decide (die - 4 < m.variant.nFd)

/-- LAST of a refused request, kept for domains that do not exist too (R445). -/
def domRefuse (l : LaneId) (die i code : Nat) (m : Module) : Module := keepLast l die i code false m

/-- PWR_DOM_REQUEST: a write of `PWR_DOM_REQ`; both views select with it, and firmware submits a request with GO
(R445). -/
def pwrDomRequestBody (l : LaneId) (v : View) (value : Word) (_ : Store) (m : Module) : Module :=
  guardWrite l v (fun m =>
    let m := updSel l v (fun s => { s with pwrDom := value &&& 0x31F07 }) m
    let die := fld value 2 0
    let i := fld value 12 8
    let t := fld value 17 16
    if v == .host || !bitOf value 31 then m
    else if !m.pwrFitted l die then domRefuse l die i 6 m
    else if die != l.num || i != 12 then domRefuse l die i 5 m
    else if t = 3 then domRefuse l die i 4 m
    else domRequest l die i (domStateOf t) m) m

/-- A result whose bank has been zeroed: no unknown of it is left (R448). -/
def SlvResult.zeroed (r : SlvResult) : SlvResult :=
  { r with x := r.x.map fun _ => 0, batch := r.batch.map fun b => { b with x := b.x.map fun _ => 0 } }

/-- The owner of a domain that has failed its retention check: what the domain held is gone (R118, R448). -/
def retReaction (l : LaneId) (die i : Nat) (m : Module) : Module :=
  if die < 2 then
    (if 6 ≤ i then updPwr l (fun p => { p with retFail := p.retFail ||| word (1 <<< (i - 6)) }) m
     else
       let m := updPwr l (fun p => { p with retFail := p.retFail ||| word (1 <<< (8 + (i - 2))) }) m
       let mine := (List.range 4).filter fun t => ((m.lane l).conf.task t).processor == i - 2
       let m := forEach mine (fun t => updTask l t fun k =>
         { k with executing := false, publishing := false, clockOn := false, requests := [], released := [] }) m
       requestMode l 7 1 m)
  else
    let bit := if i = 0 then 16 else i - 5
    let m := updPwr l (fun p =>
      if die = 2 then { p with retFailT0 := p.retFailT0 ||| word (1 <<< bit) }
      else { p with retFailT1 := p.retFailT1 ||| word (1 <<< bit) }) m
    if i = 0 then fullSelfTest l (die - 2) (loseJobs (die - 2) m)
    else m.updSd (die - 2) fun s => { s with
      warmLost := (s.results.map (·.1)).dedup, results := s.results.map fun r => (r.1, r.2.zeroed) }

/-- What a lane's SYS domain or a bank of the program area held is lost when it goes OFF (R160, R394, R446). -/
def contentLost (l : LaneId) (i : Nat) (m : Module) : Module :=
  let m := if i = 1 then m.updLane l fun L => { L with evr := { L.evr with intake := [], held := [] } } else m
  m.updLane l fun L => { L with prg := { L.prg with frames := [], recIn := [] } }

/-- What a domain's arrival means for the parts it powers. -/
def domEffect (die i : Nat) (m : Module) : Module :=
  let on := (m.dom die i).state == .on
  if die < 2 then
    let own := laneOfDie die
    if i = 14 && !on then
      forEach [0, 1] (fun port m => if (m.lane own).linkUp port then setLink own port false false m else m) m
    else if i = 15 && !on then m.updLane own fun L => { L with hst := { L.hst with linkUp := false } }
    else if (i = 1 || (6 ≤ i && i ≤ 11)) && (m.dom die i).state == .off then contentLost own i m
    else m
  else if die < 4 then testedFree (die - 2) (if i = 21 && on then stageLate (die - 2) m else m)
  else if 9 ≤ i && i ≤ 16 then refreshFd (die - 4) m
  else m

/-- DOMAIN_TRANSITION_COMPLETE: a domain reaches its target; one that leaves RET is checked first; what was pending may
start (R447, R448). -/
def domainTransitionCompleteBody (l : LaneId) (die domain : Nat) (crcOk canaryOk : Bool) (_ : Store) (m : Module) : Module :=
  let l := if die < 2 then laneOfDie die else l
  let d := m.dom die domain
  if !d.moving || !m.pwrFitted l die then m
  else
    let bad := d.state == .ret && d.target == .on && retCapable die domain && !(crcOk && canaryOk)
    let m := domArrive die domain m
    let m := if bad then
        retReaction l die domain (report l 2 0x8003 die domain (b2n crcOk) (raise l 2 4 m))
      else m
    domAdvance die (domEffect die domain m)

/-! ### Reference failures -/

/-- CLOCK_FAIL: a die's monitor finds its reference off by more than 1000 ppm for 10 us. A control die's supervisor pair
stops, as at a lockstep mismatch, and its lane halts, whether it is active or not; what a field or solver die fails is
recorded by the active lane, or by lane A without one (R120, R182, R314, R452; assumption 52). -/
def clockFailBody (die ppm : Nat) (_ : Store) (m : Module) : Module :=
  let on := if die < 2 then (m.lane (laneOfDie die)).sysOn
    else if die < 4 then (m.sd (die - 2)).powered && !(m.sd (die - 2)).clockFailed && decide (die - 2 < m.variant.nSd)
    else m.fdUp (die - 4)
  let l := if die < 2 then laneOfDie die else if m.active .B then .B else .A
  if ppm ≤ 1000 || !on then m
  else
    let m := m.updLane l fun L => { L with clk := { L.clk with fail := L.clk.fail ||| word (1 <<< die) } }
    let m := report l 3 0x8006 die ppm 0 m
    if die < 2 then haltLane l 0 m
    else if die < 4 then
      slvWatch (loseJobs (die - 2) (m.updSd (die - 2) fun s => { s with state := .outOfService, clockFailed := true }))
    else
      let m := m.updFd (die - 4) fun fd => { fd with clockFailed := true }
      refreshFd (die - 4) { m with mail := m.mail.filter fun x => x.src != die }

/-! ### The wake port -/

/-- A command byte at a lane's wake port: acknowledged, recorded, and carried out where the supply is good; else it
counts as a wake for the power-on request (R415, R453, R454). -/
def wakeCommand (l : LaneId) (byte : Nat) (peer : Bool) (f : Module → Module) (m : Module) : Module :=
  let r := (m.lane l).rtc
  if !r.alive || (l == .B && m.variant.nLane = 1) then m
  else
    let m := report l 2 0x8005 byte (b2n peer) 0 (raise l 2 16 (put (.wakeAck l.num true) m))
    if m.supplyGood then f m else if r.wakeEn then requestPower l 1 m else m

/-- RX_PATH_ON: the lane-link receive path, D2D and NVM come ON (R454). -/
def rxPathOnBody (l : LaneId) (peer : Bool) (_ : Store) (m : Module) : Module :=
  wakeCommand l 1 peer (domRequests l l.num rxDoms .on) m

/-- RX_PATH_OFF: they go OFF unless the lane is active (R454). -/
def rxPathOffBody (l : LaneId) (peer : Bool) (_ : Store) (m : Module) : Module :=
  wakeCommand l 2 peer (fun m => if m.active l then m else domRequests l l.num [16, 1] .off m) m

/-- LANE_UP: SYS, NVM, HOST and the lane links come ON; the mode is unchanged (R454, R459). -/
def laneUpBody (l : LaneId) (peer : Bool) (_ : Store) (m : Module) : Module := wakeCommand l 3 peer (wakeDoms l) m

/-- LANE_DOWN: in STANDBY or RESYNC all domains but AO go OFF (R454). -/
def laneDownBody (l : LaneId) (peer : Bool) (_ : Store) (m : Module) : Module :=
  wakeCommand l 4 peer (fun m => if (m.lane l).sys.mode.rests then restDoms l m else m) m

/-- LANE_START: over the peer path the lane starts as elected; on J13 it is refused (R454, R456). -/
def laneStartBody (l : LaneId) (peer : Bool) (st : Store) (m : Module) : Module :=
  if !peer || m.variant.nLane = 1 then (if (m.lane l).rtc.alive then put (.wakeAck l.num false) m else m)
  else
    wakeCommand l 5 peer (fun m =>
      let s := (m.lane l).sys
      if s.phase == .starting && s.holdupOk && !s.failed then startLane st l (updSys l (fun s => { s with elected := l }) m)
      else m) m

/-- WAKE_STATUS_READ: a read at a lane's wake address returns its status byte (R454). -/
def wakeStatusReadBody (l : LaneId) (_ : Store) (m : Module) : Module :=
  let L := m.lane l
  if !L.rtc.alive || (l == .B && m.variant.nLane = 1) then m
  else put (.wakeByte l.num (L.sys.mode.code + 8 * b2n L.rtc.osf + 16 * b2n m.supplyGood + 32 * b2n L.sysOn)) m

/-- WAKE_BUS_TIMEOUT: SCL has stayed low for 25 ms; the port releases SDA and waits for the next START. No byte is
under way between two commands, so nothing of the state changes (R453). -/
def wakeBusTimeoutBody (_ : LaneId) (_ : Store) (m : Module) : Module := m

/-! ## Meanings of the commands -/

/-- GOVERNOR_TICK (R440). -/
def execGovernorTick (l : LaneId) (vinMv : Nat) (iinMa : Nat) (pinDw : Nat) (vHoldMv : Nat) (limit : Bool) (s : State) : Host.Outcome State Fault Refusal :=
  .next (commit s (governorTickBody l vinMv iinMa pinDw vHoldMv limit))

/-- GOVERNOR_STEP_DOWN (R440). -/
def execGovernorStepDown (l : LaneId) (s : State) : Host.Outcome State Fault Refusal :=
  .next (commit s (governorStepDownBody l))

/-- PWR_DOM_REQUEST (R445). -/
def execPwrDomRequest (l : LaneId) (v : View) (value : Word) (s : State) : Host.Outcome State Fault Refusal :=
  .next (commit s (pwrDomRequestBody l v value))

/-- DOMAIN_TRANSITION_COMPLETE (R447). -/
def execDomainTransitionComplete (l : LaneId) (die : Nat) (domain : Nat) (crcOk : Bool) (canaryOk : Bool) (s : State) : Host.Outcome State Fault Refusal :=
  .next (commit s (domainTransitionCompleteBody l die domain crcOk canaryOk))

/-- CLOCK_FAIL (R452). -/
def execClockFail (die : Nat) (ppm : Nat) (s : State) : Host.Outcome State Fault Refusal :=
  .next (commit s (clockFailBody die ppm))

/-- RX_PATH_ON (R454). -/
def execRxPathOn (l : LaneId) (peer : Bool) (s : State) : Host.Outcome State Fault Refusal :=
  .next (commit s (rxPathOnBody l peer))

/-- RX_PATH_OFF (R454). -/
def execRxPathOff (l : LaneId) (peer : Bool) (s : State) : Host.Outcome State Fault Refusal :=
  .next (commit s (rxPathOffBody l peer))

/-- LANE_UP (R454). -/
def execLaneUp (l : LaneId) (peer : Bool) (s : State) : Host.Outcome State Fault Refusal :=
  .next (commit s (laneUpBody l peer))

/-- LANE_DOWN (R454). -/
def execLaneDown (l : LaneId) (peer : Bool) (s : State) : Host.Outcome State Fault Refusal :=
  .next (commit s (laneDownBody l peer))

/-- LANE_START (R454). -/
def execLaneStart (l : LaneId) (peer : Bool) (s : State) : Host.Outcome State Fault Refusal :=
  .next (commit s (laneStartBody l peer))

/-- WAKE_STATUS_READ (R454). -/
def execWakeStatusRead (l : LaneId) (s : State) : Host.Outcome State Fault Refusal :=
  .next (commit s (wakeStatusReadBody l))

/-- WAKE_BUS_TIMEOUT (R453). -/
def execWakeBusTimeout (l : LaneId) (s : State) : Host.Outcome State Fault Refusal :=
  .next (commit s (wakeBusTimeoutBody l))

end Sys2Proof.Machine
end

