-- ==== Sys2Proof/Machine/Time.lean ====
section
/-! DEFINITION. Ethernet and network time: the messages of the PTP slots with their servo and best master clock, the
command to switch, the setting of the calendar, and the ports (R340 to R360). -/

namespace Sys2Proof.Machine

/-- The corrected receive time-stamp of a message: its instant at the MII boundary less the PHY's receive latency
(R347). -/
def Module.rxStamp (m : Module) (l : LaneId) (port : Nat) (msg : PtpMsg) : Int :=
  msg.sfd - (Config.phyLatency l.num port (at? (m.lane l).ptp.ports port {}).gig).2.toNat

/-- The corrected transmit time-stamp of a message that a port sends now (R347). -/
def Module.txStamp (m : Module) (l : LaneId) (port : Nat) : Int :=
  m.modNs l + (Config.phyLatency l.num port (at? (m.lane l).ptp.ports port {}).gig).1.toNat

/-- A 48-bit secondsField extended: the value nearest the present module time whose low 48 bits equal it (R347). -/
def extendSeconds (present field : Int) : Int :=
  let k : Int := 2 ^ 48
  present + Int.fmod (field - present + k / 2) k - k / 2

/-- The time-stamp that a message carries, ns (R347, R348). -/
def Module.originOf (m : Module) (l : LaneId) (msg : PtpMsg) : Int :=
  1000000000 * extendSeconds (fdiv (m.modNs l) 1000000000) msg.seconds + msg.nanos

/-- A port's PTP event message stamped in module time, whichever slot it belongs to, if any (R347). -/
def stampPort (l : LaneId) (port : Nat) (t : Int) (m : Module) : Module :=
  if (m.lane l).portUp port then
    updPtp l (fun p => { p with ports := upd p.ports port fun e => { e with stamp := some (m.timeStamp l t) } }) m
  else m

/-- The slot a received message belongs to, on a port that operates, in the slot's transport (R344, R346). -/
def Module.slotFor (m : Module) (l : LaneId) (port : Nat) (msg : PtpMsg) : Option Nat :=
  let L := m.lane l
  if !L.portUp port then none
  else [0, 1].find? fun k => L.slotOn l k port && (L.slotCfg k).domain == msg.domain && (L.slotCfg k).sdoId == msg.sdoId &&
    ((L.slotCfg k).transport == 1) == msg.udp

/-! ### Estimates -/

/-- The least-squares line through 16 samples: its value at the newest one in ns, its slope in ppb, the rms residual in
ns, and whether the residual is within a limit (R348, R349). Samples of one instant leave the line open. -/
def fitLine (ss : List (Int × Int)) (limit : Nat) (m : Module) : (Int × Int × Nat × Bool) × Module :=
  let t := (ss.getLastD (0, 0)).1
  let pts := ss.map fun p => (p.1 - t, p.2)
  let n : Int := pts.length
  let sum (f : Int × Int → Int) : Int := pts.foldl (fun a p => a + f p) 0
  let sx := sum (·.1)
  let sy := sum (·.2)
  let sxx := sum fun p => p.1 * p.1
  let sxy := sum fun p => p.1 * p.2
  let den := n * sxx - sx * sx
  if den = 0 then
    let q := m.draw.toNat % 2 ^ 32
    ((toS 32 (m.drawn.draw.toNat), toS 32 (m.drawn.drawn.draw.toNat), q, decide (q ≤ limit)), m.drawn.drawn.drawn)
  else
    let a := sy * sxx - sx * sxy
    let b := n * sxy - sx * sy
    let rr := sum fun p => (den * p.2 - a - b * p.1) * (den * p.2 - a - b * p.1)
    let sq := (rr / (n * den * den)).toNat
    ((nearest a den, nearest (b * 1000000000) den, Nat.sqrt sq, decide (rr ≤ (limit * limit : Nat) * n * den * den)), m)

/-- An offset sample of a slot from a Sync of a port, with that port's path delay (R348 to R350). -/
def addSample (l : LaneId) (k port : Nat) (t1 t2 corr : Int) (m : Module) : Module :=
  let L := m.lane l
  let c := corr + (L.portCfg l port).asymNs
  let x := L.slot k
  let ss := x.samples ++ [(t2, t2 - t1 - at? x.paths port 0 - c)]
  let ss := ss.drop (ss.length - 16)
  let was := L.slotState k
  let m := updSlot l k (fun x => { x with samples := ss, msDiff := some (port, t2 - t1 - c) }) m
  if ss.length < 16 then steerAfter l k was (setSlotState l k .listening m)
  else
    let cfg := L.slotCfg k
    let r := fitLine ss cfg.qualityNs m
    let m := updSlot l k (fun x => { x with theta := r.1.1, rho := r.1.2.1, q := some (sat max32 r.1.2.2.1) }) r.2
    let m := steerAfter l k was (setSlotState l k (if r.1.2.2.2 then .locked else .degraded) m)
    let p := (m.lane l).ptp
    if p.steer = k && p.steerState = 1 && !p.slewing then
      let x := (m.lane l).slot k
      steering l (fun p => { p with rate := servoRate p.rate x.rho x.theta cfg.logSync }) m
    else m

/-! ### Best master clock -/

/-- Whether a data set is better than another: of one grandmaster the fewer steps and then the lower sender, else the rank
fields in order and then the grandmaster's identity (IEEE 1588-2019, R346). -/
def better (a b : Foreign) : Bool :=
  if a.gm = b.gm then decide ([a.steps, a.sender, a.port] < [b.steps, b.sender, b.port])
  else decide (a.rank ++ [a.gm] < b.rank ++ [b.gm])

/-- The best of some data sets. -/
def bestOf (fs : List Foreign) : Option Foreign :=
  fs.foldl (fun a f => match a with
    | none => some f
    | some b => if better f b then some f else some b) none

/-- Announce interval of a slot, ns. -/
def DomCfg.announceNs (c : DomCfg) : Nat :=
  if c.logAnnounce < 0 then 1000000000 / 2 ^ (-c.logAnnounce).toNat else 1000000000 * 2 ^ c.logAnnounce.toNat

/-- Whether the module may be master on a port of a slot (R346). -/
def Lane.mayLead (L : Lane) (l : LaneId) (k port : Nat) : Bool :=
  nbit (L.portCfg l port).ptp 3 && !nbit (L.slotCfg k).flags 1

/-- Foreign masters that qualify: two Announce messages within four intervals, fewer than 255 steps removed
(IEEE 1588-2019, R346). -/
def Lane.qualified (L : Lane) (k now : Nat) : List Foreign :=
  let w := 4 * (L.slotCfg k).announceNs
  (L.slot k).foreign.filter fun f => match f.heard with
    | [_, b] => decide (now ≤ b + w) && decide (f.steps < 255)
    | _ => false

/-- The module's own data set of a slot: clockClass 248, clockAccuracy 0xFE, offsetScaledLogVariance 0xFFFF (R346). -/
def Lane.ownSet (L : Lane) (l : LaneId) (k : Nat) : Foreign :=
  let c := L.slotCfg k
  { gm := Config.clockIdentity l.num, rank := [c.priority1, 248, 0xFE, 0xFFFF, c.priority2] }

/-- The best data set that a slot has heard and the module's own does not beat, the module being able to be master; none
where the module itself is the grandmaster or nothing is heard (R346). -/
def Lane.heardBest (L : Lane) (l : LaneId) (k now : Nat) : Option Foreign :=
  let lead := [0, 1].any fun p => L.slotOn l k p && L.mayLead l k p
  (bestOf (L.qualified k now)).filter fun b => !(lead && better (L.ownSet l k) b)

/-- The data set that a slot's Announce messages carry: of the grandmaster it follows one step further on, or its own
(R346). -/
def Lane.announced (L : Lane) (l : LaneId) (k now : Nat) : Foreign :=
  match L.heardBest l k now with
  | some b => { b with steps := b.steps + 1 }
  | none => L.ownSet l k

/-- Whether the module is itself master on every port of a slot (R349). -/
def Lane.leadsAll (L : Lane) (k : Nat) : Bool :=
  [0, 1].all fun p => !nbit (L.slotCfg k).ports p || at? (L.slot k).portState p 0 == 6

/-- The state decision of a slot's ports (R346). -/
def decidePorts (l : LaneId) (k : Nat) (m : Module) : Module :=
  let L := m.lane l
  let best := bestOf (L.qualified k m.now)
  let ownBest := best.isSome && (L.heardBest l k m.now).isNone
  let state (p : Nat) : Nat :=
    if !L.slotOn l k p || !L.portUp p then 3
    else match best with
      | none => at? (L.slot k).portState p 4
      | some b =>
        if ownBest then (if L.mayLead l k p then 6 else 4)
        else if b.port == p then 9
        else if L.mayLead l k p && L.net.clockType == 1 then 6
        else 7
  let gm := if ownBest then Config.clockIdentity l.num else (best.map (·.gm)).getD (L.slot k).gm
  let was := L.slot k
  let m := updSlot l k (fun x => { x with portState := [state 0, state 1], gm := gm }) m
  let lost := L.slotState k != .lost && L.slotState k != .disabled && !(state 0 == 9 || state 1 == 9)
  let leads := L.slotState k == .lost && (m.lane l).leadsAll k
  let changed := was.gm != 0 && was.gm != gm && L.ptp.steer == k
  if lost || leads || changed then slotRestart l k m else m

/-- The master a slot follows: the sender of the best data set heard on its slave port. -/
def Lane.parent (L : Lane) (k now : Nat) : Option Foreign := bestOf (L.qualified k now)

/-! ### Received messages -/

/-- PTP_SYNC: a Sync is stamped; on a slave port it gives the offset sample of a one-step master, or the wait for its
Follow_Up (R347 to R349). -/
def ptpSyncBody (l : LaneId) (port : Nat) (msg : PtpMsg) (_ : Store) (m : Module) : Module :=
  let t2 := m.rxStamp l port msg
  let m := stampPort l port t2 m
  match m.slotFor l port msg with
  | none => m
  | some k =>
    if at? ((m.lane l).slot k).portState port 0 ≠ 9 then m
    else
      let m := if (m.lane l).slotState k == .lost then slotRestart l k m else m
      let m := updSlot l k (fun x => { x with syncAt := some m.now }) m
      if msg.twoStep then updSlot l k (fun x => { x with waitFu := some (port, msg.seq, t2, msg.correction) }) m
      else addSample l k port (m.originOf l msg) t2 msg.correction m

/-- PTP_FOLLOW_UP: the precise origin time-stamp of the Sync that waits for it (R348). -/
def ptpFollowUpBody (l : LaneId) (port : Nat) (msg : PtpMsg) (_ : Store) (m : Module) : Module :=
  match m.slotFor l port msg with
  | none => m
  | some k =>
    match ((m.lane l).slot k).waitFu with
    | some (p, seq, t2, corr) =>
      if p = port && seq = msg.seq then
        addSample l k port (m.originOf l msg) t2 (corr + msg.correction) (updSlot l k (fun x => { x with waitFu := none }) m)
      else m
    | none => m

/-- The stored UTC offset follows the steering slot's domain, which has supplied it from then on (R342, R357). -/
def utcFollow (st : Store) (l : LaneId) (k : Nat) (off : Option Nat) (m : Module) : Module :=
  let p := (m.lane l).ptp
  match off with
  | none => m
  | some o =>
    if p.steer ≠ k then m
    else if p.utcOffset = o % 65536 then updPtp l (fun p => { p with utcKnown := true }) m
    else
      let m := updPtp l (fun p => { p with utcOffset := o % 65536, utcKnown := true }) m
      let m := writeBlock .owner st l utcBase utcType (leBytes 4 (o % 65536)) m
      report l 12 0x7106 p.utcOffset (o % 65536) k m

/-- PTP_ANNOUNCE: an Announce of another clock: the foreign master's data set, the best master clock, and the UTC offset of
the master followed (R346, R349, R357). -/
def ptpAnnounceBody (l : LaneId) (port : Nat) (msg : PtpMsg) (st : Store) (m : Module) : Module :=
  match m.slotFor l port msg with
  | none => m
  | some k =>
    if msg.source = Config.clockIdentity l.num then m else
    let old := ((m.lane l).slot k).foreign.find? fun f => f.port == port && f.sender == msg.source
    let heard := m.now :: ((old.map (·.heard)).getD []).take 1
    let f : Foreign := { port := port, sender := msg.source, gm := msg.gm, rank := (List.range 5).map (at? msg.rank · 0), steps := msg.steps, heard := heard }
    let m := updSlot l k (fun x => { x with
      foreign := (x.foreign.filter fun g => !(g.port == port && g.sender == msg.source)) ++ [f] }) m
    let m := decidePorts l k m
    match (m.lane l).parent k m.now with
    | some g =>
      if g.port == port && g.sender == msg.source && at? ((m.lane l).slot k).portState port 0 == 9 then
        utcFollow st l k msg.utcOffset (updSlot l k (fun x => { x with annAt := some m.now }) m)
      else m
    | none => m

/-- The logMessageInterval of a sent message by its messageType: of a Sync and its Follow_Up, of a Delay_Resp, of an
Announce, and 0x7F of the others (IEEE 1588-2019, R344; assumption 52). -/
def DomCfg.interval (c : DomCfg) (kind : Nat) : Int :=
  if kind = 0 ∨ kind = 8 then c.logSync else if kind = 9 then c.logDelay else if kind = 11 then c.logAnnounce else 0x7F

/-- A PTP message sent on a port, in its slot's transport. Over UDP a one-step port sends its Sync and Pdelay_Resp with the
UDP checksum 0 (R344, R346). -/
def sendPtp (l : LaneId) (port kind : Nat) (c : DomCfg) (seq : Nat) (times : List Int) (m : Module) : Module :=
  let zero := c.transport == 1 && !nbit ((m.lane l).portCfg l port).ptp 2 && (kind == 0 || kind == 3)
  sendFrame l port 5 ([(kind : Int), c.domain, c.sdoId, seq, c.transport, b2n zero, c.interval kind] ++ times) m

/-- A measured mean path delay of a port kept (R348). -/
def setPath (l : LaneId) (k port : Nat) (d : Int) (m : Module) : Module :=
  updSlot l k (fun x => { x with paths := upd x.paths port fun _ => d, delayReq := upd x.delayReq port fun _ => none }) m

/-- PTP_DELAY_MESSAGE: a Delay_Resp, or a peer-delay message: a request is answered, a response gives the path delay
(R346, R348). -/
def ptpDelayMessageBody (l : LaneId) (port : Nat) (msg : PtpMsg) (_ : Store) (m : Module) : Module :=
  let rx := m.rxStamp l port msg
  let m := if msg.kind = 2 || msg.kind = 3 then stampPort l port rx m else m
  match m.slotFor l port msg with
  | none => m
  | some k =>
    let L := m.lane l
    let c := L.slotCfg k
    let i := L.portCfg l port
    let x := L.slot k
    let req := (at? x.delayReq port none).filter fun q => q.seq == msg.seq
    let carried := m.originOf l msg
    if msg.kind = 2 then
      let t3 := m.txStamp l port
      (if !nbit i.ptp 1 then m
       else if nbit i.ptp 2 then
         sendPtp l port 10 c msg.seq [t3, msg.correction] (sendPtp l port 3 c msg.seq [rx] (stampPort l port t3 m))
       else sendPtp l port 3 c msg.seq [0, t3 - rx + msg.correction] (stampPort l port t3 m))
    else match req with
      | none => m
      | some q =>
        if msg.kind = 9 then
          match x.msDiff with
          | some (p, ms) =>
            if nbit i.ptp 1 || p ≠ port || msg.target ≠ Config.clockIdentity l.num then m
            else setPath l k port (fdiv (ms + (carried - q.sent - msg.correction + i.asymNs)) 2) m
          | none => m
        else if !nbit i.ptp 1 then m
        else if msg.kind = 3 then
          (if msg.twoStep then
             let q' := some { q with resp := some (rx, carried + msg.correction) }
             updSlot l k (fun x => { x with delayReq := upd x.delayReq port fun _ => q' }) m
           else setPath l k port (fdiv (rx - q.sent - msg.correction) 2) m)
        else match q.resp with
          | some (t4, t2) =>
            if msg.kind = 10 then setPath l k port (fdiv (t4 - q.sent - (carried + msg.correction - t2)) 2) m else m
          | none => m

/-- PTP_DELAY_REQ_RECEIVED: a Delay_Req is stamped; a port that is master answers it with that receive time-stamp (R346,
R347). -/
def ptpDelayReqReceivedBody (l : LaneId) (port : Nat) (msg : PtpMsg) (_ : Store) (m : Module) : Module :=
  let t := m.rxStamp l port msg
  let m := stampPort l port t m
  match m.slotFor l port msg with
  | none => m
  | some k =>
    if at? ((m.lane l).slot k).portState port 0 = 6 then
      sendPtp l port 9 ((m.lane l).slotCfg k) msg.seq [t, msg.correction, (msg.source : Int)] m
    else m

/-- The data sets of a slot with which a GET is answered: the module's own clock, the grandmaster followed, and the
port's state (R346; assumption 52). -/
def Module.dataSets (m : Module) (l : LaneId) (k port : Nat) : List Int :=
  let L := m.lane l
  let own := L.ownSet l k
  let gm := L.announced l k m.now
  [(own.gm : Int)] ++ own.rank.map (fun (x : Nat) => (x : Int)) ++ [(gm.gm : Int)] ++ gm.rank.map (fun (x : Nat) => (x : Int)) ++
    [(gm.steps : Int), (L.slot k).theta, at? (L.slot k).paths port 0, (at? (L.slot k).portState port 0 : Nat)]

/-- PTP_MANAGEMENT_GET: a management GET is answered with the slot's data sets; SET and COMMAND are not (R346). -/
def ptpManagementGetBody (l : LaneId) (port : Nat) (msg : PtpMsg) (_ : Store) (m : Module) : Module :=
  match m.slotFor l port msg with
  | none => m
  | some k =>
    if msg.kind = 0 then
      sendFrame l port 6 ([(msg.domain : Int), msg.sdoId, msg.seq, msg.source] ++ m.dataSets l k port) m
    else m

/-- PTP_MESSAGE_INTERVAL: a port sends the Sync (0) or Announce (11) of a master, the Delay_Req (1) of a slave, or a
Pdelay_Req (2) of the peer-delay mechanism; a two-step master's Follow_Up goes with the Sync (R346). -/
def ptpMessageIntervalBody (l : LaneId) (port slot kind : Nat) (_ : Store) (m : Module) : Module :=
  let L := m.lane l
  let c := L.slotCfg slot
  let i := L.portCfg l port
  let state := at? (L.slot slot).portState port 0
  let p2p := nbit i.ptp 1
  let n := if kind = 11 then 3 else kind
  let due := if kind = 0 || kind = 11 then state == 6 else if kind = 1 then state == 9 && !p2p else kind == 2 && p2p
  if slot > 1 || !L.portUp port || !L.slotOn l slot port || !due then m
  else
    let t := m.txStamp l port
    let seq := at? (L.slot slot).seqs n 0
    let m := if kind = 11 then m else stampPort l port t m
    let m := updSlot l slot (fun x => { x with
      seqs := upd x.seqs n fun s => (s + 1) % 65536
      delayReq := if kind = 1 || kind = 2 then upd x.delayReq port fun _ => some { seq := seq, sent := t } else x.delayReq }) m
    if kind = 0 && nbit i.ptp 2 then sendPtp l port 8 c seq [t] (sendPtp l port 0 c seq [] m)
    else if kind = 11 then
      let a := L.announced l slot m.now
      sendPtp l port 11 c seq ([(a.gm : Int)] ++ a.rank.map (fun (x : Nat) => (x : Int)) ++ [(a.steps : Int), (L.ptp.utcOffset : Int)]) m
    else sendPtp l port kind c seq [t] m

/-! ### Loss, slew, switch -/

/-- A slot whose ports the module has all become master of listens (R349). -/
def listenIfMaster (l : LaneId) (k : Nat) (m : Module) : Module :=
  if (m.lane l).leadsAll k && (m.lane l).slotState k != .listening then slotRestart l k m else m

/-- SLOT_LOST: no Sync for LOSS_MS, or the announce timeout: a slot that was steering or could steer is LOST; after the
announce timeout its master is forgotten (R349). -/
def slotLostBody (l : LaneId) (slot : Nat) (_ : Store) (m : Module) : Module :=
  let L := m.lane l
  let c := L.slotCfg slot
  let x := L.slot slot
  let good := L.slotSteers slot
  let bySync := if good then x.syncAt.map (· + c.lossMs * 1000000) else none
  let byAnn := x.annAt.map (· + c.announceTimeout * c.announceNs)
  if slot > 1 || L.slotState slot == .disabled then m
  else
    let due := match bySync, byAnn with
      | some a, some b => some (min a b)
      | some a, none => some a
      | none, b => b
    match due with
    | none =>
      let lead (s : Nat × Nat) : Nat := if s.1 = 4 ∧ L.mayLead l slot s.2 then 6 else s.1
      updSlot l slot (fun x => { x with portState := x.portState.zipIdx.map lead }) m
    | some t =>
      let m := clockTo t m
      let ann := match byAnn with
        | some b => decide (b ≤ m.now)
        | none => false
      let leave (s : Nat × Nat) : Nat := if s.1 = 9 then (if L.mayLead l slot s.2 then 6 else 4) else s.1
      let m := if ann then updSlot l slot (fun x => { x with
          annAt := none, foreign := [], portState := x.portState.zipIdx.map leave }) m
        else m
      if good then listenIfMaster l slot (steerAfter l slot x.state (setSlotState l slot .lost m))
      else if ann && L.slotState slot == .listening then updSlot l slot (fun x => { x with samples := [], q := none }) m
      else if ann then listenIfMaster l slot m else m

/-- SLEW_END: the offset is gone; module time runs at its slot's rate again (R355). -/
def slewEndBody (l : LaneId) (_ : Store) (m : Module) : Module :=
  let p := (m.lane l).ptp
  if p.slewing then stopSlew l (clockTo p.slewEnd m) else m

/-- The end of a time command. -/
def timeEnd (l : LaneId) (state reason : Nat) (m : Module) : Module :=
  updPtp l (fun p => { p with ctrlState := state, ctrlReason := reason }) m

/-- PTP_SWITCH: a SWITCH moves steering to the other slot if that one is LOCKED or DEGRADED (R355, R356). -/
def ptpSwitchBody (l : LaneId) (v : View) (_ : Store) (m : Module) : Module :=
  guardWrite l v (fun m =>
    let L := m.lane l
    let k := 1 - L.ptp.steer
    if !L.red.holds then timeEnd l 3 3 m
    else if !L.slotSteers k then timeEnd l 3 1 m
    else
      let m := if L.ptp.steerState = 2 then report l 12 0x7104 L.ptp.steer 0 0 m else m
      timeEnd l 2 0 (switchTo l k true m)) m

/-! ### The calendar -/

/-- Month and day from the days left of a year. -/
def monthOf (y : Nat) : Nat → Nat → Nat → Nat × Nat
  | 0, mon, d => (mon, d)
  | fuel + 1, mon, d => if d < daysIn y mon then (mon, d) else monthOf y fuel (mon + 1) (d - daysIn y mon)

/-- Year and day of the year from the days since 2000-01-01. -/
def yearOf : Nat → Nat → Nat → Nat × Nat
  | 0, y, d => (y, d)
  | fuel + 1, y, d =>
    let n := if leapYear y then 366 else 365
    if d < n then (y, d) else yearOf fuel (y + 1) (d - n)

/-- A UTC second since 2000-01-01 as staging fields. -/
def stageSecond (s : Nat) (r : Rtc) : Rtc :=
  let y := yearOf 400 2000 (s / 86400)
  let md := monthOf y.1 11 1 y.2
  { r with stgSec := s % 60, stgMin := s / 60 % 60, stgHour := s / 3600 % 24, stgDay := md.2 + 1, stgMon := md.1, stgYear := y.1 }

/-- SET_RTC: while module time is LOCKED the staging registers take UTC of the next whole second, unless their interface is
locked out (R358, R412). -/
def setRtcBody (l : LaneId) (v : View) (_ : Store) (m : Module) : Module :=
  guardWrite l v (fun m =>
    let L := m.lane l
    if !L.red.holds then timeEnd l 3 3 m
    else if L.ptp.steerState ≠ 1 then timeEnd l 3 1 m
    else
      let s := (fdiv (m.modNs l) 1000000000).toNat + 1
      let m := if L.rtc.lockout then m else updRtc l (stageSecond (s - L.ptp.utcOffset - 946684800)) m
      timeEnd l 1 0 (updPtp l (fun p => { p with setRtc := some s }) m)) m

/-- SET_RTC_COMMIT: at that second the staged time is committed and OSF clears; under the lockout nothing is committed, and
the command ends as of a lane that is not active (R358, R407, R408, R412; assumption 52). -/
def setRtcCommitBody (l : LaneId) (_ : Store) (m : Module) : Module :=
  let L := m.lane l
  match L.ptp.setRtc with
  | none => m
  | some s =>
    let m := clockTo (1000 * (1000000 * (s : Int) - L.prg.tbOffset)).toNat m
    let m := updPtp l (fun p => { p with setRtc := none }) m
    let r := (m.lane l).rtc
    if !L.red.holds || r.lockout then timeEnd l 3 3 m
    else if !r.stagedOk then timeEnd l 2 0 (rejectDate l 1 m)
    else
      timeEnd l 2 0 (report l 12 0x7107 s L.ptp.utcOffset L.ptp.steer (setCalendar l r.staged m))

/-! ### Ports -/

/-- LINK_CHANGE: a port of the active lane gains or loses its link in a mode its entry allows; it sends a gratuitous ARP
as it comes up (R340, R341, R343, R359). -/
def linkChangeBody (l : LaneId) (port : Nat) (up gig : Bool) (_ : Store) (m : Module) : Module :=
  let L := m.lane l
  let i := L.portCfg l port
  let able := i.mode == 1 || (i.mode == 2 && gig) || (i.mode == 3 && !gig)
  if port > 1 || L.linkUp port == up || (up && (!L.red.holds || !able)) then m
  else
    let m := setLink l port up gig m
    if up && i.ipv4 != 0 then sendFrame l port 1 [i.ipv4] m else m

/-- A frame for an address of a port: answered, or discarded (R341). -/
def answerFrame (l : LaneId) (port : Nat) (ip : BitVec 32) (kind : Nat) (m : Module) : Module :=
  let L := m.lane l
  if !L.portUp port then m
  else if (L.portCfg l port).ipv4 ≠ 0 && (L.portCfg l port).ipv4 = ip.toNat then sendFrame l port kind [ip.toNat] m
  else discardFrame l port false m

/-- ARP_REQUEST: a request for a port's own address is answered (R341). -/
def arpRequestBody (l : LaneId) (port : Nat) (ip : BitVec 32) (_ : Store) (m : Module) : Module := answerFrame l port ip 2 m

/-- ICMP_ECHO_REQUEST: an echo request to a port's own address is answered (R341). -/
def icmpEchoRequestBody (l : LaneId) (port : Nat) (ip : BitVec 32) (_ : Store) (m : Module) : Module :=
  answerFrame l port ip 3 m

/-- FOREIGN_FRAME: a frame of no protocol the port serves, of more than 1522 bytes, or with a bad FCS (R340, R341;
assumption 52). -/
def foreignFrameBody (l : LaneId) (port : Nat) (fcsBad : Bool) (_ : Store) (m : Module) : Module :=
  if (m.lane l).portUp port then discardFrame l port fcsBad m else m

/-! ### Reads with an effect -/

/-- PTP_PORT_ERRORS_READ: the counts of the selected port, which the read clears (R14). -/
def ptpPortErrorsReadBody (l : LaneId) (v : View) (_ : Store) (m : Module) : Module :=
  guardRead l v (fun m =>
    let k := (m.sel l v).ptpPort
    let e := at? (m.lane l).ptp.ports k {}
    onBus (word (e.other + 65536 * e.fcs)) (updPtp l (fun p => { p with
      ports := upd p.ports k fun e => { e with other := 0, fcs := 0 } }) m)) m

/-- PTP_TIME_NS_READ: the nanoseconds of module time; the seconds are latched (R13). -/
def ptpTimeNsReadBody (l : LaneId) (v : View) (_ : Store) (m : Module) : Module :=
  guardRead l v (fun m =>
    let t := (m.modNs l).toNat
    let s := t / 1000000000
    onBus (word (t % 1000000000)) (latchWord l v 0xC0008 (word (s / 2 ^ 32)) (latchWord l v 0xC0004 (word s) m))) m

/-! ## Meanings of the commands -/

/-- PTP_SYNC (R348). -/
def execPtpSync (l : LaneId) (port : Nat) (msg : PtpMsg) (s : State) : Host.Outcome State Fault Refusal :=
  .next (commit s (ptpSyncBody l port msg))

/-- PTP_FOLLOW_UP (R348). -/
def execPtpFollowUp (l : LaneId) (port : Nat) (msg : PtpMsg) (s : State) : Host.Outcome State Fault Refusal :=
  .next (commit s (ptpFollowUpBody l port msg))

/-- PTP_ANNOUNCE (R346). -/
def execPtpAnnounce (l : LaneId) (port : Nat) (msg : PtpMsg) (s : State) : Host.Outcome State Fault Refusal :=
  .next (commit s (ptpAnnounceBody l port msg))

/-- PTP_DELAY_MESSAGE (R348). -/
def execPtpDelayMessage (l : LaneId) (port : Nat) (msg : PtpMsg) (s : State) : Host.Outcome State Fault Refusal :=
  .next (commit s (ptpDelayMessageBody l port msg))

/-- PTP_DELAY_REQ_RECEIVED (R346). -/
def execPtpDelayReqReceived (l : LaneId) (port : Nat) (msg : PtpMsg) (s : State) : Host.Outcome State Fault Refusal :=
  .next (commit s (ptpDelayReqReceivedBody l port msg))

/-- PTP_MANAGEMENT_GET (R346). -/
def execPtpManagementGet (l : LaneId) (port : Nat) (msg : PtpMsg) (s : State) : Host.Outcome State Fault Refusal :=
  .next (commit s (ptpManagementGetBody l port msg))

/-- PTP_MESSAGE_INTERVAL (R346). -/
def execPtpMessageInterval (l : LaneId) (port : Nat) (slot : Nat) (kind : Nat) (s : State) : Host.Outcome State Fault Refusal :=
  .next (commit s (ptpMessageIntervalBody l port slot kind))

/-- SLOT_LOST (R349). -/
def execSlotLost (l : LaneId) (slot : Nat) (s : State) : Host.Outcome State Fault Refusal :=
  .next (commit s (slotLostBody l slot))

/-- SLEW_END (R355). -/
def execSlewEnd (l : LaneId) (s : State) : Host.Outcome State Fault Refusal :=
  .next (commit s (slewEndBody l))

/-- PTP_SWITCH (R356). -/
def execPtpSwitch (l : LaneId) (v : View) (s : State) : Host.Outcome State Fault Refusal :=
  .next (commit s (ptpSwitchBody l v))

/-- SET_RTC (R358). -/
def execSetRtc (l : LaneId) (v : View) (s : State) : Host.Outcome State Fault Refusal :=
  .next (commit s (setRtcBody l v))

/-- SET_RTC_COMMIT (R358). -/
def execSetRtcCommit (l : LaneId) (s : State) : Host.Outcome State Fault Refusal :=
  .next (commit s (setRtcCommitBody l))

/-- LINK_CHANGE (R340). -/
def execLinkChange (l : LaneId) (port : Nat) (up : Bool) (gig : Bool) (s : State) : Host.Outcome State Fault Refusal :=
  .next (commit s (linkChangeBody l port up gig))

/-- ARP_REQUEST (R341). -/
def execArpRequest (l : LaneId) (port : Nat) (ip : BitVec 32) (s : State) : Host.Outcome State Fault Refusal :=
  .next (commit s (arpRequestBody l port ip))

/-- ICMP_ECHO_REQUEST (R341). -/
def execIcmpEchoRequest (l : LaneId) (port : Nat) (ip : BitVec 32) (s : State) : Host.Outcome State Fault Refusal :=
  .next (commit s (icmpEchoRequestBody l port ip))

/-- FOREIGN_FRAME (R341). -/
def execForeignFrame (l : LaneId) (port : Nat) (fcsBad : Bool) (s : State) : Host.Outcome State Fault Refusal :=
  .next (commit s (foreignFrameBody l port fcsBad))

/-- PTP_PORT_ERRORS_READ (R14). -/
def execPtpPortErrorsRead (l : LaneId) (v : View) (s : State) : Host.Outcome State Fault Refusal :=
  .next (commit s (ptpPortErrorsReadBody l v))

/-- PTP_TIME_NS_READ (R13). -/
def execPtpTimeNsRead (l : LaneId) (v : View) (s : State) : Host.Outcome State Fault Refusal :=
  .next (commit s (ptpTimeNsReadBody l v))

end Sys2Proof.Machine
end

