-- ==== Sys2Proof/Machine/ReadLane.lean ====
section
/-! DEFINITION. The values of the registers that a lane's control die and always-on domain hold, by block and offset, as
the register maps of chapters 02 to 21 lay them out (R501, R502, R508). A read with an effect of its own has its command
elsewhere; what such a read latches is kept in the view (R13, R504). -/

namespace Sys2Proof.Machine

/-- A signed value in 32 bits. -/
def s32 (i : Int) : Nat := ofS 32 i

/-- The high word of a 64-bit value, latched by the read of the low one (R13). -/
def Sel.held (s : Sel) (addr : Nat) : Nat := (keyed s.latch addr 0).toNat

/-- Word k of some bytes. -/
def wordAt (bs : Bytes) (k : Nat) : Nat := leAt bs (4 * k) 4

/-- `SYS_STATUS` (ch. 11). -/
def Lane.sysStatus (L : Lane) : Nat :=
  flags [!L.prg.forces.isEmpty, L.red.holds, L.sys.holdupOk, L.sys.restored, L.mtr.unsealed, L.rtc.osf,
    decide (1 ≤ L.pwr.step), L.sys.testEnable]

/-- `SYS_MODE` (ch. 11). -/
def Lane.sysMode (L : Lane) (l : LaneId) : Nat := L.sys.mode.code + 16 * L.sys.cause + 256 * l.num + 512 * L.sys.prev

/-- The system block (ch. 11, 21). -/
def Module.readSys (m : Module) (l : LaneId) (off : Nat) : Nat :=
  let s := (m.lane l).sys
  match off with
  | 0x00 => m.variant.sysId
  | 0x04 => Config.revision.toNat + 0x10000 + 0x200000
  | 0x10 => (m.lane l).sysMode l
  | 0x14 => s.reqTarget + 256 * s.reqState + 4096 * s.reqResult
  | 0x18 => (m.lane l).sysStatus
  | 0x20 => s.opsec
  | 0x24 => s.pcc
  | 0x28 => s.autostart
  | 0x40 => s.testCh + 256 * b2n s.testInput + 512 * s.testLevel + 2 ^ 31 * b2n s.testEnable
  | 0x50 => s.irq.toNat
  | 0x54 => s.irqEn.toNat
  | 0x60 => s.partialWr + 65536 * s.unreach
  | _ => 0

/-- `CFG_STATUS` (ch. 02). -/
def Cfg.status (c : Cfg) : Nat :=
  c.state.code + 8 * flags [c.cmdRefused, c.abandonLate, c.applyLateDie, c.armCancelled, c.shadowWriteRejected] +
    256 * (if c.state == .checking then c.stage else 0) + 2048 * b2n c.delta

/-- The configuration block (ch. 02). -/
def Module.readCfg (m : Module) (l : LaneId) (v : View) (off : Nat) : Nat :=
  let L := m.lane l
  let c := L.cfg
  match off with
  | 0x04 => c.status
  | 0x08 => c.reason + 65536 * c.reasonSection
  | 0x0C => c.reasonIndex
  | 0x10 => c.applyAt
  | 0x14 => L.boundaryCount m.now
  | 0x18 => c.cmdReason
  | 0x60 => c.activeCounter
  | 0x64 => (m.sel l v).held 0x10064
  | 0x68 => c.floor
  | 0x6C => (m.sel l v).held 0x1006C
  | 0x70 => c.checkTime
  | _ =>
    if off % 4 ≠ 0 then 0
    else if 0x20 ≤ off ∧ off < 0x40 then wordAt c.activeDigest ((off - 0x20) / 4)
    else if 0x40 ≤ off ∧ off < 0x60 then wordAt c.shadowDigest ((off - 0x40) / 4)
    else 0

/-- `PWR_DOM_STATUS` of the domain a view selects (ch. 18). -/
def Module.domStatus (m : Module) (l : LaneId) (v : View) : Nat :=
  let w := (m.sel l v).pwrDom
  let die := fld w 2 0
  let i := fld w 12 8
  let p := (m.lane l).pwr
  let last := 128 * keyed p.lastReq (32 * die + i) 0 + 2048 * b2n (p.superseded.contains (32 * die + i))
  if m.pwrFitted l die && decide (i < domCount die) then
    let d := m.dom die i
    (if d.moving then 3 else d.state.code) + 4 * d.target.code + 16 * (d.pending.map DomState.code).getD 0 +
      64 * b2n d.pending.isSome + 1024 * b2n (retCapable die i) + last
  else last

/-- `PWR_GOV` (ch. 18). -/
def Module.pwrGov (m : Module) (l : LaneId) : Nat :=
  let p := (m.lane l).pwr
  let parked := m.sdList.foldl (fun a s => a + b2n ((m.sd s).state == .parked) * 2 ^ s) 0
  p.step + 16 * p.maxStep + 256 * parked

/-- The power block (ch. 18). -/
def Module.readPwr (m : Module) (l : LaneId) (v : View) (off : Nat) : Nat :=
  let p := (m.lane l).pwr
  match off with
  | 0x00 => (m.sel l v).pwrDom.toNat
  | 0x04 => m.domStatus l v
  | 0x08 => p.retFail.toNat
  | 0x0C => p.retFailT0.toNat
  | 0x10 => p.retFailT1.toNat
  | 0x20 => p.vIn + 65536 * p.iIn
  | 0x24 => p.pIn + 65536 * p.pAvail
  | 0x28 => p.vHold + 65536 * flags [(m.lane l).sys.holdupOk, m.supplyGood, p.limit]
  | 0x30 => m.pwrGov l
  | 0x34 => p.govCount
  | 0x40 => p.irq.toNat
  | 0x44 => p.irqEn.toNat
  | _ => 0

/-- The clock block (ch. 18): a domain's clock runs while the domain is ON, a block processor's while its task asks for
it (R27). -/
def Module.readClk (m : Module) (l : LaneId) (off : Nat) : Nat :=
  let L := m.lane l
  let on (i : Nat) : Bool := (at? L.pwr.doms i {}).state == .on
  let blk (p : Nat) : Bool := on (2 + p) && (List.range 4).any fun t => (L.task t).clockOn && (L.conf.task t).processor == p
  let eth := on 14 && ((L.conf.network.map fun n => n.eth.any fun p => p.mode != 0).getD false)
  let access := L.nvm.busy.isSome || !L.nvm.waiting.isEmpty || (L.nvm.underWay m.now).isSome
  let linked := m.laneLink && on 1 && (m.dom l.other.num 1).state == .on
  match off with
  | 0x00 => flags [true, on 1, blk 0, blk 1, blk 2, blk 3, on 15, eth, eth, on 16 && access, linked]
  | 0x04 => (L.clk.blk.at_ m.now).1 + 65536 * (L.clk.blk.at_ m.now).2
  | 0x08 => if m.variant.nSd = 0 then 0 else L.clk.fp + 65536 * L.slvLimit
  | 0x0C => L.clk.cap
  | 0x10 => L.clk.fail.toNat
  | _ => 0

/-- The template a view selects, where it selects one (ch. 04). -/
def Module.selTpl (m : Module) (l : LaneId) (v : View) : Option (Nat × Template) :=
  let i := (m.sel l v).slvTpl
  ((m.lane l).conf.tmpl i).map fun t => (i, t)

/-- `SLV_DIE_STATE` (ch. 04). -/
def Module.dieStates (m : Module) (l : LaneId) : Nat := (m.dieState l 0).code + 16 * (m.dieState l 1).code

/-- The solver block but for its die window (ch. 04); on the part without solver dies it reads 0 (R509). -/
def Module.readSlv (m : Module) (l : LaneId) (v : View) (off : Nat) : Nat :=
  let s := (m.lane l).slv
  let tv := (m.selTpl l v).map fun t => (t, at? s.tpls (t.1 - 1) {})
  let view (f : TplView → Nat) : Nat := (tv.map fun x => f x.2).getD 0
  if m.variant.nSd = 0 then 0
  else match off with
  | 0x04 => s.irq.toNat
  | 0x08 => s.irqEn.toNat
  | 0x10 => m.dieStates l
  | 0x14 => s.fallbackCount
  | 0x20 => (m.sel l v).slvTpl
  | 0x24 => view fun t => t.status + 16 * t.flags + 4096 * b2n t.result.isSome
  | 0x28 => view (·.iter)
  | 0x30 => view fun t => t.rho.toNat
  | 0x34 => (m.sel l v).held 0x40034
  | 0x38 => view (·.commitUs)
  | 0x3C => (m.sel l v).held 0x4003C
  | 0x40 =>
    let c := (m.lane l).conf
    let f := proofClock c.power
    (tv.map fun x => if f = 0 then 0 else cdiv (provenTime c.prog.code f x.1.1 x.1.2) (32 * f)).getD 0
  | 0x44 => view (·.miss)
  | 0x50 => view (·.pivotCount)
  | 0x54 => view (·.pivotFirst)
  | 0x58 => view (·.firstBad)
  | _ => 0

/-- The program block (ch. 05). -/
def Module.readPrg (m : Module) (l : LaneId) (v : View) (off : Nat) : Nat :=
  let L := m.lane l
  let p := L.prg
  let s := m.sel l v
  let k := L.task s.prgTask
  let c := L.conf.task s.prgTask
  let armed := L.cfg.state == .armed && L.cfg.programChanged
  match off with
  | 0x00 => flags [p.running, p.gen == 1, armed] + 16 * (L.conf.configured.foldl (fun a t => a + 2 ^ t) 0)
  | 0x10 => m.us
  | 0x14 => s.held 0x50014
  | 0x18 => ofS 64 p.tbOffset
  | 0x1C => s.held 0x5001C
  | 0x20 => s.prgTask
  | 0x24 => c.processor + 4 * b2n (c.periodUs != 0) + 8 * b2n k.executing + 256 * k.consec
  | 0x28 => c.periodUs
  | 0x30 => k.cycles
  | 0x34 => s.held 0x50034
  | 0x38 => k.overruns
  | 0x3C => k.skipped
  | 0x40 => k.lastUs
  | 0x44 => k.maxUs
  | 0x48 => c.wcetUs
  | 0x50 => k.stamp
  | 0x54 => s.held 0x50054
  | 0x60 => s.prgForce
  | 0x64 => ((p.forces.find? (·.1 == s.prgForce)).map fun f => f.2.target).getD max32
  | 0x68 => p.forceValue
  | 0x6C => s.held 0x5006C
  | 0x74 => p.forceResult + 65536 * p.forces.length
  | 0x80 => p.exchCarryNs
  | 0x84 => p.exchInit + 65536 * p.exchDropped
  | 0x88 => p.exchDelayUs
  | 0x90 => p.irq.toNat
  | 0x94 => p.irqEn.toNat
  | _ => 0

/-- The lane's half of the motion block (ch. 07). -/
def Module.readMot (m : Module) (l : LaneId) (off : Nat) : Nat :=
  let L := m.lane l
  match off with
  | 0x100 => L.budget + 256 * L.mot.granted.length + 65536 * L.mot.requests.length + 2 ^ 25 * b2n (decide (2 ≤ L.pwr.step))
  | 0x104 => L.mot.peak
  | 0x108 => L.mot.waitMax
  | 0x110 => L.mot.irq.toNat
  | 0x114 => L.mot.irqEn.toNat
  | _ => 0

/-- The lane's half of the metering block (ch. 09). -/
def Module.readMtr (m : Module) (l : LaneId) (off : Nat) : Nat :=
  let L := m.lane l
  let t := L.mtr
  match off with
  | 0x100 => t.sealWord
  | 0x104 => L.evr.mFree + 65536 * t.mlogLost
  | 0x108 => t.saveSeq
  | 0x10C => (t.saveAt.map fun a => (m.now - a) / 1000000000).getD 0
  | 0x114 => t.cmdState + 16 * t.cmdReason
  | 0x120 => wordAt t.nonce 0
  | 0x124 => wordAt t.nonce 1
  | 0x128 => wordAt t.nonce 2
  | 0x12C => wordAt t.nonce 3
  | 0x130 => t.irq.toNat
  | 0x134 => t.irqEn.toNat
  | _ => 0

/-- Number of a role (ch. 10). -/
def Role.code : Role → Nat
  | .active => 0
  | .standby => 1
  | .resync => 2
  | .takeover => 3
  | .switching => 4
  | .single => 5

/-- Whether the peer's wire has toggled within 3 ms (R275, R277). -/
def Module.wireOk (m : Module) (l : LaneId) : Bool :=
  let P := m.lane l.other
  m.variant.nLane == 2 && !(m.lane l).red.wireLost && P.red.holds && P.red.releaseAt.isNone && !P.sys.failed &&
    decide (m.now ≤ P.red.wireAt + 3000000)

/-- `RED_LANE_STATE` (ch. 10). A lane reaches a field die while frames of it are no older than T_VACANT (R281). -/
def Module.laneState (m : Module) (l : LaneId) : Nat :=
  let L := m.lane l
  let role := if m.variant.nLane = 1 then 5 else L.red.role.code
  role + 8 * l.num + 16 * m.peerCode l + 128 * b2n (m.wireOk l) + 256 * flags m.laneLinks +
    1024 * m.reachBits l + 16384 * flags L.red.vacant + 2 ^ 18 * b2n L.red.selfFenced

/-- The redundancy block (ch. 10). -/
def Module.readRed (m : Module) (l : LaneId) (off : Nat) : Nat :=
  let L := m.lane l
  let r := L.red
  match off with
  | 0x00 => mkClaim (claimEpoch r.claim) l
  | 0x04 => m.laneState l
  | 0x08 =>
    (if m.variant.nLane = 1 then 0 else (L.cfg.active.map fun c => c.safety.quorum).getD 0) +
      16 * (r.evidence.filter id).length + 256 * flags r.evidence + 4096 * flags r.latched + 65536 * r.quorumResult
  | 0x10 => r.ckptSeq
  | 0x14 => (r.ckptTb.map fun t => sat max32 ((m.us - t) / 1000)).getD max32
  | 0x18 => r.ckptBytes
  | 0x1C => r.ckptTimeUs
  | 0x24 => r.ctrlState + 16 * r.ctrlReason
  | 0x28 => r.splitCount
  | 0x30 => r.irq.toNat
  | 0x34 => r.irqEn.toNat
  | _ => 0

/-- The lane's half of the CAN block (ch. 12). -/
def Module.readCan (m : Module) (l : LaneId) (v : View) (off : Nat) : Nat :=
  let L := m.lane l
  let n := (m.sel l v).canRec
  let e := L.can.eng n
  match off with
  | 0x100 => n
  | 0x104 =>
    let b := keyed L.prg.recIn n {}
    b.seq + 65536 * e.epoch + 2 ^ 24 * b2n b.valid + 2 ^ 25 * b2n e.asm.isSome
  | 0x108 => e.eCheck + 256 * e.eSeq + 65536 * e.eTimeout + 2 ^ 24 * e.eOld
  | 0x110 => L.can.irq.toNat
  | 0x114 => L.can.irqEn.toNat
  | _ => 0

/-- `PTP_STATUS` (ch. 13). -/
def Lane.ptpStatus (L : Lane) : Nat :=
  L.ptp.steer + 2 * L.ptp.steerState + 8 * flags [L.ptp.slewing, L.ptp.untrusted] + 256 * (L.slotState 0).code +
    4096 * (L.slotState 1).code

/-- The Ethernet and time block (ch. 13). -/
def Module.readPtp (m : Module) (l : LaneId) (v : View) (off : Nat) : Nat :=
  let L := m.lane l
  let p := L.ptp
  let s := m.sel l v
  let x := L.slot s.ptpDom
  let e := at? p.ports s.ptpPort {}
  let lat := Config.phyLatency l.num s.ptpPort e.gig
  match off with
  | 0x00 => (m.modNs l).toNat % 1000000000
  | 0x04 => s.held 0xC0004
  | 0x08 => s.held 0xC0008
  | 0x10 => L.ptpStatus
  | 0x18 => p.ctrlState + 16 * p.ctrlReason
  | 0x20 => s.ptpDom
  | 0x24 => s32 (satS32 x.theta)
  | 0x28 => s32 x.rho
  | 0x2C => x.q.getD max32
  | 0x30 => s32 (at? x.paths (if at? x.portState 1 0 = 9 then 1 else 0) 0)
  | 0x38 => x.gm
  | 0x3C => s.held 0xC003C
  | 0x44 => (x.syncAt.map fun t => sat max32 ((m.now - t) / 1000000)).getD max32
  | 0x60 => s.ptpPort
  | 0x64 => b2n e.up + 2 * b2n e.gig + 16 * at? (L.slot 0).portState s.ptpPort 0 + 256 * at? (L.slot 1).portState s.ptpPort 0
  | 0x68 => lat.1.toNat + 65536 * lat.2.toNat
  | 0x6C => e.other + 65536 * e.fcs
  | 0x74 => p.utcOffset
  | 0x80 => p.irq.toNat
  | 0x84 => p.irqEn.toNat
  | _ => 0

/-- The non-volatile store's block (ch. 14); the program registers exist in the firmware view only. -/
def Module.readNvm (m : Module) (l : LaneId) (v : View) (off : Nat) : Nat :=
  let n := (m.lane l).nvm
  let s := m.sel l v
  let fw (x : Nat) : Nat := if v == .fw then x else 0
  match off with
  | 0x00 => flags [n.busy.isSome || (n.underWay m.now).isSome, n.lowPower, n.busy.isNone && (n.underWay m.now).any (·.port)]
  | 0x04 => n.eccCorr
  | 0x08 => n.eccUe
  | 0x0C => n.ueAddr
  | 0x10 => n.progPages
  | 0x14 => s.held 0xD0014
  | 0x18 => n.refused + 65536 * n.refRegion
  | 0x20 => s.nvmWin
  | 0x28 => s.held 0xD0028
  | 0x2C => at? n.winCorr (viewIdx v) 0 + 4 * b2n (at? n.winUe (viewIdx v) false)
  | 0x40 => fw n.progAddr.toNat
  | 0x44 => fw n.progCtrl.toNat
  | 0x100 => n.irq.toNat
  | 0x104 => n.irqEn.toNat
  | _ => if 0x80 ≤ off ∧ off < 0xC0 ∧ off % 4 = 0 then fw (at? n.progData ((off - 0x80) / 4) 0).toNat else 0

/-- The event recorder (ch. 15). -/
def Module.readEvr (m : Module) (l : LaneId) (v : View) (off : Nat) : Nat :=
  let e := (m.lane l).evr
  let s := m.sel l v
  match off with
  | 0x00 => flags [e.freezeHost.isSome, e.freezeFw.isSome, e.frozen]
  | 0x04 => e.head
  | 0x08 => e.tail
  | 0x0C => e.mHead
  | 0x10 => e.mTail
  | 0x14 => e.holdOverflow + 65536 * e.damaged
  | 0x18 => e.suppressed
  | 0x30 => s.evrCtrl.toNat
  | 0x34 => s.evrPos.toNat
  | 0x38 => flags [at? e.rdValid (viewIdx v) false, at? e.rdEmpty (viewIdx v) false]
  | 0x100 => e.irq.toNat
  | 0x104 => e.irqEn.toNat
  | _ => if 0x44 ≤ off ∧ off < 0x60 ∧ off % 4 = 0 then s.held (0xE0000 + off) else 0

/-- The calendar a view reads: its shadows while they are frozen (R405). -/
def Rtc.shown (r : Rtc) (v : View) : Cal := ((r.frozen v).map (·.1)).getD r.cal

/-- The time keeper (ch. 16); 0 under the lockout (R412). -/
def Module.readRtc (m : Module) (l : LaneId) (v : View) (off : Nat) : Nat :=
  let r := (m.lane l).rtc
  let c := r.shown v
  if r.lockout then 0
  else match off with
  | 0x00 => c.sec
  | 0x04 => c.min
  | 0x08 => c.hour
  | 0x0C => c.wday
  | 0x10 => c.day
  | 0x14 => c.mon
  | 0x18 => c.year
  | 0x20 => r.stgSec + 256 * r.stgMin + 65536 * r.stgHour
  | 0x24 => r.stgDay + 256 * r.stgMon + 65536 * r.stgYear
  | 0x2C => flags [r.errDate, r.errAlarm]
  | 0x30 => b2n r.osf + 2 * r.osfCause + 8 * flags [r.alarm, r.pwron, (r.frozen v).isSome]
  | 0x40 => r.almTime.toNat
  | 0x44 => r.almDate.toNat
  | 0x48 => r.almCtrl.toNat
  | 0x50 => flags [r.alarmEn, r.wakeEn] + 256 * r.holdS
  | 0x60 => flags [false, r.extSelected, r.charging, r.cellLow] + 65536 * r.intMv
  | 0x64 => r.backupCfg + 65536 * r.extMv
  | 0x100 => r.irq.toNat
  | 0x104 => r.irqEn.toNat
  | _ => 0

/-- The key store (ch. 17). -/
def Module.readKey (m : Module) (l : LaneId) (v : View) (off : Nat) : Nat :=
  let k := (m.lane l).key
  let n := (m.sel l v).keySlot
  let s := k.slot n
  match off with
  | 0x00 => n
  | 0x04 => s.shown % 4096 + 4096 * b2n s.isDead
  | 0x08 => if nbit s.shown 8 then s.count else 0
  | 0x64 => k.cmdState + 16 * k.cmdResult
  | 0x68 => k.refused
  | 0x6C => flags [k.trngOk, k.trngFailed]
  | 0x100 => k.irq.toNat
  | 0x104 => k.irqEn.toNat
  | _ =>
    if off % 4 ≠ 0 then 0
    else if 0x10 ≤ off ∧ off < 0x30 then
      (if s.shown / 512 % 8 = 3 ∨ s.shown / 512 % 8 = 4 then wordAt (s.key.getD []) ((off - 0x10) / 4) else 0)
    else if 0x40 ≤ off ∧ off < 0x50 then wordAt (fitTo 16 Config.serial) ((off - 0x40) / 4)
    else if 0x200 ≤ off ∧ off < 0x280 then (at? k.buf ((off - 0x200) / 4) 0).toNat
    else 0

/-- `HST_STATUS` (ch. 19). -/
def Lane.hstStatus (L : Lane) : Nat :=
  let h := L.hst
  flags [L.red.holds, h.linkUp] + (if h.linkUp then 4 * h.speed + 16 * h.width else 0) + 64 * flags [h.bme, h.msix]

/-- The host port's block (ch. 19). -/
def Module.readHst (m : Module) (l : LaneId) (v : View) (off : Nat) : Nat :=
  let L := m.lane l
  let s := m.sel l v
  let g := L.ring s.hstRing
  match off with
  | 0x00 => s.hstRing
  | 0x04 => b2n g.run + 65536 * g.holdoff
  | 0x08 => g.base
  | 0x0C => s.held 0x11000C
  | 0x10 => g.size
  | 0x14 => g.state + 256 * g.err
  | 0x18 => g.prod + 65536 * g.cons
  | 0x20 => g.wb
  | 0x24 => s.held 0x110024
  | 0x28 => g.dropped
  | 0x100 => L.hstStatus
  | 0x110 => L.hst.irq.toNat
  | 0x114 => L.hst.irqEn.toNat
  | 0x120 => L.hst.telemMs
  | _ => 0

end Sys2Proof.Machine
end

