-- ==== Sys2Proof/Machine/ReadDie.lean ====
section
/-! DEFINITION. The values of the registers that the field dies and solver dies hold behind their windows, and the
whole register map of a lane in one view (R13, R190, R502, R505, R508, R509). A die the lane cannot reach reads 0. -/

namespace Sys2Proof.Machine

/-- `FLD_DIE_STATUS`: PRESENT and LINK_UP come from the control die (R505). -/
def Module.fldStatus (m : Module) (l : LaneId) (d : Nat) : Nat :=
  let fd := m.fd d
  if d ≥ m.variant.nFd then 0
  else if !m.fdReach l d then 1
  else
    let used (c : Nat) : Nat := outsOf (fd.chanCfg d c).function
    flags [true, true, fd.bank.isSome,
      (List.range 64).any fun c => (List.range (used c)).any fun n => fd.inSafe d c n, fd.railLow]

/-- `FLD_BRG_STATUS`. -/
def FieldDie.brgStatus (fd : FieldDie) : Nat :=
  flags ((List.range 8).map fun g => fd.brgOn g) + 256 * flags (fd.brg.map (·.warn)) +
    65536 * flags (fd.brg.map (·.shutdown))

/-- Whether a voltage-sense input is bound to a metering point of its die (R236). -/
def FieldDie.vsBound (fd : FieldDie) (d k : Nat) : Bool :=
  (List.range 32).any fun p => (fd.mpCfg d p).kind != 0 && (fd.mpCfg d p).vs.contains k

/-- Registers 0x008 to 0x084 of the field channel block, of a die that answers (ch. 06). -/
def FieldDie.readFld (fd : FieldDie) (d : Nat) (s : Sel) (off : Nat) : Nat :=
  let i := fd.chanCfg d s.fldCh
  let c := at? fd.chans s.fldCh {}
  let lo := at? fd.supplies 0 {}
  let hi := at? fd.supplies 1 {}
  let x := at? fd.vs s.fldVs {}
  match off with
  | 0x08 => fd.claim
  | 0x0C => fd.claimRejected
  | 0x10 => fd.bankCounter
  | 0x14 => s.held 0x60014
  | 0x18 => fd.brgStatus
  | 0x1C => fd.railMv
  | 0x20 => flags [lo.on, lo.limit] + 256 * flags [hi.on, hi.limit]
  | 0x24 => lo.ma + 65536 * hi.ma
  | 0x28 => ofS 64 fd.tbOffset
  | 0x2C => s.held 0x6002C
  | 0x30 => s32 fd.tbRate
  | 0x34 => fd.tbSlot + 2 * fd.tbState + 8 * b2n fd.tbValid
  | 0x44 => i.function + 16 * i.in1Range + 256 * i.in2Range + 4096 * i.encMode + 65536 * i.point
  | 0x48 => fd.chStatus d s.fldCh
  | 0x4C => c.fault
  | 0x50 => s32 c.in1
  | 0x54 => s32 c.in2
  | 0x58 => c.enc.toNat
  | 0x5C => c.curA + 65536 * c.curB
  | 0x74 => s32 x.rms
  | 0x78 => flags [x.ovr, fd.vsBound d s.fldVs]
  | 0x80 => fd.irq.toNat
  | 0x84 => fd.irqEn.toNat
  | _ => 0

/-- Registers 0x004 to 0x02C of the motion block, of a die that answers (ch. 07). -/
def FieldDie.readAxis (fd : FieldDie) (now c off : Nat) : Nat :=
  let a := at? fd.axes c {}
  match off with
  | 0x04 => a.status
  | 0x08 => flags [a.stall, a.limit, a.state != .notAxis && (fd.outp c 0).fault != 0]
  | 0x0C => s32 a.pCmd
  | 0x10 => s32 (a.pEnc (at? fd.chans c {}).enc)
  | 0x14 => s32 a.dev
  | 0x18 => s32 (Int.tdiv a.speed planS)
  | 0x1C => a.acc
  | 0x20 => a.dec
  | 0x24 => if a.state == .waiting then sat max32 ((now - a.reqAt) / 1000) else 0
  | 0x28 => a.rejectCount + 65536 * a.rejectReason
  | 0x2C => a.stallCount
  | _ => 0

/-- Registers 0x004 to 0x028, 0x100 and 0x104 of the loop block, of a die that answers (ch. 08). -/
def FieldDie.readLoop (fd : FieldDie) (d : Nat) (supply : Bool) (k off : Nat) : Nat :=
  let s := at? fd.loops k {}
  match off with
  | 0x04 => fd.loopStatus d supply k
  | 0x08 => flags [s.satFilter, s.satError, s.satModel, s.plaus]
  | 0x0C => s32 s.y
  | 0x10 => s32 (if nbit (fd.loopCfg d k).flags 3 then s.yhat else 0)
  | 0x14 => s32 s.r
  | 0x18 => s32 s.sp
  | 0x1C => s32 s.eOn
  | 0x20 => s32 s.eOff
  | 0x24 => s.switches
  | 0x28 => s.rejects
  | 0x100 => fd.lpIrq.toNat
  | 0x104 => fd.lpIrqEn.toNat
  | _ => 0

/-- Sum over the pulses of the last second (`MTR_HP_FLOW`, `MTR_HP_POWER`). -/
def HeatPoint.lastSecond (h : HeatPoint) (now : Nat) (f : Nat × Int × Int → Int) : Int :=
  (h.recent.filter fun r => decide (now < r.1 + 1000000000)).foldl (fun a r => a + f r) 0

/-- Registers 0x004 to 0x068 of the metering block, of a die that answers (ch. 09). -/
def FieldDie.readPoint (fd : FieldDie) (d now : Nat) (s : Sel) (thermal : Bool) (p off : Nat) : Nat :=
  let a := at? fd.mps p {}
  let h := at? fd.hps p {}
  let mp (n : Nat) : Nat := if thermal then 0 else n
  let hp (n : Nat) : Nat := if thermal then n else 0
  let pulses := if thermal then h.pulses else a.pulses
  match off with
  | 0x04 => fd.ptStatus d thermal p
  | 0x0C => (if thermal then at? h.regs s.mtrReg {} else at? a.regs s.mtrReg {}).value
  | 0x10 => s.held 0x90010
  | 0x14 => s.held 0x90014
  | 0x20 => mp (s32 a.p)
  | 0x24 => mp (s32 a.q)
  | 0x28 => mp a.s
  | 0x2C => mp a.freq
  | 0x34 => mp (if s.mtrPh < 3 then at? a.vrms s.mtrPh 0 else 0)
  | 0x38 => mp (at? a.irms s.mtrPh 0)
  | 0x40 => hp (s32 (fdiv h.tS 1000))
  | 0x44 => hp (s32 (fdiv h.tR 1000))
  | 0x48 => hp (s32 (Int.tdiv (h.lastSecond now (·.2.1)) 1000))
  | 0x4C => hp (s32 (Int.tdiv (h.lastSecond now (·.2.2)) (2 ^ 32)))
  | 0x50 => mp a.demand.imp
  | 0x54 => mp a.demand.exp
  | 0x58 => mp a.demand.max
  | 0x60 => mp a.demand.maxTime
  | 0x64 => s.held 0x90064
  | 0x68 => (at? pulses 0 {}).count + 65536 * (at? pulses 1 {}).count
  | _ => 0

/-- `CAN_STATUS` of a port (ch. 12). -/
def FieldDie.canStatus (fd : FieldDie) (d p : Nat) : Nat :=
  let c := at? fd.can p {}
  c.state + 4 * flags [c.restricted, (fd.canCfg d p).mode != 0, c.tdcSat] + 32 * c.lastErr + 256 * min 255 c.recCnt +
    65536 * min 256 c.tecCnt + 2 ^ 25 * c.tdc

/-- Registers 0x008 to 0x0C4 of the CAN block and, of the single-lane parts, its filters, of a die that answers (ch. 12). -/
def FieldDie.readPort (fd : FieldDie) (d p : Nat) (s : Sel) (single : Bool) (off : Nat) : Nat :=
  let c := at? fd.can p {}
  let f := at? c.filters s.canFilt {}
  let one (n : Nat) : Nat := if single then n else 0
  match off with
  | 0x08 => fd.canStatus d p
  | 0x0C => c.rxCount
  | 0x10 => c.txCount
  | 0x14 => c.lostFifo + 65536 * c.lostRing
  | 0x18 => c.txDropped
  | 0x1C => c.strangers
  | 0x20 => c.busOffs
  | 0x80 => c.rawId.toNat
  | 0x84 => c.rawCtrl.toNat % 128
  | 0x144 => one f.filt.toNat
  | 0x148 => one f.mask.toNat
  | 0x14C => one (s.canFiltBuf + 256 * b2n (at? c.filters s.canFiltBuf {}).full)
  | 0x160 => one (leAt (at? c.filters s.canFiltBuf {}).buf.bytes 0 4)
  | _ =>
    if off % 4 ≠ 0 then 0
    else if 0x88 ≤ off ∧ off < 0xC8 then (at? c.rawData ((off - 0x88) / 4) 0).toNat
    else if 0x160 < off ∧ off < 0x1C0 then one (s.held (0xB0000 + off))
    else 0

/-- Registers 0x104 to 0x124 of the solver block, of a die that answers (ch. 04). -/
def SolverDie.readDie (sd : SolverDie) (now off : Nat) : Nat :=
  match off with
  | 0x104 => sd.spare.getD 0x1F
  | 0x108 => sd.retired.foldl (fun a e => a + 2 ^ e) 0
  | 0x10C => sd.suspect.foldl (fun a e => a + 2 ^ e) 0
  | 0x110 => ((sd.run.map (·.job.template)).getD 0) + 256 * sd.queue.length
  | 0x114 => (sd.rail.at_ now).1
  | 0x118 => sd.verifyFails
  | 0x11C => sd.rejected
  | 0x120 => sd.collectMax
  | 0x124 => b2n sd.selftestReq
  | _ => 0

/-- The value a field die's register shows a lane: 0 where the lane cannot reach it (R505). -/
def Module.ofDie (m : Module) (l : LaneId) (d : Nat) (f : FieldDie → Nat) : Nat := if m.fdReach l d then f (m.fd d) else 0

/-- The metering point a view selects: whether thermal, its die and its number there. -/
def Sel.point (s : Sel) : Bool × Nat × Nat :=
  let n := fld s.mtrPt 6 0
  if bitOf s.mtrPt 8 then (true, n / 16, n % 16) else (false, n / 32, n % 32)

/-- The registers a view finds in a block (R501, R508). -/
def Module.readBlock (m : Module) (l : LaneId) (v : View) (block off : Nat) : Nat :=
  let s := m.sel l v
  match block with
  | 0 => m.readSys l off
  | 1 => m.readCfg l v off
  | 2 => m.readPwr l v off
  | 3 => m.readClk l off
  | 4 =>
    if off = 0x100 then (if m.variant.nSd = 0 then 0 else s.slvDie)
    else if off < 0x100 then m.readSlv l v off
    else if m.sdReach l s.slvDie then (m.sd s.slvDie).readDie m.now off else 0
  | 5 => m.readPrg l v off
  | 6 =>
    let d := s.fldDie
    (match off with
     | 0x00 => d
     | 0x04 => m.fldStatus l d
     | 0x40 => s.fldCh
     | 0x70 => s.fldVs
     | _ => m.ofDie l d fun fd => fd.readFld d s off)
  | 7 =>
    if off = 0 then s.motAxis
    else if off < 0x100 then m.ofDie l (s.motAxis / 64) fun fd => fd.readAxis m.now (s.motAxis % 64) off
    else m.readMot l off
  | 8 =>
    if off = 0 then s.lpSlot
    else m.ofDie l (s.lpSlot / 64) fun fd => fd.readLoop (s.lpSlot / 64) m.supplyGood (s.lpSlot % 64) off
  | 9 =>
    (match off with
     | 0x00 => s.mtrPt.toNat
     | 0x08 => s.mtrReg
     | 0x30 => s.mtrPh
     | _ =>
       if off < 0x100 then
         let q := s.point
         m.ofDie l q.2.1 fun fd => fd.readPoint q.2.1 m.now s q.1 q.2.2 off
       else m.readMtr l off)
  | 10 => m.readRed l off
  | 11 =>
    (match off with
     | 0x00 => s.canPort
     | 0x140 => if m.variant == .nfj8 then 0 else s.canFilt
     | _ =>
       if 0x100 ≤ off ∧ off < 0x140 then m.readCan l v off
       else m.ofDie l (s.canPort / 4) fun fd =>
         fd.readPort (s.canPort / 4) (s.canPort % 4) s (m.variant != .nfj8) off)
  | 12 => m.readPtp l v off
  | 13 => m.readNvm l v off
  | 14 => m.readEvr l v off
  | 15 => m.readRtc l v off
  | 16 => m.readKey l v off
  | 17 => m.readHst l v off
  | _ => 0

/-- The value of a register at an address of a lane's map in a view, of 64 bits where the address is the low word of a
64-bit quantity. An address that is no word of the map reads 0 (R502). -/
def Module.regRead (m : Module) (l : LaneId) (v : View) (addr : Nat) : Nat :=
  if addr % 4 = 0 then m.readBlock l v (addr / 65536) (addr % 65536) else 0

end Sys2Proof.Machine
end

