-- ==== Sys2Proof/Machine/HostPort.lean ====
section
/-! DEFINITION. The host port of a lane: doorbells, the start of each ring's descriptors, their completion, and what the
link and the configuration space do to them (R457 to R472, R492). -/

namespace Sys2Proof.Machine

/-- Whether a write of the host to BAR2 reaches the lane's endpoint and takes effect (R459, R472). -/
def Module.bar2 (m : Module) (l : LaneId) : Bool := m.reach l .host && !m.mute l .host

/-- DOORBELL: descriptors posted up to PROD, or a ring in ERROR where they exceed its size (R461, R467, R470). -/
def doorbellBody (l : LaneId) (ring : Nat) (value : Word) (_ : Store) (m : Module) : Module :=
  if !m.bar2 l || decide (ring ≥ 8) then m
  else
    let prod := fld value 15 0
    let g := (m.lane l).ring ring
    let n := (m.lane l).hst.bellSeq
    let post := if prod = g.prod then [] else [(n, prod)]
    let m := updHst l (fun h => { h with bellSeq := n + 1 }) m
    let m := updRing l ring (fun g => { g with prod := prod, posts := g.posts ++ post }) m
    if ((m.lane l).ring ring).waiting > g.size then ringError l ring 1 m else m

/-- A fenced descriptor starts once everything posted before it on any ring has completed (R467). -/
def Lane.fenceOpen (L : Lane) (r : Nat) : Bool :=
  match (L.ring r).posts.head? with
  | none => true
  | some p => (List.range 8).all fun q => q == r || (L.ring q).posts.all fun x => decide (p.1 < x.1)

/-- Whether a ring can start its next descriptor (R459, R465, R467, R468). -/
def Module.fetches (m : Module) (l : LaneId) (r : Nat) (fence : Bool) : Bool :=
  let g := (m.lane l).ring r
  m.mayMaster l && g.state == 1 && g.waiting != 0 && g.cur.isNone && (!fence || (m.lane l).fenceOpen r)

/-- A descriptor of a ring started as one of its operations. The address and length are judged for every operation;
on the NFJ2-64 ring 2 ends every descriptor with OP (R462, R463, R472). A descriptor of another operation of the ring
is not this command's. -/
def startDesc (l : LaneId) (r op : Nat) (others : List Nat) (d : HostDesc) (f : Module → Module) (m : Module) : Module :=
  if !m.fetches l r d.fence || others.contains d.op then m
  else
    let c : Desc := { addr := d.addr, len := d.len, op := d.op, irq := d.irq, fence := d.fence, param := d.param,
                      tag := d.tag }
    let m := updRing l r (fun g => { g with cur := some c, ending := none, outData := [], firstAt := none }) m
    if d.op ≠ op ∨ (r = 2 ∧ m.variant = .nfj2) then ringDone l r 2 0 [] m
    else if d.addr % 4 ≠ 0 ∨ d.len % 4 ≠ 0 ∨ d.len < 4 ∨ d.len > 4194304 then ringDone l r 1 0 [] m
    else f m

/-- A transfer to the host that is over, with all of the buffer filled. -/
def sendOut (l : LaneId) (r : Nat) (bs : Bytes) (m : Module) : Module := ringDone l r 0 bs.length bs m

/-- SHADOW_WRITE: host data programmed into the shadow slot, whose provenance area is all 0 where the slot then holds a full
image; REJECTED while CHECKING or ARMED (R35, R47, R55, R464). -/
def shadowWriteBody (l : LaneId) (desc : HostDesc) (st : Store) (m : Module) : Module :=
  startDesc l 0 1 [2] desc (fun m =>
    let c := (m.lane l).cfg
    if desc.param + desc.len > 12582912 then ringDone l 0 1 0 [] m
    else if c.state == .checking || c.state == .armed then ringDone l 0 3 0 [] (shadowRejected l 0 m)
    else
      let m := mramWrite .shadow st l (imageBase c.shadowSlot + desc.param) (fitTo desc.len desc.data) (shadowAccepted l m)
      ringDone l 0 0 desc.len [] (clearProvenance st l m)) m

/-- ACTIVE_READ: bytes of the active image slot (R464). -/
def activeReadBody (l : LaneId) (desc : HostDesc) (st : Store) (m : Module) : Module :=
  startDesc l 0 2 [1] desc (fun m =>
    if desc.param + desc.len > 12582912 then ringDone l 0 1 0 [] m
    else
      let a := imageBase (m.lane l).cfg.activeSlot + desc.param
      sendOut l 0 (Memory.reads (st.mram l) a desc.len) (nvmRead l a desc.len m)) m

/-- RING_READ: raw records of the event ring from a sequence number on (R388, R464). -/
def ringReadBody (l : LaneId) (desc : HostDesc) (st : Store) (m : Module) : Module :=
  startDesc l 1 1 [2] desc (fun m =>
    let e := (m.lane l).evr
    if desc.len % 32 ≠ 0 ∨ desc.len > 2097152 ∨ desc.param ≥ 2 ^ 32 then ringDone l 1 1 0 [] m
    else if (e.head + 1) % 2 ^ 32 = e.tail then ringDone l 1 6 0 [] m
    else
      let i := desc.param % 65536
      let n := min (desc.len / 32) (65536 - i)
      let n2 := desc.len / 32 - n
      let bs := Memory.reads (st.mram l) (ringAddr i) (32 * n) ++ Memory.reads (st.mram l) (ringAddr 0) (32 * n2)
      sendOut l 1 bs (nvmRead l (ringAddr 0) (32 * n2) (nvmRead l (ringAddr i) (32 * n) m))) m

/-- MLOG_READ: raw slots of the metrology log in index order (R464). -/
def mlogReadBody (l : LaneId) (desc : HostDesc) (st : Store) (m : Module) : Module :=
  startDesc l 1 2 [1] desc (fun m =>
    if desc.len % 32 ≠ 0 ∨ 32 * desc.param + desc.len > 0x20000 then ringDone l 1 1 0 [] m
    else
      let a := mlogBase + 32 * desc.param
      sendOut l 1 (Memory.reads (st.mram l) a desc.len) (nvmRead l a desc.len m)) m

/-- A warm-start set as a ring-2 buffer carries it (R76); none where the layout does not hold. -/
def parseWarm (bs : Bytes) : Option WarmSet :=
  let n := leAt bs 8 4
  let fl := leAt bs 12 4
  if n = 0 ∨ n > 131072 ∨ fl > 1 ∨ !allZero (slice bs 16 16) ∨ bs.length < 32 + (8 + 4 * fl) * n then none
  else some {
    fingerprint := leAt bs 0 8, n := n, mapPresent := fl = 1
    x := (List.range n).map fun i => BitVec.ofNat 64 (leAt bs (32 + 8 * i) 8)
    map := if fl = 1 then (List.range n).map fun i => leAt bs (32 + 8 * n + 4 * i) 4 else [] }

/-- WARM_IN: a warm-start set for a template, kept until the descriptor completes. One that breaks R78 or is too large is
refused INVALID; it stays the set received last, so that a job that names it carries WARM_REJECTED (R78, R118, R464, R467;
assumption 50). -/
def warmInBody (l : LaneId) (desc : HostDesc) (_ : Store) (m : Module) : Module :=
  startDesc l 2 1 [2] desc (fun m =>
    let i := desc.param % 65536
    match (m.lane l).conf.tmpl i with
    | none => ringDone l 2 1 0 [] m
    | some t =>
      match parseWarm (fitTo desc.len desc.data) with
      | none => ringDone l 2 8 0 [] m
      | some w =>
        if w.broken t || decide (w.n > t.warmNMax) then
          ringDone l 2 8 0 [] (updHst l (fun h => { h with warmPend := some (i, w) }) m)
        else ringDone l 2 0 desc.len [] (updHst l (fun h => { h with warmPend := some (i, w) }) m)) m

/-- Bytes of a committed result (R109). -/
def SlvResult.bytes (r : SlvResult) : Bytes :=
  let vec (x : List F64) : Bytes := x.flatMap fun a => leBytes 8 a.toNat
  let one (b : BatchRec) : Bytes :=
    leBytes 1 b.status ++ leBytes 1 b.flags ++ leBytes 2 0 ++ leBytes 4 b.iterations ++ leBytes 8 b.rho.toNat
  leBytes 2 r.requested ++ leBytes 2 r.template ++ leBytes 1 r.status ++ leBytes 1 r.flags ++ leBytes 2 0 ++
    leBytes 4 r.jobSeq ++ leBytes 4 r.iterations ++ leBytes 8 r.rho.toNat ++ leBytes 8 r.releaseUs ++
    leBytes 8 r.commitUs ++ leBytes 8 r.fingerprint ++ leBytes 4 r.n ++ leBytes 4 r.pivotCount ++
    leBytes 4 r.pivotFirst ++ leBytes 2 r.candChecks ++ leBytes 2 0 ++
    (r.batch.flatMap one) ++ (if r.batch.isEmpty then vec r.x else r.batch.flatMap fun b => vec b.x) ++
    ((r.map.getD []).flatMap fun i => leBytes 4 i)

/-- RESULT_OUT: the last committed result of a template (R109, R464, R470). -/
def resultOutBody (l : LaneId) (desc : HostDesc) (_ : Store) (m : Module) : Module :=
  startDesc l 2 2 [1] desc (fun m =>
    let i := desc.param % 65536
    match (m.lane l).conf.tmpl i with
    | none => ringDone l 2 1 0 [] m
    | some _ =>
      match (at? (m.lane l).slv.tpls (i - 1) {}).result with
      | none => ringDone l 2 6 0 [] m
      | some r => if desc.len < r.bytes.length then ringDone l 2 1 0 [] m else sendOut l 2 r.bytes m) m

/-- READOUT_DESCRIPTOR: a buffer for a read-out record, which it takes at once where one waits (R267, R464). -/
def readoutDescriptorBody (l : LaneId) (desc : HostDesc) (_ : Store) (m : Module) : Module :=
  startDesc l 3 1 [2] desc (fun m =>
    if desc.len < m.readoutSize then ringDone l 3 1 0 [] m else readoutGive l m) m

/-- TABLE: time base, number of entries, and the metering entries without header or MAC (R464). -/
def tableOutBody (l : LaneId) (desc : HostDesc) (_ : Store) (m : Module) : Module :=
  startDesc l 3 2 [1] desc (fun m =>
    let bs := leBytes 8 m.us ++ leBytes 4 (48 * m.variant.nFd) ++ leBytes 4 0 ++ (readoutBytes m l).drop 128
    if desc.len < bs.length then ringDone l 3 1 0 [] m else sendOut l 3 bs m) m

/-- INSTANCE_READ: the frame area captured at the first common task boundary from now on, the part of an executing task
at its publish (R287, R464); MODE in BLANK. Without a running program the area is captured as it stands. -/
def instanceReadBody (l : LaneId) (desc : HostDesc) (_ : Store) (m : Module) : Module :=
  startDesc l 4 1 [] desc (fun m =>
    let L := m.lane l
    let size := (L.conf.program.map (·.instBytes)).getD 0
    if L.sys.mode == .blank then ringDone l 4 7 0 [] m
    else if desc.param + desc.len > size then ringDone l 4 1 0 [] m
    else if !L.prg.running then instEnd l L.prg.frames m
    else
      let m := clockTo (max L.prg.t0 (m.gridFrom L.prg.t0 (L.conf.commonUs * 1000) 0)) m
      let busy := (List.range 4).filter fun t => (L.task t).executing
      if busy.isEmpty then instEnd l L.prg.frames m
      else updHst l (fun h => { h with instCap := some (busy, L.prg.frames) }) m) m

/-- CAPTURE: a buffer for capture entries (R327, R464). -/
def captureBody (l : LaneId) (desc : HostDesc) (_ : Store) (m : Module) : Module :=
  startDesc l 5 1 [] desc (fun m => if desc.len % 96 ≠ 0 then ringDone l 5 1 0 [] m else m) m

/-- CAPTURE_BUFFER_TIMEOUT: 1 ms after its first entry a buffer ends SHORT (R464). -/
def captureBufferTimeoutBody (l : LaneId) (_ : Store) (m : Module) : Module :=
  let g := (m.lane l).ring 5
  match g.cur, g.ending, g.firstAt with
  | some _, none, some t => ringDone l 5 9 g.outData.length g.outData (clockTo (t + 1000000) m)
  | _, _, _ => m

/-- TELEMETRY: a buffer for one telemetry frame (R464). -/
def telemetryBody (l : LaneId) (desc : HostDesc) (_ : Store) (m : Module) : Module :=
  startDesc l 6 1 [] desc (fun m => if desc.len < 64 then ringDone l 6 1 0 [] m else m) m

/-- A telemetry frame (R464): `SYS_MODE`, `SYS_STATUS`, `RED_LANE_STATE`, `RED_CLAIM`, `PWR_IN`, `PWR_POWER`, `PWR_GOV`,
`SLV_DIE_STATE`, `PTP_STATUS`, `EVR_HEAD_SEQ`, `MTR_SAVE_SEQ` and `CFG_STATUS` after the time base and the count. -/
def telemFrame (m : Module) (l : LaneId) : Bytes :=
  leBytes 8 m.us ++ leBytes 4 (m.lane l).hst.telemCount ++
    ([0x10, 0x18, 0xA0004, 0xA0000, 0x20020, 0x20024, 0x20030, 0x40010, 0xC0010, 0xE0004, 0x90108, 0x10004].flatMap
      fun a => leBytes 4 (m.regRead l .host a)) ++ leBytes 4 0

/-- TELEMETRY_TICK: every HST_TELEM_MS of the active lane a frame is written, or dropped and counted without a buffer
(R464, R471). -/
def telemetryTickBody (l : LaneId) (_ : Store) (m : Module) : Module :=
  let h := (m.lane l).hst
  if !m.active l then m
  else
    let m := clockTo (h.telemAt + h.telemMs * 1000000) m
    let bs := telemFrame m l
    let m := updHst l (fun h => { h with telemAt := m.now, telemCount := (h.telemCount + 1) % 2 ^ 32 }) m
    let g := (m.lane l).ring 6
    if g.cur.isSome && g.ending.isNone then sendOut l 6 bs m else ringDrop l 6 1 m

/-- TO_FIRMWARE: data of the host handed to firmware, whose matter its content is (R464). -/
def toFirmwareBody (l : LaneId) (desc : HostDesc) (_ : Store) (m : Module) : Module :=
  startDesc l 7 1 [2] desc (fun m => if desc.len > 65536 then ringDone l 7 1 0 [] m else ringDone l 7 0 desc.len [] m) m

/-- FROM_FIRMWARE: data that firmware gives for the host (R464). -/
def fromFirmwareBody (l : LaneId) (desc : HostDesc) (_ : Store) (m : Module) : Module :=
  startDesc l 7 2 [1] desc (fun m =>
    if desc.len > 65536 then ringDone l 7 1 0 [] m else sendOut l 7 (fitTo desc.len desc.data) m) m

/-- Register effects of a transfer, which exist only from its completion (R467): the ring-2 warm-start set, and the end
of a READOUT. -/
def doneEffect (l : LaneId) (r op code : Nat) (m : Module) : Module :=
  let pend := (m.lane l).hst.warmPend
  let m := if r = 2 then updHst l (fun h => { h with warmPend := none }) m else m
  if r = 2 && op = 1 && (code = 0 || code = 8) then
    match pend with
    | none => m
    | some (i, w) =>
      if ((m.lane l).conf.tmpl i).isNone then m
      else m.updLane l fun L => { L with slv := { L.slv with warmIn := putKey L.slv.warmIn i w } }
  else if code ≠ 0 ∨ op ≠ 1 then m
  else if r = 3 then
    raise l 9 4 ((mtrEnd l 2 0 m).updLane l fun L => { L with mtr := { L.mtr with readoutAt := none, readoutRec := none } })
  else m

/-- DESCRIPTOR_COMPLETE: a transfer that is over is written back in the order of R466. -/
def descriptorCompleteBody (l : LaneId) (ring : Nat) (_ : Store) (m : Module) : Module :=
  let g := (m.lane l).ring ring
  match g.cur, g.ending with
  | some d, some e => if m.mayMaster l then ringEnd l ring e.1 e.2 (doneEffect l ring d.op e.1 m) else m
  | _, _ => m

/-- Whether an operation reads its data from the host (R464). -/
def inOp (r op : Nat) : Bool := op == 1 && (r == 0 || r == 2 || r == 7)

/-- PCIE_COMPLETION_TIMEOUT: a host read of the ring fails: its data, or its next descriptor (R457, R463, R468). -/
def pcieCompletionTimeoutBody (l : LaneId) (ring : Nat) (_ : Store) (m : Module) : Module :=
  let g := (m.lane l).ring ring
  if !m.mayMaster l || !(g.state == 1 || g.state == 2) then m
  else match g.cur with
    | some d =>
      if inOp ring d.op && (g.ending.map (·.1)) == some 0 then ringEnd l ring 5 0 (doneEffect l ring d.op 5 m) else m
    | none => if g.state == 1 && g.waiting != 0 then ringError l ring 5 (ringMsg l ring m) else m

/-- MSIX_HOLDOFF_END: the completions coalesced in a ring vector's hold-off send one message at its end (R469). -/
def msixHoldoffEndBody (l : LaneId) (ring : Nat) (_ : Store) (m : Module) : Module :=
  let g := (m.lane l).ring ring
  match (if g.msgWait then g.msgAt else none) with
  | none => m
  | some t =>
    let m := clockTo (t + g.holdoff * 1000) m
    sendMsi l (18 + ring) (updRing l ring (fun g => { g with msgAt := some m.now, msgWait := false }) m)

/-- RUN and HOLDOFF written: 1 starts a stopped ring at CONS; one in ERROR needs a 0 first (R468). -/
def ringRun (l : LaneId) (r : Nat) (value : Word) (m : Module) : Module :=
  updRing l r (fun g =>
    let g := { g with holdoff := fld value 25 16 }
    if g.state = 3 then g else { g with run := true, state := 1 }) m

/-- A streaming or read-out buffer that has taken nothing ends ABORTED as its ring stops (R463). -/
def endWaiting (l : LaneId) (r : Nat) (m : Module) : Module :=
  let g := (m.lane l).ring r
  let stream := r = 3 || r = 5 || r = 6
  if stream && g.cur.isSome && g.ending.isNone && g.firstAt.isNone then ringDone l r 4 0 [] m else m

/-- RUN 0 written: the ring is STOPPED once the descriptor in execution has completed; an ERROR ends (R468, R470). -/
def ringStop (l : LaneId) (r : Nat) (value : Word) (m : Module) : Module :=
  let stopped (g : Ring) : Ring :=
    { g with holdoff := fld value 25 16, run := false, err := if g.state = 3 then 0 else g.err
             state := if g.cur.isSome && (g.state == 1 || g.state == 2) then 2 else 0 }
  endWaiting l r (updRing l r stopped m)

/-- RING_RUN: a write of HST_RING_CTRL with RUN 1 (R468). -/
def ringRunBody (l : LaneId) (v : View) (value : Word) (_ : Store) (m : Module) : Module :=
  guardWrite l v (fun m => if bitOf value 0 then ringRun l (m.sel l v).hstRing value m else m) m

/-- RING_STOP: a write of HST_RING_CTRL with RUN 0 (R470). -/
def ringStopBody (l : LaneId) (v : View) (value : Word) (_ : Store) (m : Module) : Module :=
  guardWrite l v (fun m => if bitOf value 0 then m else ringStop l (m.sel l v).hstRing value m) m

/-- A ring's size written while STOPPED, with both indices set to 0; another value than a power of two from 16 to 4 096
is ignored (R461). -/
def ringSize (l : LaneId) (r : Nat) (value : Word) (m : Module) : Module :=
  let n := fld value 12 0
  if ((m.lane l).ring r).state = 0 ∧ n ∈ [16, 32, 64, 128, 256, 512, 1024, 2048, 4096] then
    updRing l r (fun g => { g with size := n, prod := 0, cons := 0, posts := [] }) m
  else m

/-- HST_RING_SIZE_WRITE (R461). -/
def hstRingSizeWriteBody (l : LaneId) (v : View) (value : Word) (_ : Store) (m : Module) : Module :=
  guardWrite l v (fun m => ringSize l (m.sel l v).hstRing value m) m

/-- Rings of a lane that run, as a bitmap (R471). -/
def Hst.running (h : Hst) : Nat := flags (h.rings.map fun g => g.state == 1 || g.state == 2)

/-- The HST_ registers, the configuration space, and the selects and latches of the BAR0 view reset (R468, R504, R507). -/
def flrReset (l : LaneId) (running : Nat) (m : Module) : Module :=
  let m := m.updLane l fun L => { L with
    selHost := {}
    nvm := { L.nvm with winCorr := upd L.nvm.winCorr 0 fun _ => 0, winUe := upd L.nvm.winUe 0 fun _ => false }
    evr := { L.evr with rdValid := upd L.evr.rdValid 0 fun _ => false, rdEmpty := upd L.evr.rdEmpty 0 fun _ => false }
    hst := { L.hst with rings := List.replicate 8 {}, bme := false, msix := false, fmask := false, vmask := 0xFFFFFFFF
                        vpend := 0, irq := 0, irqEn := 1, telemMs := 100, instCap := none, warmPend := none } }
  report l 17 0x7203 running 0 0 m

/-- FUNCTION_LEVEL_RESET (R468, R471). -/
def functionLevelResetBody (l : LaneId) (_ : Store) (m : Module) : Module :=
  if (m.lane l).hst.linkUp then flrReset l (m.lane l).hst.running m else m

/-- A link-down: every running ring goes to ERROR with nothing written back (R468). -/
def linkDown (l : LaneId) (m : Module) : Module :=
  let m := updHst l (fun h => { h with linkUp := false, instCap := none, warmPend := none }) m
  forEach (List.range 8) (fun r m =>
    let g := (m.lane l).ring r
    if g.state = 1 ∨ g.state = 2 then ringError l r 5 m else m) m

/-- PCIE_LINK_DOWN (R468). -/
def pcieLinkDownBody (l : LaneId) (_ : Store) (m : Module) : Module :=
  if (m.lane l).hst.linkUp then linkDown l m else m

/-- PERST_ASSERT: a link-down and a Function Level Reset together (R492). -/
def perstAssertBody (l : LaneId) (_ : Store) (m : Module) : Module :=
  if (at? (m.lane l).pwr.doms 15 {}).state != .on then m
  else
    let running := (m.lane l).hst.running
    flrReset l running (if (m.lane l).hst.linkUp then linkDown l m else m)

/-- PCIE_LINK_UP: the link of an endpoint that has power reaches L0 (R457, R459). -/
def pcieLinkUpBody (l : LaneId) (speed width : Nat) (_ : Store) (m : Module) : Module :=
  if (at? (m.lane l).pwr.doms 15 {}).state == .on && decide (1 ≤ speed ∧ speed ≤ 3 ∧ 1 ≤ width ∧ width ≤ 2) then
    updHst l (fun h => { h with linkUp := true, speed := speed, width := width }) m
  else m

/-- The pending messages of the vectors that are open now go out (R460, R469). -/
def releaseMsi (l : LaneId) (m : Module) : Module :=
  forEach (List.range 32) (fun v m =>
    let h := (m.lane l).hst
    if bitOf h.vpend v && m.mayMaster l && h.msix && !h.fmask && !bitOf h.vmask v then
      put (.msix l.num v) (updHst l (fun h => { h with vpend := h.vpend &&& ~~~(word (1 <<< v)) }) m)
    else m) m

/-- What names an endpoint in configuration space, by the doubleword's offset: Vendor ID and Device ID at 0, the class
code above the revision at 8 (R457; the offsets and the revision 0 are PCI's own, assumption 52). -/
def Module.configRead (m : Module) (offset : Nat) : Option Word :=
  match offset with
  | 0 => some (word ((m.variant.sysId % 65536) <<< 16 ||| 0x1F7C))
  | 8 => some (word (0x118000 <<< 8))
  | _ => none

/-- PCIE_CONFIG_WRITE: Bus Master Enable, MSI-X enable and the function mask (R459, R460, R468, R469). -/
def pcieConfigWriteBody (l : LaneId) (bme msix fmask : Bool) (_ : Store) (m : Module) : Module :=
  if (m.lane l).hst.linkUp then releaseMsi l (updHst l (fun h => { h with bme := bme, msix := msix, fmask := fmask }) m)
  else m

/-- MSIX_VECTOR_UNMASK: an entry of the MSI-X table unmasked; a message that waits goes out (R458, R469). -/
def msixVectorUnmaskBody (l : LaneId) (vec : Nat) (_ : Store) (m : Module) : Module :=
  if m.bar2 l && decide (vec < 32) then
    releaseMsi l (updHst l (fun h => { h with vmask := h.vmask &&& ~~~(word (1 <<< vec)) }) m)
  else m

/-! ## Meanings of the commands -/

/-- DOORBELL (R461). -/
def execDoorbell (l : LaneId) (ring : Nat) (value : Word) (s : State) : Host.Outcome State Fault Refusal :=
  .next (commit s (doorbellBody l ring value))

/-- SHADOW_WRITE (R464). -/
def execShadowWrite (l : LaneId) (desc : HostDesc) (s : State) : Host.Outcome State Fault Refusal :=
  .next (commit s (shadowWriteBody l desc))

/-- ACTIVE_READ (R464). -/
def execActiveRead (l : LaneId) (desc : HostDesc) (s : State) : Host.Outcome State Fault Refusal :=
  .next (commit s (activeReadBody l desc))

/-- RING_READ (R464). -/
def execRingRead (l : LaneId) (desc : HostDesc) (s : State) : Host.Outcome State Fault Refusal :=
  .next (commit s (ringReadBody l desc))

/-- MLOG_READ (R464). -/
def execMlogRead (l : LaneId) (desc : HostDesc) (s : State) : Host.Outcome State Fault Refusal :=
  .next (commit s (mlogReadBody l desc))

/-- WARM_IN (R464). -/
def execWarmIn (l : LaneId) (desc : HostDesc) (s : State) : Host.Outcome State Fault Refusal :=
  .next (commit s (warmInBody l desc))

/-- RESULT_OUT (R464). -/
def execResultOut (l : LaneId) (desc : HostDesc) (s : State) : Host.Outcome State Fault Refusal :=
  .next (commit s (resultOutBody l desc))

/-- READOUT_DESCRIPTOR (R464). -/
def execReadoutDescriptor (l : LaneId) (desc : HostDesc) (s : State) : Host.Outcome State Fault Refusal :=
  .next (commit s (readoutDescriptorBody l desc))

/-- TABLE (R464). -/
def execTableOut (l : LaneId) (desc : HostDesc) (s : State) : Host.Outcome State Fault Refusal :=
  .next (commit s (tableOutBody l desc))

/-- INSTANCE_READ (R464). -/
def execInstanceRead (l : LaneId) (desc : HostDesc) (s : State) : Host.Outcome State Fault Refusal :=
  .next (commit s (instanceReadBody l desc))

/-- CAPTURE (R464). -/
def execCapture (l : LaneId) (desc : HostDesc) (s : State) : Host.Outcome State Fault Refusal :=
  .next (commit s (captureBody l desc))

/-- CAPTURE_BUFFER_TIMEOUT (R464). -/
def execCaptureBufferTimeout (l : LaneId) (s : State) : Host.Outcome State Fault Refusal :=
  .next (commit s (captureBufferTimeoutBody l))

/-- TELEMETRY (R464). -/
def execTelemetry (l : LaneId) (desc : HostDesc) (s : State) : Host.Outcome State Fault Refusal :=
  .next (commit s (telemetryBody l desc))

/-- TELEMETRY_TICK (R464). -/
def execTelemetryTick (l : LaneId) (s : State) : Host.Outcome State Fault Refusal :=
  .next (commit s (telemetryTickBody l))

/-- TO_FIRMWARE (R464). -/
def execToFirmware (l : LaneId) (desc : HostDesc) (s : State) : Host.Outcome State Fault Refusal :=
  .next (commit s (toFirmwareBody l desc))

/-- FROM_FIRMWARE (R464). -/
def execFromFirmware (l : LaneId) (desc : HostDesc) (s : State) : Host.Outcome State Fault Refusal :=
  .next (commit s (fromFirmwareBody l desc))

/-- DESCRIPTOR_COMPLETE (R466). -/
def execDescriptorComplete (l : LaneId) (ring : Nat) (s : State) : Host.Outcome State Fault Refusal :=
  .next (commit s (descriptorCompleteBody l ring))

/-- PCIE_COMPLETION_TIMEOUT (R463). -/
def execPcieCompletionTimeout (l : LaneId) (ring : Nat) (s : State) : Host.Outcome State Fault Refusal :=
  .next (commit s (pcieCompletionTimeoutBody l ring))

/-- MSIX_HOLDOFF_END (R469). -/
def execMsixHoldoffEnd (l : LaneId) (ring : Nat) (s : State) : Host.Outcome State Fault Refusal :=
  .next (commit s (msixHoldoffEndBody l ring))

/-- RING_RUN (R468). -/
def execRingRun (l : LaneId) (v : View) (value : Word) (s : State) : Host.Outcome State Fault Refusal :=
  .next (commit s (ringRunBody l v value))

/-- RING_STOP (R470). -/
def execRingStop (l : LaneId) (v : View) (value : Word) (s : State) : Host.Outcome State Fault Refusal :=
  .next (commit s (ringStopBody l v value))

/-- HST_RING_SIZE_WRITE (R461). -/
def execHstRingSizeWrite (l : LaneId) (v : View) (value : Word) (s : State) : Host.Outcome State Fault Refusal :=
  .next (commit s (hstRingSizeWriteBody l v value))

/-- FUNCTION_LEVEL_RESET (R468). -/
def execFunctionLevelReset (l : LaneId) (s : State) : Host.Outcome State Fault Refusal :=
  .next (commit s (functionLevelResetBody l))

/-- PCIE_LINK_DOWN (R468). -/
def execPcieLinkDown (l : LaneId) (s : State) : Host.Outcome State Fault Refusal :=
  .next (commit s (pcieLinkDownBody l))

/-- PERST_ASSERT (R492). -/
def execPerstAssert (l : LaneId) (s : State) : Host.Outcome State Fault Refusal :=
  .next (commit s (perstAssertBody l))

/-- PCIE_LINK_UP (R459). -/
def execPcieLinkUp (l : LaneId) (speed : Nat) (width : Nat) (s : State) : Host.Outcome State Fault Refusal :=
  .next (commit s (pcieLinkUpBody l speed width))

/-- PCIE_CONFIG_WRITE (R460). -/
def execPcieConfigWrite (l : LaneId) (bme : Bool) (msix : Bool) (fmask : Bool) (s : State) : Host.Outcome State Fault Refusal :=
  .next (commit s (pcieConfigWriteBody l bme msix fmask))

/-- MSIX_VECTOR_UNMASK (R469). -/
def execMsixVectorUnmask (l : LaneId) (vec : Nat) (s : State) : Host.Outcome State Fault Refusal :=
  .next (commit s (msixVectorUnmaskBody l vec))

end Sys2Proof.Machine
end

