-- ==== Sys2Proof/Machine/Regs.lean ====
section
/-! DEFINITION. The register accesses of the two views of a lane: what a write does at each address of the map, and the
reads that clear or latch (R11 to R14, R459, R501 to R509). A register that has a command of its own acts through that
command's operation whichever command writes or reads it. -/

namespace Sys2Proof.Machine

/-- A register write carried to a field die; an active lane that sees the die under a higher claim is demoted (R282). -/
def dieWrite (l : LaneId) (v : View) (d : Nat) (f : Module → Module) (m : Module) : Module :=
  let met := m.reach l v && decide (d < m.variant.nFd) && m.fdReach l d
  let claim := (m.fd d).claim
  let m := fldWrite l v d f m
  if met then claimSeen l d claim m else m

/-- FLD_CH_FAULT_CLEAR: a write of 1 to cause bits of `FLD_CH_FAULT` of the selected channel (R181, R188). -/
def fldChFaultClearBody (l : LaneId) (v : View) (value : Word) (_ : Store) (m : Module) : Module :=
  let s := m.sel l v
  dieWrite l v s.fldDie (clearFaults s.fldDie s.fldCh (fld value 3 0)) m

/-- MOT_FAULT_CLEAR: a write of 1 to STALL or LIMIT in `MOT_FAULT` of the selected axis (R209). -/
def motFaultClearBody (l : LaneId) (v : View) (value : Word) (_ : Store) (m : Module) : Module :=
  let ch := (m.sel l v).motAxis
  dieWrite l v (ch / 64) (axisAck (ch / 64) (ch % 64) (fld value 1 0) 1) m

/-- LP_FLAGS_PLAUS_CLEAR: a write of `LP_FLAGS` of the selected slot (R228, R188). -/
def lpFlagsPlausClearBody (l : LaneId) (v : View) (value : Word) (_ : Store) (m : Module) : Module :=
  let k := (m.sel l v).lpSlot
  dieWrite l v (k / 64) (lpFlagsWrite (k / 64) (k % 64) value) m

/-- CAN_RECOVER: a write of 1 to `CAN_CTRL.RECOVER` of a port that is bus-off (R324, R188). -/
def canRecoverBody (l : LaneId) (v : View) (value : Word) (_ : Store) (m : Module) : Module :=
  let p := (m.sel l v).canPort
  dieWrite l v (p / 4) (fun m =>
    if bitOf value 0 && (m.canPort (p / 4) (p % 4)).state == 2 then canState (p / 4) (p % 4) 3 m else m) m

/-- CAN_RAW_TX: a write of `CAN_TX_CTRL`; with GO the raw frame is queued under the writer's claim (R326). -/
def canRawTxBody (l : LaneId) (v : View) (value : Word) (_ : Store) (m : Module) : Module :=
  let p := (m.sel l v).canPort
  dieWrite l v (p / 4) (fun m =>
    let m := m.updCan (p / 4) (p % 4) fun c => { c with rawCtrl := value &&& 0x7F }
    if bitOf value 31 then
      if bitOf value 5 && ((m.fd (p / 4)).canCfg (p / 4) (p % 4)).mode == 1 then canDrop (p / 4) (p % 4) 1 0 m
      else canQueue (p / 4) (p % 4) (m.lane l).red.claim [(m.canPort (p / 4) (p % 4)).rawFrame value] m
    else m) m

/-! ### Writes -/

/-- Offsets of a block's IRQ_STATUS and IRQ_ENABLE and the bits they hold, for the blocks of a control die (chs. 04 to
19). -/
def irqPlace : Nat → Option (Nat × Nat × Nat)
  | 0 => some (0x50, 0x54, 0x7)
  | 2 => some (0x40, 0x44, 0x1F)
  | 4 => some (0x04, 0x08, 0x3F)
  | 5 => some (0x90, 0x94, 0x7FF)
  | 7 => some (0x110, 0x114, 0xF)
  | 9 => some (0x130, 0x134, 0x3F)
  | 10 => some (0x30, 0x34, 0x3F)
  | 11 => some (0x110, 0x114, 0x7FFFF)
  | 12 => some (0x80, 0x84, 0x1F)
  | 13 => some (0x100, 0x104, 0x7)
  | 14 => some (0x100, 0x104, 0xF)
  | 15 => some (0x100, 0x104, 0xF)
  | 16 => some (0x100, 0x104, 0x7)
  | 17 => some (0x110, 0x114, 0x7)
  | _ => none

/-- A write of a block's IRQ_STATUS, which clears the bits written 1, or of its IRQ_ENABLE (R14). -/
def irqWrite (l : LaneId) (block off : Nat) (value : Word) (m : Module) : Module :=
  match irqPlace block with
  | none => m
  | some p =>
    if off = p.1 then m.updLane l fun L => L.setIrq block ((L.irqOf block).1 &&& ~~~value)
    else if off = p.2.1 then m.updLane l fun L => L.setIrqEn block (value &&& word p.2.2)
    else m

/-- `SYS_AUTOSTART` written: 1 to 3 alone are taken; the active lane writes both lanes' blocks (ch. 11). -/
def autostartWrite (st : Store) (l : LaneId) (n : Nat) (m : Module) : Module :=
  if n < 1 ∨ n > 3 then m
  else
    let one (k : LaneId) (m : Module) : Module :=
      writeBlock (if k = l then .owner else .peer) st k autoBase autoType (leBytes 4 n) (updSys k (fun s => { s with autostart := n }) m)
    let peer := m.active l && m.variant == .nfj8 && m.laneLink && !(m.lane l.other).sys.failed
    let m := one l m
    if peer then one l.other m else m

/-- Writes of the system block (ch. 11). -/
def sysRegWrite (st : Store) (l : LaneId) (v : View) (off : Nat) (value : Word) (m : Module) : Module :=
  match off with
  | 0x14 => modeRequestBody l v value st m
  | 0x28 => autostartWrite st l (fld value 2 0) m
  | 0x30 => laneResetBody l v value st m
  | 0x40 => writeTest l value m
  | _ => m

/-- Writes of the configuration block (ch. 02). -/
def cfgRegWrite (st : Store) (l : LaneId) (off : Nat) (value : Word) (m : Module) : Module :=
  match off with
  | 0x00 => writeCfgCtrl st l value m
  | 0x04 =>
    updCfg l (fun c => { c with
      cmdRefused := c.cmdRefused && !bitOf value 3, abandonLate := c.abandonLate && !bitOf value 4
      applyLateDie := c.applyLateDie && !bitOf value 5, armCancelled := c.armCancelled && !bitOf value 6
      shadowWriteRejected := c.shadowWriteRejected && !bitOf value 7 }) m
  | 0x10 => updCfg l (fun c => { c with applyAt := value.toNat }) m
  | _ => m

/-- Writes of the power block (ch. 18). -/
def pwrRegWrite (st : Store) (l : LaneId) (v : View) (off : Nat) (value : Word) (m : Module) : Module :=
  match off with
  | 0x00 => pwrDomRequestBody l v value st m
  | 0x04 =>
    let w := (m.sel l v).pwrDom
    if bitOf value 11 then
      updPwr l (fun p => { p with superseded := p.superseded.filter (· != 32 * fld w 2 0 + fld w 12 8) }) m
    else m
  | 0x08 => updPwr l (fun p => { p with retFail := p.retFail &&& ~~~value }) m
  | 0x0C => updPwr l (fun p => { p with retFailT0 := p.retFailT0 &&& ~~~value }) m
  | 0x10 => updPwr l (fun p => { p with retFailT1 := p.retFailT1 &&& ~~~value }) m
  | _ => m

/-- Writes of the clock block (ch. 18). -/
def clkRegWrite (l : LaneId) (off : Nat) (value : Word) (m : Module) : Module :=
  match off with
  | 0x0C => slvWatch (m.updLane l fun L => { L with clk := { L.clk with cap := fld value 10 0 } })
  | 0x10 => m.updLane l fun L => { L with clk := { L.clk with fail := L.clk.fail &&& ~~~value } }
  | _ => m

/-- Writes of the solver block (ch. 04); the part without solver dies ignores them (R33). -/
def slvRegWrite (st : Store) (l : LaneId) (v : View) (off : Nat) (value : Word) (m : Module) : Module :=
  if m.variant.nSd = 0 then m
  else match off with
    | 0x00 => slvAbortBody l v value st m
    | 0x20 => updSel l v (fun s => { s with slvTpl := fld value 6 0 }) m
    | 0x100 => updSel l v (fun s => { s with slvDie := fld value 0 0 }) m
    | 0x124 => if bitOf value 0 then selftestRequestBody l v st m else m
    | _ => if 0x104 ≤ off ∧ off ≤ 0x120 ∧ off % 4 = 0 then sdWrite l v (m.sel l v).slvDie id m else m

/-- Offsets of a window block that its register map defines on the die and that take no write of their own: a write there
reaches the die, which ignores it (R14, R502, R505). -/
def windowOffsets : Nat → List Nat
  | 6 => [0x04, 0x08, 0x0C, 0x10, 0x14, 0x18, 0x1C, 0x20, 0x24, 0x28, 0x2C, 0x30, 0x34, 0x44, 0x48, 0x50, 0x54, 0x58, 0x5C,
      0x74, 0x78]
  | 7 => [0x04, 0x0C, 0x10, 0x14, 0x18, 0x1C, 0x20, 0x24, 0x28, 0x2C]
  | 8 => [0x04, 0x0C, 0x10, 0x14, 0x18, 0x1C, 0x20, 0x24, 0x28]
  | 9 => [0x04, 0x0C, 0x10, 0x14, 0x20, 0x24, 0x28, 0x2C, 0x34, 0x38, 0x40, 0x44, 0x48, 0x4C, 0x50, 0x54, 0x58, 0x60, 0x64,
      0x68]
  | 11 => [0x08, 0x0C, 0x10, 0x14, 0x18, 0x1C, 0x20]
  | _ => []

/-- The two words of a 64-bit value, one of them replaced. -/
def setHalf (high : Bool) (w : Nat) (x : Nat) : Nat := if high then x % 2 ^ 32 + 2 ^ 32 * w else x / 2 ^ 32 * 2 ^ 32 + w

/-- Writes of the program block (ch. 05). -/
def prgRegWrite (st : Store) (l : LaneId) (v : View) (off : Nat) (value : Word) (m : Module) : Module :=
  let k := viewIdx v
  match off with
  | 0x20 => updSel l v (fun s => { s with prgTask := fld value 1 0 }) m
  | 0x60 => updSel l v (fun s => { s with prgForce := fld value 9 0 }) m
  | 0x64 => updPrg l (fun p => { p with forceTarget := value.toNat }) m
  | 0x68 => updPrg l (fun p => { p with forceValue := setHalf false value.toNat p.forceValue }) m
  | 0x6C => updPrg l (fun p => { p with forceValue := setHalf true value.toNat p.forceValue }) m
  | 0x70 =>
    (match fld value 1 0 with
     | 1 => forceSetBody l v st m
     | 2 => forceClearBody l v st m
     | 3 => forceClearAllBody l v st m
     | _ => m)
  | _ => m

/-- Writes of the field channel block: selects stay in the view, the rest is carried to the selected die (ch. 06). -/
def fldRegWrite (st : Store) (l : LaneId) (v : View) (off : Nat) (value : Word) (m : Module) : Module :=
  let d := (m.sel l v).fldDie
  match off with
  | 0x00 => updSel l v (fun s => { s with fldDie := fld value 1 0 }) m
  | 0x40 => updSel l v (fun s => { s with fldCh := fld value 5 0 }) m
  | 0x70 => updSel l v (fun s => { s with fldVs := fld value 2 0 }) m
  | 0x4C => fldChFaultClearBody l v value st m
  | 0x80 => dieWrite l v d (fun m => m.updFd d fun fd => { fd with irq := fd.irq &&& ~~~value }) m
  | 0x84 => dieWrite l v d (fun m => m.updFd d fun fd => { fd with irqEn := value &&& 0x3F }) m
  | _ => if (windowOffsets 6).contains off then dieWrite l v d id m else m

/-- Writes of the motion block (ch. 07). -/
def motRegWrite (st : Store) (l : LaneId) (v : View) (off : Nat) (value : Word) (m : Module) : Module :=
  match off with
  | 0x00 => updSel l v (fun s => { s with motAxis := fld value 7 0 }) m
  | 0x08 => motFaultClearBody l v value st m
  | _ => if (windowOffsets 7).contains off then dieWrite l v ((m.sel l v).motAxis / 64) id m else m

/-- Writes of the loop block (ch. 08). -/
def lpRegWrite (st : Store) (l : LaneId) (v : View) (off : Nat) (value : Word) (m : Module) : Module :=
  let d := (m.sel l v).lpSlot / 64
  match off with
  | 0x00 => updSel l v (fun s => { s with lpSlot := fld value 7 0 }) m
  | 0x08 => lpFlagsPlausClearBody l v value st m
  | 0x100 => dieWrite l v d (fun m => m.updFd d fun fd => { fd with lpIrq := fd.lpIrq &&& ~~~value }) m
  | 0x104 => dieWrite l v d (fun m => m.updFd d fun fd => { fd with lpIrqEn := value &&& 0xF }) m
  | _ => if (windowOffsets 8).contains off then dieWrite l v d id m else m

/-- Writes of the metering block (ch. 09). -/
def mtrRegWrite (st : Store) (l : LaneId) (v : View) (off : Nat) (value : Word) (m : Module) : Module :=
  match off with
  | 0x00 => updSel l v (fun s => { s with mtrPt := value &&& 0x17F }) m
  | 0x08 => updSel l v (fun s => { s with mtrReg := fld value 2 0 }) m
  | 0x30 => updSel l v (fun s => { s with mtrPh := fld value 1 0 }) m
  | 0x110 =>
    (match fld value 1 0 with
     | 1 => readoutBody l v st m
     | 2 => mdResetBody l v st m
     | _ => m)
  | _ =>
    if off % 4 ≠ 0 then m
    else if 0x120 ≤ off ∧ off < 0x130 then
      m.updLane l fun L => { L with mtr := { L.mtr with nonce := putAt (fitTo 16 L.mtr.nonce) (off - 0x120) (leBytes 4 value.toNat) } }
    else if (windowOffsets 9).contains off then dieWrite l v (m.sel l v).point.2.1 id m
    else m

/-- Writes of the redundancy block (ch. 10); the parts with one lane ignore the commands. -/
def redRegWrite (st : Store) (l : LaneId) (v : View) (off : Nat) (value : Word) (m : Module) : Module :=
  if off = 0x20 ∧ m.variant = .nfj8 then
    let m := if bitOf value 0 then switchoverBody l v st m else m
    if bitOf value 1 then takeLaneBody l v st m else m
  else m

/-- Writes of the CAN block (ch. 12); the filters are there on the single-lane parts alone (R339). -/
def canRegWrite (st : Store) (l : LaneId) (v : View) (off : Nat) (value : Word) (m : Module) : Module :=
  let s := m.sel l v
  let d := s.canPort / 4
  let p := s.canPort % 4
  let port (f : CanPort → CanPort) : Module := dieWrite l v d (fun m => m.updCan d p f) m
  let filt (f : CanFilter → CanFilter) : Module := port fun c => { c with filters := upd c.filters s.canFilt f }
  match off with
  | 0x00 => updSel l v (fun s => { s with canPort := fld value 3 0 }) m
  | 0x04 => canRecoverBody l v value st m
  | 0x80 => port fun c => { c with rawId := value &&& 0x1FFFFFFF }
  | 0x84 => canRawTxBody l v value st m
  | 0x100 => updSel l v (fun s => { s with canRec := fld value 11 0 }) m
  | _ =>
    if off % 4 ≠ 0 then m
    else if 0x88 ≤ off ∧ off < 0xC8 then port fun c => { c with rawData := upd c.rawData ((off - 0x88) / 4) fun _ => value }
    else if (windowOffsets 11).contains off then port id
    else if m.variant = .nfj8 then m
    else match off with
      | 0x140 => updSel l v (fun s => { s with canFilt := fld value 4 0 }) m
      | 0x144 => filt fun f => { f with filt := value }
      | 0x148 => filt fun f => { f with mask := value &&& 0x3FFFFFFF }
      | 0x14C => updSel l v (fun s => { s with canFiltBuf := fld value 2 0 }) m
      | _ => m

/-- Writes of the Ethernet and time block (ch. 13). -/
def ptpRegWrite (st : Store) (l : LaneId) (v : View) (off : Nat) (value : Word) (m : Module) : Module :=
  match off with
  | 0x14 =>
    let m := if bitOf value 0 then ptpSwitchBody l v st m else m
    if bitOf value 1 then setRtcBody l v st m else m
  | 0x20 => updSel l v (fun s => { s with ptpDom := fld value 0 0 }) m
  | 0x60 => updSel l v (fun s => { s with ptpPort := fld value 0 0 }) m
  | _ => m

/-- Writes of the store's block; the program registers are there in the firmware view alone (ch. 14). -/
def nvmRegWrite (st : Store) (l : LaneId) (v : View) (off : Nat) (value : Word) (m : Module) : Module :=
  let nvm (f : Nvm → Nvm) : Module := if v == .fw then m.updLane l fun L => { L with nvm := f L.nvm } else m
  match off with
  | 0x20 => updSel l v (fun s => { s with nvmWin := fld value 25 3 * 8 }) m
  | 0x40 => nvm fun n => { n with progAddr := value &&& 0x3FFFFFF }
  | 0x44 => nvmProgramBody l v value st m
  | _ =>
    if 0x80 ≤ off ∧ off < 0xC0 ∧ off % 4 = 0 then nvm fun n => { n with progData := upd n.progData ((off - 0x80) / 4) fun _ => value }
    else m

/-- Writes of the event recorder: each view sets and clears its own freeze bit (ch. 15). -/
def evrRegWrite (st : Store) (l : LaneId) (v : View) (off : Nat) (value : Word) (m : Module) : Module :=
  match off with
  | 0x00 => if bitOf value (viewIdx v) then evrFreezeSetBody l v st m else evrFreezeClearBody l v st m
  | 0x30 => updSel l v (fun s => { s with evrCtrl := value &&& 1 }) m
  | 0x34 => updSel l v (fun s => { s with evrPos := value }) m
  | _ => m

/-- Writes of the time keeper, which its lockout ignores (R412, ch. 16). -/
def rtcRegWrite (st : Store) (l : LaneId) (v : View) (off : Nat) (value : Word) (m : Module) : Module :=
  if (m.lane l).rtc.lockout then m
  else
    let rtc (f : Rtc → Rtc) : Module := updRtc l f m
    match off with
    | 0x20 => rtc fun r => { r with stgSec := fld value 5 0, stgMin := fld value 13 8, stgHour := fld value 20 16 }
    | 0x24 => rtc fun r => { r with stgDay := fld value 4 0, stgMon := fld value 11 8, stgYear := fld value 27 16 }
    | 0x28 => rtcCommitBody l v value st m
    | 0x2C => rtc fun r => { r with errDate := r.errDate && !bitOf value 0, errAlarm := r.errAlarm && !bitOf value 1 }
    | 0x30 => rtc fun r => { r with alarm := r.alarm && !bitOf value 3, pwron := r.pwron && !bitOf value 4 }
    | 0x40 => rtcAlarmWriteBody l v 0x40 value st m
    | 0x44 => rtcAlarmWriteBody l v 0x44 value st m
    | 0x48 => rtc fun r => { r with almCtrl := value &&& 0x1F }
    | 0x50 => rtc fun r => { r with alarmEn := bitOf value 0, wakeEn := bitOf value 1, holdS := max 1 (fld value 15 8) }
    | 0x64 => rtc fun r =>
      let r : Rtc := { r with backupCfg := fld value 4 0 - if fld value 1 0 = 3 then 3 else 0 }
      { r with extSelected := r.extern r.extMv, charging := m.supplyGood && r.charges }
    | _ => irqWrite l 15 off value m

/-- Writes of the key store (ch. 17). -/
def keyRegWrite (st : Store) (l : LaneId) (v : View) (off : Nat) (value : Word) (m : Module) : Module :=
  match off with
  | 0x00 => updSel l v (fun s => { s with keySlot := fld value 5 0 }) m
  | 0x60 =>
    (match fld value 3 0 with
     | 1 => keyImportBody l v value false st m
     | 2 => keyDeriveBody l v value false st m
     | 3 => keyEraseBody l v value st m
     | 4 => keyChallengeBody l v value false st m
     | 5 => keyMacBody l v value false st m
     | 6 => keyVerifyBody l v value false st m
     | _ => m)
  | _ =>
    if 0x200 ≤ off ∧ off < 0x280 ∧ off % 4 = 0 then
      m.updLane l fun L => { L with key := { L.key with buf := upd L.key.buf ((off - 0x200) / 4) fun _ => value } }
    else m

/-- Writes of the host port's block (ch. 19). -/
def hstRegWrite (l : LaneId) (v : View) (off : Nat) (value : Word) (m : Module) : Module :=
  let r := (m.sel l v).hstRing
  let stopped := ((m.lane l).ring r).state == 0
  let base (high : Bool) (w : Nat) : Module := if stopped then updRing l r (fun g => { g with base := setHalf high w g.base }) m else m
  match off with
  | 0x00 => updSel l v (fun s => { s with hstRing := fld value 2 0 }) m
  | 0x04 => if bitOf value 0 then ringRun l r value m else ringStop l r value m
  | 0x08 => base false (value &&& 0xFFFFF000).toNat
  | 0x0C => base true value.toNat
  | 0x10 => ringSize l r value m
  | 0x20 => updRing l r (fun g => { g with wb := setHalf false (value &&& 0xFFFFFFFC).toNat g.wb }) m
  | 0x24 => updRing l r (fun g => { g with wb := setHalf true value.toNat g.wb }) m
  | 0x120 => updHst l (fun h => { h with telemMs := min 1000 (max 1 (fld value 9 0)) }) m
  | _ => m

/-- A whole-word write at an address of the map in a view (R14, R502, R504). -/
def regWrite (st : Store) (l : LaneId) (v : View) (addr : Nat) (value : Word) (m : Module) : Module :=
  let off := addr % 65536
  match addr / 65536 with
  | 0 => irqWrite l 0 off value (sysRegWrite st l v off value m)
  | 1 => cfgRegWrite st l off value m
  | 2 => irqWrite l 2 off value (pwrRegWrite st l v off value m)
  | 3 => clkRegWrite l off value m
  | 4 => if m.variant.nSd = 0 then m else irqWrite l 4 off value (slvRegWrite st l v off value m)
  | 5 => irqWrite l 5 off value (prgRegWrite st l v off value m)
  | 6 => fldRegWrite st l v off value m
  | 7 => irqWrite l 7 off value (motRegWrite st l v off value m)
  | 8 => lpRegWrite st l v off value m
  | 9 => irqWrite l 9 off value (mtrRegWrite st l v off value m)
  | 10 => irqWrite l 10 off value (redRegWrite st l v off value m)
  | 11 => irqWrite l 11 off value (canRegWrite st l v off value m)
  | 12 => irqWrite l 12 off value (ptpRegWrite st l v off value m)
  | 13 => irqWrite l 13 off value (nvmRegWrite st l v off value m)
  | 14 => irqWrite l 14 off value (evrRegWrite st l v off value m)
  | 15 => rtcRegWrite st l v off value m
  | 16 => irqWrite l 16 off value (keyRegWrite st l v off value m)
  | 17 => irqWrite l 17 off value (hstRegWrite l v off value m)
  | _ => m

/-- An access of a view that is not one whole aligned word: of the host counted, of firmware a bus error (R503). -/
def partialWrite (l : LaneId) (v : View) (m : Module) : Module :=
  match v with
  | .host => updSys l (fun s => { s with partialWr := sat 65535 (s.partialWr + 1) }) m
  | .fw => put (.busError l.num) m

/-- REGISTER_WRITE: a write of a view to an address of the map, with its byte enables (R14, R503). -/
def registerWriteBody (l : LaneId) (v : View) (addr : Nat) (value : Word) (be : BitVec 4) (st : Store) (m : Module) : Module :=
  guardWrite l v (fun m => if be = 0xF ∧ addr % 4 = 0 then regWrite st l v addr value m else partialWrite l v m) m

/-! ### Reads with an effect -/

/-- Registers that the host view of a lane that is not active still answers (R459). -/
def spoken (addr : Nat) : Bool :=
  [0x00000, 0x00004, 0x00010, 0x00018, 0x00020, 0x00024, 0xA0000, 0xA0004, 0xA0010, 0xA0014, 0x110100].contains addr

/-- Low words of 64-bit registers, whose read latches the word above (R13). -/
def lowWords : List Nat :=
  [0x10060, 0x10068, 0x40030, 0x40038, 0x50010, 0x50018, 0x50030, 0x50050, 0x50068, 0x60010, 0x60028, 0x90060, 0xC0038,
   0xD0010, 0x110008, 0x110020]

/-- SYS_ACCESS_ERR_READ: the access error counts, which the read clears (R14). -/
def sysAccessErrReadBody (l : LaneId) (v : View) (_ : Store) (m : Module) : Module :=
  guardRead l v (fun m =>
    onBus (word (m.readSys l 0x60)) (updSys l (fun s => { s with partialWr := 0, unreach := 0 }) m)) m

/-- SLV_COLLECT_MAX_READ: the collector's high-water mark of the selected die, which the read clears (R14). -/
def slvCollectMaxReadBody (l : LaneId) (v : View) (_ : Store) (m : Module) : Module :=
  guardRead l v (fun m =>
    let d := (m.sel l v).slvDie
    let w := word (m.regRead l v 0x40120)
    onBus w (if m.sdReach l d then m.updSd d fun s => { s with collectMax := 0 } else m)) m

/-- PRG_TASK_MAX_READ: the longest cycle of the selected task since the last read, which the read clears (R14). -/
def prgTaskMaxReadBody (l : LaneId) (v : View) (_ : Store) (m : Module) : Module :=
  guardRead l v (fun m =>
    onBus (word (m.regRead l v 0x50044)) (updTask l (m.sel l v).prgTask (fun k => { k with maxUs := 0 }) m)) m

/-- MOT_ADMIT_PEAK_READ: the high-water mark of granted slots, which the read clears (R14). -/
def motAdmitPeakReadBody (l : LaneId) (v : View) (_ : Store) (m : Module) : Module :=
  guardRead l v (fun m =>
    onBus (word (m.regRead l v 0x70104)) (m.updLane l fun L => { L with mot := { L.mot with peak := 0 } })) m

/-- MOT_WAIT_MAX_READ: the longest completed admission wait, which the read clears (R14). -/
def motWaitMaxReadBody (l : LaneId) (v : View) (_ : Store) (m : Module) : Module :=
  guardRead l v (fun m =>
    onBus (word (m.regRead l v 0x70108)) (m.updLane l fun L => { L with mot := { L.mot with waitMax := 0 } })) m

/-- PWR_GOV_READ: the governor's state; the read clears MAX (R14). -/
def pwrGovReadBody (l : LaneId) (v : View) (_ : Store) (m : Module) : Module :=
  guardRead l v (fun m => onBus (word (m.pwrGov l)) (updPwr l (fun p => { p with maxStep := 0 }) m)) m

/-- A read of a word of the map in a view: the low word of a 64-bit register latches the high word for the read that follows
(R13, R504); a register whose read has a command of its own acts as that command; any other register answers with its
value. An active lane that reads a claim above its own in `FLD_CLAIM` is demoted (R282). -/
def wordRead (l : LaneId) (v : View) (addr : Nat) (st : Store) (m : Module) : Module :=
  match addr with
  | 0x00060 => sysAccessErrReadBody l v st m
  | 0x20030 => pwrGovReadBody l v st m
  | 0x40120 => slvCollectMaxReadBody l v st m
  | 0x50044 => prgTaskMaxReadBody l v st m
  | 0x70104 => motAdmitPeakReadBody l v st m
  | 0x70108 => motWaitMaxReadBody l v st m
  | 0x9000C => mtrRegLoReadBody l v st m
  | 0xB0108 => canRecErrorsReadBody l v st m
  | 0xB0160 => canFiltBufReadBody l v 0 st m
  | 0xC0000 => ptpTimeNsReadBody l v st m
  | 0xC006C => ptpPortErrorsReadBody l v st m
  | 0xD0024 => nvmWinLoReadBody l v st m
  | 0xE0040 => evrRdDataReadBody l v st m
  | 0xF0000 => rtcSecReadBody l v st m
  | 0xF0018 => rtcYearReadBody l v st m
  | _ =>
    if !m.reach l v then m
    else if m.mute l v && !spoken addr then onBus 0 m
    else
      let x := m.regRead l v addr
      let m' := onBus (word x) m
      if lowWords.contains addr then latchWord l v (addr + 4) (word (x / 2 ^ 32)) m'
      else if addr = 0x60008 then claimSeen l (m.sel l v).fldDie x m'
      else m'

/-- LOW_WORD_READ: a read in a view. One of the host that is not of one aligned word returns the whole word, with its side
effects; one of firmware raises a bus error (R503). -/
def lowWordReadBody (l : LaneId) (v : View) (addr : Nat) (st : Store) (m : Module) : Module :=
  if v = .fw ∧ addr % 4 ≠ 0 then (if m.reach l v then put (.busError l.num) m else m)
  else wordRead l v (addr - addr % 4) st m

/-! ## Meanings of the commands -/

/-- FLD_CH_FAULT_CLEAR (R181). -/
def execFldChFaultClear (l : LaneId) (v : View) (value : Word) (s : State) : Host.Outcome State Fault Refusal :=
  .next (commit s (fldChFaultClearBody l v value))

/-- MOT_FAULT_CLEAR (R209). -/
def execMotFaultClear (l : LaneId) (v : View) (value : Word) (s : State) : Host.Outcome State Fault Refusal :=
  .next (commit s (motFaultClearBody l v value))

/-- LP_FLAGS_PLAUS_CLEAR (R228). -/
def execLpFlagsPlausClear (l : LaneId) (v : View) (value : Word) (s : State) : Host.Outcome State Fault Refusal :=
  .next (commit s (lpFlagsPlausClearBody l v value))

/-- CAN_RECOVER (R324). -/
def execCanRecover (l : LaneId) (v : View) (value : Word) (s : State) : Host.Outcome State Fault Refusal :=
  .next (commit s (canRecoverBody l v value))

/-- CAN_RAW_TX (R326). -/
def execCanRawTx (l : LaneId) (v : View) (value : Word) (s : State) : Host.Outcome State Fault Refusal :=
  .next (commit s (canRawTxBody l v value))

/-- REGISTER_WRITE (R14). -/
def execRegisterWrite (l : LaneId) (v : View) (addr : Nat) (value : Word) (be : BitVec 4) (s : State) : Host.Outcome State Fault Refusal :=
  .next (commit s (registerWriteBody l v addr value be))

/-- SYS_ACCESS_ERR_READ (R14). -/
def execSysAccessErrRead (l : LaneId) (v : View) (s : State) : Host.Outcome State Fault Refusal :=
  .next (commit s (sysAccessErrReadBody l v))

/-- SLV_COLLECT_MAX_READ (R14). -/
def execSlvCollectMaxRead (l : LaneId) (v : View) (s : State) : Host.Outcome State Fault Refusal :=
  .next (commit s (slvCollectMaxReadBody l v))

/-- PRG_TASK_MAX_READ (R14). -/
def execPrgTaskMaxRead (l : LaneId) (v : View) (s : State) : Host.Outcome State Fault Refusal :=
  .next (commit s (prgTaskMaxReadBody l v))

/-- MOT_ADMIT_PEAK_READ (R14). -/
def execMotAdmitPeakRead (l : LaneId) (v : View) (s : State) : Host.Outcome State Fault Refusal :=
  .next (commit s (motAdmitPeakReadBody l v))

/-- MOT_WAIT_MAX_READ (R14). -/
def execMotWaitMaxRead (l : LaneId) (v : View) (s : State) : Host.Outcome State Fault Refusal :=
  .next (commit s (motWaitMaxReadBody l v))

/-- PWR_GOV_READ (R14). -/
def execPwrGovRead (l : LaneId) (v : View) (s : State) : Host.Outcome State Fault Refusal :=
  .next (commit s (pwrGovReadBody l v))

/-- LOW_WORD_READ (R13). -/
def execLowWordRead (l : LaneId) (v : View) (addr : Nat) (s : State) : Host.Outcome State Fault Refusal :=
  .next (commit s (lowWordReadBody l v addr))

end Sys2Proof.Machine
end

