-- ==== Sys2Proof/Machine/Supply.lean ====
section
/-! DEFINITION. The loss of the supply: what stops at once, what becomes of the programs under way, the final save, the
lockout of the time keepers and the switch to the backup cells (R260, R302, R316, R317, R370, R396, R412). -/

namespace Sys2Proof.Machine

/-! ### Programs under way -/

/-- A group left uncorrectable, whose stored bytes are open (R370). -/
def brokenGroup (l : LaneId) (g : Nat) (m : Module) : Module :=
  let m := programRaw l.num (8 * g) (leBytes 8 m.draw.toNat) m.drawn
  m.updLane l fun L => { L with nvm := { L.nvm with ecc := putKey L.nvm.ecc g 3 } }

/-- The first `done` group programs of a page program take their new bytes, in the order in which it visits them, the next
one the bytes or the fault that `outcome` names: 0 old, 1 new, 2 uncorrectable (R366, R370). -/
def tornProgram (l : LaneId) (p : PageProg) (done outcome : Nat) (m : Module) : Module :=
  let visits : List (Nat × List (Nat × BitVec 8)) := (pageParts p.addr p.bytes).flatMap fun q =>
    (groupsOf q.1 q.2.length).map fun g =>
      (g, (q.2.zipIdx.map fun b => (q.1 + b.2, b.1)).filter fun c => c.1 / 8 == g)
  let new := visits.take (if outcome = 1 then done + 1 else done)
  let m := forEach new (fun v m => forEach v.2 (fun c => programRaw l.num c.1 [c.2]) m) m
  let m := m.updLane l fun L => { L with nvm := { L.nvm with ecc := L.nvm.ecc.filter fun e => !(new.map (·.1)).contains e.1 } }
  match visits[done]? with
  | some v => if outcome = 2 then brokenGroup l v.1 m else m
  | none => m

/-- Whether what stands at an address carries the header of R373, whose first page is programmed last (R369). -/
def headed (a : Nat) : Bool :=
  (decide (0x1800000 ≤ a) && decide (a < 0x2400000)) || (decide (0x2620000 ≤ a) && decide (a < 0x2638000)) ||
    (decide (0x2720000 ≤ a) && decide (a < 0x2720200))

/-- The groups of a transfer in the order of its programs: pages ascending, the first page of a record last (R366, R369). -/
def Transfer.order (f : Transfer) : List Nat :=
  let gs := groupsOf f.addr f.old.length
  let first := gs.filter fun g => g / 8 == f.addr / 64
  if headed f.addr then gs.drop first.length ++ first else gs

/-- Groups of a transfer given back what stood in them (R370). -/
def takeBack (l : LaneId) (f : Transfer) (gs : List Nat) (m : Module) : Module :=
  let cells := (f.old.zipIdx.map fun b => (f.addr + b.2, b.1)).filter fun c => gs.contains (c.1 / 8)
  let m := forEach cells (fun c => programRaw l.num c.1 [c.2]) m
  m.updLane l fun L => { L with nvm := { L.nvm with
    ecc := (L.nvm.ecc.filter fun e => !gs.contains e.1) ++ f.ecc.filter fun e => gs.contains e.1 } }

/-- The transfers of a lane's engines at a supply failure that interrupts the one under way after `done` group programs:
that one keeps them, the group in programming is as `outcome` names, and the transfers behind it are not programmed
(R369, R370, R379, R386). -/
def tornTransfers (l : LaneId) (done outcome : Nat) (m : Module) : Module :=
  match (m.lane l).nvm.flight.filter fun f => decide (m.now < f.endAt) with
  | [] => m
  | f :: rest =>
    let m := forEach rest.reverse (fun g => takeBack l g g.order) m
    let m := takeBack l f (f.order.drop (if outcome = 1 then done + 1 else done)) m
    match f.order[done]? with
    | some g => if outcome = 2 then brokenGroup l g m else m
    | none => m

/-- The programs of a lane at a supply failure: the one under way ends whole unless it is torn, the firmware's or, without
one, the engines'; those of the firmware that wait are lost (R370, R372; assumption 16). -/
def tornLane (torn : List (Nat × Nat × Nat)) (l : LaneId) (m : Module) : Module :=
  let cut := torn.find? fun (x : Nat × Nat × Nat) => x.1 == l.num
  let m := match (m.lane l).nvm.busy, cut with
    | none, none => m
    | none, some (_, done, outcome) => tornTransfers l done outcome m
    | some p, some (_, done, outcome) => tornProgram l p done outcome m
    | some p, none => tornProgram l p (p.bytes.length + 2) 0 m
  m.updLane l fun L => { L with nvm := { L.nvm with busy := none, waiting := [], flight := [] } }

/-! ### Supply failure -/

/-- What a lane has under way that ends with the supply: its tasks, host rings, checkpoint and mirror, and a candidate
not yet confirmed (R316). -/
def dropWork (l : LaneId) (m : Module) : Module :=
  let m := dropRings l (programAbort l m)
  m.updLane l fun L =>
    let c := L.cfg
    let gone := c.state == .checking || (c.state == .armed && !c.confirmSent)
    { L with
      red := { L.red with ckpt := none, ckptWait := [], mirrorAt := none, mirrorDone := none, exch := none }
      mtr := { L.mtr with save := none, takeoverWait := none, readoutAt := none }
      cfg := if gone then { c with state := .empty, candidate := none, mirrorWait := false } else c }

/-- A lane at a supply failure. The active lane begins its final save if the supply-fail path is armed and the restore
has come to its end; a final save under way runs on; a lane that starts, restores or takes over stops; a standby takes no
action (R260, R268, R302, R316, R317). -/
def failLane (l : LaneId) (m : Module) : Module :=
  let L := m.lane l
  if L.sys.phase == .saving then m
  else if L.sys.phase == .up && L.red.holds && L.sys.holdupOk && m.restored l then
    let seq := nextSeq L.mtr.saveSeq
    let m := updSys l (fun s => { s with phase := .saving }) (dropWork l m)
    m.updLane l fun L => { L with mtr := { L.mtr with saveSeq := seq, save := some (1, [], m.now) } }
  else if (L.sys.phase == .up && !L.red.holds) || L.sys.phase == .off then m
  else updSys l (fun s => { s with phase := .stopped }) (dropWork l m)

/-- The consumers that a supply failure switches off: solver dies, bridges and sensor supplies (R182, R260, R444). -/
def shed (m : Module) : Module :=
  let m := forEach m.sdList (fun s m => (loseJobs s (domsOff (sdId s) m)).updSd s fun x => { x with powered := false }) m
  let m := forEach m.fdList (fun d m =>
    let m := forEach (List.range 8) (fun g => updDom (fdId d) (9 + g) fun x =>
      { x with state := .off, moving := false, target := .off, pending := none }) m
    m.updFd d fun fd => { fd with supplies := fd.supplies.map fun s => { s with on := false, limit := false } }) m
  refreshAll (slvWatch m)

/-- SUPPLY_FAILURE: the supply on J1 has stayed below 5.6 V for 2 us (R302, R316, R438). -/
def supplyFailureBody (vinMv : Nat) (torn : List (Nat × Nat × Nat)) (_ : Store) (m : Module) : Module :=
  if !m.supplyGood || decide (vinMv ≥ 5600) then m
  else
    let m := { m with supplyGood := false }
    let m := forEach m.laneList (fun l m =>
      failLane l ((if (m.lane l).sys.phase == .saving then id else tornLane torn l) (m.updLane l fun L => { L with pwr := { L.pwr with vIn := vinMv } }))) m
    shed m

/-! ### The final save -/

/-- FINAL_SAVE_MSG: a field die receives SAVE: its block in progress ends with the samples up to then, its set is latched
and sent, and its ADC groups and loop slots stop (R260). -/
def finalSaveMsgBody (l : LaneId) (d : Nat) (meas : FrameMeas) (_ : Store) (m : Module) : Module :=
  match (m.lane l).mtr.save with
  | some (1, recs, t) =>
    if (m.lane l).sys.phase != .saving || !m.fdReach l d || recs.any (·.1 == d) then m
    else
      let m := blockEnd d (sampleDie d meas m)
      let r := accuRecord m l d 1 (m.lane l).mtr.saveSeq
      let m := m.updLane l fun L => { L with mtr := { L.mtr with save := some (1, recs ++ [(d, r)], t) } }
      forEach (List.range 8) (fun g => updDom (fdId d) (1 + g) fun x =>
        { x with state := .off, moving := false, target := .off, pending := none }) m
  | _ => m

/-- A lane that has ended its shutdown: only its always-on domain stays; with the supply good again it starts anew
(R316, R317). -/
def endShutdown (l : LaneId) (m : Module) : Module :=
  let m := domsOff l.num m
  m.updLane l fun L => { L with
    sys := { L.sys with phase := if m.supplyGood then .starting else .stopped, startCause := 1, holdupOk := false }
    red := { L.red with holds := false }
    mtr := { L.mtr with save := none }
    hst := { L.hst with linkUp := false }
    evr := { L.evr with intake := [], held := [] } }

/-- FINAL_SAVE_COMPLETE: the records of every reachable die are written to the active lane's store, with the metrology
records that arose before, and the lane stops (R260, R316, R317, R396). -/
def finalSaveCompleteBody (l : LaneId) (st : Store) (m : Module) : Module :=
  match (m.lane l).mtr.save with
  | some (1, recs, _) =>
    if (m.lane l).sys.phase != .saving || !(m.fdsOf l).all fun d => recs.any (·.1 == d) then m
    else
      let m := saveWrite st l recs m
      let met := (m.lane l).evr.intake.filter fun r => isMetrology r.code
      let m := forEach met (fun r m => mlogWrite (m.cur st) l r m) m
      let m := m.updLane l fun L => { L with mtr := { L.mtr with saveAt := some m.now } }
      let m := endShutdown l m
      if m.supplyGood then beginStart m else m
  | _ => m

/-! ### Decay of the hold-up voltage -/

/-- V_HOLD_LOCKOUT: the hold-up voltage has stayed below 4.5 V for 2 us: the time keepers are isolated from both views
and every freeze ends (R412). -/
def vHoldLockoutBody (vHoldMv : Nat) (_ : Store) (m : Module) : Module :=
  if vHoldMv ≥ 4500 then m
  else forEach m.laneList (fun l m => m.updLane l fun L => { L with
    rtc := { L.rtc with lockout := true, shadow := [none, none] }
    sys := { L.sys with holdupOk := false }, pwr := { L.pwr with vHold := vHoldMv } }) m

/-- Every regulator of both islands has stopped: nothing but the always-on domains is left (R439). -/
def regulatorsStop (m : Module) : Module :=
  let m := forEach m.fdList (fun d m => (domsOff (fdId d) m).updFd d fun fd => { fd with powered := false }) (shed m)
  let m := forEach m.laneList (fun k m => (domsOff k.num m).updLane k fun L => { L with
    sys := { L.sys with phase := if L.sys.failed then L.sys.phase else .off, holdupOk := false }
    red := { L.red with holds := false, wireArmed := false, patArmed := false }
    mtr := { L.mtr with save := none }
    hst := { L.hst with linkUp := false }
    ptp := { L.ptp with ports := L.ptp.ports.map fun p => { p with up := false } }
    evr := { L.evr with intake := [], held := [] }
    nvm := { L.nvm with busy := none, waiting := [], flight := [] } }) m
  refreshAll { m with mail := [], laneLinks := [false, false] }

/-- SWITCH_TO_BACKUP: the hold-up voltage has stayed below 3.3 V for 2 us: a lane's always-on domain runs from its
backup source; the regulators of the package have stopped at 3.4 V already (R410, R412, R439). -/
def switchToBackupBody (l : LaneId) (extMv : Nat) (_ : Store) (m : Module) : Module :=
  let r := (m.lane l).rtc
  if m.supplyGood || !r.alive || r.onBackup then m
  else
    updRtc l (fun r => { r with
      onBackup := true, charging := false, extSelected := r.extern extMv, extMv := extMv % 65536
      lockout := true, shadow := [none, none] }) (regulatorsStop m)

/-! ## Meanings of the commands -/

/-- SUPPLY_FAILURE (R316). -/
def execSupplyFailure (vinMv : Nat) (torn : List (Nat × Nat × Nat)) (s : State) : Host.Outcome State Fault Refusal :=
  .next (commit s (supplyFailureBody vinMv torn))

/-- FINAL_SAVE_MSG (R260). -/
def execFinalSaveMsg (l : LaneId) (d : Nat) (meas : FrameMeas) (s : State) : Host.Outcome State Fault Refusal :=
  .next (commit s (finalSaveMsgBody l d meas))

/-- FINAL_SAVE_COMPLETE (R260). -/
def execFinalSaveComplete (l : LaneId) (s : State) : Host.Outcome State Fault Refusal :=
  .next (commit s (finalSaveCompleteBody l))

/-- V_HOLD_LOCKOUT (R412). -/
def execVHoldLockout (vHoldMv : Nat) (s : State) : Host.Outcome State Fault Refusal :=
  .next (commit s (vHoldLockoutBody vHoldMv))

/-- SWITCH_TO_BACKUP (R412). -/
def execSwitchToBackup (l : LaneId) (extMv : Nat) (s : State) : Host.Outcome State Fault Refusal :=
  .next (commit s (switchToBackupBody l extMv))

end Sys2Proof.Machine
end

