-- ==== Sys2Proof/Machine/Dispatch.lean ====
section
/-! DEFINITION. Every command's meaning, one arm per constructor. -/

namespace Sys2Proof.Machine

def exec (i : Instr) (s : State) : Host.Outcome State Fault Refusal :=
  match i with
  | .registerWrite l v addr value be => Sys2Proof.Machine.execRegisterWrite l v addr value be s
  | .lowWordRead l v addr => Sys2Proof.Machine.execLowWordRead l v addr s
  | .sysAccessErrRead l v => Sys2Proof.Machine.execSysAccessErrRead l v s
  | .slvCollectMaxRead l v => Sys2Proof.Machine.execSlvCollectMaxRead l v s
  | .prgTaskMaxRead l v => Sys2Proof.Machine.execPrgTaskMaxRead l v s
  | .motAdmitPeakRead l v => Sys2Proof.Machine.execMotAdmitPeakRead l v s
  | .motWaitMaxRead l v => Sys2Proof.Machine.execMotWaitMaxRead l v s
  | .canRecErrorsRead l v => Sys2Proof.Machine.execCanRecErrorsRead l v s
  | .ptpPortErrorsRead l v => Sys2Proof.Machine.execPtpPortErrorsRead l v s
  | .pwrGovRead l v => Sys2Proof.Machine.execPwrGovRead l v s
  | .mtrRegLoRead l v => Sys2Proof.Machine.execMtrRegLoRead l v s
  | .nvmWinLoRead l v => Sys2Proof.Machine.execNvmWinLoRead l v s
  | .evrRdDataRead l v => Sys2Proof.Machine.execEvrRdDataRead l v s
  | .rtcSecRead l v => Sys2Proof.Machine.execRtcSecRead l v s
  | .rtcYearRead l v => Sys2Proof.Machine.execRtcYearRead l v s
  | .rtcFreezeTimeout l v => Sys2Proof.Machine.execRtcFreezeTimeout l v s
  | .ptpTimeNsRead l v => Sys2Proof.Machine.execPtpTimeNsRead l v s
  | .canFiltBufRead l v index => Sys2Proof.Machine.execCanFiltBufRead l v index s
  | .supplyGood vinMv => Sys2Proof.Machine.execSupplyGood vinMv s
  | .holdupOkSet vHoldMv => Sys2Proof.Machine.execHoldupOkSet vHoldMv s
  | .startSwap l => Sys2Proof.Machine.execStartSwap l s
  | .accumulatorRestoreComplete l => Sys2Proof.Machine.execAccumulatorRestoreComplete l s
  | .startTriggerArm l => Sys2Proof.Machine.execStartTriggerArm l s
  | .supplyFailure vinMv torn => Sys2Proof.Machine.execSupplyFailure vinMv torn s
  | .finalSaveMsg l d meas => Sys2Proof.Machine.execFinalSaveMsg l d meas s
  | .finalSaveComplete l => Sys2Proof.Machine.execFinalSaveComplete l s
  | .vHoldLockout vHoldMv => Sys2Proof.Machine.execVHoldLockout vHoldMv s
  | .switchToBackup l extMv => Sys2Proof.Machine.execSwitchToBackup l extMv s
  | .backupSourceLow l => Sys2Proof.Machine.execBackupSourceLow l s
  | .oscillatorStop l => Sys2Proof.Machine.execOscillatorStop l s
  | .cellMeasure l intMv extMv => Sys2Proof.Machine.execCellMeasure l intMv extMv s
  | .operatingTimeTick l => Sys2Proof.Machine.execOperatingTimeTick l s
  | .rtcSecondTick l => Sys2Proof.Machine.execRtcSecondTick l s
  | .pwrOnReqTimeout l => Sys2Proof.Machine.execPwrOnReqTimeout l s
  | .rtcCommit l v value => Sys2Proof.Machine.execRtcCommit l v value s
  | .rtcAlarmWrite l v addr value => Sys2Proof.Machine.execRtcAlarmWrite l v addr value s
  | .lockstepMismatch l cause => Sys2Proof.Machine.execLockstepMismatch l cause s
  | .laneReset l v value => Sys2Proof.Machine.execLaneReset l v value s
  | .laneRestart l => Sys2Proof.Machine.execLaneRestart l s
  | .clockFail die ppm => Sys2Proof.Machine.execClockFail die ppm s
  | .trngHealthFailure l test => Sys2Proof.Machine.execTrngHealthFailure l test s
  | .modeRequest l v value => Sys2Proof.Machine.execModeRequest l v value s
  | .testInjectionStart l v value => Sys2Proof.Machine.execTestInjectionStart l v value s
  | .testInjectionStop l v value => Sys2Proof.Machine.execTestInjectionStop l v value s
  | .shadowWrite l desc => Sys2Proof.Machine.execShadowWrite l desc s
  | .cfgEnable l v => Sys2Proof.Machine.execCfgEnable l v s
  | .consistencyCheckEnd l checkUs => Sys2Proof.Machine.execConsistencyCheckEnd l checkUs s
  | .standbyDigestReport l => Sys2Proof.Machine.execStandbyDigestReport l s
  | .mirrorTimeout l => Sys2Proof.Machine.execMirrorTimeout l s
  | .applyArm l v => Sys2Proof.Machine.execApplyArm l v s
  | .cfgAbandon l v => Sys2Proof.Machine.execCfgAbandon l v s
  | .applyAnnounce l => Sys2Proof.Machine.execApplyAnnounce l s
  | .applyMsg die => Sys2Proof.Machine.execApplyMsg die s
  | .applyAckDeadline l => Sys2Proof.Machine.execApplyAckDeadline l s
  | .cancelMsg die => Sys2Proof.Machine.execCancelMsg die s
  | .applyConfirm l => Sys2Proof.Machine.execApplyConfirm l s
  | .confirmMsg die => Sys2Proof.Machine.execConfirmMsg die s
  | .bankSwap die => Sys2Proof.Machine.execBankSwap die s
  | .applyInstant l => Sys2Proof.Machine.execApplyInstant l s
  | .carryOverEnd l => Sys2Proof.Machine.execCarryOverEnd l s
  | .heartbeatTick l => Sys2Proof.Machine.execHeartbeatTick l s
  | .heartbeatReceived l d => Sys2Proof.Machine.execHeartbeatReceived l d s
  | .vacancy d => Sys2Proof.Machine.execVacancy d s
  | .tSafeExpiry d => Sys2Proof.Machine.execTSafeExpiry d s
  | .safeDriveEnd d ch out => Sys2Proof.Machine.execSafeDriveEnd d ch out s
  | .laneWireLoss l => Sys2Proof.Machine.execLaneWireLoss l s
  | .vacancyPatternWake l => Sys2Proof.Machine.execVacancyPatternWake l s
  | .triggerRearm l => Sys2Proof.Machine.execTriggerRearm l s
  | .takeoverLoadComplete l => Sys2Proof.Machine.execTakeoverLoadComplete l s
  | .claimRequest l d => Sys2Proof.Machine.execClaimRequest l d s
  | .claimRequestRepeat l => Sys2Proof.Machine.execClaimRequestRepeat l s
  | .claimReply l d => Sys2Proof.Machine.execClaimReply l d s
  | .quorumWindowExpiry l => Sys2Proof.Machine.execQuorumWindowExpiry l s
  | .claimRaise l die => Sys2Proof.Machine.execClaimRaise l die s
  | .claimLatchAck l => Sys2Proof.Machine.execClaimLatchAck l s
  | .selfFence l => Sys2Proof.Machine.execSelfFence l s
  | .releaseMsg l d => Sys2Proof.Machine.execReleaseMsg l d s
  | .switchover l v => Sys2Proof.Machine.execSwitchover l v s
  | .switchoverReady l => Sys2Proof.Machine.execSwitchoverReady l s
  | .switchoverReadyTimeout l => Sys2Proof.Machine.execSwitchoverReadyTimeout l s
  | .switchoverRevertTimeout l => Sys2Proof.Machine.execSwitchoverRevertTimeout l s
  | .takeLane l v => Sys2Proof.Machine.execTakeLane l v s
  | .resyncComplete l => Sys2Proof.Machine.execResyncComplete l s
  | .checkpointInstant l => Sys2Proof.Machine.execCheckpointInstant l s
  | .checkpointReceived l => Sys2Proof.Machine.execCheckpointReceived l s
  | .checkpointConfirmed l => Sys2Proof.Machine.execCheckpointConfirmed l s
  | .inputFrameTick d meas => Sys2Proof.Machine.execInputFrameTick d meas s
  | .inputFrameReceived l d => Sys2Proof.Machine.execInputFrameReceived l d s
  | .cycleClockRequest l t => Sys2Proof.Machine.execCycleClockRequest l t s
  | .taskBoundary l t => Sys2Proof.Machine.execTaskBoundary l t s
  | .overrunLimit l t => Sys2Proof.Machine.execOverrunLimit l t s
  | .executionEnd l t result => Sys2Proof.Machine.execExecutionEnd l t result s
  | .watchdog l t => Sys2Proof.Machine.execWatchdog l t s
  | .publishComplete l t => Sys2Proof.Machine.execPublishComplete l t s
  | .outputCommandsReceived l d => Sys2Proof.Machine.execOutputCommandsReceived l d s
  | .commandApply => Sys2Proof.Machine.execCommandApply s
  | .forceSet l v => Sys2Proof.Machine.execForceSet l v s
  | .forceClear l v => Sys2Proof.Machine.execForceClear l v s
  | .forceClearAll l v => Sys2Proof.Machine.execForceClearAll l v s
  | .jobDescriptor l sd => Sys2Proof.Machine.execJobDescriptor l sd s
  | .jobStart sd => Sys2Proof.Machine.execJobStart sd s
  | .payloadReceived l sd => Sys2Proof.Machine.execPayloadReceived l sd s
  | .assemblyEnd sd => Sys2Proof.Machine.execAssemblyEnd sd s
  | .preparationEnd sd => Sys2Proof.Machine.execPreparationEnd sd s
  | .iteration sd => Sys2Proof.Machine.execIteration sd s
  | .verificationEnd sd faulty => Sys2Proof.Machine.execVerificationEnd sd faulty s
  | .batchProblemComplete sd engines => Sys2Proof.Machine.execBatchProblemComplete sd engines s
  | .resultCopyDone l sd => Sys2Proof.Machine.execResultCopyDone l sd s
  | .deadlineExpiry l tmpl => Sys2Proof.Machine.execDeadlineExpiry l tmpl s
  | .slvAbort l v value => Sys2Proof.Machine.execSlvAbort l v value s
  | .slvAbortAll l v => Sys2Proof.Machine.execSlvAbortAll l v s
  | .selftestRequest l v => Sys2Proof.Machine.execSelftestRequest l v s
  | .selfTestEnd sd engine pass => Sys2Proof.Machine.execSelfTestEnd sd engine pass s
  | .solverLinkChange l sd up => Sys2Proof.Machine.execSolverLinkChange l sd up s
  | .fieldLinkChange l d up => Sys2Proof.Machine.execFieldLinkChange l d up s
  | .overcurrentTrip d ch bridge => Sys2Proof.Machine.execOvercurrentTrip d ch bridge s
  | .currentLimitTimeout d ch out => Sys2Proof.Machine.execCurrentLimitTimeout d ch out s
  | .openLoadDetected d ch bridge => Sys2Proof.Machine.execOpenLoadDetected d ch bridge s
  | .thermalShutdown d grp => Sys2Proof.Machine.execThermalShutdown d grp s
  | .thermalWarning d grp temp => Sys2Proof.Machine.execThermalWarning d grp temp s
  | .endOfTravel d ch out => Sys2Proof.Machine.execEndOfTravel d ch out s
  | .directionChangeEnd d ch out => Sys2Proof.Machine.execDirectionChangeEnd d ch out s
  | .railLow d mv => Sys2Proof.Machine.execRailLow d mv s
  | .railRestored d mv => Sys2Proof.Machine.execRailRestored d mv s
  | .sensorSupplyLimit d half ma on => Sys2Proof.Machine.execSensorSupplyLimit d half ma on s
  | .fldChFaultClear l v value => Sys2Proof.Machine.execFldChFaultClear l v value s
  | .profileUpdate d => Sys2Proof.Machine.execProfileUpdate d s
  | .axisStall d ch => Sys2Proof.Machine.execAxisStall d ch s
  | .holdTimeExpiry d ch => Sys2Proof.Machine.execHoldTimeExpiry d ch s
  | .moveAbs d ch => Sys2Proof.Machine.execMoveAbs d ch s
  | .moveRel d ch => Sys2Proof.Machine.execMoveRel d ch s
  | .replaceAbs d ch => Sys2Proof.Machine.execReplaceAbs d ch s
  | .axisStop d ch => Sys2Proof.Machine.execAxisStop d ch s
  | .setRamps d ch => Sys2Proof.Machine.execSetRamps d ch s
  | .setPosition d ch => Sys2Proof.Machine.execSetPosition d ch s
  | .ackFault d ch => Sys2Proof.Machine.execAckFault d ch s
  | .motFaultClear l v value => Sys2Proof.Machine.execMotFaultClear l v value s
  | .admissionRound l => Sys2Proof.Machine.execAdmissionRound l s
  | .admissionGrant d => Sys2Proof.Machine.execAdmissionGrant d s
  | .loopSample d slot x amb => Sys2Proof.Machine.execLoopSample d slot x amb s
  | .loopPlaus d slot => Sys2Proof.Machine.execLoopPlaus d slot s
  | .loopSet d slot => Sys2Proof.Machine.execLoopSet d slot s
  | .loopDisable d slot => Sys2Proof.Machine.execLoopDisable d slot s
  | .resetPlaus d slot => Sys2Proof.Machine.execResetPlaus d slot s
  | .lpFlagsPlausClear l v value => Sys2Proof.Machine.execLpFlagsPlausClear l v value s
  | .meteringBlockEnd d meas => Sys2Proof.Machine.execMeteringBlockEnd d meas s
  | .settlingEnd d mp => Sys2Proof.Machine.execSettlingEnd d mp s
  | .flowPulse d hp reverse => Sys2Proof.Machine.execFlowPulse d hp reverse s
  | .demandBoundary d => Sys2Proof.Machine.execDemandBoundary d s
  | .pulseStart d point slot => Sys2Proof.Machine.execPulseStart d point slot s
  | .pulseEnd d point slot => Sys2Proof.Machine.execPulseEnd d point slot s
  | .periodicSave l => Sys2Proof.Machine.execPeriodicSave l s
  | .saveRecordsWritten l => Sys2Proof.Machine.execSaveRecordsWritten l s
  | .readout l v => Sys2Proof.Machine.execReadout l v s
  | .readoutLatch l => Sys2Proof.Machine.execReadoutLatch l s
  | .readoutRingTimeout l => Sys2Proof.Machine.execReadoutRingTimeout l s
  | .mdReset l v => Sys2Proof.Machine.execMdReset l v s
  | .canFrameReceived d port frame => Sys2Proof.Machine.execCanFrameReceived d port frame s
  | .canFrameTransmitted d port => Sys2Proof.Machine.execCanFrameTransmitted d port s
  | .canFrameError d port err => Sys2Proof.Machine.execCanFrameError d port err s
  | .busOffRecoveryComplete d port => Sys2Proof.Machine.execBusOffRecoveryComplete d port s
  | .canRecover l v value => Sys2Proof.Machine.execCanRecover l v value s
  | .canRawTx l v value => Sys2Proof.Machine.execCanRawTx l v value s
  | .dominantTimeout d port => Sys2Proof.Machine.execDominantTimeout d port s
  | .captureEntry l d port full => Sys2Proof.Machine.execCaptureEntry l d port full s
  | .recordAssemblyTimeout l rec => Sys2Proof.Machine.execRecordAssemblyTimeout l rec s
  | .udpRecordDatagram l port datagram => Sys2Proof.Machine.execUdpRecordDatagram l port datagram s
  | .ptpSync l port msg => Sys2Proof.Machine.execPtpSync l port msg s
  | .ptpAnnounce l port msg => Sys2Proof.Machine.execPtpAnnounce l port msg s
  | .ptpDelayMessage l port msg => Sys2Proof.Machine.execPtpDelayMessage l port msg s
  | .slotLost l slot => Sys2Proof.Machine.execSlotLost l slot s
  | .slewEnd l => Sys2Proof.Machine.execSlewEnd l s
  | .ptpSwitch l v => Sys2Proof.Machine.execPtpSwitch l v s
  | .setRtc l v => Sys2Proof.Machine.execSetRtc l v s
  | .setRtcCommit l => Sys2Proof.Machine.execSetRtcCommit l s
  | .linkChange l port up gig => Sys2Proof.Machine.execLinkChange l port up gig s
  | .arpRequest l port ip => Sys2Proof.Machine.execArpRequest l port ip s
  | .icmpEchoRequest l port ip => Sys2Proof.Machine.execIcmpEchoRequest l port ip s
  | .foreignFrame l port fcsBad => Sys2Proof.Machine.execForeignFrame l port fcsBad s
  | .nvmProgram l v value => Sys2Proof.Machine.execNvmProgram l v value s
  | .pageProgramComplete l => Sys2Proof.Machine.execPageProgramComplete l s
  | .eventReported l code source p0 p1 p2 => Sys2Proof.Machine.execEventReported l code source p0 p1 p2 s
  | .eventRecordWritten l => Sys2Proof.Machine.execEventRecordWritten l s
  | .bucketRefill l code => Sys2Proof.Machine.execBucketRefill l code s
  | .evrFreezeSet l v => Sys2Proof.Machine.execEvrFreezeSet l v s
  | .evrFreezeClear l v => Sys2Proof.Machine.execEvrFreezeClear l v s
  | .freezeTimeout l bit => Sys2Proof.Machine.execFreezeTimeout l bit s
  | .keyImport l v value => Sys2Proof.Machine.execKeyImport l v value s
  | .keyDerive l v value => Sys2Proof.Machine.execKeyDerive l v value s
  | .keyErase l v value => Sys2Proof.Machine.execKeyErase l v value s
  | .keyChallenge l v value => Sys2Proof.Machine.execKeyChallenge l v value s
  | .keyMac l v value => Sys2Proof.Machine.execKeyMac l v value s
  | .keyVerify l v value => Sys2Proof.Machine.execKeyVerify l v value s
  | .governorTick l vinMv iinMa pinDw vHoldMv limit => Sys2Proof.Machine.execGovernorTick l vinMv iinMa pinDw vHoldMv limit s
  | .governorStepDown l => Sys2Proof.Machine.execGovernorStepDown l s
  | .pwrDomRequest l v value => Sys2Proof.Machine.execPwrDomRequest l v value s
  | .domainTransitionComplete l die domain crcOk canaryOk => Sys2Proof.Machine.execDomainTransitionComplete l die domain crcOk canaryOk s
  | .rxPathOn l peer => Sys2Proof.Machine.execRxPathOn l peer s
  | .rxPathOff l peer => Sys2Proof.Machine.execRxPathOff l peer s
  | .laneUp l peer => Sys2Proof.Machine.execLaneUp l peer s
  | .laneDown l peer => Sys2Proof.Machine.execLaneDown l peer s
  | .laneStart l peer => Sys2Proof.Machine.execLaneStart l peer s
  | .wakeStatusRead l => Sys2Proof.Machine.execWakeStatusRead l s
  | .wakeBusTimeout l => Sys2Proof.Machine.execWakeBusTimeout l s
  | .doorbell l ring value => Sys2Proof.Machine.execDoorbell l ring value s
  | .ringRun l v value => Sys2Proof.Machine.execRingRun l v value s
  | .ringStop l v value => Sys2Proof.Machine.execRingStop l v value s
  | .hstRingSizeWrite l v value => Sys2Proof.Machine.execHstRingSizeWrite l v value s
  | .activeRead l desc => Sys2Proof.Machine.execActiveRead l desc s
  | .ringRead l desc => Sys2Proof.Machine.execRingRead l desc s
  | .mlogRead l desc => Sys2Proof.Machine.execMlogRead l desc s
  | .warmIn l desc => Sys2Proof.Machine.execWarmIn l desc s
  | .resultOut l desc => Sys2Proof.Machine.execResultOut l desc s
  | .readoutDescriptor l desc => Sys2Proof.Machine.execReadoutDescriptor l desc s
  | .tableOut l desc => Sys2Proof.Machine.execTableOut l desc s
  | .instanceRead l desc => Sys2Proof.Machine.execInstanceRead l desc s
  | .capture l desc => Sys2Proof.Machine.execCapture l desc s
  | .captureBufferTimeout l => Sys2Proof.Machine.execCaptureBufferTimeout l s
  | .telemetry l desc => Sys2Proof.Machine.execTelemetry l desc s
  | .telemetryTick l => Sys2Proof.Machine.execTelemetryTick l s
  | .toFirmware l desc => Sys2Proof.Machine.execToFirmware l desc s
  | .fromFirmware l desc => Sys2Proof.Machine.execFromFirmware l desc s
  | .descriptorComplete l ring => Sys2Proof.Machine.execDescriptorComplete l ring s
  | .pcieCompletionTimeout l ring => Sys2Proof.Machine.execPcieCompletionTimeout l ring s
  | .msixHoldoffEnd l ring => Sys2Proof.Machine.execMsixHoldoffEnd l ring s
  | .functionLevelReset l => Sys2Proof.Machine.execFunctionLevelReset l s
  | .perstAssert l => Sys2Proof.Machine.execPerstAssert l s
  | .pcieLinkDown l => Sys2Proof.Machine.execPcieLinkDown l s
  | .laneLinkChange up => Sys2Proof.Machine.execLaneLinkChange up s
  | .islandFailure island controlOnly => Sys2Proof.Machine.execIslandFailure island controlOnly s
  | .encoderEdge d ch a b => Sys2Proof.Machine.execEncoderEdge d ch a b s
  | .canBusIdle d port => Sys2Proof.Machine.execCanBusIdle d port s
  | .ptpFollowUp l port msg => Sys2Proof.Machine.execPtpFollowUp l port msg s
  | .ptpDelayReqReceived l port msg => Sys2Proof.Machine.execPtpDelayReqReceived l port msg s
  | .ptpMessageInterval l port slot kind => Sys2Proof.Machine.execPtpMessageInterval l port slot kind s
  | .ptpManagementGet l port msg => Sys2Proof.Machine.execPtpManagementGet l port msg s
  | .pcieLinkUp l speed width => Sys2Proof.Machine.execPcieLinkUp l speed width s
  | .pcieConfigWrite l bme msix fmask => Sys2Proof.Machine.execPcieConfigWrite l bme msix fmask s
  | .msixVectorUnmask l vec => Sys2Proof.Machine.execMsixVectorUnmask l vec s

end Sys2Proof.Machine
end

