-- ==== Sys2Proof/Safety.lean ====
section
/-! DEFINITION. What a sound state of the block is: both MRAMs and the host's memory in their canonical form, and no
program left over from a command. -/

namespace Sys2Proof.Machine

/-- The stores are in canonical form. -/
def Store.wf (st : Store) : Bool := Memory.wf st.mramA && Memory.wf st.mramB && Memory.wf st.host

/-- A sound state. -/
def State.Inv (s : State) : Prop := s.mem.wf = true

end Sys2Proof.Machine
end

