-- ==== Sys2Proof/Certificates/Slice0/Obligations.lean ====
section
/-! DEFINITION. The statements for the provers. A statement of what a command does says that `exec` answers a next
state and what that state holds, from hypotheses on the state and the operands alone. -/

namespace Sys2Proof.Machine

/-- An access of a view reaches the lane and is not discarded (R459, R509). -/
abbrev Heard (s : State) (l : LaneId) (v : View) : Prop := s.m.reach l v = true ∧ s.m.mute l v = false

/-- A command completes in a next state of which `Q` holds. -/
def Ends (i : Instr) (s : State) (Q : State → Prop) : Prop := ∃ t, exec i s = .next t ∧ Q t

/-- Nothing but one lane, the bus, the contacts and the count of free values differs: every byte of every store, the
queue, the other lane, every die, the messages under way, the supply and the clock stand as they were. -/
def OnlyLane (l : LaneId) (s t : State) : Prop :=
  t.mem = s.mem ∧ t.pending = s.pending ∧ t.m.lane l.other = s.m.lane l.other ∧ t.m.fds = s.m.fds ∧
  t.m.sds = s.m.sds ∧ t.m.mail = s.m.mail ∧ t.m.supplyGood = s.m.supplyGood ∧ t.m.laneLink = s.m.laneLink ∧
  t.m.now = s.m.now

/-- A command completes with exactly this effect: `f` on the module with nothing yet put out, what `f` programs entering
the stores, and the queue as it was. Every part `f` does not name stands as it was. -/
def Does (i : Instr) (s : State) (f : Store → Module → Module) : Prop := exec i s = .next (commit s f)

/-- The stores and the queue stand as they were. -/
def SameStores (s t : State) : Prop := t.mem = s.mem ∧ t.pending = s.pending

end Sys2Proof.Machine

open Sys2Proof Sys2Proof.Machine

/-- Reads that clear what they count: the value read stands on the bus, the counts are 0 after it, nothing else of the
lane differs, and no byte, die or message does (R14). -/
def Obligations.ReadClearsItsCounts : Prop := ∀ (s : State) (l : LaneId) (v : View), Heard s l v →
  Ends (.sysAccessErrRead l v) s (fun t => OnlyLane l s t ∧ t.m.bus = word (s.m.readSys l 0x60) ∧
    t.m.lane l = { s.m.lane l with sys := { (s.m.lane l).sys with partialWr := 0, unreach := 0 } }) ∧
  Ends (.motAdmitPeakRead l v) s (fun t => OnlyLane l s t ∧ t.m.bus = word (s.m.regRead l v 0x70104) ∧
    t.m.lane l = { s.m.lane l with mot := { (s.m.lane l).mot with peak := 0 } }) ∧
  Ends (.motWaitMaxRead l v) s (fun t => OnlyLane l s t ∧ t.m.bus = word (s.m.regRead l v 0x70108) ∧
    t.m.lane l = { s.m.lane l with mot := { (s.m.lane l).mot with waitMax := 0 } }) ∧
  Ends (.pwrGovRead l v) s (fun t => OnlyLane l s t ∧ t.m.bus = word (s.m.pwrGov l) ∧
    t.m.lane l = { s.m.lane l with pwr := { (s.m.lane l).pwr with maxStep := 0 } }) ∧
  Ends (.prgTaskMaxRead l v) s (fun t => OnlyLane l s t ∧ t.m.bus = word (s.m.regRead l v 0x50044) ∧
    t.m.lane l = { s.m.lane l with prg := { (s.m.lane l).prg with
      tasks := upd (s.m.lane l).prg.tasks (s.m.sel l v).prgTask fun k => { k with maxUs := 0 } } }) ∧
  Ends (.ptpPortErrorsRead l v) s (fun t => OnlyLane l s t ∧
    t.m.bus = word ((at? (s.m.lane l).ptp.ports (s.m.sel l v).ptpPort {}).other +
      65536 * (at? (s.m.lane l).ptp.ports (s.m.sel l v).ptpPort {}).fcs) ∧
    t.m.lane l = { s.m.lane l with ptp := { (s.m.lane l).ptp with
      ports := upd (s.m.lane l).ptp.ports (s.m.sel l v).ptpPort fun e => { e with other := 0, fcs := 0 } } }) ∧
  Ends (.canRecErrorsRead l v) s (fun t => OnlyLane l s t ∧
    let e := (s.m.lane l).can.eng (s.m.sel l v).canRec
    t.m.bus = word (e.eCheck + 256 * e.eSeq + 65536 * e.eTimeout + 16777216 * e.eOld) ∧
    (t.m.lane l).can = (s.m.lane l).can.setEng { e with eCheck := 0, eSeq := 0, eTimeout := 0, eOld := 0 }) ∧
  Does (.canRecErrorsRead l v) s (fun _ m =>
      let r := (m.sel l v).canRec
      let e := (m.lane l).can.eng r
      onBus (word (e.eCheck + 256 * e.eSeq + 65536 * e.eTimeout + 16777216 * e.eOld)) (updEng l r
        (fun e => { e with eCheck := 0, eSeq := 0, eTimeout := 0, eOld := 0 }) m)) ∧
  (s.m.sdReach l (s.m.sel l v).slvDie = true →
    Ends (.slvCollectMaxRead l v) s (fun t => SameStores s t ∧ t.m.laneA = s.m.laneA ∧ t.m.laneB = s.m.laneB ∧
      t.m.fds = s.m.fds ∧ t.m.bus = word (s.m.regRead l v 0x40120) ∧
      t.m.sds = upd s.m.sds (s.m.sel l v).slvDie fun d => { d with collectMax := 0 }) ∧
    Does (.slvCollectMaxRead l v) s (fun _ m =>
        onBus (word (m.regRead l v 0x40120)) (m.updSd (m.sel l v).slvDie fun x => { x with collectMax := 0 }))) ∧
  (s.m.sdReach l (s.m.sel l v).slvDie = false → Does (.slvCollectMaxRead l v) s (fun _ m =>
      onBus (word (m.regRead l v 0x40120)) m))

/-- Reads of a low word: it stands on the bus, and the words that belong to it are latched in the same view for the
reads that follow (R13, R249, R371, R388); a program of the group's page is awaited first (R372). No byte of any store
differs. -/
def Obligations.LowWordReadLatchesTheRest : Prop := ∀ (s : State) (l : LaneId) (v : View), Heard s l v →
  (∀ addr, addr ∈ lowWords → Ends (.lowWordRead l v addr) s (fun t => OnlyLane l s t ∧
    t.m.bus = word (s.m.regRead l v addr) ∧
    keyed (t.m.sel l v).latch (addr + 4) 0 = word (s.m.regRead l v addr / 2 ^ 32))) ∧
  (s.m.fdReach l (fld (s.m.sel l v).mtrPt 6 0 / 32) = true → bitOf (s.m.sel l v).mtrPt 8 = false →
    Ends (.mtrRegLoRead l v) s (fun t => OnlyLane l s t ∧
      let i := fld (s.m.sel l v).mtrPt 6 0
      let r := at? (at? (s.m.fd (i / 32)).mps (i % 32) {}).regs (s.m.sel l v).mtrReg {}
      t.m.bus = word r.value ∧ keyed (t.m.sel l v).latch 0x90010 0 = word (r.value / 2 ^ 32) ∧
      keyed (t.m.sel l v).latch 0x90014 0 = word r.roll)) ∧
  Ends (.nvmWinLoRead l v) s (fun t => t.mem = s.mem ∧ t.m.fds = s.m.fds ∧
    let a := (s.m.sel l v).nvmWin
    let bs := Memory.reads (readMram (s.m.lane l).nvm s.mem l a) a 8
    t.m.bus = word (leAt bs 0 4) ∧ keyed (t.m.sel l v).latch 0xD0028 0 = word (leAt bs 4 4)) ∧
  (bitOf (s.m.sel l v).evrCtrl 0 = false → Ends (.evrRdDataRead l v) s (fun t => t.mem = s.mem ∧ t.m.fds = s.m.fds ∧
    let bs := Memory.reads (s.mem.mram l) (ringAddr (s.m.sel l v).evrPos.toNat) 32
    t.m.bus = word (leAt bs 0 4) ∧
    ∀ k, k < 7 → keyed (t.m.sel l v).latch (0xE0044 + 4 * k) 0 = word (leAt bs (4 * k + 4) 4))) ∧
  Ends (.ptpTimeNsRead l v) s (fun t => OnlyLane l s t ∧
    t.m.bus = word ((s.m.modNs l).toNat % 1000000000) ∧
    keyed (t.m.sel l v).latch 0xC0004 0 = word ((s.m.modNs l).toNat / 1000000000) ∧
    keyed (t.m.sel l v).latch 0xC0008 0 = word ((s.m.modNs l).toNat / 1000000000 / 2 ^ 32)) ∧
  (s.m.variant ≠ .nfj8 → s.m.fdReach l ((s.m.sel l v).canPort / 4) = true →
    Ends (.canFiltBufRead l v 0) s (fun t => t.mem = s.mem ∧
      let bs := (at? (s.m.canPort ((s.m.sel l v).canPort / 4) ((s.m.sel l v).canPort % 4)).filters
        (s.m.sel l v).canFiltBuf {}).buf.bytes
      t.m.bus = word (leAt bs 0 4) ∧ keyed (t.m.sel l v).latch 0xB0164 0 = word (leAt bs 4 4))) ∧
  (Does (.mtrRegLoRead l v) s (fun _ m =>
      let w := m.sel l v
      let i := fld w.mtrPt 6 0
      let heat := bitOf w.mtrPt 8
      let d := if heat then i / 16 else i / 32
      let r : MReg := if !m.fdReach l d then {} else
        if heat then at? (at? (m.fd d).hps (i % 16) {}).regs w.mtrReg {} else at? (at? (m.fd d).mps (i % 32) {}).regs w.mtrReg {}
      onBus (word r.value) (latchWord l v 0x90010 (word (r.value / 2 ^ 32)) (latchWord l v 0x90014 (word r.roll) m)))) ∧
  (Does (.nvmWinLoRead l v) s (fun st m =>
      let a := (m.sel l v).nvmWin
      let n := (m.lane l).nvm
      let bs := Memory.reads (readMram n st l a) a 8
      let e := n.readEcc a
      let m := latchWord l v 0xD0028 (word (leAt bs 4 4)) (if e = 0 then m else nvmRead l a 8 m)
      onBus (word (leAt bs 0 4)) (m.updLane l fun L => { L with
        nvm := { L.nvm with
          winCorr := upd L.nvm.winCorr (viewIdx v) fun _ => (if e = 3 then 0 else e)
          winUe := upd L.nvm.winUe (viewIdx v) fun _ => decide (e = 3) } }))) ∧
  (Does (.evrRdDataRead l v) s (fun st m =>
      let w := m.sel l v
      let log := bitOf w.evrCtrl 0
      let k := w.evrPos.toNat
      let out := log && decide (k > 4095)
      let a := if log then mlogBase + 32 * k else ringAddr k
      let bs := if out then List.replicate 32 0 else Memory.reads (st.mram l) a 32
      let ok := !out && evValid (m.lane l).nvm a bs && (log || leAt bs 0 4 == k)
      let m := if out then m else nvmRead l a 32 m
      let m := forEach (List.range 7) (fun j m => latchWord l v (0xE0044 + 4 * j) (word (leAt bs (4 * j + 4) 4)) m) m
      onBus (word (leAt bs 0 4)) (m.updLane l fun L => { L with
        evr := { L.evr with
          rdValid := upd L.evr.rdValid (viewIdx v) fun _ => ok
          rdEmpty := upd L.evr.rdEmpty (viewIdx v) fun _ => !out && allZero bs } }))) ∧
  (Does (.ptpTimeNsRead l v) s (fun _ m =>
      let t := (m.modNs l).toNat
      onBus (word (t % 1000000000)) (latchWord l v 0xC0008 (word (t / 1000000000 / 2 ^ 32)) (latchWord l v 0xC0004
        (word (t / 1000000000)) m)))) ∧
  (∀ k, Does (.canFiltBufRead l v k) s (fun _ m =>
      let w := m.sel l v
      let d := w.canPort / 4
      let p := w.canPort % 4
      let bs := (at? (m.canPort d p).filters w.canFiltBuf {}).buf.bytes
      if m.variant = .nfj8 ∨ m.fdReach l d = false then onBus 0 m
      else if k ≠ 0 then onBus (keyed w.latch (0xB0160 + 4 * k) 0) m
      else onBus (word (leAt bs 0 4)) ((latchEntry l v bs m).updCan d p fun c => { c with
        filters := upd c.filters w.canFiltBuf fun f => { f with full := false } })))

/-- The calendar's shadow: each view has its own; the read of the seconds copies all seven calendar registers into the
view's shadow and returns the copied seconds, a read while it stands answers from it and does not copy again, the read of
the year returns the shadow and ends it, and so does the expiry 1 s after it began; outside a freeze every other calendar
register reads its live value (R405). -/
def Obligations.CalendarReadsFromItsShadow : Prop := ∀ (s : State) (l : LaneId) (v : View),
  (s.m.lane l).rtc.lockout = false →
  (Heard s l v → (s.m.lane l).rtc.frozen v = none →
    Ends (.rtcSecRead l v) s (fun t => OnlyLane l s t ∧ t.m.bus = word (s.m.lane l).rtc.cal.sec ∧
      (t.m.lane l).rtc.cal = (s.m.lane l).rtc.cal ∧
      (t.m.lane l).rtc.shadow = upd (s.m.lane l).rtc.shadow (viewIdx v) fun _ => some ((s.m.lane l).rtc.cal, s.m.now)) ∧
    Does (.rtcSecRead l v) s (fun _ m =>
        onBus (word (m.lane l).rtc.cal.sec) (updRtc l (fun r => { r with
          shadow := upd r.shadow (viewIdx v) fun _ => some (r.cal, m.now) }) m)) ∧
    Ends (.rtcYearRead l v) s (fun t => OnlyLane l s t ∧ t.m.bus = word (s.m.lane l).rtc.cal.year) ∧
    Does (.rtcYearRead l v) s (fun _ m =>
        onBus (word (m.lane l).rtc.cal.year) (updRtc l
          (fun r => { r with shadow := upd r.shadow (viewIdx v) fun _ => none }) m))) ∧
  (∀ c, Heard s l v → (s.m.lane l).rtc.frozen v = some c →
    Ends (.rtcSecRead l v) s (fun t => OnlyLane l s t ∧ t.m.lane l = s.m.lane l ∧ t.m.bus = word c.1.sec) ∧
    Ends (.rtcYearRead l v) s (fun t => OnlyLane l s t ∧ t.m.bus = word c.1.year ∧
      (t.m.lane l).rtc.frozen v = none ∧ ∀ u, u ≠ v → (t.m.lane l).rtc.frozen u = (s.m.lane l).rtc.frozen u) ∧
    Does (.rtcYearRead l v) s (fun _ m =>
        onBus (word c.1.year) (updRtc l (fun r => { r with shadow := upd r.shadow (viewIdx v) fun _ => none }) m))) ∧
  (∀ c, (s.m.lane l).rtc.frozen v = some c →
    Ends (.rtcFreezeTimeout l v) s (fun t => SameStores s t ∧ t.m.now = max s.m.now (c.2 + 1000000000) ∧
      (t.m.lane l).rtc.frozen v = none) ∧
    Does (.rtcFreezeTimeout l v) s (fun _ m =>
        updRtc l (fun r => { r with shadow := upd r.shadow (viewIdx v) fun _ => none }) (clockTo (c.2 + 1000000000) m))) ∧
  (let c := (((s.m.lane l).rtc.frozen v).map (·.1)).getD (s.m.lane l).rtc.cal;
    s.m.regRead l v 0xF0000 = c.sec ∧ s.m.regRead l v 0xF0004 = c.min ∧ s.m.regRead l v 0xF0008 = c.hour ∧
    s.m.regRead l v 0xF000C = c.wday ∧ s.m.regRead l v 0xF0010 = c.day ∧ s.m.regRead l v 0xF0014 = c.mon ∧
    s.m.regRead l v 0xF0018 = c.year)

/-- A write of a view takes effect as a whole aligned word: a W1C status word loses the bits written 1, an enable word
and a select register take what is written; another access is counted for the host, a bus error for firmware, and
changes no register (R14, R503, R504). -/
def Obligations.RegisterWriteTakesWholeWords : Prop := ∀ (s : State) (l : LaneId) (v : View) (value : Word),
  Heard s l v →
  Ends (.registerWrite l v 0xA0030 value 0xF) s (fun t => OnlyLane l s t ∧
    t.m.lane l = { s.m.lane l with red := { (s.m.lane l).red with irq := (s.m.lane l).red.irq &&& ~~~value } }) ∧
  Ends (.registerWrite l v 0xA0034 value 0xF) s (fun t => OnlyLane l s t ∧
    t.m.lane l = { s.m.lane l with red := { (s.m.lane l).red with irqEn := value &&& 0x3F } }) ∧
  Ends (.registerWrite l v 0x60000 value 0xF) s (fun t => OnlyLane l s t ∧
    t.m.sel l v = { s.m.sel l v with fldDie := fld value 1 0 }) ∧
  Ends (.registerWrite l v 0xA0000 value 0xF) s (fun t => OnlyLane l s t ∧ t.m.lane l = s.m.lane l) ∧
  (∀ addr be, ¬ (be = 0xF ∧ addr % 4 = 0) → v = .host → Ends (.registerWrite l v addr value be) s (fun t => OnlyLane l s t ∧
    t.m.lane l = { s.m.lane l with sys := { (s.m.lane l).sys with partialWr := sat 65535 ((s.m.lane l).sys.partialWr + 1) } })) ∧
  (∀ addr be, ¬ (be = 0xF ∧ addr % 4 = 0) → v = .fw → Ends (.registerWrite l v addr value be) s (fun t => OnlyLane l s t ∧
    t.m.lane l = s.m.lane l ∧ t.m.out = [.busError l.num]))

/-- An access that does not reach the lane changes nothing; the host view of a lane beside the active one answers a
read with 0 and discards a write (R459, R509). -/
def Obligations.UnheardAccessChangesNothing : Prop := ∀ (s : State) (l : LaneId) (v : View) (addr : Nat) (value : Word),
  (s.m.reach l v = false → Ends (.registerWrite l v addr value 0xF) s (fun t => OnlyLane l s t ∧ t.m.lane l = s.m.lane l) ∧
    Ends (.lowWordRead l v 0xE0040) s (fun t => OnlyLane l s t ∧ t.m.lane l = s.m.lane l ∧ t.m.bus = s.m.bus)) ∧
  (s.m.reach l v = true → s.m.mute l v = true →
    Ends (.registerWrite l v addr value 0xF) s (fun t => OnlyLane l s t ∧ t.m.lane l = s.m.lane l) ∧
    Ends (.lowWordRead l v 0xE0040) s (fun t => OnlyLane l s t ∧ t.m.lane l = s.m.lane l ∧ t.m.bus = 0))

/-- The supply: at supply good every lane that has not failed begins its start and the instant is kept; once the hold-up
voltage is there while no start waits, the supply-fail path of every such lane is armed; a supply failure puts the
active lane's module into the shutdown; below 4.5 V of hold-up the time keepers are locked out; below 3.3 V a lane goes
over to its backup source, and every regulator has stopped (R302, R303, R411, R412, R415, R439). -/
def Obligations.SupplyEventsAct : Prop := ∀ (s : State),
  (∀ vin, s.m.supplyGood = false → 8000 ≤ vin →
    Ends (.supplyGood vin) s (fun t => t.m.supplyGood = true ∧ t.m.goodAt = s.m.now ∧
      (∀ l, l ∈ s.m.laneList → (t.m.lane l).pwr.vIn = vin % 65536 ∧ (t.m.lane l).rtc.alive = true ∧
        (t.m.lane l).rtc.onBackup = false ∧ (t.m.lane l).rtc.charging = (t.m.lane l).rtc.charges) ∧
      ((∀ l, l ∈ s.m.laneList → (s.m.lane l).sys.phase ≠ .saving) →
        ∀ l, l ∈ s.m.laneList → (s.m.lane l).sys.failed = false →
          (t.m.lane l).sys.phase = .starting ∧ (t.m.lane l).sys.holdupOk = false ∧
          (t.m.lane l).sys.startCause = (if (s.m.lane l).sys.phase = .off then 0 else 1)) ∧
      ((∃ l, l ∈ s.m.laneList ∧ (s.m.lane l).sys.phase = .saving) →
        ∀ l, l ∈ s.m.laneList → (t.m.lane l).sys.phase = (s.m.lane l).sys.phase)) ∧
    Does (.supplyGood vin) s (fun st m =>
        let m : Module := { m with supplyGood := true, goodAt := m.now }
        let m := forEach m.laneList (fun l m => m.updLane l fun L => { L with
          pwr := { L.pwr with vIn := vin % 65536 }, key := { L.key with trngFailed := false } })
          (forEach m.laneList (fun l => aoSupply st l) m)
        if m.laneList.any (fun l => (m.lane l).sys.phase == .saving) then m else beginStart m)) ∧
  (∀ vh, s.m.supplyGood = true → 7500 ≤ vh → s.m.freshLanes = [] →
    Does (.holdupOkSet vh) s fun _ m => armHoldup vh m) ∧
  (∀ vh, s.m.supplyGood = true → 7500 ≤ vh → s.m.freshLanes ≠ [] →
    Does (.holdupOkSet vh) s fun st m => startFresh st m.freshLanes (armHoldup vh m)) ∧
  (∀ vh, s.m.supplyGood = true → 7500 ≤ vh → (∀ l, (s.m.lane l).sys.phase ≠ .starting) →
    Ends (.holdupOkSet vh) s (fun t => ∀ l, l ∈ s.m.laneList → (s.m.lane l).sys.failed = false →
      (t.m.lane l).sys.holdupOk = true ∧ (t.m.lane l).pwr.vHold = vh % 65536 ∧ (t.m.lane l).rtc.lockout = false)) ∧
  (∀ vin torn, s.m.supplyGood = true → vin < 5600 →
    Ends (.supplyFailure vin torn) s (fun t => t.m.supplyGood = false ∧ t.pending = s.pending) ∧
    Does (.supplyFailure vin torn) s fun _ m => shed (forEach m.laneList (fun l m =>
      failLane l ((if (m.lane l).sys.phase = .saving then id else tornLane torn l)
        (m.updLane l fun L => { L with pwr := { L.pwr with vIn := vin } })))
      { m with supplyGood := false })) ∧
  (∀ vh, vh < 4500 → Ends (.vHoldLockout vh) s (fun t => SameStores s t ∧
    ∀ l, l ∈ s.m.laneList → (t.m.lane l).rtc.lockout = true ∧ (t.m.lane l).sys.holdupOk = false ∧
      (t.m.lane l).pwr.vHold = vh) ∧
  Does (.vHoldLockout vh) s (fun _ m =>
      forEach m.laneList (fun l m => m.updLane l fun L => { L with
        rtc := { L.rtc with lockout := true, shadow := [none, none] }, sys := { L.sys with holdupOk := false },
        pwr := { L.pwr with vHold := vh } }) m)) ∧
  (∀ l ext, s.m.supplyGood = false → (s.m.lane l).rtc.alive = true → (s.m.lane l).rtc.onBackup = false →
    Ends (.switchToBackup l ext) s (fun t => (t.m.lane l).rtc.onBackup = true ∧ (t.m.lane l).rtc.lockout = true ∧
      t.m.mail = [] ∧ t.m.laneLinks = [false, false] ∧
      (∀ k, k ∈ s.m.laneList → (t.m.lane k).red.holds = false ∧
        ((s.m.lane k).sys.failed = false → (t.m.lane k).sys.phase = .off)) ∧
      ∀ d, d < s.m.variant.nFd → (t.m.fd d).powered = false) ∧
    Does (.switchToBackup l ext) s (fun _ m =>
        updRtc l (fun r => { r with
          onBackup := true, charging := false, extSelected := r.extern ext, extMv := ext % 65536, lockout := true,
          shadow := [none, none] }) (regulatorsStop m)))

/-- The time keeper: its second tick moves the calendar on; an oscillator stop sets OSF; the cells are measured; a source
that falls too low stops it; a power-on request ends HOLD_S seconds after it began; a commit of a sound staging set
takes it, of another sets ERR_DATE; an alarm register takes a sound value (R403, R407, R408, R413 to R415). -/
def Obligations.TimeKeeperActs : Prop := ∀ (s : State) (l : LaneId) (v : View),
  ((s.m.lane l).rtc.alive = true →
    Ends (.rtcSecondTick l) s (fun t => SameStores s t ∧ (t.m.lane l).rtc.cal = (s.m.lane l).rtc.cal.next ∧
      t.m.now = max s.m.now ((s.m.lane l).rtc.secAt + 1000000000) ∧ (t.m.lane l).rtc.secAt = t.m.now ∧
      ((s.m.lane l).rtc.alarmHit (s.m.lane l).rtc.cal.next = true → (t.m.lane l).rtc.alarm = true) ∧
      ((s.m.lane l).rtc.cal.year = 2399 → (s.m.lane l).rtc.cal.next.year = 2000 →
        (t.m.lane l).rtc.osf = true ∧ (t.m.lane l).rtc.osfCause = 3)) ∧
    Does (.rtcSecondTick l) s (fun _ m =>
        let r := (m.lane l).rtc
        let m := clockTo (r.secAt + 1000000000) m
        let wrap := r.cal.year == 2399 && r.cal.next.year == 2000
        let hit := r.alarmHit r.cal.next
        let undo : TickUndo := {
          osf := r.osf, osfCause := r.osfCause, alarm := r.alarm, pwron := r.pwron, pwrOnAt := r.pwrOnAt,
          irq := r.irq, kept := r.kept }
        let m := updRtc l (fun r => { r with
          cal := r.cal.next, secAt := m.now, undo := if wrap || hit then some undo else none }) m
        let m := if wrap then setOsf l 3 m else m
        let m := if hit then alarm l m else m
        if r.peerSet then peerCalendar l m else m)) ∧
  ((s.m.lane l).rtc.alive = true → Does (.oscillatorStop l) s fun _ m => setOsf l 1 m) ∧
  (∀ i e, (s.m.lane l).rtc.alive = true →
    Ends (.cellMeasure l i e) s (fun t => SameStores s t ∧ (t.m.lane l).rtc.intMv = i % 65536 ∧
      (t.m.lane l).rtc.extMv = e % 65536 ∧ (t.m.lane l).rtc.cellLow = decide (i < 3300)) ∧
    Does (.cellMeasure l i e) s (fun _ m =>
        let low := decide (i < 3300)
        let was := (m.lane l).rtc.cellLow
        let m := clockTo ((m.lane l).rtc.cellAt + 60000000000) m
        let m := updRtc l (fun r => let r : Rtc := { r with
          cellAt := m.now, intMv := i % 65536, extMv := e % 65536, cellLow := low, extSelected := r.extern e }
          { r with charging := m.supplyGood && r.charges }) m
        let said := if low then raise l 15 4 m else m
        if low = was then m else if m.supplyGood then report l 15 0x8206 i (b2n low) 0 said else said)) ∧
  ((s.m.lane l).rtc.onBackup = true → Ends (.backupSourceLow l) s (fun t => OnlyLane l s t ∧
    (t.m.lane l).rtc = { (s.m.lane l).rtc with stopped := true, pwrOnAt := none, shadow := [none, none] }) ∧
  Does (.backupSourceLow l) s (fun _ m =>
      updRtc l (fun r => { r with stopped := true, pwrOnAt := none, shadow := [none, none] }) m)) ∧
  (∀ a b, (s.m.lane l).rtc.pwrOnAt = some (a, b) → Does (.pwrOnReqTimeout l) s fun _ m =>
    releasePower l (clockTo (a + 1000000000 * max 1 (s.m.lane l).rtc.holdS) m)) ∧
  (∀ w, Heard s l v → (s.m.lane l).rtc.lockout = false → bitOf w 0 = true → (s.m.lane l).rtc.stagedOk = false →
    Ends (.rtcCommit l v w) s (fun t => SameStores s t ∧ (t.m.lane l).rtc.errDate = true ∧
      (t.m.lane l).rtc.cal = (s.m.lane l).rtc.cal) ∧
    Does (.rtcCommit l v w) s (fun _ m => rejectDate l (viewIdx v) m)) ∧
  (∀ w, Heard s l v → (s.m.lane l).rtc.lockout = false → bitOf w 0 = true → (s.m.lane l).rtc.stagedOk = true →
    Ends (.rtcCommit l v w) s (fun t => SameStores s t ∧ (t.m.lane l).rtc.cal =
      { sec := (s.m.lane l).rtc.stgSec, min := (s.m.lane l).rtc.stgMin, hour := (s.m.lane l).rtc.stgHour,
        day := (s.m.lane l).rtc.stgDay, mon := (s.m.lane l).rtc.stgMon, year := (s.m.lane l).rtc.stgYear,
        wday := weekday (s.m.lane l).rtc.stgYear (s.m.lane l).rtc.stgMon (s.m.lane l).rtc.stgDay }) ∧
    Does (.rtcCommit l v w) s (fun _ m =>
        let r := (m.lane l).rtc
        report l 15 0x8201 (dateParam r.stgYear r.stgMon r.stgDay) (timeParam r.stgHour r.stgMin r.stgSec) (viewIdx v)
          (setCalendar l r.staged m))) ∧
  (∀ w, Heard s l v → (s.m.lane l).rtc.lockout = false → alarmOk false w = true →
    Ends (.rtcAlarmWrite l v 0x40 w) s (fun t => OnlyLane l s t ∧
      (t.m.lane l).rtc = { (s.m.lane l).rtc with almTime := w &&& 0x001F3F3F }) ∧
    Does (.rtcAlarmWrite l v 0x40 w) s (fun _ m => updRtc l (fun r => { r with almTime := w &&& 0x001F3F3F }) m)) ∧
  (∀ w, Heard s l v → (s.m.lane l).rtc.lockout = false → alarmOk true w = true →
    Ends (.rtcAlarmWrite l v 0x44 w) s (fun t => OnlyLane l s t ∧
      (t.m.lane l).rtc = { (s.m.lane l).rtc with almDate := w &&& 0x0FFF0F1F }) ∧
    Does (.rtcAlarmWrite l v 0x44 w) s (fun _ m => updRtc l (fun r => { r with almDate := w &&& 0x0FFF0F1F }) m)) ∧
  (∀ w, Heard s l v → (s.m.lane l).rtc.lockout = false → alarmOk false w = false →
    Ends (.rtcAlarmWrite l v 0x40 w) s (fun t => OnlyLane l s t ∧
      (t.m.lane l).rtc = { (s.m.lane l).rtc with errAlarm := true }) ∧
    Does (.rtcAlarmWrite l v 0x40 w) s (fun _ m => updRtc l (fun r => { r with errAlarm := true }) m)) ∧
  (∀ w, Heard s l v → (s.m.lane l).rtc.lockout = false → alarmOk true w = false →
    Ends (.rtcAlarmWrite l v 0x44 w) s (fun t => OnlyLane l s t ∧
      (t.m.lane l).rtc = { (s.m.lane l).rtc with errAlarm := true }) ∧
    Does (.rtcAlarmWrite l v 0x44 w) s (fun _ m => updRtc l (fun r => { r with errAlarm := true }) m)) ∧
  (s.m.supplyGood = true → (s.m.lane l).sys.holdupOk = true → (s.m.lane l).sys.failed = false →
    (s.m.lane l).sys.phase ≠ .saving → (s.m.lane l).sys.phase ≠ .stopped →
    Ends (.operatingTimeTick l) s (fun t => t.pending = s.pending ∧
      (t.m.lane l).sys.opsec = sat max32 ((s.m.lane l).sys.opsec + 1) ∧ (t.m.lane l).rtc.opAt = t.m.now) ∧
    Does (.operatingTimeTick l) s (fun st m =>
        let m := clockTo (m.gridFrom m.goodAt 1000000000 (max m.goodAt (m.lane l).rtc.opAt)) m
        counterIncrement st l optmBase optmType optmTally optmCells (m.updLane l fun L => { L with
          sys := { L.sys with opsec := sat max32 (L.sys.opsec + 1) }, rtc := { L.rtc with opAt := m.now } }))) ∧
  (∀ w, Heard s l v → (s.m.lane l).rtc.lockout = true ∨ bitOf w 0 = false → Does (.rtcCommit l v w) s (fun _ m => m)) ∧
  (∀ addr w, Heard s l v → (s.m.lane l).rtc.lockout = true → Does (.rtcAlarmWrite l v addr w) s (fun _ m => m))

/-- Starts and halts: the swap of a start leaves the lane up, LOADED with an image and BLANK without; a lane whose
accumulators are all restored says so, and then the mode of autostart is requested once; lane B's triggers are armed once
lane A's wire has toggled for 100 ms without a gap of 3 ms, or 2 s after supply good; a lockstep mismatch and a keyed reset halt the lane,
which then holds no claim; a restart takes a halted lane up again; a failed generator is told (R303 to R309, R314).
The final save: each reachable field die's record enters the save under way once, and with all of them written the
lane stops and gives up its claim (R260, R316, R317). -/
def Obligations.StartsAndHaltsAct : Prop :=
  (∀ (s : State) (l : LaneId) (v : View),
  ((s.m.lane l).sys.phase = .startSwap → (s.m.lane l).red.holds = true → (s.m.lane l.other).sys.phase ≠ .starting →
    (s.m.lane l).cfg.active = none → (s.m.lane l).cfg.staged = [] →
    Ends (.startSwap l) s (fun t => (t.m.lane l).sys.phase = .up ∧ (t.m.lane l).sys.mode = .blank)) ∧
  ((s.m.lane l).sys.phase = .up → (s.m.lane l).red.holds = true → (s.m.lane l).sys.restored = false →
    (s.m.lane l).sys.mode ≠ .loaded → (∀ d, d < s.m.variant.nFd → (s.m.fd d).restored = true) →
    Ends (.accumulatorRestoreComplete l) s (fun t => (t.m.lane l).sys.restored = true)) ∧
  ((s.m.lane l).sys.phase = .startSwap → (s.m.lane l).red.holds = true →
    Does (.startSwap l) s fun st m => joinPeer st l.other (swapAtStart l
      (clockTo (cdiv ((m.lane l).sys.raisedAt + 5000000) 1000000 * 1000000) m))) ∧
  ((s.m.lane l).sys.phase = .up → (s.m.lane l).red.holds = true → (s.m.lane l).sys.restored = false →
    let done := ((saveStart l 2 (restoreReached s.mem l s.m.fresh)).lane l).sys
    (done.mode ≠ .loaded ∨ done.autoDue = false ∨ done.restored = false →
      Does (.accumulatorRestoreComplete l) s fun st m => saveStart l 2 (restoreReached st l m)) ∧
    (done.mode = .loaded → done.autoDue = true → done.restored = true → Does (.accumulatorRestoreComplete l) s fun st m =>
      autostart l (saveStart l 2 (restoreReached st l m)))) ∧
  (s.m.variant.nLane = 2 → s.m.laneB.sys.failed = false → s.m.laneB.red.holds = false → s.m.laneB.red.patArmed = false →
    s.m.laneB.sys.holdupOk = true →
    Ends (.startTriggerArm .B) s (fun t => OnlyLane .B { s with m := { s.m with now := t.m.now } } t ∧
      t.m.now = max s.m.now (match s.m.laneB.red.wireSince with
        | none => s.m.goodAt + 2000000000
        | some a =>
          let due := max s.m.now (a + 100000000)
          if due < s.m.laneA.red.wireAt + 3000000 then min due (s.m.goodAt + 2000000000) else s.m.goodAt + 2000000000) ∧
      t.m.laneB.red = { s.m.laneB.red with wireArmed := true, patArmed := true }) ∧
    Does (.startTriggerArm .B) s (fun _ m =>
        updRed .B (fun r => { r with wireArmed := true, patArmed := true }) (clockTo m.armInstant m))) ∧
  (Ends (.startTriggerArm .A) s (fun t => SameStores s t ∧ t.m = s.m.fresh.closed)) ∧
  (∀ c, (s.m.lane l).red.holds = true → Does (.lockstepMismatch l c) s fun _ m => haltLane l (min 1 c) m) ∧
  (∀ w, Heard s l v → bitOf w 0 = true → fld w 31 16 = 0x4E52 →
    Does (.laneReset l v w) s fun _ m => haltLane l 3 m) ∧
  (∀ c, (s.m.lane l).red.holds = true → Ends (.lockstepMismatch l c) s (fun t => SameStores s t ∧
    (t.m.lane l).sys.phase = .halted ∧ (t.m.lane l).red.holds = false ∧ t.m.lane l.other = s.m.lane l.other)) ∧
  ((s.m.lane l).sys.phase = .halted →
    let up := ((restartBoot l s.m.fresh).lane l).sys.phase = .starting
    (up → s.m.variant.nLane = 1 → Does (.laneRestart l) s fun st m =>
      startLane ((restartBoot l m).cur st) l (updSys l (fun s => { s with elected := l }) (restartBoot l m))) ∧
    (up → s.m.variant.nLane = 2 → Does (.laneRestart l) s fun st m =>
      rejoin ((restartBoot l m).cur st) l (restartBoot l m)) ∧
    (¬up → Does (.laneRestart l) s fun _ m => restartBoot l m)) ∧
  (∀ n, Ends (.trngHealthFailure l n) s (fun t => SameStores s t ∧ (t.m.lane l).key =
    { (s.m.lane l).key with trngOk := false, trngFailed := true, irq := (s.m.lane l).key.irq ||| 4 }) ∧
  Does (.trngHealthFailure l n) s (fun _ m =>
      report l 16 0x9007 n 0 0 (raise l 16 4 (m.updLane l fun L => { L with
        key := { L.key with trngOk := false, trngFailed := true } }))))) ∧
  (∀ (s : State) (l : LaneId),
  (∀ d x recs at_, (s.m.lane l).mtr.save = some (1, recs, at_) → (s.m.lane l).sys.phase = .saving →
    s.m.fdReach l d = true → recs.any (·.1 == d) = false →
    Ends (.finalSaveMsg l d x) s (fun t => t.pending = s.pending ∧
      ∃ r, (t.m.lane l).mtr.save = some (1, recs ++ [(d, r)], at_)) ∧
    Does (.finalSaveMsg l d x) s (fun _ m =>
        let m := blockEnd d (sampleDie d x m)
        let r := accuRecord m l d 1 (m.lane l).mtr.saveSeq
        let m := m.updLane l fun L => { L with mtr := { L.mtr with save := some (1, recs ++ [(d, r)], at_) } }
        forEach (List.range 8) (fun g => updDom (4 + d) (1 + g) fun x => { x with
          state := .off, moving := false, target := .off, pending := none }) m)) ∧
  (∀ recs at_, (s.m.lane l).mtr.save = some (1, recs, at_) → (s.m.lane l).sys.phase = .saving → s.m.supplyGood = false →
    (∀ d, d ∈ s.m.fdsOf l → recs.any (·.1 == d) = true) →
    Ends (.finalSaveComplete l) s (fun t => t.pending = s.pending ∧ (t.m.lane l).sys.phase = .stopped ∧
      (t.m.lane l).mtr.save = none ∧ (t.m.lane l).red.holds = false ∧ (t.m.lane l).evr.intake = []) ∧
    Does (.finalSaveComplete l) s (fun st m =>
        let m := saveWrite st l recs m
        let met := (m.lane l).evr.intake.filter fun r => isMetrology r.code
        let m := forEach met (fun r m => mlogWrite (m.cur st) l r m) m
        endShutdown l (m.updLane l fun L => { L with mtr := { L.mtr with saveAt := some m.now } })))) ∧
  (∀ (s : State) (l : LaneId) recs at_, (s.m.lane l).mtr.save = some (1, recs, at_) →
    (s.m.lane l).sys.phase = .saving → s.m.supplyGood = true → (∀ d, d ∈ s.m.fdsOf l → recs.any (·.1 == d) = true) →
      Does (.finalSaveComplete l) s (fun st m =>
      let m := saveWrite st l recs m
      let met := (m.lane l).evr.intake.filter fun r => isMetrology r.code
      let m := forEach met (fun r m => mlogWrite (m.cur st) l r m) m
      let m := endShutdown l (m.updLane l fun L => { L with mtr := { L.mtr with saveAt := some m.now } })
      if m.supplyGood then beginStart m else m))

/-- Modes: a request that is judged sound is done, one that is not is refused with its result and leaves the mode; a
test injection starts in COMMISSION alone, and ends (R311, R315). -/
def Obligations.ModeRequestsAct : Prop := ∀ (s : State) (l : LaneId) (v : View) (w : Word), Heard s l v →
  (bitOf w 3 = false ∨ s.m.frozen l = true → Ends (.modeRequest l v w) s (fun t => OnlyLane l s t ∧
    t.m.lane l = { s.m.lane l with sys := { (s.m.lane l).sys with reqTarget := fld w 2 0 } })) ∧
  (bitOf w 3 = true → s.m.frozen l = false → (s.m.lane l).judgeMode (fld w 2 0) = 0 →
    Does (.modeRequest l v w) s fun _ m =>
      let dest := if fld w 2 0 = 3 then (m.lane l).runMode else modeOf (fld w 2 0)
      let m := enterMode l dest 1 (updSys l (fun x => { x with reqTarget := fld w 2 0 }) m)
      raise l 0 2 (updSys l (fun x => { x with reqState := 2, reqResult := 0, reqLast := some (m.now, fld w 2 0) }) m)) ∧
  (bitOf w 3 = true → s.m.frozen l = false → (s.m.lane l).judgeMode (fld w 2 0) ≠ 0 →
    Ends (.modeRequest l v w) s (fun t => SameStores s t ∧ (t.m.lane l).sys.mode = (s.m.lane l).sys.mode ∧
      (t.m.lane l).sys.reqState = 3 ∧ (t.m.lane l).sys.reqResult = (s.m.lane l).judgeMode (fld w 2 0))) ∧
  (bitOf w 3 = true → fld w 2 0 = 2 → (s.m.lane l).sys.mode = .loaded → (s.m.lane l).judgeMode 2 = 0 →
    s.m.frozen l = false → (s.m.lane l).cfg.state ≠ .armed →
    Ends (.modeRequest l v w) s (fun t => SameStores s t ∧ (t.m.lane l).sys.mode = .commission ∧
      (t.m.lane l).sys.prev = Mode.loaded.code ∧ (t.m.lane l).sys.reqState = 2 ∧ (t.m.lane l).sys.reqResult = 0)) ∧
  (bitOf w 31 = true → (s.m.lane l).sys.mode = .commission →
    Ends (.testInjectionStart l v w) s (fun t => SameStores s t ∧ (t.m.lane l).sys.testEnable = true ∧
      (t.m.lane l).sys.testCh = fld w 7 0 ∧ (t.m.lane l).sys.testInput = fld w 8 8 ∧
      (t.m.lane l).sys.testLevel = fld w 11 9)) ∧
  (bitOf w 31 = true → (s.m.lane l).sys.mode ≠ .commission →
    Ends (.testInjectionStart l v w) s (fun t => OnlyLane l s t ∧ t.m.lane l = s.m.lane l)) ∧
  (bitOf w 31 = false → Ends (.testInjectionStop l v w) s (fun t => SameStores s t ∧
    (t.m.lane l).sys.testEnable = false) ∧
  Does (.testInjectionStop l v w) s (fun _ m => writeTest l w m))


/-- Configuration commands: a SHADOW_WRITE puts its bytes in the shadow slot, which is then LOADING, and is rejected
while the image is CHECKING or ARMED; ENABLE starts the check of a LOADING shadow and is refused in any other state;
APPLY_ARM of a PASSED image fixes the apply instant and stages the dies; ABANDON empties the shadow, but not once the
apply instant has come (R35, R36, R47, R48, R58, R464).
The end of a consistency check: a failure refuses the shadow with its reason and the state, stage and mirror are
done; a shadow that passes waits for the standby lane, whose equal digest lets it pass and whose silence for 50 ms lets
it pass unmirrored (R50, R52, R56). A lane that has come to rest meanwhile refuses it (the model's choice, log entry
52). -/
def Obligations.ConfigurationCommandsAct : Prop :=
  (∀ (s : State) (l : LaneId) (v : View),
  (∀ d : HostDesc, s.m.fetches l 0 d.fence = true → d.op = 1 → d.addr % 4 = 0 → d.len % 4 = 0 → 4 ≤ d.len →
    d.len ≤ 4194304 → d.param + d.len ≤ 12582912 → (s.m.lane l).hst.rings.length = 8 →
    (s.m.lane l).cfg.state ∉ [.checking, .armed] → (s.m.lane l).sys.holdupOk = true →
    Ends (.shadowWrite l d) s (fun t =>
      let slot := (s.m.lane l).cfg.shadowSlot
      let w := Memory.writes (s.mem.mram l) (imageBase slot + d.param) (fitTo d.len d.data)
      let stale := fullImage w slot && (Memory.reads w (provBase slot) 1024).any (· != 0)
      t.mem.mram l = (if stale then Memory.writes w (provBase slot) (List.replicate 1024 0) else w) ∧
      t.mem.mram l.other = s.mem.mram l.other ∧ (t.m.lane l).cfg.state = .loading ∧
      ((t.m.lane l).ring 0).ending = some (0, d.len))) ∧
  (∀ d : HostDesc, s.m.fetches l 0 d.fence = true → d.op = 1 → d.addr % 4 = 0 → d.len % 4 = 0 → 4 ≤ d.len →
    d.len ≤ 4194304 → d.param + d.len ≤ 12582912 → (s.m.lane l).hst.rings.length = 8 →
    (s.m.lane l).cfg.state ∈ [.checking, .armed] →
    Ends (.shadowWrite l d) s (fun t => SameStores s t ∧ (t.m.lane l).cfg.shadowWriteRejected = true ∧
      (t.m.lane l).cfg.state = (s.m.lane l).cfg.state ∧ ((t.m.lane l).ring 0).ending = some (3, 0))) ∧
  (Heard s l v → (s.m.lane l).sys.mode ∉ [.standby, .resync] → (s.m.lane l).cfg.state = .loading →
    Ends (.cfgEnable l v) s (fun t => OnlyLane l s t ∧ (t.m.lane l).cfg = { (s.m.lane l).cfg with
      state := .checking, stage := 1, enableAt := s.m.now, mirrorWait := false
      delta := (rawImage (Memory.reads ((s.m.fresh.settled s.mem l).mram l)
        (imageBase (s.m.lane l).cfg.shadowSlot) 256)).kind == 1 })) ∧
  (Heard s l v → (s.m.lane l).sys.mode ∉ [.standby, .resync] → (s.m.lane l).cfg.state ∉ [.loading, .checking] →
    Ends (.cfgEnable l v) s (fun t => OnlyLane l s t ∧
      (t.m.lane l).cfg = { (s.m.lane l).cfg with cmdRefused := true, cmdReason := 0x0B02 })) ∧
  (∀ new at_, Heard s l v → (s.m.lane l).sys.mode ∉ [.standby, .resync] → (s.m.lane l).cfg.state = .passed →
    (s.m.lane l).cfg.candidate = some new → s.m.applyInstant l = some at_ →
    Ends (.applyArm l v) s (fun t => SameStores s t ∧ t.m.mail = s.m.mail ∧ (t.m.lane l).cfg = { (s.m.lane l).cfg with
      state := .armed, armAt := s.m.now, applyInstant := at_, applySent := [], acked := [], confirmSent := false
      staged := (s.m.applyDies l).filter fun k =>
        if k < 2 then true else if k < 4 then s.m.sdReach l (k - 2) else s.m.fdReach l (k - 4) })) ∧
  (Heard s l v → (s.m.lane l).cfg.state = .passed →
    Ends (.cfgAbandon l v) s (fun t => SameStores s t ∧ (t.m.lane l).cfg.state = .empty ∧
      (t.m.lane l).cfg.candidate = none ∧ (t.m.lane l).cfg.shadowDigest = [])) ∧
  (Heard s l v → (s.m.lane l).cfg.state ∈ [.loading, .refused, .checking] ∨
      ((s.m.lane l).cfg.state = .armed ∧ (s.m.lane l).cfg.confirmSent = false ∧
        s.m.now < (s.m.lane l).cfg.applyInstant) →
    Ends (.cfgAbandon l v) s (fun t => SameStores s t ∧ (t.m.lane l).cfg.state = .empty ∧
      (t.m.lane l).cfg.candidate = none ∧ (t.m.lane l).cfg.shadowDigest = [])) ∧
  (Heard s l v → (s.m.lane l).cfg.state = .empty → Ends (.cfgAbandon l v) s (fun t => OnlyLane l s t ∧
    (t.m.lane l).cfg = { (s.m.lane l).cfg with cmdRefused := true, cmdReason := 0x0B02 })) ∧
  (Heard s l v → (s.m.lane l).cfg.state = .armed →
    (s.m.lane l).cfg.confirmSent = true ∨ (s.m.lane l).cfg.applyInstant ≤ s.m.now →
    Ends (.cfgAbandon l v) s (fun t => OnlyLane l s t ∧
      (t.m.lane l).cfg = { (s.m.lane l).cfg with abandonLate := true }))) ∧
  (∀ (s : State) (l : LaneId),
  (∀ us, (s.m.lane l).cfg.state = .checking → (s.m.lane l).cfg.mirrorWait = false →
    (s.m.lane l).sys.mode ∈ [.standby, .resync] → Ends (.consistencyCheckEnd l us) s (fun t => SameStores s t ∧
      (t.m.lane l).cfg.state = .refused ∧ (t.m.lane l).cfg.reason = 0x0B02)) ∧
  (∀ us, (s.m.lane l).cfg.state = .checking → (s.m.lane l).cfg.mirrorWait = false →
    (s.m.lane l).sys.mode ∉ [.standby, .resync] →
    Ends (.consistencyCheckEnd l us) s (fun t =>
      let held := s.m.fresh.settled s.mem l
      let v := consistency (s.m.checkEnv held l) (slotBytes (held.mram l) (s.m.lane l).cfg.shadowSlot)
      (∀ x, v.refusal = some x → SameStores s t ∧ (t.m.lane l).cfg.state = .refused ∧
        (t.m.lane l).cfg.reason = x.code ∧ (t.m.lane l).cfg.reasonSection = x.sect ∧
        (t.m.lane l).cfg.reasonIndex = x.index ∧ (t.m.lane l).cfg.stage = 0 ∧
        (t.m.lane l).cfg.active = (s.m.lane l).cfg.active) ∧
      (v.refusal = none → s.m.variant.nLane = 2 → (s.m.lane l.other).sys.mode ≠ .resync →
        t.mem.mram l.other = s.mem.mram l.other ∧ (t.m.lane l).cfg.state = .checking ∧
        (t.m.lane l).cfg.mirrorWait = true ∧ (t.m.lane l).cfg.stage = 4 ∧ (t.m.lane l).cfg.mirrorAt = t.m.now) ∧
      (v.refusal = none → s.m.variant.nLane = 1 → (t.m.lane l).cfg.state = .passed ∧
        (t.m.lane l).cfg.candidate = some v.conf ∧ (t.m.lane l).cfg.shadowCounter = v.conf.counter) ∧
      (v.refusal = none → s.m.variant.nLane = 2 → (s.m.lane l.other).sys.mode = .resync →
        (t.m.lane l).cfg.state = .refused ∧ (t.m.lane l).cfg.reason = 0x0803))) ∧
  ((s.m.lane l).cfg.state = .checking → (s.m.lane l).cfg.mirrorWait = true →
    Ends (.mirrorTimeout l) s (fun t => SameStores s t ∧ (t.m.lane l).cfg.state = .passed ∧
      (t.m.lane l).cfg.mirrored = false ∧ (t.m.lane l).cfg.reason = 0 ∧
      t.m.now = max s.m.now ((s.m.lane l).cfg.mirrorAt + 50000000))) ∧
  ((s.m.lane l).cfg.state = .checking → (s.m.lane l).cfg.mirrorWait = true →
    (s.m.lane l.other).sys.mode = .standby → s.m.laneLink = true →
    Ends (.standbyDigestReport l) s (fun t => t.mem.mram l = s.mem.mram l ∧ (t.m.lane l).cfg.mirrorWait = false ∧
      ((t.m.lane l).cfg.state = .passed ∧ (t.m.lane l).cfg.mirrored = true ∨
       (t.m.lane l).cfg.state = .refused ∧ (t.m.lane l).cfg.reason = 0x0803))))

/-- The apply: APPLY goes to every die 2 ms before t_A; a die that holds the staged image takes t_A and acknowledges;
500 µs before t_A a die that is not ready cancels the arm; 200 µs before, CONFIRM goes out and the arm is final; a die
forgets t_A at a CANCEL and swaps its banks only once confirmed; at t_A the lane
applies its candidate (R60). -/
def Obligations.ApplyRunsToTheInstant : Prop := ∀ (s : State) (l : LaneId),
  ((s.m.lane l).cfg.state = .armed → (s.m.lane l).cfg.confirmSent = false → (s.m.lane l).cfg.applySent = [] →
    Ends (.applyAnnounce l) s (fun t => SameStores s t ∧
      t.m.now = max s.m.now ((s.m.lane l).cfg.applyInstant - 2000000) ∧
      (t.m.lane l).cfg.applySent = s.m.applyDies l ∧ l.num ∈ (t.m.lane l).cfg.acked ∧
      t.m.mail = s.m.mail ++ ((s.m.applyDies l).filter (2 ≤ ·)).map fun d =>
        ({ src := l.num, dst := d, msg := .apply (s.m.lane l).red.claim (s.m.lane l).cfg.applyInstant } : Mail))) ∧
  ((s.m.lane l).cfg.state = .armed → (s.m.lane l).cfg.confirmSent = false → (s.m.lane l).cfg.applySent ≠ [] →
    Ends (.applyAnnounce l) s (fun t => SameStores s t ∧
      t.m.now = max s.m.now ((s.m.lane l).cfg.applyInstant - 1000000) ∧
      (t.m.lane l).cfg.applySent = (s.m.lane l).cfg.applySent ∧
      t.m.mail = s.m.mail ++ ((s.m.lane l).cfg.applySent.filter (2 ≤ ·)).map fun d =>
        ({ src := l.num, dst := d, msg := .apply (s.m.lane l).red.claim (s.m.lane l).cfg.applyInstant } : Mail))) ∧
  (∀ d at_ rest, d < 2 → s.m.mail = { src := l.num, dst := 2 + d, msg := .apply (s.m.sd d).claim at_ } :: rest →
    (2 + d) ∈ (s.m.lane l).cfg.staged →
    Ends (.applyMsg (2 + d)) s (fun t => SameStores s t ∧ t.m.mail = rest ∧ (2 + d) ∈ (t.m.lane l).cfg.acked ∧
      t.m.sds = upd s.m.sds d (fun f => { f with applyAt := some at_, confirmed := false }))) ∧
  (∀ d at_ rest, d < 4 → s.m.mail = { src := l.num, dst := 4 + d, msg := .apply (s.m.fd d).claim at_ } :: rest →
    (4 + d) ∈ (s.m.lane l).cfg.staged →
    Ends (.applyMsg (4 + d)) s (fun t => SameStores s t ∧ t.m.mail = rest ∧ (4 + d) ∈ (t.m.lane l).cfg.acked ∧
      t.m.fds = upd s.m.fds d (fun f => { f with applyAt := some at_, confirmed := false }))) ∧
  ((s.m.lane l).cfg.state = .armed → (s.m.lane l).cfg.confirmSent = false → (s.m.lane l).cfg.applySent ≠ [] →
    (∀ d, d ∈ (s.m.lane l).cfg.applySent → d ∈ (s.m.lane l).cfg.staged ∧ d ∈ (s.m.lane l).cfg.acked) →
    Ends (.applyAckDeadline l) s (fun t => SameStores s t ∧ t.m.lane l = s.m.lane l ∧ t.m.mail = s.m.mail)) ∧
  (∀ d, (s.m.lane l).cfg.state = .armed → (s.m.lane l).cfg.confirmSent = false → (s.m.lane l).cfg.applySent ≠ [] →
    d ∈ (s.m.lane l).cfg.applySent → d ∉ (s.m.lane l).cfg.acked →
    Ends (.applyAckDeadline l) s (fun t => SameStores s t ∧ (t.m.lane l).cfg.state = .passed ∧
      (t.m.lane l).cfg.armCancelled = true ∧ (t.m.lane l).cfg.applySent = [] ∧ (t.m.lane l).cfg.staged = [])) ∧
  ((s.m.lane l).cfg.state = .armed → (s.m.lane l).cfg.confirmSent = false →
    let sent := if (s.m.lane l).cfg.applySent = [] then s.m.applyDies l else (s.m.lane l).cfg.applySent
    (∀ d, (s.m.lane l).cfg.laggard sent = some d → Does (.applyAckDeadline l) s fun _ m =>
      cancelArm l d (clockTo ((m.lane l).cfg.applyInstant - 500000) m)) ∧
    ((s.m.lane l).cfg.laggard sent = none → Does (.applyAckDeadline l) s fun _ m =>
      clockTo ((m.lane l).cfg.applyInstant - 500000) m) ∧
    (∀ d, (s.m.lane l).cfg.laggard sent = some d → Does (.applyConfirm l) s fun _ m => cancelArm l d m)) ∧
  (∀ d rest, d < 2 → s.m.mail = { src := l.num, dst := 2 + d, msg := .cancel (s.m.sd d).claim } :: rest →
    Ends (.cancelMsg (2 + d)) s (fun t => SameStores s t ∧ t.m.mail = rest ∧
      t.m.sds = upd s.m.sds d (fun f => { f with applyAt := none, confirmed := false }))) ∧
  (∀ d at_ rest, d < 2 → s.m.mail = { src := l.num, dst := 2 + d, msg := .confirm (s.m.sd d).claim } :: rest →
    (s.m.sd d).applyAt = some at_ →
    Ends (.confirmMsg (2 + d)) s (fun t => SameStores s t ∧ t.m.mail = rest ∧
      t.m.sds = upd s.m.sds d (fun f => { f with applyAt := some at_, confirmed := true }))) ∧
  (∀ d rest, d < 4 → s.m.mail = { src := l.num, dst := 4 + d, msg := .cancel (s.m.fd d).claim } :: rest →
    Ends (.cancelMsg (4 + d)) s (fun t => SameStores s t ∧ t.m.mail = rest ∧
      t.m.fds = upd s.m.fds d (fun f => { f with applyAt := none, confirmed := false }))) ∧
  ((s.m.lane l).cfg.state = .armed → (s.m.lane l).cfg.confirmSent = false → (s.m.lane l).cfg.applySent ≠ [] →
    (∀ d, d ∈ (s.m.lane l).cfg.applySent → d ∈ (s.m.lane l).cfg.staged ∧ d ∈ (s.m.lane l).cfg.acked) →
    Ends (.applyConfirm l) s (fun t => SameStores s t ∧ (t.m.lane l).cfg = { (s.m.lane l).cfg with confirmSent := true } ∧
      t.m.mail = s.m.mail ++ ((s.m.lane l).cfg.applySent.filter (2 ≤ ·)).map fun d =>
        ({ src := l.num, dst := d, msg := .confirm (s.m.lane l).red.claim } : Mail))) ∧
  (∀ d at_ rest, d < 4 → s.m.mail = { src := l.num, dst := 4 + d, msg := .confirm (s.m.fd d).claim } :: rest →
    (s.m.fd d).applyAt = some at_ →
    Ends (.confirmMsg (4 + d)) s (fun t => SameStores s t ∧ t.m.mail = rest ∧
      t.m.fds = upd s.m.fds d (fun f => { f with applyAt := some at_, confirmed := true }))) ∧
  (∀ d at_ c, d < 2 → d < s.m.sds.length → (s.m.sd d).applyAt = some at_ → (s.m.sd d).confirmed = true →
    (s.m.sd d).shadow = some c →
    Does (.bankSwap (2 + d)) s (fun _ m => swapSolver d (clockTo at_ m)) ∧
    Ends (.bankSwap (2 + d)) s (fun t => SameStores s t ∧ t.m.now = max s.m.now at_ ∧
      (t.m.sd d).bank = some c ∧ (t.m.sd d).bankCounter = (s.m.sd d).shadowCounter ∧
      (t.m.sd d).shadow = (s.m.sd d).bank ∧ (t.m.sd d).shadowCounter = (s.m.sd d).bankCounter ∧
      (t.m.sd d).applyAt = none ∧ (t.m.sd d).confirmed = false)) ∧
  (∀ d at_, d < 4 → (s.m.fd d).applyAt = some at_ → (s.m.fd d).confirmed = true →
    Does (.bankSwap (4 + d)) s fun _ m => swapField d (clockTo at_ m)) ∧
  (∀ d at_, d < 8 → s.m.dieApplyAt d = some at_ → s.m.dieConfirmed d = false →
    Ends (.bankSwap d) s (fun t => SameStores s t ∧ t.m.fds = s.m.fds ∧ t.m.sds = s.m.sds)) ∧
  (∀ new, (s.m.lane l).cfg.state = .armed → (s.m.lane l).cfg.confirmSent = true →
    (s.m.lane l).cfg.candidate = some new →
    Does (.applyInstant l) s fun st m => applyLane st l new (clockTo (s.m.lane l).cfg.applyInstant m))

/-- An image that a lane applies at t_A is its active image from then on, with its counter as the floor, in the slot
that was the shadow, and the shadow is empty (R34, R54, R60). -/
def Obligations.AppliedImageIsActive : Prop := ∀ (st : Store) (l : LaneId) (new : Conf) (m : Module),
  let c := ((applyLane st l new m).lane l).cfg
  c.active = some new ∧ c.state = .empty ∧ c.activeSlot = (m.lane l).cfg.shadowSlot ∧ c.activeCounter = new.counter ∧
    c.floor = max (m.lane l).cfg.floor new.counter ∧ c.activeDigest = new.digest ∧ c.candidate = none

/-- Heartbeats: each millisecond the active lane sends one under its claim to every field die it reaches and toggles
its wire; one that a die finds valid ends the die's vacancy and starts T_VACANT and T_safe anew, one under another claim
changes nothing; without one the die becomes vacant after T_VACANT and takes its safe states after T_safe; RELEASE makes
it vacant at once (R184, R275, R276, R353). -/
def Obligations.HeartbeatsGuardTheDies : Prop := ∀ (s : State) (l : LaneId) (d : Nat),
  ((s.m.lane l).red.holds = true → (s.m.lane l).red.releaseAt = none →
    Ends (.heartbeatTick l) s (fun t => SameStores s t ∧
      t.m.now = max s.m.now (s.m.gridAfter 1000000 (s.m.lane l).red.wireAt) ∧
      (t.m.lane l).red = { (s.m.lane l).red with
        hbSeq := ((s.m.lane l).red.hbSeq + 1) % 2 ^ 32, wireAt := t.m.now
        wire := if s.m.variant.nLane = 2 then !(s.m.lane l).red.wire else (s.m.lane l).red.wire } ∧
      let L := s.m.lane l
      let us := t.m.now / 1000
      let mac := heartbeatMac keyHb L.red.claim L.cfg.activeCounter (t.m.lane l).red.hbSeq us L.prg.tbOffset L.ptp.steer L.ptp.steerState
      let msg : Msg := .heartbeat L.red.claim L.cfg.activeCounter (t.m.lane l).red.hbSeq us L.prg.tbOffset L.ptp.steer
        L.ptp.steerState mac
      t.m.mail = s.m.mail ++ (s.m.fdsOf l).map fun d => ({ src := l.num, dst := 4 + d, msg := msg } : Mail)) ∧
    Does (.heartbeatTick l) s (fun _ m =>
        let m := clockTo (m.gridAfter 1000000 (m.lane l).red.wireAt) m
        sendHeartbeats l (toggleWire l (updRed l (fun r => { r with hbSeq := (r.hbSeq + 1) % 2 ^ 32 }) m)))) ∧
  (∀ k q tb off slot st mac rest, mac = heartbeatMac (s.m.fd d).kHb (s.m.fd d).claim k q tb off slot st →
    s.m.mail = ⟨l.num, 4 + d, .heartbeat (s.m.fd d).claim k q tb off slot st mac⟩ :: rest →
    s.m.fdReach l d = true → claimLane (s.m.fd d).claim = l → (s.m.fd d).applyAt = none →
    Ends (.heartbeatReceived l d) s (fun t => SameStores s t ∧ t.m.mail = rest ∧
      t.m.fds = upd s.m.fds d (fun f => { f.takeTime s.m.now tb off slot st with
        heartAt := s.m.now, vacant := false, tSafeDone := false }) ∧
      (t.m.fd d).tbOffset = off ∧ (t.m.fd d).tbBase = 1000 * tb ∧ (t.m.fd d).tbSetAt = s.m.now ∧ (t.m.fd d).tbSlot = slot ∧ (t.m.fd d).tbState = st ∧
      (t.m.fd d).tbValid = true)) ∧
  (∀ k q tb off slot st mac rest, mac = heartbeatMac (s.m.fd d).kHb (s.m.fd d).claim k q tb off slot st →
    s.m.mail = ⟨l.num, 4 + d, .heartbeat (s.m.fd d).claim k q tb off slot st mac⟩ :: rest →
    s.m.fdReach l d = true → claimLane (s.m.fd d).claim = l →
    Does (.heartbeatReceived l d) s fun _ m => lateSwap l d k (({ m with mail := rest } : Module).updFd d fun f =>
      { f.takeTime m.now tb off slot st with heartAt := m.now, vacant := false, tSafeDone := false })) ∧
  (∀ c k q tb off slot st mac rest,
    s.m.mail = { src := l.num, dst := 4 + d, msg := .heartbeat c k q tb off slot st mac } :: rest →
    c ≠ (s.m.fd d).claim ∨ mac ≠ heartbeatMac (s.m.fd d).kHb c k q tb off slot st →
    Ends (.heartbeatReceived l d) s (fun t => SameStores s t ∧ t.m.mail = rest ∧ t.m.fds = s.m.fds)) ∧
  (s.m.fdUp d = true → (s.m.fd d).vacant = false → s.m.variant.nLane = 2 →
    Ends (.vacancy d) s (fun t => SameStores s t ∧
      t.m.now = max s.m.now ((s.m.fd d).heartAt + (s.m.fd d).tVacantNs) ∧
      t.m.fds = upd s.m.fds d (fun f => { f with vacant := true, vacantAt := t.m.now, vacantTb := (f.tb t.m.now).toNat })) ∧
    Does (.vacancy d) s (fun _ m => vacate d (clockTo ((m.fd d).heartAt + (m.fd d).tVacantNs) m))) ∧
  (s.m.fdUp d = true → (s.m.fd d).bank.isSome = true → (s.m.fd d).tSafeDone = false →
    Does (.tSafeExpiry d) s fun _ m => tSafeExpire d (clockTo ((s.m.fd d).heartAt + (s.m.fd d).tSafeNs) m)) ∧
  (∀ rest, s.m.mail = { src := l.num, dst := 4 + d, msg := .release (s.m.fd d).claim } :: rest →
    s.m.fdReach l d = true → claimLane (s.m.fd d).claim = l →
    Ends (.releaseMsg l d) s (fun t => SameStores s t ∧ t.m.mail = rest ∧
      t.m.fds = upd s.m.fds d (fun f => { f with vacant := true, vacantAt := s.m.now, vacantTb := (f.tb s.m.now).toNat })) ∧
    Does (.releaseMsg l d) s (fun _ m => vacate d { m with mail := rest }))

/-- Claims at the dies: a vacant die answers a request that it is vacant, one that hears its own claim that it holds it,
another NO_VACANCY; a raise with evidence from a quorum latches the claim and is acknowledged; any other is rejected and
counted, and the latched claim stands (R278, R279).
A lane's quorum exchange: it asks again each millisecond; it keeps a die's valid reply in place of an older one;
without a quorum by the end of the window it stays passive and the split is counted; once a quorum of dies has
acknowledged its raise the claim is its own (R278, R280). -/
def Obligations.ClaimsAreDecidedByEvidence : Prop :=
  (∀ (s : State) (l : LaneId) (d : Nat),
  (∀ c rest, s.m.mail = { src := l.num, dst := 4 + d, msg := .claimRequest c } :: rest → s.m.fdReach l d = true →
    Ends (.claimRequest l d) s (fun t => SameStores s t ∧ t.m.fds = s.m.fds ∧ ∃ r : ClaimReply,
      t.m.mail = rest ++ [{ src := 4 + d, dst := l.num, msg := .claimReply r }] ∧ r.die = 4 + d ∧ r.proposed = c ∧
      r.claim = (s.m.fd d).claim ∧ r.imageCounter = (s.m.fd d).bankCounter ∧
      r.replyTb = (s.m.fd d).tbUs s.m.now ∧
      r.vacantSince = (if (s.m.fd d).vacant = true then (s.m.fd d).vacantTb / 1000 else 0) ∧
      r.result = (if (s.m.fd d).vacant = true then 0 else if (s.m.fd d).claim = c then 1 else 2)) ∧
    Does (.claimRequest l d) s (fun _ m =>
        let fd := m.fd d
        let res := if fd.vacant then 0 else if fd.claim = c then 1 else 2
        let r : ClaimReply := {
          die := 4 + d, result := res, claim := fd.claim, proposed := c,
          vacantSince := if res = 0 then fd.vacantTb / 1000 else 0, replyTb := fd.tbUs m.now,
          imageCounter := fd.bankCounter }
        send (4 + d) l.num (.claimReply { r with mac := r.macBy fd.kTok }) { m with mail := rest })) ∧
  (∀ c ev rest, s.m.mail = { src := l.num, dst := 4 + d, msg := .claimRaise c ev } :: rest → s.m.fdReach l d = true →
    claimLane c = l → raiseAccepted s.m.variant.quorum (s.m.fd d).claim (s.m.fd d).kTok ((s.m.fd d).tb s.m.now).toNat c ev = true →
    Does (.claimRaise l (4 + d)) s fun st m =>
      send (4 + d) l.num (.claimAck c) (latchField st l d c { m with mail := rest })) ∧
  (∀ c ev rest, s.m.mail = { src := l.num, dst := 4 + d, msg := .claimRaise c ev } :: rest → s.m.fdReach l d = true →
    raiseAccepted s.m.variant.quorum (s.m.fd d).claim (s.m.fd d).kTok ((s.m.fd d).tb s.m.now).toNat c ev = false →
    Ends (.claimRaise l (4 + d)) s (fun t => SameStores s t ∧ t.m.mail = rest ∧ (t.m.fd d).claim = (s.m.fd d).claim ∧
      (t.m.fd d).claimRejected = sat max32 ((s.m.fd d).claimRejected + 1))) ∧
  (∀ c ev rest, d < 2 → s.m.mail = { src := l.num, dst := 2 + d, msg := .claimRaise c ev } :: rest →
    s.m.sdReach l d = true →
    (claimLane c = l → raiseAccepted s.m.variant.quorum (s.m.sd d).claim (s.m.sd d).kTok s.m.now c ev = true →
      Does (.claimRaise l (2 + d)) s fun _ m => solverClaim d c { m with mail := rest }) ∧
    (claimLane c ≠ l ∨ raiseAccepted s.m.variant.quorum (s.m.sd d).claim (s.m.sd d).kTok s.m.now c ev = false →
      Does (.claimRaise l (2 + d)) s fun _ m => reportSd d 10 0x6006 (2 + d) c 1 { m with mail := rest }))) ∧
  (∀ (s : State) (l : LaneId) (e : Exchange),
  (s.m.lane l).red.exch = some e →
  (e.raised = false → (s.m.lane l).sys.phase ≠ .waking →
    max s.m.now (e.requestAt + 1000000) ≤ e.openedAt + (s.m.lane l).tVacantNs + 50000000 →
    Ends (.claimRequestRepeat l) s (fun t => SameStores s t ∧ t.m.now = max s.m.now (e.requestAt + 1000000) ∧
      (t.m.lane l).red = { (s.m.lane l).red with exch := some { e with requestAt := t.m.now } } ∧
      t.m.mail = s.m.mail ++ (s.m.fdsOf l).map fun d =>
        ({ src := l.num, dst := 4 + d, msg := .claimRequest e.proposed } : Mail)) ∧
    Does (.claimRequestRepeat l) s (fun _ m =>
        let t := max m.now (e.requestAt + 1000000)
        sendRequests l e.proposed (updRed l (fun r => { r with
          exch := r.exch.map fun e => { e with requestAt := t } }) (clockTo t m)))) ∧
  (∀ d r rest, s.m.mail = { src := 4 + d, dst := l.num, msg := .claimReply r } :: rest → s.m.fdReach l d = true →
    e.raised = false → (s.m.lane l).sys.phase ≠ .waking → r.mac = r.macBy keyTok → r.proposed = e.proposed →
    claimEpoch r.claim < claimEpoch e.proposed → e.why ≠ .join →
    (((e.replies.filter (·.die != r.die) ++ [r]).filter (·.evidence e.proposed)).map fun x => x.die - 4).dedup.length <
      s.m.variant.quorum →
    Ends (.claimReply l d) s (fun t => SameStores s t ∧ t.m.mail = rest ∧
      (t.m.lane l).red.exch = some { e with replies := e.replies.filter (·.die != r.die) ++ [r] } ∧
      (t.m.lane l).red.holds = (s.m.lane l).red.holds)) ∧
  (∀ d r rest, s.m.mail = { src := 4 + d, dst := l.num, msg := .claimReply r } :: rest → s.m.fdReach l d = true →
    (s.m.lane l).sys.phase ≠ .waking → r.mac = r.macBy keyTok → r.proposed = e.proposed →
    let kept : Exchange := { e with replies := e.replies.filter (·.die != r.die) ++ [r] }
    (e.raised = true → Does (.claimReply l d) s fun _ m =>
      updRed l (fun x => { x with exch := some kept }) { m with mail := rest }) ∧
    (e.raised = false → e.why ≠ .join → r.result ≠ 1 → claimEpoch e.proposed ≤ claimEpoch r.claim →
      Does (.claimReply l d) s fun st m => openExchange st l e.why
        (updRed l (fun x => { x with claim := mkClaim (claimEpoch r.claim) l }) { m with mail := rest })) ∧
    (e.raised = false → e.why ≠ .join → r.result = 1 ∨ claimEpoch r.claim < claimEpoch e.proposed →
      let ev := (kept.replies.filter (·.evidence e.proposed)).map fun x => x.die - 4
      let vac := (kept.replies.filter (·.result == 0)).map fun x => x.die - 4
      s.m.variant.quorum ≤ ev.dedup.length → Does (.claimReply l d) s fun st m => decideRaise st l kept
        (updRed l (fun x => { x with exch := some kept, evidence := dieFlags ev, vacant := dieFlags vac })
          { m with mail := rest }))) ∧
  ((s.m.lane l).sys.phase ≠ .waking → ¬(e.raised = true ∧ s.m.variant.quorum ≤ e.latched.length) →
    let closed := fun (m : Module) => clockTo (e.openedAt + (m.lane l).tVacantNs + 50000000) m
    (e.why = .join → Does (.quorumWindowExpiry l) s fun _ m => exchangeFails l .join 2 (closed m)) ∧
    (e.why ≠ .join → Does (.quorumWindowExpiry l) s fun _ m =>
      exchangeFails l e.why 2 (recordSplit l e (closed m)))) ∧
  (e.why = .takeover → e.raised = false → (s.m.lane l).sys.phase ≠ .waking → (s.m.lane l).sys.mode ≠ .resync →
    Ends (.quorumWindowExpiry l) s (fun t => (t.m.lane l).red.exch = none ∧ (t.m.lane l).red.quorumResult = 2 ∧
      (t.m.lane l).red.splitCount = sat max32 ((s.m.lane l).red.splitCount + 1) ∧
      (t.m.lane l).red.role = .standby ∧ (t.m.lane l).sys.phase = .up ∧
      (t.m.lane l).red.holds = (s.m.lane l).red.holds)) ∧
  (e.raised = true → e.why ≠ .join →
    s.m.variant.quorum ≤ (e.latched ++ (takeAcks l e.proposed s.m.mail).1).dedup.length →
    Does (.claimLatchAck l) s fun st m =>
      let acks := (takeAcks l e.proposed s.m.mail).1
      let m := { m with mail := (takeAcks l e.proposed s.m.mail).2 }
      let seen (r : Red) (d : Nat) : Bool := at? r.latched d false || acks.contains d
      let m := updRed l (fun r => { r with latched := (List.range 4).map (seen r) }) m
      raised st l { e with latched := (e.latched ++ acks).dedup } m) ∧
  (e.raised = true → e.why = .join → Ends (.claimLatchAck l) s (fun t => SameStores s t ∧
    t.m.mail = (takeAcks l e.proposed s.m.mail).2 ∧ (t.m.lane l).red.exch = none ∧
    (t.m.lane l).red.holds = (s.m.lane l).red.holds ∧ (t.m.lane l).red.claim = (s.m.lane l).red.claim)) ∧
  (e.raised = true → e.why ≠ .join →
    (e.latched ++ (takeAcks l e.proposed s.m.mail).1).dedup.length < s.m.variant.quorum →
    Ends (.claimLatchAck l) s (fun t => OnlyLane l { s with m := { s.m with mail := t.m.mail } } t ∧
      t.m.mail = (takeAcks l e.proposed s.m.mail).2 ∧ (t.m.lane l).red.holds = (s.m.lane l).red.holds ∧
      (t.m.lane l).red.exch = some { e with latched := (e.latched ++ (takeAcks l e.proposed s.m.mail).1).dedup })))

/-- Loss of the active lane: a lost wire or a quorum of vacancy patterns wakes the standby for a takeover, a steady wire
arms its trigger again, and the waking lane opens its exchange once its image and checkpoint are read; a lane that
reaches too few dies, or finds a die under a higher claim, stops being active (R277, R281, R282, R284). -/
def Obligations.LossOfALaneActs : Prop := ∀ (s : State) (l : LaneId),
  (s.m.variant = .nfj8 → s.m.supplyGood = true → (s.m.lane l).red.wireArmed = true → (s.m.lane l).sys.mode = .standby →
    (s.m.lane l).sys.phase = .up → (s.m.lane l).sys.failed = false → (s.m.lane l).sys.holdupOk = true →
    Ends (.laneWireLoss l) s (fun t => t.pending = s.pending ∧ (t.m.lane l).sys.phase = .waking ∧
      (t.m.lane l).red.role = .takeover ∧ (t.m.lane l).red.wireLost = true ∧
      (t.m.lane l).red.exch = some { why := .takeover } ∧ t.m.fds = s.m.fds)) ∧
  (s.m.variant = .nfj8 → s.m.supplyGood = true → (s.m.lane l).red.patArmed = true → (s.m.lane l).sys.mode = .standby →
    (s.m.lane l).sys.phase = .up → (s.m.lane l).sys.failed = false → (s.m.lane l).sys.holdupOk = true →
    s.m.variant.quorum ≤ (s.m.patterns l).length →
    Ends (.vacancyPatternWake l) s (fun t => t.pending = s.pending ∧ (t.m.lane l).sys.phase = .waking ∧
      (t.m.lane l).red.role = .takeover ∧ (t.m.lane l).red.exch = some { why := .takeover } ∧ t.m.fds = s.m.fds)) ∧
  (s.m.variant.nLane = 2 → s.m.supplyGood = true → (s.m.lane l).wakeable = true →
    ((s.m.lane l).red.wireArmed = true → Does (.laneWireLoss l) s fun st m => declareLoss st l 0
      (updRed l (fun r => { r with wireLost := true, wireSince := none })
        (clockTo ((m.lane l.other).red.wireAt + 3000000) m))) ∧
    ((s.m.lane l).red.patArmed = true → s.m.variant.quorum ≤ (s.m.patterns l).length →
      Does (.vacancyPatternWake l) s fun st m => declareLoss st l 1 m)) ∧
  (∀ a, s.m.variant.nLane = 2 → (s.m.lane l).red.patArmed = true → (s.m.lane l).red.wireSince = some a →
    max s.m.now (a + 100000000) < (s.m.lane l.other).red.wireAt + 3000000 →
    Ends (.triggerRearm l) s (fun t => OnlyLane l { s with m := { s.m with now := t.m.now } } t ∧
      t.m.now = max s.m.now (a + 100000000) ∧
      (t.m.lane l).red = { (s.m.lane l).red with wireArmed := true, wireLost := false }) ∧
    Does (.triggerRearm l) s (fun _ m =>
        updRed l (fun r => { r with wireArmed := true, wireLost := false }) (clockTo (max m.now (a + 100000000)) m))) ∧
  (∀ e, (s.m.lane l).sys.phase = .waking → (s.m.lane l).red.exch = some e → e.second = true →
    Does (.takeoverLoadComplete l) s fun st m =>
      let m := domSettle l.num [1, 6, 7, 8, 9, 10, 11, 13, 15, 16] m
      let m := adoptSlot st l (s.m.lane l).cfg.shadowSlot m
      openExchange st l e.why (report l 10 0x6011 ((m.lane l).cfg.activeCounter % 2 ^ 32)
        (s.m.lane l).cfg.shadowSlot 0 m)) ∧
  ((s.m.lane l).red.holds = true → s.m.variant.nLane = 2 → Does (.selfFence l) s fun _ m =>
    let L := m.lane l
    let m := clockTo (secondNewest (L.red.frameAt.map fun a => a.getD L.sys.raisedAt) + 1000000 + L.tVacantNs) m
    let m := leaveActive l (if L.red.releaseAt.isSome then 8 else 7)
      (report l 10 0x6004 L.red.claim (m.reachBits l) 0 (dropIntake l m))
    raise l 10 4 (updRed l (fun r => { r with selfFenced := true }) m)) ∧
  (∀ e, (s.m.lane l).sys.phase = .waking → (s.m.lane l).red.exch = some e → e.second = false →
    Does (.takeoverLoadComplete l) s fun st m =>
      let m := domSettle l.num [1, 6, 7, 8, 9, 10, 11, 13, 15, 16] m
      openExchange st l e.why (readCheckpoint st l (adoptSlot st l (s.m.lane l).cfg.activeSlot m))) ∧
  ((s.m.lane l).red.holds = true → s.m.variant.nLane = 2 → s.m.frozen l = false →
    Ends (.selfFence l) s (fun t => t.pending = s.pending ∧ (t.m.lane l).red.holds = false ∧
      (t.m.lane l).red.selfFenced = true ∧ (t.m.lane l).red.role = .resync ∧ (t.m.lane l).sys.mode = .resync)) ∧
  (∀ d f rest, s.m.mail = { src := 4 + d, dst := l.num, msg := .frame f } :: rest → (s.m.lane l).red.holds = true →
    s.m.fdReach l d = true → f.claim ≤ (s.m.lane l).red.claim →
    Ends (.inputFrameReceived l d) s (fun t => SameStores s t ∧ t.m.mail = rest ∧
      (t.m.lane l).frames = upd (s.m.lane l).frames d (fun _ => some f) ∧
      (t.m.lane l).heard = upd (s.m.lane l).heard d (fun _ => true) ∧
      (t.m.lane l).mtr.takeoverWait = ((s.m.lane l).mtr.takeoverWait.map (·.filter (· != d))).filter (· ≠ []) ∧
      (t.m.lane l).red = { (s.m.lane l).red with frameAt := upd (s.m.lane l).red.frameAt d fun _ => some s.m.now }) ∧
    Does (.inputFrameReceived l d) s (fun _ m =>
        let fresh := decide ((m.lane l).cfg.applyInstant ≤ f.tick)
        let m := admissionFrame l f (({ m with mail := rest } : Module).updLane l fun L => { L with
          frames := upd L.frames d fun _ => some f, heard := upd L.heard d fun _ => true
          red := { L.red with frameAt := upd L.red.frameAt d fun _ => some m.now }
          prg := { L.prg with nyv := if fresh then L.prg.nyv.filter (fun c => c / 64 != d) else L.prg.nyv } })
        match (m.lane l).mtr.takeoverWait with
        | none => m
        | some w => let w := w.filter (· != d)
        let m := m.updLane l fun L => { L with
          mtr := { L.mtr with takeoverWait := if w.isEmpty then none else some w } }
        if w.isEmpty then saveStart l 3 m else m)) ∧
  (∀ d f rest, s.m.mail = { src := 4 + d, dst := l.num, msg := .frame f } :: rest → (s.m.lane l).red.holds = true →
    s.m.fdReach l d = true → (s.m.lane l).red.claim < f.claim →
    Ends (.inputFrameReceived l d) s (fun t => (t.m.lane l).red.holds = false ∧ (t.m.lane l).red.role = .resync ∧
      (t.m.lane l).red.claim = mkClaim (claimEpoch f.claim) l) ∧
    Does (.inputFrameReceived l d) s (fun _ m => demote l f.claim (4 + d) { m with mail := rest }))

/-- Switchover and TAKE: an order is refused with its reason or starts; READY is taken when the standby's digest equals
the active lane's, its absence for 250 ms ends the switchover, and a switchover without a new claim 250 ms after RELEASE
is taken back; a TAKE in STANDBY or RESYNC wakes the lane (R296, R297). -/
def Obligations.SwitchoverAndTakeAct : Prop := ∀ (s : State) (l : LaneId) (v : View),
  (Heard s l v → s.m.variant = .nfj8 → (s.m.lane l).red.ctrlState ≠ 1 → switchRefusal s.m l ≠ 0 →
    Ends (.switchover l v) s (fun t => OnlyLane l s t ∧
      (t.m.lane l).red = { (s.m.lane l).red with ctrlState := 3, ctrlReason := switchRefusal s.m l }) ∧
    Does (.switchover l v) s (fun _ m =>
        updRed l (fun r => { r with ctrlState := 3, ctrlReason := switchRefusal s.m l }) m)) ∧
  (Heard s l v → s.m.variant = .nfj8 → (s.m.lane l).red.ctrlState ≠ 1 → switchRefusal s.m l = 0 →
    Ends (.switchover l v) s (fun t => t.pending = s.pending ∧ (t.m.lane l).red.ctrlState = 1 ∧
      (t.m.lane l).red.role = .switching ∧ (t.m.lane l).red.switchAt = some s.m.now ∧
      (t.m.lane l.other).red.prepare = true) ∧
    Does (.switchover l v) s (fun _ m =>
        let m := updRed l (fun r => { r with
          ctrlState := 1, ctrlReason := 0, switchAt := some m.now, switchReady := false, role := .switching }) m
        let m := report l 10 0x600E (m.lane l).red.claim 0 0 m
        wakeDoms l.other (updRed l.other (fun r => { r with prepare := true }) m))) ∧
  (∀ at_, (s.m.lane l).red.switchAt = some at_ → (s.m.lane l).red.ctrlState = 1 → (s.m.lane l).red.switchReady = false →
    (s.m.lane l.other).red.prepare = true → s.m.peerAt l .standby = true → s.m.now ≤ at_ + 250000000 →
    Ends (.switchoverReady l) s (fun t => t.pending = s.pending ∧
      (t.m.lane l).red.switchReady = decide ((t.m.lane l.other).cfg.activeDigest = (s.m.lane l).cfg.activeDigest)) ∧
    Does (.switchoverReady l) s (fun st m =>
        let p := l.other
        let m := adoptSlot st p (m.lane p).cfg.activeSlot (domSettle p.num [1, 6, 7, 8, 9, 10, 11, 13, 15, 16] m)
        if (m.lane p).cfg.activeDigest = (m.lane l).cfg.activeDigest then updRed l
          (fun r => { r with switchReady := true }) m else m)) ∧
  (∀ at_, (s.m.lane l).red.switchAt = some at_ → (s.m.lane l).red.ctrlState = 1 → (s.m.lane l).red.switchReady = false →
    Ends (.switchoverReadyTimeout l) s (fun t => t.m.now = max s.m.now (at_ + 250000000) ∧
      (t.m.lane l).red.ctrlState = 3 ∧ (t.m.lane l).red.ctrlReason = 7 ∧ (t.m.lane l).red.role = .active ∧
      (t.m.lane l).red.switchAt = none ∧ (t.m.lane l.other).red.prepare = false) ∧
    Does (.switchoverReadyTimeout l) s (fun _ m => abortSwitch l 7 (clockTo (at_ + 250000000) m))) ∧
  (∀ at_, (s.m.lane l).red.releaseAt = some at_ → (s.m.lane l).red.holds = true → (s.m.lane l).red.exch = none →
    Does (.switchoverRevertTimeout l) s fun st m => openExchange st l .revert (clockTo (at_ + 250000000) m)) ∧
  (Heard s l v → s.m.variant = .nfj8 → (s.m.lane l).red.ctrlState ≠ 1 → (s.m.lane l).sys.mode ∈ [.standby, .resync] →
    (s.m.lane l).sys.phase = .up → s.m.peerCode l ≠ 1 →
    Ends (.takeLane l v) s (fun t => t.pending = s.pending ∧ (t.m.lane l).sys.phase = .waking ∧
      (t.m.lane l).red.role = .takeover ∧ (t.m.lane l).red.ctrlState = 1 ∧
      (t.m.lane l).red.exch = some { why := .take }) ∧
    Does (.takeLane l v) s (fun _ m =>
        wakeDoms l (updSys l (fun x => { x with phase := .waking }) (updRed l
          (fun r => { r with ctrlState := 1, ctrlReason := 0, role := .takeover, exch := some { why := .take } }) m)))) ∧
  (Heard s l v → s.m.variant = .nfj8 → (s.m.lane l).red.ctrlState ≠ 1 → (s.m.lane l).sys.mode ∈ [.standby, .resync] →
    (s.m.lane l).sys.phase = .up → s.m.peerCode l = 1 →
    Ends (.takeLane l v) s (fun t => OnlyLane l s t ∧
      (t.m.lane l).red = { (s.m.lane l).red with ctrlState := 3, ctrlReason := 5 }) ∧
    Does (.takeLane l v) s (fun _ m => updRed l (fun r => { r with ctrlState := 3, ctrlReason := 5 }) m)) ∧
  (Heard s l v → s.m.variant = .nfj8 → (s.m.lane l).red.ctrlState ≠ 1 → (s.m.lane l).sys.mode ∉ [.standby, .resync] →
    Ends (.takeLane l v) s (fun t => OnlyLane l s t ∧
      (t.m.lane l).red = { (s.m.lane l).red with ctrlState := 3, ctrlReason := 3 }) ∧
    Does (.takeLane l v) s (fun _ m => updRed l (fun r => { r with ctrlState := 3, ctrlReason := 3 }) m))

/-- Checkpoints and the standby: at its instant the active lane captures a checkpoint for a standby that is there; the
standby stores it and answers; a good answer makes it the newest, and mirrors end; a lane in RESYNC whose image is the
active one enters STANDBY (R287, R290, R294).
Links and islands: a field link that goes down loses what was under way on it, one that comes up is up; the lane
links follow their contacts; a lane that fails with its island is stopped for good and holds no claim (R22 to R24,
R294). -/
def Obligations.CheckpointsAndLinksAct : Prop :=
  (∀ (s : State) (l : LaneId),
  ((s.m.lane l).red.holds = true → (s.m.lane l).cfg.active.isSome = true → (s.m.lane l).red.releaseAt = none →
    (s.m.lane l).sys.phase = .up → (s.m.lane l).red.mirrorAt = none → (s.m.lane l).red.ckpt = none →
    s.m.peerAt l .standby = true →
    Ends (.checkpointInstant l) s (fun t => SameStores s t ∧ (t.m.lane l).red.ckptAt = t.m.now ∧
      (t.m.lane l).red.mirrorAt = some t.m.now ∧ (t.m.lane l).red.finalCkpt = (s.m.lane l).red.switchReady ∧
      (t.m.lane l).red.ckptWait = (List.range 4).filter (fun k => ((s.m.lane l).task k).executing) ∧
      (t.m.lane l).red.ckpt.map Checkpoint.claim = some (s.m.lane l).red.claim ∧
      (t.m.lane l).red.ckpt.map Checkpoint.forces = some (s.m.lane l).prg.forces)) ∧
  ((s.m.lane l).red.holds = true → s.m.variant.nLane = 2 → (s.m.lane l).cfg.active.isSome = true →
    (s.m.lane l).red.releaseAt = none → (s.m.lane l).sys.phase = .up →
    let tick := fun (m : Module) =>
      let m := clockTo (max ((m.lane l).prg.t0 + (m.lane l).ckptNs)
        (m.gridFrom (m.lane l).prg.t0 (m.lane l).ckptNs (m.lane l).red.ckptAt)) m
      updRed l (fun r => { r with ckptAt := m.now }) m
    let busy := (s.m.lane l).red.mirrorAt.isSome = true ∨ (s.m.lane l).red.ckpt.isSome = true
    (busy → Does (.checkpointInstant l) s fun _ m =>
      let L := m.lane l
      report l 10 0x600B ((L.red.ckpt.map Checkpoint.seq).getD 0) 0 0 (raise l 10 8 (tick m))) ∧
    (¬busy → s.m.backed l = false → Does (.checkpointInstant l) s fun _ m => mirrorFailed l 0 (tick m)) ∧
    (¬busy → s.m.backed l = true → s.m.peerAt l .standby = false → Does (.checkpointInstant l) s fun _ m => tick m)) ∧
  (∀ at_ c, (s.m.lane l).red.mirrorAt = some at_ → (s.m.lane l).red.ckpt = some c → (s.m.lane l).red.holds = true →
    (s.m.lane l).red.ckptWait = [] →
    (s.m.peerAt l .standby = false → Does (.checkpointConfirmed l) s fun _ m => mirrorFailed l 0 m) ∧
    (s.m.peerAt l .standby = true → (s.m.lane l).red.mirrorDone = some false →
      Does (.checkpointConfirmed l) s fun _ m => mirrorFailed l 1 m) ∧
    (s.m.peerAt l .standby = true → (s.m.lane l).red.mirrorDone = some true → (s.m.lane l).red.finalCkpt = true →
      Ends (.checkpointConfirmed l) s (fun t => (t.m.lane l).red.releaseAt = some s.m.now ∧
        (t.m.lane l).red.restored = some c ∧ (t.m.lane l.other).sys.phase = .waking ∧
        (t.m.lane l.other).red.exch = some { why := .switchover } ∧
        t.m.mail = s.m.mail ++ (s.m.fdsOf l).map fun d =>
          ({ src := l.num, dst := 4 + d, msg := .release (s.m.lane l).red.claim } : Mail)))) ∧
  (∀ c, s.m.peerAt l.other .standby = true → (s.m.lane l.other).red.holds = true →
    (s.m.lane l.other).red.ckptWait = [] → (s.m.lane l.other).red.mirrorDone = none →
    (s.m.lane l.other).red.ckpt = some c →
    Ends (.checkpointReceived l) s (fun t => t.pending = s.pending ∧
      ((t.m.lane l.other).red.mirrorDone = some false ∨
       (t.m.lane l.other).red.mirrorDone = some true ∧ (t.m.lane l).red.ckptSeq = c.seq ∧
         (t.m.lane l).red.ckptTb = some c.captureTb)) ∧
    Does (.checkpointReceived l) s (fun st m =>
        let m := storeCkpt st l c (domSettle l.num rxDoms m)
        let ok := (newestCkpt m (m.cur st) l).any fun r => r.2.1 == c.seq
        let m := if ok then carryRecords st l c.mlog m else m
        let m := if ok then updRed l (fun r => { r with
          ckptSeq := c.seq, ckptTb := some c.captureTb, ckptBytes := c.bytes.length }) m else m
        receiverDone l (updRed l.other (fun r => { r with mirrorDone := some ok }) m))) ∧
  (∀ at_ c, (s.m.lane l).red.mirrorAt = some at_ → (s.m.lane l).red.ckpt = some c → (s.m.lane l).red.holds = true →
    (s.m.lane l).red.ckptWait = [] → s.m.peerAt l .standby = true → (s.m.lane l).red.mirrorDone = some true →
    (s.m.lane l).red.finalCkpt = false →
    Ends (.checkpointConfirmed l) s (fun t => t.pending = s.pending ∧ (t.m.lane l).red.ckpt = none ∧
      (t.m.lane l).red.mirrorAt = none ∧ (t.m.lane l).red.ckptSeq = c.seq ∧
      (t.m.lane l).red.ckptTb = some c.captureTb ∧ (t.m.lane l).red.ckptTimeUs = (s.m.now - at_) / 1000)) ∧
  (s.m.variant = .nfj8 → (s.m.lane l).sys.mode = .resync → (s.m.lane l).sys.phase = .up → s.m.laneLink = true →
    (s.m.lane l).sys.failed = false → (s.m.lane l.other).red.holds = true → (s.m.lane l.other).sys.phase = .up →
    (s.m.lane l.other).cfg.activeDigest = (s.m.lane l).cfg.activeDigest →
    Ends (.resyncComplete l) s (fun t => t.pending = s.pending ∧ (t.m.lane l).sys.mode = .standby ∧
      (t.m.lane l).red.role = .standby ∧ (t.m.lane l).red.wireArmed = true ∧ (t.m.lane l).red.patArmed = true) ∧
    Does (.resyncComplete l) s (fun st m =>
        let a := l.other
        let seq := nextSeq (m.lane a).mtr.saveSeq
        let m := m.updLane a fun A => { A with mtr := { A.mtr with saveSeq := seq } }
        let m := saveWrite st l ((m.fdsOf a).map fun d => (d, accuRecord m a d 0 seq)) m
        let t := (m.lane a).mtr
        let m := m.updLane l fun L => { L with
          mtr := { L.mtr with saveSeq := seq, sealCount := t.sealCount, unsealed := t.unsealed } }
        let m := carryNewer st a l (writeSeal .peer st l m)
        let c := captureCkpt st a m
        let held (r : Red) : Red := { r with ckptSeq := c.seq, ckptTb := some c.captureTb, ckptBytes := c.bytes.length }
        let m := updRed l held (updRed a held (storeCkpt st l c m))
        let m := updRed a (fun r => { r with mlogConfirmed := (m.lane a).evr.mHead }) m
        let m := setMode l .standby 9 (updRed l (fun r => { r with
          role := .standby, wireArmed := true, patArmed := true, wireLost := false, selfFenced := false }) m)
        restDoms l (raise a 10 32 (raise l 10 32 (report l 10 0x600D
          ((m.lane l).cfg.activeCounter % 2 ^ 32) c.seq 0 m)))))) ∧
  (∀ (s : State) (l : LaneId) (d : Nat),
  (d < s.m.variant.nFd → l ∈ s.m.laneList → (s.m.lane l).sys.failed = false →
    Ends (.fieldLinkChange l d false) s (fun t => SameStores s t ∧ t.m.fds = s.m.fds ∧
      t.m.lane l = { s.m.lane l with fldUp := upd (s.m.lane l).fldUp d fun _ => false } ∧
      ((s.m.lane l.other).red.holds = false → t.m.lane l.other = s.m.lane l.other) ∧
      ∀ x, x ∈ t.m.mail ↔ x ∈ s.m.mail ∧ ¬ (x.src = l.num ∧ x.dst = 4 + d) ∧ ¬ (x.src = 4 + d ∧ x.dst = l.num))) ∧
  (d < s.m.variant.nFd → l ∈ s.m.laneList → (s.m.lane l).sys.failed = false →
    let linked := fun (m : Module) =>
      standbyWatch l.other (m.updLane l fun L => { L with fldUp := upd L.fldUp d fun _ => true })
    let behind := (s.m.lane l).red.holds = true ∧ (s.m.lane l).red.exch = none ∧ (s.m.lane l).red.releaseAt = none ∧
      s.m.fdUp d = true ∧ (s.m.fd d).claim < (s.m.lane l).red.claim
    (¬behind → Does (.fieldLinkChange l d true) s fun _ m => linked m) ∧
    (behind → Does (.fieldLinkChange l d true) s fun st m => openExchange st l .join (linked m))) ∧
  (∀ up, l ∈ s.m.laneList → (s.m.lane l).sys.failed = false →
    let behind := fun (m : Module) => up = true ∧ (m.lane l).red.holds = true ∧ (m.lane l).red.exch = none ∧
      (m.lane l).red.releaseAt = none ∧ m.sdReach l d = true ∧ (m.sd d).claim < (m.lane l).red.claim
    (¬behind (solverLink l d up s.m.fresh) → Does (.solverLinkChange l d up) s fun _ m => solverLink l d up m) ∧
    (behind (solverLink l d up s.m.fresh) → Does (.solverLinkChange l d up) s fun st m =>
      openExchange st l .join (solverLink l d up m))) ∧
  (∀ link up, link < 2 → s.m.variant = .nfj8 → s.m.laneA.sys.failed = false → s.m.laneB.sys.failed = false →
    Ends (.laneLinkChange ⟨link, up⟩) s (fun t => SameStores s t ∧ t.m.laneLinks = upd s.m.laneLinks link (fun _ => up) ∧
      (s.m.laneA.red.holds = false → s.m.laneB.red.holds = false → t.m.laneA = s.m.laneA ∧ t.m.laneB = s.m.laneB) ∧
      ((s.m.lane l).red.holds = true → (s.m.lane l).red.mirrorAt.isSome = true → t.m.laneLink = false →
        (t.m.lane l).red.mirrorAt = none ∧ (t.m.lane l).red.ckpt = none)) ∧
    Does (.laneLinkChange ⟨link, up⟩) s (fun _ m =>
        let m : Module := { m with laneLinks := upd m.laneLinks link fun _ => up }
        let on := m.laneLink
        forEach m.laneList (fun l m => let r := (m.lane l).red;
          let m1 := if !on && (r.mirrorAt.isSome || r.ckpt.isSome) then mirrorFailed l 0 m else m
          let m2 := if !on && r.switchAt.isSome && r.releaseAt.isNone then abortSwitch l 8 m1 else m1
          if r.holds then standbyWatch l m2 else m) m)) ∧
  (∀ c, l ∈ s.m.laneList → at? s.m.islands l.num true = true →
    Does (.islandFailure l c) s (fun _ m =>
      standbyWatch l.other (slvWatch (if c then loseLane l m else loseIsland l.num (loseLane l m)))) ∧
    Ends (.islandFailure l c) s (fun t => SameStores s t ∧ (t.m.lane l).sys.failed = true ∧
      ((s.m.lane l).sys.failed = false → (t.m.lane l).sys.phase = .stopped ∧ (t.m.lane l).red.holds = false ∧
        t.m.laneLink = false) ∧
      t.m.islands = (if c = true then s.m.islands else upd s.m.islands l.num fun _ => false))))


/-- Tasks: the clock of a task's processor comes before its boundary; at the boundary a task that stands begins its
cycle under its stamp, and one still executing loses the boundary and counts the overrun; too many overruns in a row, or
a watchdog, bring SAFE_HOLD (R27, R132, R133, R137 to R139). -/
def Obligations.TaskCyclesFollowTheirBoundaries : Prop := ∀ (s : State) (l : LaneId) (k : Nat),
  ((s.m.lane l).mayCycle k = true → Ends (.cycleClockRequest l k) s (fun t => SameStores s t ∧
    t.m.now = max s.m.now (({ s.m with now := s.m.now + 25000 } : Module).gridFrom (s.m.lane l).prg.t0
      ((s.m.lane l).periodNs k) ((s.m.lane l).task k).lastB - 25000) ∧
    (t.m.lane l).prg = { (s.m.lane l).prg with
      tasks := upd (s.m.lane l).prg.tasks k fun x => { x with clockOn := true } }) ∧
  Does (.cycleClockRequest l k) s (fun _ m =>
      let L := m.lane l
      let b := ({ m with now := m.now + 25000 } : Module).gridFrom L.prg.t0 (L.periodNs k) (L.task k).lastB
      updTask l k (fun x => { x with clockOn := true }) (clockTo (b - 25000) m))) ∧
  ((s.m.lane l).mayCycle k = true →
    let b := s.m.gridFrom (s.m.lane l).prg.t0 ((s.m.lane l).periodNs k) ((s.m.lane l).task k).lastB
    let held := (s.m.lane l).cfg.state = .armed ∧ (s.m.lane l).cfg.confirmSent = true ∧ (s.m.lane l).cfg.applyInstant ≤ b
    (¬held → ((s.m.lane l).task k).executing = false → Does (.taskBoundary l k) s fun _ m =>
      beginCycle l k b (updTask l k (fun x => { x with lastB := b }) (clockTo b m))) ∧
    (held → Does (.taskBoundary l k) s fun _ m => m)) ∧
  ((s.m.lane l).mayCycle k = true → ((s.m.lane l).task k).executing = false → ((s.m.lane l).task k).released = [] →
    (s.m.lane l).cfg.state ≠ .armed → (s.m.lane l).prg.tasks.length = 4 → k < 4 →
    Ends (.taskBoundary l k) s (fun t => SameStores s t ∧
      t.m.now = max s.m.now (s.m.gridFrom (s.m.lane l).prg.t0 ((s.m.lane l).periodNs k) ((s.m.lane l).task k).lastB) ∧
      ((t.m.lane l).task k).executing = true ∧ ((t.m.lane l).task k).lastB = ((t.m.lane l).task k).boundaryAt ∧
      ((t.m.lane l).task k).boundaryAt =
        s.m.gridFrom (s.m.lane l).prg.t0 ((s.m.lane l).periodNs k) ((s.m.lane l).task k).lastB ∧
      ((t.m.lane l).task k).stamp = ((t.m.lane l).task k).boundaryAt / 1000 ∧
      ((t.m.lane l).task k).cycles = ((s.m.lane l).task k).cycles)) ∧
  ((s.m.lane l).mayCycle k = true → ((s.m.lane l).task k).executing = true → (s.m.lane l).cfg.state ≠ .armed →
    (s.m.lane l).prg.tasks.length = 4 → k < 4 → ((s.m.lane l).task k).skippedNow = 0 →
    Ends (.taskBoundary l k) s (fun t => SameStores s t ∧ (t.m.lane l).task k = { (s.m.lane l).task k with
      lastB := s.m.gridFrom (s.m.lane l).prg.t0 ((s.m.lane l).periodNs k) ((s.m.lane l).task k).lastB
      skipped := sat max32 (((s.m.lane l).task k).skipped + 1), skippedNow := 1
      overruns := sat max32 (((s.m.lane l).task k).overruns + 1)
      consec := sat 255 (((s.m.lane l).task k).consec + 1) })) ∧
  ((s.m.lane l).prg.running = true → ((s.m.lane l).conf.task k).overrunLimit ≠ 0 →
    ((s.m.lane l).conf.task k).overrunLimit ≤ ((s.m.lane l).task k).consec → (s.m.lane l).sys.mode.runs = true →
    s.m.frozen l = false → (s.m.lane l).justRequested s.m.now = false →
    Ends (.overrunLimit l k) s (fun t => t.pending = s.pending ∧ (t.m.lane l).sys.mode = .safeHold ∧
      (t.m.lane l).sys.cause = 3 ∧ (t.m.lane l).prg.running = false)) ∧
  ((s.m.lane l).prg.running = true ∨ (s.m.lane l).justRequested s.m.now = true →
    ((s.m.lane l).conf.task k).overrunLimit ≠ 0 →
    ((s.m.lane l).conf.task k).overrunLimit ≤ ((s.m.lane l).task k).consec →
    Does (.overrunLimit l k) s fun _ m => autoHold l 3 (report l 5 0x3002 k ((m.lane l).task k).consec 0 m)) ∧
  (((s.m.lane l).task k).executing = true → ((s.m.lane l).task k).publishing = false →
    ((s.m.lane l).task k).halted = false →
    let old := (s.m.lane l).oldCycle = true ∧ (s.m.lane l).waitsCarry k = false
    (¬old → Does (.watchdog l k) s fun _ m => safeOnceStopped l (autoHold l 4 (haltTask l k m))) ∧
    (old → Does (.watchdog l k) s fun _ m =>
      safeOnceStopped l (autoHold l 4 (endOldCycle l k ((m.lane l).taskConf k) (haltTask l k m))))) ∧
  (((s.m.lane l).task k).executing = true → ((s.m.lane l).task k).publishing = false →
    ((s.m.lane l).task k).halted = false → (s.m.lane l).prg.exchOld = none → (s.m.lane l).sys.mode.runs = true →
    s.m.frozen l = false → (s.m.lane l).justRequested s.m.now = false → (s.m.lane l).prg.tasks.length = 4 → k < 4 →
    Ends (.watchdog l k) s (fun t => t.pending = s.pending ∧ (t.m.lane l).sys.mode = .safeHold ∧
      (t.m.lane l).sys.cause = 4 ∧ ((t.m.lane l).task k).halted = true ∧ ((t.m.lane l).task k).executing = false))

/-- Step 6 and 7 of a cycle: the end of an execution leaves the block code's writes in the output image and the frames
and its solver requests with the task; the publish ends the cycle, counts it, and clears the run of overruns of a cycle
that skipped no boundary; a carry-over that no old cycle holds up brings the new frames (R132, R137, R138, R160). -/
def Obligations.CyclesEndWithTheirPublish : Prop := ∀ (s : State) (l : LaneId) (k : Nat),
  (∀ r : ExecResult, ((s.m.lane l).task k).executing = true → ((s.m.lane l).task k).publishing = false →
    ((s.m.lane l).task k).halted = false → (s.m.lane l).waitsCarry k = false →
    s.m.now < ((s.m.lane l).task k).boundaryAt + (((s.m.lane l).taskConf k).task k).watchdogUs * 1000 →
    Does (.executionEnd l k r) s fun _ m =>
      let L := m.lane l
      let written := r.frames.foldl (fun a w => putAt a w.1 w.2) L.prg.frames
      let area := r.blocks.foldl (invokeBlock (L.taskConf k).prog (L.task k).stamp) written
      forEach r.aborts (fun i => abortTemplate l .program i) (updTask l k (fun x => { x with
        publishing := true
        outImage := fitTo x.outImage.length (r.out.foldl (fun a w => putAt a w.1 w.2) x.outImage)
        requests := r.jobs.map fun j => (j.1, ({ values := j.2.1, b := j.2.2.1 } : SlvPayload), j.2.2.2)
        pubForces := L.prg.forces }) (updPrg l (fun p => { p with frames := fitTo p.frames.length area }) m))) ∧
  (∀ r : ExecResult, r.aborts = [] → r.blocks = [] → ((s.m.lane l).task k).executing = true →
    ((s.m.lane l).task k).publishing = false →
    ((s.m.lane l).task k).halted = false → (s.m.lane l).prg.exchOld = none →
    s.m.now < ((s.m.lane l).task k).boundaryAt + (((s.m.lane l).taskConf k).task k).watchdogUs * 1000 →
    Ends (.executionEnd l k r) s (fun t => OnlyLane l s t ∧ (t.m.lane l).prg = { (s.m.lane l).prg with
      frames := fitTo (s.m.lane l).prg.frames.length (r.frames.foldl (fun a w => putAt a w.1 w.2) (s.m.lane l).prg.frames)
      tasks := upd (s.m.lane l).prg.tasks k fun x => { x with
        publishing := true
        outImage := fitTo x.outImage.length (r.out.foldl (fun a w => putAt a w.1 w.2) ((s.m.lane l).task k).outImage)
        requests := r.jobs.map fun j => (j.1, ({ values := j.2.1, b := j.2.2.1 } : SlvPayload), j.2.2.2)
        pubForces := (s.m.lane l).prg.forces } })) ∧
  (((s.m.lane l).task k).executing = true → ((s.m.lane l).task k).publishing = true →
    let old := (s.m.lane l).oldCycle = true ∧ (s.m.lane l).waitsCarry k = false
    (¬old → Does (.publishComplete l k) s fun _ m =>
      safeOnceStopped l (endCycle l k ((m.lane l).task k).requests (publishParts l k (publishCommands l k m)))) ∧
    (old → Does (.publishComplete l k) s fun _ m =>
      let L := m.lane l
      let c := L.taskConf k
      let q := (L.task k).requests
      safeOnceStopped l (endOldCycle l k c (endCycle l k (q.filter fun x => keepsRequest c L.conf x.1)
        (publishParts l k (dropRequests l k c L.conf q (publishCommands l k m))))))) ∧
  (((s.m.lane l).task k).executing = true → ((s.m.lane l).task k).publishing = true → (s.m.lane l).prg.exchOld = none →
    (s.m.lane l).prg.tasks.length = 4 → k < 4 →
    Ends (.publishComplete l k) s (fun t => t.pending = s.pending ∧ ((t.m.lane l).task k).executing = false ∧
      ((t.m.lane l).task k).publishing = false ∧ ((t.m.lane l).task k).clockOn = false ∧
      ((t.m.lane l).task k).cycles = ((s.m.lane l).task k).cycles + 1 ∧ ((t.m.lane l).task k).consec =
        (if ((s.m.lane l).task k).skippedNow = 0 then 0 else ((s.m.lane l).task k).consec) ∧
      ((t.m.lane l).task k).lastUs = sat max32 ((s.m.now - ((s.m.lane l).task k).boundaryAt) / 1000) ∧
      ((t.m.lane l).task k).released = ((s.m.lane l).task k).released ++ ((s.m.lane l).task k).requests)) ∧
  (∀ old at_, (s.m.lane l).prg.exchOld = some (old, at_) → (s.m.lane l).oldCycle = false →
    Ends (.carryOverEnd l) s (fun t => SameStores s t ∧ (t.m.lane l).prg.exchOld = none ∧
      (t.m.lane l).prg.frames = (carryOver old.prog (s.m.lane l).conf.prog (s.m.lane l).prg.frames).frames ∧
      (t.m.lane l).prg.exchCarryNs = 2000 + cdiv (s.m.lane l).conf.prog.instBytes 16 ∧
      t.m.now = max s.m.now (at_ + (s.m.lane l).prg.exchDelayUs * 1000 + (t.m.lane l).prg.exchCarryNs)) ∧
    Does (.carryOverEnd l) s (fun _ m => finishExchange l m))

/-- A publish at the dies: a field die keeps one under its own claim and image counter, rejects and counts another, and
at the next apply tick applies those that are due (R31, R183, R187).
Forces: a SET that is judged sound puts the value under its entry of the force table, another leaves the table with
its result; CLEAR takes the selected entry out and CLEAR_ALL every one, in the running modes and SAFE_HOLD alone (R152 to
R155). -/
def Obligations.PublishesAndForcesAct : Prop :=
  (∀ (s : State) (l : LaneId) (d : Nat),
  (∀ (c : OutCmds) rest, s.m.mail = ⟨l.num, 4 + d, .outputs c⟩ :: rest → s.m.fdReach l d = true →
    c.claim = (s.m.fd d).claim → c.counter = (s.m.fd d).bankCounter → claimLane c.claim = l →
    Does (.outputCommandsReceived l d) s fun _ m =>
      let free := !(m.fd d).firstCmd && (m.lane l).pwr.step == 0
      forEach c.frames (fun f => canQueue d f.1 c.claim f.2) (({ m with mail := rest } : Module).updFd d fun f => { f with
        cmds := f.cmds ++ [c], firstCmd := true
        supplies := if free then f.supplies.map fun x => { x with held := none } else f.supplies })) ∧
  (∀ (c : OutCmds) rest, s.m.mail = ⟨l.num, 4 + d, .outputs c⟩ :: rest → s.m.fdReach l d = true →
    c.claim = (s.m.fd d).claim → c.counter = (s.m.fd d).bankCounter → claimLane c.claim = l → c.frames = [] →
    (s.m.fd d).firstCmd = true →
    Ends (.outputCommandsReceived l d) s (fun t => SameStores s t ∧ t.m.mail = rest ∧
      t.m.fds = upd s.m.fds d (fun f => { f with cmds := f.cmds ++ [c], firstCmd := true }))) ∧
  (∀ (c : OutCmds) rest, s.m.mail = ⟨l.num, 4 + d, .outputs c⟩ :: rest → s.m.fdReach l d = true →
    c.claim ≠ (s.m.fd d).claim ∨ c.counter ≠ (s.m.fd d).bankCounter ∨ claimLane c.claim ≠ l →
    Ends (.outputCommandsReceived l d) s (fun t => SameStores s t ∧ t.m.mail = rest ∧
      (t.m.fd d).cmds = (s.m.fd d).cmds ∧ (t.m.fd d).claim = (s.m.fd d).claim ∧
      (t.m.fd d).claimRejected = sat max32 ((s.m.fd d).claimRejected + ((s.m.fd d).cmdCount d c + c.frameCount)))) ∧
  (∀ a as, s.m.fdList.flatMap (fun d => if s.m.fdUp d then (s.m.fd d).cmds.map (·.tick) else []) = a :: as →
    Does .commandApply s fun _ m => forEach m.fdList applyDue (clockTo (as.foldl min a) m))) ∧
  (∀ (s : State) (l : LaneId) (v : View), Heard s l v →
  (∀ x y, (s.m.lane l).prg.forceTarget = x → (s.m.lane l).prg.forceValue = y →
    (s.m.lane l).judgeForce x y = 0 →
    Ends (.forceSet l v) s (fun t => SameStores s t ∧ (t.m.lane l).prg.forceResult = 0 ∧
      (t.m.lane l).prg.forces = putKey (s.m.lane l).prg.forces ((s.m.lane l).prg.entryFor (s.m.sel l v).prgForce x)
        { target := x, value := y } ∧
      (t.m.sel l v).prgForce = (s.m.lane l).prg.entryFor (s.m.sel l v).prgForce x) ∧
    Does (.forceSet l v) s (fun _ m =>
        let e := (m.lane l).prg.entryFor (m.sel l v).prgForce x
        let m := updSel l v (fun w => { w with prgForce := e }) (updPrg l
          (fun p => { p with forces := putKey p.forces e { target := x, value := y } }) m)
        followForces l (report l 5 0x3004 e x y (raise l 5 0x200 (forceEnd l x 0 m))))) ∧
  (∀ x y, (s.m.lane l).prg.forceTarget = x → (s.m.lane l).prg.forceValue = y →
    (s.m.lane l).judgeForce x y ≠ 0 →
    Ends (.forceSet l v) s (fun t => SameStores s t ∧ (t.m.lane l).prg = { (s.m.lane l).prg with
      forceResult := (s.m.lane l).judgeForce x y }) ∧
    Does (.forceSet l v) s (fun _ m => forceEnd l x ((m.lane l).judgeForce x y) m)) ∧
  (mayClear (s.m.lane l).sys.mode = true → Ends (.forceClear l v) s (fun t => SameStores s t ∧
    (t.m.lane l).prg.forceResult = 0 ∧
    (t.m.lane l).prg.forces = (s.m.lane l).prg.forces.filter fun f => f.1 != (s.m.sel l v).prgForce) ∧
  Does (.forceClear l v) s (fun _ m =>
      let e := (m.sel l v).prgForce
      let x := (((m.lane l).prg.forces.find? (·.1 == e)).map fun f => f.2.target).getD 0xFFFFFFFF
      followForces l (dropForces l 0 (fun k _ => k == e) (forceEnd l x 0 m)))) ∧
  (mayClear (s.m.lane l).sys.mode = true → Ends (.forceClearAll l v) s (fun t => SameStores s t ∧
    (t.m.lane l).prg.forceResult = 0 ∧ (t.m.lane l).prg.forces = []) ∧
  Does (.forceClearAll l v) s (fun _ m => followForces l (dropForces l 2 (fun _ _ => true) (forceEnd l 0xFFFFFFFF 0 m)))) ∧
  (mayClear (s.m.lane l).sys.mode = false → Ends (.forceClear l v) s (fun t => SameStores s t ∧
    (t.m.lane l).prg = { (s.m.lane l).prg with forceResult := 2 }) ∧
  Does (.forceClear l v) s (fun _ m =>
      let e := (m.sel l v).prgForce
      forceEnd l ((((m.lane l).prg.forces.find? (·.1 == e)).map fun f => f.2.target).getD 0xFFFFFFFF) 2 m)) ∧
  (mayClear (s.m.lane l).sys.mode = false → Ends (.forceClearAll l v) s (fun t => SameStores s t ∧
    (t.m.lane l).prg = { (s.m.lane l).prg with forceResult := 2 }) ∧
  Does (.forceClearAll l v) s (fun _ m => forceEnd l 0xFFFFFFFF 2 m)))

/-- Jobs reach and start on a solver die: a descriptor under a lower claim is rejected and counted, one under the
latched claim and counter is queued; a free die starts the queued job with the earliest deadline; a payload goes to its
job (R20, R99 to R101). -/
def Obligations.JobsStartByDeadline : Prop := ∀ (s : State) (l : LaneId) (sd : Nat),
  (∀ (j : SlvJob) rest, s.m.mail = ⟨l.num, 2 + sd, .job j⟩ :: rest →
    j.claim < (s.m.sd sd).claim ∨ (j.claim = (s.m.sd sd).claim ∧ claimLane j.claim ≠ l) →
    Ends (.jobDescriptor l sd) s (fun t => SameStores s t ∧ t.m.mail = rest ∧
      t.m.sds = upd s.m.sds sd (fun x => { x with rejected := sat max32 (x.rejected + 1) }))) ∧
  (∀ (j : SlvJob) rest, s.m.mail = ⟨l.num, 2 + sd, .job j⟩ :: rest → j.claim = (s.m.sd sd).claim →
    claimLane j.claim = l → (s.m.sd sd).state ∈ [.asleep, .waking, .active] → (s.m.sd sd).confirmed = false →
    (j.imageCounter = (s.m.sd sd).bankCounter → Does (.jobDescriptor l sd) s fun _ m =>
      slvWatch (askBanks sd (domRequests l (2 + sd) engDoms .on (({ m with mail := rest } : Module).updSd sd fun x =>
        { x with queue := x.queue ++ [j], state := if x.state == .asleep then .waking else x.state })))) ∧
    (j.imageCounter ≠ (s.m.sd sd).bankCounter → Does (.jobDescriptor l sd) s fun _ m =>
      endQueued sd j { status := 10, p2 := 0xFFFFFFFF } { m with mail := rest })) ∧
  (∀ (j : SlvJob) rest, s.m.mail = ⟨l.num, 2 + sd, .job j⟩ :: rest → j.claim = (s.m.sd sd).claim →
    claimLane j.claim = l → (s.m.sd sd).state ∉ [.asleep, .waking, .active] →
    Ends (.jobDescriptor l sd) s (fun t => SameStores s t ∧ t.m.mail = rest ∧ t.m.sds = s.m.sds)) ∧
  (∀ (j : SlvJob) rest, s.m.mail = ⟨l.num, 2 + sd, .job j⟩ :: rest → j.claim = (s.m.sd sd).claim →
    claimLane j.claim = l → (s.m.sd sd).state ∈ [.asleep, .waking, .active] →
    (s.m.sd sd).confirmed = false → j.imageCounter = (s.m.sd sd).bankCounter → sd < s.m.sds.length →
    Ends (.jobDescriptor l sd) s (fun t => SameStores s t ∧ (t.m.sd sd).queue = (s.m.sd sd).queue ++ [j] ∧
      (t.m.sd sd).run = (s.m.sd sd).run)) ∧
  (sd < s.m.sds.length → (s.m.sd sd).run = none → (s.m.sd sd).powered = true →
    (s.m.sd sd).state ∈ [.waking, .active] → (s.m.sd sd).queue ≠ [] → (∀ j, j ∈ (s.m.sd sd).queue → j.payload = none) →
    Ends (.jobStart sd) s (fun t => SameStores s t ∧ (t.m.sd sd).state = .active ∧ ∃ r j, (t.m.sd sd).run = some r ∧
      j ∈ (s.m.sd sd).queue ∧ r.job.seq = j.seq ∧ r.job.deadlineUs = j.deadlineUs ∧ r.phase = .waitPayload ∧
      ∀ k, k ∈ (s.m.sd sd).queue → j.deadlineUs < k.deadlineUs ∨
        (j.deadlineUs = k.deadlineUs ∧ j.template ≤ k.template))) ∧
  (∀ j, (s.m.sd sd).run = none → (s.m.sd sd).powered = true → (s.m.sd sd).state ∈ [.waking, .active] →
    (s.m.sd sd).nextJob = some j → Does (.jobStart sd) s fun _ m => startJob sd j m) ∧
  (∀ q p rest r, s.m.mail = ⟨l.num, 2 + sd, .payload q p⟩ :: rest → (s.m.sd sd).run = some r →
    let give := fun (j : SlvJob) => if j.seq = q && j.lane == l then { j with payload := some p } else j
    let kept := fun (m : Module) => ({ m with mail := rest } : Module).updSd sd fun x =>
      { x with queue := x.queue.map give, run := x.run.map fun y => { y with job := give y.job } }
    sd < s.m.sds.length →
    (r.job.seq = q → r.phase = .waitPayload → Does (.payloadReceived l sd) s fun _ m => takePayload sd (kept m)) ∧
    (r.job.seq ≠ q ∨ r.phase ≠ .waitPayload → Does (.payloadReceived l sd) s fun _ m => kept m)) ∧
  ((s.m.sd sd).run.isSome = true → Ends (.jobStart sd) s (fun t => SameStores s t ∧ t.m.sds = s.m.sds)) ∧
  (∀ q p rest, s.m.mail = ⟨l.num, 2 + sd, .payload q p⟩ :: rest → (s.m.sd sd).run = none →
    Ends (.payloadReceived l sd) s (fun t => SameStores s t ∧ t.m.mail = rest ∧
      t.m.sds = upd s.m.sds sd (fun x => { x with
        run := none
        queue := x.queue.map fun j => if j.seq = q ∧ j.lane = l then { j with payload := some p } else j })))

/-- The phases of a running job: assembly is followed by preparation, or by the iterations of a batch; a factored
preconditioner and each iteration are followed by what the method's checks decide; a batch takes its engines'
completions into its collector; a job whose recomputed residual agrees commits its result, one whose blocks disagree
commits nothing and is counted (R79, R84 to R94, R109 to R116). -/
def Obligations.JobPhasesFollow : Prop := ∀ (s : State) (sd : Nat) (r : SlvRun),
  (s.m.sd sd).run = some r → r.job.abort = none → s.m.now ≤ r.job.deadlineUs * 1000 → sd < s.m.sds.length →
  (r.phase = .assembly → r.job.tmpl.cls ≠ 0 →
    Ends (.assemblyEnd sd) s (fun t => SameStores s t ∧ (t.m.sd sd).run.map SlvRun.phase =
      some (if r.job.tmpl.kind = 2 then .iterating else .preparation))) ∧
  (r.phase = .assembly → Does (.assemblyEnd sd) s fun _ m => assembleJob sd r m) ∧
  (r.phase = .preparation → Does (.preparationEnd sd) s fun _ m => prepareJob sd r m) ∧
  (∀ a p, r.phase = .preparation → a = at? (storedRows r.job.tmpl.problemList r.values) 0 [] →
    p = prepare r.job.tmpl.precond r.job.tmpl.cls r.job.tmpl.block r.job.tmpl.tau a →
    (∀ k, zeroRow a = some k → Does (.preparationEnd sd) s fun _ m =>
      endRun sd ({ r with firstBad := k }.ending 10 k none) m) ∧
    (zeroRow a = none → p.bad = false → p.count = 0 → Does (.preparationEnd sd) s fun _ m =>
      let r := { r with pre := p.pre, pivotCount := 0, pivotFirst := p.first }
      settleIter sd r ((r.job.tmpl.sys a r.b p.pre).begin r.x0) (livePivots r (updRun sd (fun _ => r) m)))) ∧
  (r.phase = .iterating → r.job.tmpl.kind ≠ 2 → Does (.iteration sd) s fun _ m =>
    settleIter sd r ((r.job.tmpl.sys (at? (storedRows r.job.tmpl.problemList r.values) 0 []) r.b r.pre).step r.it) m) ∧
  (∀ es, r.phase = .iterating → r.job.tmpl.kind = 2 → Does (.batchProblemComplete sd es) s fun _ m =>
    takeProblem sd ((forEach es (postProblem sd) m).updSd sd fun x => { x with
      collectMax := max x.collectMax x.collector.length })) ∧
  (r.phase = .verifying → r.job.tmpl.kind ≠ 2 →
    Ends (.verificationEnd sd 0) s (fun t => SameStores s t ∧ (t.m.sd sd).run = none ∧
      ∃ res, (r.job.requested, res) ∈ (t.m.sd sd).results ∧ res.jobSeq = r.job.seq ∧ res.status = r.endStatus ∧
        res.x = r.it.x ∧ res.commitUs = s.m.now / 1000)) ∧
  (∀ f, r.phase = .iterating → r.job.tmpl.kind = 2 → Does (.verificationEnd sd f) s fun _ m => verifyBatch sd m) ∧
  (∀ f, r.phase = .verifying → r.job.tmpl.kind ≠ 2 → Does (.verificationEnd sd f) s fun _ m => verifyJob sd r f m) ∧
  (∀ f, r.phase = .verifying → r.job.tmpl.kind ≠ 2 → f % 2 ^ 17 ≠ 0 →
    Ends (.verificationEnd sd f) s (fun t => SameStores s t ∧ (t.m.sd sd).run = none ∧
      (t.m.sd sd).results = (s.m.sd sd).results ∧
      (t.m.sd sd).verifyFails = sat max32 ((s.m.sd sd).verifyFails + 1)))

/-- Jobs as their lane sees them: a result counts once its copy is complete; an open job that its deadline passes ends
LATE and is counted against its template; an abort is latched by a running job (R102, R106, R112, R114).
Self-tests: a request from the active lane marks every engine in service of the selected die suspect; the last
engine of a full test that passes puts the die to sleep; an engine that fails is retired (R119, R120). -/
def Obligations.JobsAndSelfTestsEnd : Prop :=
  (∀ (s : State) (l : LaneId) (v : View) (sd : Nat),
  (∀ r, at? (s.m.lane l).slv.linkUp sd false = true → (s.m.sd sd).results.find? (fun r =>
      !(at? (s.m.lane l).slv.tpls (r.1 - 1) {}).copied && (at? (s.m.lane l).slv.tpls (r.1 - 1) {}).result == some r.2) =
      some r →
    Ends (.resultCopyDone l sd) s (fun t => OnlyLane l s t ∧
      (t.m.lane l).slv.tpls = upd (s.m.lane l).slv.tpls (r.1 - 1) fun x => { x with copied := true }) ∧
    Does (.resultCopyDone l sd) s (fun _ m => updTpl l r.1 (fun x => { x with copied := true }) m)) ∧
  (∀ k o, (s.m.lane l).slv.jobs.find? (·.requested == k) = some o → (s.m.sd (o.die.getD 2)).run = none →
    (s.m.sd (o.die.getD 2)).queue = [] → k - 1 < (s.m.lane l).slv.tpls.length →
    Ends (.deadlineExpiry l k) s (fun t => SameStores s t ∧ t.m.now = max s.m.now (o.deadlineUs * 1000) ∧
      (t.m.lane l).slv.jobs = (s.m.lane l).slv.jobs.filter (·.seq != o.seq) ∧
      (at? (t.m.lane l).slv.tpls (k - 1) {}).status = 6 ∧
      (at? (t.m.lane l).slv.tpls (k - 1) {}).miss = sat max32 ((at? (s.m.lane l).slv.tpls (k - 1) {}).miss + 1))) ∧
  (∀ k o, (s.m.lane l).slv.jobs.find? (·.requested == k) = some o →
    let ended := fun (m : Module) => recallJob l o.seq (clockTo (o.deadlineUs * 1000) m)
    let x := s.m.sd (o.die.getD 2)
    let queued := x.queue.find? fun j => j.seq == o.seq && j.lane == l
    (∀ j, queued = some j → Does (.deadlineExpiry l k) s fun _ m =>
      endQueued (o.die.getD 2) j { status := 6 } (ended m)) ∧
    (∀ r, queued = none → x.run = some r → r.job.seq = o.seq → r.job.lane = l → Does (.deadlineExpiry l k) s fun _ m =>
      endRun (o.die.getD 2) (r.ending 6 r.it.i none) (ended m)) ∧
    (queued = none → (∀ r, x.run = some r → ¬(r.job.seq = o.seq ∧ r.job.lane = l)) →
      Does (.deadlineExpiry l k) s fun _ m => report l 4 0x2001 o.requested o.seq 0
        (viewEnd l o.requested o.seq (lostEnd l o 6 0 (ended m)) (ended m)))) ∧
  (∀ w, Heard s l v → bitOf w 31 = false → Does (.slvAbort l v w) s fun _ m =>
    abortTemplate l .register (fld w 15 0) m) ∧
  (∀ w, Heard s l v → bitOf w 31 = true → Does (.slvAbort l v w) s fun _ m => abortAll l .register m) ∧
  (∀ w o r, Heard s l v → bitOf w 31 = false → (s.m.lane l).slv.jobs.find? (·.requested == fld w 15 0) = some o →
    (s.m.sd (o.die.getD 2)).run = some r → r.job.seq = o.seq → r.job.lane = l → r.job.abort = none →
    Ends (.slvAbort l v w) s (fun t => SameStores s t ∧ t.m.lane l = s.m.lane l ∧
      t.m.sds = upd s.m.sds (o.die.getD 2) (fun x => { x with
        run := x.run.map fun y => { y with job := { y.job with abort := some .register } } }))) ∧
  (Heard s l v → Does (.slvAbortAll l v) s fun _ m => abortAll l .register m)) ∧
  (∀ (s : State) (l : LaneId) (v : View) (sd : Nat),
  (Heard s l v → (s.m.sel l v).slvDie = sd → s.m.sdReach l sd = true →
    mkClaim (claimEpoch (s.m.lane l).red.claim) l = (s.m.sd sd).claim → s.m.active l = true →
    sd < s.m.sds.length →
    Ends (.selftestRequest l v) s (fun t => SameStores s t ∧ (t.m.sd sd).selftestReq = true ∧
      ∀ e, e < 17 → e ∉ (s.m.sd sd).retired → e ∈ (t.m.sd sd).suspect) ∧
    Does (.selftestRequest l v) s (fun _ m =>
        let x := m.sd sd
        let es := (List.range 17).filter fun e => !x.retired.contains e
        let m := markSuspect sd es (m.updSd sd fun x => { x with selftestReq := true })
        if x.run.isNone && x.queue.isEmpty && (x.state == .asleep || x.state == .active) then slvWatch (domRequests l
          (2 + sd) engDoms .on m) else m)) ∧
  (∀ e, sd < s.m.variant.nSd → (s.m.sd sd).powered = true →
    (s.m.sd sd).state ∈ [.asleep, .waking, .active] → e ∈ (s.m.sd sd).suspect → (s.m.sd sd).queue = [] →
    (s.m.sd sd).run = none → e ∉ (s.m.sd sd).retired →
    Ends (.selfTestEnd sd e true) s (fun t => SameStores s t ∧ e ∉ (t.m.sd sd).suspect ∧
      (t.m.sd sd).retired = (s.m.sd sd).retired) ∧
    Does (.selfTestEnd sd e true) s fun _ m => sdFree sd ((reportSd sd 4 0x200B (sdId sd) e 0 ((m.updSd sd fun x =>
      { x with testing := x.testing.filter (· != e) }).updSd sd fun x =>
      { x with suspect := x.suspect.filter (· != e) })).updSd sd fun x =>
      if x.suspect.isEmpty then { x with selftestReq := false } else x)) ∧
  (∀ e, sd < s.m.sds.length → sd < s.m.variant.nSd → (s.m.sd sd).powered = true → (s.m.sd sd).state = .selfTest →
    (s.m.sd sd).testing = [e] → (s.m.sd sd).suspect = [] → (s.m.sd sd).parkReq = false →
    (s.m.sd sd).released = true →
    Ends (.selfTestEnd sd e true) s (fun t => SameStores s t ∧ (t.m.sd sd).state = .asleep ∧
      (t.m.sd sd).testing = [] ∧ (t.m.sd sd).retired = (s.m.sd sd).retired)) ∧
  (∀ e, sd < s.m.sds.length → sd < s.m.variant.nSd → (s.m.sd sd).powered = true → (s.m.sd sd).state = .selfTest →
    e ∈ (s.m.sd sd).testing → e ∉ (s.m.sd sd).retired →
    Ends (.selfTestEnd sd e false) s (fun t => SameStores s t ∧ e ∈ (t.m.sd sd).retired ∧
      e ∉ (t.m.sd sd).suspect)))

/-- Field channels: at its tick a die sends one frame under its latched claim to each lane that hears it; a fault, a
clear, an end of travel, of a turn or of a safe drive acts on the outputs named; a shutdown marks its group and a warning
opens nothing; a low rail is kept and told; a sensor supply's limit shows at its connector's channels; an encoder's edge
moves its count (R30, R172, R174, R176, R178 to R181, R185). -/
def Obligations.FieldEventsAct : Prop := ∀ (s : State) (d ch : Nat), s.m.fdUp d = true → ch < 64 →
  (s.m.fd d).chans.length = 64 →
  (∀ x, Ends (.inputFrameTick d x) s (fun t => SameStores s t ∧ t.m.now = max s.m.now (s.m.gridAfter 100000 (s.m.fd d).tick) ∧
    (t.m.fd d).tick = t.m.now ∧ ∃ f : InFrame, f.die = d ∧ f.tick = t.m.now ∧ f.claim = (s.m.fd d).claim ∧
      t.m.mail = s.m.mail ++ (s.m.frameLanes d).map fun l => (⟨4 + d, l.num, .frame f⟩ : Mail)) ∧
  Does (.inputFrameTick d x) s (fun _ m =>
      let m := clockTo (m.gridAfter 100000 (m.fd d).tick) m
      let m := judgePulses d (sampleDie d x m)
      let m := forEach (List.range 64) (fun c => frameChan d c ((x.chans.find? (·.1 == c)).map (·.2))) m
      let m := frameDie d x m
      let f := frameOf d m
      let sent := m.frameLanes d != []
      let m := m.updFd d fun fd => { fd with
        tick := m.now, relSlots := if sent then [] else fd.relSlots,
        chans := fd.chans.map fun c => { c with encErr := false } }
      forEach (m.frameLanes d) (fun l => send (4 + d) l.num (.frame f)) m)) ∧
  (∀ b, Does (.overcurrentTrip d ch b) s fun _ m => faultOuts d ch (bridgeOuts ((s.m.fd d).chanCfg d ch).function b) 0 m) ∧
  (∀ o, ((s.m.fd d).chanCfg d ch).function = 3 → o < 4 →
    Does (.currentLimitTimeout d ch o) s fun _ m => faultOuts d ch [o] 1 m) ∧
  (∀ b, (s.m.fd d).loadTested d ch b = true → Does (.openLoadDetected d ch b) s fun _ m =>
    faultOuts d ch (bridgeOuts ((s.m.fd d).chanCfg d ch).function b) 2 m) ∧
  (∀ g, g < 8 → (s.m.fd d).brg.length = 8 →
    Ends (.thermalShutdown d g) s (fun t => SameStores s t ∧ (at? (t.m.fd d).brg g {}).shutdown = true ∧
      (at? (t.m.fd d).brg g {}).warn = true) ∧
    Does (.thermalShutdown d g) s (fun _ m =>
        let m := m.updFd d fun fd => { fd with
          brg := upd fd.brg g fun b => { b with shutdown := true, warn := true, temp := max b.temp 1600 } }
        raiseFd d 2 (forEach (List.range 8) (fun k m => faultOuts d (8 * g + k) (List.range (outsOf
          ((m.fd d).chanCfg d (8 * g + k)).function)) 3 m) m))) ∧
  (∀ g x, g < 8 → 1350 ≤ x → Ends (.thermalWarning d g x) s (fun t => SameStores s t ∧ (t.m.fd d).chans = (s.m.fd d).chans ∧
    (t.m.fd d).brg = upd (s.m.fd d).brg g (fun b => { b with warn := true, temp := x })) ∧
  Does (.thermalWarning d g x) s (fun _ m =>
      reportFd d 6 0x4003 (4 + d) g x (raiseFd d 2 (m.updFd d fun fd => { fd with
        brg := upd fd.brg g fun b => { b with warn := true, temp := x } })))) ∧
  (∀ o, ((s.m.fd d).chanCfg d ch).function = 2 → ((s.m.fd d).outp ch o).now.isDrive = true →
    Does (.endOfTravel d ch o) s fun _ m => refreshOut d ch o (m.updOut d ch o fun x => { x with
      endOut := true, endCmd := x.now, safeDriveDone := x.safeDriveDone || x.safeDriveAt.isSome })) ∧
  (∀ o, ((s.m.fd d).outp ch o).turning.isSome = true → Does (.directionChangeEnd d ch o) s fun _ m =>
    refreshOut d ch o (clockTo (((s.m.fd d).outp ch o).lastDriveEnd + 20000000) m)) ∧
  (∀ o a, ((s.m.fd d).outp ch o).safeDriveAt = some a → (s.m.fd d).safeHeld d ch o = true →
    Does (.safeDriveEnd d ch o) s fun _ m =>
      refreshOut d ch o ((clockTo (a + ((s.m.fd d).chanCfg d ch).safeDriveTime * 1000000) m).updOut d ch o fun x =>
        { x with safeDriveDone := true })) ∧
  (∀ mv, (s.m.fd d).railLow = false → mv < 6000 → Ends (.railLow d mv) s (fun t => SameStores s t ∧ (t.m.fd d).railLow = true ∧
    (t.m.fd d).railMv = mv ∧ (t.m.fd d).irq = (s.m.fd d).irq ||| 8) ∧
  Does (.railLow d mv) s (fun _ m =>
      reportFd d 6 0x4007 (4 + d) mv 0 (raiseFd d 8 (refreshFd d
        (m.updFd d fun fd => { fd with railLow := true, railMv := mv }))))) ∧
  (∀ mv, (s.m.fd d).railLow = true → 6500 < mv → Does (.railRestored d mv) s fun _ m =>
    refreshFd d (m.updFd d fun x => { x with railLow := false, railMv := mv })) ∧
  (∀ h ma on, h < 2 → (at? (s.m.fd d).supplies h {}).limit ≠ on →
    on = false ∨ (at? (s.m.fd d).supplies h {}).on = true ∧ (s.m.fd d).supplyMax h ≤ ma →
    Ends (.sensorSupplyLimit d h ma on) s (fun t => SameStores s t ∧
      (t.m.fd d).supplies = upd (s.m.fd d).supplies h (fun x => { x with limit := on, ma := ma }) ∧
      (t.m.fd d).chans = (s.m.fd d).chans.zipIdx.map fun x =>
        if x.2 / 32 = h then { x.1 with supplyLimit := on } else x.1) ∧
    Does (.sensorSupplyLimit d h ma on) s (fun _ m =>
        let m := m.updFd d fun fd => { fd with
          supplies := upd fd.supplies h fun x => { x with limit := on, ma := ma },
          chans := fd.chans.zipIdx.map fun x => if x.2 / 32 = h then { x.1 with supplyLimit := on } else x.1 }
        reportFd d 6 0x4004 (2 + 2 * d + h) ma (b2n on) (if on then raiseFd d 4 m else m))) ∧
  (∀ a b, Ends (.encoderEdge d ch a b) s (fun t => SameStores s t ∧ (t.m.chan d ch).encA = a ∧ (t.m.chan d ch).encB = b ∧
    (t.m.chan d ch).enc = (s.m.chan d ch).enc + BitVec.ofInt 32
      (encoderStep ((s.m.fd d).chanCfg d ch).encMode (s.m.chan d ch).encA (s.m.chan d ch).encB a b).1) ∧
  Does (.encoderEdge d ch a b) s (fun _ m =>
      let c := m.chan d ch
      let e := encoderStep ((m.fd d).chanCfg d ch).encMode c.encA c.encB a b
      let m := m.updChan d ch fun c => { c with
        encA := a, encB := b, enc := c.enc + BitVec.ofInt 32 e.1, encErr := c.encErr || e.2,
        encErrRep := c.encErrRep || e.2 }
      if e.2 && !c.encErrRep then reportFd d 6 0x4005 (64 * d + ch) 3 2 m else m)) ∧
  (∀ l v w, Heard s l v → (s.m.sel l v).fldDie = d → (s.m.sel l v).fldCh = ch → s.m.fdReach l d = true →
    (s.m.fd d).claim = (s.m.lane l).red.claim → claimLane (s.m.lane l).red.claim = l → (s.m.lane l).red.holds = true →
    Does (.fldChFaultClear l v w) s fun _ m => clearFaults d ch (fld w 3 0) m)

/-- Ranks 1 to 3 of the outputs' order: whatever a command asks, an output of a die without supply, with a low rail, with
its bridges off, with a fault or with no configuration carries OFF once the die's outputs are brought to their values
(R176, R180, R182). -/
def Obligations.OpenOutputsCarryNothing : Prop := ∀ (m : Module) (d c n : Nat), d < m.fds.length → c < 64 → n < 4 →
  (m.fd d).chans.length = 64 → (∀ x, x ∈ (m.fd d).chans → x.outs.length = 4) →
  (m.fd d).openBy m.supplyGood c n = true → (((refreshFd d m).fd d).outp c n).now = .off

/-- A fault on an output keeps its cause until it is cleared, takes the output's last command away and opens its
switches; the channel keeps the cause too (R180, R181). -/
def Obligations.FaultsOpenTheirOutputs : Prop := ∀ (m : Module) (d c n cause : Nat) (ns : List Nat),
  d < m.fds.length → c < 64 → (m.fd d).chans.length = 64 → (at? (m.fd d).chans c {}).outs.length = 4 → n ∈ ns → n < 4 →
  cause < 4 →
  let t := faultOuts d c ns cause m
  nbit ((t.fd d).outp c n).fault cause = true ∧ ((t.fd d).outp c n).cmd = .off ∧ ((t.fd d).outp c n).now = .off ∧
    nbit (t.chan d c).fault cause = true

/-- Axis commands: a record is acted on at the axis's next profile update, after the faults of the interval just ended.
One that is judged sound is acknowledged and acted on: a move waits for its grant, a replacement takes the waiting move's
place, a stop takes it away, ramps wait for the next move, a position is taken as the reference, and a fault that is
acknowledged ends; a record that is not is counted with its reason (R192, R196 to R205, R209). -/
def Obligations.AxisCommandsAct : Prop :=
  (∀ (s : State) (d ch : Nat) (rec : Bytes), s.m.fdUp d = true → (s.m.axis d ch).cmd = some rec →
  (leAt rec 0 1 = 1 → Does (.moveAbs d ch) s fun _ m => axisNext d ch m) ∧
  (leAt rec 0 1 = 2 → Does (.moveRel d ch) s fun _ m => axisNext d ch m) ∧
  (leAt rec 0 1 = 3 → Does (.replaceAbs d ch) s fun _ m => axisNext d ch m) ∧
  (leAt rec 0 1 = 4 → Does (.axisStop d ch) s fun _ m => axisNext d ch m) ∧
  (leAt rec 0 1 = 5 → Does (.setRamps d ch) s fun _ m => axisNext d ch m) ∧
  (leAt rec 0 1 = 6 → Does (.setPosition d ch) s fun _ m => axisNext d ch m) ∧
  (leAt rec 0 1 = 7 → Does (.ackFault d ch) s fun _ m => axisNext d ch m)) ∧
  (∀ (s : State) (d ch : Nat) (rec : Bytes), s.m.fdUp d = true → d < s.m.fds.length →
  ch < (s.m.fd d).axes.length → (s.m.axis d ch).cmd = some rec → (s.m.fd d).inComm = false →
  let a := s.m.axis d ch
  let off := a.pCmd - a.pEnc (s.m.chan d ch).enc
  let target := leIntAt rec 4 4
  let speed := leAt rec 8 4
  let ramps := (leAt rec 12 4, leAt rec 16 4)
  let code := a.judge (leAt rec 0 1) target speed ramps.1 ramps.2
  a.nextItem = none → off.natAbs ≤ a.item.window →
  let now := max s.m.now (s.m.gridAfter 100000 (max (s.m.fd d).updAt a.updAt))
  let seen : Axis := { a with ackSeq := leAt rec 1 1, cmd := none, updAt := now, dev := off, beyond := 0 }
  (leAt rec 0 1 = 1 → code = 0 → a.state = .standstill → a.queue = [] → (a.moveTo target speed).target ≠ a.pCmd →
    Ends (.moveAbs d ch) s (fun t => SameStores s t ∧ t.m.now = now ∧ t.m.axis d ch = { seen with
      queue := [a.moveTo target speed], state := .waiting, reqAt := now, granted := false })) ∧
  (leAt rec 0 1 = 2 → code = 0 → a.state = .standstill → a.queue = [] →
    (a.moveTo (a.pCmd + target) speed).target ≠ a.pCmd →
    Ends (.moveRel d ch) s (fun t => SameStores s t ∧ t.m.now = now ∧ t.m.axis d ch = { seen with
      queue := [a.moveTo (a.pCmd + target) speed], state := .waiting, reqAt := now, granted := false })) ∧
  (leAt rec 0 1 = 3 → code = 0 → a.state = .waiting → a.granted = false → (a.moveTo target speed).target ≠ a.pCmd →
    Ends (.replaceAbs d ch) s (fun t => SameStores s t ∧ t.m.axis d ch = { seen with
      queue := [a.moveTo target speed] })) ∧
  (leAt rec 0 1 = 4 → code = 0 → a.state = .waiting → a.granted = false →
    Ends (.axisStop d ch) s (fun t => SameStores s t ∧
      t.m.axis d ch = { seen with queue := [], state := .standstill })) ∧
  (leAt rec 0 1 = 5 → code = 0 → a.state = .standstill → a.plan = none →
    Ends (.setRamps d ch) s (fun t => SameStores s t ∧
      t.m.axis d ch = { seen with pending := some ramps, accPending := true })) ∧
  (leAt rec 0 1 = 6 → code = 0 → Ends (.setPosition d ch) s (fun t => SameStores s t ∧
    (t.m.axis d ch).pCmd = target ∧ (t.m.axis d ch).pRef = target ∧ (t.m.axis d ch).cRef = (s.m.chan d ch).enc ∧
    (t.m.axis d ch).referenced = true ∧ (t.m.axis d ch).ackSeq = leAt rec 1 1)) ∧
  (leAt rec 0 1 = 7 → a.state = .fault → a.stall = true ∨ a.limit = true → ((s.m.fd d).outp ch 0).fault = 0 →
    Ends (.ackFault d ch) s (fun t => SameStores s t ∧ (t.m.axis d ch).state = .standstill ∧
      (t.m.axis d ch).stall = false ∧ (t.m.axis d ch).limit = false ∧ (t.m.axis d ch).ackSeq = leAt rec 1 1)) ∧
  (leAt rec 0 1 = 1 → code ≠ 0 → a.state ≠ .moving → a.state ≠ .fault →
    Ends (.moveAbs d ch) s (fun t => SameStores s t ∧ (t.m.axis d ch).ackSeq = leAt rec 1 1 ∧
      (t.m.axis d ch).rejectCount = sat 65535 (a.rejectCount + 1) ∧ (t.m.axis d ch).rejectReason = code ∧
      (t.m.axis d ch).cmd = none ∧ (t.m.axis d ch).pCmd = a.pCmd)))

/-- Axis events: at its update a die brings every axis on in channel order; a deviation that has lain beyond its window
for the updates given stops the axis in FAULT and is counted; the first update after the hold time leaves a quiet axis at
STANDSTILL; a write of the fault bits acknowledges them (R192, R206, R207, R209, R210).
Admission: the active lane's arbiter grants free slots of the budget to the waiting axes of dies it reaches, in their
order; a grant of the die's claim goes to an axis that still waits, and otherwise its slot is given back (R211 to R213,
R215). -/
def Obligations.AxisEventsAct : Prop :=
  (∀ (s : State) (d ch : Nat), s.m.fdUp d = true → d < s.m.fds.length → ch < (s.m.fd d).axes.length →
  let a := s.m.axis d ch
  let off := a.pCmd - a.pEnc (s.m.chan d ch).enc
  (Does (.profileUpdate d) s fun _ m =>
    let now := max s.m.now (s.m.gridAfter 100000 (s.m.fd d).updAt)
    forEach (List.range 64) (axisUpdate d) (({ m with now := now } : Module).updFd d fun x => { x with updAt := now })) ∧
  (a.stallCount < ((axisNext d ch s.m.fresh).axis d ch).stallCount ∨
    (a.stall = false ∧ ((axisNext d ch s.m.fresh).axis d ch).stall = true) →
    Does (.axisStall d ch) s fun _ m => axisNext d ch m) ∧
  (a.tested = true → a.state ≠ .moving → a.item.window < off.natAbs → a.item.windowUpdates ≤ a.beyond + 1 →
    a.stall = false → a.cmd = none → a.nextItem = none →
    Ends (.axisStall d ch) s (fun t => SameStores s t ∧ (t.m.axis d ch).state = .fault ∧ (t.m.axis d ch).stall = true ∧
      (t.m.axis d ch).stallCount = sat max32 (a.stallCount + 1) ∧ (t.m.axis d ch).queue = [] ∧ (t.m.axis d ch).speed = 0)) ∧
  (a.state = .holding → Does (.holdTimeExpiry d ch) s fun _ m =>
    axisNext d ch (clockTo (cdiv (a.holdAt + a.item.holdTime * 1000000) 100000 * 100000) m)) ∧
  (a.state = .holding → a.cmd = none → a.nextItem = none → off.natAbs ≤ a.item.window →
    Ends (.holdTimeExpiry d ch) s (fun t => SameStores s t ∧ (t.m.axis d ch).state = .standstill ∧
      (t.m.axis d ch).queue = [] ∧ a.holdAt + a.item.holdTime * 1000000 ≤ t.m.now)) ∧
  (∀ l v w, Heard s l v → (s.m.sel l v).motAxis = 64 * d + ch → ch < 64 → s.m.fdReach l d = true →
    (s.m.fd d).claim = (s.m.lane l).red.claim → claimLane (s.m.lane l).red.claim = l → (s.m.lane l).red.holds = true →
    Does (.motFaultClear l v w) s fun _ m => axisAck d ch (fld w 1 0) 1 m)) ∧
  (∀ (s : State) (l : LaneId) (d : Nat),
  ((s.m.lane l).red.holds = true → (s.m.lane l).pwr.step < 2 → (s.m.lane l).mot.await = [] →
    Ends (.admissionRound l) s (fun t =>
      let heard := (s.m.lane l).mot.requests.filter fun x => s.m.fdReach l (x.1 / 64) && !(s.m.fd (x.1 / 64)).vacant
      let pick := (heard.foldr insertReq []).take ((s.m.lane l).budget - (s.m.lane l).mot.granted.length)
      SameStores s t ∧ t.m.fds = s.m.fds ∧
      (t.m.lane l).mot.granted = (s.m.lane l).mot.granted ++ pick.map (·.1) ∧
      t.m.mail = s.m.mail ++ pick.map fun x => (⟨l.num, 4 + x.1 / 64, .grant (s.m.lane l).red.claim (x.1 % 64)⟩ : Mail)) ∧
    Does (.admissionRound l) s (fun _ m =>
        let L := m.lane l
        let order := (L.mot.requests.filter fun x => m.fdReach l (x.1 / 64) && !(m.fd
          (x.1 / 64)).vacant).foldr insertReq []
        let m := forEach (order.take (L.budget - L.mot.granted.length)) (fun x m =>
          (send l.num (4 + x.1 / 64) (.grant L.red.claim (x.1 % 64)) m).updLane l fun L => { L with mot := { L.mot with
            requests := L.mot.requests.filter (·.1 != x.1), granted := L.mot.granted ++ [x.1]
            waitMax := max L.mot.waitMax ((m.now - x.2.1) / 1000) } }) m
        m.updLane l fun L => { L with mot := { L.mot with peak := max L.mot.peak L.mot.granted.length } })) ∧
  (∀ src claim ch rest, s.m.mail = ⟨src, 4 + d, .grant claim ch⟩ :: rest → s.m.fdReach (laneOfDie src) d = true →
    claim = (s.m.fd d).claim → claimLane claim = laneOfDie src → (s.m.axis d ch).state = .waiting →
    (s.m.fd d).vacant = false →
    Ends (.admissionGrant d) s (fun t => SameStores s t ∧ t.m.mail = rest ∧
      t.m.fds = upd s.m.fds d (fun f => { f with axes := upd f.axes ch fun a => { a with granted := true } })) ∧
    Does (.admissionGrant d) s (fun _ m =>
        ({ m with mail := rest } : Module).updAxis d ch fun a => { a with granted := true })) ∧
  (∀ src claim ch rest, s.m.mail = ⟨src, 4 + d, .grant claim ch⟩ :: rest → s.m.fdReach (laneOfDie src) d = true →
    claim = (s.m.fd d).claim → claimLane claim = laneOfDie src →
    (s.m.axis d ch).state ≠ .waiting ∨ (s.m.fd d).vacant = true →
    Ends (.admissionGrant d) s (fun t => SameStores s t ∧ t.m.mail = rest ∧
      t.m.fds = upd s.m.fds d (fun f => { f with relSlots := f.relSlots ++ [ch] })) ∧
    Does (.admissionGrant d) s (fun _ m =>
        ({ m with mail := rest } : Module).updFd d fun fd => { fd with relSlots := fd.relSlots ++ [ch] })) ∧
  (∀ src claim ch rest, s.m.mail = ⟨src, 4 + d, .grant claim ch⟩ :: rest →
    s.m.fdReach (laneOfDie src) d = false ∨ claim ≠ (s.m.fd d).claim ∨ claimLane claim ≠ laneOfDie src →
    Ends (.admissionGrant d) s (fun t => SameStores s t ∧ t.m.mail = rest ∧ t.m.fds = s.m.fds) ∧
    Does (.admissionGrant d) s (fun _ m => { m with mail := rest })))

/-- The admission budget is never exceeded by a grant: a round that begins within the budget ends within it, and none is
made from the governor's second step on (R211, R214). -/
def Obligations.AdmissionKeepsTheBudget : Prop := ∀ (s t : State) (l : LaneId),
  exec (.admissionRound l) s = .next t →
  ((s.m.lane l).mot.granted.length ≤ (s.m.lane l).budget → (t.m.lane l).mot.granted.length ≤ (t.m.lane l).budget) ∧
  (2 ≤ (s.m.lane l).pwr.step → (t.m.lane l).mot.granted = (s.m.lane l).mot.granted ∧ t.m.mail = s.m.mail)

/-- Loop slots: a record is acted on by its operation: a SET that is judged sound waits for the next sample, DISABLE turns the
slot off, RESET_PLAUS clears PLAUS; a sample is evaluated at its instant; a residual beyond its bound for M samples raises
PLAUS and the fallback (R219, R223, R227, R228, R230).
The two-position control of a slot: within the band between its limits it stays as it is, and a wanted switch that
comes before its minimum time has elapsed is held (R223, R224). -/
def Obligations.LoopsAct : Prop :=
  (∀ (s : State) (d k : Nat), s.m.fdUp d = true → k < (s.m.fd d).loops.length →
  ((s.m.fd d).loopCfg d k).kind ≠ 0 →
  (∀ rec, (s.m.loop d k).cmd = some rec → leAt rec 0 1 = 1 → leIntAt rec 12 4 < leIntAt rec 8 4 →
    (s.m.loop d k).mode = .auto → Ends (.loopSet d k) s (fun t => SameStores s t ∧ (t.m.loop d k).mode = .auto ∧
      (t.m.loop d k).setNext = some (leIntAt rec 4 4, leIntAt rec 8 4, leIntAt rec 12 4) ∧
      (t.m.loop d k).ackSeq = leAt rec 1 1 ∧ (t.m.loop d k).cmd = none ∧ (t.m.loop d k).sp = (s.m.loop d k).sp)) ∧
  (∀ rec, (s.m.loop d k).cmd = some rec → leAt rec 0 1 = 1 → leIntAt rec 8 4 ≤ leIntAt rec 12 4 →
    Ends (.loopSet d k) s (fun t => SameStores s t ∧ t.m.loop d k = { s.m.loop d k with
      ackSeq := leAt rec 1 1, cmd := none, rejects := sat 65535 ((s.m.loop d k).rejects + 1) })) ∧
  (∀ rec, (s.m.loop d k).cmd = some rec → leAt rec 0 1 = 2 → Ends (.loopDisable d k) s (fun t => SameStores s t ∧
    (t.m.loop d k).mode = .disabled ∧ (t.m.loop d k).on = false ∧ (t.m.loop d k).ackSeq = leAt rec 1 1)) ∧
  (∀ rec, (s.m.loop d k).cmd = some rec → leAt rec 0 1 = 3 → Ends (.resetPlaus d k) s (fun t => SameStores s t ∧
    (t.m.loop d k).plaus = false ∧ (t.m.loop d k).ackSeq = leAt rec 1 1)) ∧
  (∀ rec, (s.m.loop d k).cmd = some rec →
    (leAt rec 0 1 = 1 → Does (.loopSet d k) s fun _ m => loopAct d k rec m) ∧
    (leAt rec 0 1 = 2 → Does (.loopDisable d k) s fun _ m => loopAct d k rec m) ∧
    (leAt rec 0 1 = 3 → Does (.resetPlaus d k) s fun _ m => loopAct d k rec m)) ∧
  (∀ x amb, (s.m.fd d).atRest s.m.supplyGood = false →
    let c := (s.m.fd d).loopCfg d k
    Does (.loopSample d k x amb) s fun _ m =>
      let now := max s.m.now (s.m.gridFrom (s.m.loopOrigin d) (c.div * 100000) (s.m.loop d k).sampleAt)
      let seen := loopEval d k x amb (loopTake d k (fun _ => true)
        (({ m with now := now } : Module).updLoop d k fun y => { y with sampleAt := now }))
      if c.kind = 1 then refreshOut d c.outCh c.outN seen else seen) ∧
  (∀ x amb, (s.m.fd d).atRest s.m.supplyGood = false → (s.m.loop d k).cmd = none → ((s.m.fd d).loopCfg d k).kind = 2 →
    Does (.loopSample d k x amb) s fun _ m =>
      let now := max s.m.now (s.m.gridFrom (s.m.loopOrigin d) (((s.m.fd d).loopCfg d k).div * 100000) (s.m.loop d k).sampleAt)
      loopEval d k x amb (({ m with now := now } : Module).updLoop d k fun y => { y with sampleAt := now })) ∧
  (nbit ((s.m.fd d).loopCfg d k).flags 3 = true → (s.m.loop d k).plaus = false → (s.m.loop d k).mode = .auto →
    ((s.m.loop d k).r.natAbs : Int) > ((s.m.fd d).loopCfg d k).rMax → ((s.m.fd d).loopCfg d k).m ≤ (s.m.loop d k).count →
    Ends (.loopPlaus d k) s (fun t => SameStores s t ∧ (t.m.loop d k).plaus = true ∧ (t.m.loop d k).mode = .fallback) ∧
    Does (.loopPlaus d k) s (fun _ m =>
        let c := (m.fd d).loopCfg d k
        let u := (m.fd d).loopU d k
        let m := (raisePlaus d k m).updLoop d k fun x => if x.mode == .fallback then x.fallbackState m.now c u else x
        if c.kind = 1 then refreshOut d c.outCh c.outN m else m)) ∧
  (∀ l v w, Heard s l v → (s.m.sel l v).lpSlot = 64 * d + k → k < 64 → s.m.fdReach l d = true →
    (s.m.fd d).claim = (s.m.lane l).red.claim → claimLane (s.m.lane l).red.claim = l → (s.m.lane l).red.holds = true →
    Does (.lpFlagsPlausClear l v w) s fun _ m => lpFlagsWrite d k w m)) ∧
  (∀ (x : LoopSlot) (c : LoopCfg) (now : Nat) (e : Int) (u : Bool),
  (x.eOff < e → e < x.eOn → x.want e = x.on) ∧ (x.on = false → x.eOn ≤ e → x.want e = true) ∧
  (x.on = true → e ≤ x.eOff → x.want e = false) ∧
  (∀ a, c.kind ≠ 1 → x.on = true → x.onSince = some a → now < a + c.minOnMs * 1000000 →
    (x.turn now c u false).on = true ∧ (x.turn now c u false).minHold = true ∧
    (x.turn now c u false).switches = x.switches) ∧
  (∀ a, c.kind ≠ 1 → x.on = false → x.offSince = some a → now < a + c.minOffMs * 1000000 →
    (x.turn now c u true).on = false ∧ (x.turn now c u true).minHold = true))

/-- Metering: a block ends at its instant for every point of a die; an integrator settles 3 s after power-up; a flow pulse
adds its volume, and its energy where the temperatures allow it, once a block that ends at that instant is over; a demand
interval closes for every point in use, and then a reset that waited clears the maximum; a pulse
output starts a pulse once its energy is there, no earlier than 50 ms after the last, counts it, and ends it after 30 ms
(R241, R243, R247, R250, R251, R253 to R255, R268). -/
def Obligations.MeteringEventsAct : Prop := ∀ (s : State) (d : Nat), s.m.fdUp d = true →
  (∀ x, (s.m.fd d).atRest s.m.supplyGood = false → Does (.meteringBlockEnd d x) s fun _ m =>
    blockEnd d (sampleDie d x (clockTo (m.gridAfter 200000000 (m.fd d).blockAt) m))) ∧
  (∀ x, (s.m.fd d).atRest s.m.supplyGood = false →
    Ends (.meteringBlockEnd d x) s (fun t => SameStores s t ∧ (t.m.fd d).blockAt = t.m.now ∧
      t.m.now = max s.m.now (s.m.gridAfter 200000000 (s.m.fd d).blockAt))) ∧
  (∀ p, (at? (s.m.fd d).mps p {}).settling = true → Ends (.settlingEnd d p) s (fun t => SameStores s t ∧
    t.m.now = max s.m.now ((s.m.fd d).upAt + 3000000000) ∧
    t.m.fds = upd s.m.fds d (fun f => { f with mps := upd f.mps p fun a => { a with settling := false } })) ∧
  Does (.settlingEnd d p) s (fun _ m =>
      (clockTo ((m.fd d).upAt + 3000000000) m).updMp d p fun a => { a with settling := false })) ∧
  (∀ h rev, ((s.m.fd d).hpCfg d h).kind ≠ 0 → s.m.injectedPoint d true h = false →
    let b := (blocksFirst [d] s.m.fresh).fd d
    h < b.hps.length → (at? b.hps h {}).regs.length = 6 →
    let k := if rev = true ∧ ((s.m.fd d).chanCfg d ((s.m.fd d).hpCfg d h).ch).encMode = 3 then 5 else 4
    let vol := f64Scale ((f64OfInt ((s.m.fd d).hpCfg d h).pulseVol).div (f64OfInt 1000)).v (2 ^ 32) 1
    Ends (.flowPulse d h rev) s (fun t => SameStores s t ∧ at? (at? (t.m.fd d).hps h {}).regs k {} =
      ((at? (at? b.hps h {}).regs k {}).add vol).1) ∧
    Does (.flowPulse d h rev) s (fun _ m =>
        let i := (m.fd d).hpCfg d h
        let m := judgeHeat d h (blocksFirst [d] m)
        let x := at? (m.fd d).hps h {}
        let back := rev && ((m.fd d).chanCfg d i.ch).encMode == 3
        let e := if x.tempRange then 0 else ((f64OfNano i.pulseVol).mul (fl x.eUnit)).v
        let eIdx := (if back then 2 else 0) + (if below0 e then 1 else 0)
        let vIdx := if back then 5 else 4
        let m := addReg d true h vIdx vol m
        let m := if x.tempRange then m else addReg d true h eIdx (toMwh e) m
        let eJ := f64ScaleI e (2 ^ 32) 1
        m.updHp d h fun x => { x with
          reverse := back,
          blockInc := upd (upd x.blockInc vIdx (· + vol)) eIdx (· + if x.tempRange then 0 else toMwh e),
          recent := (x.recent.filter fun r => decide (m.now < r.1 + 1000000000)) ++
            [(m.now, if back then -(i.pulseVol : Int) else i.pulseVol, if back then -eJ else eJ)] })) ∧
  (∀ h rev, ((s.m.fd d).hpCfg d h).kind ≠ 0 → s.m.injectedPoint d true h = false →
    let b := (blocksFirst [d] s.m.fresh).fd d
    h < b.hps.length → (at? b.hps h {}).regs.length = 6 → (at? b.hps h {}).tempRange = false →
    heatBad b ((s.m.fd d).hpCfg d h) (at? b.hps h {}) = false →
    let e := ((f64OfNano ((s.m.fd d).hpCfg d h).pulseVol).mul (fl (at? b.hps h {}).eUnit)).v
    let k := (if rev = true ∧ ((s.m.fd d).chanCfg d ((s.m.fd d).hpCfg d h).ch).encMode = 3 then 2 else 0) +
      (if below0 e = true then 1 else 0)
    Ends (.flowPulse d h rev) s (fun t => SameStores s t ∧ at? (at? (t.m.fd d).hps h {}).regs k {} =
      ((at? (at? b.hps h {}).regs k {}).add (toMwh e)).1)) ∧
  ((s.m.fd d).tbValid = true → (s.m.fd d).metCfg.demandMin ≠ 0 → Ends (.demandBoundary d) s (fun t => SameStores s t ∧
    t.m.now = max s.m.now (s.m.fd d).boundary ∧ (t.m.fd d).demandAt = t.m.now ∧
    (t.m.fd d).mps = (s.m.fd d).mps.zipIdx.map fun a =>
      let x := if ((s.m.fd d).mpCfg d a.2).kind = 0 then a.1
        else { a.1 with demand := a.1.demand.close ((s.m.fd d).modS t.m.now) (s.m.fd d).metCfg.demandMin }
      if a.2 < 32 ∧ x.demand.mdReset = true then
        { x with demand := { x.demand with max := 0, maxTime := 0, mdReset := false } }
      else x) ∧
  Does (.demandBoundary d) s (fun _ m =>
      let m := clockTo (m.fd d).boundary m
      let sec := (m.fd d).modS m.now
      lateMdResets d (m.updFd d fun fd => { fd with
        demandAt := m.now, demandSent := none,
        mps := fd.mps.zipIdx.map fun a => if
          (fd.mpCfg d a.2).kind = 0 then a.1 else { a.1 with demand := a.1.demand.close sec fd.metCfg.demandMin } }))) ∧
  (∀ p k a, k < 2 →
    (p < (s.m.fd d).mps.length ∧ p < 256 ∧ (at? (s.m.fd d).mps p {}).pulses.length = 2 ∨
      256 ≤ p ∧ p - 256 < (s.m.fd d).hps.length ∧ (at? (s.m.fd d).hps (p - 256) {}).pulses.length = 2) →
    let x := (s.m.fd d).pulseAt d p k
    x.1.reachAt (x.2.weight * 2 ^ 32) = some a → x.2.onCode ≠ 0 → x.1.active = false →
    (s.m.fd d).openBy s.m.supplyGood x.2.ch x.2.out = false →
    Ends (.pulseStart d p k) s (fun t => SameStores s t ∧ ((t.m.fd d).pulseAt d p k).1.active = true ∧
      ((t.m.fd d).pulseAt d p k).1.count = (x.1.count + 1) % 65536 ∧
      ((t.m.fd d).pulseAt d p k).1.lastAt = some t.m.now ∧ a ≤ t.m.now ∧
      ∀ b, x.1.lastAt = some b → b + 50000000 ≤ t.m.now) ∧
    Does (.pulseStart d p k) s (fun _ m =>
        let c := x.2
        let spaced := match x.1.lastAt with | none => 0 | some b => b + 50000000
        let m := judgePulse d p k (clockTo (cdiv (max a spaced) 10 * 10) m)
        refreshOut d c.ch c.out (m.updPulse d p k fun q => let q := q.credit m.now; { q with
          residue := q.residue - c.weight * 2 ^ 32, lastAt := some m.now, active := true, spacing := true,
          count := (q.count + 1) % 65536 }))) ∧
  (∀ p k a, k < 2 →
    (p < (s.m.fd d).mps.length ∧ p < 256 ∧ (at? (s.m.fd d).mps p {}).pulses.length = 2 ∨
      256 ≤ p ∧ p - 256 < (s.m.fd d).hps.length ∧ (at? (s.m.fd d).hps (p - 256) {}).pulses.length = 2) →
    ((s.m.fd d).pulseAt d p k).1.active = true → ((s.m.fd d).pulseAt d p k).1.lastAt = some a →
    Ends (.pulseEnd d p k) s (fun t => SameStores s t ∧ ((t.m.fd d).pulseAt d p k).1.active = false ∧
      ((t.m.fd d).pulseAt d p k).1.count = ((s.m.fd d).pulseAt d p k).1.count ∧
      t.m.now = max s.m.now (a + 30000000)) ∧
    Does (.pulseEnd d p k) s (fun _ m =>
        let c := ((m.fd d).pulseAt d p k).2
        let m := clockTo (a + 30000000) m
        refreshOut d c.ch c.out (m.updPulse d p k fun q => { q.credit m.now with active := false })))

/-- No pulse comes before its energy: at and after the instant at which an output's accumulator is said to reach its
weight, what the feed has credited is at least the weight (R254). -/
def Obligations.PulsesAreEarned : Prop := ∀ (p : PulseOut) (w a now : Nat),
  p.reachAt w = some a → a ≤ now → w ≤ (p.credit now).residue

/-- A register loses nothing to its rollover: once its integer part would reach 10^18, 10^18 is subtracted in the same
update, its rollover count goes up by one, wrapping from 65 535 to 0, and REGISTER_ROLLOVER, an event of the class the
metrology log takes, is recorded with the lane the die hears, or kept by the die that hears none (R248). -/
def Obligations.RegistersKeepTheEnergy : Prop := ∀ (m : Module) (d p idx inc : Nat) (thermal : Bool),
  let regs := fun (x : Module) => if thermal then (at? (x.fd d).hps p {}).regs else (at? (x.fd d).mps p {}).regs
  let r := at? (regs m) idx {}
  let t := addReg d thermal p idx inc m
  let q := at? (regs t) idx {}
  let reached := 10 ^ 18 ≤ r.value + (r.frac + inc) / 2 ^ 32
  d < m.fds.length → p < (if thermal then (m.fd d).hps.length else (m.fd d).mps.length) → idx < (regs m).length →
  r.value < 10 ^ 18 → r.frac < 2 ^ 32 → inc ≤ (10 ^ 18 - 1) * 2 ^ 32 →
  q.value < 10 ^ 18 ∧ q.frac < 2 ^ 32 ∧
  (reached → (q.value + 10 ^ 18) * 2 ^ 32 + q.frac = r.value * 2 ^ 32 + r.frac + inc ∧ q.roll = (r.roll + 1) % 65536) ∧
  (¬reached → q.value * 2 ^ 32 + q.frac = r.value * 2 ^ 32 + r.frac + inc ∧ q.roll = r.roll) ∧
  (reached → m.fdHeard d = true → (m.lane (claimLane (m.fd d).claim)).red.holds = true → ∃ e : EvRec, e.code = 0x5803 ∧
    isMetrology e.code = true ∧ e.p1 = idx % 2 ^ 32 ∧
    (t.lane (claimLane (m.fd d).claim)).evr.intake = (m.lane (claimLane (m.fd d).claim)).evr.intake ++ [e]) ∧
  (reached → m.fdHeard d = false → (m.fd d).evq.length < 128 → ∃ e : EvRec, e.code = 0x5803 ∧ isMetrology e.code = true ∧
    e.p1 = idx % 2 ^ 32 ∧ (t.fd d).evq = (m.fd d).evq ++ [e])

/-- Saves and read-outs: the periodic save takes the next save number, and its records written end it; READOUT starts
with its nonce or is refused in BLANK; the latch makes a record or fails with its key, and a record nobody fetches
within 1 s is lost; MD_RESET clears the maximum of the selected point, in the block that closes an interval once it has closed
(R250, R258, R259, R267, R268, R464). -/
def Obligations.SavesAndReadoutsAct : Prop := ∀ (s : State) (l : LaneId) (v : View),
  ((s.m.lane l).red.holds = true → s.m.restored l = true → s.m.supplyGood = true → (s.m.lane l).sys.phase = .up →
    Ends (.periodicSave l) s (fun t => SameStores s t ∧ (t.m.lane l).mtr.saveSeq = nextSeq (s.m.lane l).mtr.saveSeq ∧
      ∃ recs, (t.m.lane l).mtr.save = some (0, recs, t.m.now) ∧ recs.map (·.1) = s.m.fdsOf l) ∧
    Does (.periodicSave l) s (fun _ m =>
        let m := clockTo (m.gridAfter 60000000000 (m.now - 1)) m
        saveStart l 0 (blocksFirst (m.fdList.filter fun d => m.fdReach l d) m))) ∧
  (∀ k recs at_, (s.m.lane l).mtr.save = some (k, recs, at_) → k ≠ 1 →
    Ends (.saveRecordsWritten l) s (fun t => t.pending = s.pending ∧ (t.m.lane l).mtr.save = none ∧
      (t.m.lane l).mtr.saveAt = some s.m.now ∧ t.m.fds = s.m.fds) ∧
    Does (.saveRecordsWritten l) s (fun st m =>
        let m := saveWrite st l recs m
        let m := if k = 0 ∧ m.mirrors l = true then receiverDone l.other (saveWrite st l.other recs m) else m
        let m := m.updLane l fun L => { L with mtr := { L.mtr with save := none, saveAt := some m.now } }
        report l 9 0x5004 (m.lane l).mtr.saveSeq k (recs.foldl (fun a r => a ||| 1 <<< r.1) 0) (raise l 9 1 m))) ∧
  (Heard s l v → (s.m.lane l).sys.mode ≠ .blank → (s.m.lane l).mtr.readoutAt = none →
    (at? (s.m.lane l).hst.rings 3 {}).state = 1 →
    Ends (.readout l v) s (fun t => OnlyLane l s t ∧ (t.m.lane l).mtr = { (s.m.lane l).mtr with
      cmdState := 1, cmdReason := 0, readoutAt := some s.m.now, readoutNonce := fitTo 16 (s.m.lane l).mtr.nonce }) ∧
    Does (.readout l v) s (fun _ m =>
        (mtrEnd l 1 0 m).updLane l fun L => { L with
          mtr := { L.mtr with readoutAt := some m.now, readoutNonce := fitTo 16 L.mtr.nonce } })) ∧
  (Heard s l v → (s.m.lane l).sys.mode = .blank → Ends (.readout l v) s (fun t => OnlyLane l s t ∧
    (t.m.lane l).mtr = { (s.m.lane l).mtr with cmdState := 3, cmdReason := 3 }) ∧
  Does (.readout l v) s (fun _ m => mtrEnd l 3 3 m)) ∧
  (∀ at_, (s.m.lane l).mtr.readoutAt = some at_ → (s.m.lane l).mtr.readoutRec = none →
    let latched := fun (m : Module) =>
      blocksFirst (m.fdsOf l) (clockTo (cdiv (at_ + 1000000) 200000000 * 200000000) m)
    let slot := match (s.m.lane l).cfg.active with | none => 0 | some b => (b.metering.getD {}).readoutSlot
    let u := useSlotAs 9 l slot 4 false (latched s.m.fresh)
    (∀ k, u.1 = .ok k → Does (.readoutLatch l) s fun _ m => readoutGive l ((useSlotAs 9 l slot 4 false (latched m)).2.updLane l
      fun L => { L with mtr := { L.mtr with
        readoutRec := some (readoutBytes (latched m) l ++ hmac k (readoutBytes (latched m) l)) } })) ∧
    (∀ e, u.1 = .error e → Does (.readoutLatch l) s fun _ m => (mtrEnd l 3 0 (useSlotAs 9 l slot 4 false (latched m)).2).updLane l
      fun L => { L with mtr := { L.mtr with readoutAt := none } })) ∧
  (∀ at_, (s.m.lane l).mtr.readoutAt = some at_ → (s.m.lane l).mtr.readoutRec = none →
    Ends (.readoutLatch l) s (fun t => t.pending = s.pending ∧
      t.m.now = max s.m.now (cdiv (at_ + 1000000) 200000000 * 200000000) ∧
      ((t.m.lane l).mtr.readoutRec.isSome = true ∨ (t.m.lane l).mtr.cmdState = 3))) ∧
  (∀ at_, (s.m.lane l).mtr.readoutRec.isSome = true → (s.m.lane l).mtr.readoutAt = some at_ →
    ((s.m.lane l).ring 3).ending = none →
    Ends (.readoutRingTimeout l) s (fun t => OnlyLane l { s with m := { s.m with now := t.m.now } } t ∧
      t.m.now = max s.m.now (at_ + 1000000000) ∧ (t.m.lane l).mtr = { (s.m.lane l).mtr with
        cmdState := 3, cmdReason := 5, readoutAt := none, readoutRec := none }) ∧
    Does (.readoutRingTimeout l) s (fun _ m =>
        (mtrEnd l 3 5 (clockTo (at_ + 1000000000) m)).updLane l fun L => { L with
          mtr := { L.mtr with readoutAt := none, readoutRec := none } })) ∧
  (∀ d p, Heard s l v → (s.m.lane l).sys.mode ∈ [.commission, .run, .runForced] → (s.m.lane l).mtr.readoutAt = none →
    fld (s.m.sel l v).mtrPt 6 0 = 32 * d + p → p < 32 → bitOf (s.m.sel l v).mtrPt 8 = false → s.m.fdReach l d = true →
    ((s.m.fd d).mpCfg d p).kind ≠ 0 → 65 ≤ (s.m.lane l).evr.mFree →
    let b := blocksFirst [d] s.m.fresh
    Ends (.mdReset l v) s (fun t => SameStores s t ∧ (t.m.lane l).mtr.cmdState = 2 ∧ (t.m.lane l).mtr.cmdReason = 0 ∧
      ((b.fd d).closesDemand = false → t.m.fds = upd b.fds d (fun f => { f with mps := upd f.mps p fun a =>
        { a with demand := { a.demand with max := 0, maxTime := 0, mdReset := false } } })) ∧
      ((b.fd d).closesDemand = true → t.m.fds = upd b.fds d (fun f => { f with mps := upd f.mps p fun a =>
        { a with demand := { a.demand with mdReset := true } } }))) ∧
    Does (.mdReset l v) s (fun _ m =>
        let m := blocksFirst [d] m
        let g := (at? (m.fd d).mps p {}).demand
        if (m.fd d).closesDemand then mtrEnd l 2 0
          (m.updMp d p fun a => { a with demand := { a.demand with mdReset := true } }) else mtrEnd l 2 0
            (report l 9 0x5804 (32 * d + p) g.max (g.maxTime % 2 ^ 32) (clearMd d p m)))) ∧
  (Heard s l v → (s.m.lane l).sys.mode ≠ .blank → (s.m.lane l).mtr.readoutAt.isSome = true → Does (.readout l v) s
    (fun _ m =>
      mtrEnd l 3 4 m)) ∧
  (Heard s l v → (s.m.lane l).sys.mode ≠ .blank → (s.m.lane l).mtr.readoutAt = none → (at?
    (s.m.lane l).hst.rings 3 {}).state ≠ 1 → Does (.readout l v) s (fun _ m =>
      mtrEnd l 3 5 m)) ∧
  (Heard s l v → (s.m.lane l).sys.mode ∉ [.commission, .run, .runForced] → Does (.mdReset l v) s (fun _ m =>
      mtrEnd l 3 3 m)) ∧
  (Heard s l v → (s.m.lane l).sys.mode ∈ [.commission, .run, .runForced] → (s.m.lane l).mtr.readoutAt.isSome = true →
    Does (.mdReset l v) s (fun _ m =>
      mtrEnd l 3 4 m))

/-- CAN frames: a received frame is counted and captured, a sent one leaves the queue and is captured, one that ends in
error moves the counters; each time the port's state follows its counters,
and after a frame that is not its own, or its own that failed, the port offers the lowest identifier it has queued. A receive error counter above 127 falls to a
value from 119 to 127 that the rules leave open (R321, R324, R326, R327, R490). -/
def Obligations.CanFramesAct : Prop := ∀ (s : State) (d p : Nat), s.m.canOn d p = true →
  (∀ (f : CanFrame), f.fdf = false ∨ ((s.m.fd d).canCfg d p).mode ≠ 1 → (s.m.canPort d p).recCnt ≤ 127 →
    Does (.canFrameReceived d p f) s fun _ m => (canConfine d p (canKeep d p (capEntry m d p f false)
      (m.updCan d p fun c => { c with
        rxCount := (c.rxCount + 1) % 2 ^ 32, recCnt := c.recCnt - 1,
        strangers := if (((m.fd d).bank.bind (·.network)).bind fun n =>
            recordEntry n (4 * d + p) (capEntry m d p f false)).isSome then c.strangers
          else sat max32 (c.strangers + 1) }))).updCan d p (CanPort.yield_ ((m.fd d).canCfg d p))) ∧
  (∀ (f : CanFrame), f.fdf = false ∨ ((s.m.fd d).canCfg d p).mode ≠ 1 → 127 < (s.m.canPort d p).recCnt →
    ∃ back, 119 ≤ back ∧ back ≤ 127 ∧ Does (.canFrameReceived d p f) s fun _ m =>
      (canConfine d p (canKeep d p (capEntry m d p f false) (m.drawn.updCan d p fun c => { c with
        rxCount := (c.rxCount + 1) % 2 ^ 32, recCnt := back,
        strangers := if (((m.fd d).bank.bind (·.network)).bind fun n =>
            recordEntry n (4 * d + p) (capEntry m d p f false)).isSome then c.strangers
          else sat max32 (c.strangers + 1) }))).updCan d p (CanPort.yield_ ((m.fd d).canCfg d p))) ∧
  (∀ (f : CanFrame), f.fdf = true → ((s.m.fd d).canCfg d p).mode = 1 →
    Does (.canFrameReceived d p f) s fun _ m => canError d p { code := 2 } (some f) m) ∧
  (∀ f, offered (s.m.canPort d p).txq = some f →
    (s.m.canPort d p).maySend ((s.m.fd d).canCfg d p) = true ∨ f.started = true →
    ∀ mtq, Does (.canFrameTransmitted d ⟨p, mtq⟩) s fun _ m =>
      let fr : CanFrame := ⟨f.ident, f.ide, f.fdf, f.brs, (m.canPort d p).state == 1, false, f.dlc, f.data⟩
      (canConfine d p (canKeep d p (capEntry m d p fr true) (m.updCan d p fun c => { c.delay ((m.fd d).canCfg d p) f.fdf mtq with
        txCount := (c.txCount + 1) % 2 ^ 32, tecCnt := c.tecCnt - 1,
        txq := c.txq.filter fun g => g.order != f.order }))).updCan d p (CanPort.begin ((m.fd d).canCfg d p))) ∧
  (∀ e, Does (.canFrameError d p e) s fun _ m => canError d p e none m) ∧
  ((s.m.canPort d p).txq.any (·.started) = true →
    Does (.dominantTimeout d p) s fun _ m => canError d p { code := 5, tx := true } none m)

/-- CAN ports: the end of a recovery sequence clears both counters and makes the port error-active; a RECOVER write
starts the sequence of a port that is bus-off and no other; a raw frame with GO is queued under the writing lane's claim;
a timing that waited for the bus to be idle comes into force (R61, R324, R326).
Capture and records: the oldest entry of a port's queue reaches the ring of the lane whose claim the die holds, or is
counted as lost where that ring is full; an assembly still open at its timeout is discarded; a datagram to the record
port of a lane that is active is examined, and one to another port is discarded and counted (R327, R328, R332, R334). -/
def Obligations.CanPortsAct : Prop :=
  (∀ (s : State) (d p : Nat),
  (s.m.fdUp d = true → (s.m.canPort d p).state = 3 → Does (.busOffRecoveryComplete d p) s fun _ m =>
    (canState d p 0 (m.updCan d p fun c => { c with tecCnt := 0, recCnt := 0 })).updCan d p
      (CanPort.begin ((m.fd d).canCfg d p))) ∧
  (s.m.fdUp d = true → Ends (.canBusIdle d p) s (fun t => SameStores s t ∧ t.m.fds = upd s.m.fds d (fun f =>
    { f with can := upd f.can p fun c => { c with oldTiming := none } })) ∧
  Does (.canBusIdle d p) s (fun _ m => m.updCan d p fun c => { c with oldTiming := none })) ∧
  (∀ l v w, Heard s l v → (s.m.sel l v).canPort = 4 * d + p → p < 4 → s.m.fdReach l d = true →
    (s.m.fd d).claim = (s.m.lane l).red.claim → claimLane (s.m.lane l).red.claim = l → (s.m.lane l).red.holds = true →
    (bitOf w 0 = true → (s.m.canPort d p).state = 2 → Does (.canRecover l v w) s fun _ m => canState d p 3 m) ∧
    (bitOf w 0 = false ∨ (s.m.canPort d p).state ≠ 2 → Does (.canRecover l v w) s fun _ m => m) ∧
    (bitOf w 31 = true → bitOf w 5 = false ∨ ((s.m.fd d).canCfg d p).mode ≠ 1 → Does (.canRawTx l v w) s fun _ m =>
      canQueue d p (m.lane l).red.claim [(m.canPort d p).rawFrame w]
        (m.updCan d p fun c => { c with rawCtrl := w &&& 0x7F })) ∧
    (bitOf w 31 = false → Ends (.canRawTx l v w) s (fun t => SameStores s t ∧ t.m.fds = upd s.m.fds d (fun f =>
      { f with can := upd f.can p fun c => { c with rawCtrl := w &&& 0x7F } }))))) ∧
  (∀ (s : State) (l : LaneId),
  (∀ d p e rest, (s.m.canPort d p).fifo = e :: rest → s.m.fdHeard d = true → claimLane (s.m.fd d).claim = l →
    let seen : CapEntry := { e with stamp := some (s.m.stampAt l (1000 * e.tbUs + 10 * e.frac)) }
    (secondPast s.m.now (s.m.canPort d p).lostEvAt = true → Does (.captureEntry l d p true) s fun _ m =>
      let m := m.updCan d p fun c => { c with
        fifo := rest, lostRing := sat 65535 (c.lostRing + 1), lostEvAt := some m.now }
      report l 11 0x7004 (4 * d + p) (m.canPort d p).lostFifo (m.canPort d p).lostRing (raise l 11 0x20000 m)) ∧
    (secondPast s.m.now (s.m.canPort d p).lostEvAt = false → Does (.captureEntry l d p true) s fun _ m =>
      raise l 11 0x20000 (m.updCan d p fun c => { c with fifo := rest, lostRing := sat 65535 (c.lostRing + 1) })) ∧
    ((s.m.lane l).cfg.active = none → ((s.m.lane l).ring 5).state ≠ 1 →
      Ends (.captureEntry l d p false) s (fun t => SameStores s t ∧
        t.m.fds = upd s.m.fds d (fun f => { f with can := upd f.can p fun c => { c with fifo := rest } }) ∧
        (t.m.lane l).can.rings = upd (s.m.lane l).can.rings (4 * d + p) (fun q => (q ++ [seen]).drop (q.length + 1 - 1024)))) ∧
    (∀ nw sub, (s.m.lane l).cfg.active.bind (·.network) = some nw → nbit e.flags 5 = false →
      (recordEntry nw (4 * d + p) e = none → Does (.captureEntry l d p false) s fun _ m =>
        hostCapture l e ((m.updCan d p fun c => { c with fifo := rest }).updLane l fun L => { L with can := { L.can with
          rings := upd L.can.rings (4 * d + p) fun q => (q ++ [seen]).drop ((q ++ [seen]).length - 1024) } })) ∧
      (recordEntry nw (4 * d + p) e = some sub → Does (.captureEntry l d p false) s fun _ m =>
        let put := fun (q : List CapEntry) => (q ++ [seen]).drop ((q ++ [seen]).length - 1024)
        recSegment l sub e (hostCapture l e ((m.updCan d p fun c => { c with fifo := rest }).updLane l fun L =>
          { L with can := { L.can with rings := upd L.can.rings (4 * d + p) put } }))))) ∧
  (∀ r a nw sub, ((s.m.lane l).can.eng r).asm = some a → (s.m.lane l).cfg.active.bind (·.network) = some nw →
    nw.subs.find? (·.record == r) = some sub → Does (.recordAssemblyTimeout l r) s fun _ m =>
      recDiscard l r 3 a.seq (updEng l r (fun g => { g with asm := none })
        (clockTo (a.openedAt + sub.timeoutMs * 1000000) m))) ∧
  (∀ port dg nw, (s.m.lane l).cfg.active.bind (·.network) = some nw → (s.m.lane l).portUp port = true →
    (dg.port = nw.udpPort → dg.payload.length ≤ 1472 →
      Does (.udpRecordDatagram l port dg) s fun _ m => udpRecords l nw dg.srcIp.toNat dg.payload 184 0 m) ∧
    (dg.port ≠ nw.udpPort ∨ 1472 < dg.payload.length →
      Does (.udpRecordDatagram l port dg) s fun _ m => discardFrame l port false m)))

/-- A port offers the queued frame with the lowest identifier first, and the one queued first among equals, unless it has
begun one (R326).
A port's transmit queue never holds more than 32 frames: frames that find too little room are refused whole
(R326). -/
def Obligations.TransmitQueuesAreOrdered : Prop :=
  (∀ (q : List TxFrame), (∀ g ∈ q, g.started = false) → q ≠ [] →
  ∃ (f : TxFrame) (pre post : List TxFrame), offered q = some f ∧ q = pre ++ f :: post ∧ (∀ g ∈ pre, f.ident < g.ident) ∧
    ∀ g ∈ post, f.ident ≤ g.ident) ∧
  (∀ (m : Module) (d p claim : Nat) (fs : List TxFrame),
  (m.canPort d p).txq.length ≤ 32 → ((canQueue d p claim fs m).canPort d p).txq.length ≤ 32)

/-- PTP messages: a Sync of a one-step master gives a sample and one of a two-step master waits for its Follow_Up, a lost
slot listening again first; an Announce is kept as a foreign master and the ports decide; a delay response gives the path
delay; a request is answered by a port that is master; a management GET is answered with the slot's data sets (which ones is
the model's choice, log entry 52). The module's own Announce counts for nothing. An event message's time-stamp is
corrected by the port's latency and kept as the port's newest (R346 to R349). -/
def Obligations.PtpMessagesAct : Prop := ∀ (s : State) (l : LaneId) (port k : Nat) (msg : PtpMsg),
  s.m.slotFor l port msg = some k →
  let rx := s.m.rxStamp l port msg
  let tx := s.m.txStamp l port
  let carried := s.m.originOf l msg
  (at? ((s.m.lane l).slot k).portState port 0 = 9 →
    let heard := fun (m : Module) => stampPort l port rx (updSlot l k (fun x => { x with syncAt := some m.now }) m)
    ((s.m.lane l).slotState k ≠ .lost → msg.twoStep = false → Does (.ptpSync l port msg) s fun _ m =>
      addSample l k port carried rx msg.correction (heard m)) ∧
    ((s.m.lane l).slotState k ≠ .lost → msg.twoStep = true → Ends (.ptpSync l port msg) s (fun t =>
      OnlyLane l s t ∧ t.m.out = [] ∧ t.m.lane l = { s.m.lane l with ptp := { (s.m.lane l).ptp with
        ports := upd (s.m.lane l).ptp.ports port fun e => { e with stamp := some (s.m.timeStamp l rx) }
        slots := upd (s.m.lane l).ptp.slots k fun x =>
          { x with syncAt := some s.m.now, waitFu := some (port, msg.seq, rx, msg.correction) } } })) ∧
    ((s.m.lane l).slotState k = .lost → Does (.ptpSync l port msg) s fun _ m =>
      let m := slotRestart l k (stampPort l port rx m)
      let m := updSlot l k (fun x => { x with syncAt := some m.now }) m
      if msg.twoStep then updSlot l k (fun x => { x with waitFu := some (port, msg.seq, rx, msg.correction) }) m
      else addSample l k port (m.originOf l msg) rx msg.correction m)) ∧
  (∀ t2 corr, ((s.m.lane l).slot k).waitFu = some (port, msg.seq, t2, corr) → Does (.ptpFollowUp l port msg) s fun _ m =>
    addSample l k port carried t2 (corr + msg.correction) (updSlot l k (fun x => { x with waitFu := none }) m)) ∧
  (let heard := ((s.m.lane l).slot k).foreign.find? fun f => f.port == port && f.sender == msg.source
    let f : Foreign := ⟨port, msg.source, msg.gm, (List.range 5).map (at? msg.rank · 0), msg.steps,
      s.m.now :: ((heard.map (·.heard)).getD []).take 1⟩
    let kept := fun m => decidePorts l k (updSlot l k (fun x => { x with
      foreign := (x.foreign.filter fun g => !(g.port == port && g.sender == msg.source)) ++ [f] }) m)
    let here := kept s.m.fresh
    let follows := ∃ g, (here.lane l).parent k here.now = some g ∧ g.port = port ∧ g.sender = msg.source ∧
      at? ((here.lane l).slot k).portState port 0 = 9
    (msg.source = Config.clockIdentity l.num → Does (.ptpAnnounce l port msg) s fun _ m => m) ∧
    (msg.source ≠ Config.clockIdentity l.num → ¬follows → Does (.ptpAnnounce l port msg) s fun _ m => kept m) ∧
    (msg.source ≠ Config.clockIdentity l.num → follows → Does (.ptpAnnounce l port msg) s fun st m =>
        utcFollow st l k msg.utcOffset (updSlot l k (fun x => { x with annAt := some here.now }) (kept m)))) ∧
  (msg.kind = 9 → ∀ q ms, at? ((s.m.lane l).slot k).delayReq port none = some q → q.seq = msg.seq →
    ((s.m.lane l).slot k).msDiff = some (port, ms) → nbit ((s.m.lane l).portCfg l port).ptp 1 = false →
    msg.target = Config.clockIdentity l.num → Does (.ptpDelayMessage l port msg) s fun _ m => setPath l k port
      (fdiv (ms + (carried - q.sent - msg.correction + ((m.lane l).portCfg l port).asymNs)) 2) m) ∧
  (msg.kind = 2 → nbit ((s.m.lane l).portCfg l port).ptp 1 = true → nbit ((s.m.lane l).portCfg l port).ptp 2 = false →
    Does (.ptpDelayMessage l port msg) s fun _ m => sendPtp l port 3 ((m.lane l).slotCfg k) msg.seq
      [0, tx - rx + msg.correction] (stampPort l port tx (stampPort l port rx m))) ∧
  (msg.kind = 2 → nbit ((s.m.lane l).portCfg l port).ptp 1 = true → nbit ((s.m.lane l).portCfg l port).ptp 2 = true →
    Does (.ptpDelayMessage l port msg) s fun _ m =>
      let c := (m.lane l).slotCfg k
      sendPtp l port 10 c msg.seq [tx, msg.correction]
        (sendPtp l port 3 c msg.seq [rx] (stampPort l port tx (stampPort l port rx m)))) ∧
  (∀ q, at? ((s.m.lane l).slot k).delayReq port none = some q → q.seq = msg.seq →
    nbit ((s.m.lane l).portCfg l port).ptp 1 = true →
    (msg.kind = 3 → msg.twoStep = false → Does (.ptpDelayMessage l port msg) s fun _ m =>
      setPath l k port (fdiv (rx - q.sent - msg.correction) 2) (stampPort l port rx m)) ∧
    (msg.kind = 3 → msg.twoStep = true → Does (.ptpDelayMessage l port msg) s fun _ m => updSlot l k (fun x => { x with
      delayReq := upd x.delayReq port fun _ => some { q with resp := some (rx, carried + msg.correction) } })
        (stampPort l port rx m)) ∧
    (∀ t4 t2, msg.kind = 10 → q.resp = some (t4, t2) → Does (.ptpDelayMessage l port msg) s fun _ m =>
      setPath l k port (fdiv (t4 - q.sent - (carried + msg.correction - t2)) 2) m)) ∧
  (at? ((s.m.lane l).slot k).portState port 0 = 6 → Does (.ptpDelayReqReceived l port msg) s fun _ m =>
    sendPtp l port 9 ((m.lane l).slotCfg k) msg.seq [rx, msg.correction, (msg.source : Int)] (stampPort l port rx m)) ∧
  (msg.kind = 0 → Ends (.ptpManagementGet l port msg) s (fun t => OnlyLane l s t ∧ t.m.lane l = s.m.lane l ∧
    t.m.out = [.eth l.num port 6 ((((s.m.lane l).portCfg l port).tag : Int) ::
      ([(msg.domain : Int), msg.sdoId, msg.seq, msg.source] ++ s.m.dataSets l k port))]))

/-- Network time follows its timers and commands: a port sends what is due and numbers it; a slot without Sync or
Announce is lost; a slew ends; a switch moves steering to a slot that can steer; module time reaches the calendar through
its staging registers at a whole second, and not at all while their interface is locked out (R346, R349, R355, R356, R358,
R412; how SET_RTC then ends is the model's choice, log entry 52). -/
def Obligations.TimeActs : Prop := ∀ (s : State) (l : LaneId) (port k : Nat), (s.m.lane l).red.holds = true →
  (k ≤ 1 → (s.m.lane l).portUp port = true → (s.m.lane l).slotOn l k port = true →
    let tx := s.m.txStamp l port
    let state := at? ((s.m.lane l).slot k).portState port 0
    let peer := nbit ((s.m.lane l).portCfg l port).ptp 1
    let next := fun (n : Nat) (x : PtpSlot) => { x with seqs := upd x.seqs n fun q => (q + 1) % 65536 }
    let asked := fun (n : Nat) (seq : Nat) (m : Module) => updSlot l k (fun x => { next n x with
      delayReq := upd x.delayReq port fun _ => some { seq := seq, sent := tx } }) (stampPort l port tx m)
    (state = 6 → nbit ((s.m.lane l).portCfg l port).ptp 2 = false → Does (.ptpMessageInterval l port k 0) s fun _ m =>
      sendPtp l port 0 ((m.lane l).slotCfg k) (at? ((m.lane l).slot k).seqs 0 0) [tx]
        (updSlot l k (next 0) (stampPort l port tx m))) ∧
    (state = 6 → nbit ((s.m.lane l).portCfg l port).ptp 2 = true → Does (.ptpMessageInterval l port k 0) s fun _ m =>
      let c := (m.lane l).slotCfg k
      let seq := at? ((m.lane l).slot k).seqs 0 0
      sendPtp l port 8 c seq [tx] (sendPtp l port 0 c seq [] (updSlot l k (next 0) (stampPort l port tx m)))) ∧
    (state = 9 → peer = false → Does (.ptpMessageInterval l port k 1) s fun _ m =>
      let seq := at? ((m.lane l).slot k).seqs 1 0
      sendPtp l port 1 ((m.lane l).slotCfg k) seq [tx] (asked 1 seq m)) ∧
    (peer = true → Does (.ptpMessageInterval l port k 2) s fun _ m =>
      let seq := at? ((m.lane l).slot k).seqs 2 0
      sendPtp l port 2 ((m.lane l).slotCfg k) seq [tx] (asked 2 seq m)) ∧
    (state = 6 → Does (.ptpMessageInterval l port k 11) s fun _ m =>
      let a := (m.lane l).announced l k m.now
      sendPtp l port 11 ((m.lane l).slotCfg k) (at? ((m.lane l).slot k).seqs 3 0)
        ([(a.gm : Int)] ++ a.rank.map (fun (x : Nat) => (x : Int)) ++ [(a.steps : Int), ((m.lane l).ptp.utcOffset : Int)])
        (updSlot l k (next 3) m))) ∧
  (∀ a, k ≤ 1 → (s.m.lane l).slotSteers k = true → ((s.m.lane l).slot k).syncAt = some a →
    ((s.m.lane l).slot k).annAt = none → Does (.slotLost l k) s fun _ m =>
      listenIfMaster l k (steerAfter l k ((m.lane l).slot k).state
        (setSlotState l k .lost (clockTo (a + ((m.lane l).slotCfg k).lossMs * 1000000) m)))) ∧
  (∀ b, k ≤ 1 → (s.m.lane l).slotSteers k = false → (s.m.lane l).slotState k ≠ .disabled →
    ((s.m.lane l).slot k).annAt = some b → Does (.slotLost l k) s fun _ m =>
      let leave := fun (x : Nat × Nat) => if x.1 = 9 then (if (m.lane l).mayLead l k x.2 then 6 else 4) else x.1
      let gone := updSlot l k (fun x => { x with
          annAt := none, foreign := [], portState := x.portState.zipIdx.map leave })
        (clockTo (b + ((m.lane l).slotCfg k).announceTimeout * ((m.lane l).slotCfg k).announceNs) m)
      if (m.lane l).slotState k = .listening then updSlot l k (fun x => { x with samples := [], q := none }) gone
      else listenIfMaster l k gone) ∧
  ((s.m.lane l).ptp.slewing = true → Does (.slewEnd l) s fun _ m => stopSlew l (clockTo (m.lane l).ptp.slewEnd m)) ∧
  ((s.m.lane l).ptp.slewing = true → Ends (.slewEnd l) s (fun t => SameStores s t ∧
    let gain := ppmLimit (s.m.lane l).ptp.rate - (s.m.lane l).ptp.speed
    let other := s.m.lane l.other
    t.m.now = max s.m.now (s.m.lane l).ptp.slewEnd ∧ t.m.sds = s.m.sds ∧ t.m.mail = s.m.mail ∧
    t.m.lane l = { s.m.lane l with ptp := { (s.m.lane l).ptp with
      slewing := false, slewLeft := 0, refPpb := (s.m.lane l).ptp.refPpb - gain } } ∧
    t.m.lane l.other = { other with ptp := { other.ptp with refPpb := other.ptp.refPpb - gain } } ∧
    t.m.fds.map (·.refPpb) = s.m.fds.map (·.refPpb - gain) ∧
    t.m.fds.map (·.tb t.m.now) = s.m.fds.map (·.tb t.m.now))) ∧
  (∀ v, Heard s l v →
    ((s.m.lane l).slotSteers (1 - (s.m.lane l).ptp.steer) = true → (s.m.lane l).ptp.steerState ≠ 2 →
      Does (.ptpSwitch l v) s fun _ m => timeEnd l 2 0 (switchTo l (1 - (m.lane l).ptp.steer) true m)) ∧
    ((s.m.lane l).slotSteers (1 - (s.m.lane l).ptp.steer) = true → (s.m.lane l).ptp.steerState = 2 →
      Does (.ptpSwitch l v) s fun _ m => timeEnd l 2 0 (switchTo l (1 - (m.lane l).ptp.steer) true
        (report l 12 0x7104 (m.lane l).ptp.steer 0 0 m))) ∧
    ((s.m.lane l).slotSteers (1 - (s.m.lane l).ptp.steer) = false →
      Does (.ptpSwitch l v) s fun _ m => timeEnd l 3 1 m) ∧
    ((s.m.lane l).ptp.steerState = 1 → (s.m.lane l).rtc.lockout = true → Does (.setRtc l v) s fun _ m =>
      timeEnd l 1 0 (updPtp l (fun p => { p with setRtc := some ((fdiv (m.modNs l) 1000000000).toNat + 1) }) m)) ∧
    ((s.m.lane l).ptp.steerState = 1 → (s.m.lane l).rtc.lockout = false → Does (.setRtc l v) s fun _ m =>
      let sec := (fdiv (m.modNs l) 1000000000).toNat + 1
      timeEnd l 1 0 (updPtp l (fun p => { p with setRtc := some sec })
        (updRtc l (stageSecond (sec - (m.lane l).ptp.utcOffset - 946684800)) m))) ∧
    ((s.m.lane l).ptp.steerState ≠ 1 → Does (.setRtc l v) s fun _ m => timeEnd l 3 1 m)) ∧
  (∀ sec, (s.m.lane l).ptp.setRtc = some sec → (s.m.lane l).rtc.lockout = true → Does (.setRtcCommit l) s fun _ m =>
    timeEnd l 3 3 (updPtp l (fun p => { p with setRtc := none })
      (clockTo (1000 * (1000000 * (sec : Int) - (m.lane l).prg.tbOffset)).toNat m))) ∧
  (∀ sec, (s.m.lane l).ptp.setRtc = some sec → (s.m.lane l).rtc.lockout = false → (s.m.lane l).rtc.stagedOk = true →
    Does (.setRtcCommit l) s fun _ m =>
      let r := (m.lane l).rtc
      let m := updPtp l (fun p => { p with setRtc := none })
        (clockTo (1000 * (1000000 * (sec : Int) - (m.lane l).prg.tbOffset)).toNat m)
      timeEnd l 2 0 (report l 12 0x7107 sec (m.lane l).ptp.utcOffset (m.lane l).ptp.steer
        (setCalendar l r.staged m)))

/-- Ethernet ports: a link that comes up in a mode its entry allows announces the port's address; a request for the own
address or an echo of it is answered; a frame of no protocol served, or with a bad check, is counted and discarded (R340,
R341, R343). -/
def Obligations.EthernetPortsAct : Prop := ∀ (s : State) (l : LaneId) (port : Nat), port ≤ 1 →
  (∀ up gig, (s.m.lane l).linkUp port = !up →
    (up = true → (s.m.lane l).red.holds = true ∧ (((s.m.lane l).portCfg l port).mode = 1 ∨
      (((s.m.lane l).portCfg l port).mode = 2 ∧ gig = true) ∨ (((s.m.lane l).portCfg l port).mode = 3 ∧ gig = false))) →
    Does (.linkChange l port up gig) s fun _ m =>
      let m := report l 12 0x7105 (2 * l.num + port) (b2n up) (b2n gig) (raise l 12 16 (updPtp l (fun p => { p with
        ports := upd p.ports port fun e => { e with up := up, gig := up && gig } }) m))
      let m := forEach [0, 1] (fun k m =>
        let L := m.lane l
        let n := updSlot l k (fun x => { x with
          portState := upd x.portState port fun _ => L.portBegins l k port
          foreign := x.foreign.filter (·.port != port) }) m
        if at? (L.slot k).portState port 0 = 9 then slotRestart l k n else n) m
      let e := (s.m.lane l).portCfg l port
      if up && e.ipv4 != 0 then put (.eth l.num port 1 [e.tag, e.ipv4]) m else m) ∧
  ((s.m.lane l).portUp port = true →
    (∀ (ip : BitVec 32), ip ≠ 0 → ip.toNat = ((s.m.lane l).portCfg l port).ipv4 →
      Ends (.arpRequest l port ip) s (fun t => OnlyLane l s t ∧ t.m.lane l = s.m.lane l ∧
        t.m.out = [.eth l.num port 2 [((s.m.lane l).portCfg l port).tag, ip.toNat]]) ∧
      Ends (.icmpEchoRequest l port ip) s (fun t => OnlyLane l s t ∧ t.m.lane l = s.m.lane l ∧
        t.m.out = [.eth l.num port 3 [((s.m.lane l).portCfg l port).tag, ip.toNat]])) ∧
    (∀ (ip : BitVec 32), ip.toNat ≠ ((s.m.lane l).portCfg l port).ipv4 →
      Does (.arpRequest l port ip) s (fun _ m => discardFrame l port false m) ∧
      Does (.icmpEchoRequest l port ip) s (fun _ m => discardFrame l port false m)) ∧
    (∀ bad, Ends (.foreignFrame l port bad) s (fun t => OnlyLane l s t ∧ t.m.out = [] ∧
      t.m.lane l = { s.m.lane l with ptp := { (s.m.lane l).ptp with ports := upd (s.m.lane l).ptp.ports port fun e =>
        if bad then { e with fcs := sat 65535 (e.fcs + 1) } else { e with other := sat 65535 (e.other + 1) } } })))

/-- Memory programs: firmware's GO queues the bytes of the program registers, is refused where the target is not one
firmware may write or the length is not 1 to 64, and is discarded in the shadow slot while the configuration is checked
or armed; a program that ends has put its bytes into the groups it covers, merged with what it covers in part, and where it
ends a full image in the shadow slot the provenance area is cleared (R35, R55, R302, R364, R366 to R368, R372). -/
def Obligations.MemoryProgramsAct : Prop := ∀ (s : State) (l : LaneId) (w : Word), (s.m.lane l).sysOn = true →
  (s.m.lane l).mayProgram = true →
  let a := (s.m.lane l).nvm.progAddr.toNat
  let len := fld w 6 0
  let bs := (bytesOf (s.m.lane l).nvm.progData).take len
  let image := a < 0x1800000 ∨ (0x2720200 ≤ a ∧ a < 0x2720A00)
  let frozen := (s.m.lane l).cfg.state = .checking ∨ (s.m.lane l).cfg.state = .armed
  let kept := fun (m : Module) => m.updLane l fun L => { L with nvm := { L.nvm with progCtrl := w &&& 0xFF } }
  let queued := fun (m : Module) => m.updLane l fun L =>
    let p : PageProg := { addr := a, bytes := bs, lowPower := bitOf w 7, writer := 0 }
    { L with nvm := Nvm.advance { L.nvm with waiting := L.nvm.waiting ++ [p] } }
  (Does (.nvmProgram l .host w) s fun _ m => m) ∧
  (bitOf w 31 = false → Does (.nvmProgram l .fw w) s fun _ m => kept m) ∧
  (bitOf w 31 = true → len = 0 ∨ 64 < len ∨ programRefused s.m l .firmware a bs = true →
    Does (.nvmProgram l .fw w) s fun _ m => nvmRefuse l a .firmware (kept m)) ∧
  (bitOf w 31 = true → 0 < len → len ≤ 64 → programRefused s.m l .firmware a bs = false → image → frozen →
    Does (.nvmProgram l .fw w) s fun _ m => shadowRejected l 1 (kept m)) ∧
  (bitOf w 31 = true → 0 < len → len ≤ 64 → programRefused s.m l .firmware a bs = false → ¬(image ∧ frozen) →
    (a < 0x1800000 → Does (.nvmProgram l .fw w) s fun _ m => queued (shadowAccepted l (kept m))) ∧
    (0x1800000 ≤ a → Does (.nvmProgram l .fw w) s fun _ m => queued (kept m))) ∧
  (∀ p, (s.m.lane l).nvm.busy = some p → Does (.pageProgramComplete l) s fun st m =>
    let gs := (pageParts p.addr p.bytes).flatMap fun q => groupsOf q.1 q.2.length
    let m := forEach (pageParts p.addr p.bytes) (fun q m => programRaw l.num q.1 q.2 (mergeRead l q.1 q.2.length m)) m
    let m := m.updLane l fun L =>
      let n : Nvm := { L.nvm with
        busy := none, progPages := L.nvm.progPages + 1, ecc := L.nvm.ecc.filter fun e => !gs.contains e.1 }
      { L with nvm := n.advance }
    let slot := imageBase (s.m.lane l).cfg.shadowSlot
    let m := if slot ≤ p.addr ∧ p.addr < slot + 0xC00000 then clearProvenance st l m else m
    if p.writer = 0 then raise l 13 4 m else m)

/-- The recorder writes held records first once nothing freezes it, then its intake in order: a metrology record into the
metrology log always, another record into the ring, or held while the ring is frozen; while a final save runs nothing but
metrology records; and nothing before the logs have been read, without the NVM path or without HOLDUP_OK (R302, R385, R386,
R389, R394, R396, R397). -/
def Obligations.RecorderWritesInOrder : Prop := ∀ (s : State) (l : LaneId) (r : EvRec) (rest : List EvRec),
  let e := (s.m.lane l).evr
  let able := e.known = true ∧ (s.m.lane l).nvmOn = true ∧ (s.m.lane l).sys.holdupOk = true ∧ s.m.supplyGood = true ∧
    (s.m.lane l).sys.phase ≠ .stopped ∧ (s.m.lane l).sys.phase ≠ .off ∧ (s.m.lane l).sys.phase ≠ .saving ∧
    ∀ k ∈ s.m.laneList, (s.m.lane k).sys.phase ≠ .saving
  let down := (s.m.lane l).sys.phase = .saving
  let next := fun (m : Module) => m.updLane l fun L => { L with evr := e.next }
  (able → e.frozen = false → e.held = r :: rest → Does (.eventRecordWritten l) s fun st m =>
    ringWrite st l r (m.updLane l fun L => { L with evr := { L.evr with held := rest } })) ∧
  (able ∨ down → e.frozen = true ∨ down ∨ e.held = [] → e.queue = r :: rest → isMetrology r.code = true →
    (s.m.lane l).red.holds = true → Does (.eventRecordWritten l) s fun st m => mlogWrite st l r (next m)) ∧
  (able → e.frozen = true → e.queue = r :: rest → isMetrology r.code = false →
    Does (.eventRecordWritten l) s fun _ m => holdRecord l r (next m)) ∧
  (able → e.frozen = false → e.held = [] → e.queue = r :: rest → isMetrology r.code = false →
    Does (.eventRecordWritten l) s fun st m => ringWrite st l r (next m)) ∧
  (down → e.queue = r :: rest → isMetrology r.code = false → Does (.eventRecordWritten l) s fun _ m => next m) ∧
  (e.known = false ∨ (s.m.lane l).nvmOn = false ∨ (s.m.lane l).sys.holdupOk = false ∨ s.m.supplyGood = false → ¬down →
    Does (.eventRecordWritten l) s fun _ m => m)

/-- Events enter the recorder of the lane the reporting die obeys under the source it names; a code's bucket gains a
token; each view freezes and frees the ring for itself, and a freeze that is left standing ends after 2 000 ms (R384,
R392, R394, R395, R397). -/
def Obligations.RecorderCommandsAct : Prop := ∀ (s : State) (l : LaneId),
  (∀ code block p0 p1 p2, code < 65536 → block < 32 →
    Does (.eventReported l code (32 * l.num + block) p0 p1 p2) s (fun _ m => report l block code p0 p1 p2 m) ∧
    (∀ d, d < 4 → Does (.eventReported l code (32 * (4 + d) + block) p0 p1 p2) s fun _ m =>
      reportFd d block code p0 p1 p2 m) ∧
    ∀ d, d < 2 → Does (.eventReported l code (32 * (2 + d) + block) p0 p1 p2) s fun _ m =>
      reportSd d block code p0 p1 p2 m) ∧
  (∀ code, (s.m.lane l).evr.buckets.any (·.code == code) = true → ((s.m.lane l).evr.bucket code).suppressed = 0 →
    let due := ((s.m.lane l).evr.bucket code).refillAt + 1000000000
    Ends (.bucketRefill l code) s (fun t => OnlyLane l { s with m := { s.m with now := max s.m.now due } } t ∧ t.m.out = [] ∧
      t.m.lane l = { s.m.lane l with evr := (s.m.lane l).evr.setBucket { (s.m.lane l).evr.bucket code with
        tokens := min 16 (((s.m.lane l).evr.bucket code).tokens + 1), refillAt := due } })) ∧
  (∀ code, (s.m.lane l).evr.buckets.any (·.code == code) = true → 0 < ((s.m.lane l).evr.bucket code).suppressed →
    (s.m.lane l).sysOn = true → Ends (.bucketRefill l code) s (fun t => t.m.out = [] ∧
      OnlyLane l { s with m := { s.m with now := max s.m.now (((s.m.lane l).evr.bucket code).refillAt + 1000000000) } } t ∧
      ∃ r : EvRec, r.code = 0x0101 ∧ r.p0 = code ∧ r.p1 = ((s.m.lane l).evr.bucket code).suppressed ∧
        r.p2 = ((s.m.lane l).evr.bucket code).firstOpsec ∧ (t.m.lane l).evr.intake = (s.m.lane l).evr.intake ++ [r])) ∧
  (Heard s l .host → Ends (.evrFreezeSet l .host) s (fun t => OnlyLane l s t ∧ t.m.out = [] ∧
    (t.m.lane l).evr.freezeHost = some ((s.m.lane l).evr.freezeHost.getD s.m.now) ∧
    (t.m.lane l).evr.freezeFw = (s.m.lane l).evr.freezeFw ∧ (t.m.lane l).evr.held = (s.m.lane l).evr.held) ∧
  Does (.evrFreezeSet l .host) s (fun _ m =>
      m.updLane l fun L => let e := L.evr
      let e : Evr := if e.frozen then e else { e with freezeAt := m.now, freezeBits := 0, holdLostNow := 0 }
      { L with evr := { e with freezeHost := some (e.freezeHost.getD m.now), freezeBits := e.freezeBits ||| 1 } })) ∧
  (Heard s l .fw → Ends (.evrFreezeSet l .fw) s (fun t => OnlyLane l s t ∧ t.m.out = [] ∧
    (t.m.lane l).evr.freezeFw = some ((s.m.lane l).evr.freezeFw.getD s.m.now) ∧
    (t.m.lane l).evr.freezeHost = (s.m.lane l).evr.freezeHost ∧ (t.m.lane l).evr.held = (s.m.lane l).evr.held) ∧
  Does (.evrFreezeSet l .fw) s (fun _ m =>
      m.updLane l fun L => let e := L.evr
      let e : Evr := if e.frozen then e else { e with freezeAt := m.now, freezeBits := 0, holdLostNow := 0 }
      { L with evr := { e with freezeFw := some (e.freezeFw.getD m.now), freezeBits := e.freezeBits ||| 2 } })) ∧
  (∀ v, Heard s l v → (s.m.lane l).evr.frozen = true → Does (.evrFreezeClear l v) s fun _ m =>
    thaw l (m.updLane l fun L => match v with
      | .host => { L with evr := { L.evr with freezeHost := none } }
      | .fw => { L with evr := { L.evr with freezeFw := none } })) ∧
  (∀ a, (s.m.lane l).evr.freezeHost = some a → Does (.freezeTimeout l 0) s fun _ m =>
    report l 14 0x0103 0 0 0 (raise l 14 2 (thaw l ((clockTo (a + 2000000000) m).updLane l fun L =>
      { L with evr := { L.evr with freezeHost := none } })))) ∧
  (∀ a, (s.m.lane l).evr.freezeFw = some a → Does (.freezeTimeout l 1) s fun _ m =>
    report l 14 0x0103 1 0 0 (raise l 14 2 (thaw l ((clockTo (a + 2000000000) m).updLane l fun L =>
      { L with evr := { L.evr with freezeFw := none } }))))

/-- Key commands of the active lane in a mode that accepts them: an import fills its slot from the entry in the buffer, a
derivation fills its target by the KDF, an erase empties its target, a challenge and a MAC leave their answers in the
buffer, and a verification gives its verdict; each use of a slot on the way, also one in vain, is a use (R426, R427, R430,
R433, R434). -/
def Obligations.KeyCommandsAct : Prop := ∀ (s : State) (l : LaneId) (v : View) (w : Word) (bad : Bool), Heard s l v →
  s.m.active l = true → (s.m.lane l).key.cmdState ≠ 1 →
  let bs := s.m.keyBuf l
  let slot := fld w 13 8
  let both := bitOf w 24 = true ∧ s.m.variant = .nfj8
  (keyLoadMode (s.m.lane l).sys.mode = true →
    (∀ x, judgeEntry true (s.m.lane l).key.slots (secEntryOf bs) (secEntryResv bs) = .ok x → (s.m.lane l).key.trngFailed = false →
      ¬both → (secEntryOf bs).op = 1 → (secEntryOf bs).kekSlot = 0xFF → Does (.keyImport l v ⟨w, bad⟩) s fun _ m =>
        keyEnd l 2 0 (putKeyBuf l 0 (List.replicate 128 0)
          (report l 16 0x9001 (secEntryOf bs).slot (secEntryOf bs).attr 0 (setSlot l (secEntryOf bs).slot x m)))) ∧
    (∀ x k, judgeEntry true (s.m.lane l).key.slots (secEntryOf bs) (secEntryResv bs) = .ok x →
      (s.m.lane l).key.trngFailed = false → ¬both → (secEntryOf bs).op = 1 → (secEntryOf bs).kekSlot ≠ 0xFF →
      (useSlot l (secEntryOf bs).kekSlot 1 bad s.m.fresh).1 = .ok k → Does (.keyImport l v ⟨w, bad⟩) s fun _ m =>
        keyEnd l 2 0 (putKeyBuf l 0 (List.replicate 128 0) (report l 16 0x9001 (secEntryOf bs).slot (secEntryOf bs).attr 0
          (setSlot l (secEntryOf bs).slot x (useSlot l (secEntryOf bs).kekSlot 1 bad m).2)))) ∧
    (∀ x, judgeEntry true (s.m.lane l).key.slots (secEntryOf bs) (secEntryResv bs) = .ok x → ¬both → (secEntryOf bs).op = 0 →
      Does (.keyImport l v ⟨w, bad⟩) s fun _ m =>
        keyEnd l 2 0 (report l 16 0x9001 (secEntryOf bs).slot (secEntryOf bs).attr 0 (setSlot l (secEntryOf bs).slot x m))) ∧
    (∀ x y, judgeEntry true (s.m.lane l).key.slots (secEntryOf bs) (secEntryResv bs) = .ok x → both → s.m.peerWrites l = true →
      judgeEntry true (s.m.lane l.other).key.slots (secEntryOf bs) (secEntryResv bs) = .ok y → (secEntryOf bs).op = 0 →
      Does (.keyImport l v ⟨w, bad⟩) s fun _ m =>
        keyEnd l 2 0 (report l.other 16 0x9001 (secEntryOf bs).slot (secEntryOf bs).attr 2 (setSlot l.other (secEntryOf bs).slot y
          (report l 16 0x9001 (secEntryOf bs).slot (secEntryOf bs).attr 0 (setSlot l (secEntryOf bs).slot x m))))) ∧
    (∀ c, judgeEntry true (s.m.lane l).key.slots (secEntryOf bs) (secEntryResv bs) = .error c →
      let kek := (secEntryOf bs).kekSlot
      let tries := (secEntryOf bs).tries (secEntryResv bs)
      (tries = false → Does (.keyImport l v ⟨w, bad⟩) s fun _ m => keyRefuse l c m) ∧
      (tries = true → c = keyAttr ∨ c = keyExhausted → Does (.keyImport l v ⟨w, bad⟩) s fun _ m =>
        keyEnd l 3 c (refuseUse l kek c m)) ∧
      (∀ d, tries = true → c ≠ keyAttr → c ≠ keyExhausted → (useSlot l kek 1 bad s.m.fresh).1 = .error d →
        Does (.keyImport l v ⟨w, bad⟩) s fun _ m => keyEnd l 3 d (useSlot l kek 1 bad m).2) ∧
      (∀ k, tries = true → c ≠ keyAttr → c ≠ keyExhausted → (useSlot l kek 1 bad s.m.fresh).1 = .ok k →
        Does (.keyImport l v ⟨w, bad⟩) s fun _ m => keyRefuse l c (useSlot l kek 1 bad m).2)) ∧
    (8 ≤ slot → ((s.m.lane l).key.slot slot).locked = false → ((s.m.lane l).key.slot slot).key.isSome = true → ¬both →
      Does (.keyErase l v w) s fun _ m => keyEnd l 2 0 (report l 16 0x9003 slot 0 0 (setSlot l slot {} m))) ∧
    (8 ≤ slot → ((s.m.lane l).key.slot slot).locked = false → ((s.m.lane l).key.slot slot).key.isSome = true → both →
      s.m.peerWrites l = true → ((s.m.lane l.other).key.slot slot).locked = false → Does (.keyErase l v w) s fun _ m =>
        keyEnd l 2 0 (report l.other 16 0x9003 slot 2 0 (setSlot l.other slot {}
          (report l 16 0x9003 slot 0 0 (setSlot l slot {} m)))))) ∧
  (keyUseMode (s.m.lane l).sys.mode = true →
    (∀ k, leAt bs 0 1 ≤ 96 → (useSlot l slot 0 bad s.m.fresh).1 = .ok k → Does (.keyMac l v ⟨w, bad⟩) s fun _ m =>
      keyEnd l 2 0 (putKeyBuf l 0x60 (hmac k (slice bs 1 (leAt bs 0 1))) (useSlot l slot 0 bad m).2)) ∧
    (∀ c, leAt bs 0 1 ≤ 96 → (useSlot l slot 0 bad s.m.fresh).1 = .error c → Does (.keyMac l v ⟨w, bad⟩) s fun _ m =>
      keyEnd l 3 c (useSlot l slot 0 bad m).2) ∧
    (∀ qx, attrType ((s.m.lane l).key.slot slot).attr = 3 → attrType ((s.m.lane l).key.slot (slot + 1)).shown = 4 →
      nbit ((s.m.lane l).key.slot (slot + 1)).shown 3 = true → ((s.m.lane l).key.slot (slot + 1)).isDead = false →
      (useSlot l slot 3 bad s.m.fresh).1 = .ok qx →
      Does (.keyVerify l v ⟨w, bad⟩) s fun _ m => keyEnd l 2
        (if ecdsaVerify (slice bs 0 32) (slice bs 32 32) (slice bs 64 32) qx
          (((s.m.lane l).key.slot (slot + 1)).key.getD []) then 0 else keySignature) (spend 16 l [(slot + 1, 3)] (useSlot l slot 3 bad m).2)) ∧
    (((s.m.lane l).key.slot slot).key.isSome = true → attrType ((s.m.lane l).key.slot slot).attr = 3 →
      attrType ((s.m.lane l).key.slot (slot + 1)).shown = 4 → nbit ((s.m.lane l).key.slot (slot + 1)).shown 3 = true →
      ((s.m.lane l).key.slot (slot + 1)).isDead = true → Does (.keyVerify l v ⟨w, bad⟩) s fun _ m =>
        keyEnd l 3 keyExhausted (refuseUse l (slot + 1) keyExhausted m)) ∧
    (∀ cfg k, (s.m.lane l).cfg.active = some cfg → nbit ((s.m.lane l).key.slot cfg.challengeSlot).shown 4 = true →
      (useSlot l cfg.challengeSlot 4 bad s.m.fresh).1 = .ok k → Does (.keyChallenge l v ⟨w, bad⟩) s fun _ m =>
        let msg := slice bs 0 16 ++ fitTo 16 Config.serial ++ leBytes 1 l.num ++ leBytes 3 0 ++
          leBytes 4 (s.m.lane l).mtr.sealWord ++ fitTo 32 (s.m.lane l).cfg.activeDigest
        keyEnd l 2 0 (report l 16 0x9006 cfg.challengeSlot (s.m.lane l).mtr.sealWord
          (leAt (s.m.lane l).cfg.activeDigest 0 4) (putKeyBuf l 0 (msg ++ hmac k msg) (useSlot l cfg.challengeSlot 4 bad m).2))) ∧
    (let source := fld w 21 16
     let ll := leAt bs 0 1
     let cl := leAt bs 1 1
     let attr := leAt bs 0x70 4 - attrType (leAt bs 0x70 4) * 512 + 512
     let count := leAt bs 0x74 4
     ∀ k, 8 ≤ slot → 1 ≤ ll → ll ≤ 32 → cl ≤ 64 → count < 2 ^ 24 → attrForbidden attr count = false → nbit attr 6 = false →
      ((s.m.lane l).key.slot slot).locked = false → nbit ((s.m.lane l).key.slot slot).attr 6 = false →
      (useSlot l source 2 bad s.m.fresh).1 = .ok k → Does (.keyDerive l v ⟨w, bad⟩) s fun _ m =>
        let out := kdf k (slice bs 2 ll) (slice bs (2 + ll) cl)
        keyEnd l 2 0 (report l 16 0x9002 source slot attr (setSlot l slot
          ⟨some out, attr, if nbit attr 8 then count else 0, []⟩ (useSlot l source 2 bad m).2))))

/-- A locked slot that holds a key keeps it, with its attributes, whatever key command runs on either lane; a slot found
faulty is reloaded from the array, which holds the same key (R421, R427, R432, R433). -/
def Obligations.LockedSlotsKeepTheirKeys : Prop := ∀ (s t : State) (l k : LaneId) (v : View) (w : Word) (bad : Bool) (n : Nat) (x : Bytes)
    (i : Instr),
  i = .keyImport l v ⟨w, bad⟩ ∨ i = .keyDerive l v ⟨w, bad⟩ ∨ i = .keyErase l v w ∨ i = .keyChallenge l v ⟨w, bad⟩ ∨ i = .keyMac l v ⟨w, bad⟩ ∨
    i = .keyVerify l v ⟨w, bad⟩ →
  exec i s = .next t → ((s.m.lane k).key.slot n).locked = true → ((s.m.lane k).key.slot n).key = some x →
  ((s.m.lane k).key.faulty.contains n = true → (s.m.lane k).key.stored k n = none ∨ (s.m.lane k).key.stored k n = some x) →
  ((t.m.lane k).key.slot n).key = some x ∧ ((t.m.lane k).key.slot n).attr = ((s.m.lane k).key.slot n).attr

/-- Power: every 1 ms the active lane keeps its measurements and raises the governor's step where the input is over its
share; 100 ms of less lower it; a firmware request for the host port's own domain is taken and any other refused with its
reason; a domain reaches the state it was entering (R439 to R448).
A reference off by more than 1 000 ppm is recorded: the lane of a control die halts, a solver die leaves service with the
jobs it had, a field die opens its outputs and sends no more; one within 1 000 ppm changes nothing (R120, R182, R314, R452;
that a lane that is not active halts too, and which lane records without an active one, is the model's choice, log entry
52). -/
def Obligations.PowerActs : Prop :=
  (∀ (s : State) (l : LaneId),
  (∀ vin iin pin vh lim, (s.m.lane l).red.holds = true → (s.m.lane l).sys.phase = .up → s.m.supplyGood = true →
    Does (.governorTick l vin iin pin vh lim) s fun _ m =>
      let m := clockTo (m.gridAfter 1000000 (m.lane l).pwr.tickAt) m
      let L := m.lane l
      let m := updPwr l (fun p => { p with
        tickAt := m.now, vIn := sat 65535 vin, iIn := sat 65535 iin, pIn := sat 65535 pin, vHold := sat 65535 vh,
        limit := lim, vLow := decide (vin < 10000), pAvail := L.available vin }) m
      let m := forEach m.laneList (fun k => updSys k fun x => { x with holdupOk := x.holdupOk && decide (7500 ≤ vh) }) m
      let m := if decide (vin < 10000) != L.pwr.vLow then
          report l 2 0x8004 vin (b2n (decide (vin < 10000))) 0 (raise l 2 2 m) else m
      let rest := match L.pwr.raiseAt with
        | some a => decide (a + 2000000 ≤ m.now)
        | none => true
      if L.pwr.step < 4 && rest && decide (95 * L.available vin < 100 * sat 65535 pin) then setStep l (L.pwr.step + 1) m
      else lowerWatch l m) ∧
  (∀ a, (s.m.lane l).pwr.lowSince = some a → (s.m.lane l).red.holds = true → (s.m.lane l).sys.phase = .up →
    s.m.supplyGood = true → 0 < (s.m.lane l).pwr.step → Does (.governorStepDown l) s fun _ m =>
      setStep l ((m.lane l).pwr.step - 1) (clockTo (max a (m.lane l).pwr.stepAt + 100000000) m)) ∧
  (∀ w, Heard s l .host → Does (.pwrDomRequest l .host w) s fun _ m =>
    updSel l .host (fun x => { x with pwrDom := w &&& 0x31F07 }) m) ∧
  (∀ w, Heard s l .fw → bitOf w 31 = true →
    let die := fld w 2 0
    let i := fld w 12 8
    let t := fld w 17 16
    let chosen := fun (m : Module) => updSel l .fw (fun x => { x with pwrDom := w &&& 0x31F07 }) m
    (s.m.pwrFitted l die = false → Does (.pwrDomRequest l .fw w) s fun _ m => domRefuse l die i 6 (chosen m)) ∧
    (s.m.pwrFitted l die = true → die ≠ l.num ∨ i ≠ 12 → Does (.pwrDomRequest l .fw w) s fun _ m =>
      domRefuse l die i 5 (chosen m)) ∧
    (die = l.num → i = 12 → t = 3 → Does (.pwrDomRequest l .fw w) s fun _ m => domRefuse l die i 4 (chosen m)) ∧
    (die = l.num → i = 12 → t < 3 → Does (.pwrDomRequest l .fw w) s fun _ m =>
      domRequest l die i (domStateOf t) (chosen m))) ∧
  (∀ die i c k, s.m.pwrFitted (if die < 2 then laneOfDie die else l) die = true → (s.m.dom die i).moving = true →
    ((s.m.dom die i).state ≠ .ret ∨ (s.m.dom die i).target ≠ .on ∨ retCapable die i = false ∨ (c = true ∧ k = true) →
      Does (.domainTransitionComplete l die i c k) s fun _ m => domAdvance die (domEffect die i (domArrive die i m))) ∧
    ((s.m.dom die i).state = .ret → (s.m.dom die i).target = .on → retCapable die i = true → ¬(c = true ∧ k = true) →
      Does (.domainTransitionComplete l die i c k) s fun _ m =>
        let own := if die < 2 then laneOfDie die else l
        domAdvance die (domEffect die i (retReaction own die i
          (report own 2 0x8003 die i (b2n c) (raise own 2 4 (domArrive die i m)))))))) ∧
  (∀ (s : State) (ppm : Nat),
  (∀ die, ppm ≤ 1000 → Does (.clockFail die ppm) s fun _ m => m) ∧
  (1000 < ppm →
    (∀ l, (s.m.lane l).sysOn = true →
      let kept := fun (m : Module) => report l 3 0x8006 l.num ppm 0
        (m.updLane l fun L => { L with clk := { L.clk with fail := L.clk.fail ||| word (1 <<< l.num) } })
      Does (.clockFail l.num ppm) s fun _ m => haltLane l 0 (kept m)) ∧
    (∀ d, d < s.m.variant.nSd → d < 2 → (s.m.sd d).powered = true → (s.m.sd d).clockFailed = false →
      Does (.clockFail (2 + d) ppm) s fun _ m =>
        let l : LaneId := if s.m.active .B then .B else .A
        slvWatch (loseJobs d ((report l 3 0x8006 (2 + d) ppm 0 (m.updLane l fun L =>
            { L with clk := { L.clk with fail := L.clk.fail ||| word (1 <<< (2 + d)) } })).updSd d fun x =>
          { x with state := .outOfService, clockFailed := true }))) ∧
    (∀ d, s.m.fdUp d = true → Does (.clockFail (4 + d) ppm) s fun _ m =>
      let l : LaneId := if s.m.active .B then .B else .A
      let m := (report l 3 0x8006 (4 + d) ppm 0 (m.updLane l fun L =>
          { L with clk := { L.clk with fail := L.clk.fail ||| word (1 <<< (4 + d)) } })).updFd d fun x =>
        { x with clockFailed := true }
      refreshFd d { m with mail := m.mail.filter fun x => x.src != 4 + d })))

/-- A lane's wake port answers while its always-on domain lives: each command byte is acknowledged and recorded and acts
while the supply is good; LANE_START counts over the peer path only; the status byte gives the mode, OSF, SUPPLY_GOOD and
the state of SYS; a bus that hangs changes nothing (R453, R454, R456, R459). -/
def Obligations.WakePortAnswers : Prop := ∀ (s : State) (l : LaneId) (peer : Bool), (s.m.lane l).rtc.alive = true →
  s.m.variant.nLane = 2 ∨ l = .A →
  let heard := fun (byte : Nat) (m : Module) =>
    report l 2 0x8005 byte (b2n peer) 0 (raise l 2 16 (put (.wakeAck l.num true) m))
  (s.m.supplyGood = true →
    Does (.rxPathOn l peer) s (fun _ m => domRequests l l.num rxDoms .on (heard 1 m)) ∧
    (s.m.active l = false → Does (.rxPathOff l peer) s fun _ m => domRequests l l.num [16, 1] .off (heard 2 m)) ∧
    (s.m.active l = true → Does (.rxPathOff l peer) s fun _ m => heard 2 m) ∧
    Does (.laneUp l peer) s (fun _ m => wakeDoms l (heard 3 m)) ∧
    ((s.m.lane l).sys.mode = .standby ∨ (s.m.lane l).sys.mode = .resync →
      Does (.laneDown l peer) s fun _ m => restDoms l (heard 4 m)) ∧
    ((s.m.lane l).sys.mode ≠ .standby → (s.m.lane l).sys.mode ≠ .resync → Does (.laneDown l peer) s fun _ m => heard 4 m) ∧
    (peer = true → s.m.variant.nLane = 2 → (s.m.lane l).sys.phase = .starting → (s.m.lane l).sys.holdupOk = true →
      (s.m.lane l).sys.failed = false → Does (.laneStart l peer) s fun st m =>
        startLane st l (updSys l (fun x => { x with elected := l }) (heard 5 m)))) ∧
  (s.m.supplyGood = false → (s.m.lane l).rtc.wakeEn = true →
    Does (.laneUp l peer) s fun _ m => requestPower l 1 (heard 3 m)) ∧
  Ends (.laneStart l false) s (fun t => OnlyLane l s t ∧ t.m.lane l = s.m.lane l ∧ t.m.out = [.wakeAck l.num false]) ∧
  Ends (.wakeStatusRead l) s (fun t => OnlyLane l s t ∧ t.m.lane l = s.m.lane l ∧ t.m.out = [.wakeByte l.num
    ((s.m.lane l).sys.mode.code + 8 * b2n (s.m.lane l).rtc.osf + 16 * b2n s.m.supplyGood + 32 * b2n (s.m.lane l).sysOn)]) ∧
  Ends (.wakeBusTimeout l) s (fun t => SameStores s t ∧ t.m = s.m.fresh.closed)

namespace Sys2Proof.Machine

/-- A ring's next descriptor can start as an operation of the ring, and its address and length are sound. -/
abbrev TakesUp (s : State) (l : LaneId) (r op : Nat) (d : HostDesc) : Prop :=
  s.m.fetches l r d.fence = true ∧ d.op = op ∧ ¬(r = 2 ∧ s.m.variant = .nfj2) ∧ d.addr % 4 = 0 ∧ d.len % 4 = 0 ∧
  4 ≤ d.len ∧ d.len ≤ 4194304

/-- The descriptor in execution on its ring. -/
def inCourse (l : LaneId) (r : Nat) (d : HostDesc) (m : Module) : Module :=
  updRing l r (fun g => { g with
    cur := some ⟨d.addr, d.len, d.op, d.irq, d.fence, d.param, d.tag⟩, ending := none, outData := [], firstAt := none }) m

end Sys2Proof.Machine

/-- Rings: a doorbell records PROD and the order of its arrival, and one beyond the ring's size puts the ring in ERROR;
RUN 1 starts a ring that is not in ERROR; RUN 0 stops it once the descriptor in execution is over; the size is written
while the ring is stopped only (R461, R467, R468, R470).
Ends and messages: a transfer that is over is written back; a host read that fails ends PCIE and puts its ring in
ERROR; coalesced completions send one message at the end of the hold-off (R463, R466, R468, R469). -/
def Obligations.RingsAct : Prop :=
  (∀ (s : State) (l : LaneId),
  (∀ r w, r < 8 → s.m.bar2 l = true → r < (s.m.lane l).hst.rings.length →
    let g := (s.m.lane l).ring r
    let n := (s.m.lane l).hst.bellSeq
    let post := if fld w 15 0 = g.prod then [] else [(n, fld w 15 0)]
    let rung := fun (m : Module) => updRing l r (fun g => { g with prod := fld w 15 0, posts := g.posts ++ post })
      (updHst l (fun h => { h with bellSeq := n + 1 }) m)
    ((fld w 15 0 + 65536 - g.cons) % 65536 ≤ g.size → Does (.doorbell l r w) s fun _ m => rung m) ∧
    (g.size < (fld w 15 0 + 65536 - g.cons) % 65536 → Does (.doorbell l r w) s fun _ m => ringError l r 1 (rung m))) ∧
  (∀ v w, Heard s l v →
    let r := (s.m.sel l v).hstRing
    let g := (s.m.lane l).ring r
    (bitOf w 0 = true → g.state ≠ 3 → Ends (.ringRun l v w) s (fun t => OnlyLane l s t ∧ t.m.out = [] ∧
      t.m.lane l = { s.m.lane l with hst := { (s.m.lane l).hst with rings := upd (s.m.lane l).hst.rings r fun g =>
        { g with holdoff := fld w 25 16, run := true, state := 1 } } })) ∧
    (bitOf w 0 = true → g.state = 3 → Ends (.ringRun l v w) s (fun t => OnlyLane l s t ∧ t.m.out = [] ∧
      t.m.lane l = { s.m.lane l with hst := { (s.m.lane l).hst with rings := upd (s.m.lane l).hst.rings r fun g =>
        { g with holdoff := fld w 25 16 } } })) ∧
    (bitOf w 0 = false → g.cur = none → g.state ≠ 3 → Ends (.ringStop l v w) s (fun t => OnlyLane l s t ∧ t.m.out = [] ∧
      t.m.lane l = { s.m.lane l with hst := { (s.m.lane l).hst with rings := upd (s.m.lane l).hst.rings r fun g =>
        { g with holdoff := fld w 25 16, run := false, state := 0 } } })) ∧
    (bitOf w 0 = false → g.cur = none → g.state = 3 → Ends (.ringStop l v w) s (fun t => OnlyLane l s t ∧ t.m.out = [] ∧
      t.m.lane l = { s.m.lane l with hst := { (s.m.lane l).hst with rings := upd (s.m.lane l).hst.rings r fun g =>
        { g with holdoff := fld w 25 16, run := false, state := 0, err := 0 } } })) ∧
    (bitOf w 0 = false → g.cur.isSome = true → g.ending = none → g.firstAt = none → g.state = 1 → r = 3 ∨ r = 5 ∨ r = 6 →
      r < (s.m.lane l).hst.rings.length → Ends (.ringStop l v w) s (fun t => OnlyLane l s t ∧ (t.m.lane l).ring r =
        { g with holdoff := fld w 25 16, run := false, state := 2, ending := some (4, 0), outData := [] })) ∧
    (bitOf w 0 = false → g.cur.isSome = true → g.state = 1 → r ≠ 3 → r ≠ 5 → r ≠ 6 → r < (s.m.lane l).hst.rings.length →
      Ends (.ringStop l v w) s (fun t => OnlyLane l s t ∧ (t.m.lane l).ring r =
        { g with holdoff := fld w 25 16, run := false, state := 2 })) ∧
    (g.state = 0 → fld w 12 0 ∈ [16, 32, 64, 128, 256, 512, 1024, 2048, 4096] →
      Ends (.hstRingSizeWrite l v w) s (fun t => OnlyLane l s t ∧ t.m.out = [] ∧
        t.m.lane l = { s.m.lane l with hst := { (s.m.lane l).hst with rings := upd (s.m.lane l).hst.rings r fun g =>
          { g with size := fld w 12 0, prod := 0, cons := 0, posts := [] } } })) ∧
    (g.state ≠ 0 ∨ fld w 12 0 ∉ [16, 32, 64, 128, 256, 512, 1024, 2048, 4096] →
      Ends (.hstRingSizeWrite l v w) s (fun t => OnlyLane l s t ∧ t.m.out = [] ∧ t.m.lane l = s.m.lane l)))) ∧
  (∀ (s : State) (l : LaneId) (r : Nat),
  let g := (s.m.lane l).ring r
  (∀ d e, g.cur = some d → g.ending = some e → s.m.mayMaster l = true → Does (.descriptorComplete l r) s fun _ m =>
    ringEnd l r e.1 e.2 (doneEffect l r d.op e.1 m)) ∧
  (∀ d n, g.cur = some d → g.ending = some (0, n) → inOp r d.op = true → s.m.mayMaster l = true → g.state = 1 ∨ g.state = 2 →
    Does (.pcieCompletionTimeout l r) s fun _ m => ringEnd l r 5 0 (doneEffect l r d.op 5 m)) ∧
  (g.cur = none → g.state = 1 → g.waiting ≠ 0 → s.m.mayMaster l = true → Does (.pcieCompletionTimeout l r) s fun _ m =>
    ringError l r 5 (ringMsg l r m)) ∧
  (∀ a, g.msgWait = true → g.msgAt = some a → Does (.msixHoldoffEnd l r) s fun _ m =>
    let m := clockTo (a + ((m.lane l).ring r).holdoff * 1000) m
    sendMsi l (18 + r) (updRing l r (fun g => { g with msgAt := some m.now, msgWait := false }) m)))

/-- A descriptor whose operation its ring does not have ends OP, and one whose address or length is not a multiple of 4,
or whose length is outside 4 to 4 194 304, ends LENGTH; neither does anything else (R462, R463). -/
def Obligations.DescriptorsAreJudgedFirst : Prop := ∀ (s : State) (l : LaneId) (d : HostDesc),
  ∀ c ∈ [(Instr.shadowWrite l d, 0, 1, 2), (.activeRead l d, 0, 2, 1), (.ringRead l d, 1, 1, 2), (.mlogRead l d, 1, 2, 1),
      (.warmIn l d, 2, 1, 2), (.resultOut l d, 2, 2, 1), (.readoutDescriptor l d, 3, 1, 2), (.tableOut l d, 3, 2, 1),
      (.instanceRead l d, 4, 1, 1), (.capture l d, 5, 1, 1), (.telemetry l d, 6, 1, 1), (.toFirmware l d, 7, 1, 2),
      (.fromFirmware l d, 7, 2, 1)],
    s.m.fetches l c.2.1 d.fence = true →
    (d.op ≠ c.2.2.1 → d.op ≠ c.2.2.2 → Does c.1 s fun _ m => ringDone l c.2.1 2 0 [] (inCourse l c.2.1 d m)) ∧
    (d.op = c.2.2.1 → ¬(c.2.1 = 2 ∧ s.m.variant = .nfj2) → d.addr % 4 ≠ 0 ∨ d.len % 4 ≠ 0 ∨ d.len < 4 ∨ 4194304 < d.len →
      Does c.1 s fun _ m => ringDone l c.2.1 1 0 [] (inCourse l c.2.1 d m))

/-- Out transfers: a descriptor that is sound and within its bounds sends the active image's bytes, raw records of the
ring or of the metrology log, a template's last result, the metering table, the frame area, or firmware's data (R388,
R464).
In transfers and waiting buffers: a warm-start set within the template's size is kept, another is refused INVALID;
data for firmware ends with its length; buffers for read-outs, captures and telemetry wait for what fills them (R78,
R267, R327, R464). -/
def Obligations.TransfersAct : Prop :=
  (∀ (s : State) (l : LaneId) (d : HostDesc),
  (TakesUp s l 0 2 d → d.param + d.len ≤ 12582912 → Does (.activeRead l d) s fun st m =>
    let a := imageBase (m.lane l).cfg.activeSlot + d.param
    sendOut l 0 (Memory.reads (st.mram l) a d.len) (nvmRead l a d.len (inCourse l 0 d m))) ∧
  (TakesUp s l 1 1 d → d.len % 32 = 0 → d.len ≤ 2097152 → d.param < 2 ^ 32 →
    (((s.m.lane l).evr.head + 1) % 2 ^ 32 ≠ (s.m.lane l).evr.tail → Does (.ringRead l d) s fun st m =>
      let i := d.param % 65536
      let n := min (d.len / 32) (65536 - i)
      let n2 := d.len / 32 - n
      sendOut l 1 (Memory.reads (st.mram l) (ringAddr i) (32 * n) ++ Memory.reads (st.mram l) (ringAddr 0) (32 * n2))
        (nvmRead l (ringAddr 0) (32 * n2) (nvmRead l (ringAddr i) (32 * n) (inCourse l 1 d m)))) ∧
    (((s.m.lane l).evr.head + 1) % 2 ^ 32 = (s.m.lane l).evr.tail → Does (.ringRead l d) s fun _ m =>
      ringDone l 1 6 0 [] (inCourse l 1 d m))) ∧
  (TakesUp s l 1 2 d → d.len % 32 = 0 → 32 * d.param + d.len ≤ 0x20000 → Does (.mlogRead l d) s fun st m =>
    let a := mlogBase + 32 * d.param
    sendOut l 1 (Memory.reads (st.mram l) a d.len) (nvmRead l a d.len (inCourse l 1 d m))) ∧
  (∀ c r, TakesUp s l 2 2 d → (s.m.lane l).conf.tmpl (d.param % 65536) = some c →
    (at? (s.m.lane l).slv.tpls (d.param % 65536 - 1) {}).result = some r → r.bytes.length ≤ d.len →
    Does (.resultOut l d) s fun _ m => sendOut l 2 r.bytes (inCourse l 2 d m)) ∧
  (∀ c, TakesUp s l 2 2 d → (s.m.lane l).conf.tmpl (d.param % 65536) = some c →
    (at? (s.m.lane l).slv.tpls (d.param % 65536 - 1) {}).result = none →
    Does (.resultOut l d) s fun _ m => ringDone l 2 6 0 [] (inCourse l 2 d m)) ∧
  (TakesUp s l 3 2 d →
    let out := fun (m : Module) => leBytes 8 m.us ++ leBytes 4 (48 * m.variant.nFd) ++ leBytes 4 0 ++
      (readoutBytes m l).drop 128
    (out (inCourse l 3 d s.m.fresh)).length ≤ d.len → Does (.tableOut l d) s fun _ m =>
      sendOut l 3 (out (inCourse l 3 d m)) (inCourse l 3 d m)) ∧
  (TakesUp s l 4 1 d → (s.m.lane l).sys.mode ≠ .blank → (s.m.lane l).prg.running = false →
    d.param + d.len ≤ ((s.m.lane l).conf.program.map (·.instBytes)).getD 0 → Does (.instanceRead l d) s fun _ m =>
      instEnd l (m.lane l).prg.frames (inCourse l 4 d m)) ∧
  (TakesUp s l 4 1 d → (s.m.lane l).sys.mode ≠ .blank → (s.m.lane l).prg.running = true →
    d.param + d.len ≤ ((s.m.lane l).conf.program.map (·.instBytes)).getD 0 → Does (.instanceRead l d) s fun _ m =>
      let L := m.lane l
      let m := inCourse l 4 d m
      let m := clockTo (max L.prg.t0 (m.gridFrom L.prg.t0 (L.conf.commonUs * 1000) 0)) m
      let busy := (List.range 4).filter fun t => (L.task t).executing
      if busy.isEmpty then instEnd l L.prg.frames m
      else updHst l (fun h => { h with instCap := some (busy, L.prg.frames) }) m) ∧
  (TakesUp s l 4 1 d → (s.m.lane l).sys.mode = .blank → Does (.instanceRead l d) s fun _ m =>
    ringDone l 4 7 0 [] (inCourse l 4 d m)) ∧
  (TakesUp s l 7 2 d → d.len ≤ 65536 → Does (.fromFirmware l d) s fun _ m =>
    sendOut l 7 (fitTo d.len d.data) (inCourse l 7 d m))) ∧
  (∀ (s : State) (l : LaneId) (d : HostDesc),
  (∀ c x, TakesUp s l 2 1 d → (s.m.lane l).conf.tmpl (d.param % 65536) = some c → parseWarm (fitTo d.len d.data) = some x →
    x.broken c = false → x.n ≤ c.warmNMax → Does (.warmIn l d) s fun _ m => ringDone l 2 0 d.len []
      (updHst l (fun h => { h with warmPend := some (d.param % 65536, x) }) (inCourse l 2 d m))) ∧
  (∀ c x, TakesUp s l 2 1 d → (s.m.lane l).conf.tmpl (d.param % 65536) = some c → parseWarm (fitTo d.len d.data) = some x →
    x.broken c = true ∨ c.warmNMax < x.n → Does (.warmIn l d) s fun _ m => ringDone l 2 8 0 []
      (updHst l (fun h => { h with warmPend := some (d.param % 65536, x) }) (inCourse l 2 d m))) ∧
  (∀ c, TakesUp s l 2 1 d → (s.m.lane l).conf.tmpl (d.param % 65536) = some c → parseWarm (fitTo d.len d.data) = none →
    Does (.warmIn l d) s fun _ m => ringDone l 2 8 0 [] (inCourse l 2 d m)) ∧
  (TakesUp s l 7 1 d → d.len ≤ 65536 → Does (.toFirmware l d) s fun _ m => ringDone l 7 0 d.len [] (inCourse l 7 d m)) ∧
  (TakesUp s l 3 1 d → s.m.readoutSize ≤ d.len → Does (.readoutDescriptor l d) s fun _ m =>
    readoutGive l (inCourse l 3 d m)) ∧
  (TakesUp s l 5 1 d → d.len % 96 = 0 → Does (.capture l d) s fun _ m => inCourse l 5 d m) ∧
  (TakesUp s l 6 1 d → 64 ≤ d.len → Does (.telemetry l d) s fun _ m => inCourse l 6 d m) ∧
  (∀ c a, ((s.m.lane l).ring 5).cur = some c → ((s.m.lane l).ring 5).ending = none → ((s.m.lane l).ring 5).firstAt = some a →
    Does (.captureBufferTimeout l) s fun _ m => ringDone l 5 9 ((m.lane l).ring 5).outData.length
      ((m.lane l).ring 5).outData (clockTo (a + 1000000) m)) ∧
  (s.m.active l = true →
    let due := fun (m : Module) => clockTo ((m.lane l).hst.telemAt + (m.lane l).hst.telemMs * 1000000) m
    let told := fun (m : Module) => updHst l (fun h => { h with
      telemAt := (due m).now, telemCount := (h.telemCount + 1) % 2 ^ 32 }) (due m)
    (((s.m.lane l).ring 6).cur.isSome = true → ((s.m.lane l).ring 6).ending = none →
      Does (.telemetryTick l) s fun _ m => sendOut l 6 (telemFrame (due m) l) (told m)) ∧
    (((s.m.lane l).ring 6).cur = none ∨ ((s.m.lane l).ring 6).ending.isSome = true → Does (.telemetryTick l) s fun _ m => ringDrop l 6 1 (told m))))

/-- The endpoint: a Function Level Reset returns the host block and the BAR0 view's selects to reset and stops every
ring; PERST# is a link-down with one; a link-down ends every running ring in ERROR; a link that comes up and a change of
the configuration space are kept, and messages that may go then go (R457, R459, R460, R468, R469, R492, R504). -/
def Obligations.EndpointActs : Prop := ∀ (s : State) (l : LaneId),
  ((s.m.lane l).hst.linkUp = true → Ends (.functionLevelReset l) s (fun t => OnlyLane l s t ∧
    (t.m.lane l).hst = { (s.m.lane l).hst with
      rings := List.replicate 8 {}, bme := false, msix := false, fmask := false, vmask := 0xFFFFFFFF, vpend := 0, irq := 0,
      irqEn := 1, telemMs := 100, instCap := none, warmPend := none } ∧ (t.m.lane l).selHost = {} ∧
    (t.m.lane l).selFw = (s.m.lane l).selFw ∧ (t.m.lane l).sys = (s.m.lane l).sys ∧ (t.m.lane l).cfg = (s.m.lane l).cfg ∧
    (t.m.lane l).red = (s.m.lane l).red) ∧
  Does (.functionLevelReset l) s (fun _ m => flrReset l (m.lane l).hst.running m)) ∧
  ((at? (s.m.lane l).pwr.doms 15 {}).state = .on →
    ((s.m.lane l).hst.linkUp = true → Does (.perstAssert l) s fun _ m =>
      flrReset l (m.lane l).hst.running (linkDown l m)) ∧
    ((s.m.lane l).hst.linkUp = false → Does (.perstAssert l) s fun _ m => flrReset l (m.lane l).hst.running m) ∧
    (∀ speed width, 1 ≤ speed → speed ≤ 3 → 1 ≤ width → width ≤ 2 → Ends (.pcieLinkUp l speed width) s (fun t =>
      OnlyLane l s t ∧ t.m.out = [] ∧ t.m.lane l = { s.m.lane l with hst := { (s.m.lane l).hst with
        linkUp := true, speed := speed, width := width } }))) ∧
  ((s.m.lane l).hst.linkUp = true → Does (.pcieLinkDown l) s fun _ m => linkDown l m) ∧
  (∀ b x f, (s.m.lane l).hst.linkUp = true → Does (.pcieConfigWrite l b x f) s fun _ m =>
    releaseMsi l (updHst l (fun h => { h with bme := b, msix := x, fmask := f }) m)) ∧
  (∀ n, n < 32 → s.m.bar2 l = true → Does (.msixVectorUnmask l n) s fun _ m =>
    releaseMsi l (updHst l (fun h => { h with vmask := h.vmask &&& ~~~(word (1 <<< n)) }) m))

/-- The writes of a completed descriptor reach host memory in the rules' order: the data, DONE_LEN, STATUS, the FLAGS with
DONE set, then CONS at the writeback address; CONS has moved on by one (R461, R466). -/
def Obligations.CompletionsAreWrittenInOrder : Prop := ∀ (m : Module) (l : LaneId) (r code len : Nat) (d : Desc),
  let g := (m.lane l).ring r
  r < (m.lane l).hst.rings.length → g.cur = some d → code ≠ 5 →
  let t := ringEnd l r code len m
  ((t.lane l).ring r).cons = (g.cons + 1) % 65536 ∧ ((t.lane l).ring r).cur = none ∧
  ∃ a b c e f, t.nvmOut = m.nvmOut ++ a ++ b ++ c ++ e ++ f ∧
    (g.outData ≠ [] → a = [(2, d.addr, g.outData.take len)]) ∧ (g.outData = [] → a = []) ∧
    b = [(2, g.slotAddr g.cons + 0x18, leBytes 4 len)] ∧ c = [(2, g.slotAddr g.cons + 0x0E, leBytes 1 code)] ∧
    e = [(2, g.slotAddr g.cons + 0x0D, leBytes 1 (1 + 2 * b2n d.irq + 4 * b2n d.fence))] ∧
    (g.wb ≠ 0 → f = [(2, g.wb, leBytes 4 ((g.cons + 1) % 65536))]) ∧ (g.wb = 0 → f = [])

/-- Metrology-class records are never rate-limited, held or dropped by the recorder: the lane that meters takes one into
its intake whatever its bucket holds and however long the intake is; the recorder, once it can program, writes it into
the next free slot of the metrology log, which reads 0, ring frozen or not, and holds none; where the log has no room for
it, it is counted in MTR_MLOG_LOST (R365, R393). -/
def Obligations.MetrologyRecordsAreNeverDropped : Prop := ∀ (s : State) (l : LaneId) (r : EvRec), isMetrology r.code = true →
  (∀ (L : Lane) (now : Nat) (supply : Bool), L.red.holds = true → L.take now supply r = { L with evr := { L.evr with intake := L.evr.intake ++ [r] } }) ∧
  (∀ rest, (s.m.lane l).red.holds = true → (s.m.lane l).evr.aoStore = [] → (s.m.lane l).evr.intake = r :: rest →
    (s.m.lane l).evr.frozen = true ∨ (s.m.lane l).evr.held = [] ∨ (s.m.lane l).sys.phase = .saving →
    s.m.canRecord l = true ∨ (s.m.lane l).sys.phase = .saving →
    Ends (.eventRecordWritten l) s (fun t => (t.m.lane l).evr.held = (s.m.lane l).evr.held ∧
      (t.m.lane l).evr.intake = rest ∧
      ((s.m.lane l).evr.mRoom r.code = true → s.mem.wf = true →
        logTaken (s.mem.mram l) (mlogBase + 32 * (s.m.lane l).evr.mUsed) 32 = false →
        (t.m.lane l).evr.mUsed = (s.m.lane l).evr.mUsed + 1 ∧ (t.m.lane l).mtr.mlogLost = (s.m.lane l).mtr.mlogLost ∧
        (∀ k, k < 32 → Memory.read (t.mem.mram l) (mlogBase + 32 * (s.m.lane l).evr.mUsed + k) =
          at? (r.bytes (nextSeq (s.m.lane l).evr.mHead)) k 0) ∧
        ∀ a, a < mlogBase + 32 * (s.m.lane l).evr.mUsed ∨ mlogBase + 32 * (s.m.lane l).evr.mUsed + 32 ≤ a →
          Memory.read (t.mem.mram l) a = Memory.read (s.mem.mram l) a) ∧
      ((s.m.lane l).evr.mRoom r.code = false →
        (t.m.lane l).mtr.mlogLost = sat 0xFFFF ((s.m.lane l).mtr.mlogLost + 1) ∧
        (t.m.lane l).evr.mUsed = (s.m.lane l).evr.mUsed)))

/-- Claim numbers: the epoch stands in bits 31 to 1 and the lane in bit 0; they compare as unsigned numbers, the higher
epoch first; no claim number is one of both lanes (R271). -/
def Obligations.ClaimNumbersNameTheirLane : Prop := ∀ (e f : Nat) (l k : LaneId), e < 2 ^ 31 → f < 2 ^ 31 →
  mkClaim e l < 2 ^ 32 ∧ claimEpoch (mkClaim e l) = e ∧ claimLane (mkClaim e l) = l ∧
  (mkClaim e l % 2 = 0 ↔ l = .A) ∧ (mkClaim e l < mkClaim f k ↔ e < f ∨ (e = f ∧ l = .A ∧ k = .B)) ∧
  mkClaim e .A ≠ mkClaim f .B

/-- A step runs the command at the front of the queue on everything else, with the queue's rest. -/
def Obligations.StepRunsTheFront : Prop := ∀ (s : State) (c : Instr),
  step (s.withCommand c) = exec c s ∧ ∀ rest, s.pending = c :: rest → step s = exec c { s with pending := rest }

/-- The model's choices, log entries 1 and 2: an empty queue idles and the clock moves on by 10 ns; and every command
answers a next state that leaves the queue of waiting commands as it was. -/
def Obligations.EveryCommandAnswers : Prop :=
  (∀ s : State, s.pending = [] → step s = .next { s with m := { s.m with now := s.m.now + 10 } }) ∧
  ∀ (i : Instr) (s : State), ∃ t, exec i s = .next t ∧ t.pending = s.pending ∧ t.m.nvmOut = []

/-- Every step keeps the stores of both lanes and of the host in their canonical form: addresses rising and no byte
listed that an unlisted address reads as. -/
def Obligations.StepKeepsTheStoresCanonical : Prop := ∀ (s t : State), s.Inv → step s = .next t → t.Inv

/-- The machine right after reset: stores canonical, the host's empty and both lanes' as a new module's are (log entry 4),
nothing waiting, no supply, no lane holding a claim, every
field and solver die with claim 0 (R272), and the calendar of both lanes at its reset values with OSF set (chapter 16). -/
def Obligations.ResetIsSound : Prop :=
  State.reset.Inv ∧ State.reset.mem = { mramA := newMram, mramB := newMram } ∧ State.reset.pending = [] ∧ State.reset.m.supplyGood = false ∧
  (∀ l, (State.reset.m.lane l).red.holds = false ∧ (State.reset.m.lane l).rtc.cal = ⟨0, 0, 0, 6, 1, 1, 2000⟩ ∧
    (State.reset.m.lane l).rtc.osf = true) ∧
  (∀ d, (State.reset.m.fd d).claim = 0) ∧ ∀ d, (State.reset.m.sd d).claim = 0

/-- No lane comes to hold a claim but by the acknowledgements of a quorum: the one command after which a lane holds a
claim that it did not hold before is CLAIM_LATCH_ACK, on an exchange in which the lane has raised its claim at a start, a
revert, a takeover, a switchover or a TAKE, once as many dies as the quorum asks have latched it (R280, R295). -/
def Obligations.OnlyAQuorumMakesALaneActive : Prop := ∀ (s t : State) (i : Instr) (l : LaneId), exec i s = .next t →
  (s.m.lane l).red.holds = false → (t.m.lane l).red.holds = true →
  ∃ e, i = .claimLatchAck l ∧ (s.m.lane l).red.exch = some e ∧ e.raised = true ∧ e.why ≠ .join ∧
    s.m.variant.quorum ≤ (e.latched ++ (takeAcks l e.proposed s.m.mail).1).dedup.length

/-- Every command of the configuration block and of the apply completes: the bytes a SHADOW_WRITE puts in the shadow slot,
the start and the end of a check with its mirror to the standby lane, the arm, ABANDON of a PASSED shadow, and each step of
the apply up to the swap of the banks at t_A (R47, R50, R55, R56, R58, R60, R464). -/
def Obligations.EveryConfigurationCommandCompletes : Prop := ∀ (s : State) (l : LaneId) (v : View),
  let c := (s.m.lane l).cfg
  (∀ d : HostDesc, s.m.fetches l 0 d.fence = true → d.op = 1 → d.addr % 4 = 0 → d.len % 4 = 0 → 4 ≤ d.len →
    d.len ≤ 4194304 → d.param + d.len ≤ 12582912 → c.state ∉ [.checking, .armed] →
    Does (.shadowWrite l d) s fun st m =>
      let k : Desc := ⟨d.addr, d.len, d.op, d.irq, d.fence, d.param, d.tag⟩
      let m := updRing l 0 (fun g => { g with cur := some k, ending := none, outData := [], firstAt := none }) m
      let a := imageBase c.shadowSlot + d.param
      ringDone l 0 0 d.len [] (clearProvenance st l (mramWrite .shadow st l a (fitTo d.len d.data) (shadowAccepted l m)))) ∧
  (Heard s l v → (s.m.lane l).sys.mode ∉ [.standby, .resync] → c.state = .loading →
    Does (.cfgEnable l v) s fun st m =>
      let i := rawImage (Memory.reads ((m.settled st l).mram l) (imageBase c.shadowSlot) 256)
      updCfg l (fun x => { x with
        state := .checking, stage := 1, enableAt := m.now, delta := i.kind == 1, mirrorWait := false }) m) ∧
  (∀ us, c.state = .checking → c.mirrorWait = false → (s.m.lane l).sys.mode ∉ [.standby, .resync] →
    Does (.consistencyCheckEnd l us) s fun st m =>
      let m := clockTo (c.enableAt + 1000 * us) m
      let st := m.settled st l
      let shadow := slotBytes (st.mram l) c.shadowSlot
      let r := consistency (m.checkEnv st l) shadow
      let m := updCfg l (fun x => { x with shadowDigest := r.digest.getD [] })
        (spend 1 l r.uses (readSlot (st.mram l) l c.shadowSlot m))
      match r.refusal with
      | some x => checkRefused l x m
      | none => mirrorCheck l (updCfg l (fun x => { x with
          candidate := some r.conf, shadowCounter := r.conf.counter, meteringChanged := r.meteringChanged
          sealOk := r.sealOk, programChanged := r.programChanged }) (storeComposed st l c.delta shadow r.bodies m))) ∧
  (c.state = .checking → c.mirrorWait = true → (s.m.lane l.other).sys.mode = .standby → s.m.laneLink = true →
    Does (.standbyDigestReport l) s fun st m =>
      let m := mirrorShadow st l m
      let i := rawImage (slotBytes ((m.cur st).mram l.other) (m.lane l.other).cfg.shadowSlot)
      if digestField (canonical i (composeOver [] i)) = c.shadowDigest then checkPassed l true m
      else checkRefused l imageMismatch m) ∧
  (c.state = .checking → c.mirrorWait = true → Does (.mirrorTimeout l) s fun _ m =>
    checkPassed l false (report l 1 0x1008 c.shadowCounter (c.shadowCounter / 2 ^ 32) 0
      (clockTo (c.mirrorAt + 50000000) m))) ∧
  (∀ new at_, Heard s l v → (s.m.lane l).sys.mode ∉ [.standby, .resync] → c.state = .passed → c.candidate = some new →
    s.m.applyInstant l = some at_ → Does (.applyArm l v) s fun _ m =>
      let armed := updCfg l (fun x => { x with
        state := .armed, armAt := m.now, applyInstant := at_, applySent := [], acked := [], confirmSent := false }) m
      stageDies l new (armed.applyDies l) armed) ∧
  (Heard s l v → c.state = .passed → Does (.cfgAbandon l v) s fun _ m =>
    report l 1 0x1005 CfgState.passed.code 0 0 (abortShadowWrite l (updCfg l (fun x => { x with
      state := .empty, shadowDigest := [], candidate := none, delta := false, applySent := [], staged := []
      acked := [] }) m))) ∧
  (c.state = .armed → c.confirmSent = false → Does (.applyAnnounce l) s fun _ m =>
    let m := clockTo (c.applyInstant - (if c.applySent = [] then 2000000 else 1000000)) m
    let dies := if c.applySent = [] then m.applyDies l else c.applySent
    forEach (dies.filter (2 ≤ ·)) (fun d => send l.num d (.apply (s.m.lane l).red.claim c.applyInstant))
      (updCfg l (fun x => { x with
        applySent := dies, acked := if x.acked.contains l.num then x.acked else l.num :: x.acked }) m)) ∧
  (∀ die at_ rest, 2 ≤ die → die < 8 →
    s.m.mail = { src := l.num, dst := die, msg := .apply (s.m.dieClaim die) at_ } :: rest → die ∈ c.staged →
    Does (.applyMsg die) s fun _ m => updCfg l (fun x => { x with
      acked := if x.acked.contains die then x.acked else die :: x.acked })
        (setDieApply die (some at_) false { m with mail := rest })) ∧
  (c.state = .armed → c.confirmSent = false →
    let dies := if c.applySent = [] then s.m.applyDies l else c.applySent
    (c.laggard dies = none → Does (.applyAckDeadline l) s fun _ m => clockTo (c.applyInstant - 500000) m) ∧
    (∀ d, c.laggard dies = some d → Does (.applyAckDeadline l) s fun _ m =>
      cancelArm l d (clockTo (c.applyInstant - 500000) m)) ∧
    (c.laggard dies = none → Does (.applyConfirm l) s fun _ m =>
      forEach (c.applySent.filter (2 ≤ ·)) (fun d => send l.num d (.confirm (s.m.lane l).red.claim))
        (updCfg l (fun x => { x with confirmSent := true }) (clockTo (c.applyInstant - 200000) m)))) ∧
  (∀ die rest, 2 ≤ die → die < 8 →
    s.m.mail = { src := l.num, dst := die, msg := .cancel (s.m.dieClaim die) } :: rest →
    Does (.cancelMsg die) s fun _ m => setDieApply die none false { m with mail := rest }) ∧
  (∀ die at_ rest, 2 ≤ die → die < 8 →
    s.m.mail = { src := l.num, dst := die, msg := .confirm (s.m.dieClaim die) } :: rest → s.m.dieApplyAt die = some at_ →
    Does (.confirmMsg die) s fun _ m => setDieApply die (some at_) true { m with mail := rest }) ∧
  (∀ die at_, 2 ≤ die → die < 8 → s.m.dieApplyAt die = some at_ → s.m.dieConfirmed die = true →
    Does (.bankSwap die) s fun _ m =>
      if die < 4 then swapSolver (die - 2) (clockTo at_ m) else swapField (die - 4) (clockTo at_ m)) ∧
  (∀ new, c.state = .armed → c.confirmSent = true → c.candidate = some new →
    Does (.applyInstant l) s fun st m => applyLane st l new (clockTo c.applyInstant m))
end

