-- ==== Sys2Proof/Laws/Bytes.lean ====
section
/-! SUPPORT. The lengths of the byte strings the records are built from. -/

namespace Sys2Proof.Machine

@[simp] theorem length_slice (bs : Bytes) (off n : Nat) : (slice bs off n).length = n := by
  simp only [slice, List.length_append, List.length_replicate, List.length_take]
  omega

@[simp] theorem length_fitTo (n : Nat) (bs : Bytes) : (fitTo n bs).length = n := by simp [fitTo]

@[simp] theorem length_leBytes (n x : Nat) : (leBytes n x).length = n := by
  induction n generalizing x <;> simp_all [leBytes]

theorem length_readoutHead (m : Module) (l : LaneId) (missing : Bool) : (readoutHead m l missing).length = 128 := by
  simp only [readoutHead, List.length_append, length_fitTo, length_leBytes]

end Sys2Proof.Machine
end

