-- ==== Sys2Proof/Laws/Memory.lean ====
section
/-! SUPPORT. The laws of a store of bytes: a byte reads as it was last written, a write leaves every other byte alone,
and every write keeps the canonical form. -/

namespace Sys2Proof.Machine

theorem wfFrom_mono {lo hi : Nat} {m : Mem} (h : lo ≤ hi) (w : Memory.wfFrom hi m = true) :
    Memory.wfFrom lo m = true := by
  cases m with
  | nil => rfl
  | cons p t =>
    obtain ⟨c, x⟩ := p
    simp only [Memory.wfFrom, Bool.and_eq_true, decide_eq_true_eq] at w ⊢
    exact ⟨⟨by omega, w.1.2⟩, w.2⟩

/-- An address below a canonical list reads 0. -/
theorem read_below {lo a : Nat} {m : Mem} (w : Memory.wfFrom lo m = true) (h : a < lo) : Memory.read m a = 0 := by
  induction m generalizing lo with
  | nil => rfl
  | cons p t ih =>
    obtain ⟨c, x⟩ := p
    simp only [Memory.wfFrom, Bool.and_eq_true, decide_eq_true_eq] at w
    simp only [Memory.read]
    rw [if_neg (by omega)]
    exact ih w.2 (by omega)

theorem wfFrom_write {lo a : Nat} {m : Mem} (b : Byte) (w : Memory.wfFrom lo m = true) (h : lo ≤ a) :
    Memory.wfFrom lo (Memory.write m a b) = true := by
  induction m generalizing lo with
  | nil => simp only [Memory.write]; split <;> simp_all [Memory.wfFrom]
  | cons p t ih =>
    obtain ⟨c, x⟩ := p
    simp only [Memory.wfFrom, Bool.and_eq_true, decide_eq_true_eq] at w
    simp only [Memory.write]
    split
    · split
      · simp_all [Memory.wfFrom]
      · have : Memory.wfFrom (c + 1) t = true := w.2
        simp_all [Memory.wfFrom]
    · split
      · split
        · exact wfFrom_mono (by omega) w.2
        · simp_all [Memory.wfFrom]
      · simp only [Memory.wfFrom, Bool.and_eq_true, decide_eq_true_eq]
        exact ⟨w.1, ih w.2 (by omega)⟩

/-- A write keeps the canonical form. -/
theorem wf_write {m : Mem} (a : Nat) (b : Byte) (w : Memory.wf m = true) : Memory.wf (Memory.write m a b) = true :=
  wfFrom_write b w (Nat.zero_le a)

/-- A run of writes keeps the canonical form. -/
theorem wf_writes {m : Mem} (a : Nat) (bs : Bytes) (w : Memory.wf m = true) : Memory.wf (Memory.writes m a bs) = true := by
  induction bs generalizing m a with
  | nil => exact w
  | cons b t ih => exact ih (a + 1) (wf_write a b w)

/-- A byte reads as it was last written. -/
theorem read_write_same {m : Mem} (a : Nat) (b : Byte) (w : Memory.wf m = true) :
    Memory.read (Memory.write m a b) a = b := by
  suffices h : ∀ (lo : Nat) (m : Mem), Memory.wfFrom lo m = true → Memory.read (Memory.write m a b) a = b from h 0 m w
  intro lo m
  induction m generalizing lo with
  | nil => intro _; simp only [Memory.write]; split <;> simp_all [Memory.read]
  | cons p t ih =>
    obtain ⟨c, x⟩ := p
    intro w
    simp only [Memory.wfFrom, Bool.and_eq_true, decide_eq_true_eq] at w
    simp only [Memory.write]
    split
    · split
      · rename_i h1 h2
        subst h2
        simp only [Memory.read]
        rw [if_neg (by omega)]
        exact read_below w.2 (by omega)
      · simp [Memory.read]
    · split
      · split
        · rename_i _ h1 h2
          subst h2
          exact read_below w.2 (by omega)
        · simp [Memory.read]
      · simp only [Memory.read]
        rw [if_neg (by omega)]
        exact ih _ w.2

/-- A write leaves every other byte alone. -/
theorem read_write_other (m : Mem) {a c : Nat} (b : Byte) (h : c ≠ a) :
    Memory.read (Memory.write m a b) c = Memory.read m c := by
  induction m with
  | nil => simp only [Memory.write]; split <;> simp_all [Memory.read]
  | cons p t ih =>
    obtain ⟨k, x⟩ := p
    simp only [Memory.write]
    split
    · split <;> simp_all [Memory.read]
    · split
      · split <;> simp_all [Memory.read]
      · simp only [Memory.read]
        split <;> simp_all

end Sys2Proof.Machine
end

