-- ==== Sys2Proof/Laws/State.lean ====
section
/-! SUPPORT. What each named update of the module does to each of its parts: one lemma per part per update. -/

namespace Sys2Proof.Machine

/-! ### Lanes -/

@[simp] theorem LaneId.other_other (l : LaneId) : l.other.other = l := by cases l <;> rfl

@[simp] theorem LaneId.other_ne (l : LaneId) : l.other ≠ l := by cases l <;> decide

@[simp] theorem lane_updLane (m : Module) (l : LaneId) (f : Lane → Lane) : (m.updLane l f).lane l = f (m.lane l) := by
  cases l <;> rfl

@[simp] theorem lane_updLane_other (m : Module) (l : LaneId) (f : Lane → Lane) :
    (m.updLane l f).lane l.other = m.lane l.other := by
  cases l <;> rfl

@[simp] theorem lane_updLane_of_other (m : Module) (l : LaneId) (f : Lane → Lane) :
    (m.updLane l.other f).lane l = m.lane l := by
  cases l <;> rfl

@[simp] theorem updLane_id (m : Module) (l : LaneId) : (m.updLane l fun L => L) = m := by cases l <;> rfl

@[simp] theorem updLane_updLane (m : Module) (l : LaneId) (f g : Lane → Lane) :
    (m.updLane l f).updLane l g = m.updLane l fun L => g (f L) := by
  cases l <;> rfl

@[simp] theorem updLane_variant (m : Module) (l : LaneId) (f : Lane → Lane) : (m.updLane l f).variant = m.variant := by
  cases l <;> rfl

@[simp] theorem updLane_sds (m : Module) (l : LaneId) (f : Lane → Lane) : (m.updLane l f).sds = m.sds := by
  cases l <;> rfl

@[simp] theorem updLane_fds (m : Module) (l : LaneId) (f : Lane → Lane) : (m.updLane l f).fds = m.fds := by
  cases l <;> rfl

@[simp] theorem updLane_mail (m : Module) (l : LaneId) (f : Lane → Lane) : (m.updLane l f).mail = m.mail := by
  cases l <;> rfl

@[simp] theorem updLane_supplyGood (m : Module) (l : LaneId) (f : Lane → Lane) : (m.updLane l f).supplyGood = m.supplyGood := by
  cases l <;> rfl

@[simp] theorem updLane_goodAt (m : Module) (l : LaneId) (f : Lane → Lane) : (m.updLane l f).goodAt = m.goodAt := by
  cases l <;> rfl

@[simp] theorem updLane_laneLinks (m : Module) (l : LaneId) (f : Lane → Lane) : (m.updLane l f).laneLinks = m.laneLinks := by
  cases l <;> rfl

@[simp] theorem updLane_laneLink (m : Module) (l : LaneId) (f : Lane → Lane) : (m.updLane l f).laneLink = m.laneLink := by
  cases l <;> rfl

@[simp] theorem updLane_islands (m : Module) (l : LaneId) (f : Lane → Lane) : (m.updLane l f).islands = m.islands := by
  cases l <;> rfl

@[simp] theorem updLane_bus (m : Module) (l : LaneId) (f : Lane → Lane) : (m.updLane l f).bus = m.bus := by
  cases l <;> rfl

@[simp] theorem updLane_out (m : Module) (l : LaneId) (f : Lane → Lane) : (m.updLane l f).out = m.out := by
  cases l <;> rfl

@[simp] theorem updLane_nvmOut (m : Module) (l : LaneId) (f : Lane → Lane) : (m.updLane l f).nvmOut = m.nvmOut := by
  cases l <;> rfl

@[simp] theorem updLane_now (m : Module) (l : LaneId) (f : Lane → Lane) : (m.updLane l f).now = m.now := by
  cases l <;> rfl

@[simp] theorem updLane_free (m : Module) (l : LaneId) (f : Lane → Lane) : (m.updLane l f).free = m.free := by
  cases l <;> rfl

@[simp] theorem updLane_fd (m : Module) (l : LaneId) (f : Lane → Lane) (d : Nat) : (m.updLane l f).fd d = m.fd d := by
  cases l <;> rfl

@[simp] theorem updLane_sd (m : Module) (l : LaneId) (f : Lane → Lane) (d : Nat) : (m.updLane l f).sd d = m.sd d := by
  cases l <;> rfl

/-! ### Dies -/

@[simp] theorem updFd_sd (m : Module) (d e : Nat) (f : FieldDie → FieldDie) : (m.updFd d f).sd e = m.sd e := rfl

@[simp] theorem updSd_fd (m : Module) (d e : Nat) (f : SolverDie → SolverDie) : (m.updSd d f).fd e = m.fd e := rfl

@[simp] theorem updFd_laneA (m : Module) (d : Nat) (f : FieldDie → FieldDie) : (m.updFd d f).laneA = m.laneA := by cases m; rfl

@[simp] theorem updFd_laneB (m : Module) (d : Nat) (f : FieldDie → FieldDie) : (m.updFd d f).laneB = m.laneB := by cases m; rfl

@[simp] theorem updFd_variant (m : Module) (d : Nat) (f : FieldDie → FieldDie) : (m.updFd d f).variant = m.variant := by cases m; rfl

@[simp] theorem updFd_sds (m : Module) (d : Nat) (f : FieldDie → FieldDie) : (m.updFd d f).sds = m.sds := by cases m; rfl

@[simp] theorem updFd_mail (m : Module) (d : Nat) (f : FieldDie → FieldDie) : (m.updFd d f).mail = m.mail := by cases m; rfl

@[simp] theorem updFd_supplyGood (m : Module) (d : Nat) (f : FieldDie → FieldDie) : (m.updFd d f).supplyGood = m.supplyGood := by cases m; rfl

@[simp] theorem updFd_goodAt (m : Module) (d : Nat) (f : FieldDie → FieldDie) : (m.updFd d f).goodAt = m.goodAt := by cases m; rfl

@[simp] theorem updFd_laneLinks (m : Module) (d : Nat) (f : FieldDie → FieldDie) : (m.updFd d f).laneLinks = m.laneLinks := by cases m; rfl

@[simp] theorem updFd_laneLink (m : Module) (d : Nat) (f : FieldDie → FieldDie) : (m.updFd d f).laneLink = m.laneLink := by cases m; rfl

@[simp] theorem updFd_islands (m : Module) (d : Nat) (f : FieldDie → FieldDie) : (m.updFd d f).islands = m.islands := by cases m; rfl

@[simp] theorem updFd_bus (m : Module) (d : Nat) (f : FieldDie → FieldDie) : (m.updFd d f).bus = m.bus := by cases m; rfl

@[simp] theorem updFd_out (m : Module) (d : Nat) (f : FieldDie → FieldDie) : (m.updFd d f).out = m.out := by cases m; rfl

@[simp] theorem updFd_nvmOut (m : Module) (d : Nat) (f : FieldDie → FieldDie) : (m.updFd d f).nvmOut = m.nvmOut := by cases m; rfl

@[simp] theorem updFd_now (m : Module) (d : Nat) (f : FieldDie → FieldDie) : (m.updFd d f).now = m.now := by cases m; rfl

@[simp] theorem updFd_free (m : Module) (d : Nat) (f : FieldDie → FieldDie) : (m.updFd d f).free = m.free := by cases m; rfl

@[simp] theorem updFd_lane (m : Module) (d : Nat) (f : FieldDie → FieldDie) (l : LaneId) : (m.updFd d f).lane l = m.lane l := by
  cases l <;> rfl

@[simp] theorem updSd_laneA (m : Module) (d : Nat) (f : SolverDie → SolverDie) : (m.updSd d f).laneA = m.laneA := by cases m; rfl

@[simp] theorem updSd_laneB (m : Module) (d : Nat) (f : SolverDie → SolverDie) : (m.updSd d f).laneB = m.laneB := by cases m; rfl

@[simp] theorem updSd_variant (m : Module) (d : Nat) (f : SolverDie → SolverDie) : (m.updSd d f).variant = m.variant := by cases m; rfl

@[simp] theorem updSd_fds (m : Module) (d : Nat) (f : SolverDie → SolverDie) : (m.updSd d f).fds = m.fds := by cases m; rfl

@[simp] theorem updSd_mail (m : Module) (d : Nat) (f : SolverDie → SolverDie) : (m.updSd d f).mail = m.mail := by cases m; rfl

@[simp] theorem updSd_supplyGood (m : Module) (d : Nat) (f : SolverDie → SolverDie) : (m.updSd d f).supplyGood = m.supplyGood := by cases m; rfl

@[simp] theorem updSd_goodAt (m : Module) (d : Nat) (f : SolverDie → SolverDie) : (m.updSd d f).goodAt = m.goodAt := by cases m; rfl

@[simp] theorem updSd_laneLinks (m : Module) (d : Nat) (f : SolverDie → SolverDie) : (m.updSd d f).laneLinks = m.laneLinks := by cases m; rfl

@[simp] theorem updSd_laneLink (m : Module) (d : Nat) (f : SolverDie → SolverDie) : (m.updSd d f).laneLink = m.laneLink := by cases m; rfl

@[simp] theorem updSd_islands (m : Module) (d : Nat) (f : SolverDie → SolverDie) : (m.updSd d f).islands = m.islands := by cases m; rfl

@[simp] theorem updSd_bus (m : Module) (d : Nat) (f : SolverDie → SolverDie) : (m.updSd d f).bus = m.bus := by cases m; rfl

@[simp] theorem updSd_out (m : Module) (d : Nat) (f : SolverDie → SolverDie) : (m.updSd d f).out = m.out := by cases m; rfl

@[simp] theorem updSd_nvmOut (m : Module) (d : Nat) (f : SolverDie → SolverDie) : (m.updSd d f).nvmOut = m.nvmOut := by cases m; rfl

@[simp] theorem updSd_now (m : Module) (d : Nat) (f : SolverDie → SolverDie) : (m.updSd d f).now = m.now := by cases m; rfl

@[simp] theorem updSd_free (m : Module) (d : Nat) (f : SolverDie → SolverDie) : (m.updSd d f).free = m.free := by cases m; rfl

@[simp] theorem updSd_lane (m : Module) (d : Nat) (f : SolverDie → SolverDie) (l : LaneId) : (m.updSd d f).lane l = m.lane l := by
  cases l <;> rfl

@[simp] theorem fd_updFd (m : Module) (d : Nat) (f : FieldDie → FieldDie) (h : d < m.fds.length) :
    (m.updFd d f).fd d = f (m.fd d) := by
  simp [Module.updFd, Module.fd, upd, at?, h]

theorem fd_updFd_ne (m : Module) (d e : Nat) (f : FieldDie → FieldDie) (h : d ≠ e) : (m.updFd d f).fd e = m.fd e := by
  simp [Module.updFd, Module.fd, upd, at?, h]

@[simp] theorem sd_updSd (m : Module) (d : Nat) (f : SolverDie → SolverDie) (h : d < m.sds.length) :
    (m.updSd d f).sd d = f (m.sd d) := by
  simp [Module.updSd, Module.sd, upd, at?, h]

theorem sd_updSd_ne (m : Module) (d e : Nat) (f : SolverDie → SolverDie) (h : d ≠ e) : (m.updSd d f).sd e = m.sd e := by
  simp [Module.updSd, Module.sd, upd, at?, h]

@[simp] theorem length_fds_updFd (m : Module) (d : Nat) (f : FieldDie → FieldDie) :
    (m.updFd d f).fds.length = m.fds.length := by simp [Module.updFd, upd]

@[simp] theorem length_sds_updSd (m : Module) (d : Nat) (f : SolverDie → SolverDie) :
    (m.updSd d f).sds.length = m.sds.length := by simp [Module.updSd, upd]

/-! ### Lists -/

@[simp] theorem at?_upd {α : Type} (xs : List α) (n : Nat) (f : α → α) (d : α) (h : n < xs.length) :
    at? (upd xs n f) n d = f (at? xs n d) := by simp [at?, upd, h]

theorem at?_upd_ne {α : Type} (xs : List α) (n k : Nat) (f : α → α) (d : α) (h : n ≠ k) :
    at? (upd xs n f) k d = at? xs k d := by simp [at?, upd, h]

@[simp] theorem length_upd {α : Type} (xs : List α) (n : Nat) (f : α → α) : (upd xs n f).length = xs.length := by
  simp [upd]

theorem keyed_putKey_same {α : Type} (xs : List (Nat × α)) (k : Nat) (v d : α) : keyed (putKey xs k v) k d = v := by
  unfold putKey
  split
  · induction xs with
    | nil => simp_all
    | cons p t ih =>
      by_cases h : p.1 = k
      · simp [keyed, h]
      · simp_all [keyed]
        rename_i g
        obtain ⟨x, hx⟩ := g
        exact ih x hx
  · rename_i h
    simp only [Bool.not_eq_true, List.any_eq_false, beq_iff_eq] at h
    have : List.find? (fun x => x.1 == k) xs = none := by simp only [List.find?_eq_none, beq_iff_eq]; exact h
    simp [keyed, List.find?_append, this]

theorem keyed_putKey_other {α : Type} (xs : List (Nat × α)) (j k : Nat) (v d : α) (n : j ≠ k) :
    keyed (putKey xs j v) k d = keyed xs k d := by
  unfold putKey
  split
  · rename_i h
    clear h
    induction xs with
    | nil => rfl
    | cons p t ih =>
      by_cases h : p.1 = j
      · by_cases h2 : p.1 = k
        · omega
        · simp_all [keyed]
      · by_cases h2 : p.1 = k
        · simp_all [keyed]
        · simp_all [keyed]
  · have : List.find? (fun x => x.1 == k) [(j, v)] = none := by simp [n]
    simp [keyed, List.find?_append, n]

/-! ### Small updates of the whole module -/

@[simp] theorem onBus_laneA (m : Module) (w : Word) : (onBus w m).laneA = m.laneA := by cases m; rfl

@[simp] theorem onBus_laneB (m : Module) (w : Word) : (onBus w m).laneB = m.laneB := by cases m; rfl

@[simp] theorem onBus_variant (m : Module) (w : Word) : (onBus w m).variant = m.variant := by cases m; rfl

@[simp] theorem onBus_sds (m : Module) (w : Word) : (onBus w m).sds = m.sds := by cases m; rfl

@[simp] theorem onBus_fds (m : Module) (w : Word) : (onBus w m).fds = m.fds := by cases m; rfl

@[simp] theorem onBus_mail (m : Module) (w : Word) : (onBus w m).mail = m.mail := by cases m; rfl

@[simp] theorem onBus_supplyGood (m : Module) (w : Word) : (onBus w m).supplyGood = m.supplyGood := by cases m; rfl

@[simp] theorem onBus_goodAt (m : Module) (w : Word) : (onBus w m).goodAt = m.goodAt := by cases m; rfl

@[simp] theorem onBus_laneLinks (m : Module) (w : Word) : (onBus w m).laneLinks = m.laneLinks := by cases m; rfl

@[simp] theorem onBus_laneLink (m : Module) (w : Word) : (onBus w m).laneLink = m.laneLink := by cases m; rfl

@[simp] theorem onBus_islands (m : Module) (w : Word) : (onBus w m).islands = m.islands := by cases m; rfl

@[simp] theorem onBus_out (m : Module) (w : Word) : (onBus w m).out = m.out := by cases m; rfl

@[simp] theorem onBus_nvmOut (m : Module) (w : Word) : (onBus w m).nvmOut = m.nvmOut := by cases m; rfl

@[simp] theorem onBus_now (m : Module) (w : Word) : (onBus w m).now = m.now := by cases m; rfl

@[simp] theorem onBus_free (m : Module) (w : Word) : (onBus w m).free = m.free := by cases m; rfl

@[simp] theorem onBus_lane (m : Module) (w : Word) (l : LaneId) : (onBus w m).lane l = m.lane l := by cases l <;> rfl

@[simp] theorem onBus_fd (m : Module) (w : Word) (d : Nat) : (onBus w m).fd d = m.fd d := by cases m; rfl

@[simp] theorem onBus_sd (m : Module) (w : Word) (d : Nat) : (onBus w m).sd d = m.sd d := by cases m; rfl

@[simp] theorem put_laneA (m : Module) (e : OutEv) : (put e m).laneA = m.laneA := by cases m; rfl

@[simp] theorem put_laneB (m : Module) (e : OutEv) : (put e m).laneB = m.laneB := by cases m; rfl

@[simp] theorem put_variant (m : Module) (e : OutEv) : (put e m).variant = m.variant := by cases m; rfl

@[simp] theorem put_sds (m : Module) (e : OutEv) : (put e m).sds = m.sds := by cases m; rfl

@[simp] theorem put_fds (m : Module) (e : OutEv) : (put e m).fds = m.fds := by cases m; rfl

@[simp] theorem put_mail (m : Module) (e : OutEv) : (put e m).mail = m.mail := by cases m; rfl

@[simp] theorem put_supplyGood (m : Module) (e : OutEv) : (put e m).supplyGood = m.supplyGood := by cases m; rfl

@[simp] theorem put_goodAt (m : Module) (e : OutEv) : (put e m).goodAt = m.goodAt := by cases m; rfl

@[simp] theorem put_laneLinks (m : Module) (e : OutEv) : (put e m).laneLinks = m.laneLinks := by cases m; rfl

@[simp] theorem put_laneLink (m : Module) (e : OutEv) : (put e m).laneLink = m.laneLink := by cases m; rfl

@[simp] theorem put_islands (m : Module) (e : OutEv) : (put e m).islands = m.islands := by cases m; rfl

@[simp] theorem put_bus (m : Module) (e : OutEv) : (put e m).bus = m.bus := by cases m; rfl

@[simp] theorem put_nvmOut (m : Module) (e : OutEv) : (put e m).nvmOut = m.nvmOut := by cases m; rfl

@[simp] theorem put_now (m : Module) (e : OutEv) : (put e m).now = m.now := by cases m; rfl

@[simp] theorem put_free (m : Module) (e : OutEv) : (put e m).free = m.free := by cases m; rfl

@[simp] theorem put_lane (m : Module) (e : OutEv) (l : LaneId) : (put e m).lane l = m.lane l := by cases l <;> rfl

@[simp] theorem put_fd (m : Module) (e : OutEv) (d : Nat) : (put e m).fd d = m.fd d := by cases m; rfl

@[simp] theorem put_sd (m : Module) (e : OutEv) (d : Nat) : (put e m).sd d = m.sd d := by cases m; rfl

@[simp] theorem clockTo_laneA (m : Module) (t : Nat) : (clockTo t m).laneA = m.laneA := by cases m; rfl

@[simp] theorem clockTo_laneB (m : Module) (t : Nat) : (clockTo t m).laneB = m.laneB := by cases m; rfl

@[simp] theorem clockTo_variant (m : Module) (t : Nat) : (clockTo t m).variant = m.variant := by cases m; rfl

@[simp] theorem clockTo_sds (m : Module) (t : Nat) : (clockTo t m).sds = m.sds := by cases m; rfl

@[simp] theorem clockTo_fds (m : Module) (t : Nat) : (clockTo t m).fds = m.fds := by cases m; rfl

@[simp] theorem clockTo_mail (m : Module) (t : Nat) : (clockTo t m).mail = m.mail := by cases m; rfl

@[simp] theorem clockTo_supplyGood (m : Module) (t : Nat) : (clockTo t m).supplyGood = m.supplyGood := by cases m; rfl

@[simp] theorem clockTo_goodAt (m : Module) (t : Nat) : (clockTo t m).goodAt = m.goodAt := by cases m; rfl

@[simp] theorem clockTo_laneLinks (m : Module) (t : Nat) : (clockTo t m).laneLinks = m.laneLinks := by cases m; rfl

@[simp] theorem clockTo_laneLink (m : Module) (t : Nat) : (clockTo t m).laneLink = m.laneLink := by cases m; rfl

@[simp] theorem clockTo_islands (m : Module) (t : Nat) : (clockTo t m).islands = m.islands := by cases m; rfl

@[simp] theorem clockTo_bus (m : Module) (t : Nat) : (clockTo t m).bus = m.bus := by cases m; rfl

@[simp] theorem clockTo_out (m : Module) (t : Nat) : (clockTo t m).out = m.out := by cases m; rfl

@[simp] theorem clockTo_nvmOut (m : Module) (t : Nat) : (clockTo t m).nvmOut = m.nvmOut := by cases m; rfl

@[simp] theorem clockTo_free (m : Module) (t : Nat) : (clockTo t m).free = m.free := by cases m; rfl

@[simp] theorem clockTo_lane (m : Module) (t : Nat) (l : LaneId) : (clockTo t m).lane l = m.lane l := by cases l <;> rfl

@[simp] theorem clockTo_fd (m : Module) (t : Nat) (d : Nat) : (clockTo t m).fd d = m.fd d := by cases m; rfl

@[simp] theorem clockTo_sd (m : Module) (t : Nat) (d : Nat) : (clockTo t m).sd d = m.sd d := by cases m; rfl

@[simp] theorem programRaw_laneA (m : Module) (t a : Nat) (bs : Bytes) : (programRaw t a bs m).laneA = m.laneA := by cases m; rfl

@[simp] theorem programRaw_laneB (m : Module) (t a : Nat) (bs : Bytes) : (programRaw t a bs m).laneB = m.laneB := by cases m; rfl

@[simp] theorem programRaw_variant (m : Module) (t a : Nat) (bs : Bytes) : (programRaw t a bs m).variant = m.variant := by cases m; rfl

@[simp] theorem programRaw_sds (m : Module) (t a : Nat) (bs : Bytes) : (programRaw t a bs m).sds = m.sds := by cases m; rfl

@[simp] theorem programRaw_fds (m : Module) (t a : Nat) (bs : Bytes) : (programRaw t a bs m).fds = m.fds := by cases m; rfl

@[simp] theorem programRaw_mail (m : Module) (t a : Nat) (bs : Bytes) : (programRaw t a bs m).mail = m.mail := by cases m; rfl

@[simp] theorem programRaw_supplyGood (m : Module) (t a : Nat) (bs : Bytes) : (programRaw t a bs m).supplyGood = m.supplyGood := by cases m; rfl

@[simp] theorem programRaw_goodAt (m : Module) (t a : Nat) (bs : Bytes) : (programRaw t a bs m).goodAt = m.goodAt := by cases m; rfl

@[simp] theorem programRaw_laneLinks (m : Module) (t a : Nat) (bs : Bytes) : (programRaw t a bs m).laneLinks = m.laneLinks := by cases m; rfl

@[simp] theorem programRaw_laneLink (m : Module) (t a : Nat) (bs : Bytes) : (programRaw t a bs m).laneLink = m.laneLink := by cases m; rfl

@[simp] theorem programRaw_islands (m : Module) (t a : Nat) (bs : Bytes) : (programRaw t a bs m).islands = m.islands := by cases m; rfl

@[simp] theorem programRaw_bus (m : Module) (t a : Nat) (bs : Bytes) : (programRaw t a bs m).bus = m.bus := by cases m; rfl

@[simp] theorem programRaw_out (m : Module) (t a : Nat) (bs : Bytes) : (programRaw t a bs m).out = m.out := by cases m; rfl

@[simp] theorem programRaw_now (m : Module) (t a : Nat) (bs : Bytes) : (programRaw t a bs m).now = m.now := by cases m; rfl

@[simp] theorem programRaw_free (m : Module) (t a : Nat) (bs : Bytes) : (programRaw t a bs m).free = m.free := by cases m; rfl

@[simp] theorem programRaw_lane (m : Module) (t a : Nat) (bs : Bytes) (l : LaneId) : (programRaw t a bs m).lane l = m.lane l := by cases l <;> rfl

@[simp] theorem programRaw_fd (m : Module) (t a : Nat) (bs : Bytes) (d : Nat) : (programRaw t a bs m).fd d = m.fd d := by cases m; rfl

@[simp] theorem programRaw_sd (m : Module) (t a : Nat) (bs : Bytes) (d : Nat) : (programRaw t a bs m).sd d = m.sd d := by cases m; rfl

@[simp] theorem send_laneA (m : Module) (a b : Nat) (x : Msg) : (send a b x m).laneA = m.laneA := by cases m; rfl

@[simp] theorem send_laneB (m : Module) (a b : Nat) (x : Msg) : (send a b x m).laneB = m.laneB := by cases m; rfl

@[simp] theorem send_variant (m : Module) (a b : Nat) (x : Msg) : (send a b x m).variant = m.variant := by cases m; rfl

@[simp] theorem send_sds (m : Module) (a b : Nat) (x : Msg) : (send a b x m).sds = m.sds := by cases m; rfl

@[simp] theorem send_fds (m : Module) (a b : Nat) (x : Msg) : (send a b x m).fds = m.fds := by cases m; rfl

@[simp] theorem send_supplyGood (m : Module) (a b : Nat) (x : Msg) : (send a b x m).supplyGood = m.supplyGood := by cases m; rfl

@[simp] theorem send_goodAt (m : Module) (a b : Nat) (x : Msg) : (send a b x m).goodAt = m.goodAt := by cases m; rfl

@[simp] theorem send_laneLinks (m : Module) (a b : Nat) (x : Msg) : (send a b x m).laneLinks = m.laneLinks := by cases m; rfl

@[simp] theorem send_laneLink (m : Module) (a b : Nat) (x : Msg) : (send a b x m).laneLink = m.laneLink := by cases m; rfl

@[simp] theorem send_islands (m : Module) (a b : Nat) (x : Msg) : (send a b x m).islands = m.islands := by cases m; rfl

@[simp] theorem send_bus (m : Module) (a b : Nat) (x : Msg) : (send a b x m).bus = m.bus := by cases m; rfl

@[simp] theorem send_out (m : Module) (a b : Nat) (x : Msg) : (send a b x m).out = m.out := by cases m; rfl

@[simp] theorem send_nvmOut (m : Module) (a b : Nat) (x : Msg) : (send a b x m).nvmOut = m.nvmOut := by cases m; rfl

@[simp] theorem send_now (m : Module) (a b : Nat) (x : Msg) : (send a b x m).now = m.now := by cases m; rfl

@[simp] theorem send_free (m : Module) (a b : Nat) (x : Msg) : (send a b x m).free = m.free := by cases m; rfl

@[simp] theorem send_lane (m : Module) (a b : Nat) (x : Msg) (l : LaneId) : (send a b x m).lane l = m.lane l := by cases l <;> rfl

@[simp] theorem send_fd (m : Module) (a b : Nat) (x : Msg) (d : Nat) : (send a b x m).fd d = m.fd d := by cases m; rfl

@[simp] theorem send_sd (m : Module) (a b : Nat) (x : Msg) (d : Nat) : (send a b x m).sd d = m.sd d := by cases m; rfl

@[simp] theorem onBus_bus_eq (m : Module) (w : Word) : (onBus w m).bus = w := rfl

@[simp] theorem clockTo_now_eq (m : Module) (t : Nat) : (clockTo t m).now = max m.now t := rfl

@[simp] theorem put_out_eq (m : Module) (e : OutEv) : (put e m).out = m.out ++ [e] := rfl

@[simp] theorem send_mail_eq (m : Module) (a b : Nat) (x : Msg) :
    (send a b x m).mail = m.mail ++ [{ src := a, dst := b, msg := x }] := rfl

@[simp] theorem programRaw_nvmOut_eq (m : Module) (t a : Nat) (bs : Bytes) :
    (programRaw t a bs m).nvmOut = m.nvmOut ++ [(t, a, bs)] := rfl

/-! ### Select registers and latches of the two views -/

@[simp] theorem sel_onBus (m : Module) (w : Word) (l : LaneId) (v : View) : (onBus w m).sel l v = m.sel l v := by
  cases v <;> simp [Module.sel]

@[simp] theorem sel_updSel (m : Module) (l : LaneId) (v : View) (f : Sel → Sel) :
    (updSel l v f m).sel l v = f (m.sel l v) := by
  cases v <;> simp [Module.sel, updSel]

theorem latch_same (m : Module) (l : LaneId) (v : View) (a : Nat) (w : Word) :
    keyed ((latchWord l v a w m).sel l v).latch a 0 = w := by
  simp [latchWord, keyed_putKey_same]

theorem latch_other (m : Module) (l : LaneId) (v : View) (a b : Nat) (w : Word) (n : a ≠ b) :
    keyed ((latchWord l v a w m).sel l v).latch b 0 = keyed (m.sel l v).latch b 0 := by
  simp [latchWord, keyed_putKey_other _ _ _ _ _ n]

@[simp] theorem latchWord_bus (m : Module) (l : LaneId) (v : View) (a : Nat) (w : Word) :
    (latchWord l v a w m).bus = m.bus := by simp [latchWord, updSel]

@[simp] theorem latchWord_nvmOut (m : Module) (l : LaneId) (v : View) (a : Nat) (w : Word) :
    (latchWord l v a w m).nvmOut = m.nvmOut := by simp [latchWord, updSel]

@[simp] theorem latchWord_fds (m : Module) (l : LaneId) (v : View) (a : Nat) (w : Word) :
    (latchWord l v a w m).fds = m.fds := by simp [latchWord, updSel]

@[simp] theorem latchWord_other (m : Module) (l : LaneId) (v : View) (a : Nat) (w : Word) :
    (latchWord l v a w m).lane l.other = m.lane l.other := by simp [latchWord, updSel]

end Sys2Proof.Machine
end

