-- ==== Sys2Proof/Laws/Ops.lean ====
section
/-! SUPPORT. What each shared operation can do, said once: the commit of a command, the guards of a register access,
event reports, interrupts and repetition. -/

namespace Sys2Proof.Machine

/-! ### The commit -/

@[simp] theorem commit_m (s : State) (b : Store → Module → Module) : (commit s b).m = (b s.mem s.m.fresh).closed := rfl

@[simp] theorem commit_mem (s : State) (b : Store → Module → Module) :
    (commit s b).mem = Store.program s.mem (b s.mem s.m.fresh).nvmOut := rfl

@[simp] theorem commit_pending (s : State) (b : Store → Module → Module) : (commit s b).pending = s.pending := rfl

/-- A command that programs nothing leaves every store alone. -/
theorem commit_mem_of_quiet (s : State) (b : Store → Module → Module) (h : (b s.mem s.m.fresh).nvmOut = []) :
    (commit s b).mem = s.mem := by
  simp [h, Store.program]

@[simp] theorem program_nil (st : Store) : Store.program st [] = st := rfl

/-! ### The module as a command finds it and leaves it -/


@[simp] theorem fresh_laneA (m : Module) : m.fresh.laneA = m.laneA := by cases m; rfl

@[simp] theorem fresh_laneB (m : Module) : m.fresh.laneB = m.laneB := by cases m; rfl

@[simp] theorem fresh_variant (m : Module) : m.fresh.variant = m.variant := by cases m; rfl

@[simp] theorem fresh_sds (m : Module) : m.fresh.sds = m.sds := by cases m; rfl

@[simp] theorem fresh_fds (m : Module) : m.fresh.fds = m.fds := by cases m; rfl

@[simp] theorem fresh_mail (m : Module) : m.fresh.mail = m.mail := by cases m; rfl

@[simp] theorem fresh_supplyGood (m : Module) : m.fresh.supplyGood = m.supplyGood := by cases m; rfl

@[simp] theorem fresh_goodAt (m : Module) : m.fresh.goodAt = m.goodAt := by cases m; rfl

@[simp] theorem fresh_laneLinks (m : Module) : m.fresh.laneLinks = m.laneLinks := by cases m; rfl

@[simp] theorem fresh_laneLink (m : Module) : m.fresh.laneLink = m.laneLink := by cases m; rfl

@[simp] theorem fresh_islands (m : Module) : m.fresh.islands = m.islands := by cases m; rfl

@[simp] theorem fresh_bus (m : Module) : m.fresh.bus = m.bus := by cases m; rfl

@[simp] theorem fresh_now (m : Module) : m.fresh.now = m.now := by cases m; rfl

@[simp] theorem fresh_free (m : Module) : m.fresh.free = m.free := by cases m; rfl

@[simp] theorem fresh_lane (m : Module) (l : LaneId) : m.fresh.lane l = m.lane l := by cases l <;> rfl

@[simp] theorem fresh_fd (m : Module) (d : Nat) : m.fresh.fd d = m.fd d := by cases m; rfl

@[simp] theorem fresh_sd (m : Module) (d : Nat) : m.fresh.sd d = m.sd d := by cases m; rfl

@[simp] theorem fresh_sel (m : Module) (l : LaneId) (v : View) : m.fresh.sel l v = m.sel l v := by
  cases v <;> simp [Module.sel]

@[simp] theorem fresh_reach (m : Module) (l : LaneId) (v : View) : m.fresh.reach l v = m.reach l v := by
  cases v <;> simp [Module.reach]

@[simp] theorem fresh_mute (m : Module) (l : LaneId) (v : View) : m.fresh.mute l v = m.mute l v := by
  simp [Module.mute, Module.active]

@[simp] theorem fresh_active (m : Module) (l : LaneId) : m.fresh.active l = m.active l := by
  simp [Module.active]

@[simp] theorem closed_laneA (m : Module) : m.closed.laneA = m.laneA := by cases m; rfl

@[simp] theorem closed_laneB (m : Module) : m.closed.laneB = m.laneB := by cases m; rfl

@[simp] theorem closed_variant (m : Module) : m.closed.variant = m.variant := by cases m; rfl

@[simp] theorem closed_sds (m : Module) : m.closed.sds = m.sds := by cases m; rfl

@[simp] theorem closed_fds (m : Module) : m.closed.fds = m.fds := by cases m; rfl

@[simp] theorem closed_mail (m : Module) : m.closed.mail = m.mail := by cases m; rfl

@[simp] theorem closed_supplyGood (m : Module) : m.closed.supplyGood = m.supplyGood := by cases m; rfl

@[simp] theorem closed_goodAt (m : Module) : m.closed.goodAt = m.goodAt := by cases m; rfl

@[simp] theorem closed_laneLinks (m : Module) : m.closed.laneLinks = m.laneLinks := by cases m; rfl

@[simp] theorem closed_laneLink (m : Module) : m.closed.laneLink = m.laneLink := by cases m; rfl

@[simp] theorem closed_islands (m : Module) : m.closed.islands = m.islands := by cases m; rfl

@[simp] theorem closed_bus (m : Module) : m.closed.bus = m.bus := by cases m; rfl

@[simp] theorem closed_out (m : Module) : m.closed.out = m.out := by cases m; rfl

@[simp] theorem closed_now (m : Module) : m.closed.now = m.now := by cases m; rfl

@[simp] theorem closed_free (m : Module) : m.closed.free = m.free := by cases m; rfl

@[simp] theorem closed_lane (m : Module) (l : LaneId) : m.closed.lane l = m.lane l := by cases l <;> rfl

@[simp] theorem closed_fd (m : Module) (d : Nat) : m.closed.fd d = m.fd d := by cases m; rfl

@[simp] theorem closed_sd (m : Module) (d : Nat) : m.closed.sd d = m.sd d := by cases m; rfl

@[simp] theorem closed_sel (m : Module) (l : LaneId) (v : View) : m.closed.sel l v = m.sel l v := by
  cases v <;> simp [Module.sel]

@[simp] theorem closed_reach (m : Module) (l : LaneId) (v : View) : m.closed.reach l v = m.reach l v := by
  cases v <;> simp [Module.reach]

@[simp] theorem closed_mute (m : Module) (l : LaneId) (v : View) : m.closed.mute l v = m.mute l v := by
  simp [Module.mute, Module.active]

@[simp] theorem closed_active (m : Module) (l : LaneId) : m.closed.active l = m.active l := by
  simp [Module.active]

@[simp] theorem fresh_nvmOut (m : Module) : m.fresh.nvmOut = [] := by cases m; rfl

@[simp] theorem fresh_out (m : Module) : m.fresh.out = [] := by cases m; rfl

@[simp] theorem closed_nvmOut (m : Module) : m.closed.nvmOut = [] := by cases m; rfl

/-! ### Register accesses -/

theorem guardWrite_pass {l : LaneId} {v : View} {m : Module} (f : Module → Module) (h : m.reach l v = true)
    (k : m.mute l v = false) : guardWrite l v f m = f m := by simp [guardWrite, h, k]

theorem guardWrite_lost {l : LaneId} {v : View} {m : Module} (f : Module → Module) (h : m.reach l v = false) :
    guardWrite l v f m = m := by simp [guardWrite, h]

theorem guardWrite_mute {l : LaneId} {v : View} {m : Module} (f : Module → Module) (h : m.mute l v = true) :
    guardWrite l v f m = m := by simp [guardWrite, h]

theorem guardRead_pass {l : LaneId} {v : View} {m : Module} (f : Module → Module) (h : m.reach l v = true)
    (k : m.mute l v = false) : guardRead l v f m = f m := by simp [guardRead, h, k]

theorem guardRead_lost {l : LaneId} {v : View} {m : Module} (f : Module → Module) (h : m.reach l v = false) :
    guardRead l v f m = m := by simp [guardRead, h]

theorem guardRead_mute {l : LaneId} {v : View} {m : Module} (f : Module → Module) (h : m.reach l v = true)
    (k : m.mute l v = true) : guardRead l v f m = { m with bus := 0 } := by simp [guardRead, h, k]

/-! ### Repetition -/

@[simp] theorem forEach_nil {α : Type} (f : α → Module → Module) (m : Module) : forEach [] f m = m := rfl

@[simp] theorem forEach_cons {α : Type} (x : α) (xs : List α) (f : α → Module → Module) (m : Module) :
    forEach (x :: xs) f m = forEach xs f (f x m) := rfl

/-- What every single step keeps, the repetition keeps. -/
theorem forEach_keeps {α : Type} (P : Module → Prop) (xs : List α) (f : α → Module → Module)
    (h : ∀ x m, P m → P (f x m)) (m : Module) (p : P m) : P (forEach xs f m) := by
  induction xs generalizing m with
  | nil => exact p
  | cons x t ih => exact ih (f x m) (h x m p)

/-- A part that every single step leaves as it was, the repetition leaves as it was. -/
theorem forEach_part {α β : Type} (g : Module → β) (xs : List α) (f : α → Module → Module)
    (h : ∀ x m, g (f x m) = g m) (m : Module) : g (forEach xs f m) = g m :=
  forEach_keeps (fun k => g k = g m) xs f (fun x k p => (h x k).trans p) m rfl

/-! ### Records: an event changes the recorder of one lane and nothing else -/

/-- A record changes the recorder of the lane that takes it, and metering only where a metrology record is counted as
lost (R393). -/
theorem take_eq (L : Lane) (now : Nat) (supply : Bool) (r : EvRec) :
    L.take now supply r = { L with
      evr := (L.take now supply r).evr, mtr := { L.mtr with mlogLost := (L.take now supply r).mtr.mlogLost } } := by
  simp only [Lane.take]; split_ifs <;> rfl

@[simp] theorem take_sys (L : Lane) (now : Nat) (supply : Bool) (r : EvRec) : (L.take now supply r).sys = L.sys := by
  rw [take_eq]

@[simp] theorem take_cfg (L : Lane) (now : Nat) (supply : Bool) (r : EvRec) : (L.take now supply r).cfg = L.cfg := by
  rw [take_eq]

@[simp] theorem take_pwr (L : Lane) (now : Nat) (supply : Bool) (r : EvRec) : (L.take now supply r).pwr = L.pwr := by
  rw [take_eq]

@[simp] theorem take_clk (L : Lane) (now : Nat) (supply : Bool) (r : EvRec) : (L.take now supply r).clk = L.clk := by
  rw [take_eq]

@[simp] theorem take_slv (L : Lane) (now : Nat) (supply : Bool) (r : EvRec) : (L.take now supply r).slv = L.slv := by
  rw [take_eq]

@[simp] theorem take_prg (L : Lane) (now : Nat) (supply : Bool) (r : EvRec) : (L.take now supply r).prg = L.prg := by
  rw [take_eq]

@[simp] theorem take_mot (L : Lane) (now : Nat) (supply : Bool) (r : EvRec) : (L.take now supply r).mot = L.mot := by
  rw [take_eq]

@[simp] theorem take_red (L : Lane) (now : Nat) (supply : Bool) (r : EvRec) : (L.take now supply r).red = L.red := by
  rw [take_eq]

@[simp] theorem take_can (L : Lane) (now : Nat) (supply : Bool) (r : EvRec) : (L.take now supply r).can = L.can := by
  rw [take_eq]

@[simp] theorem take_ptp (L : Lane) (now : Nat) (supply : Bool) (r : EvRec) : (L.take now supply r).ptp = L.ptp := by
  rw [take_eq]

@[simp] theorem take_nvm (L : Lane) (now : Nat) (supply : Bool) (r : EvRec) : (L.take now supply r).nvm = L.nvm := by
  rw [take_eq]

@[simp] theorem take_rtc (L : Lane) (now : Nat) (supply : Bool) (r : EvRec) : (L.take now supply r).rtc = L.rtc := by
  rw [take_eq]

@[simp] theorem take_key (L : Lane) (now : Nat) (supply : Bool) (r : EvRec) : (L.take now supply r).key = L.key := by
  rw [take_eq]

@[simp] theorem take_hst (L : Lane) (now : Nat) (supply : Bool) (r : EvRec) : (L.take now supply r).hst = L.hst := by
  rw [take_eq]

@[simp] theorem take_selHost (L : Lane) (now : Nat) (supply : Bool) (r : EvRec) : (L.take now supply r).selHost = L.selHost := by
  rw [take_eq]

@[simp] theorem take_selFw (L : Lane) (now : Nat) (supply : Bool) (r : EvRec) : (L.take now supply r).selFw = L.selFw := by
  rw [take_eq]

@[simp] theorem take_fldUp (L : Lane) (now : Nat) (supply : Bool) (r : EvRec) : (L.take now supply r).fldUp = L.fldUp := by
  rw [take_eq]

@[simp] theorem take_frames (L : Lane) (now : Nat) (supply : Bool) (r : EvRec) : (L.take now supply r).frames = L.frames := by
  rw [take_eq]

/-- A record that is none of metrology leaves metering as it is (R393). -/
theorem take_mtr (L : Lane) (now : Nat) (supply : Bool) (r : EvRec) (h : isMetrology r.code = false) :
    (L.take now supply r).mtr = L.mtr := by
  simp only [Lane.take, h, Bool.false_eq_true, if_false]; split_ifs <;> rfl

@[simp] theorem report_variant (m : Module) (l : LaneId) (b c x y z : Nat) : (report l b c x y z m).variant = m.variant := by
  simp [report, reportAs]

@[simp] theorem report_sds (m : Module) (l : LaneId) (b c x y z : Nat) : (report l b c x y z m).sds = m.sds := by
  simp [report, reportAs]

@[simp] theorem report_fds (m : Module) (l : LaneId) (b c x y z : Nat) : (report l b c x y z m).fds = m.fds := by
  simp [report, reportAs]

@[simp] theorem report_mail (m : Module) (l : LaneId) (b c x y z : Nat) : (report l b c x y z m).mail = m.mail := by
  simp [report, reportAs]

@[simp] theorem report_supplyGood (m : Module) (l : LaneId) (b c x y z : Nat) : (report l b c x y z m).supplyGood = m.supplyGood := by
  simp [report, reportAs]

@[simp] theorem report_goodAt (m : Module) (l : LaneId) (b c x y z : Nat) : (report l b c x y z m).goodAt = m.goodAt := by
  simp [report, reportAs]

@[simp] theorem report_laneLinks (m : Module) (l : LaneId) (b c x y z : Nat) : (report l b c x y z m).laneLinks = m.laneLinks := by
  simp [report, reportAs]

@[simp] theorem report_laneLink (m : Module) (l : LaneId) (b c x y z : Nat) : (report l b c x y z m).laneLink = m.laneLink := by
  simp [report, reportAs]

@[simp] theorem report_islands (m : Module) (l : LaneId) (b c x y z : Nat) : (report l b c x y z m).islands = m.islands := by
  simp [report, reportAs]

@[simp] theorem report_bus (m : Module) (l : LaneId) (b c x y z : Nat) : (report l b c x y z m).bus = m.bus := by
  simp [report, reportAs]

@[simp] theorem report_out (m : Module) (l : LaneId) (b c x y z : Nat) : (report l b c x y z m).out = m.out := by
  simp [report, reportAs]

@[simp] theorem report_nvmOut (m : Module) (l : LaneId) (b c x y z : Nat) : (report l b c x y z m).nvmOut = m.nvmOut := by
  simp [report, reportAs]

@[simp] theorem report_now (m : Module) (l : LaneId) (b c x y z : Nat) : (report l b c x y z m).now = m.now := by
  simp [report, reportAs]

@[simp] theorem report_free (m : Module) (l : LaneId) (b c x y z : Nat) : (report l b c x y z m).free = m.free := by
  simp [report, reportAs]

@[simp] theorem report_lane_sys (m : Module) (l k : LaneId) (b c x y z : Nat) :
    ((report l b c x y z m).lane k).sys = (m.lane k).sys := by
  cases l <;> cases k <;> simp [report, reportAs, Module.updLane, Module.lane]

@[simp] theorem report_lane_cfg (m : Module) (l k : LaneId) (b c x y z : Nat) :
    ((report l b c x y z m).lane k).cfg = (m.lane k).cfg := by
  cases l <;> cases k <;> simp [report, reportAs, Module.updLane, Module.lane]

@[simp] theorem report_lane_pwr (m : Module) (l k : LaneId) (b c x y z : Nat) :
    ((report l b c x y z m).lane k).pwr = (m.lane k).pwr := by
  cases l <;> cases k <;> simp [report, reportAs, Module.updLane, Module.lane]

@[simp] theorem report_lane_clk (m : Module) (l k : LaneId) (b c x y z : Nat) :
    ((report l b c x y z m).lane k).clk = (m.lane k).clk := by
  cases l <;> cases k <;> simp [report, reportAs, Module.updLane, Module.lane]

@[simp] theorem report_lane_slv (m : Module) (l k : LaneId) (b c x y z : Nat) :
    ((report l b c x y z m).lane k).slv = (m.lane k).slv := by
  cases l <;> cases k <;> simp [report, reportAs, Module.updLane, Module.lane]

@[simp] theorem report_lane_prg (m : Module) (l k : LaneId) (b c x y z : Nat) :
    ((report l b c x y z m).lane k).prg = (m.lane k).prg := by
  cases l <;> cases k <;> simp [report, reportAs, Module.updLane, Module.lane]

@[simp] theorem report_lane_mot (m : Module) (l k : LaneId) (b c x y z : Nat) :
    ((report l b c x y z m).lane k).mot = (m.lane k).mot := by
  cases l <;> cases k <;> simp [report, reportAs, Module.updLane, Module.lane]

@[simp] theorem report_lane_red (m : Module) (l k : LaneId) (b c x y z : Nat) :
    ((report l b c x y z m).lane k).red = (m.lane k).red := by
  cases l <;> cases k <;> simp [report, reportAs, Module.updLane, Module.lane]

@[simp] theorem report_lane_can (m : Module) (l k : LaneId) (b c x y z : Nat) :
    ((report l b c x y z m).lane k).can = (m.lane k).can := by
  cases l <;> cases k <;> simp [report, reportAs, Module.updLane, Module.lane]

@[simp] theorem report_lane_ptp (m : Module) (l k : LaneId) (b c x y z : Nat) :
    ((report l b c x y z m).lane k).ptp = (m.lane k).ptp := by
  cases l <;> cases k <;> simp [report, reportAs, Module.updLane, Module.lane]

@[simp] theorem report_lane_nvm (m : Module) (l k : LaneId) (b c x y z : Nat) :
    ((report l b c x y z m).lane k).nvm = (m.lane k).nvm := by
  cases l <;> cases k <;> simp [report, reportAs, Module.updLane, Module.lane]

@[simp] theorem report_lane_rtc (m : Module) (l k : LaneId) (b c x y z : Nat) :
    ((report l b c x y z m).lane k).rtc = (m.lane k).rtc := by
  cases l <;> cases k <;> simp [report, reportAs, Module.updLane, Module.lane]

@[simp] theorem report_lane_key (m : Module) (l k : LaneId) (b c x y z : Nat) :
    ((report l b c x y z m).lane k).key = (m.lane k).key := by
  cases l <;> cases k <;> simp [report, reportAs, Module.updLane, Module.lane]

@[simp] theorem report_lane_hst (m : Module) (l k : LaneId) (b c x y z : Nat) :
    ((report l b c x y z m).lane k).hst = (m.lane k).hst := by
  cases l <;> cases k <;> simp [report, reportAs, Module.updLane, Module.lane]

@[simp] theorem report_lane_selHost (m : Module) (l k : LaneId) (b c x y z : Nat) :
    ((report l b c x y z m).lane k).selHost = (m.lane k).selHost := by
  cases l <;> cases k <;> simp [report, reportAs, Module.updLane, Module.lane]

@[simp] theorem report_lane_selFw (m : Module) (l k : LaneId) (b c x y z : Nat) :
    ((report l b c x y z m).lane k).selFw = (m.lane k).selFw := by
  cases l <;> cases k <;> simp [report, reportAs, Module.updLane, Module.lane]

@[simp] theorem report_lane_fldUp (m : Module) (l k : LaneId) (b c x y z : Nat) :
    ((report l b c x y z m).lane k).fldUp = (m.lane k).fldUp := by
  cases l <;> cases k <;> simp [report, reportAs, Module.updLane, Module.lane]

@[simp] theorem report_lane_frames (m : Module) (l k : LaneId) (b c x y z : Nat) :
    ((report l b c x y z m).lane k).frames = (m.lane k).frames := by
  cases l <;> cases k <;> simp [report, reportAs, Module.updLane, Module.lane]

@[simp] theorem report_fd (m : Module) (l : LaneId) (b c x y z d : Nat) : (report l b c x y z m).fd d = m.fd d := by
  simp [report, reportAs]

@[simp] theorem report_sd (m : Module) (l : LaneId) (b c x y z d : Nat) : (report l b c x y z m).sd d = m.sd d := by
  simp [report, reportAs]

@[simp] theorem report_lane_other (m : Module) (l : LaneId) (b c x y z : Nat) :
    (report l b c x y z m).lane l.other = m.lane l.other := by cases l <;> rfl

/-! ### Messages and interrupts -/

@[simp] theorem sendMsi_variant (m : Module) (l : LaneId) (n : Nat) : (sendMsi l n m).variant = m.variant := by
  simp only [sendMsi]; split
  · rfl
  · split <;> simp

@[simp] theorem sendMsi_sds (m : Module) (l : LaneId) (n : Nat) : (sendMsi l n m).sds = m.sds := by
  simp only [sendMsi]; split
  · rfl
  · split <;> simp

@[simp] theorem sendMsi_fds (m : Module) (l : LaneId) (n : Nat) : (sendMsi l n m).fds = m.fds := by
  simp only [sendMsi]; split
  · rfl
  · split <;> simp

@[simp] theorem sendMsi_mail (m : Module) (l : LaneId) (n : Nat) : (sendMsi l n m).mail = m.mail := by
  simp only [sendMsi]; split
  · rfl
  · split <;> simp

@[simp] theorem sendMsi_supplyGood (m : Module) (l : LaneId) (n : Nat) : (sendMsi l n m).supplyGood = m.supplyGood := by
  simp only [sendMsi]; split
  · rfl
  · split <;> simp

@[simp] theorem sendMsi_goodAt (m : Module) (l : LaneId) (n : Nat) : (sendMsi l n m).goodAt = m.goodAt := by
  simp only [sendMsi]; split
  · rfl
  · split <;> simp

@[simp] theorem sendMsi_laneLinks (m : Module) (l : LaneId) (n : Nat) : (sendMsi l n m).laneLinks = m.laneLinks := by
  simp only [sendMsi]; split
  · rfl
  · split <;> simp

@[simp] theorem sendMsi_laneLink (m : Module) (l : LaneId) (n : Nat) : (sendMsi l n m).laneLink = m.laneLink := by
  simp only [sendMsi]; split
  · rfl
  · split <;> simp

@[simp] theorem sendMsi_islands (m : Module) (l : LaneId) (n : Nat) : (sendMsi l n m).islands = m.islands := by
  simp only [sendMsi]; split
  · rfl
  · split <;> simp

@[simp] theorem sendMsi_bus (m : Module) (l : LaneId) (n : Nat) : (sendMsi l n m).bus = m.bus := by
  simp only [sendMsi]; split
  · rfl
  · split <;> simp

@[simp] theorem sendMsi_nvmOut (m : Module) (l : LaneId) (n : Nat) : (sendMsi l n m).nvmOut = m.nvmOut := by
  simp only [sendMsi]; split
  · rfl
  · split <;> simp

@[simp] theorem sendMsi_now (m : Module) (l : LaneId) (n : Nat) : (sendMsi l n m).now = m.now := by
  simp only [sendMsi]; split
  · rfl
  · split <;> simp

@[simp] theorem sendMsi_free (m : Module) (l : LaneId) (n : Nat) : (sendMsi l n m).free = m.free := by
  simp only [sendMsi]; split
  · rfl
  · split <;> simp

@[simp] theorem sendMsi_lane_sys (m : Module) (l k : LaneId) (n : Nat) :
    ((sendMsi l n m).lane k).sys = (m.lane k).sys := by
  simp only [sendMsi]; split
  · rfl
  · split
    · simp
    · cases l <;> cases k <;> rfl

@[simp] theorem sendMsi_lane_cfg (m : Module) (l k : LaneId) (n : Nat) :
    ((sendMsi l n m).lane k).cfg = (m.lane k).cfg := by
  simp only [sendMsi]; split
  · rfl
  · split
    · simp
    · cases l <;> cases k <;> rfl

@[simp] theorem sendMsi_lane_pwr (m : Module) (l k : LaneId) (n : Nat) :
    ((sendMsi l n m).lane k).pwr = (m.lane k).pwr := by
  simp only [sendMsi]; split
  · rfl
  · split
    · simp
    · cases l <;> cases k <;> rfl

@[simp] theorem sendMsi_lane_clk (m : Module) (l k : LaneId) (n : Nat) :
    ((sendMsi l n m).lane k).clk = (m.lane k).clk := by
  simp only [sendMsi]; split
  · rfl
  · split
    · simp
    · cases l <;> cases k <;> rfl

@[simp] theorem sendMsi_lane_slv (m : Module) (l k : LaneId) (n : Nat) :
    ((sendMsi l n m).lane k).slv = (m.lane k).slv := by
  simp only [sendMsi]; split
  · rfl
  · split
    · simp
    · cases l <;> cases k <;> rfl

@[simp] theorem sendMsi_lane_prg (m : Module) (l k : LaneId) (n : Nat) :
    ((sendMsi l n m).lane k).prg = (m.lane k).prg := by
  simp only [sendMsi]; split
  · rfl
  · split
    · simp
    · cases l <;> cases k <;> rfl

@[simp] theorem sendMsi_lane_mot (m : Module) (l k : LaneId) (n : Nat) :
    ((sendMsi l n m).lane k).mot = (m.lane k).mot := by
  simp only [sendMsi]; split
  · rfl
  · split
    · simp
    · cases l <;> cases k <;> rfl

@[simp] theorem sendMsi_lane_mtr (m : Module) (l k : LaneId) (n : Nat) :
    ((sendMsi l n m).lane k).mtr = (m.lane k).mtr := by
  simp only [sendMsi]; split
  · rfl
  · split
    · simp
    · cases l <;> cases k <;> rfl

@[simp] theorem sendMsi_lane_red (m : Module) (l k : LaneId) (n : Nat) :
    ((sendMsi l n m).lane k).red = (m.lane k).red := by
  simp only [sendMsi]; split
  · rfl
  · split
    · simp
    · cases l <;> cases k <;> rfl

@[simp] theorem sendMsi_lane_can (m : Module) (l k : LaneId) (n : Nat) :
    ((sendMsi l n m).lane k).can = (m.lane k).can := by
  simp only [sendMsi]; split
  · rfl
  · split
    · simp
    · cases l <;> cases k <;> rfl

@[simp] theorem sendMsi_lane_ptp (m : Module) (l k : LaneId) (n : Nat) :
    ((sendMsi l n m).lane k).ptp = (m.lane k).ptp := by
  simp only [sendMsi]; split
  · rfl
  · split
    · simp
    · cases l <;> cases k <;> rfl

@[simp] theorem sendMsi_lane_nvm (m : Module) (l k : LaneId) (n : Nat) :
    ((sendMsi l n m).lane k).nvm = (m.lane k).nvm := by
  simp only [sendMsi]; split
  · rfl
  · split
    · simp
    · cases l <;> cases k <;> rfl

@[simp] theorem sendMsi_lane_evr (m : Module) (l k : LaneId) (n : Nat) :
    ((sendMsi l n m).lane k).evr = (m.lane k).evr := by
  simp only [sendMsi]; split
  · rfl
  · split
    · simp
    · cases l <;> cases k <;> rfl

@[simp] theorem sendMsi_lane_rtc (m : Module) (l k : LaneId) (n : Nat) :
    ((sendMsi l n m).lane k).rtc = (m.lane k).rtc := by
  simp only [sendMsi]; split
  · rfl
  · split
    · simp
    · cases l <;> cases k <;> rfl

@[simp] theorem sendMsi_lane_key (m : Module) (l k : LaneId) (n : Nat) :
    ((sendMsi l n m).lane k).key = (m.lane k).key := by
  simp only [sendMsi]; split
  · rfl
  · split
    · simp
    · cases l <;> cases k <;> rfl

@[simp] theorem sendMsi_lane_selHost (m : Module) (l k : LaneId) (n : Nat) :
    ((sendMsi l n m).lane k).selHost = (m.lane k).selHost := by
  simp only [sendMsi]; split
  · rfl
  · split
    · simp
    · cases l <;> cases k <;> rfl

@[simp] theorem sendMsi_lane_selFw (m : Module) (l k : LaneId) (n : Nat) :
    ((sendMsi l n m).lane k).selFw = (m.lane k).selFw := by
  simp only [sendMsi]; split
  · rfl
  · split
    · simp
    · cases l <;> cases k <;> rfl

@[simp] theorem sendMsi_lane_fldUp (m : Module) (l k : LaneId) (n : Nat) :
    ((sendMsi l n m).lane k).fldUp = (m.lane k).fldUp := by
  simp only [sendMsi]; split
  · rfl
  · split
    · simp
    · cases l <;> cases k <;> rfl

@[simp] theorem sendMsi_lane_frames (m : Module) (l k : LaneId) (n : Nat) :
    ((sendMsi l n m).lane k).frames = (m.lane k).frames := by
  simp only [sendMsi]; split
  · rfl
  · split
    · simp
    · cases l <;> cases k <;> rfl

@[simp] theorem raise_variant (m : Module) (l : LaneId) (b n : Nat) : (raise l b n m).variant = m.variant := by
  simp only [raise]; split <;> simp

@[simp] theorem raise_sds (m : Module) (l : LaneId) (b n : Nat) : (raise l b n m).sds = m.sds := by
  simp only [raise]; split <;> simp

@[simp] theorem raise_fds (m : Module) (l : LaneId) (b n : Nat) : (raise l b n m).fds = m.fds := by
  simp only [raise]; split <;> simp

@[simp] theorem raise_mail (m : Module) (l : LaneId) (b n : Nat) : (raise l b n m).mail = m.mail := by
  simp only [raise]; split <;> simp

@[simp] theorem raise_supplyGood (m : Module) (l : LaneId) (b n : Nat) : (raise l b n m).supplyGood = m.supplyGood := by
  simp only [raise]; split <;> simp

@[simp] theorem raise_goodAt (m : Module) (l : LaneId) (b n : Nat) : (raise l b n m).goodAt = m.goodAt := by
  simp only [raise]; split <;> simp

@[simp] theorem raise_laneLinks (m : Module) (l : LaneId) (b n : Nat) : (raise l b n m).laneLinks = m.laneLinks := by
  simp only [raise]; split <;> simp

@[simp] theorem raise_laneLink (m : Module) (l : LaneId) (b n : Nat) : (raise l b n m).laneLink = m.laneLink := by
  simp only [raise]; split <;> simp

@[simp] theorem raise_islands (m : Module) (l : LaneId) (b n : Nat) : (raise l b n m).islands = m.islands := by
  simp only [raise]; split <;> simp

@[simp] theorem raise_bus (m : Module) (l : LaneId) (b n : Nat) : (raise l b n m).bus = m.bus := by
  simp only [raise]; split <;> simp

@[simp] theorem raise_nvmOut (m : Module) (l : LaneId) (b n : Nat) : (raise l b n m).nvmOut = m.nvmOut := by
  simp only [raise]; split <;> simp

@[simp] theorem raise_now (m : Module) (l : LaneId) (b n : Nat) : (raise l b n m).now = m.now := by
  simp only [raise]; split <;> simp

@[simp] theorem raise_free (m : Module) (l : LaneId) (b n : Nat) : (raise l b n m).free = m.free := by
  simp only [raise]; split <;> simp

@[simp] theorem raise_fd (m : Module) (l : LaneId) (b n d : Nat) : (raise l b n m).fd d = m.fd d := by
  simp [Module.fd]

@[simp] theorem raise_sd (m : Module) (l : LaneId) (b n d : Nat) : (raise l b n m).sd d = m.sd d := by
  simp [Module.sd]

@[simp] theorem raise_lane_cfg (m : Module) (l k : LaneId) (b n : Nat) : ((raise l b n m).lane k).cfg = (m.lane k).cfg := by
  have h : ((m.updLane l fun L => L.setIrq b (((m.lane l).irqOf b).1 ||| word n)).lane k).cfg = (m.lane k).cfg := by
    cases l <;> cases k <;> simp only [Module.lane, Module.updLane, Lane.setIrq] <;> split <;> rfl
  simp only [raise]; split
  · exact h
  · rw [sendMsi_lane_cfg]; exact h

@[simp] theorem raise_lane_clk (m : Module) (l k : LaneId) (b n : Nat) : ((raise l b n m).lane k).clk = (m.lane k).clk := by
  have h : ((m.updLane l fun L => L.setIrq b (((m.lane l).irqOf b).1 ||| word n)).lane k).clk = (m.lane k).clk := by
    cases l <;> cases k <;> simp only [Module.lane, Module.updLane, Lane.setIrq] <;> split <;> rfl
  simp only [raise]; split
  · exact h
  · rw [sendMsi_lane_clk]; exact h

@[simp] theorem raise_lane_selHost (m : Module) (l k : LaneId) (b n : Nat) : ((raise l b n m).lane k).selHost = (m.lane k).selHost := by
  have h : ((m.updLane l fun L => L.setIrq b (((m.lane l).irqOf b).1 ||| word n)).lane k).selHost = (m.lane k).selHost := by
    cases l <;> cases k <;> simp only [Module.lane, Module.updLane, Lane.setIrq] <;> split <;> rfl
  simp only [raise]; split
  · exact h
  · rw [sendMsi_lane_selHost]; exact h

@[simp] theorem raise_lane_selFw (m : Module) (l k : LaneId) (b n : Nat) : ((raise l b n m).lane k).selFw = (m.lane k).selFw := by
  have h : ((m.updLane l fun L => L.setIrq b (((m.lane l).irqOf b).1 ||| word n)).lane k).selFw = (m.lane k).selFw := by
    cases l <;> cases k <;> simp only [Module.lane, Module.updLane, Lane.setIrq] <;> split <;> rfl
  simp only [raise]; split
  · exact h
  · rw [sendMsi_lane_selFw]; exact h

@[simp] theorem raise_lane_fldUp (m : Module) (l k : LaneId) (b n : Nat) : ((raise l b n m).lane k).fldUp = (m.lane k).fldUp := by
  have h : ((m.updLane l fun L => L.setIrq b (((m.lane l).irqOf b).1 ||| word n)).lane k).fldUp = (m.lane k).fldUp := by
    cases l <;> cases k <;> simp only [Module.lane, Module.updLane, Lane.setIrq] <;> split <;> rfl
  simp only [raise]; split
  · exact h
  · rw [sendMsi_lane_fldUp]; exact h

@[simp] theorem raise_lane_frames (m : Module) (l k : LaneId) (b n : Nat) : ((raise l b n m).lane k).frames = (m.lane k).frames := by
  have h : ((m.updLane l fun L => L.setIrq b (((m.lane l).irqOf b).1 ||| word n)).lane k).frames = (m.lane k).frames := by
    cases l <;> cases k <;> simp only [Module.lane, Module.updLane, Lane.setIrq] <;> split <;> rfl
  simp only [raise]; split
  · exact h
  · rw [sendMsi_lane_frames]; exact h

end Sys2Proof.Machine
end

