-- ==== Sys2Proof/Laws/Parts.lean ====
section
/-! SUPPORT. What the operations of single blocks leave alone: reads of the store, and the register map seen past what a
command clears. -/

namespace Sys2Proof.Machine

theorem nvmRead_part {β : Type} (g : Module → β) (l : LaneId) (a n : Nat) (m : Module)
    (h1 : ∀ k m, g (nvmUe l k m) = g m) (h2 : ∀ (f : Lane → Nvm) m, g (m.updLane l fun L => { L with nvm := f L }) = g m) :
    g (nvmRead l a n m) = g m := by
  unfold nvmRead
  apply forEach_part
  intro x m
  split
  · exact h1 _ _
  · exact h2 (fun L => { L.nvm with eccCorr := sat max32 (L.nvm.eccCorr + 1) }) m

@[simp] theorem nvmRead_nvmOut (l : LaneId) (a n : Nat) (m : Module) : (nvmRead l a n m).nvmOut = m.nvmOut :=
  nvmRead_part (·.nvmOut) l a n m (by simp [nvmUe]) (by simp)

@[simp] theorem nvmRead_fds (l : LaneId) (a n : Nat) (m : Module) : (nvmRead l a n m).fds = m.fds :=
  nvmRead_part (·.fds) l a n m (by simp [nvmUe]) (by simp)

@[simp] theorem nvmRead_sds (l : LaneId) (a n : Nat) (m : Module) : (nvmRead l a n m).sds = m.sds :=
  nvmRead_part (·.sds) l a n m (by simp [nvmUe]) (by simp)

@[simp] theorem nvmRead_now (l : LaneId) (a n : Nat) (m : Module) : (nvmRead l a n m).now = m.now :=
  nvmRead_part (·.now) l a n m (by simp [nvmUe]) (by simp)

@[simp] theorem nvmRead_mail (l : LaneId) (a n : Nat) (m : Module) : (nvmRead l a n m).mail = m.mail :=
  nvmRead_part (·.mail) l a n m (by simp [nvmUe]) (by simp)

@[simp] theorem nvmRead_bus (l : LaneId) (a n : Nat) (m : Module) : (nvmRead l a n m).bus = m.bus :=
  nvmRead_part (·.bus) l a n m (by simp [nvmUe]) (by simp)

@[simp] theorem updLane_sel_nvm (m : Module) (l k : LaneId) (v : View) (f : Lane → Nvm) :
    (m.updLane l fun L => { L with nvm := f L }).sel k v = m.sel k v := by
  cases l <;> cases k <;> cases v <;> rfl

@[simp] theorem updLane_sel_evr (m : Module) (l k : LaneId) (v : View) (f : Lane → Evr) :
    (m.updLane l fun L => { L with evr := f L }).sel k v = m.sel k v := by
  cases l <;> cases k <;> cases v <;> rfl

@[simp] theorem nvmRead_sel (l k : LaneId) (a n : Nat) (m : Module) (v : View) :
    (nvmRead l a n m).sel k v = m.sel k v :=
  nvmRead_part (fun m => m.sel k v) l a n m (by
    intro g m
    cases v <;> simp [nvmUe, Module.sel] <;> cases l <;> cases k <;> rfl) (by
    intro f m; exact updLane_sel_nvm m l k v f)

@[simp] theorem fresh_regRead (m : Module) (l : LaneId) (v : View) (a : Nat) : m.fresh.regRead l v a = m.regRead l v a := by
  cases l <;> cases v <;> rfl

theorem forEach_append {α : Type} (xs ys : List α) (f : α → Module → Module) (m : Module) :
    forEach (xs ++ ys) f m = forEach ys f (forEach xs f m) := by simp [forEach]

/-- A loop that latches the words of a record holds each of them afterwards. -/
theorem latch_loop (l : LaneId) (v : View) (a : Nat) (w : Nat → Word) (m : Module) (n k : Nat) (h : k < n) :
    keyed ((forEach (List.range n) (fun k m => latchWord l v (a + 4 * k) (w k) m) m).sel l v).latch (a + 4 * k) 0
      = w k := by
  induction n with
  | zero => omega
  | succ n ih =>
    rw [List.range_succ, forEach_append, forEach_cons, forEach_nil]
    by_cases e : k = n
    · subst e; exact latch_same _ _ _ _ _
    · rw [latch_other _ _ _ _ _ _ (by omega)]; exact ih (by omega)

end Sys2Proof.Machine
end

