-- ==== Sys2Proof/Machine/Contacts.lean ====
section
/-! DEFINITION. The outputs of connector J13 that show a lane's state, each of them open-drain, and the clock request of
J12 (R155, R415, R492 to R494, R500). They follow the state; no command sets them by itself. -/

namespace Sys2Proof.Machine

/-- Whether a lane drives FORCED_IND: the active lane, while a force is active in RUN_FORCED or COMMISSION (R155, R494). -/
def Module.drivesForced (m : Module) (l : LaneId) : Bool :=
  let L := m.lane l
  m.supplyGood && m.active l && !L.prg.forces.isEmpty && (L.sys.mode == .runForced || L.sys.mode == .commission)

/-- FORCED_IND, the wired-OR of both lanes (R493). -/
def Module.forcedInd (m : Module) : Bool := m.laneList.any m.drivesForced

/-- LANE_x_ACT: on while lane x reads `SYS_STATUS.ACTIVE` 1 (R493, R494). -/
def Module.laneAct (m : Module) (l : LaneId) : Bool := m.supplyGood && m.laneList.contains l && m.active l

/-- LANE_x_RDY: on while lane x is in STANDBY; never on a part with one lane (R493, R494, R500). -/
def Module.laneRdy (m : Module) (l : LaneId) : Bool :=
  m.supplyGood && m.variant.nLane == 2 && !(m.lane l).sys.failed && (m.lane l).sys.mode == .standby

/-- CLKREQ# of a lane's link on J12: asserted while the lane's HOST domain is ON (R492). -/
def Module.clkReq (m : Module) (l : LaneId) : Bool := m.laneList.contains l && (m.dom l.num 15).state == .on

/-- PWR_ON_REQ, the wired-OR of the always-on domains, on backup included (R415, R493). -/
def Module.pwrOnReq (m : Module) : Bool := m.laneList.any fun l => (m.lane l).rtc.pwrOnAt.isSome

end Sys2Proof.Machine
end

