-- ==== Sys2Proof/WellFormed.lean ====
section
/-! DEFINITION. Well-formed commands: the parts they name lie in the ranges of R5, and a register address is an aligned
word of BAR0 (R11, R458). Which of those parts a variant has fitted is the meanings' matter. -/

namespace Sys2Proof

/-- An aligned word address inside the register map's 2 MiB. -/
def regAddrOk (a : Nat) : Bool := a % 4 == 0 && decide (a < 0x200000)

/-- Whether a command's operands lie in their ranges. -/
def Instr.wellFormed : Instr → Bool
  | .registerWrite _ _ addr _ _ => regAddrOk addr
  | .lowWordRead _ _ addr => regAddrOk addr
  | .sysAccessErrRead _ _ => true
  | .slvCollectMaxRead _ _ => true
  | .prgTaskMaxRead _ _ => true
  | .motAdmitPeakRead _ _ => true
  | .motWaitMaxRead _ _ => true
  | .canRecErrorsRead _ _ => true
  | .ptpPortErrorsRead _ _ => true
  | .pwrGovRead _ _ => true
  | .mtrRegLoRead _ _ => true
  | .nvmWinLoRead _ _ => true
  | .evrRdDataRead _ _ => true
  | .rtcSecRead _ _ => true
  | .rtcYearRead _ _ => true
  | .rtcFreezeTimeout _ _ => true
  | .ptpTimeNsRead _ _ => true
  | .canFiltBufRead _ _ index => decide (index < 24)
  | .supplyGood _ => true
  | .holdupOkSet _ => true
  | .startSwap _ => true
  | .accumulatorRestoreComplete _ => true
  | .startTriggerArm _ => true
  | .supplyFailure _ _ => true
  | .finalSaveMsg _ d _ => decide (d < 4)
  | .finalSaveComplete _ => true
  | .vHoldLockout _ => true
  | .switchToBackup _ _ => true
  | .backupSourceLow _ => true
  | .oscillatorStop _ => true
  | .cellMeasure _ _ _ => true
  | .operatingTimeTick _ => true
  | .rtcSecondTick _ => true
  | .pwrOnReqTimeout _ => true
  | .rtcCommit _ _ _ => true
  | .rtcAlarmWrite _ _ addr _ => regAddrOk addr
  | .lockstepMismatch _ _ => true
  | .laneReset _ _ _ => true
  | .laneRestart _ => true
  | .clockFail die _ => decide (die < 8)
  | .trngHealthFailure _ test => decide (test < 2)
  | .modeRequest _ _ _ => true
  | .testInjectionStart _ _ _ => true
  | .testInjectionStop _ _ _ => true
  | .shadowWrite _ _ => true
  | .cfgEnable _ _ => true
  | .consistencyCheckEnd _ _ => true
  | .standbyDigestReport _ => true
  | .mirrorTimeout _ => true
  | .applyArm _ _ => true
  | .cfgAbandon _ _ => true
  | .applyAnnounce _ => true
  | .applyMsg die => decide (die < 8)
  | .applyAckDeadline _ => true
  | .cancelMsg die => decide (die < 8)
  | .applyConfirm _ => true
  | .confirmMsg die => decide (die < 8)
  | .bankSwap die => decide (die < 8)
  | .applyInstant _ => true
  | .carryOverEnd _ => true
  | .heartbeatTick _ => true
  | .heartbeatReceived _ d => decide (d < 4)
  | .vacancy d => decide (d < 4)
  | .tSafeExpiry d => decide (d < 4)
  | .safeDriveEnd d ch out => decide (d < 4) && decide (ch < 64) && decide (out < 4)
  | .laneWireLoss _ => true
  | .vacancyPatternWake _ => true
  | .triggerRearm _ => true
  | .takeoverLoadComplete _ => true
  | .claimRequest _ d => decide (d < 4)
  | .claimRequestRepeat _ => true
  | .claimReply _ d => decide (d < 4)
  | .quorumWindowExpiry _ => true
  | .claimRaise _ die => decide (die < 8)
  | .claimLatchAck _ => true
  | .selfFence _ => true
  | .releaseMsg _ d => decide (d < 4)
  | .switchover _ _ => true
  | .switchoverReady _ => true
  | .switchoverReadyTimeout _ => true
  | .switchoverRevertTimeout _ => true
  | .takeLane _ _ => true
  | .resyncComplete _ => true
  | .checkpointInstant _ => true
  | .checkpointReceived _ => true
  | .checkpointConfirmed _ => true
  | .inputFrameTick d _ => decide (d < 4)
  | .inputFrameReceived _ d => decide (d < 4)
  | .cycleClockRequest _ t => decide (t < 4)
  | .taskBoundary _ t => decide (t < 4)
  | .overrunLimit _ t => decide (t < 4)
  | .executionEnd _ t _ => decide (t < 4)
  | .watchdog _ t => decide (t < 4)
  | .publishComplete _ t => decide (t < 4)
  | .outputCommandsReceived _ d => decide (d < 4)
  | .commandApply => true
  | .forceSet _ _ => true
  | .forceClear _ _ => true
  | .forceClearAll _ _ => true
  | .jobDescriptor _ sd => decide (sd < 2)
  | .jobStart sd => decide (sd < 2)
  | .payloadReceived _ sd => decide (sd < 2)
  | .assemblyEnd sd => decide (sd < 2)
  | .preparationEnd sd => decide (sd < 2)
  | .iteration sd => decide (sd < 2)
  | .verificationEnd sd _ => decide (sd < 2)
  | .batchProblemComplete sd _ => decide (sd < 2)
  | .resultCopyDone _ sd => decide (sd < 2)
  | .deadlineExpiry _ tmpl => decide (tmpl < 65)
  | .slvAbort _ _ _ => true
  | .slvAbortAll _ _ => true
  | .selftestRequest _ _ => true
  | .selfTestEnd sd engine _ => decide (sd < 2) && decide (engine < 17)
  | .solverLinkChange _ sd _ => decide (sd < 2)
  | .fieldLinkChange _ d _ => decide (d < 4)
  | .overcurrentTrip d ch bridge => decide (d < 4) && decide (ch < 64) && decide (bridge < 2)
  | .currentLimitTimeout d ch out => decide (d < 4) && decide (ch < 64) && decide (out < 4)
  | .openLoadDetected d ch bridge => decide (d < 4) && decide (ch < 64) && decide (bridge < 2)
  | .thermalShutdown d grp => decide (d < 4) && decide (grp < 8)
  | .thermalWarning d grp _ => decide (d < 4) && decide (grp < 8)
  | .endOfTravel d ch out => decide (d < 4) && decide (ch < 64) && decide (out < 4)
  | .directionChangeEnd d ch out => decide (d < 4) && decide (ch < 64) && decide (out < 4)
  | .railLow d _ => decide (d < 4)
  | .railRestored d _ => decide (d < 4)
  | .sensorSupplyLimit d half _ _ => decide (d < 4) && decide (half < 2)
  | .fldChFaultClear _ _ _ => true
  | .profileUpdate d => decide (d < 4)
  | .axisStall d ch => decide (d < 4) && decide (ch < 64)
  | .holdTimeExpiry d ch => decide (d < 4) && decide (ch < 64)
  | .moveAbs d ch => decide (d < 4) && decide (ch < 64)
  | .moveRel d ch => decide (d < 4) && decide (ch < 64)
  | .replaceAbs d ch => decide (d < 4) && decide (ch < 64)
  | .axisStop d ch => decide (d < 4) && decide (ch < 64)
  | .setRamps d ch => decide (d < 4) && decide (ch < 64)
  | .setPosition d ch => decide (d < 4) && decide (ch < 64)
  | .ackFault d ch => decide (d < 4) && decide (ch < 64)
  | .motFaultClear _ _ _ => true
  | .admissionRound _ => true
  | .admissionGrant d => decide (d < 4)
  | .loopSample d slot _ _ => decide (d < 4) && decide (slot < 64)
  | .loopPlaus d slot => decide (d < 4) && decide (slot < 64)
  | .loopSet d slot => decide (d < 4) && decide (slot < 64)
  | .loopDisable d slot => decide (d < 4) && decide (slot < 64)
  | .resetPlaus d slot => decide (d < 4) && decide (slot < 64)
  | .lpFlagsPlausClear _ _ _ => true
  | .meteringBlockEnd d _ => decide (d < 4)
  | .settlingEnd d mp => decide (d < 4) && decide (mp < 32)
  | .flowPulse d hp _ => decide (d < 4) && decide (hp < 16)
  | .demandBoundary d => decide (d < 4)
  | .pulseStart d point slot => decide (d < 4) && decide (point < 48) && decide (slot < 2)
  | .pulseEnd d point slot => decide (d < 4) && decide (point < 48) && decide (slot < 2)
  | .periodicSave _ => true
  | .saveRecordsWritten _ => true
  | .readout _ _ => true
  | .readoutLatch _ => true
  | .readoutRingTimeout _ => true
  | .mdReset _ _ => true
  | .canFrameReceived d port _ => decide (d < 4) && decide (port < 4)
  | .canFrameTransmitted d port => decide (d < 4) && decide (port.port < 4)
  | .canFrameError d port _ => decide (d < 4) && decide (port < 4)
  | .busOffRecoveryComplete d port => decide (d < 4) && decide (port < 4)
  | .canRecover _ _ _ => true
  | .canRawTx _ _ _ => true
  | .dominantTimeout d port => decide (d < 4) && decide (port < 4)
  | .captureEntry _ d port _ => decide (d < 4) && decide (port < 4)
  | .recordAssemblyTimeout _ rec => decide (rec < 4096)
  | .udpRecordDatagram _ port _ => decide (port < 2)
  | .ptpSync _ port _ => decide (port < 2)
  | .ptpAnnounce _ port _ => decide (port < 2)
  | .ptpDelayMessage _ port _ => decide (port < 2)
  | .slotLost _ slot => decide (slot < 2)
  | .slewEnd _ => true
  | .ptpSwitch _ _ => true
  | .setRtc _ _ => true
  | .setRtcCommit _ => true
  | .linkChange _ port _ _ => decide (port < 2)
  | .arpRequest _ port _ => decide (port < 2)
  | .icmpEchoRequest _ port _ => decide (port < 2)
  | .foreignFrame _ port _ => decide (port < 2)
  | .nvmProgram _ _ _ => true
  | .pageProgramComplete _ => true
  | .eventReported _ _ _ _ _ _ => true
  | .eventRecordWritten _ => true
  | .bucketRefill _ _ => true
  | .evrFreezeSet _ _ => true
  | .evrFreezeClear _ _ => true
  | .freezeTimeout _ bit => decide (bit < 2)
  | .keyImport _ _ _ => true
  | .keyDerive _ _ _ => true
  | .keyErase _ _ _ => true
  | .keyChallenge _ _ _ => true
  | .keyMac _ _ _ => true
  | .keyVerify _ _ _ => true
  | .governorTick _ _ _ _ _ _ => true
  | .governorStepDown _ => true
  | .pwrDomRequest _ _ _ => true
  | .domainTransitionComplete _ die domain _ _ => decide (die < 8) && decide (domain < 22)
  | .rxPathOn _ _ => true
  | .rxPathOff _ _ => true
  | .laneUp _ _ => true
  | .laneDown _ _ => true
  | .laneStart _ _ => true
  | .wakeStatusRead _ => true
  | .wakeBusTimeout _ => true
  | .doorbell _ ring _ => decide (ring < 8)
  | .ringRun _ _ _ => true
  | .ringStop _ _ _ => true
  | .hstRingSizeWrite _ _ _ => true
  | .activeRead _ _ => true
  | .ringRead _ _ => true
  | .mlogRead _ _ => true
  | .warmIn _ _ => true
  | .resultOut _ _ => true
  | .readoutDescriptor _ _ => true
  | .tableOut _ _ => true
  | .instanceRead _ _ => true
  | .capture _ _ => true
  | .captureBufferTimeout _ => true
  | .telemetry _ _ => true
  | .telemetryTick _ => true
  | .toFirmware _ _ => true
  | .fromFirmware _ _ => true
  | .descriptorComplete _ ring => decide (ring < 8)
  | .pcieCompletionTimeout _ ring => decide (ring < 8)
  | .msixHoldoffEnd _ ring => decide (ring < 8)
  | .functionLevelReset _ => true
  | .perstAssert _ => true
  | .pcieLinkDown _ => true
  | .laneLinkChange up => decide (up.link < 2)
  | .islandFailure _ _ => true
  | .encoderEdge d ch _ _ => decide (d < 4) && decide (ch < 64)
  | .canBusIdle d port => decide (d < 4) && decide (port < 4)
  | .ptpFollowUp _ port _ => decide (port < 2)
  | .ptpDelayReqReceived _ port _ => decide (port < 2)
  | .ptpMessageInterval _ port slot _ => decide (port < 2) && decide (slot < 2)
  | .ptpManagementGet _ port _ => decide (port < 2)
  | .pcieLinkUp _ _ _ => true
  | .pcieConfigWrite _ _ _ _ => true
  | .msixVectorUnmask _ vec => decide (vec < 32)

end Sys2Proof
end

