-- ==== Sys2Proof/Tests/Slice0.lean ====
section
/-! SUPPORT. Tests: the well-formedness smoke test, published vectors, the manual's worked examples, single steps, and for
every obligation with premises a state that meets them, clause by clause. -/

namespace Sys2Proof.Machine

open Sys2Proof

set_option Elab.async false

/-! ### Small states -/

/-- Domains that are all on. -/
def onDoms (n : Nat) : List Dom := List.replicate n { state := .on }

/-- A loop slot's item of a kind, driving an output of channel 2. -/
def slotItem (kind out : Nat) : LoopCfg where
  kind := kind
  inSrc := 1
  outCh := 2
  outN := out
  onCode := 3
  div := 10
  flags := 8
  sp := 100
  eOn := 5
  eOff := -5
  minOnMs := 10
  minOffMs := 10
  k := 1
  tauMs := 100
  rMax := 7

/-- An axis item. -/
def axisCfg : MotionCfg where
  vMax := 1000
  accMax := 100
  decMax := 100
  accInit := 50
  decInit := 50
  posMin := -5000
  posMax := 5000
  encNum := 1
  encDen := 1
  window := 10
  windowUpdates := 3
  standstill := 5
  holdTime := 2

/-- A metering section of one electrical and one thermal point. -/
def meters : MeteringCfg where
  sealCounter := 1
  sealSlot := 10
  readoutSlot := 9
  demandMin := 15
  mps := [{ kind := 1, nominalHz := 50, pmaxW := 1000, pulses := [{ ch := 2, out := 3, onCode := 3, weight := 10 }, {}] }]
  hps := [{ kind := 1, ch := 4, pulseVol := 10, pmaxW := 1000 }]

/-- A task's entry. -/
def taskCfg : TaskCfg where
  periodUs := 1000
  overrunLimit := 2
  watchdogUs := 500
  publishBytes := 8

/-- A solver template of one row. -/
def template : Template where
  kind := 1
  cls := 1
  n := 1
  nnz := 1
  cap := 10
  deadline := 100
  warmNMax := 4
  rowPtr := [0, 1]
  colIdx := [0]

/-- A network section: one CAN port, one record received over it, every Ethernet port alike, two domain slots. -/
def network : NetworkCfg where
  udpPort := 5000
  ports := [{ mode := 1, nBrp := 1, nTseg1 := 3, nTseg2 := 2, nSjw := 1 }]
  subs := [{ record := 1, port := 0, dir := 1, inLen := 4, timeoutMs := 100 }]
  eth := List.replicate 4 { mode := 1, ptp := 1, ipv4 := 0x0A000001 }
  doms := [1, 2].map fun n => { domain := n, ports := 3, flags := 1, lossMs := 100 }

/-- A small image: for die F0 channels of each function, an axis, two loop slots, an electrical and a thermal point, a
CAN port; a program of one task; two network slots; a solver template. -/
def image : Conf where
  counter := 5
  digest := List.replicate 32 7
  chans := [(0, { function := 1, runCurrent := 200, holdCurrent := 50 }),
    (1, { function := 2, safe := [5, 6, 0, 0], safeDriveTime := 3, runCurrent := 200 }),
    (2, { function := 3, safe := [3, 0, 0, 0] }), (3, { function := 4, encMode := 1 }), (4, { function := 4, encMode := 3 })]
  loops := [(0, slotItem 1 1), (1, slotItem 2 2)]
  motion := [(0, axisCfg)]
  metering := some meters
  templates := [template]
  program := some { instBytes := 16, tasks := [taskCfg, {}, {}, {}] }
  network := some network
  safety := { commissionAllowed := true, forcingAllowed := true, ckptPeriod := 10, commMaxAxes := 4 }
  power := { pMax := 100 }
  challengeSlot := 11

/-- A lane that is powered and up, in a mode, with every link of its own up. -/
def upLane (mode : Mode) (claim : Nat) (holds : Bool) : Lane where
  sys := { mode := mode, phase := .up, holdupOk := true, restored := true }
  cfg := { active := some image, activeCounter := 5, activeDigest := List.replicate 32 7 }
  pwr := { doms := onDoms 17 }
  slv := { linkUp := [true, true] }
  prg := { running := holds, frames := List.replicate 16 0
           tasks := [{ inImage := List.replicate 8 0, outImage := List.replicate 8 0 }, {}, {}, {}] }
  red := { claim := claim, holds := holds, role := if holds then .active else .standby, wireArmed := !holds,
           patArmed := !holds, frameAt := List.replicate 4 (some 1000000) }
  rtc := { lockout := false, lostAll := false, osf := false }
  key := { trngOk := true }
  evr := { known := true }
  hst := { linkUp := true, bme := true, rings := List.replicate 8 { run := true, state := 1, prod := 1, posts := [(0, 1)] } }
  ptp := { ports := [{ up := true, gig := true }, { up := true, gig := true }] }
  fldUp := [true, true, true, true]

/-- A field die that is powered, under a claim. -/
def upField (claim : Nat) : FieldDie where
  powered := true
  bank := some image
  bankCounter := 5
  claim := claim
  vacant := false
  doms := onDoms 18
  railMv := 24000

/-- A solver die that is powered, under a claim. -/
def upSolver (claim : Nat) : SolverDie where
  powered := true
  bank := some image
  bankCounter := 5
  claim := claim
  kTok := keyTok
  doms := onDoms 22

/-- The module with one lane active in a mode and the other in STANDBY. -/
def running (l : LaneId) (mode : Mode) : State where
  m := { laneA := match l with
           | .A => upLane mode (mkClaim 1 .A) true
           | .B => upLane .standby (mkClaim 1 .A) false
         laneB := match l with
           | .A => upLane .standby (mkClaim 1 .B) false
           | .B => upLane mode (mkClaim 1 .B) true
         sds := List.replicate 2 (upSolver (mkClaim 1 l))
         fds := List.replicate 4 (upField (mkClaim 1 l))
         supplyGood := true
         laneLinks := [true, true]
         now := 1000000 }

/-- A state with its module changed. -/
def State.md (s : State) (f : Module → Module) : State := { s with m := f s.m }

/-- A state with a lane changed. -/
def State.ln (s : State) (l : LaneId) (f : Lane → Lane) : State := s.md (·.updLane l f)

/-- A state with a field die changed. -/
def State.fl (s : State) (d : Nat) (f : FieldDie → FieldDie) : State := s.md (·.updFd d f)

/-- A state with a solver die changed. -/
def State.sl (s : State) (d : Nat) (f : SolverDie → SolverDie) : State := s.md (·.updSd d f)

/-- A state with a message at the front of those under way. -/
def State.post (s : State) (src dst : Nat) (msg : Msg) : State := s.md fun m => { m with mail := ⟨src, dst, msg⟩ :: m.mail }

/-- A state with a block of a lane changed: the register block named. -/
def State.sys (s : State) (l : LaneId) (f : Sys → Sys) : State := s.md (updSys l f)

@[inherit_doc State.sys] def State.red (s : State) (l : LaneId) (f : Red → Red) : State := s.md (updRed l f)
@[inherit_doc State.sys] def State.rtc (s : State) (l : LaneId) (f : Rtc → Rtc) : State := s.md (updRtc l f)
@[inherit_doc State.sys] def State.ptp (s : State) (l : LaneId) (f : Ptp → Ptp) : State := s.md (updPtp l f)
@[inherit_doc State.sys] def State.hst (s : State) (l : LaneId) (f : Hst → Hst) : State := s.md (updHst l f)
@[inherit_doc State.sys] def State.cfg (s : State) (l : LaneId) (f : Cfg → Cfg) : State :=
  s.ln l fun L => { L with cfg := f L.cfg }
@[inherit_doc State.sys] def State.prg (s : State) (l : LaneId) (f : Prg → Prg) : State :=
  s.ln l fun L => { L with prg := f L.prg }
@[inherit_doc State.sys] def State.mtr (s : State) (l : LaneId) (f : Mtr → Mtr) : State :=
  s.ln l fun L => { L with mtr := f L.mtr }
@[inherit_doc State.sys] def State.evr (s : State) (l : LaneId) (f : Evr → Evr) : State :=
  s.ln l fun L => { L with evr := f L.evr }
@[inherit_doc State.sys] def State.slv (s : State) (l : LaneId) (f : Slv → Slv) : State :=
  s.ln l fun L => { L with slv := f L.slv }
@[inherit_doc State.sys] def State.nvm (s : State) (l : LaneId) (f : Nvm → Nvm) : State :=
  s.ln l fun L => { L with nvm := f L.nvm }
@[inherit_doc State.sys] def State.keys (s : State) (l : LaneId) (f : Key → Key) : State :=
  s.ln l fun L => { L with key := f L.key }
@[inherit_doc State.sys] def State.pwr (s : State) (l : LaneId) (f : Pwr → Pwr) : State := s.md (updPwr l f)
@[inherit_doc State.sys] def State.sel (s : State) (l : LaneId) (v : View) (f : Sel → Sel) : State := s.md (updSel l v f)
@[inherit_doc State.sys] def State.ring (s : State) (l : LaneId) (r : Nat) (f : Ring → Ring) : State := s.md (updRing l r f)

/-- A state with a task changed. -/
def State.task (s : State) (l : LaneId) (k : Nat) (f : Task → Task) : State :=
  s.prg l fun p => { p with tasks := upd p.tasks k f }

/-- A state with an axis, a loop slot, an output or a CAN port of a field die changed. -/
def State.axis (s : State) (d ch : Nat) (f : Axis → Axis) : State := s.fl d fun x => { x with axes := upd x.axes ch f }

@[inherit_doc State.axis] def State.loop (s : State) (d k : Nat) (f : LoopSlot → LoopSlot) : State := s.md (·.updLoop d k f)
@[inherit_doc State.axis] def State.outp (s : State) (d c n : Nat) (f : Output → Output) : State := s.md (·.updOut d c n f)
@[inherit_doc State.axis] def State.can (s : State) (d p : Nat) (f : CanPort → CanPort) : State := s.md (·.updCan d p f)

/-- The state both lanes' tests start from: lane A active in RUN. -/
def base : State := running .A .run

/-- A state with a PTP slot of a lane changed. -/
def State.slot (s : State) (l : LaneId) (k : Nat) (f : PtpSlot → PtpSlot) : State :=
  s.ptp l fun p => { p with slots := upd p.slots k f }

/-- A state with the network section of a lane's active image changed. -/
def State.net (s : State) (l : LaneId) (f : NetworkCfg → NetworkCfg) : State :=
  s.cfg l fun c => { c with active := c.active.map fun i => { i with network := i.network.map f } }

/-- The network section with other port flags on every Ethernet port. -/
def portFlags (ptp : Nat) (n : NetworkCfg) : NetworkCfg := { n with eth := n.eth.map fun e => { e with ptp := ptp } }

/-- A state with the key buffer's words read from bytes. -/
def State.buf (s : State) (l : LaneId) (bs : Bytes) : State :=
  s.keys l fun k => { k with buf := (List.range 32).map fun i => word (leAt bs (4 * i) 4) }

/-- A state with a key in a slot. -/
def State.key (s : State) (l : LaneId) (n attr : Nat) (key : Bytes) : State :=
  s.keys l fun k => { k with slots := upd k.slots n fun _ => { key := some key, attr := attr, count := 3 } }

/-- An entry for the key buffer: a public coordinate for slot 20. -/
def publicEntry : Bytes := [20, 1, 0xFF, 0] ++ leBytes 4 0x608 ++ leBytes 8 0 ++ List.replicate 32 7

/-- An entry for the key buffer: a secret for slot 20, wrapped under the key of slot 9. -/
def wrappedEntry : Bytes := [20, 1, 9, 0] ++ leBytes 4 0x201 ++ leBytes 8 0 ++
  [116, 26, 132, 29, 246, 0, 123, 228, 15, 121, 175, 123, 112, 16, 89, 218, 83, 53, 15, 221, 243, 110, 95, 51, 211, 73, 59, 1,
    66, 198, 209, 125, 13, 146, 120, 61, 123, 35, 70, 7]

/-- Three field dies' replies to a proposed claim, each under the key, while they hold another (R278). -/
def evidenceFor (key : Bytes) (held c now : Nat) : List ClaimReply :=
  (List.range 3).map fun i =>
    let r : ClaimReply := { die := 4 + i, claim := held, proposed := c, replyTb := now / 1000 }
    { r with mac := r.macBy key }

/-- Such replies let a die latch a higher claim. -/
theorem evidenceFor_accepted (key : Bytes) : raiseAccepted 3 2 key 1000000 8 (evidenceFor key 2 8 1000000) = true := by
  simp [raiseAccepted, evidenceFor, ClaimReply.macBy, ClaimReply.body, List.range, List.range.loop]

/-- Whatever the module's own identity, one of two numbers is another's. -/
theorem stranger : 4 ≠ Config.clockIdentity 0 ∨ 5 ≠ Config.clockIdentity 0 := by omega

/-- A slot that has heard a master's Announces on port 1, 10 ns and 20 ns ago. -/
def followed (n : Nat) : State :=
  base.slot .A 1 fun x =>
    { x with portState := [3, 4]
             foreign := [{ port := 1, sender := n, gm := 5, rank := [1, 6, 33, 4, 5], heard := [999990, 999980] }] }

/-- An Announce of that master. -/
def announce (n : Nat) : PtpMsg := { domain := 2, source := n, gm := 5, rank := [1, 6, 33, 4, 5] }

/-! ### Small tools of the tests -/

/-- Whether a command answers a next state with a property. -/
def after (i : Instr) (s : State) (p : State → Bool) : Bool :=
  match exec i s with
  | .next t => p t
  | _ => false

/-- A state with the active image of a lane changed. -/
def State.img (s : State) (l : LaneId) (f : Conf → Conf) : State :=
  s.cfg l fun c => { c with active := c.active.map f }

/-! ### Well-formed commands (R5, R11, R458) -/

/-- Whether a list of commands holds no well-formed one. -/
def allRefused (is : List Instr) : Bool := is.all fun i => !i.wellFormed

/-- Whether a list of commands holds only well-formed ones. -/
def allAccepted (is : List Instr) : Bool := is.all fun i => i.wellFormed

/-- Every check of `Instr.wellFormed` refuses a term that breaks it. -/
theorem test_ill_formed_refused :
    allRefused [.registerWrite .A .host 0x90002 0 0xF, .registerWrite .A .host 0x200000 0 0xF, .lowWordRead .A .fw 0x90001,
      .rtcAlarmWrite .A .host 0x200000 0, .canFiltBufRead .A .host 24, .finalSaveMsg .A 4 {}, .clockFail 8 0,
      .trngHealthFailure .A 2, .applyMsg 8, .cancelMsg 8, .confirmMsg 8, .bankSwap 8, .vacancy 4, .tSafeExpiry 4,
      .claimRaise .A 8, .claimRequest .A 4] = true ∧
    allRefused [.safeDriveEnd 0 64 0, .safeDriveEnd 0 0 4, .taskBoundary .A 4, .cycleClockRequest .A 4, .jobStart 2,
      .selfTestEnd 2 0 true, .deadlineExpiry .A 65, .overcurrentTrip 4 0 0, .endOfTravel 0 64 0, .sensorSupplyLimit 0 2 0 true,
      .moveAbs 0 64, .moveAbs 4 0, .loopSet 0 64, .settlingEnd 0 32, .flowPulse 0 16 false, .pulseStart 0 48 0] = true ∧
    allRefused [.pulseEnd 0 0 2, .canBusIdle 0 4, .captureEntry .A 0 4 false, .recordAssemblyTimeout .A 4096,
      .linkChange .A 2 true true, .laneLinkChange ⟨2, true⟩, .ptpMessageInterval .A 0 2 0, .slotLost .A 2, .freezeTimeout .A 2,
      .domainTransitionComplete .A 0 22 true true, .doorbell .A 8 0, .descriptorComplete .A 8, .msixVectorUnmask .A 32] =
      true := by decide

/-- The same commands at the ends of their ranges are accepted. -/
theorem test_well_formed_accepted :
    allAccepted [.registerWrite .A .host 0x1FFFFC 0 0xF, .lowWordRead .A .fw 0, .canFiltBufRead .A .host 23, .clockFail 7 0,
      .trngHealthFailure .A 1, .vacancy 3, .safeDriveEnd 3 63 3, .taskBoundary .A 3, .jobStart 1, .moveAbs 3 63,
      .loopSet 3 63] = true ∧
    allAccepted [.settlingEnd 3 31, .flowPulse 3 15 true, .pulseStart 3 47 1, .canBusIdle 3 3, .recordAssemblyTimeout .A 4095,
      .linkChange .B 1 true true, .laneLinkChange ⟨1, true⟩, .domainTransitionComplete .A 7 21 true true, .doorbell .A 7 0, .msixVectorUnmask .A 31] =
      true := by decide

/-- The table gives no row any bits, so no word spells a command. -/
theorem test_no_word_decodes : decodeTableWord 32 0xFFFFFFFF = none := rfl

/-! ### Published vectors -/

/-- SHA-256 of the three bytes "abc" (FIPS 180-4, example). -/
theorem test_sha256_abc : beNat (sha256 [0x61, 0x62, 0x63]) =
    0xba7816bf8f01cfea414140de5dae2223b00361a396177a9cb410ff61f20015ad := by decide +kernel

/-- HMAC-SHA-256 with the key "Jefe" over 28 bytes (RFC 4231, test case 2). -/
theorem test_hmac_jefe : beNat (hmac [0x4a, 0x65, 0x66, 0x65]
    [0x77, 0x68, 0x61, 0x74, 0x20, 0x64, 0x6f, 0x20, 0x79, 0x61, 0x20, 0x77, 0x61, 0x6e, 0x74, 0x20, 0x66, 0x6f, 0x72, 0x20,
     0x6e, 0x6f, 0x74, 0x68, 0x69, 0x6e, 0x67, 0x3f]) =
    0x5bdcc146bf60754e6a042426089575c75a003f089d2739839dec58b964ec3843 := by decide +kernel

/-- The S-box at 0x53 (FIPS 197, section 5.1.1), and its inverse at every byte. -/
theorem test_aes_sbox : aesSub 0x53 = 0xed ∧ ∀ b < 256, aesInvSub (aesSub b) = b := by decide +kernel

/-- The check value of CRC-32/ISO-HDLC over the digits 1 to 9. -/
theorem test_crc32_check : crc32 [0x31, 0x32, 0x33, 0x34, 0x35, 0x36, 0x37, 0x38, 0x39] = 0xCBF43926 := by decide +kernel

/-- Binary64: 0.1 + 0.2 is 0x3FD3333333333334, 1/3 is 0x3FD5555555555555 and the root of 2 is 0x3FF6A09E667F3BCD. -/
theorem test_binary64 :
    ((fl 0x3FB999999999999A).add (fl 0x3FC999999999999A)).v = 0x3FD3333333333334 ∧
    ((fl one64).div (fl 0x4008000000000000)).v = 0x3FD5555555555555 ∧
    (fl 0x4000000000000000).sqrt.v = 0x3FF6A09E667F3BCD := by decide +kernel

/-- The last row of the isolated spur: with tau = 2^-40 and nu = 4 a zero pivot becomes 2^-38 (03, example). -/
theorem test_pivot_regularised : regularise (fl (pow64 (-40))) (fl 0x4010000000000000) (fl 0) = (fl (pow64 (-38)), true) := by
  decide +kernel

/-- Water at 40 °C and 600 kPa has 992.4 kg per cubic metre (09, example). -/
theorem test_water_density : fdiv (waterRho 313150000 600 * 10) fxS = 9924 := by decide +kernel

/-! ### The worked examples of the manual -/

/-- Move 1 of two blended moves: ramps of 800 and 700 microsteps, the deceleration from 1.5125 s and the joint at 1.6125 s
(07, example). -/
theorem test_blended_move : let p := mkPlan 0 0 false (12000 * planS) 0 8000 (6000 * planS) 40000 20000
    p.da = 800 * planS ∧ p.db = 700 * planS ∧ p.t1 = 200000000 ∧ p.t1 + p.t2 = 1512500000 ∧ p.tEnd = 1612500000 := by
  decide +kernel

/-- The joint of the two moves is 6000 (07, example). -/
theorem test_joint : jointSpeed 0 (12000 * planS) 40000 8000 (8000 * planS) 6000 20000 false = 6000 * planS := by
  decide +kernel

/-- The reverse move behind the damper ends 0.8 s after it begins (07, example). -/
theorem test_reverse_move : let p := mkPlan 400000000 (17600 * planS) true (3600 * planS) 0 8000 0 40000 16000
    p.da = 800 * planS ∧ p.db = 2000 * planS ∧ p.tEnd = 1200000000 := by decide +kernel

/-- The pump stages on at 1.05 bar and off at 1.30 bar (08, example). -/
theorem test_band_states :
    ({ eOn := 0x2666, eOff := -0x199A } : LoopSlot).want (0x13333 - 0x10CCC) = true ∧
    ({ eOn := 0x2666, eOff := -0x199A, on := true } : LoopSlot).want (0x13333 - 0x14CCD) = false ∧
    ({ eOn := 0x2666, eOff := -0x199A, on := true } : LoopSlot).want 0 = true := by decide

/-- The newest record of the extracted ring lies at 0x254DE00 (15, example). -/
theorem test_ring_address : ringAddr 1287920 = 0x254DE00 := by decide

/-- The claim of the three-one split is lane B's with epoch 6 (10, example). -/
theorem test_claim_word : mkClaim 6 .B = 0xD ∧ claimLane 0xD = .B ∧ claimEpoch 0xD = 6 := by decide

/-- R493: a lane that holds the claim shows ACT, a lane in STANDBY shows RDY. -/
theorem test_contacts : let m := { base.m with supplyGood := true }
    let act := m.updLane .A fun L => { L with red := { L.red with holds := true } }
    let rdy := m.updLane .B fun L => { L with sys := { L.sys with mode := .standby } }
    act.laneAct .A = true ∧ act.laneAct .B = false ∧ rdy.laneRdy .B = true ∧ rdy.laneRdy .A = false := by decide

/-- A slew of 700 ns takes 14 ms and runs 50 ppm slow (13, example). -/
theorem test_slew : let p := ((slew .A 700 base.m).lane .A).ptp
    p.slewEnd = base.m.now + 14000000 ∧ p.speed = -50000 ∧ p.slewing = true := by decide +kernel

/-- The second after 2099-12-31 23:59:59, weekday 4 (16, example). -/
theorem test_century : ({ sec := 59, min := 59, hour := 23, wday := 4, day := 31, mon := 12, year := 2099 } : Cal).next =
    { sec := 0, min := 0, hour := 0, wday := 5, day := 1, mon := 1, year := 2100 } := by decide

/-- A set to 2100-02-29 is refused, DATE is set and the calendar runs on (16, example). -/
theorem test_rtc_commit_refused :
    after (.rtcCommit .A .host 1)
      (base.rtc .A fun r => { r with stgHour := 12, stgDay := 29, stgMon := 2, stgYear := 2100 })
      (fun t => (t.m.lane .A).rtc.errDate && (t.m.lane .A).rtc.cal == (base.m.lane .A).rtc.cal) = true := by decide +kernel

/-- At 104.0 W and a feed of 9.0 V the governor takes step 1 (18, example). -/
theorem test_governor_raises :
    after (.governorTick .A 9000 11560 1040 24000 false) (base.img .A fun c => { c with power := { pMax := 1200 } })
      (fun t => (t.m.lane .A).pwr.step == 1 && (t.m.lane .A).pwr.pAvail == 1080 && (t.m.lane .A).pwr.vLow) = true := by
  decide +kernel

/-- The host's reads of A_IMP of MP040 of die F1: the low word on the bus, the high word and the count latched (21, example). -/
theorem test_a_imp_read :
    after (.mtrRegLoRead .A .host)
      ((base.sel .A .host fun x => { x with mtrPt := 0x28, mtrReg := 0 }).fl 1 fun f =>
        { f with mps := upd f.mps 8 fun p => { p with regs := upd p.regs 0 fun _ => { value := 0x500000007, roll := 9 } } })
      (fun t => t.m.bus == 7 && keyed (t.m.sel .A .host).latch 0x90010 0 == 5 &&
        keyed (t.m.sel .A .host).latch 0x90014 0 == 9) = true := by decide +kernel

/-- The selection write of that example. -/
theorem test_select_write :
    after (.registerWrite .A .host 0x90000 0x28 0xF) base (fun t => (t.m.sel .A .host).mtrPt == 0x28 &&
      (t.m.sel .A .fw).mtrPt == (base.m.sel .A .fw).mtrPt) = true := by decide +kernel

/-- A forward pulse of 1 000 000 microlitres adds 1 000 mL to V_FWD (09, example). -/
theorem test_flow_pulse_volume :
    after (.flowPulse 0 0 false)
      (base.fl 0 fun f => { f with
        bank := f.bank.map fun c => { c with metering := some { meters with hps := [{ kind := 1, ch := 4, pulseVol := 1000000, pmaxW := 1000 }] } } })
      (fun t => (at? (at? (t.m.fd 0).hps 0 {}).regs 4 {}).value == 1000) = true := by decide +kernel

/-! ### One step at a time -/

/-- A step takes the command at the front of the queue and keeps the rest (model, log entry 12). -/
theorem test_step_takes_front :
    (match step { base with pending := [.evrFreezeSet .A .host, .commandApply] } with
     | .next t => t.pending == [.commandApply] && (t.m.lane .A).evr.freezeHost == some base.m.now
     | _ => false) = true := by decide +kernel

/-- An empty queue idles for one clock period (model, log entry 1). -/
theorem test_step_idles :
    (match step State.reset with
     | .next t => t.m.now == 10 && t.pending == []
     | _ => false) = true := by decide +kernel

/-- Quadrature: A falling while B stays high counts one up, and both levels at once count nothing and set ENC_ERR (R174). -/
theorem test_quadrature :
    after (.encoderEdge 0 3 false true) base (fun t => ((t.m.chan 0 3).enc).toInt.natAbs == 1 && !(t.m.chan 0 3).encErr) = true ∧
    after (.encoderEdge 0 3 false false) base (fun t => (t.m.chan 0 3).enc == 0 && (t.m.chan 0 3).encErr) = true := by
  decide +kernel

/-- A transmit error raises TEC by 8; above 255 the port goes bus-off (R324). -/
theorem test_can_bus_off :
    after (.canFrameError 0 0 { tx := true }) base (fun t => (t.m.canPort 0 0).tecCnt == 8 && (t.m.canPort 0 0).state == 0) = true ∧
    after (.canFrameError 0 0 { tx := true }) (base.can 0 0 ({ · with state := 1, tecCnt := 248 }))
      (fun t => (t.m.canPort 0 0).state == 3) = true := by decide +kernel

/-- An overcurrent trip opens the channel's outputs and sets its cause bit (R180). -/
theorem test_overcurrent :
    after (.overcurrentTrip 0 1 0) (base.outp 0 1 0 ({ · with cmd := .fwd, now := .fwd }))
      (fun t => (t.m.chan 0 1).fault != 0 && ((t.m.fd 0).outp 1 0).now == .off) = true := by decide +kernel

/-- RUN goes to SAFE_HOLD on request; a lane in STANDBY takes no mode request (R311). -/
theorem test_mode_request :
    after (.modeRequest .A .host 0xF) base (fun t => (t.m.lane .A).sys.mode == .safeHold) = true ∧
    after (.modeRequest .B .host 0xF) base (fun t => (t.m.lane .B).sys.mode == .standby) = true := by decide +kernel

/-- A field die that hears no heartbeat becomes vacant (R276); a warning of a bridge group holds its temperature (R181). -/
theorem test_field_events :
    after (.vacancy 0) base (fun t => (t.m.fd 0).vacant) = true ∧
    after (.thermalWarning 0 3 1400) base (fun t => (at? (t.m.fd 0).brg 3 {}).warn && (at? (t.m.fd 0).brg 3 {}).temp == 1400) = true := by
  decide +kernel

/-- An erase empties an unlocked slot and leaves a locked one alone (R433). -/
theorem test_key_erase :
    after (.keyErase .A .host 0x1403) ((base.sys .A ({ · with mode := .commission })).key .A 20 0x200 (List.replicate 32 1))
      (fun t => ((t.m.lane .A).key.slot 20).key == none) = true ∧
    after (.keyErase .A .host 0x1403) ((base.sys .A ({ · with mode := .commission })).key .A 20 0x280 (List.replicate 32 1))
      (fun t => ((t.m.lane .A).key.slot 20).key == some (List.replicate 32 1)) = true := by decide +kernel

/-- A partial write is discarded and counted (R503). -/
theorem test_partial_write :
    after (.registerWrite .A .host 0x90000 0x28 0x7) base (fun t => (t.m.sel .A .host).mtrPt == (base.m.sel .A .host).mtrPt &&
      (t.m.lane .A).sys.partialWr == 1) = true := by decide +kernel

/-! ### The obligations' premises are met -/

/-- The premises of ReadClearsItsCounts are met, clause by clause. -/
theorem meets_ReadClearsItsCounts :
    (∃ (s : State) (l : LaneId) (v : View), Heard s l v) ∧
    (∃ (s : State) (l : LaneId) (v : View), Heard s l v ∧ s.m.sdReach l (s.m.sel l v).slvDie = true) ∧
    (∃ (s : State) (l : LaneId) (v : View), Heard s l v ∧ s.m.sdReach l (s.m.sel l v).slvDie = false) :=
  ⟨⟨base, .A, .host, by decide +kernel⟩,
    ⟨base, .A, .host, by decide +kernel⟩,
    ⟨base.sl 0 ({ · with powered := false }), .A, .host, by decide +kernel⟩⟩

/-- The premises of LowWordReadLatchesTheRest are met, clause by clause. -/
theorem meets_LowWordReadLatchesTheRest :
    (∃ (s : State) (l : LaneId) (v : View), ∃ addr, Heard s l v ∧ addr ∈ lowWords) ∧
    (∃ (s : State) (l : LaneId) (v : View), Heard s l v ∧ s.m.fdReach l (fld (s.m.sel l v).mtrPt 6 0 / 32) = true ∧
         bitOf (s.m.sel l v).mtrPt 8 = false) ∧
    (∃ (s : State) (l : LaneId) (v : View), Heard s l v) ∧
    (∃ (s : State) (l : LaneId) (v : View), Heard s l v ∧ bitOf (s.m.sel l v).evrCtrl 0 = false) ∧
    (∃ (s : State) (l : LaneId) (v : View), Heard s l v ∧ s.m.variant ≠ .nfj8 ∧
         s.m.fdReach l ((s.m.sel l v).canPort / 4) = true) :=
  ⟨⟨base, .A, .host, 0x40030, by decide +kernel⟩,
    ⟨base, .A, .host, by decide +kernel⟩,
    ⟨base, .A, .host, by decide +kernel⟩,
    ⟨base, .A, .host, by decide +kernel⟩,
    ⟨base.md ({ · with variant := .nfj4 }), .A, .host, by decide +kernel⟩⟩

/-- The premises of CalendarReadsFromItsShadow are met, clause by clause. -/
theorem meets_CalendarReadsFromItsShadow :
    (∃ (s : State) (l : LaneId) (v : View), (s.m.lane l).rtc.lockout = false ∧ Heard s l v ∧
         (s.m.lane l).rtc.frozen v = none) ∧
    (∃ (s : State) (l : LaneId) (v : View), ∃ c, (s.m.lane l).rtc.lockout = false ∧ Heard s l v ∧
         (s.m.lane l).rtc.frozen v = some c) ∧
    (∃ (s : State) (l : LaneId) (v : View), ∃ c, (s.m.lane l).rtc.lockout = false ∧
         (s.m.lane l).rtc.frozen v = some c) ∧
    (∃ (s : State) (l : LaneId), (s.m.lane l).rtc.lockout = false) :=
  ⟨⟨base, .A, .host, by decide +kernel⟩,
    ⟨(base.rtc .A fun r => { r with shadow := [some (⟨1, 2, 3, 4, 5, 6, 2020⟩, 5), some (⟨1, 2, 3, 4, 5, 6, 2020⟩, 5)] }),
         .A, .host, (⟨1, 2, 3, 4, 5, 6, 2020⟩, 5), by decide +kernel⟩,
    ⟨(base.rtc .A fun r => { r with shadow := [some (⟨1, 2, 3, 4, 5, 6, 2020⟩, 5), some (⟨1, 2, 3, 4, 5, 6, 2020⟩, 5)] }),
         .A, .host, (⟨1, 2, 3, 4, 5, 6, 2020⟩, 5), by decide +kernel⟩,
    ⟨base, .A, by decide +kernel⟩⟩

/-- The premises of RegisterWriteTakesWholeWords are met, clause by clause. -/
theorem meets_RegisterWriteTakesWholeWords :
    (∃ (s : State) (l : LaneId) (v : View), Heard s l v) ∧
    (∃ (s : State) (l : LaneId) (v : View), ∃ addr be, Heard s l v ∧ ¬ (be = 0xF ∧ addr % 4 = 0) ∧ v = .host) ∧
    (∃ (s : State) (l : LaneId) (v : View), ∃ addr be, Heard s l v ∧ ¬ (be = 0xF ∧ addr % 4 = 0) ∧ v = .fw) :=
  ⟨⟨base, .A, .host, by decide +kernel⟩,
    ⟨base, .A, .host, 0xA0031, 15, by decide +kernel⟩,
    ⟨base, .A, .fw, 0xA0030, 7, by decide +kernel⟩⟩

/-- The premises of UnheardAccessChangesNothing are met, clause by clause. -/
theorem meets_UnheardAccessChangesNothing :
    (∃ (s : State) (l : LaneId) (v : View), s.m.reach l v = false) ∧
    (∃ (s : State) (l : LaneId) (v : View), s.m.reach l v = true ∧ s.m.mute l v = true) :=
  ⟨⟨(base.hst .A ({ · with linkUp := false })).pwr .A ({ · with doms := [] }), .A, .host, by decide +kernel⟩,
    ⟨base.red .A ({ · with holds := false }), .A, .host, by decide +kernel⟩⟩

/-- The premises of SupplyEventsAct are met, clause by clause. -/
theorem meets_SupplyEventsAct :
    (∃ (s : State), ∃ vin, s.m.supplyGood = false ∧ 8000 ≤ vin) ∧
    (∃ (s : State), ∃ vh, s.m.supplyGood = true ∧ 7500 ≤ vh ∧ s.m.freshLanes = []) ∧
    (∃ (s : State), ∃ vh, s.m.supplyGood = true ∧ 7500 ≤ vh ∧ s.m.freshLanes ≠ []) ∧
    (∃ (s : State), ∃ vh, s.m.supplyGood = true ∧ 7500 ≤ vh ∧ (∀ l, (s.m.lane l).sys.phase ≠ .starting)) ∧
    (∃ (s : State), ∃ vin, s.m.supplyGood = true ∧ vin < 5600) ∧
    (∃ vh, vh < 4500) ∧
    (∃ (s : State), ∃ l, s.m.supplyGood = false ∧ (s.m.lane l).rtc.alive = true ∧
         (s.m.lane l).rtc.onBackup = false) :=
  ⟨⟨base.md ({ · with supplyGood := false }), 8000, by decide +kernel⟩,
    ⟨base, 7500, by decide +kernel⟩,
    ⟨(base.sys .A ({ · with phase := .starting, holdupOk := false })).sys .B ({ · with phase := .starting, holdupOk := false }),
         7500, by decide +kernel⟩,
    ⟨base, 7500, ⟨by decide +kernel, by decide +kernel, by intro l; cases l <;> decide +kernel⟩⟩,
    ⟨base, 5599, by decide +kernel⟩,
    ⟨4499, by decide +kernel⟩,
    ⟨base.md ({ · with supplyGood := false }), .A, by decide +kernel⟩⟩

/-- The premises of TimeKeeperActs are met, clause by clause. -/
theorem meets_TimeKeeperActs :
    (∃ (s : State) (l : LaneId), (s.m.lane l).rtc.alive = true) ∧
    (∃ (s : State) (l : LaneId), (s.m.lane l).rtc.onBackup = true) ∧
    (∃ (s : State) (l : LaneId), ∃ a b, (s.m.lane l).rtc.pwrOnAt = some (a, b)) ∧
    (∃ (s : State) (l : LaneId) (v : View), ∃ w, Heard s l v ∧ (s.m.lane l).rtc.lockout = false ∧ bitOf w 0 = true ∧
         (s.m.lane l).rtc.stagedOk = false) ∧
    (∃ (s : State) (l : LaneId) (v : View), ∃ w, Heard s l v ∧ (s.m.lane l).rtc.lockout = false ∧ bitOf w 0 = true ∧
         (s.m.lane l).rtc.stagedOk = true) ∧
    (∃ (s : State) (l : LaneId) (v : View), ∃ w, Heard s l v ∧ (s.m.lane l).rtc.lockout = false ∧
         alarmOk false w = true) ∧
    (∃ (s : State) (l : LaneId) (v : View), ∃ w, Heard s l v ∧ (s.m.lane l).rtc.lockout = false ∧
         alarmOk true w = true) ∧
    (∃ (s : State) (l : LaneId) (v : View), ∃ w, Heard s l v ∧ (s.m.lane l).rtc.lockout = false ∧
         alarmOk false w = false) ∧
    (∃ (s : State) (l : LaneId) (v : View), ∃ w, Heard s l v ∧ (s.m.lane l).rtc.lockout = false ∧
         alarmOk true w = false) ∧
    (∃ (s : State) (l : LaneId), s.m.supplyGood = true ∧ (s.m.lane l).sys.holdupOk = true ∧
         (s.m.lane l).sys.failed = false ∧ (s.m.lane l).sys.phase ≠ .saving ∧ (s.m.lane l).sys.phase ≠ .stopped) ∧
    (∃ (s : State) (l : LaneId) (v : View), ∃ w, Heard s l v ∧ (s.m.lane l).rtc.lockout = true ∨ bitOf w 0 = false) ∧
    (∃ (s : State) (l : LaneId) (v : View), Heard s l v ∧ (s.m.lane l).rtc.lockout = true) :=
  ⟨⟨base.rtc .A ({ · with cal := ⟨59, 59, 23, 6, 31, 12, 2399⟩, almTime := 0x80000000 }), .A, by decide +kernel⟩,
    ⟨base.rtc .A ({ · with onBackup := true }), .A, by decide +kernel⟩,
    ⟨base.rtc .A ({ · with pwrOnAt := some (5, 6) }), .A, 5, 6, by decide +kernel⟩,
    ⟨base.rtc .A ({ · with stgMon := 13 }), .A, .host, 1, by decide +kernel⟩,
    ⟨base, .A, .host, 1, by decide +kernel⟩,
    ⟨base, .A, .host, 0x00173B3B, by decide +kernel⟩,
    ⟨base, .A, .host, 0x00010115, by decide +kernel⟩,
    ⟨base, .A, .host, 0x003F3F3F, by decide +kernel⟩,
    ⟨base, .A, .host, 0xFFFFFFFF, by decide +kernel⟩,
    ⟨base, .A, by decide +kernel⟩,
    ⟨base.rtc .A ({ · with lockout := true }), .A, .host, 1, by decide +kernel⟩,
    ⟨base.rtc .A ({ · with lockout := true }), .A, .host, by decide +kernel⟩⟩

/-- The premises of StartsAndHaltsAct are met, clause by clause. -/
theorem meets_StartsAndHaltsAct :
    (∃ (s : State) (l : LaneId), (s.m.lane l).sys.phase = .startSwap ∧ (s.m.lane l).red.holds = true ∧
         (s.m.lane l.other).sys.phase ≠ .starting ∧ (s.m.lane l).cfg.active = none ∧ (s.m.lane l).cfg.staged = []) ∧
    (∃ (s : State) (l : LaneId), (s.m.lane l).sys.phase = .up ∧ (s.m.lane l).red.holds = true ∧
         (s.m.lane l).sys.restored = false ∧ (s.m.lane l).sys.mode ≠ .loaded ∧ (∀ d,
         d < s.m.variant.nFd → (s.m.fd d).restored = true)) ∧
    (∃ (s : State) (l : LaneId), (s.m.lane l).sys.phase = .startSwap ∧ (s.m.lane l).red.holds = true) ∧
    (∃ (s : State) (l : LaneId), let done := (((saveStart l 2 (restoreReached s.mem l s.m.fresh)).lane l).sys);
         (s.m.lane l).sys.phase = .up ∧ (s.m.lane l).red.holds = true ∧ (s.m.lane l).sys.restored = false ∧
         (done.mode ≠ .loaded ∨ done.autoDue = false ∨ done.restored = false)) ∧
    (∃ (s : State) (l : LaneId), let done := (((saveStart l 2 (restoreReached s.mem l s.m.fresh)).lane l).sys);
         (s.m.lane l).sys.phase = .up ∧ (s.m.lane l).red.holds = true ∧ (s.m.lane l).sys.restored = false ∧
         done.mode = .loaded ∧ done.autoDue = true ∧ done.restored = true) ∧
    (∃ (s : State), s.m.variant.nLane = 2 ∧ s.m.laneB.sys.failed = false ∧ s.m.laneB.red.holds = false ∧
         s.m.laneB.red.patArmed = false ∧ s.m.laneB.sys.holdupOk = true) ∧
    (∃ (s : State) (l : LaneId), (s.m.lane l).red.holds = true) ∧
    (∃ (s : State) (l : LaneId) (v : View), ∃ w, Heard s l v ∧ bitOf w 0 = true ∧ fld w 31 16 = 0x4E52) ∧
    (∃ (s : State) (l : LaneId), let up := (((restartBoot l s.m.fresh).lane l).sys.phase = .starting);
         (s.m.lane l).sys.phase = .halted ∧ up ∧ s.m.variant.nLane = 1) ∧
    (∃ (s : State) (l : LaneId), let up := (((restartBoot l s.m.fresh).lane l).sys.phase = .starting);
         (s.m.lane l).sys.phase = .halted ∧ up ∧ s.m.variant.nLane = 2) ∧
    (∃ (s : State) (l : LaneId), let up := (((restartBoot l s.m.fresh).lane l).sys.phase = .starting);
         (s.m.lane l).sys.phase = .halted ∧ ¬up) ∧
    (∃ (s : State) (l : LaneId), ∃ d recs at_, (s.m.lane l).mtr.save = some (1, recs, at_) ∧
         (s.m.lane l).sys.phase = .saving ∧ s.m.fdReach l d = true ∧ recs.any (·.1 == d) = false) ∧
    (∃ (s : State) (l : LaneId), ∃ recs at_, (s.m.lane l).mtr.save = some (1, recs, at_) ∧
         (s.m.lane l).sys.phase = .saving ∧ s.m.supplyGood = false ∧ (∀ d,
         d ∈ s.m.fdsOf l → recs.any (·.1 == d) = true)) ∧
    (∃ (s : State) (l : LaneId), ∃ recs at_, (s.m.lane l).mtr.save = some (1, recs, at_) ∧
         (s.m.lane l).sys.phase = .saving ∧ s.m.supplyGood = true ∧ (∀ d,
         d ∈ s.m.fdsOf l → recs.any (·.1 == d) = true)) :=
  ⟨⟨(base.sys .A ({ · with phase := .startSwap })).cfg .A ({ · with active := none, staged := [] }), .A,
       by decide +kernel⟩,
    ⟨(((base.sys .A ({ · with restored := false })).md fun m => { m with fds := m.fds.map ({ · with restored := true }) })),
         .A, by decide +kernel⟩,
    ⟨base.sys .A ({ · with phase := .startSwap }), .A, by decide +kernel⟩,
    ⟨base.sys .A ({ · with restored := false }), .A, by dsimp only; decide +kernel⟩,
    ⟨base.sys .A ({ · with restored := false, mode := .loaded, autoDue := true }), .A, by dsimp only; decide +kernel⟩,
    ⟨base.red .B ({ · with patArmed := false }), by decide +kernel⟩,
    ⟨base, .A, by decide +kernel⟩,
    ⟨base, .A, .host, 0x4E520001, by decide +kernel⟩,
    ⟨(base.md ({ · with variant := .nfj4 })).sys .A ({ · with phase := .halted }), .A, by dsimp only; decide +kernel⟩,
    ⟨base.sys .A ({ · with phase := .halted }), .A, by dsimp only; decide +kernel⟩,
    ⟨(base.sys .A ({ · with phase := .halted })).keys .A ({ · with slots := [] }), .A, by dsimp only; decide +kernel⟩,
    ⟨(base.sys .A ({ · with phase := .saving })).mtr .A ({ · with save := some (1, [], 7) }), .A, 0, [], 7,
         by decide +kernel⟩,
    ⟨((base.sys .A ({ · with phase := .saving })).mtr .A ({ · with save := some (1, [(0, []), (1, []), (2, []), (3, [])], 7) })).md ({ · with supplyGood := false }),
         .A, [(0, []), (1, []), (2, []), (3, [])], 7, by decide +kernel⟩,
    ⟨((base.sys .A ({ · with phase := .saving })).mtr .A ({ · with save := some (1, [(0, []), (1, []), (2, []), (3, [])], 7) })),
         .A, [(0, []), (1, []), (2, []), (3, [])], 7, by decide +kernel⟩⟩

/-- The premises of ModeRequestsAct are met, clause by clause. -/
theorem meets_ModeRequestsAct :
    (∃ (s : State) (l : LaneId) (v : View) (w : Word), Heard s l v ∧ (bitOf w 3 = false ∨ s.m.frozen l = true)) ∧
    (∃ (s : State) (l : LaneId) (v : View) (w : Word), Heard s l v ∧ bitOf w 3 = true ∧ s.m.frozen l = false ∧
         (s.m.lane l).judgeMode (fld w 2 0) = 0) ∧
    (∃ (s : State) (l : LaneId) (v : View) (w : Word), Heard s l v ∧ bitOf w 3 = true ∧ s.m.frozen l = false ∧
         (s.m.lane l).judgeMode (fld w 2 0) ≠ 0) ∧
    (∃ (s : State) (l : LaneId) (v : View) (w : Word), Heard s l v ∧ bitOf w 3 = true ∧ fld w 2 0 = 2 ∧
         (s.m.lane l).sys.mode = .loaded ∧ (s.m.lane l).judgeMode 2 = 0 ∧ s.m.frozen l = false ∧
         (s.m.lane l).cfg.state ≠ .armed) ∧
    (∃ (s : State) (l : LaneId) (v : View) (w : Word), Heard s l v ∧ bitOf w 31 = true ∧
         (s.m.lane l).sys.mode = .commission) ∧
    (∃ (s : State) (l : LaneId) (v : View) (w : Word), Heard s l v ∧ bitOf w 31 = true ∧
         (s.m.lane l).sys.mode ≠ .commission) ∧
    (∃ (s : State) (l : LaneId) (v : View) (w : Word), Heard s l v ∧ bitOf w 31 = false) :=
  ⟨⟨base, .A, .host, 0x5, by decide +kernel⟩,
    ⟨base, .A, .host, 0x0000000A, by decide +kernel⟩,
    ⟨base, .A, .host, 0x0000000D, by decide +kernel⟩,
    ⟨base.sys .A ({ · with mode := .loaded }), .A, .host, 0xA, by decide +kernel⟩,
    ⟨base.sys .A ({ · with mode := .commission }), .A, .host, 0x80000502, by decide +kernel⟩,
    ⟨base, .A, .host, 0x80000000, by decide +kernel⟩,
    ⟨base.sys .A ({ · with testEnable := true }), .A, .host, 0, by decide +kernel⟩⟩

/-- The premises of ConfigurationCommandsAct are met, clause by clause. -/
theorem meets_ConfigurationCommandsAct :
    (∃ (s : State) (l : LaneId) (d : HostDesc), s.m.fetches l 0 d.fence = true ∧ d.op = 1 ∧ d.addr % 4 = 0 ∧
         d.len % 4 = 0 ∧ 4 ≤ d.len ∧ d.len ≤ 4194304 ∧ d.param + d.len ≤ 12582912 ∧
         (s.m.lane l).hst.rings.length = 8 ∧ (s.m.lane l).cfg.state ∉ [.checking, .armed] ∧
         (s.m.lane l).sys.holdupOk = true) ∧
    (∃ (s : State) (l : LaneId) (d : HostDesc), s.m.fetches l 0 d.fence = true ∧ d.op = 1 ∧ d.addr % 4 = 0 ∧
         d.len % 4 = 0 ∧ 4 ≤ d.len ∧ d.len ≤ 4194304 ∧ d.param + d.len ≤ 12582912 ∧
         (s.m.lane l).hst.rings.length = 8 ∧ (s.m.lane l).cfg.state ∈ [.checking, .armed]) ∧
    (∃ (s : State) (l : LaneId) (v : View), Heard s l v ∧ (s.m.lane l).sys.mode ∉ [.standby, .resync] ∧
         (s.m.lane l).cfg.state = .loading) ∧
    (∃ (s : State) (l : LaneId) (v : View), Heard s l v ∧ (s.m.lane l).sys.mode ∉ [.standby, .resync] ∧
         (s.m.lane l).cfg.state ∉ [.loading, .checking]) ∧
    (∃ (s : State) (l : LaneId) (v : View), ∃ new at_, Heard s l v ∧ (s.m.lane l).sys.mode ∉ [.standby, .resync] ∧
         (s.m.lane l).cfg.state = .passed ∧ (s.m.lane l).cfg.candidate = some new ∧ s.m.applyInstant l = some at_) ∧
    (∃ (s : State) (l : LaneId) (v : View), Heard s l v ∧ (s.m.lane l).cfg.state = .passed) ∧
    (∃ (s : State) (l : LaneId) (v : View), Heard s l v ∧ (s.m.lane l).cfg.state ∈ [.loading, .refused,
         .checking] ∨ ((s.m.lane l).cfg.state = .armed ∧ (s.m.lane l).cfg.confirmSent = false ∧
         s.m.now < (s.m.lane l).cfg.applyInstant)) ∧
    (∃ (s : State) (l : LaneId) (v : View), Heard s l v ∧ (s.m.lane l).cfg.state = .empty) ∧
    (∃ (s : State) (l : LaneId) (v : View), Heard s l v ∧ (s.m.lane l).cfg.state = .armed ∧
         (s.m.lane l).cfg.confirmSent = true ∨ (s.m.lane l).cfg.applyInstant ≤ s.m.now) ∧
    (∃ (s : State) (l : LaneId), (s.m.lane l).cfg.state = .checking ∧ (s.m.lane l).cfg.mirrorWait = false ∧
         (s.m.lane l).sys.mode ∈ [.standby, .resync]) ∧
    (∃ (s : State) (l : LaneId), (s.m.lane l).cfg.state = .checking ∧ (s.m.lane l).cfg.mirrorWait = false ∧
         (s.m.lane l).sys.mode ∉ [.standby, .resync]) ∧
    (∃ (s : State) (l : LaneId), (s.m.lane l).cfg.state = .checking ∧ (s.m.lane l).cfg.mirrorWait = true) ∧
    (∃ (s : State) (l : LaneId), (s.m.lane l).cfg.state = .checking ∧ (s.m.lane l).cfg.mirrorWait = true ∧
         (s.m.lane l.other).sys.mode = .standby ∧ s.m.laneLink = true) :=
  ⟨⟨base, .A, { op := 1, len := 8, param := 4, data := [1, 2, 3], tag := 9 }, by decide +kernel⟩,
    ⟨base.cfg .A ({ · with state := .checking }), .A,
         { op := 1, len := 8, param := 4, data := [1, 2, 3], tag := 9 }, by decide +kernel⟩,
    ⟨base.cfg .A ({ · with state := .loading }), .A, .host, by decide +kernel⟩,
    ⟨base, .A, .host, by decide +kernel⟩,
    ⟨base.cfg .A ({ · with state := .passed, candidate := some image }), .A, .host, image,
         ((base.cfg .A ({ · with state := .passed, candidate := some image })).m.applyInstant .A).getD 0,
         by decide +kernel⟩,
    ⟨base.cfg .A ({ · with state := .passed, candidate := some image }), .A, .host, by decide +kernel⟩,
    ⟨base.cfg .A ({ · with state := .refused, candidate := some image }), .A, .host, by decide +kernel⟩,
    ⟨base.cfg .A ({ · with state := .empty }), .A, .host, by decide +kernel⟩,
    ⟨base.cfg .A ({ · with state := .armed, applyInstant := 1000000 }), .A, .host, by decide +kernel⟩,
    ⟨(base.sys .A ({ · with mode := .standby })).cfg .A ({ · with state := .checking }), .A, by decide +kernel⟩,
    ⟨base.cfg .A ({ · with state := .checking }), .A, by decide +kernel⟩,
    ⟨base.cfg .A ({ · with state := .checking, mirrorWait := true }), .A, by decide +kernel⟩,
    ⟨base.cfg .A ({ · with state := .checking, mirrorWait := true }), .A, by decide +kernel⟩⟩

/-- The premises of ApplyRunsToTheInstant are met, clause by clause. -/
theorem meets_ApplyRunsToTheInstant :
    (∃ (s : State) (l : LaneId), (s.m.lane l).cfg.state = .armed ∧ (s.m.lane l).cfg.confirmSent = false ∧
         (s.m.lane l).cfg.applySent = []) ∧
    (∃ (s : State) (l : LaneId), (s.m.lane l).cfg.state = .armed ∧ (s.m.lane l).cfg.confirmSent = false ∧
         (s.m.lane l).cfg.applySent ≠ []) ∧
    (∃ (s : State) (l : LaneId), ∃ d at_ rest, d < 2 ∧
         s.m.mail = { src := l.num, dst := 2 + d, msg := .apply (s.m.sd d).claim at_ } :: rest ∧
         (2 + d) ∈ (s.m.lane l).cfg.staged) ∧
    (∃ (s : State) (l : LaneId), ∃ d at_ rest, d < 4 ∧
         s.m.mail = { src := l.num, dst := 4 + d, msg := .apply (s.m.fd d).claim at_ } :: rest ∧
         (4 + d) ∈ (s.m.lane l).cfg.staged) ∧
    (∃ (s : State) (l : LaneId), (s.m.lane l).cfg.state = .armed ∧ (s.m.lane l).cfg.confirmSent = false ∧
         (s.m.lane l).cfg.applySent ≠ [] ∧ (∀ d, d ∈ (s.m.lane l).cfg.applySent → d ∈ (s.m.lane l).cfg.staged ∧
         d ∈ (s.m.lane l).cfg.acked)) ∧
    (∃ (s : State) (l : LaneId), ∃ d, (s.m.lane l).cfg.state = .armed ∧ (s.m.lane l).cfg.confirmSent = false ∧
         (s.m.lane l).cfg.applySent ≠ [] ∧ d ∈ (s.m.lane l).cfg.applySent ∧ d ∉ (s.m.lane l).cfg.acked) ∧
    (∃ (s : State) (l : LaneId), ∃ d, let sent := (if (s.m.lane l).cfg.applySent = [] then s.m.applyDies l else (s.m.lane l).cfg.applySent); (s.m.lane l).cfg.state = .armed ∧
         (s.m.lane l).cfg.confirmSent = false ∧ (s.m.lane l).cfg.laggard sent = some d) ∧
    (∃ (s : State) (l : LaneId), let sent := (if (s.m.lane l).cfg.applySent = [] then s.m.applyDies l else (s.m.lane l).cfg.applySent); (s.m.lane l).cfg.state = .armed ∧
         (s.m.lane l).cfg.confirmSent = false ∧ (s.m.lane l).cfg.laggard sent = none) ∧
    (∃ (s : State) (l : LaneId), ∃ d rest, d < 2 ∧
         s.m.mail = { src := l.num, dst := 2 + d, msg := .cancel (s.m.sd d).claim } :: rest) ∧
    (∃ (s : State) (l : LaneId), ∃ d at_ rest, d < 2 ∧
         s.m.mail = { src := l.num, dst := 2 + d, msg := .confirm (s.m.sd d).claim } :: rest ∧
         (s.m.sd d).applyAt = some at_) ∧
    (∃ (s : State) (l : LaneId), ∃ d rest, d < 4 ∧
         s.m.mail = { src := l.num, dst := 4 + d, msg := .cancel (s.m.fd d).claim } :: rest) ∧
    (∃ (s : State) (l : LaneId), ∃ d at_ rest, d < 4 ∧
         s.m.mail = { src := l.num, dst := 4 + d, msg := .confirm (s.m.fd d).claim } :: rest ∧
         (s.m.fd d).applyAt = some at_) ∧
    (∃ (s : State), ∃ d at_ c, d < 2 ∧ d < s.m.sds.length ∧ (s.m.sd d).applyAt = some at_ ∧
         (s.m.sd d).confirmed = true ∧ (s.m.sd d).shadow = some c) ∧
    (∃ (s : State), ∃ d at_, d < 4 ∧ (s.m.fd d).applyAt = some at_ ∧ (s.m.fd d).confirmed = true) ∧
    (∃ (s : State), ∃ d at_, d < 8 ∧ s.m.dieApplyAt d = some at_ ∧ s.m.dieConfirmed d = false) ∧
    (∃ (s : State) (l : LaneId), ∃ new, (s.m.lane l).cfg.state = .armed ∧ (s.m.lane l).cfg.confirmSent = true ∧
         (s.m.lane l).cfg.candidate = some new) :=
  ⟨⟨base.cfg .A ({ · with state := .armed, applyInstant := 10000000, confirmSent := false, applySent := [] }), .A,
       by decide +kernel⟩,
    ⟨base.cfg .A ({ · with state := .armed, applyInstant := 10000000, confirmSent := false, applySent := [0, 2, 5], staged := [0, 2, 5] }),
         .A, by decide +kernel⟩,
    ⟨(base.cfg .A ({ · with state := .armed, applyInstant := 10000000, staged := [3, 5], applySent := [3] })).post 0 3 (.apply (base.m.sd 1).claim 77),
         .A, 1, 77, ((base.cfg .A ({ · with state := .armed, applyInstant := 10000000, staged := [3, 5], applySent := [3] })).post 0 3 (.apply (base.m.sd 1).claim 77)).m.mail.tail,
         by decide +kernel⟩,
    ⟨(base.cfg .A ({ · with state := .armed, applyInstant := 10000000, staged := [4, 5], applySent := [4] })).post 0 4 (.apply (base.m.fd 0).claim 77),
         .A, 0, 77, ((base.cfg .A ({ · with state := .armed, applyInstant := 10000000, staged := [4, 5], applySent := [4] })).post 0 4 (.apply (base.m.fd 0).claim 77)).m.mail.tail,
         by decide +kernel⟩,
    ⟨base.cfg .A ({ · with state := .armed, confirmSent := false, applySent := [0, 4], staged := [0, 4, 5], acked := [4, 0] }),
         .A, by decide +kernel⟩,
    ⟨base.cfg .A ({ · with state := .armed, confirmSent := false, applySent := [0, 4], staged := [0, 4, 5], acked := [0] }),
         .A, 4, by decide +kernel⟩,
    ⟨base.cfg .A ({ · with state := .armed, confirmSent := false, applySent := [0, 4], staged := [0, 4, 5], acked := [0] }),
         .A, 4, by dsimp only; decide +kernel⟩,
    ⟨base.cfg .A ({ · with state := .armed, applyInstant := 5000000, confirmSent := false, applySent := [0, 4], staged := [0, 4, 5], acked := [0, 4] }),
         .A, by dsimp only; decide +kernel⟩,
    ⟨base.post 0 3 (.cancel (base.m.sd 1).claim), .A, 1, (base.post 0 3 (.cancel (base.m.sd 1).claim)).m.mail.tail,
         by decide +kernel⟩,
    ⟨(base.sl 1 ({ · with applyAt := some 8 })).post 0 3 (.confirm (base.m.sd 1).claim), .A, 1, 8,
         ((base.sl 1 ({ · with applyAt := some 8 })).post 0 3 (.confirm (base.m.sd 1).claim)).m.mail.tail,
         by decide +kernel⟩,
    ⟨base.post 0 7 (.cancel (base.m.fd 3).claim), .A, 3, (base.post 0 7 (.cancel (base.m.fd 3).claim)).m.mail.tail,
         by decide +kernel⟩,
    ⟨(base.fl 3 ({ · with applyAt := some 8 })).post 0 7 (.confirm (base.m.fd 3).claim), .A, 3, 8,
         ((base.fl 3 ({ · with applyAt := some 8 })).post 0 7 (.confirm (base.m.fd 3).claim)).m.mail.tail,
         by decide +kernel⟩,
    ⟨base.sl 1 ({ · with applyAt := some 8, confirmed := true, shadow := some image, shadowCounter := 6 }), 1, 8,
         image, by decide +kernel⟩,
    ⟨base.fl 3 ({ · with applyAt := some 8, confirmed := true, shadow := some image, shadowCounter := 6 }), 3, 8,
         by decide +kernel⟩,
    ⟨base.fl 3 ({ · with applyAt := some 8, confirmed := false }), 7, 8, by decide +kernel⟩,
    ⟨base.cfg .A ({ · with state := .armed, confirmSent := true, candidate := some { image with counter := 6 }, applyInstant := 2000000 }),
         .A, { image with counter := 6 }, by decide +kernel⟩⟩

/-- The premises of HeartbeatsGuardTheDies are met, clause by clause. -/
theorem meets_HeartbeatsGuardTheDies :
    (∃ (s : State) (l : LaneId), (s.m.lane l).red.holds = true ∧ (s.m.lane l).red.releaseAt = none) ∧
    (∃ (s : State) (l : LaneId) (d : Nat), ∃ k q tb off slot st mac rest,
         mac = heartbeatMac (s.m.fd d).kHb (s.m.fd d).claim k q tb off slot st ∧ s.m.mail = ⟨l.num, 4 + d,
         .heartbeat (s.m.fd d).claim k q tb off slot st mac⟩ :: rest ∧ s.m.fdReach l d = true ∧
         claimLane (s.m.fd d).claim = l ∧ (s.m.fd d).applyAt = none) ∧
    (∃ (s : State) (l : LaneId) (d : Nat), ∃ k q tb off slot st mac rest,
         mac = heartbeatMac (s.m.fd d).kHb (s.m.fd d).claim k q tb off slot st ∧ s.m.mail = ⟨l.num, 4 + d,
         .heartbeat (s.m.fd d).claim k q tb off slot st mac⟩ :: rest ∧ s.m.fdReach l d = true ∧
         claimLane (s.m.fd d).claim = l) ∧
    (∃ (s : State) (l : LaneId) (d : Nat), ∃ c k q tb off slot st mac rest,
         s.m.mail = { src := l.num, dst := 4 + d, msg := .heartbeat c k q tb off slot st mac } :: rest ∧
         (c ≠ (s.m.fd d).claim ∨ mac ≠ heartbeatMac (s.m.fd d).kHb c k q tb off slot st)) ∧
    (∃ (s : State) (d : Nat), s.m.fdUp d = true ∧ (s.m.fd d).vacant = false ∧ s.m.variant.nLane = 2) ∧
    (∃ (s : State) (d : Nat), s.m.fdUp d = true ∧ (s.m.fd d).bank.isSome = true ∧ (s.m.fd d).tSafeDone = false) ∧
    (∃ (s : State) (l : LaneId) (d : Nat), ∃ rest,
         s.m.mail = { src := l.num, dst := 4 + d, msg := .release (s.m.fd d).claim } :: rest ∧
         s.m.fdReach l d = true ∧ claimLane (s.m.fd d).claim = l) :=
  ⟨⟨base, .A, by decide +kernel⟩,
    ⟨(base.fl 1 ({ · with applyAt := none, tbValid := false })).post 0 5 (.heartbeat (base.m.fd 1).claim 5 6 7 8 0 1 (heartbeatMac (base.m.fd 1).kHb (base.m.fd 1).claim 5 6 7 8 0 1)),
         .A, 1, 5, 6, 7, 8, 0, 1, heartbeatMac (((base.fl 1 ({ · with applyAt := none, tbValid := false })).post 0 5 (.heartbeat (base.m.fd 1).claim 5 6 7 8 0 1 (heartbeatMac (base.m.fd 1).kHb (base.m.fd 1).claim 5 6 7 8 0 1))).m.fd 1).kHb (((base.fl 1 ({ · with applyAt := none, tbValid := false })).post 0 5 (.heartbeat (base.m.fd 1).claim 5 6 7 8 0 1 (heartbeatMac (base.m.fd 1).kHb (base.m.fd 1).claim 5 6 7 8 0 1))).m.fd 1).claim 5 6 7 8 0 1,
         ((base.fl 1 ({ · with applyAt := none, tbValid := false })).post 0 5 (.heartbeat (base.m.fd 1).claim 5 6 7 8 0 1 (heartbeatMac (base.m.fd 1).kHb (base.m.fd 1).claim 5 6 7 8 0 1))).m.mail.tail,
         ⟨rfl, rfl, by decide +kernel, by decide +kernel, by decide +kernel⟩⟩,
    ⟨base.post 0 7 (.heartbeat (base.m.fd 3).claim 5 6 7 8 0 1 (heartbeatMac (base.m.fd 3).kHb (base.m.fd 3).claim 5 6 7 8 0 1)),
         .A, 3, 5, 6, 7, 8, 0, 1, heartbeatMac ((base.post 0 7 (.heartbeat (base.m.fd 3).claim 5 6 7 8 0 1 (heartbeatMac (base.m.fd 3).kHb (base.m.fd 3).claim 5 6 7 8 0 1))).m.fd 3).kHb ((base.post 0 7 (.heartbeat (base.m.fd 3).claim 5 6 7 8 0 1 (heartbeatMac (base.m.fd 3).kHb (base.m.fd 3).claim 5 6 7 8 0 1))).m.fd 3).claim 5 6 7 8 0 1,
         (base.post 0 7 (.heartbeat (base.m.fd 3).claim 5 6 7 8 0 1 (heartbeatMac (base.m.fd 3).kHb (base.m.fd 3).claim 5 6 7 8 0 1))).m.mail.tail,
         ⟨rfl, rfl, by decide +kernel, by decide +kernel⟩⟩,
    ⟨base.post 0 5 (.heartbeat 99 5 6 7 8 0 1 []), .A, 1, 99, 5, 6, 7, 8, 0, 1, ([] : Bytes),
         (base.post 0 5 (.heartbeat 99 5 6 7 8 0 1 [])).m.mail.tail, ⟨rfl, by decide +kernel⟩⟩,
    ⟨base, 3, by decide +kernel⟩,
    ⟨base, 3, by decide +kernel⟩,
    ⟨base.post 0 7 (.release (base.m.fd 3).claim), .A, 3,
         (base.post 0 7 (.release (base.m.fd 3).claim)).m.mail.tail, by decide +kernel⟩⟩

/-- The premises of ClaimsAreDecidedByEvidence are met, clause by clause. -/
theorem meets_ClaimsAreDecidedByEvidence :
    (∃ (s : State) (l : LaneId) (d : Nat), ∃ c rest,
         s.m.mail = { src := l.num, dst := 4 + d, msg := .claimRequest c } :: rest ∧ s.m.fdReach l d = true) ∧
    (∃ (s : State) (l : LaneId) (d : Nat), ∃ c ev rest,
         s.m.mail = { src := l.num, dst := 4 + d, msg := .claimRaise c ev } :: rest ∧ s.m.fdReach l d = true ∧
         claimLane c = l ∧ raiseAccepted s.m.variant.quorum (s.m.fd d).claim (s.m.fd d).kTok ((s.m.fd d).tb s.m.now).toNat c ev = true) ∧
    (∃ (s : State) (l : LaneId) (d : Nat), ∃ c ev rest,
         s.m.mail = { src := l.num, dst := 4 + d, msg := .claimRaise c ev } :: rest ∧ s.m.fdReach l d = true ∧
         raiseAccepted s.m.variant.quorum (s.m.fd d).claim (s.m.fd d).kTok ((s.m.fd d).tb s.m.now).toNat c ev = false) ∧
    (∃ (s : State) (l : LaneId) (d : Nat), ∃ c ev rest, d < 2 ∧
         s.m.mail = { src := l.num, dst := 2 + d, msg := .claimRaise c ev } :: rest ∧ s.m.sdReach l d = true ∧
         claimLane c = l ∧ raiseAccepted s.m.variant.quorum (s.m.sd d).claim (s.m.sd d).kTok s.m.now c ev = true) ∧
    (∃ (s : State) (l : LaneId) (d : Nat), ∃ c ev rest, d < 2 ∧
         s.m.mail = { src := l.num, dst := 2 + d, msg := .claimRaise c ev } :: rest ∧ s.m.sdReach l d = true ∧
         (claimLane c ≠ l ∨ raiseAccepted s.m.variant.quorum (s.m.sd d).claim (s.m.sd d).kTok s.m.now c ev = false)) ∧
    (∃ (s : State) (l : LaneId) (e : Exchange), (s.m.lane l).red.exch = some e ∧ e.raised = false ∧
         (s.m.lane l).sys.phase ≠ .waking ∧
         max s.m.now (e.requestAt + 1000000) ≤ e.openedAt + (s.m.lane l).tVacantNs + 50000000) ∧
    (∃ (s : State) (l : LaneId) (e : Exchange), ∃ d r rest, (s.m.lane l).red.exch = some e ∧
         s.m.mail = { src := 4 + d, dst := l.num, msg := .claimReply r } :: rest ∧ s.m.fdReach l d = true ∧
         e.raised = false ∧ (s.m.lane l).sys.phase ≠ .waking ∧ r.mac = r.macBy keyTok ∧ r.proposed = e.proposed ∧
         claimEpoch r.claim < claimEpoch e.proposed ∧ e.why ≠ .join ∧
         (((e.replies.filter (·.die != r.die) ++ [r]).filter (·.evidence e.proposed)).map fun x => x.die - 4).dedup.length < s.m.variant.quorum) ∧
    (∃ (s : State) (l : LaneId) (e : Exchange), ∃ d r rest, (s.m.lane l).red.exch = some e ∧
         s.m.mail = { src := 4 + d, dst := l.num, msg := .claimReply r } :: rest ∧ s.m.fdReach l d = true ∧
         (s.m.lane l).sys.phase ≠ .waking ∧ r.mac = r.macBy keyTok ∧ r.proposed = e.proposed ∧ e.raised = true) ∧
    (∃ (s : State) (l : LaneId) (e : Exchange), ∃ d r rest, (s.m.lane l).red.exch = some e ∧
         s.m.mail = { src := 4 + d, dst := l.num, msg := .claimReply r } :: rest ∧ s.m.fdReach l d = true ∧
         (s.m.lane l).sys.phase ≠ .waking ∧ r.mac = r.macBy keyTok ∧ r.proposed = e.proposed ∧ e.raised = false ∧
         e.why ≠ .join ∧ r.result ≠ 1 ∧ claimEpoch e.proposed ≤ claimEpoch r.claim) ∧
    (∃ (s : State) (l : LaneId) (e : Exchange), ∃ d r rest,
         let kept : Exchange := ({ e with replies := e.replies.filter (·.die != r.die) ++ [r] });
         let ev := ((kept.replies.filter (·.evidence e.proposed)).map fun x => x.die - 4);
         (s.m.lane l).red.exch = some e ∧ s.m.mail = { src := 4 + d, dst := l.num, msg := .claimReply r } :: rest ∧
         s.m.fdReach l d = true ∧ (s.m.lane l).sys.phase ≠ .waking ∧ r.mac = r.macBy keyTok ∧
         r.proposed = e.proposed ∧ e.raised = false ∧ e.why ≠ .join ∧
         (r.result = 1 ∨ claimEpoch r.claim < claimEpoch e.proposed) ∧ s.m.variant.quorum ≤ ev.dedup.length) ∧
    (∃ (s : State) (l : LaneId) (e : Exchange), (s.m.lane l).red.exch = some e ∧ (s.m.lane l).sys.phase ≠ .waking ∧
         ¬(e.raised = true ∧ s.m.variant.quorum ≤ e.latched.length) ∧ e.why = .join) ∧
    (∃ (s : State) (l : LaneId) (e : Exchange), (s.m.lane l).red.exch = some e ∧ (s.m.lane l).sys.phase ≠ .waking ∧
         ¬(e.raised = true ∧ s.m.variant.quorum ≤ e.latched.length) ∧ e.why ≠ .join) ∧
    (∃ (s : State) (l : LaneId) (e : Exchange), (s.m.lane l).red.exch = some e ∧ e.why = .takeover ∧
         e.raised = false ∧ (s.m.lane l).sys.phase ≠ .waking ∧ (s.m.lane l).sys.mode ≠ .resync) ∧
    (∃ (s : State) (l : LaneId) (e : Exchange), (s.m.lane l).red.exch = some e ∧ e.raised = true ∧ e.why ≠ .join ∧
         s.m.variant.quorum ≤ (e.latched ++ (takeAcks l e.proposed s.m.mail).1).dedup.length) ∧
    (∃ (s : State) (l : LaneId) (e : Exchange), (s.m.lane l).red.exch = some e ∧ e.raised = true ∧ e.why = .join) ∧
    (∃ (s : State) (l : LaneId) (e : Exchange), (s.m.lane l).red.exch = some e ∧ e.raised = true ∧ e.why ≠ .join ∧
         (e.latched ++ (takeAcks l e.proposed s.m.mail).1).dedup.length < s.m.variant.quorum) :=
  ⟨⟨base.post 0 7 (.claimRequest 8), .A, 3, 8, (base.post 0 7 (.claimRequest 8)).m.mail.tail, by decide +kernel⟩,
    ⟨((base.fl 3 ({ · with claim := 2, vacant := true })).post 0 7 (.claimRaise (mkClaim 4 .A) ((List.range 3).map fun i => let r : ClaimReply := { die := 4 + i, claim := 2, proposed := mkClaim 4 .A, replyTb := base.m.now / 1000 }; { r with mac := r.macBy (base.m.fd 3).kTok }))),
         .A, 3, mkClaim 4 .A, ((List.range 3).map fun i => let r : ClaimReply := { die := 4 + i, claim := 2, proposed := mkClaim 4 .A, replyTb := ((base.fl 3 ({ · with claim := 2, vacant := true })).post 0 7 (.claimRaise (mkClaim 4 .A) ((List.range 3).map fun i => let r : ClaimReply := { die := 4 + i, claim := 2, proposed := mkClaim 4 .A, replyTb := base.m.now / 1000 }; { r with mac := r.macBy (base.m.fd 3).kTok }))).m.now / 1000 }; { r with mac := r.macBy (((base.fl 3 ({ · with claim := 2, vacant := true })).post 0 7 (.claimRaise (mkClaim 4 .A) ((List.range 3).map fun i => let r : ClaimReply := { die := 4 + i, claim := 2, proposed := mkClaim 4 .A, replyTb := base.m.now / 1000 }; { r with mac := r.macBy (base.m.fd 3).kTok }))).m.fd 3).kTok }),
         (((base.fl 3 ({ · with claim := 2, vacant := true })).post 0 7 (.claimRaise (mkClaim 4 .A) ((List.range 3).map fun i => let r : ClaimReply := { die := 4 + i, claim := 2, proposed := mkClaim 4 .A, replyTb := base.m.now / 1000 }; { r with mac := r.macBy (base.m.fd 3).kTok }))).m.mail.tail),
         by decide +kernel⟩,
    ⟨base.post 0 7 (.claimRaise 8 []), .A, 3, 8, ([] : List ClaimReply),
         (base.post 0 7 (.claimRaise 8 [])).m.mail.tail, by decide +kernel⟩,
    ⟨base.sl 1 ({ · with claim := 2 }) |>.post 0 3 (.claimRaise (mkClaim 4 .A) (evidenceFor keyTok 2 (mkClaim 4 .A) base.m.now)),
         .A, 1, mkClaim 4 .A, evidenceFor keyTok 2 (mkClaim 4 .A) 1000000,
         (base.sl 1 ({ · with claim := 2 }) |>.post 0 3 (.claimRaise (mkClaim 4 .A) (evidenceFor keyTok 2 (mkClaim 4 .A) base.m.now))).m.mail.tail,
         by decide +kernel, rfl, by decide +kernel, by decide +kernel, evidenceFor_accepted keyTok⟩,
    ⟨base.post 0 3 (.claimRaise 8 []), .A, 1, 8, ([] : List ClaimReply),
         (base.post 0 3 (.claimRaise 8 [])).m.mail.tail, by decide +kernel⟩,
    ⟨base.red .A ({ · with exch := some { proposed := 8, requestAt := 5 } }), .A, { proposed := 8, requestAt := 5 },
         by decide +kernel⟩,
    ⟨(base.red .A ({ · with exch := some { proposed := 8, requestAt := 5 } })).post 7 0 (.claimReply { die := 7, claim := 2, proposed := 8, mac := ({ die := 7, claim := 2, proposed := 8 } : ClaimReply).macBy keyTok }),
         .A, { proposed := 8, requestAt := 5 }, 3,
         ({ die := 7, claim := 2, proposed := 8, mac := ({ die := 7, claim := 2, proposed := 8 } : ClaimReply).macBy keyTok } : ClaimReply),
         ((base.red .A ({ · with exch := some { proposed := 8, requestAt := 5 } })).post 7 0 (.claimReply { die := 7, claim := 2, proposed := 8, mac := ({ die := 7, claim := 2, proposed := 8 } : ClaimReply).macBy keyTok })).m.mail.tail,
         ⟨by decide +kernel, rfl, by decide +kernel, by decide +kernel, by decide +kernel, rfl, by decide +kernel,
         by decide +kernel, by decide +kernel, by decide +kernel⟩⟩,
    ⟨(base.red .A ({ · with exch := some { proposed := 8, requestAt := 5, raised := true } })).post 7 0 (.claimReply { die := 7, claim := 2, proposed := 8, mac := ({ die := 7, claim := 2, proposed := 8 } : ClaimReply).macBy keyTok }),
         .A, { proposed := 8, requestAt := 5, raised := true }, 3,
         ({ die := 7, claim := 2, proposed := 8, mac := ({ die := 7, claim := 2, proposed := 8 } : ClaimReply).macBy keyTok } : ClaimReply),
         ((base.red .A ({ · with exch := some { proposed := 8, requestAt := 5, raised := true } })).post 7 0 (.claimReply { die := 7, claim := 2, proposed := 8, mac := ({ die := 7, claim := 2, proposed := 8 } : ClaimReply).macBy keyTok })).m.mail.tail,
         ⟨by decide +kernel, rfl, by decide +kernel, by decide +kernel, rfl, by decide +kernel, by decide +kernel⟩⟩,
    ⟨(base.red .A ({ · with exch := some { why := .start, proposed := 8, requestAt := 5 } })).post 7 0 (.claimReply { die := 7, claim := 9, result := 2, proposed := 8, mac := ({ die := 7, claim := 9, result := 2, proposed := 8 } : ClaimReply).macBy keyTok }),
         .A, { why := .start, proposed := 8, requestAt := 5 }, 3,
         ({ die := 7, claim := 9, result := 2, proposed := 8, mac := ({ die := 7, claim := 9, result := 2, proposed := 8 } : ClaimReply).macBy keyTok } : ClaimReply),
         ((base.red .A ({ · with exch := some { why := .start, proposed := 8, requestAt := 5 } })).post 7 0 (.claimReply { die := 7, claim := 9, result := 2, proposed := 8, mac := ({ die := 7, claim := 9, result := 2, proposed := 8 } : ClaimReply).macBy keyTok })).m.mail.tail,
         ⟨by decide +kernel, rfl, by decide +kernel, by decide +kernel, rfl, by decide +kernel, by decide +kernel,
         by decide +kernel, by decide +kernel, by decide +kernel⟩⟩,
    ⟨(base.red .A ({ · with exch := some { why := .start, proposed := 8, requestAt := 5, replies := [{ die := 4, claim := 2, proposed := 8 }, { die := 5, claim := 2, proposed := 8 }] } })).post 7 0 (.claimReply { die := 7, claim := 2, proposed := 8, mac := ({ die := 7, claim := 2, proposed := 8 } : ClaimReply).macBy keyTok }),
         .A, { why := .start, proposed := 8, requestAt := 5, replies := [{ die := 4, claim := 2, proposed := 8 }, { die := 5, claim := 2, proposed := 8 }] },
         3, ({ die := 7, claim := 2, proposed := 8, mac := ({ die := 7, claim := 2, proposed := 8 } : ClaimReply).macBy keyTok } : ClaimReply),
         ((base.red .A ({ · with exch := some { why := .start, proposed := 8, requestAt := 5, replies := [{ die := 4, claim := 2, proposed := 8 }, { die := 5, claim := 2, proposed := 8 }] } })).post 7 0 (.claimReply { die := 7, claim := 2, proposed := 8, mac := ({ die := 7, claim := 2, proposed := 8 } : ClaimReply).macBy keyTok })).m.mail.tail,
         ⟨by decide +kernel, rfl, by decide +kernel, by decide +kernel, rfl, by decide +kernel, by decide +kernel,
         by decide +kernel, by decide +kernel, by decide +kernel⟩⟩,
    ⟨base.red .A ({ · with exch := some { why := .join, proposed := 8, openedAt := 5 } }), .A,
         { why := .join, proposed := 8, openedAt := 5 }, by decide +kernel⟩,
    ⟨(base.red .A ({ · with exch := some { why := .takeover, proposed := 8, openedAt := 5 } })).sys .A ({ · with phase := .exchange }),
         .A, { why := .takeover, proposed := 8, openedAt := 5 }, by decide +kernel⟩,
    ⟨(base.red .A ({ · with exch := some { why := .takeover, proposed := 8, requestAt := 5 } })).sys .A ({ · with phase := .exchange }),
         .A, { why := .takeover, proposed := 8, requestAt := 5 }, by decide +kernel⟩,
    ⟨(base.red .A ({ · with holds := false, exch := some { why := .takeover, proposed := mkClaim 4 .A, raised := true, latched := [0, 1, 2] } })).post 7 0 (.claimAck (mkClaim 4 .A)),
         .A, { why := .takeover, proposed := mkClaim 4 .A, raised := true, latched := [0, 1, 2] }, by decide +kernel⟩,
    ⟨(base.red .A ({ · with exch := some { why := .join, proposed := mkClaim 4 .A, raised := true } })).post 7 0 (.claimAck (mkClaim 4 .A)),
         .A, { why := .join, proposed := mkClaim 4 .A, raised := true }, by decide +kernel⟩,
    ⟨(base.red .A ({ · with holds := false, exch := some { why := .takeover, proposed := mkClaim 4 .A, raised := true, latched := [] } })).post 7 0 (.claimAck (mkClaim 4 .A)),
         .A, { why := .takeover, proposed := mkClaim 4 .A, raised := true, latched := [] }, by decide +kernel⟩⟩

/-- The premises of LossOfALaneActs are met, clause by clause. -/
theorem meets_LossOfALaneActs :
    (∃ (s : State) (l : LaneId), s.m.variant = .nfj8 ∧ s.m.supplyGood = true ∧ (s.m.lane l).red.wireArmed = true ∧
         (s.m.lane l).sys.mode = .standby ∧ (s.m.lane l).sys.phase = .up ∧ (s.m.lane l).sys.failed = false ∧
         (s.m.lane l).sys.holdupOk = true) ∧
    (∃ (s : State) (l : LaneId), s.m.variant = .nfj8 ∧ s.m.supplyGood = true ∧ (s.m.lane l).red.patArmed = true ∧
         (s.m.lane l).sys.mode = .standby ∧ (s.m.lane l).sys.phase = .up ∧ (s.m.lane l).sys.failed = false ∧
         (s.m.lane l).sys.holdupOk = true ∧ s.m.variant.quorum ≤ (s.m.patterns l).length) ∧
    (∃ (s : State) (l : LaneId), s.m.variant.nLane = 2 ∧ s.m.supplyGood = true ∧ (s.m.lane l).wakeable = true ∧
         (s.m.lane l).red.wireArmed = true) ∧
    (∃ (s : State) (l : LaneId), s.m.variant.nLane = 2 ∧ s.m.supplyGood = true ∧ (s.m.lane l).wakeable = true ∧
         (s.m.lane l).red.patArmed = true ∧ s.m.variant.quorum ≤ (s.m.patterns l).length) ∧
    (∃ (s : State) (l : LaneId), ∃ a, s.m.variant.nLane = 2 ∧ (s.m.lane l).red.patArmed = true ∧
         (s.m.lane l).red.wireSince = some a ∧
         max s.m.now (a + 100000000) < (s.m.lane l.other).red.wireAt + 3000000) ∧
    (∃ (s : State) (l : LaneId), ∃ e, (s.m.lane l).sys.phase = .waking ∧ (s.m.lane l).red.exch = some e ∧
         e.second = true) ∧
    (∃ (s : State) (l : LaneId), (s.m.lane l).red.holds = true ∧ s.m.variant.nLane = 2) ∧
    (∃ (s : State) (l : LaneId), ∃ e, (s.m.lane l).sys.phase = .waking ∧ (s.m.lane l).red.exch = some e ∧
         e.second = false) ∧
    (∃ (s : State) (l : LaneId), (s.m.lane l).red.holds = true ∧ s.m.variant.nLane = 2 ∧ s.m.frozen l = false) ∧
    (∃ (s : State) (l : LaneId), ∃ d f rest, s.m.mail = { src := 4 + d, dst := l.num, msg := .frame f } :: rest ∧
         (s.m.lane l).red.holds = true ∧ s.m.fdReach l d = true ∧ f.claim ≤ (s.m.lane l).red.claim) ∧
    (∃ (s : State) (l : LaneId), ∃ d f rest, s.m.mail = { src := 4 + d, dst := l.num, msg := .frame f } :: rest ∧
         (s.m.lane l).red.holds = true ∧ s.m.fdReach l d = true ∧ (s.m.lane l).red.claim < f.claim) :=
  ⟨⟨((base.sys .A ({ · with mode := .standby })).red .A ({ · with holds := false, wireArmed := true })).red .B ({ · with holds := true }),
       .A, by decide +kernel⟩,
    ⟨(((((base.sys .A ({ · with mode := .standby })).red .A ({ · with holds := false, patArmed := true })).red .B ({ · with holds := true }))).md fun m => { m with fds := m.fds.map ({ · with vacant := true, claim := mkClaim 1 .B }) }),
         .A, by decide +kernel⟩,
    ⟨((base.sys .A ({ · with mode := .standby })).red .A ({ · with holds := false, wireArmed := true })).red .B ({ · with holds := true }),
         .A, by decide +kernel⟩,
    ⟨(((((base.sys .A ({ · with mode := .standby })).red .A ({ · with holds := false, patArmed := true })).red .B ({ · with holds := true }))).md fun m => { m with fds := m.fds.map ({ · with vacant := true, claim := mkClaim 1 .B }) }),
         .A, by decide +kernel⟩,
    ⟨(base.red .A ({ · with patArmed := true, wireSince := some 5 })).red .B ({ · with wireAt := 100000000 }), .A,
         5, by decide +kernel⟩,
    ⟨((base.sys .A ({ · with phase := .waking, mode := .standby })).red .A ({ · with holds := false, exch := some { why := .takeover, second := true } })).red .B ({ · with holds := true }),
         .A, { why := .takeover, second := true }, by decide +kernel⟩,
    ⟨base, .A, by decide +kernel⟩,
    ⟨((base.sys .A ({ · with phase := .waking, mode := .standby })).red .A ({ · with holds := false, exch := some { why := .takeover } })).red .B ({ · with holds := true }),
         .A, { why := .takeover }, by decide +kernel⟩,
    ⟨base, .A, by decide +kernel⟩,
    ⟨base.post 7 0 (.frame { die := 3, claim := (base.m.lane .A).red.claim, tick := 100 }), .A, 3,
         { die := 3, claim := ((base.post 7 0 (.frame { die := 3, claim := (base.m.lane .A).red.claim, tick := 100 })).m.lane .A).red.claim, tick := 100 },
         (base.post 7 0 (.frame { die := 3, claim := (base.m.lane .A).red.claim, tick := 100 })).m.mail.tail,
         by decide +kernel⟩,
    ⟨base.post 7 0 (.frame { die := 3, claim := 77 }), .A, 3, { die := 3, claim := 77 },
         (base.post 7 0 (.frame { die := 3, claim := 77 })).m.mail.tail, by decide +kernel⟩⟩

/-- The premises of SwitchoverAndTakeAct are met, clause by clause. -/
theorem meets_SwitchoverAndTakeAct :
    (∃ (s : State) (l : LaneId) (v : View), Heard s l v ∧ s.m.variant = .nfj8 ∧ (s.m.lane l).red.ctrlState ≠ 1 ∧
         switchRefusal s.m l ≠ 0) ∧
    (∃ (s : State) (l : LaneId) (v : View), Heard s l v ∧ s.m.variant = .nfj8 ∧ (s.m.lane l).red.ctrlState ≠ 1 ∧
         switchRefusal s.m l = 0) ∧
    (∃ (s : State) (l : LaneId), ∃ at_, (s.m.lane l).red.switchAt = some at_ ∧ (s.m.lane l).red.ctrlState = 1 ∧
         (s.m.lane l).red.switchReady = false ∧ (s.m.lane l.other).red.prepare = true ∧
         s.m.peerAt l .standby = true ∧ s.m.now ≤ at_ + 250000000) ∧
    (∃ (s : State) (l : LaneId), ∃ at_, (s.m.lane l).red.switchAt = some at_ ∧ (s.m.lane l).red.ctrlState = 1 ∧
         (s.m.lane l).red.switchReady = false) ∧
    (∃ (s : State) (l : LaneId), ∃ at_, (s.m.lane l).red.releaseAt = some at_ ∧ (s.m.lane l).red.holds = true ∧
         (s.m.lane l).red.exch = none) ∧
    (∃ (s : State) (l : LaneId) (v : View), Heard s l v ∧ s.m.variant = .nfj8 ∧ (s.m.lane l).red.ctrlState ≠ 1 ∧
         (s.m.lane l).sys.mode ∈ [.standby, .resync] ∧ (s.m.lane l).sys.phase = .up ∧ s.m.peerCode l ≠ 1) ∧
    (∃ (s : State) (l : LaneId) (v : View), Heard s l v ∧ s.m.variant = .nfj8 ∧ (s.m.lane l).red.ctrlState ≠ 1 ∧
         (s.m.lane l).sys.mode ∈ [.standby, .resync] ∧ (s.m.lane l).sys.phase = .up ∧ s.m.peerCode l = 1) ∧
    (∃ (s : State) (l : LaneId) (v : View), Heard s l v ∧ s.m.variant = .nfj8 ∧ (s.m.lane l).red.ctrlState ≠ 1 ∧
         (s.m.lane l).sys.mode ∉ [.standby, .resync]) :=
  ⟨⟨base.md ({ · with laneLinks := [false, false] }), .A, .host, by decide +kernel⟩,
    ⟨base, .A, .host, by decide +kernel⟩,
    ⟨((base.red .A ({ · with switchAt := some 1000000, ctrlState := 1, switchReady := false })).red .B ({ · with prepare := true })),
         .A, 1000000, by decide +kernel⟩,
    ⟨((base.red .A ({ · with switchAt := some 1000000, ctrlState := 1, switchReady := false })).red .B ({ · with prepare := true })),
         .A, 1000000, by decide +kernel⟩,
    ⟨base.red .A ({ · with releaseAt := some 100 }), .A, 100, by decide +kernel⟩,
    ⟨((base.sys .A ({ · with mode := .standby })).red .A ({ · with holds := false })).red .B ({ · with holds := false }),
         .A, .fw, by decide +kernel⟩,
    ⟨(((base.sys .A ({ · with mode := .standby })).red .A ({ · with holds := false })).red .B ({ · with holds := true })).red .A ({ · with ctrlState := 0 }),
         .A, .fw, by decide +kernel⟩,
    ⟨base, .A, .host, by decide +kernel⟩⟩

/-- The premises of CheckpointsAndLinksAct are met, clause by clause. -/
theorem meets_CheckpointsAndLinksAct :
    (∃ (s : State) (l : LaneId), (s.m.lane l).red.holds = true ∧ (s.m.lane l).cfg.active.isSome = true ∧
         (s.m.lane l).red.releaseAt = none ∧ (s.m.lane l).sys.phase = .up ∧ (s.m.lane l).red.mirrorAt = none ∧
         (s.m.lane l).red.ckpt = none ∧ s.m.peerAt l .standby = true) ∧
    (∃ (s : State) (l : LaneId), let busy := ((s.m.lane l).red.mirrorAt.isSome = true ∨ (s.m.lane l).red.ckpt.isSome = true); (s.m.lane l).red.holds = true ∧
         s.m.variant.nLane = 2 ∧ (s.m.lane l).cfg.active.isSome = true ∧ (s.m.lane l).red.releaseAt = none ∧
         (s.m.lane l).sys.phase = .up ∧ busy) ∧
    (∃ (s : State) (l : LaneId), let busy := ((s.m.lane l).red.mirrorAt.isSome = true ∨ (s.m.lane l).red.ckpt.isSome = true); (s.m.lane l).red.holds = true ∧
         s.m.variant.nLane = 2 ∧ (s.m.lane l).cfg.active.isSome = true ∧ (s.m.lane l).red.releaseAt = none ∧
         (s.m.lane l).sys.phase = .up ∧ ¬busy ∧ s.m.backed l = false) ∧
    (∃ (s : State) (l : LaneId), let busy := ((s.m.lane l).red.mirrorAt.isSome = true ∨ (s.m.lane l).red.ckpt.isSome = true); (s.m.lane l).red.holds = true ∧
         s.m.variant.nLane = 2 ∧ (s.m.lane l).cfg.active.isSome = true ∧ (s.m.lane l).red.releaseAt = none ∧
         (s.m.lane l).sys.phase = .up ∧ ¬busy ∧ s.m.backed l = true ∧ s.m.peerAt l .standby = false) ∧
    (∃ (s : State) (l : LaneId), ∃ at_ c, (s.m.lane l).red.mirrorAt = some at_ ∧ (s.m.lane l).red.ckpt = some c ∧
         (s.m.lane l).red.holds = true ∧ (s.m.lane l).red.ckptWait = [] ∧ s.m.peerAt l .standby = false) ∧
    (∃ (s : State) (l : LaneId), ∃ at_ c, (s.m.lane l).red.mirrorAt = some at_ ∧ (s.m.lane l).red.ckpt = some c ∧
         (s.m.lane l).red.holds = true ∧ (s.m.lane l).red.ckptWait = [] ∧ s.m.peerAt l .standby = true ∧
         (s.m.lane l).red.mirrorDone = some false) ∧
    (∃ (s : State) (l : LaneId), ∃ at_ c, (s.m.lane l).red.mirrorAt = some at_ ∧ (s.m.lane l).red.ckpt = some c ∧
         (s.m.lane l).red.holds = true ∧ (s.m.lane l).red.ckptWait = [] ∧ s.m.peerAt l .standby = true ∧
         (s.m.lane l).red.mirrorDone = some true ∧ (s.m.lane l).red.finalCkpt = true) ∧
    (∃ (s : State) (l : LaneId), ∃ c, s.m.peerAt l.other .standby = true ∧ (s.m.lane l.other).red.holds = true ∧
         (s.m.lane l.other).red.ckptWait = [] ∧ (s.m.lane l.other).red.mirrorDone = none ∧
         (s.m.lane l.other).red.ckpt = some c) ∧
    (∃ (s : State) (l : LaneId), ∃ at_ c, (s.m.lane l).red.mirrorAt = some at_ ∧ (s.m.lane l).red.ckpt = some c ∧
         (s.m.lane l).red.holds = true ∧ (s.m.lane l).red.ckptWait = [] ∧ s.m.peerAt l .standby = true ∧
         (s.m.lane l).red.mirrorDone = some true ∧ (s.m.lane l).red.finalCkpt = false) ∧
    (∃ (s : State) (l : LaneId), s.m.variant = .nfj8 ∧ (s.m.lane l).sys.mode = .resync ∧
         (s.m.lane l).sys.phase = .up ∧ s.m.laneLink = true ∧ (s.m.lane l).sys.failed = false ∧
         (s.m.lane l.other).red.holds = true ∧ (s.m.lane l.other).sys.phase = .up ∧
         (s.m.lane l.other).cfg.activeDigest = (s.m.lane l).cfg.activeDigest) ∧
    (∃ (s : State) (l : LaneId) (d : Nat), d < s.m.variant.nFd ∧ l ∈ s.m.laneList ∧ (s.m.lane l).sys.failed = false) ∧
    (∃ (s : State) (l : LaneId) (d : Nat), let behind := ((s.m.lane l).red.holds = true ∧
         (s.m.lane l).red.exch = none ∧ (s.m.lane l).red.releaseAt = none ∧ s.m.fdUp d = true ∧
         (s.m.fd d).claim < (s.m.lane l).red.claim); d < s.m.variant.nFd ∧ l ∈ s.m.laneList ∧
         (s.m.lane l).sys.failed = false ∧ ¬behind) ∧
    (∃ (s : State) (l : LaneId) (d : Nat), let behind := ((s.m.lane l).red.holds = true ∧
         (s.m.lane l).red.exch = none ∧ (s.m.lane l).red.releaseAt = none ∧ s.m.fdUp d = true ∧
         (s.m.fd d).claim < (s.m.lane l).red.claim); d < s.m.variant.nFd ∧ l ∈ s.m.laneList ∧
         (s.m.lane l).sys.failed = false ∧ behind) ∧
    (∃ (s : State) (l : LaneId) (d : Nat), ∃ up, let behind := (fun (m : Module) => up = true ∧
         (m.lane l).red.holds = true ∧ (m.lane l).red.exch = none ∧ (m.lane l).red.releaseAt = none ∧
         m.sdReach l d = true ∧ (m.sd d).claim < (m.lane l).red.claim); l ∈ s.m.laneList ∧
         (s.m.lane l).sys.failed = false ∧ ¬behind (solverLink l d up s.m.fresh)) ∧
    (∃ (s : State) (l : LaneId) (d : Nat), ∃ up, let behind := (fun (m : Module) => up = true ∧
         (m.lane l).red.holds = true ∧ (m.lane l).red.exch = none ∧ (m.lane l).red.releaseAt = none ∧
         m.sdReach l d = true ∧ (m.sd d).claim < (m.lane l).red.claim); l ∈ s.m.laneList ∧
         (s.m.lane l).sys.failed = false ∧ behind (solverLink l d up s.m.fresh)) ∧
    (∃ (s : State), ∃ link, link < 2 ∧ s.m.variant = .nfj8 ∧ s.m.laneA.sys.failed = false ∧
         s.m.laneB.sys.failed = false) ∧
    (∃ (s : State) (l : LaneId), l ∈ s.m.laneList ∧ at? s.m.islands l.num true = true) :=
  ⟨⟨base, .A, by decide +kernel⟩,
    ⟨base.red .A ({ · with mirrorAt := some 4, ckpt := some { seq := 7 } }), .A, by dsimp only; decide +kernel⟩,
    ⟨base.md ({ · with laneLinks := [false, false] }), .A, by dsimp only; decide +kernel⟩,
    ⟨base.sys .B ({ · with mode := .resync }), .A, by dsimp only; decide +kernel⟩,
    ⟨(base.red .A ({ · with mirrorAt := some 100, ckpt := some { seq := 4, captureTb := 5 }, ckptWait := [] })).md ({ · with laneLinks := [false, false] }),
         .A, 100, { seq := 4, captureTb := 5 }, by decide +kernel⟩,
    ⟨base.red .A ({ · with mirrorAt := some 100, ckpt := some { seq := 4, captureTb := 5 }, ckptWait := [], mirrorDone := some false }),
         .A, 100, { seq := 4, captureTb := 5 }, by decide +kernel⟩,
    ⟨base.red .A ({ · with mirrorAt := some 100, ckpt := some { seq := 4, captureTb := 5 }, ckptWait := [], mirrorDone := some true, finalCkpt := true }),
         .A, 100, { seq := 4, captureTb := 5 }, by decide +kernel⟩,
    ⟨((base.sys .A ({ · with mode := .standby })).red .A ({ · with holds := false })).red .B ({ · with holds := true, ckpt := some { seq := 4, captureTb := 5 } }),
         .A, { seq := 4, captureTb := 5 }, by decide +kernel⟩,
    ⟨base.red .A ({ · with mirrorAt := some 100, ckpt := some { seq := 4, captureTb := 5 }, mirrorDone := some true }),
         .A, 100, { seq := 4, captureTb := 5 }, by decide +kernel⟩,
    ⟨((base.sys .A ({ · with mode := .resync })).red .A ({ · with holds := false })).red .B ({ · with holds := true }),
         .A, by decide +kernel⟩,
    ⟨base, .A, 3, by decide +kernel⟩,
    ⟨base, .A, 3, by dsimp only; decide +kernel⟩,
    ⟨base.fl 3 ({ · with claim := 1 }), .A, 3, by dsimp only; decide +kernel⟩,
    ⟨base.red .A ({ · with holds := false }), .A, 1, false, by dsimp only; decide +kernel⟩,
    ⟨(base.sl 1 ({ · with claim := 1 })).slv .A ({ · with linkUp := [true, false] }), .A, 1, true,
         by dsimp only; decide +kernel⟩,
    ⟨(base.red .A ({ · with holds := false })).red .B ({ · with holds := false }), 1, by decide +kernel⟩,
    ⟨base, .A, by decide +kernel⟩⟩

/-- The premises of TaskCyclesFollowTheirBoundaries are met, clause by clause. -/
theorem meets_TaskCyclesFollowTheirBoundaries :
    (∃ (s : State) (l : LaneId) (k : Nat), (s.m.lane l).mayCycle k = true) ∧
    (∃ (s : State) (l : LaneId) (k : Nat),
         let b := (s.m.gridFrom (s.m.lane l).prg.t0 ((s.m.lane l).periodNs k) ((s.m.lane l).task k).lastB);
         let held := ((s.m.lane l).cfg.state = .armed ∧ (s.m.lane l).cfg.confirmSent = true ∧
         (s.m.lane l).cfg.applyInstant ≤ b); (s.m.lane l).mayCycle k = true ∧ ¬held ∧
         ((s.m.lane l).task k).executing = false) ∧
    (∃ (s : State) (l : LaneId) (k : Nat),
         let b := (s.m.gridFrom (s.m.lane l).prg.t0 ((s.m.lane l).periodNs k) ((s.m.lane l).task k).lastB);
         let held := ((s.m.lane l).cfg.state = .armed ∧ (s.m.lane l).cfg.confirmSent = true ∧
         (s.m.lane l).cfg.applyInstant ≤ b); (s.m.lane l).mayCycle k = true ∧ held) ∧
    (∃ (s : State) (l : LaneId) (k : Nat), (s.m.lane l).mayCycle k = true ∧
         ((s.m.lane l).task k).executing = false ∧ ((s.m.lane l).task k).released = [] ∧
         (s.m.lane l).cfg.state ≠ .armed ∧ (s.m.lane l).prg.tasks.length = 4 ∧ k < 4) ∧
    (∃ (s : State) (l : LaneId) (k : Nat), (s.m.lane l).mayCycle k = true ∧ ((s.m.lane l).task k).executing = true ∧
         (s.m.lane l).cfg.state ≠ .armed ∧ (s.m.lane l).prg.tasks.length = 4 ∧ k < 4 ∧
         ((s.m.lane l).task k).skippedNow = 0) ∧
    (∃ (s : State) (l : LaneId) (k : Nat), (s.m.lane l).prg.running = true ∧
         ((s.m.lane l).conf.task k).overrunLimit ≠ 0 ∧
         ((s.m.lane l).conf.task k).overrunLimit ≤ ((s.m.lane l).task k).consec ∧
         (s.m.lane l).sys.mode.runs = true ∧ s.m.frozen l = false ∧ (s.m.lane l).justRequested s.m.now = false) ∧
    (∃ (s : State) (l : LaneId) (k : Nat),
         (s.m.lane l).prg.running = true ∨ (s.m.lane l).justRequested s.m.now = true ∧
         ((s.m.lane l).conf.task k).overrunLimit ≠ 0 ∧
         ((s.m.lane l).conf.task k).overrunLimit ≤ ((s.m.lane l).task k).consec) ∧
    (∃ (s : State) (l : LaneId) (k : Nat), let old := ((s.m.lane l).oldCycle = true ∧
         (s.m.lane l).waitsCarry k = false); ((s.m.lane l).task k).executing = true ∧
         ((s.m.lane l).task k).publishing = false ∧ ((s.m.lane l).task k).halted = false ∧ ¬old) ∧
    (∃ (s : State) (l : LaneId) (k : Nat), let old := ((s.m.lane l).oldCycle = true ∧
         (s.m.lane l).waitsCarry k = false); ((s.m.lane l).task k).executing = true ∧
         ((s.m.lane l).task k).publishing = false ∧ ((s.m.lane l).task k).halted = false ∧ old) ∧
    (∃ (s : State) (l : LaneId) (k : Nat), ((s.m.lane l).task k).executing = true ∧
         ((s.m.lane l).task k).publishing = false ∧ ((s.m.lane l).task k).halted = false ∧
         (s.m.lane l).prg.exchOld = none ∧ (s.m.lane l).sys.mode.runs = true ∧ s.m.frozen l = false ∧
         (s.m.lane l).justRequested s.m.now = false ∧ (s.m.lane l).prg.tasks.length = 4 ∧ k < 4) :=
  ⟨⟨base, .A, 0, by decide +kernel⟩,
    ⟨base, .A, 0, by dsimp only; decide +kernel⟩,
    ⟨base.cfg .A ({ · with state := .armed, confirmSent := true, applyInstant := 5 }), .A, 0,
         by dsimp only; decide +kernel⟩,
    ⟨base, .A, 0, by decide +kernel⟩,
    ⟨base.task .A 0 ({ · with executing := true }), .A, 0, by decide +kernel⟩,
    ⟨base.task .A 0 ({ · with consec := 2 }), .A, 0, by decide +kernel⟩,
    ⟨base.task .A 0 ({ · with consec := 2 }), .A, 0, by decide +kernel⟩,
    ⟨base.task .A 0 ({ · with executing := true }), .A, 0, by dsimp only; decide +kernel⟩,
    ⟨(base.task .A 0 ({ · with executing := true, boundaryAt := 50 })).prg .A ({ · with exchOld := some (image, 100) }),
         .A, 0, by dsimp only; decide +kernel⟩,
    ⟨base.task .A 0 ({ · with executing := true }), .A, 0, by decide +kernel⟩⟩

/-- The premises of CyclesEndWithTheirPublish are met, clause by clause. -/
theorem meets_CyclesEndWithTheirPublish :
    (∃ (s : State) (l : LaneId) (k : Nat), ((s.m.lane l).task k).executing = true ∧
         ((s.m.lane l).task k).publishing = false ∧ ((s.m.lane l).task k).halted = false ∧
         (s.m.lane l).waitsCarry k = false ∧
         s.m.now < ((s.m.lane l).task k).boundaryAt + (((s.m.lane l).taskConf k).task k).watchdogUs * 1000) ∧
    (∃ (s : State) (l : LaneId) (k : Nat) (r : ExecResult), r.aborts = [] ∧ r.blocks = [] ∧
         ((s.m.lane l).task k).executing = true ∧ ((s.m.lane l).task k).publishing = false ∧
         ((s.m.lane l).task k).halted = false ∧ (s.m.lane l).prg.exchOld = none ∧
         s.m.now < ((s.m.lane l).task k).boundaryAt + (((s.m.lane l).taskConf k).task k).watchdogUs * 1000) ∧
    (∃ (s : State) (l : LaneId) (k : Nat), let old := ((s.m.lane l).oldCycle = true ∧
         (s.m.lane l).waitsCarry k = false); ((s.m.lane l).task k).executing = true ∧
         ((s.m.lane l).task k).publishing = true ∧ ¬old) ∧
    (∃ (s : State) (l : LaneId) (k : Nat), let old := ((s.m.lane l).oldCycle = true ∧
         (s.m.lane l).waitsCarry k = false); ((s.m.lane l).task k).executing = true ∧
         ((s.m.lane l).task k).publishing = true ∧ old) ∧
    (∃ (s : State) (l : LaneId) (k : Nat), ((s.m.lane l).task k).executing = true ∧
         ((s.m.lane l).task k).publishing = true ∧ (s.m.lane l).prg.exchOld = none ∧
         (s.m.lane l).prg.tasks.length = 4 ∧ k < 4) ∧
    (∃ (s : State) (l : LaneId), ∃ old at_, (s.m.lane l).prg.exchOld = some (old, at_) ∧
         (s.m.lane l).oldCycle = false) :=
  ⟨⟨base.task .A 0 ({ · with executing := true, boundaryAt := 900000 }), .A, 0, by decide +kernel⟩,
    ⟨base.task .A 0 ({ · with executing := true, boundaryAt := 900000 }), .A, 0,
         { out := [(1, [7, 8])], frames := [(2, [9])] }, by decide +kernel⟩,
    ⟨base.task .A 0 ({ · with executing := true, publishing := true, boundaryAt := 900000 }), .A, 0,
         by dsimp only; decide +kernel⟩,
    ⟨(base.task .A 0 ({ · with executing := true, publishing := true, boundaryAt := 50 })).prg .A ({ · with exchOld := some (image, 100) }),
         .A, 0, by dsimp only; decide +kernel⟩,
    ⟨base.task .A 0 ({ · with executing := true, publishing := true, boundaryAt := 900000 }), .A, 0,
         by decide +kernel⟩,
    ⟨base.prg .A ({ · with exchOld := some (image, 100) }), .A, image, 100, by decide +kernel⟩⟩

/-- The premises of PublishesAndForcesAct are met, clause by clause. -/
theorem meets_PublishesAndForcesAct :
    (∃ (s : State) (l : LaneId) (d : Nat) (c : OutCmds), ∃ rest, s.m.mail = ⟨l.num, 4 + d, .outputs c⟩ :: rest ∧
         s.m.fdReach l d = true ∧ c.claim = (s.m.fd d).claim ∧ c.counter = (s.m.fd d).bankCounter ∧
         claimLane c.claim = l) ∧
    (∃ (s : State) (l : LaneId) (d : Nat) (c : OutCmds), ∃ rest, s.m.mail = ⟨l.num, 4 + d, .outputs c⟩ :: rest ∧
         s.m.fdReach l d = true ∧ c.claim = (s.m.fd d).claim ∧ c.counter = (s.m.fd d).bankCounter ∧
         claimLane c.claim = l ∧ c.frames = [] ∧ (s.m.fd d).firstCmd = true) ∧
    (∃ (s : State) (l : LaneId) (d : Nat) (c : OutCmds), ∃ rest, s.m.mail = ⟨l.num, 4 + d, .outputs c⟩ :: rest ∧
         s.m.fdReach l d = true ∧ (c.claim ≠ (s.m.fd d).claim ∨ c.counter ≠ (s.m.fd d).bankCounter ∨ claimLane c.claim ≠ l)) ∧
    (∃ (s : State) (d : Nat), ∃ a as, s.m.fdList.flatMap (fun d => if s.m.fdUp d then (s.m.fd d).cmds.map (·.tick) else []) = a :: as) ∧
    (∃ (s : State) (l : LaneId) (v : View), ∃ x y, Heard s l v ∧ (s.m.lane l).prg.forceTarget = x ∧
         (s.m.lane l).prg.forceValue = y ∧ (s.m.lane l).judgeForce x y = 0) ∧
    (∃ (s : State) (l : LaneId) (v : View), ∃ x y, Heard s l v ∧ (s.m.lane l).prg.forceTarget = x ∧
         (s.m.lane l).prg.forceValue = y ∧ (s.m.lane l).judgeForce x y ≠ 0) ∧
    (∃ (s : State) (l : LaneId) (v : View), Heard s l v ∧ mayClear (s.m.lane l).sys.mode = true) ∧
    (∃ (s : State) (l : LaneId) (v : View), Heard s l v ∧ mayClear (s.m.lane l).sys.mode = false) :=
  ⟨⟨base.post 0 7 (.outputs { claim := (base.m.fd 3).claim, counter := 5, tick := 3000000 }), .A, 3,
       { claim := ((base.post 0 7 (.outputs { claim := (base.m.fd 3).claim, counter := 5, tick := 3000000 })).m.fd 3).claim, counter := 5, tick := 3000000 },
       (base.post 0 7 (.outputs { claim := (base.m.fd 3).claim, counter := 5, tick := 3000000 })).m.mail.tail,
       by decide +kernel⟩,
    ⟨(base.fl 3 ({ · with firstCmd := true })).post 0 7 (.outputs { claim := (base.m.fd 3).claim, counter := 5, tick := 3000000 }),
         .A, 3, { claim := (((base.fl 3 ({ · with firstCmd := true })).post 0 7 (.outputs { claim := (base.m.fd 3).claim, counter := 5, tick := 3000000 })).m.fd 3).claim, counter := 5, tick := 3000000 },
         ((base.fl 3 ({ · with firstCmd := true })).post 0 7 (.outputs { claim := (base.m.fd 3).claim, counter := 5, tick := 3000000 })).m.mail.tail,
         by decide +kernel⟩,
    ⟨base.post 0 7 (.outputs { claim := 99, counter := 5, outs := [(1, 2, 3)] }), .A, 3,
         { claim := 99, counter := 5, outs := [(1, 2, 3)] },
         (base.post 0 7 (.outputs { claim := 99, counter := 5, outs := [(1, 2, 3)] })).m.mail.tail,
         by decide +kernel⟩,
    ⟨base.fl 0 ({ · with cmds := [{ claim := 2, counter := 5, tick := 2000000, outs := [(2, 0, 3)] }] }), 0,
         2000000, ([] : List Nat), by decide +kernel⟩,
    ⟨base.prg .A ({ · with forceTarget := 0x20000040, forceValue := 1 }), .A, .host, 0x20000040, 1,
         by decide +kernel⟩,
    ⟨base.prg .A ({ · with forceTarget := 0xFFFFFFFF }), .A, .host, 0xFFFFFFFF, 0, by decide +kernel⟩,
    ⟨base.prg .A ({ · with forces := [(0, ⟨1, 2⟩), (3, ⟨4, 5⟩)] }), .A, .host, by decide +kernel⟩,
    ⟨base.sys .A ({ · with mode := .loaded }), .A, .host, by decide +kernel⟩⟩

/-- The premises of JobsStartByDeadline are met, clause by clause. -/
theorem meets_JobsStartByDeadline :
    (∃ (s : State) (l : LaneId) (sd : Nat) (j : SlvJob), ∃ rest, s.m.mail = ⟨l.num, 2 + sd, .job j⟩ :: rest ∧
         (j.claim < (s.m.sd sd).claim ∨ (j.claim = (s.m.sd sd).claim ∧ claimLane j.claim ≠ l))) ∧
    (∃ (s : State) (l : LaneId) (sd : Nat) (j : SlvJob), ∃ rest, s.m.mail = ⟨l.num, 2 + sd, .job j⟩ :: rest ∧
         j.claim = (s.m.sd sd).claim ∧ claimLane j.claim = l ∧ (s.m.sd sd).state ∈ [.asleep, .waking, .active] ∧
         (s.m.sd sd).confirmed = false ∧ j.imageCounter = (s.m.sd sd).bankCounter) ∧
    (∃ (s : State) (l : LaneId) (sd : Nat) (j : SlvJob), ∃ rest, s.m.mail = ⟨l.num, 2 + sd, .job j⟩ :: rest ∧
         j.claim = (s.m.sd sd).claim ∧ claimLane j.claim = l ∧ (s.m.sd sd).state ∈ [.asleep, .waking, .active] ∧
         (s.m.sd sd).confirmed = false ∧ j.imageCounter ≠ (s.m.sd sd).bankCounter) ∧
    (∃ (s : State) (l : LaneId) (sd : Nat) (j : SlvJob), ∃ rest, s.m.mail = ⟨l.num, 2 + sd, .job j⟩ :: rest ∧
         j.claim = (s.m.sd sd).claim ∧ claimLane j.claim = l ∧ (s.m.sd sd).state ∉ [.asleep, .waking, .active]) ∧
    (∃ (s : State) (l : LaneId) (sd : Nat) (j : SlvJob), ∃ rest, s.m.mail = ⟨l.num, 2 + sd, .job j⟩ :: rest ∧
         j.claim = (s.m.sd sd).claim ∧ claimLane j.claim = l ∧ (s.m.sd sd).state ∈ [.asleep, .waking, .active] ∧
         (s.m.sd sd).confirmed = false ∧ j.imageCounter = (s.m.sd sd).bankCounter ∧ sd < s.m.sds.length) ∧
    (∃ (s : State) (sd : Nat), sd < s.m.sds.length ∧ (s.m.sd sd).run = none ∧ (s.m.sd sd).powered = true ∧
         (s.m.sd sd).state ∈ [.waking, .active] ∧ (s.m.sd sd).queue ≠ [] ∧ (∀ j,
         j ∈ (s.m.sd sd).queue → j.payload = none)) ∧
    (∃ (s : State) (sd : Nat), ∃ j, (s.m.sd sd).run = none ∧ (s.m.sd sd).powered = true ∧
         (s.m.sd sd).state ∈ [.waking, .active] ∧ (s.m.sd sd).nextJob = some j) ∧
    (∃ (s : State) (l : LaneId) (sd : Nat), ∃ q p rest r, s.m.mail = ⟨l.num, 2 + sd, .payload q p⟩ :: rest ∧
         (s.m.sd sd).run = some r ∧ sd < s.m.sds.length ∧ r.job.seq = q ∧ r.phase = .waitPayload) ∧
    (∃ (s : State) (l : LaneId) (sd : Nat), ∃ q p rest r, s.m.mail = ⟨l.num, 2 + sd, .payload q p⟩ :: rest ∧
         (s.m.sd sd).run = some r ∧ sd < s.m.sds.length ∧ (r.job.seq ≠ q ∨ r.phase ≠ .waitPayload)) ∧
    (∃ (s : State) (sd : Nat), (s.m.sd sd).run.isSome = true) ∧
    (∃ (s : State) (l : LaneId) (sd : Nat), ∃ q p rest, s.m.mail = ⟨l.num, 2 + sd, .payload q p⟩ :: rest ∧
         (s.m.sd sd).run = none) :=
  ⟨⟨base.post 0 3 (.job { claim := 1 }), .A, 1, { claim := 1 }, (base.post 0 3 (.job { claim := 1 })).m.mail.tail,
       by decide +kernel⟩,
    ⟨base.post 0 3 (.job { claim := (base.m.sd 1).claim, imageCounter := 5, seq := 7 }), .A, 1,
         { claim := ((base.post 0 3 (.job { claim := (base.m.sd 1).claim, imageCounter := 5, seq := 7 })).m.sd 1).claim, imageCounter := 5, seq := 7 },
         (base.post 0 3 (.job { claim := (base.m.sd 1).claim, imageCounter := 5, seq := 7 })).m.mail.tail,
         by decide +kernel⟩,
    ⟨base.post 0 3 (.job { claim := (base.m.sd 1).claim, imageCounter := 4, seq := 7 }), .A, 1,
         { claim := ((base.post 0 3 (.job { claim := (base.m.sd 1).claim, imageCounter := 4, seq := 7 })).m.sd 1).claim, imageCounter := 4, seq := 7 },
         (base.post 0 3 (.job { claim := (base.m.sd 1).claim, imageCounter := 4, seq := 7 })).m.mail.tail,
         by decide +kernel⟩,
    ⟨(base.sl 1 ({ · with state := .selfTest })).post 0 3 (.job { claim := (base.m.sd 1).claim, imageCounter := 5, seq := 7 }),
         .A, 1, { claim := (((base.sl 1 ({ · with state := .selfTest })).post 0 3 (.job { claim := (base.m.sd 1).claim, imageCounter := 5, seq := 7 })).m.sd 1).claim, imageCounter := 5, seq := 7 },
         ((base.sl 1 ({ · with state := .selfTest })).post 0 3 (.job { claim := (base.m.sd 1).claim, imageCounter := 5, seq := 7 })).m.mail.tail,
         by decide +kernel⟩,
    ⟨base.post 0 3 (.job { claim := (base.m.sd 1).claim, imageCounter := 5, seq := 7 }), .A, 1,
         { claim := ((base.post 0 3 (.job { claim := (base.m.sd 1).claim, imageCounter := 5, seq := 7 })).m.sd 1).claim, imageCounter := 5, seq := 7 },
         (base.post 0 3 (.job { claim := (base.m.sd 1).claim, imageCounter := 5, seq := 7 })).m.mail.tail,
         by decide +kernel⟩,
    ⟨base.sl 1 ({ · with state := .active, queue := [{ seq := 1, template := 2, deadlineUs := 9 }, { seq := 2, template := 1, deadlineUs := 9 }], run := none }),
         1, by decide +kernel⟩,
    ⟨base.sl 1 ({ · with state := .active, queue := [{ seq := 1, template := 2, deadlineUs := 9 }, { seq := 2, template := 1, deadlineUs := 9 }], run := none }),
         1, { seq := 2, template := 1, deadlineUs := 9 }, by decide +kernel⟩,
    ⟨(base.sl 1 ({ · with run := some { job := { seq := 1, lane := .A, tmpl := template }, phase := .waitPayload } })).post 0 3 (.payload 1 { values := [3] }),
         .A, 1, 1, { values := [3] }, ((base.sl 1 ({ · with run := some { job := { seq := 1, lane := .A, tmpl := template }, phase := .waitPayload } })).post 0 3 (.payload 1 { values := [3] })).m.mail.tail,
         { job := { seq := 1, lane := .A, tmpl := template }, phase := .waitPayload }, by decide +kernel⟩,
    ⟨(base.sl 1 ({ · with run := some { job := { seq := 2, lane := .A, tmpl := template }, phase := .waitPayload } })).post 0 3 (.payload 1 { values := [3] }),
         .A, 1, 1, { values := [3] }, ((base.sl 1 ({ · with run := some { job := { seq := 2, lane := .A, tmpl := template }, phase := .waitPayload } })).post 0 3 (.payload 1 { values := [3] })).m.mail.tail,
         { job := { seq := 2, lane := .A, tmpl := template }, phase := .waitPayload }, by decide +kernel⟩,
    ⟨base.sl 1 ({ · with run := some {} }), 1, by decide +kernel⟩,
    ⟨(base.sl 1 ({ · with queue := [{ seq := 1, lane := .A }], run := none })).post 0 3 (.payload 1 { values := [3] }),
         .A, 1, 1, { values := [3] }, ((base.sl 1 ({ · with queue := [{ seq := 1, lane := .A }], run := none })).post 0 3 (.payload 1 { values := [3] })).m.mail.tail,
         by decide +kernel⟩⟩

/-- The premises of JobPhasesFollow are met, clause by clause. -/
theorem meets_JobPhasesFollow :
    (∃ (s : State) (sd : Nat) (r : SlvRun), (s.m.sd sd).run = some r ∧ r.job.abort = none ∧
         s.m.now ≤ r.job.deadlineUs * 1000 ∧ sd < s.m.sds.length ∧ r.phase = .assembly ∧ r.job.tmpl.cls ≠ 0) ∧
    (∃ (s : State) (sd : Nat) (r : SlvRun), (s.m.sd sd).run = some r ∧ r.job.abort = none ∧
         s.m.now ≤ r.job.deadlineUs * 1000 ∧ sd < s.m.sds.length ∧ r.phase = .assembly) ∧
    (∃ (s : State) (sd : Nat) (r : SlvRun), (s.m.sd sd).run = some r ∧ r.job.abort = none ∧
         s.m.now ≤ r.job.deadlineUs * 1000 ∧ sd < s.m.sds.length ∧ r.phase = .preparation) ∧
    (∃ (s : State) (sd : Nat) (r : SlvRun), ∃ a p k, (s.m.sd sd).run = some r ∧ r.job.abort = none ∧
         s.m.now ≤ r.job.deadlineUs * 1000 ∧ sd < s.m.sds.length ∧ r.phase = .preparation ∧
         a = at? (storedRows r.job.tmpl.problemList r.values) 0 [] ∧
         p = prepare r.job.tmpl.precond r.job.tmpl.cls r.job.tmpl.block r.job.tmpl.tau a ∧ zeroRow a = some k) ∧
    (∃ (s : State) (sd : Nat) (r : SlvRun), ∃ a p, (s.m.sd sd).run = some r ∧ r.job.abort = none ∧
         s.m.now ≤ r.job.deadlineUs * 1000 ∧ sd < s.m.sds.length ∧ r.phase = .preparation ∧
         a = at? (storedRows r.job.tmpl.problemList r.values) 0 [] ∧
         p = prepare r.job.tmpl.precond r.job.tmpl.cls r.job.tmpl.block r.job.tmpl.tau a ∧ zeroRow a = none ∧
         p.bad = false ∧ p.count = 0) ∧
    (∃ (s : State) (sd : Nat) (r : SlvRun), (s.m.sd sd).run = some r ∧ r.job.abort = none ∧
         s.m.now ≤ r.job.deadlineUs * 1000 ∧ sd < s.m.sds.length ∧ r.phase = .iterating ∧ r.job.tmpl.kind ≠ 2) ∧
    (∃ (s : State) (sd : Nat) (r : SlvRun), (s.m.sd sd).run = some r ∧ r.job.abort = none ∧
         s.m.now ≤ r.job.deadlineUs * 1000 ∧ sd < s.m.sds.length ∧ r.phase = .iterating ∧ r.job.tmpl.kind = 2) ∧
    (∃ (s : State) (sd : Nat) (r : SlvRun), (s.m.sd sd).run = some r ∧ r.job.abort = none ∧
         s.m.now ≤ r.job.deadlineUs * 1000 ∧ sd < s.m.sds.length ∧ r.phase = .verifying ∧ r.job.tmpl.kind ≠ 2) ∧
    (∃ (s : State) (sd : Nat) (r : SlvRun), ∃ f, (s.m.sd sd).run = some r ∧ r.job.abort = none ∧
         s.m.now ≤ r.job.deadlineUs * 1000 ∧ sd < s.m.sds.length ∧ r.phase = .verifying ∧ r.job.tmpl.kind ≠ 2 ∧
         f % 2 ^ 17 ≠ 0) :=
  ⟨⟨base.sl 1 ({ · with run := some { job := { deadlineUs := 10 ^ 9, tmpl := template }, phase := .assembly } }), 1,
       { job := { deadlineUs := 10 ^ 9, tmpl := template }, phase := .assembly }, by decide +kernel⟩,
    ⟨base.sl 1 ({ · with run := some { job := { deadlineUs := 10 ^ 9, tmpl := template }, phase := .assembly } }),
         1, { job := { deadlineUs := 10 ^ 9, tmpl := template }, phase := .assembly }, by decide +kernel⟩,
    ⟨base.sl 1 ({ · with run := some { job := { deadlineUs := 10 ^ 9, tmpl := template }, phase := .preparation, values := [0x4000000000000000], b := [0x3FF0000000000000], x0 := [0] } }),
         1, { job := { deadlineUs := 10 ^ 9, tmpl := template }, phase := .preparation, values := [0x4000000000000000], b := [0x3FF0000000000000], x0 := [0] },
         by decide +kernel⟩,
    ⟨base.sl 1 ({ · with run := some { job := { deadlineUs := 10 ^ 9, tmpl := template }, phase := .preparation, values := [0], b := [0x3FF0000000000000], x0 := [0] } }),
         1, { job := { deadlineUs := 10 ^ 9, tmpl := template }, phase := .preparation, values := [0], b := [0x3FF0000000000000], x0 := [0] },
         at? (storedRows template.problemList [0]) 0 [],
         prepare template.precond template.cls template.block template.tau (at? (storedRows template.problemList [0]) 0 []),
         0, ⟨by decide +kernel, by decide +kernel, by decide +kernel, by decide +kernel, by decide +kernel, rfl,
         rfl, by decide +kernel⟩⟩,
    ⟨base.sl 1 ({ · with run := some { job := { deadlineUs := 10 ^ 9, tmpl := template }, phase := .preparation, values := [0x4000000000000000], b := [0x3FF0000000000000], x0 := [0] } }),
         1, { job := { deadlineUs := 10 ^ 9, tmpl := template }, phase := .preparation, values := [0x4000000000000000], b := [0x3FF0000000000000], x0 := [0] },
         at? (storedRows template.problemList [0x4000000000000000]) 0 [],
         prepare template.precond template.cls template.block template.tau (at? (storedRows template.problemList [0x4000000000000000]) 0 []),
         ⟨by decide +kernel, by decide +kernel, by decide +kernel, by decide +kernel, by decide +kernel, rfl, rfl,
         by decide +kernel, by decide +kernel, by decide +kernel⟩⟩,
    ⟨base.sl 1 ({ · with run := some { job := { deadlineUs := 10 ^ 9, tmpl := template }, phase := .iterating } }),
         1, { job := { deadlineUs := 10 ^ 9, tmpl := template }, phase := .iterating }, by decide +kernel⟩,
    ⟨base.sl 1 ({ · with run := some { job := { deadlineUs := 10 ^ 9, tmpl := { template with kind := 2 } }, phase := .iterating } }),
         1, { job := { deadlineUs := 10 ^ 9, tmpl := { template with kind := 2 } }, phase := .iterating },
         by decide +kernel⟩,
    ⟨base.sl 1 ({ · with run := some { job := { deadlineUs := 10 ^ 9, tmpl := template }, phase := .verifying } }),
         1, { job := { deadlineUs := 10 ^ 9, tmpl := template }, phase := .verifying }, by decide +kernel⟩,
    ⟨base.sl 1 ({ · with run := some { job := { deadlineUs := 10 ^ 9, tmpl := template }, phase := .verifying } }),
         1, { job := { deadlineUs := 10 ^ 9, tmpl := template }, phase := .verifying }, 3, by decide +kernel⟩⟩

/-- The premises of JobsAndSelfTestsEnd are met, clause by clause. -/
theorem meets_JobsAndSelfTestsEnd :
    (∃ (s : State) (l : LaneId) (sd : Nat), ∃ r, at? (s.m.lane l).slv.linkUp sd false = true ∧
         (s.m.sd sd).results.find? (fun r => !(at? (s.m.lane l).slv.tpls (r.1 - 1) {}).copied && (at? (s.m.lane l).slv.tpls (r.1 - 1) {}).result == some r.2) = some r) ∧
    (∃ (s : State) (l : LaneId), ∃ k o, (s.m.lane l).slv.jobs.find? (·.requested == k) = some o ∧
         (s.m.sd (o.die.getD 2)).run = none ∧ (s.m.sd (o.die.getD 2)).queue = [] ∧
         k - 1 < (s.m.lane l).slv.tpls.length) ∧
    (∃ (s : State) (l : LaneId), ∃ k o j, let x := (s.m.sd (o.die.getD 2));
         let queued := (x.queue.find? fun j => j.seq == o.seq && j.lane == l);
         (s.m.lane l).slv.jobs.find? (·.requested == k) = some o ∧ queued = some j) ∧
    (∃ (s : State) (l : LaneId), ∃ k o r, let x := (s.m.sd (o.die.getD 2));
         let queued := (x.queue.find? fun j => j.seq == o.seq && j.lane == l);
         (s.m.lane l).slv.jobs.find? (·.requested == k) = some o ∧ queued = none ∧ x.run = some r ∧
         r.job.seq = o.seq ∧ r.job.lane = l) ∧
    (∃ (s : State) (l : LaneId), ∃ k o, let x := (s.m.sd (o.die.getD 2));
         let queued := (x.queue.find? fun j => j.seq == o.seq && j.lane == l);
         (s.m.lane l).slv.jobs.find? (·.requested == k) = some o ∧ queued = none ∧ (∀ r,
         x.run = some r → ¬(r.job.seq = o.seq ∧ r.job.lane = l))) ∧
    (∃ (s : State) (l : LaneId) (v : View), ∃ w, Heard s l v ∧ bitOf w 31 = false) ∧
    (∃ (s : State) (l : LaneId) (v : View), ∃ w, Heard s l v ∧ bitOf w 31 = true) ∧
    (∃ (s : State) (l : LaneId) (v : View), ∃ w o r, Heard s l v ∧ bitOf w 31 = false ∧
         (s.m.lane l).slv.jobs.find? (·.requested == fld w 15 0) = some o ∧ (s.m.sd (o.die.getD 2)).run = some r ∧
         r.job.seq = o.seq ∧ r.job.lane = l ∧ r.job.abort = none) ∧
    (∃ (s : State) (l : LaneId) (v : View), Heard s l v) ∧
    (∃ (s : State) (l : LaneId) (v : View) (sd : Nat), Heard s l v ∧ (s.m.sel l v).slvDie = sd ∧
         s.m.sdReach l sd = true ∧ mkClaim (claimEpoch (s.m.lane l).red.claim) l = (s.m.sd sd).claim ∧
         s.m.active l = true ∧ sd < s.m.sds.length) ∧
    (∃ (s : State) (sd : Nat), ∃ e, sd < s.m.variant.nSd ∧ (s.m.sd sd).powered = true ∧
         (s.m.sd sd).state ∈ [.asleep, .waking, .active] ∧ e ∈ (s.m.sd sd).suspect ∧ (s.m.sd sd).queue = [] ∧
         (s.m.sd sd).run = none ∧ e ∉ (s.m.sd sd).retired) ∧
    (∃ (s : State) (sd : Nat), ∃ e, sd < s.m.sds.length ∧ sd < s.m.variant.nSd ∧ (s.m.sd sd).powered = true ∧
         (s.m.sd sd).state = .selfTest ∧ (s.m.sd sd).testing = [e] ∧ (s.m.sd sd).suspect = [] ∧
         (s.m.sd sd).parkReq = false ∧ (s.m.sd sd).released = true) ∧
    (∃ (s : State) (sd : Nat), ∃ e, sd < s.m.sds.length ∧ sd < s.m.variant.nSd ∧ (s.m.sd sd).powered = true ∧
         (s.m.sd sd).state = .selfTest ∧ e ∈ (s.m.sd sd).testing ∧ e ∉ (s.m.sd sd).retired) :=
  ⟨⟨((base.sl 1 ({ · with results := [(1, { requested := 1 })] })).slv .A fun x => { x with tpls := upd x.tpls 0 ({ · with result := some { requested := 1 } }), linkUp := [true, true] }),
       .A, 1, (1, ({ requested := 1 } : SlvResult)), by decide +kernel⟩,
    ⟨(base.slv .A ({ · with jobs := [{ requested := 1, template := 1, seq := 4, deadlineUs := 5000 }] })), .A, 1,
         { requested := 1, template := 1, seq := 4, deadlineUs := 5000 }, by decide +kernel⟩,
    ⟨(base.slv .A ({ · with jobs := [{ requested := 1, template := 1, seq := 4, deadlineUs := 5000, die := some 1 }] })).sl 1 ({ · with queue := [{ seq := 4, lane := .A }] }),
         .A, 1, { requested := 1, template := 1, seq := 4, deadlineUs := 5000, die := some 1 },
         { seq := 4, lane := .A }, by dsimp only; decide +kernel⟩,
    ⟨(base.slv .A ({ · with jobs := [{ requested := 1, template := 1, seq := 4, deadlineUs := 5000, die := some 1 }] })).sl 1 ({ · with run := some { job := { seq := 4, lane := .A } } }),
         .A, 1, { requested := 1, template := 1, seq := 4, deadlineUs := 5000, die := some 1 },
         { job := { seq := 4, lane := .A } }, by dsimp only; decide +kernel⟩,
    ⟨(base.slv .A ({ · with jobs := [{ requested := 1, template := 1, seq := 4, deadlineUs := 5000 }] })), .A, 1,
         { requested := 1, template := 1, seq := 4, deadlineUs := 5000 }, by dsimp only; decide +kernel⟩,
    ⟨base, .A, .host, 1, by decide +kernel⟩,
    ⟨base, .A, .host, 0x80000000, by decide +kernel⟩,
    ⟨(base.slv .A ({ · with jobs := [{ requested := 1, template := 1, seq := 4, deadlineUs := 5000, die := some 1 }] })).sl 1 ({ · with run := some { job := { seq := 4, lane := .A } } }),
         .A, .host, 1, { requested := 1, template := 1, seq := 4, deadlineUs := 5000, die := some 1 },
         { job := { seq := 4, lane := .A } }, by decide +kernel⟩,
    ⟨base, .A, .host, by decide +kernel⟩,
    ⟨base.sel .A .host ({ · with slvDie := 1 }), .A, .host, 1, by decide +kernel⟩,
    ⟨base.sl 1 ({ · with suspect := [3, 16] }), 1, 3, by decide +kernel⟩,
    ⟨base.sl 1 ({ · with state := .selfTest, testing := [16], suspect := [] }), 1, 16, by decide +kernel⟩,
    ⟨base.sl 1 ({ · with state := .selfTest, testing := [16], suspect := [3, 16] }), 1, 16, by decide +kernel⟩⟩

/-- The premises of FieldEventsAct are met, clause by clause. -/
theorem meets_FieldEventsAct :
    (∃ (s : State) (d : Nat) (ch : Nat), s.m.fdUp d = true ∧ ch < 64 ∧ (s.m.fd d).chans.length = 64) ∧
    (∃ (s : State) (d : Nat) (ch : Nat), ∃ o, s.m.fdUp d = true ∧ ch < 64 ∧ (s.m.fd d).chans.length = 64 ∧
         ((s.m.fd d).chanCfg d ch).function = 3 ∧ o < 4) ∧
    (∃ (s : State) (d : Nat) (ch : Nat), ∃ b, s.m.fdUp d = true ∧ ch < 64 ∧ (s.m.fd d).chans.length = 64 ∧
         (s.m.fd d).loadTested d ch b = true) ∧
    (∃ (s : State) (d : Nat) (ch : Nat), ∃ g, s.m.fdUp d = true ∧ ch < 64 ∧ (s.m.fd d).chans.length = 64 ∧ g < 8 ∧
         (s.m.fd d).brg.length = 8) ∧
    (∃ (s : State) (d : Nat) (ch : Nat), ∃ g x, s.m.fdUp d = true ∧ ch < 64 ∧ (s.m.fd d).chans.length = 64 ∧ g < 8 ∧
         1350 ≤ x) ∧
    (∃ (s : State) (d : Nat) (ch : Nat), ∃ o, s.m.fdUp d = true ∧ ch < 64 ∧ (s.m.fd d).chans.length = 64 ∧
         ((s.m.fd d).chanCfg d ch).function = 2 ∧ ((s.m.fd d).outp ch o).now.isDrive = true) ∧
    (∃ (s : State) (d : Nat) (ch : Nat), ∃ o, s.m.fdUp d = true ∧ ch < 64 ∧ (s.m.fd d).chans.length = 64 ∧
         ((s.m.fd d).outp ch o).turning.isSome = true) ∧
    (∃ (s : State) (d : Nat) (ch : Nat), ∃ o a, s.m.fdUp d = true ∧ ch < 64 ∧ (s.m.fd d).chans.length = 64 ∧
         ((s.m.fd d).outp ch o).safeDriveAt = some a ∧ (s.m.fd d).safeHeld d ch o = true) ∧
    (∃ (s : State) (d : Nat) (ch : Nat), ∃ mv, s.m.fdUp d = true ∧ ch < 64 ∧ (s.m.fd d).chans.length = 64 ∧
         (s.m.fd d).railLow = false ∧ mv < 6000) ∧
    (∃ (s : State) (d : Nat) (ch : Nat), ∃ mv, s.m.fdUp d = true ∧ ch < 64 ∧ (s.m.fd d).chans.length = 64 ∧
         (s.m.fd d).railLow = true ∧ 6500 < mv) ∧
    (∃ (s : State) (d : Nat) (ch : Nat), ∃ h ma on, s.m.fdUp d = true ∧ ch < 64 ∧ (s.m.fd d).chans.length = 64 ∧
         h < 2 ∧ (at? (s.m.fd d).supplies h {}).limit ≠ on ∧
         (on = false ∨ (at? (s.m.fd d).supplies h {}).on = true ∧ (s.m.fd d).supplyMax h ≤ ma)) ∧
    (∃ (s : State) (d : Nat) (ch : Nat), ∃ l v, s.m.fdUp d = true ∧ ch < 64 ∧ (s.m.fd d).chans.length = 64 ∧
         Heard s l v ∧ (s.m.sel l v).fldDie = d ∧ (s.m.sel l v).fldCh = ch ∧ s.m.fdReach l d = true ∧
         (s.m.fd d).claim = (s.m.lane l).red.claim ∧ claimLane (s.m.lane l).red.claim = l ∧
         (s.m.lane l).red.holds = true) :=
  ⟨⟨base, 3, 63, by decide +kernel⟩,
    ⟨base, 0, 2, 3, by decide +kernel⟩,
    ⟨base.outp 0 1 1 ({ · with now := .fwd }), 0, 1, 1, by decide +kernel⟩,
    ⟨base, 0, 0, 7, by decide +kernel⟩,
    ⟨base, 0, 0, 7, 1350, by decide +kernel⟩,
    ⟨base.outp 0 1 1 ({ · with now := .fwd }), 0, 1, 1, by decide +kernel⟩,
    ⟨base.outp 0 1 1 ({ · with turning := some .rev, lastDriveEnd := 500 }), 0, 1, 1, by decide +kernel⟩,
    ⟨base.outp 0 1 1 ({ · with safeDriveAt := some 100, safe := true }), 0, 1, 1, 100, by decide +kernel⟩,
    ⟨base, 0, 1, 5999, by decide +kernel⟩,
    ⟨base.fl 0 ({ · with railLow := true }), 0, 1, 6501, by decide +kernel⟩,
    ⟨(base.fl 0 fun f => { f with supplies := upd f.supplies 1 ({ · with on := true }) }), 0, 1, 1, 900, true,
         by decide +kernel⟩,
    ⟨(base.sel .A .host ({ · with fldDie := 3, fldCh := 63 })).outp 3 63 0 ({ · with fault := 3 }), 3, 63, .A,
         .host, by decide +kernel⟩⟩

/-- The premises of OpenOutputsCarryNothing are met, clause by clause. -/
theorem meets_OpenOutputsCarryNothing :
    ∃ (m : Module) (d : Nat) (c : Nat) (n : Nat), d < m.fds.length ∧ c < 64 ∧ n < 4 ∧ (m.fd d).chans.length = 64 ∧
        (∀ x, x ∈ (m.fd d).chans → x.outs.length = 4) ∧ (m.fd d).openBy m.supplyGood c n = true :=
  ⟨(base.outp 0 1 1 ({ · with now := .fwd, cmd := .fwd, fault := 1 })).m, 0, 1, 1, by decide +kernel⟩

/-- The premises of FaultsOpenTheirOutputs are met, clause by clause. -/
theorem meets_FaultsOpenTheirOutputs :
    ∃ (m : Module) (d : Nat) (c : Nat) (n : Nat) (cause : Nat) (ns : List Nat), d < m.fds.length ∧ c < 64 ∧
        (m.fd d).chans.length = 64 ∧ (at? (m.fd d).chans c {}).outs.length = 4 ∧ n ∈ ns ∧ n < 4 ∧ cause < 4 :=
  ⟨(base.outp 0 1 1 ({ · with now := .fwd, cmd := .fwd })).m, 0, 1, 1, 3, [0, 1], by decide +kernel⟩

/-- The premises of AxisCommandsAct are met, clause by clause. -/
theorem meets_AxisCommandsAct :
    (∃ (s : State) (d : Nat) (ch : Nat) (rec : Bytes), s.m.fdUp d = true ∧ (s.m.axis d ch).cmd = some rec ∧
         leAt rec 0 1 = 1) ∧
    (∃ (s : State) (d : Nat) (ch : Nat) (rec : Bytes), s.m.fdUp d = true ∧ (s.m.axis d ch).cmd = some rec ∧
         leAt rec 0 1 = 2) ∧
    (∃ (s : State) (d : Nat) (ch : Nat) (rec : Bytes), s.m.fdUp d = true ∧ (s.m.axis d ch).cmd = some rec ∧
         leAt rec 0 1 = 3) ∧
    (∃ (s : State) (d : Nat) (ch : Nat) (rec : Bytes), s.m.fdUp d = true ∧ (s.m.axis d ch).cmd = some rec ∧
         leAt rec 0 1 = 4) ∧
    (∃ (s : State) (d : Nat) (ch : Nat) (rec : Bytes), s.m.fdUp d = true ∧ (s.m.axis d ch).cmd = some rec ∧
         leAt rec 0 1 = 5) ∧
    (∃ (s : State) (d : Nat) (ch : Nat) (rec : Bytes), s.m.fdUp d = true ∧ (s.m.axis d ch).cmd = some rec ∧
         leAt rec 0 1 = 6) ∧
    (∃ (s : State) (d : Nat) (ch : Nat) (rec : Bytes), s.m.fdUp d = true ∧ (s.m.axis d ch).cmd = some rec ∧
         leAt rec 0 1 = 7) ∧
    (∃ (s : State) (d : Nat) (ch : Nat) (rec : Bytes), let a := (s.m.axis d ch);
         let off := (a.pCmd - a.pEnc (s.m.chan d ch).enc); let target := (leIntAt rec 4 4);
         let speed := (leAt rec 8 4); let ramps := ((leAt rec 12 4, leAt rec 16 4));
         let code := (a.judge (leAt rec 0 1) target speed ramps.1 ramps.2); s.m.fdUp d = true ∧ d < s.m.fds.length ∧
         ch < (s.m.fd d).axes.length ∧ (s.m.axis d ch).cmd = some rec ∧ (s.m.fd d).inComm = false ∧
         a.nextItem = none ∧ off.natAbs ≤ a.item.window ∧ leAt rec 0 1 = 1 ∧ code = 0 ∧ a.state = .standstill ∧
         a.queue = [] ∧ (a.moveTo target speed).target ≠ a.pCmd) ∧
    (∃ (s : State) (d : Nat) (ch : Nat) (rec : Bytes), let a := (s.m.axis d ch);
         let off := (a.pCmd - a.pEnc (s.m.chan d ch).enc); let target := (leIntAt rec 4 4);
         let speed := (leAt rec 8 4); let ramps := ((leAt rec 12 4, leAt rec 16 4));
         let code := (a.judge (leAt rec 0 1) target speed ramps.1 ramps.2); s.m.fdUp d = true ∧ d < s.m.fds.length ∧
         ch < (s.m.fd d).axes.length ∧ (s.m.axis d ch).cmd = some rec ∧ (s.m.fd d).inComm = false ∧
         a.nextItem = none ∧ off.natAbs ≤ a.item.window ∧ leAt rec 0 1 = 2 ∧ code = 0 ∧ a.state = .standstill ∧
         a.queue = [] ∧ (a.moveTo (a.pCmd + target) speed).target ≠ a.pCmd) ∧
    (∃ (s : State) (d : Nat) (ch : Nat) (rec : Bytes), let a := (s.m.axis d ch);
         let off := (a.pCmd - a.pEnc (s.m.chan d ch).enc); let target := (leIntAt rec 4 4);
         let speed := (leAt rec 8 4); let ramps := ((leAt rec 12 4, leAt rec 16 4));
         let code := (a.judge (leAt rec 0 1) target speed ramps.1 ramps.2); s.m.fdUp d = true ∧ d < s.m.fds.length ∧
         ch < (s.m.fd d).axes.length ∧ (s.m.axis d ch).cmd = some rec ∧ (s.m.fd d).inComm = false ∧
         a.nextItem = none ∧ off.natAbs ≤ a.item.window ∧ leAt rec 0 1 = 3 ∧ code = 0 ∧ a.state = .waiting ∧
         a.granted = false ∧ (a.moveTo target speed).target ≠ a.pCmd) ∧
    (∃ (s : State) (d : Nat) (ch : Nat) (rec : Bytes), let a := (s.m.axis d ch);
         let off := (a.pCmd - a.pEnc (s.m.chan d ch).enc); let target := (leIntAt rec 4 4);
         let speed := (leAt rec 8 4); let ramps := ((leAt rec 12 4, leAt rec 16 4));
         let code := (a.judge (leAt rec 0 1) target speed ramps.1 ramps.2); s.m.fdUp d = true ∧ d < s.m.fds.length ∧
         ch < (s.m.fd d).axes.length ∧ (s.m.axis d ch).cmd = some rec ∧ (s.m.fd d).inComm = false ∧
         a.nextItem = none ∧ off.natAbs ≤ a.item.window ∧ leAt rec 0 1 = 4 ∧ code = 0 ∧ a.state = .waiting ∧
         a.granted = false) ∧
    (∃ (s : State) (d : Nat) (ch : Nat) (rec : Bytes), let a := (s.m.axis d ch);
         let off := (a.pCmd - a.pEnc (s.m.chan d ch).enc); let target := (leIntAt rec 4 4);
         let speed := (leAt rec 8 4); let ramps := ((leAt rec 12 4, leAt rec 16 4));
         let code := (a.judge (leAt rec 0 1) target speed ramps.1 ramps.2); s.m.fdUp d = true ∧ d < s.m.fds.length ∧
         ch < (s.m.fd d).axes.length ∧ (s.m.axis d ch).cmd = some rec ∧ (s.m.fd d).inComm = false ∧
         a.nextItem = none ∧ off.natAbs ≤ a.item.window ∧ leAt rec 0 1 = 5 ∧ code = 0 ∧ a.state = .standstill ∧
         a.plan = none) ∧
    (∃ (s : State) (d : Nat) (ch : Nat) (rec : Bytes), let a := (s.m.axis d ch);
         let off := (a.pCmd - a.pEnc (s.m.chan d ch).enc); let target := (leIntAt rec 4 4);
         let speed := (leAt rec 8 4); let ramps := ((leAt rec 12 4, leAt rec 16 4));
         let code := (a.judge (leAt rec 0 1) target speed ramps.1 ramps.2); s.m.fdUp d = true ∧ d < s.m.fds.length ∧
         ch < (s.m.fd d).axes.length ∧ (s.m.axis d ch).cmd = some rec ∧ (s.m.fd d).inComm = false ∧
         a.nextItem = none ∧ off.natAbs ≤ a.item.window ∧ leAt rec 0 1 = 6 ∧ code = 0) ∧
    (∃ (s : State) (d : Nat) (ch : Nat) (rec : Bytes), let a := (s.m.axis d ch);
         let off := (a.pCmd - a.pEnc (s.m.chan d ch).enc); s.m.fdUp d = true ∧ d < s.m.fds.length ∧
         ch < (s.m.fd d).axes.length ∧ (s.m.axis d ch).cmd = some rec ∧ (s.m.fd d).inComm = false ∧
         a.nextItem = none ∧ off.natAbs ≤ a.item.window ∧ leAt rec 0 1 = 7 ∧ a.state = .fault ∧
         (a.stall = true ∨ a.limit = true) ∧ ((s.m.fd d).outp ch 0).fault = 0) ∧
    (∃ (s : State) (d : Nat) (ch : Nat) (rec : Bytes), let a := (s.m.axis d ch);
         let off := (a.pCmd - a.pEnc (s.m.chan d ch).enc); let target := (leIntAt rec 4 4);
         let speed := (leAt rec 8 4); let ramps := ((leAt rec 12 4, leAt rec 16 4));
         let code := (a.judge (leAt rec 0 1) target speed ramps.1 ramps.2); s.m.fdUp d = true ∧ d < s.m.fds.length ∧
         ch < (s.m.fd d).axes.length ∧ (s.m.axis d ch).cmd = some rec ∧ (s.m.fd d).inComm = false ∧
         a.nextItem = none ∧ off.natAbs ≤ a.item.window ∧ leAt rec 0 1 = 1 ∧ code ≠ 0 ∧ a.state ≠ .moving ∧
         a.state ≠ .fault) :=
  ⟨⟨base.axis 0 0 ({ · with state := .standstill, item := axisCfg, cmd := some ([1, 9, 0, 0] ++ leBytes 4 500 ++ leBytes 4 1000) }),
       0, 0, [1, 9, 0, 0] ++ leBytes 4 500 ++ leBytes 4 1000, by decide +kernel⟩,
    ⟨base.axis 0 0 ({ · with state := .standstill, item := axisCfg, cmd := some [2, 9] }), 0, 0, [2, 9],
         by decide +kernel⟩,
    ⟨base.axis 0 0 ({ · with state := .standstill, item := axisCfg, cmd := some [3, 9] }), 0, 0, [3, 9],
         by decide +kernel⟩,
    ⟨base.axis 0 0 ({ · with state := .standstill, item := axisCfg, cmd := some [4, 9] }), 0, 0, [4, 9],
         by decide +kernel⟩,
    ⟨base.axis 0 0 ({ · with state := .standstill, item := axisCfg, cmd := some [5, 9] }), 0, 0, [5, 9],
         by decide +kernel⟩,
    ⟨base.axis 0 0 ({ · with state := .standstill, item := axisCfg, cmd := some [6, 9] }), 0, 0, [6, 9],
         by decide +kernel⟩,
    ⟨base.axis 0 0 ({ · with state := .standstill, item := axisCfg, cmd := some [7, 9] }), 0, 0, [7, 9],
         by decide +kernel⟩,
    ⟨base.axis 0 0 ({ · with state := .standstill, item := axisCfg, referenced := true, cmd := some ([1, 9, 0, 0] ++ leBytes 4 500 ++ leBytes 4 1000) }),
         0, 0, [1, 9, 0, 0] ++ leBytes 4 500 ++ leBytes 4 1000, by dsimp only; decide +kernel⟩,
    ⟨base.axis 0 0 ({ · with state := .standstill, item := axisCfg, cmd := some ([2, 9, 0, 0] ++ leBytes 4 500 ++ leBytes 4 1000) }),
         0, 0, [2, 9, 0, 0] ++ leBytes 4 500 ++ leBytes 4 1000, by dsimp only; decide +kernel⟩,
    ⟨base.axis 0 0 ({ · with state := .waiting, item := axisCfg, referenced := true, queue := [{ target := 4, speed := 5 }], cmd := some ([3, 9, 0, 0] ++ leBytes 4 500 ++ leBytes 4 1000) }),
         0, 0, [3, 9, 0, 0] ++ leBytes 4 500 ++ leBytes 4 1000, by dsimp only; decide +kernel⟩,
    ⟨base.axis 0 0 ({ · with state := .waiting, item := axisCfg, queue := [{ target := 4, speed := 5 }], cmd := some [4, 9] }),
         0, 0, [4, 9], by dsimp only; decide +kernel⟩,
    ⟨base.axis 0 0 ({ · with state := .standstill, item := axisCfg, cmd := some ([5, 9, 0, 0] ++ leBytes 8 0 ++ leBytes 4 100 ++ leBytes 4 1) }),
         0, 0, [5, 9, 0, 0] ++ leBytes 8 0 ++ leBytes 4 100 ++ leBytes 4 1, by dsimp only; decide +kernel⟩,
    ⟨base.axis 0 0 ({ · with state := .standstill, item := axisCfg, cmd := some ([6, 9, 0, 0] ++ leBytes 4 5000) }),
         0, 0, [6, 9, 0, 0] ++ leBytes 4 5000, by dsimp only; decide +kernel⟩,
    ⟨base.axis 0 0 ({ · with state := .fault, stall := true, item := axisCfg, cmd := some [7, 9] }), 0, 0, [7, 9],
         by dsimp only; decide +kernel⟩,
    ⟨base.axis 0 0 ({ · with state := .standstill, item := axisCfg, referenced := true, cmd := some ([1, 9, 0, 0] ++ leBytes 4 500 ++ leBytes 4 1001) }),
         0, 0, [1, 9, 0, 0] ++ leBytes 4 500 ++ leBytes 4 1001, by dsimp only; decide +kernel⟩⟩

/-- The premises of AxisEventsAct are met, clause by clause. -/
theorem meets_AxisEventsAct :
    (∃ (s : State) (d : Nat) (ch : Nat), s.m.fdUp d = true ∧ d < s.m.fds.length ∧ ch < (s.m.fd d).axes.length) ∧
    (∃ (s : State) (d : Nat) (ch : Nat), let a := (s.m.axis d ch); s.m.fdUp d = true ∧ d < s.m.fds.length ∧
         ch < (s.m.fd d).axes.length ∧ (a.stallCount < ((axisNext d ch s.m.fresh).axis d ch).stallCount ∨ (a.stall = false ∧
         ((axisNext d ch s.m.fresh).axis d ch).stall = true))) ∧
    (∃ (s : State) (d : Nat) (ch : Nat), let a := (s.m.axis d ch); let off := (a.pCmd - a.pEnc (s.m.chan d ch).enc);
         s.m.fdUp d = true ∧ d < s.m.fds.length ∧ ch < (s.m.fd d).axes.length ∧ a.tested = true ∧
         a.state ≠ .moving ∧ a.item.window < off.natAbs ∧ a.item.windowUpdates ≤ a.beyond + 1 ∧ a.stall = false ∧
         a.cmd = none ∧ a.nextItem = none) ∧
    (∃ (s : State) (d : Nat) (ch : Nat), let a := (s.m.axis d ch); s.m.fdUp d = true ∧ d < s.m.fds.length ∧
         ch < (s.m.fd d).axes.length ∧ a.state = .holding) ∧
    (∃ (s : State) (d : Nat) (ch : Nat), let a := (s.m.axis d ch); let off := (a.pCmd - a.pEnc (s.m.chan d ch).enc);
         s.m.fdUp d = true ∧ d < s.m.fds.length ∧ ch < (s.m.fd d).axes.length ∧ a.state = .holding ∧ a.cmd = none ∧
         a.nextItem = none ∧ off.natAbs ≤ a.item.window) ∧
    (∃ (s : State) (d : Nat) (ch : Nat), ∃ l v, s.m.fdUp d = true ∧ d < s.m.fds.length ∧
         ch < (s.m.fd d).axes.length ∧ Heard s l v ∧ (s.m.sel l v).motAxis = 64 * d + ch ∧ ch < 64 ∧
         s.m.fdReach l d = true ∧ (s.m.fd d).claim = (s.m.lane l).red.claim ∧ claimLane (s.m.lane l).red.claim = l ∧
         (s.m.lane l).red.holds = true) ∧
    (∃ (s : State) (l : LaneId), (s.m.lane l).red.holds = true ∧ (s.m.lane l).pwr.step < 2 ∧
         (s.m.lane l).mot.await = []) ∧
    (∃ (s : State) (d : Nat), ∃ src claim ch rest, s.m.mail = ⟨src, 4 + d, .grant claim ch⟩ :: rest ∧
         s.m.fdReach (laneOfDie src) d = true ∧ claim = (s.m.fd d).claim ∧ claimLane claim = laneOfDie src ∧
         (s.m.axis d ch).state = .waiting ∧ (s.m.fd d).vacant = false) ∧
    (∃ (s : State) (d : Nat), ∃ src claim ch rest, s.m.mail = ⟨src, 4 + d, .grant claim ch⟩ :: rest ∧
         s.m.fdReach (laneOfDie src) d = true ∧ claim = (s.m.fd d).claim ∧ claimLane claim = laneOfDie src ∧
         (s.m.axis d ch).state ≠ .waiting ∨ (s.m.fd d).vacant = true) ∧
    (∃ (s : State) (d : Nat), ∃ src claim ch rest, s.m.mail = ⟨src, 4 + d, .grant claim ch⟩ :: rest ∧
         (s.m.fdReach (laneOfDie src) d = false ∨ claim ≠ (s.m.fd d).claim ∨ claimLane claim ≠ laneOfDie src)) :=
  ⟨⟨base, 3, 0, by decide +kernel⟩,
    ⟨base.axis 0 0 ({ · with state := .standstill, item := axisCfg, pCmd := 11, beyond := 2 }), 0, 0,
         by dsimp only; decide +kernel⟩,
    ⟨base.axis 0 0 ({ · with state := .standstill, item := axisCfg, pCmd := 11, beyond := 2 }), 0, 0,
         by dsimp only; decide +kernel⟩,
    ⟨base.axis 0 0 ({ · with state := .holding, item := axisCfg, holdAt := 123456 }), 0, 0,
         by dsimp only; decide +kernel⟩,
    ⟨base.axis 0 0 ({ · with state := .holding, item := axisCfg, holdAt := 123456 }), 0, 0,
         by dsimp only; decide +kernel⟩,
    ⟨(base.sel .A .host ({ · with motAxis := 255 })).axis 3 63 ({ · with state := .fault, stall := true }), 3, 63,
         .A, .host, by decide +kernel⟩,
    ⟨(base.ln .A fun L => { L with mot := { L.mot with requests := [(0, 1, 2), (5, 0, 3), (64, 2, 1)], granted := [1], await := [] }, pwr := { L.pwr with step := 1 } }),
         .A, by decide +kernel⟩,
    ⟨(base.axis 3 63 ({ · with state := .waiting })).post 0 7 (.grant (base.m.fd 3).claim 63), 3, 0,
         (((base.axis 3 63 ({ · with state := .waiting })).post 0 7 (.grant (base.m.fd 3).claim 63)).m.fd 3).claim,
         63, ((base.axis 3 63 ({ · with state := .waiting })).post 0 7 (.grant (base.m.fd 3).claim 63)).m.mail.tail,
         by decide +kernel⟩,
    ⟨(base.axis 3 63 ({ · with state := .standstill })).post 0 7 (.grant (base.m.fd 3).claim 63), 3, 0,
         (((base.axis 3 63 ({ · with state := .standstill })).post 0 7 (.grant (base.m.fd 3).claim 63)).m.fd 3).claim,
         63, ((base.axis 3 63 ({ · with state := .standstill })).post 0 7 (.grant (base.m.fd 3).claim 63)).m.mail.tail,
         by decide +kernel⟩,
    ⟨(base.axis 3 63 ({ · with state := .waiting })).post 0 7 (.grant 99 63), 3, 0, 99, 63,
         ((base.axis 3 63 ({ · with state := .waiting })).post 0 7 (.grant 99 63)).m.mail.tail, by decide +kernel⟩⟩

/-- The premises of AdmissionKeepsTheBudget are met, clause by clause. -/
theorem meets_AdmissionKeepsTheBudget :
    (∃ (s : State) (t : State) (l : LaneId), exec (.admissionRound l) s = .next t ∧
         (s.m.lane l).mot.granted.length ≤ (s.m.lane l).budget) ∧
    (∃ (s : State) (t : State) (l : LaneId), exec (.admissionRound l) s = .next t ∧ 2 ≤ (s.m.lane l).pwr.step) :=
  ⟨⟨(base.ln .A fun L => { L with mot := { L.mot with requests := [(0, 1, 2), (5, 0, 3), (64, 2, 1)], granted := [1], await := [] } }),
       (match exec (.admissionRound .A) (base.ln .A fun L => { L with mot := { L.mot with requests := [(0, 1, 2), (5, 0, 3), (64, 2, 1)], granted := [1], await := [] } }) with | .next t => t | _ => (base.ln .A fun L => { L with mot := { L.mot with requests := [(0, 1, 2), (5, 0, 3), (64, 2, 1)], granted := [1], await := [] } })),
       .A, ⟨rfl, by decide +kernel⟩⟩,
    ⟨base.pwr .A ({ · with step := 2 }),
         match exec (.admissionRound .A) (base.pwr .A ({ · with step := 2 })) with | .next t => t | _ => (base.pwr .A ({ · with step := 2 })),
         .A, ⟨rfl, by decide +kernel⟩⟩⟩

/-- The premises of LoopsAct are met, clause by clause. -/
theorem meets_LoopsAct :
    (∃ (s : State) (d : Nat) (k : Nat), ∃ rec, s.m.fdUp d = true ∧ k < (s.m.fd d).loops.length ∧
         ((s.m.fd d).loopCfg d k).kind ≠ 0 ∧ (s.m.loop d k).cmd = some rec ∧ leAt rec 0 1 = 1 ∧
         leIntAt rec 12 4 < leIntAt rec 8 4 ∧ (s.m.loop d k).mode = .auto) ∧
    (∃ (s : State) (d : Nat) (k : Nat), ∃ rec, s.m.fdUp d = true ∧ k < (s.m.fd d).loops.length ∧
         ((s.m.fd d).loopCfg d k).kind ≠ 0 ∧ (s.m.loop d k).cmd = some rec ∧ leAt rec 0 1 = 1 ∧
         leIntAt rec 8 4 ≤ leIntAt rec 12 4) ∧
    (∃ (s : State) (d : Nat) (k : Nat), ∃ rec, s.m.fdUp d = true ∧ k < (s.m.fd d).loops.length ∧
         ((s.m.fd d).loopCfg d k).kind ≠ 0 ∧ (s.m.loop d k).cmd = some rec ∧ leAt rec 0 1 = 2) ∧
    (∃ (s : State) (d : Nat) (k : Nat), ∃ rec, s.m.fdUp d = true ∧ k < (s.m.fd d).loops.length ∧
         ((s.m.fd d).loopCfg d k).kind ≠ 0 ∧ (s.m.loop d k).cmd = some rec ∧ leAt rec 0 1 = 3) ∧
    (∃ (s : State) (d : Nat) (k : Nat), ∃ rec, s.m.fdUp d = true ∧ k < (s.m.fd d).loops.length ∧
         ((s.m.fd d).loopCfg d k).kind ≠ 0 ∧ (s.m.loop d k).cmd = some rec ∧ leAt rec 0 1 = 1) ∧
    (∃ (s : State) (d : Nat) (k : Nat), s.m.fdUp d = true ∧ k < (s.m.fd d).loops.length ∧
         ((s.m.fd d).loopCfg d k).kind ≠ 0 ∧ (s.m.fd d).atRest s.m.supplyGood = false) ∧
    (∃ (s : State) (d : Nat) (k : Nat), s.m.fdUp d = true ∧ k < (s.m.fd d).loops.length ∧
         ((s.m.fd d).loopCfg d k).kind ≠ 0 ∧ (s.m.fd d).atRest s.m.supplyGood = false ∧ (s.m.loop d k).cmd = none ∧
         ((s.m.fd d).loopCfg d k).kind = 2) ∧
    (∃ (s : State) (d : Nat) (k : Nat), s.m.fdUp d = true ∧ k < (s.m.fd d).loops.length ∧
         ((s.m.fd d).loopCfg d k).kind ≠ 0 ∧ nbit ((s.m.fd d).loopCfg d k).flags 3 = true ∧
         (s.m.loop d k).plaus = false ∧ (s.m.loop d k).mode = .auto ∧
         ((s.m.loop d k).r.natAbs : Int) > ((s.m.fd d).loopCfg d k).rMax ∧
         ((s.m.fd d).loopCfg d k).m ≤ (s.m.loop d k).count) ∧
    (∃ (s : State) (d : Nat) (k : Nat), ∃ l v, s.m.fdUp d = true ∧ k < (s.m.fd d).loops.length ∧
         ((s.m.fd d).loopCfg d k).kind ≠ 0 ∧ Heard s l v ∧ (s.m.sel l v).lpSlot = 64 * d + k ∧ k < 64 ∧
         s.m.fdReach l d = true ∧ (s.m.fd d).claim = (s.m.lane l).red.claim ∧ claimLane (s.m.lane l).red.claim = l ∧
         (s.m.lane l).red.holds = true) ∧
    (∃ (x : LoopSlot) (e : Int), x.eOff < e ∧ e < x.eOn) ∧
    (∃ (x : LoopSlot) (e : Int), x.on = false ∧ x.eOn ≤ e) ∧
    (∃ (x : LoopSlot) (e : Int), x.on = true ∧ e ≤ x.eOff) ∧
    (∃ (x : LoopSlot) (c : LoopCfg) (now : Nat), ∃ a, c.kind ≠ 1 ∧ x.on = true ∧ x.onSince = some a ∧
         now < a + c.minOnMs * 1000000) ∧
    (∃ (x : LoopSlot) (c : LoopCfg) (now : Nat), ∃ a, c.kind ≠ 1 ∧ x.on = false ∧ x.offSince = some a ∧
         now < a + c.minOffMs * 1000000) :=
  ⟨⟨base.loop 0 0 ({ · with mode := .auto, cmd := some ([1, 9, 0, 0] ++ leBytes 4 100 ++ leBytes 4 5 ++ leBytes 4 4) }),
       0, 0, [1, 9, 0, 0] ++ leBytes 4 100 ++ leBytes 4 5 ++ leBytes 4 4, by decide +kernel⟩,
    ⟨base.loop 0 0 ({ · with mode := .auto, cmd := some ([1, 9, 0, 0] ++ leBytes 4 100 ++ leBytes 4 5 ++ leBytes 4 5) }),
         0, 0, [1, 9, 0, 0] ++ leBytes 4 100 ++ leBytes 4 5 ++ leBytes 4 5, by decide +kernel⟩,
    ⟨base.loop 0 0 ({ · with mode := .auto, on := true, cmd := some [2, 9] }), 0, 0, [2, 9], by decide +kernel⟩,
    ⟨base.loop 0 0 ({ · with mode := .auto, plaus := true, cmd := some [3, 9] }), 0, 0, [3, 9], by decide +kernel⟩,
    ⟨base.loop 0 0 ({ · with mode := .auto, cmd := some ([1, 9, 0, 0] ++ leBytes 4 100 ++ leBytes 4 5 ++ leBytes 4 4) }),
         0, 0, [1, 9, 0, 0] ++ leBytes 4 100 ++ leBytes 4 5 ++ leBytes 4 4, by decide +kernel⟩,
    ⟨base.loop 0 1 ({ · with mode := .auto, cmd := none }), 0, 1, by decide +kernel⟩,
    ⟨base.loop 0 1 ({ · with mode := .auto, cmd := none }), 0, 1, by decide +kernel⟩,
    ⟨base.loop 0 1 ({ · with mode := .auto, r := -8, plaus := false }), 0, 1, by decide +kernel⟩,
    ⟨(base.sel .A .host ({ · with lpSlot := 1 })).loop 0 1 ({ · with plaus := true }), 0, 1, .A, .host,
         by decide +kernel⟩,
    ⟨{ on := true, eOn := 5, eOff := -5 }, 4, by decide +kernel⟩,
    ⟨{ eOn := 5, eOff := -5 }, 5, by decide +kernel⟩,
    ⟨{ on := true, eOn := 5, eOff := -5 }, -5, by decide +kernel⟩,
    ⟨{ on := true, onSince := some 0 }, { kind := 2, minOnMs := 1 }, 999999, 0, by decide +kernel⟩,
    ⟨{ on := false, offSince := some 0 }, { kind := 2, minOffMs := 1 }, 999999, 0, by decide +kernel⟩⟩

/-- The premises of MeteringEventsAct are met, clause by clause. -/
theorem meets_MeteringEventsAct :
    (∃ (s : State) (d : Nat), s.m.fdUp d = true ∧ (s.m.fd d).atRest s.m.supplyGood = false) ∧
    (∃ (s : State) (d : Nat), ∃ p, s.m.fdUp d = true ∧ (at? (s.m.fd d).mps p {}).settling = true) ∧
    (∃ (s : State) (d : Nat), ∃ h, let b := ((blocksFirst [d] s.m.fresh).fd d); s.m.fdUp d = true ∧
         ((s.m.fd d).hpCfg d h).kind ≠ 0 ∧ s.m.injectedPoint d true h = false ∧ h < b.hps.length ∧
         (at? b.hps h {}).regs.length = 6) ∧
    (∃ (s : State) (d : Nat), ∃ h, let b := ((blocksFirst [d] s.m.fresh).fd d); s.m.fdUp d = true ∧
         ((s.m.fd d).hpCfg d h).kind ≠ 0 ∧ s.m.injectedPoint d true h = false ∧ h < b.hps.length ∧
         (at? b.hps h {}).regs.length = 6 ∧ (at? b.hps h {}).tempRange = false ∧
         heatBad b ((s.m.fd d).hpCfg d h) (at? b.hps h {}) = false) ∧
    (∃ (s : State) (d : Nat), s.m.fdUp d = true ∧ (s.m.fd d).tbValid = true ∧ (s.m.fd d).metCfg.demandMin ≠ 0) ∧
    (∃ (s : State) (d : Nat), ∃ p k a, let x := ((s.m.fd d).pulseAt d p k); s.m.fdUp d = true ∧ k < 2 ∧
         (p < (s.m.fd d).mps.length ∧ p < 256 ∧ (at? (s.m.fd d).mps p {}).pulses.length = 2 ∨ 256 ≤ p ∧
         p - 256 < (s.m.fd d).hps.length ∧ (at? (s.m.fd d).hps (p - 256) {}).pulses.length = 2) ∧
         x.1.reachAt (x.2.weight * 2 ^ 32) = some a ∧ x.2.onCode ≠ 0 ∧ x.1.active = false ∧
         (s.m.fd d).openBy s.m.supplyGood x.2.ch x.2.out = false) ∧
    (∃ (s : State) (d : Nat), ∃ p k a, s.m.fdUp d = true ∧ k < 2 ∧ (p < (s.m.fd d).mps.length ∧ p < 256 ∧
         (at? (s.m.fd d).mps p {}).pulses.length = 2 ∨ 256 ≤ p ∧ p - 256 < (s.m.fd d).hps.length ∧
         (at? (s.m.fd d).hps (p - 256) {}).pulses.length = 2) ∧ ((s.m.fd d).pulseAt d p k).1.active = true ∧
         ((s.m.fd d).pulseAt d p k).1.lastAt = some a) :=
  ⟨⟨base, 3, by decide +kernel⟩,
    ⟨(base.fl 3 fun f => { f with mps := upd f.mps 31 ({ · with settling := true }) }), 3, 31, by decide +kernel⟩,
    ⟨base, 0, 0, by dsimp only; decide +kernel⟩,
    ⟨base, 0, 0, by dsimp only; decide +kernel⟩,
    ⟨base.fl 0 ({ · with tbValid := true }), 0, by decide +kernel⟩,
    ⟨(base.fl 0 fun f => { f with mps := upd f.mps 0 fun x => { x with pulses := [{ residue := 10 * 2 ^ 32, feedAt := 1000000 }, {}] } }),
         0, 0, 0, 1000000, by dsimp only; decide +kernel⟩,
    ⟨(base.fl 0 fun f => { f with mps := upd f.mps 31 fun x => { x with pulses := [{}, { active := true, lastAt := some 77 }] } }),
         0, 31, 1, 77, by decide +kernel⟩⟩

/-- The premises of PulsesAreEarned are met, clause by clause. -/
theorem meets_PulsesAreEarned :
    ∃ (p : PulseOut) (w : Nat) (a : Nat) (now : Nat), p.reachAt w = some a ∧ a ≤ now :=
  ⟨{ feed := 200, feedAt := 0 }, 100, 100000000, 100000000, by decide +kernel⟩

/-- The premises of RegistersKeepTheEnergy are met, clause by clause. -/
theorem meets_RegistersKeepTheEnergy :
    (∃ (m : Module) (d : Nat) (p : Nat) (idx : Nat) (inc : Nat) (thermal : Bool),
         let regs := (fun (x : Module) => if thermal then (at? (x.fd d).hps p {}).regs else (at? (x.fd d).mps p {}).regs); let r := (at? (regs m) idx {}); d < m.fds.length ∧
         p < (if thermal then (m.fd d).hps.length else (m.fd d).mps.length) ∧ idx < (regs m).length ∧
         r.value < 10 ^ 18 ∧ r.frac < 2 ^ 32 ∧ inc ≤ (10 ^ 18 - 1) * 2 ^ 32) ∧
    (∃ (m : Module) (d : Nat) (p : Nat) (idx : Nat) (inc : Nat) (thermal : Bool),
         let regs := (fun (x : Module) => if thermal then (at? (x.fd d).hps p {}).regs else (at? (x.fd d).mps p {}).regs); let r := (at? (regs m) idx {}); let reached := (10 ^ 18 ≤ r.value + (r.frac + inc) / 2 ^ 32); d < m.fds.length ∧
         p < (if thermal then (m.fd d).hps.length else (m.fd d).mps.length) ∧ idx < (regs m).length ∧
         r.value < 10 ^ 18 ∧ r.frac < 2 ^ 32 ∧ inc ≤ (10 ^ 18 - 1) * 2 ^ 32 ∧ reached) ∧
    (∃ (m : Module) (d : Nat) (p : Nat) (idx : Nat) (inc : Nat) (thermal : Bool),
         let regs := (fun (x : Module) => if thermal then (at? (x.fd d).hps p {}).regs else (at? (x.fd d).mps p {}).regs); let r := (at? (regs m) idx {}); let reached := (10 ^ 18 ≤ r.value + (r.frac + inc) / 2 ^ 32); d < m.fds.length ∧
         p < (if thermal then (m.fd d).hps.length else (m.fd d).mps.length) ∧ idx < (regs m).length ∧
         r.value < 10 ^ 18 ∧ r.frac < 2 ^ 32 ∧ inc ≤ (10 ^ 18 - 1) * 2 ^ 32 ∧ ¬reached) ∧
    (∃ (m : Module) (d : Nat) (p : Nat) (idx : Nat) (inc : Nat) (thermal : Bool),
         let regs := (fun (x : Module) => if thermal then (at? (x.fd d).hps p {}).regs else (at? (x.fd d).mps p {}).regs); let r := (at? (regs m) idx {}); let reached := (10 ^ 18 ≤ r.value + (r.frac + inc) / 2 ^ 32); d < m.fds.length ∧
         p < (if thermal then (m.fd d).hps.length else (m.fd d).mps.length) ∧ idx < (regs m).length ∧
         r.value < 10 ^ 18 ∧ r.frac < 2 ^ 32 ∧ inc ≤ (10 ^ 18 - 1) * 2 ^ 32 ∧ reached ∧ m.fdHeard d = true ∧
         (m.lane (claimLane (m.fd d).claim)).red.holds = true) ∧
    (∃ (m : Module) (d : Nat) (p : Nat) (idx : Nat) (inc : Nat) (thermal : Bool),
         let regs := (fun (x : Module) => if thermal then (at? (x.fd d).hps p {}).regs else (at? (x.fd d).mps p {}).regs); let r := (at? (regs m) idx {}); let reached := (10 ^ 18 ≤ r.value + (r.frac + inc) / 2 ^ 32); d < m.fds.length ∧
         p < (if thermal then (m.fd d).hps.length else (m.fd d).mps.length) ∧ idx < (regs m).length ∧
         r.value < 10 ^ 18 ∧ r.frac < 2 ^ 32 ∧ inc ≤ (10 ^ 18 - 1) * 2 ^ 32 ∧ reached ∧ m.fdHeard d = false ∧
         (m.fd d).evq.length < 128) :=
  ⟨⟨((base.fl 3 fun f => { f with mps := upd f.mps 0 fun x => { x with regs := upd x.regs 7 fun _ => { value := 10 ^ 18 - 1, frac := 2 ^ 32 - 1, roll := 65535 } } }).m),
       3, 0, 7, 1, false, by dsimp only; decide +kernel⟩,
    ⟨((base.fl 3 fun f => { f with mps := upd f.mps 0 fun x => { x with regs := upd x.regs 7 fun _ => { value := 10 ^ 18 - 1, frac := 2 ^ 32 - 1, roll := 65535 } } }).m),
         3, 0, 7, 1, false, by dsimp only; decide +kernel⟩,
    ⟨((base.fl 3 fun f => { f with hps := upd f.hps 15 fun x => { x with regs := upd x.regs 5 fun _ => { value := 10 ^ 18 - 2, frac := 2 ^ 32 - 1, roll := 65535 } } }).m),
         3, 15, 5, 1, true, by dsimp only; decide +kernel⟩,
    ⟨((base.fl 3 fun f => { f with mps := upd f.mps 0 fun x => { x with regs := upd x.regs 7 fun _ => { value := 10 ^ 18 - 1, frac := 2 ^ 32 - 1, roll := 65535 } } }).m),
         3, 0, 7, 1, false, by dsimp only; decide +kernel⟩,
    ⟨(((base.fl 3 fun f => { f with vacant := true, mps := upd f.mps 0 fun x => { x with regs := upd x.regs 7 fun _ => { value := 10 ^ 18 - 1, frac := 2 ^ 32 - 1, roll := 65535 } } })).m),
         3, 0, 7, 1, false, by dsimp only; decide +kernel⟩⟩

/-- The premises of SavesAndReadoutsAct are met, clause by clause. -/
theorem meets_SavesAndReadoutsAct :
    (∃ (s : State) (l : LaneId), (s.m.lane l).red.holds = true ∧ s.m.restored l = true ∧ s.m.supplyGood = true ∧
         (s.m.lane l).sys.phase = .up) ∧
    (∃ (s : State) (l : LaneId), ∃ k recs at_, (s.m.lane l).mtr.save = some (k, recs, at_) ∧ k ≠ 1) ∧
    (∃ (s : State) (l : LaneId) (v : View), Heard s l v ∧ (s.m.lane l).sys.mode ≠ .blank ∧
         (s.m.lane l).mtr.readoutAt = none ∧ (at? (s.m.lane l).hst.rings 3 {}).state = 1) ∧
    (∃ (s : State) (l : LaneId) (v : View), Heard s l v ∧ (s.m.lane l).sys.mode = .blank) ∧
    (∃ (s : State) (l : LaneId), ∃ at_ k,
         let latched := (fun (m : Module) => blocksFirst (m.fdsOf l) (clockTo (cdiv (at_ + 1000000) 200000000 * 200000000) m)); let slot := (match (s.m.lane l).cfg.active with | none => 0 | some b => (b.metering.getD {}).readoutSlot); let u := (useSlotAs 9 l slot 4 false (latched s.m.fresh)); (s.m.lane l).mtr.readoutAt = some at_ ∧
         (s.m.lane l).mtr.readoutRec = none ∧ u.1 = .ok k) ∧
    (∃ (s : State) (l : LaneId), ∃ at_ e,
         let latched := (fun (m : Module) => blocksFirst (m.fdsOf l) (clockTo (cdiv (at_ + 1000000) 200000000 * 200000000) m)); let slot := (match (s.m.lane l).cfg.active with | none => 0 | some b => (b.metering.getD {}).readoutSlot); let u := (useSlotAs 9 l slot 4 false (latched s.m.fresh)); (s.m.lane l).mtr.readoutAt = some at_ ∧
         (s.m.lane l).mtr.readoutRec = none ∧ u.1 = .error e) ∧
    (∃ (s : State) (l : LaneId), ∃ at_, (s.m.lane l).mtr.readoutAt = some at_ ∧ (s.m.lane l).mtr.readoutRec = none) ∧
    (∃ (s : State) (l : LaneId), ∃ at_, (s.m.lane l).mtr.readoutRec.isSome = true ∧
         (s.m.lane l).mtr.readoutAt = some at_ ∧ ((s.m.lane l).ring 3).ending = none) ∧
    (∃ (s : State) (l : LaneId) (v : View), ∃ d p, Heard s l v ∧ (s.m.lane l).sys.mode ∈ [.commission, .run,
         .runForced] ∧ (s.m.lane l).mtr.readoutAt = none ∧ fld (s.m.sel l v).mtrPt 6 0 = 32 * d + p ∧ p < 32 ∧
         bitOf (s.m.sel l v).mtrPt 8 = false ∧ s.m.fdReach l d = true ∧ ((s.m.fd d).mpCfg d p).kind ≠ 0 ∧
         65 ≤ (s.m.lane l).evr.mFree) ∧
    (∃ (s : State) (l : LaneId) (v : View), Heard s l v ∧ (s.m.lane l).sys.mode ≠ .blank ∧
         (s.m.lane l).mtr.readoutAt.isSome = true) ∧
    (∃ (s : State) (l : LaneId) (v : View), Heard s l v ∧ (s.m.lane l).sys.mode ≠ .blank ∧
         (s.m.lane l).mtr.readoutAt = none ∧ (at? (s.m.lane l).hst.rings 3 {}).state ≠ 1) ∧
    (∃ (s : State) (l : LaneId) (v : View), Heard s l v ∧ (s.m.lane l).sys.mode ∉ [.commission, .run, .runForced]) ∧
    (∃ (s : State) (l : LaneId) (v : View), Heard s l v ∧ (s.m.lane l).sys.mode ∈ [.commission, .run, .runForced] ∧
         (s.m.lane l).mtr.readoutAt.isSome = true) :=
  ⟨⟨(base.md fun m => { m with fds := m.fds.map ({ · with restored := true }) }), .A, by decide +kernel⟩,
    ⟨base.mtr .A ({ · with save := some (0, [(0, [1]), (1, [2])], 5) }), .A, 0, [(0, [1]), (1, [2])], 5,
         by decide +kernel⟩,
    ⟨base, .A, .host, by decide +kernel⟩,
    ⟨base.sys .A ({ · with mode := .blank }), .A, .host, by decide +kernel⟩,
    ⟨(base.mtr .A ({ · with readoutAt := some 77, readoutRec := none })).key .A 9 0x210 (List.replicate 32 1), .A,
         77, List.replicate 32 1, by dsimp only; decide +kernel⟩,
    ⟨base.mtr .A ({ · with readoutAt := some 77, readoutRec := none }) |>.key .A 9 0x200 (List.replicate 32 1), .A,
         77, keyAttr, by dsimp only; decide +kernel⟩,
    ⟨base.mtr .A ({ · with readoutAt := some 77, readoutRec := none }), .A, 77, by decide +kernel⟩,
    ⟨(base.mtr .A ({ · with readoutAt := some 77, readoutRec := some [1, 2] })).ring .A 3 ({ · with ending := none }),
         .A, 77, by decide +kernel⟩,
    ⟨base, .A, .host, 0, 0, by decide +kernel⟩,
    ⟨base.mtr .A ({ · with readoutAt := some 77 }), .A, .host, by decide +kernel⟩,
    ⟨base.ring .A 3 ({ · with state := 0 }), .A, .host, by decide +kernel⟩,
    ⟨base.sys .A ({ · with mode := .loaded }), .A, .host, by decide +kernel⟩,
    ⟨base.mtr .A ({ · with readoutAt := some 77 }), .A, .host, by decide +kernel⟩⟩

/-- The premises of CanFramesAct are met, clause by clause. -/
theorem meets_CanFramesAct :
    (∃ (s : State) (d : Nat) (p : Nat) (f : CanFrame), s.m.canOn d p = true ∧
         (f.fdf = false ∨ ((s.m.fd d).canCfg d p).mode ≠ 1) ∧ (s.m.canPort d p).recCnt ≤ 127) ∧
    (∃ (s : State) (d : Nat) (p : Nat) (f : CanFrame), s.m.canOn d p = true ∧
         (f.fdf = false ∨ ((s.m.fd d).canCfg d p).mode ≠ 1) ∧ 127 < (s.m.canPort d p).recCnt) ∧
    (∃ (s : State) (d : Nat) (p : Nat) (f : CanFrame), s.m.canOn d p = true ∧ f.fdf = true ∧
         ((s.m.fd d).canCfg d p).mode = 1) ∧
    (∃ (s : State) (d : Nat) (p : Nat), ∃ f, s.m.canOn d p = true ∧ offered (s.m.canPort d p).txq = some f ∧
         (s.m.canPort d p).maySend ((s.m.fd d).canCfg d p) = true ∨ f.started = true) ∧
    (∃ (s : State) (d : Nat) (p : Nat), s.m.canOn d p = true) ∧
    (∃ (s : State) (d : Nat) (p : Nat), s.m.canOn d p = true ∧ (s.m.canPort d p).txq.any (·.started) = true) :=
  ⟨⟨base, 0, 0, { ident := 5, dlc := 1, data := [7] }, by decide +kernel⟩,
    ⟨base.can 0 0 ({ · with recCnt := 128, state := 1 }), 0, 0, { ident := 5, dlc := 1, data := [7] },
         by decide +kernel⟩,
    ⟨base, 0, 0, { ident := 5, fdf := true }, by decide +kernel⟩,
    ⟨base.can 0 0 ({ · with txq := [{ ident := 9, order := 1 }, { ident := 3, order := 2, started := true }] }), 0,
         0, { ident := 3, order := 2, started := true }, by decide +kernel⟩,
    ⟨base, 0, 0, by decide +kernel⟩,
    ⟨base.can 0 0 ({ · with txq := [{ ident := 9, order := 1, started := true }], tecCnt := 250 }), 0, 0,
         by decide +kernel⟩⟩

/-- The premises of CanPortsAct are met, clause by clause. -/
theorem meets_CanPortsAct :
    (∃ (s : State) (d : Nat) (p : Nat), s.m.fdUp d = true ∧ (s.m.canPort d p).state = 3) ∧
    (∃ (s : State) (d : Nat), s.m.fdUp d = true) ∧
    (∃ (s : State) (d : Nat) (p : Nat), ∃ l v w, Heard s l v ∧ (s.m.sel l v).canPort = 4 * d + p ∧ p < 4 ∧
         s.m.fdReach l d = true ∧ (s.m.fd d).claim = (s.m.lane l).red.claim ∧ claimLane (s.m.lane l).red.claim = l ∧
         (s.m.lane l).red.holds = true ∧ bitOf w 0 = true ∧ (s.m.canPort d p).state = 2) ∧
    (∃ (s : State) (d : Nat) (p : Nat), ∃ l v w, Heard s l v ∧ (s.m.sel l v).canPort = 4 * d + p ∧ p < 4 ∧
         s.m.fdReach l d = true ∧ (s.m.fd d).claim = (s.m.lane l).red.claim ∧ claimLane (s.m.lane l).red.claim = l ∧
         (s.m.lane l).red.holds = true ∧ (bitOf w 0 = false ∨ (s.m.canPort d p).state ≠ 2)) ∧
    (∃ (s : State) (d : Nat) (p : Nat), ∃ l v w, Heard s l v ∧ (s.m.sel l v).canPort = 4 * d + p ∧ p < 4 ∧
         s.m.fdReach l d = true ∧ (s.m.fd d).claim = (s.m.lane l).red.claim ∧ claimLane (s.m.lane l).red.claim = l ∧
         (s.m.lane l).red.holds = true ∧ bitOf w 31 = true ∧ (bitOf w 5 = false ∨ ((s.m.fd d).canCfg d p).mode ≠ 1)) ∧
    (∃ (s : State) (d : Nat) (p : Nat), ∃ l v w, Heard s l v ∧ (s.m.sel l v).canPort = 4 * d + p ∧ p < 4 ∧
         s.m.fdReach l d = true ∧ (s.m.fd d).claim = (s.m.lane l).red.claim ∧ claimLane (s.m.lane l).red.claim = l ∧
         (s.m.lane l).red.holds = true ∧ bitOf w 31 = false) ∧
    (∃ (s : State) (l : LaneId), ∃ d p e rest, (s.m.canPort d p).fifo = e :: rest ∧ s.m.fdHeard d = true ∧
         claimLane (s.m.fd d).claim = l ∧ secondPast s.m.now (s.m.canPort d p).lostEvAt = true) ∧
    (∃ (s : State) (l : LaneId), ∃ d p e rest, (s.m.canPort d p).fifo = e :: rest ∧ s.m.fdHeard d = true ∧
         claimLane (s.m.fd d).claim = l ∧ secondPast s.m.now (s.m.canPort d p).lostEvAt = false) ∧
    (∃ (s : State) (l : LaneId), ∃ d p e rest, (s.m.canPort d p).fifo = e :: rest ∧ s.m.fdHeard d = true ∧
         claimLane (s.m.fd d).claim = l ∧ (s.m.lane l).cfg.active = none ∧ ((s.m.lane l).ring 5).state ≠ 1) ∧
    (∃ (s : State) (l : LaneId), ∃ d p e rest nw, (s.m.canPort d p).fifo = e :: rest ∧ s.m.fdHeard d = true ∧
         claimLane (s.m.fd d).claim = l ∧ (s.m.lane l).cfg.active.bind (·.network) = some nw ∧
         nbit e.flags 5 = false ∧ recordEntry nw (4 * d + p) e = none) ∧
    (∃ (s : State) (l : LaneId), ∃ d p e rest nw sub, (s.m.canPort d p).fifo = e :: rest ∧ s.m.fdHeard d = true ∧
         claimLane (s.m.fd d).claim = l ∧ (s.m.lane l).cfg.active.bind (·.network) = some nw ∧
         nbit e.flags 5 = false ∧ recordEntry nw (4 * d + p) e = some sub) ∧
    (∃ (s : State) (l : LaneId), ∃ r a nw sub, ((s.m.lane l).can.eng r).asm = some a ∧
         (s.m.lane l).cfg.active.bind (·.network) = some nw ∧ nw.subs.find? (·.record == r) = some sub) ∧
    (∃ (s : State) (l : LaneId), ∃ port, ∃ (dg : UdpDatagram), ∃ nw,
         (s.m.lane l).cfg.active.bind (·.network) = some nw ∧ (s.m.lane l).portUp port = true ∧
         dg.port = nw.udpPort ∧ dg.payload.length ≤ 1472) ∧
    (∃ (s : State) (l : LaneId), ∃ port, ∃ (dg : UdpDatagram), ∃ nw,
         (s.m.lane l).cfg.active.bind (·.network) = some nw ∧ (s.m.lane l).portUp port = true ∧
         (dg.port ≠ nw.udpPort ∨ 1472 < dg.payload.length)) :=
  ⟨⟨base.can 0 0 ({ · with state := 3, tecCnt := 255 }), 0, 0, by decide +kernel⟩,
    ⟨base.can 0 0 ({ · with oldTiming := some {} }), 0, by decide +kernel⟩,
    ⟨(base.sel .A .host ({ · with canPort := 15 })).can 3 3 ({ · with state := 2 }), 3, 3, .A, .host, 1,
         by decide +kernel⟩,
    ⟨base.sel .A .host ({ · with canPort := 15 }), 3, 3, .A, .host, 1, by decide +kernel⟩,
    ⟨base.sel .A .host ({ · with canPort := 0 }), 0, 0, .A, .host, 0x80000001, by decide +kernel⟩,
    ⟨base.sel .A .host ({ · with canPort := 0 }), 0, 0, .A, .host, 0x7FFFFFFF, by decide +kernel⟩,
    ⟨base.can 0 0 ({ · with fifo := [{ ident := 4 }, { ident := 5 }], lostEvAt := none }), .A, 0, 0, { ident := 4 },
         [({ ident := 5 } : CapEntry)], by decide +kernel⟩,
    ⟨base.can 0 0 ({ · with fifo := [{ ident := 4 }, { ident := 5 }], lostEvAt := some 999999 }), .A, 0, 0,
         { ident := 4 }, [({ ident := 5 } : CapEntry)], by decide +kernel⟩,
    ⟨((base.can 0 0 ({ · with fifo := [{ ident := 4 }, { ident := 5 }] })).cfg .A ({ · with active := none })).ring .A 5 ({ · with state := 0 }),
         .A, 0, 0, { ident := 4 }, [({ ident := 5 } : CapEntry)], by decide +kernel⟩,
    ⟨base.can 0 0 ({ · with fifo := [{ ident := 4 }, { ident := 5 }] }), .A, 0, 0, { ident := 4 },
         [({ ident := 5 } : CapEntry)], network, by decide +kernel⟩,
    ⟨base.can 0 0 ({ · with fifo := [{ ident := 0x1000, flags := 3, len := 8, data := [0, 1, 2, 3, 4, 5, 6, 7] }, { ident := 5 }] }),
         .A, 0, 0, { ident := 0x1000, flags := 3, len := 8, data := [0, 1, 2, 3, 4, 5, 6, 7] },
         [({ ident := 5 } : CapEntry)], network, (network.subs.headD {}), by decide +kernel⟩,
    ⟨(base.ln .A fun L => { L with can := L.can.setEng { record := 1, asm := some { record := 1, openedAt := 50 } } }),
         .A, 1, { record := 1, openedAt := 50 }, network, (network.subs.headD {}), by decide +kernel⟩,
    ⟨base, .A, 1, { port := 5000, srcIp := 3, payload := [1, 2, 3] }, network, by decide +kernel⟩,
    ⟨base, .A, 1, { port := 5001, srcIp := 3, payload := [1, 2, 3] }, network, by decide +kernel⟩⟩

/-- The premises of TransmitQueuesAreOrdered are met, clause by clause. -/
theorem meets_TransmitQueuesAreOrdered :
    (∃ (q : List TxFrame), (∀ g ∈ q, g.started = false) ∧ q ≠ []) ∧
    (∃ (m : Module) (d : Nat) (p : Nat), (m.canPort d p).txq.length ≤ 32) :=
  ⟨⟨[{ ident := 5, order := 1 }, { ident := 3, order := 2 }], by decide +kernel⟩,
    ⟨(base.can 0 0 ({ · with txq := List.replicate 31 {} })).m, 0, 0, by decide +kernel⟩⟩

/-- The premises of PtpMessagesAct are met, clause by clause. -/
theorem meets_PtpMessagesAct :
    (∃ (s : State) (l : LaneId) (port : Nat) (k : Nat) (msg : PtpMsg), s.m.slotFor l port msg = some k ∧
         at? ((s.m.lane l).slot k).portState port 0 = 9 ∧ (s.m.lane l).slotState k ≠ .lost ∧ msg.twoStep = false) ∧
    (∃ (s : State) (l : LaneId) (port : Nat) (k : Nat) (msg : PtpMsg), s.m.slotFor l port msg = some k ∧
         at? ((s.m.lane l).slot k).portState port 0 = 9 ∧ (s.m.lane l).slotState k ≠ .lost ∧ msg.twoStep = true) ∧
    (∃ (s : State) (l : LaneId) (port : Nat) (k : Nat) (msg : PtpMsg), s.m.slotFor l port msg = some k ∧
         at? ((s.m.lane l).slot k).portState port 0 = 9 ∧ (s.m.lane l).slotState k = .lost) ∧
    (∃ (s : State) (l : LaneId) (port : Nat) (k : Nat) (msg : PtpMsg), ∃ t2 corr, s.m.slotFor l port msg = some k ∧
         ((s.m.lane l).slot k).waitFu = some (port, msg.seq, t2, corr)) ∧
    (∃ (s : State) (l : LaneId) (port : Nat) (k : Nat) (msg : PtpMsg), s.m.slotFor l port msg = some k ∧
         msg.source = Config.clockIdentity l.num) ∧
    (∃ (s : State) (l : LaneId) (port : Nat) (k : Nat) (msg : PtpMsg),
         let heard := (((s.m.lane l).slot k).foreign.find? fun f => f.port == port && f.sender == msg.source);
         let f : Foreign := (⟨port, msg.source, msg.gm, (List.range 5).map (at? msg.rank · 0), msg.steps,
         s.m.now :: ((heard.map (·.heard)).getD []).take 1⟩);
         let kept := (fun m => decidePorts l k (updSlot l k (fun x => { x with foreign := (x.foreign.filter fun g => !(g.port == port && g.sender == msg.source)) ++ [f] }) m)); let here := (kept s.m.fresh); let follows := (∃ g,
         (here.lane l).parent k here.now = some g ∧ g.port = port ∧ g.sender = msg.source ∧
         at? ((here.lane l).slot k).portState port 0 = 9); s.m.slotFor l port msg = some k ∧
         msg.source ≠ Config.clockIdentity l.num ∧ ¬follows) ∧
    (∃ (s : State) (l : LaneId) (port : Nat) (k : Nat) (msg : PtpMsg),
         let heard := (((s.m.lane l).slot k).foreign.find? fun f => f.port == port && f.sender == msg.source);
         let f : Foreign := (⟨port, msg.source, msg.gm, (List.range 5).map (at? msg.rank · 0), msg.steps,
         s.m.now :: ((heard.map (·.heard)).getD []).take 1⟩);
         let kept := (fun m => decidePorts l k (updSlot l k (fun x => { x with foreign := (x.foreign.filter fun g => !(g.port == port && g.sender == msg.source)) ++ [f] }) m)); let here := (kept s.m.fresh); let follows := (∃ g,
         (here.lane l).parent k here.now = some g ∧ g.port = port ∧ g.sender = msg.source ∧
         at? ((here.lane l).slot k).portState port 0 = 9); s.m.slotFor l port msg = some k ∧
         msg.source ≠ Config.clockIdentity l.num ∧ follows) ∧
    (∃ (s : State) (l : LaneId) (port : Nat) (k : Nat) (msg : PtpMsg), ∃ q ms, s.m.slotFor l port msg = some k ∧
         msg.kind = 9 ∧ at? ((s.m.lane l).slot k).delayReq port none = some q ∧ q.seq = msg.seq ∧
         ((s.m.lane l).slot k).msDiff = some (port, ms) ∧ nbit ((s.m.lane l).portCfg l port).ptp 1 = false ∧
         msg.target = Config.clockIdentity l.num) ∧
    (∃ (s : State) (l : LaneId) (port : Nat) (k : Nat) (msg : PtpMsg), s.m.slotFor l port msg = some k ∧
         msg.kind = 2 ∧ nbit ((s.m.lane l).portCfg l port).ptp 1 = true ∧
         nbit ((s.m.lane l).portCfg l port).ptp 2 = false) ∧
    (∃ (s : State) (l : LaneId) (port : Nat) (k : Nat) (msg : PtpMsg), s.m.slotFor l port msg = some k ∧
         msg.kind = 2 ∧ nbit ((s.m.lane l).portCfg l port).ptp 1 = true ∧
         nbit ((s.m.lane l).portCfg l port).ptp 2 = true) ∧
    (∃ (s : State) (l : LaneId) (port : Nat) (k : Nat) (msg : PtpMsg), ∃ q, s.m.slotFor l port msg = some k ∧
         at? ((s.m.lane l).slot k).delayReq port none = some q ∧ q.seq = msg.seq ∧
         nbit ((s.m.lane l).portCfg l port).ptp 1 = true ∧ msg.kind = 3 ∧ msg.twoStep = false) ∧
    (∃ (s : State) (l : LaneId) (port : Nat) (k : Nat) (msg : PtpMsg), ∃ q, s.m.slotFor l port msg = some k ∧
         at? ((s.m.lane l).slot k).delayReq port none = some q ∧ q.seq = msg.seq ∧
         nbit ((s.m.lane l).portCfg l port).ptp 1 = true ∧ msg.kind = 3 ∧ msg.twoStep = true) ∧
    (∃ (s : State) (l : LaneId) (port : Nat) (k : Nat) (msg : PtpMsg), ∃ q t4 t2, s.m.slotFor l port msg = some k ∧
         at? ((s.m.lane l).slot k).delayReq port none = some q ∧ q.seq = msg.seq ∧
         nbit ((s.m.lane l).portCfg l port).ptp 1 = true ∧ msg.kind = 10 ∧ q.resp = some (t4, t2)) ∧
    (∃ (s : State) (l : LaneId) (port : Nat) (k : Nat) (msg : PtpMsg), s.m.slotFor l port msg = some k ∧
         at? ((s.m.lane l).slot k).portState port 0 = 6) ∧
    (∃ (s : State) (l : LaneId) (port : Nat) (k : Nat) (msg : PtpMsg), s.m.slotFor l port msg = some k ∧
         msg.kind = 0) :=
  ⟨⟨base.slot .A 1 ({ · with state := .locked, portState := [0, 9], samples := [(5, 7)] }), .A, 1, 1,
       { domain := 2, sfd := 1005000, nanos := 1000000, correction := 3 }, by decide +kernel⟩,
    ⟨base.slot .A 1 ({ · with state := .listening, portState := [0, 9] }), .A, 1, 1,
         { domain := 2, sfd := 1005000, nanos := 1000000, correction := 3, twoStep := true }, by decide +kernel⟩,
    ⟨base.slot .A 1 ({ · with state := .lost, portState := [0, 9] }), .A, 1, 1,
         { domain := 2, sfd := 1005000, nanos := 1000000, correction := 3, twoStep := true }, by decide +kernel⟩,
    ⟨base.slot .A 1 ({ · with state := .listening, portState := [0, 9], waitFu := some (1, 7, 100, 3) }), .A, 1, 1,
         { domain := 2, seq := 7, nanos := 1000000, correction := 3, twoStep := true }, 100, 3, by decide +kernel⟩,
    ⟨base, .A, 1, 1, { domain := 2, source := Config.clockIdentity 0, gm := 5 }, by decide +kernel, rfl⟩,
    stranger.elim
      (fun h => ⟨base, .A, 1, 1, announce 4, by decide +kernel, h, fun ⟨_, h,
           _⟩ => nomatch (show none = some _ from h)⟩)
      (fun h => ⟨base, .A, 1, 1, announce 5, by decide +kernel, h, fun ⟨_, h,
           _⟩ => nomatch (show none = some _ from h)⟩),
    stranger.elim
      (fun h => ⟨followed 4, .A, 1, 1, announce 4, by decide +kernel, h, _, rfl, rfl, rfl, rfl⟩)
      (fun h => ⟨followed 5, .A, 1, 1, announce 5, by decide +kernel, h, _, rfl, rfl, rfl, rfl⟩),
    ⟨base.slot .A 1 ({ · with state := .locked, delayReq := [none, some { seq := 7, sent := 50 }], msDiff := some (1, 20) }),
         .A, 1, 1, { domain := 2, kind := 9, seq := 7, nanos := 90, target := Config.clockIdentity 0 },
         { seq := 7, sent := 50 }, 20, ⟨by decide +kernel, by decide +kernel, by decide +kernel, by decide +kernel,
         by decide +kernel, by decide +kernel, rfl⟩⟩,
    ⟨base.net .A (portFlags 3), .A, 1, 1, { domain := 2, kind := 2, seq := 7, sfd := 9 }, by decide +kernel⟩,
    ⟨base.net .A (portFlags 7), .A, 1, 1, { domain := 2, kind := 2, seq := 7, sfd := 9 }, by decide +kernel⟩,
    ⟨(base.net .A (portFlags 3)).slot .A 1 ({ · with delayReq := [none, some { seq := 7, sent := 50 }] }), .A, 1, 1,
         { domain := 2, kind := 3, seq := 7, sfd := 90 }, { seq := 7, sent := 50 }, by decide +kernel⟩,
    ⟨(base.net .A (portFlags 3)).slot .A 1 ({ · with delayReq := [none, some { seq := 7, sent := 50 }] }), .A, 1, 1,
         { domain := 2, kind := 3, seq := 7, sfd := 90, twoStep := true }, { seq := 7, sent := 50 },
         by decide +kernel⟩,
    ⟨(base.net .A (portFlags 3)).slot .A 1 ({ · with delayReq := [none, some { seq := 7, sent := 50, resp := some (90, 60) }] }),
         .A, 1, 1, { domain := 2, kind := 10, seq := 7, nanos := 70 },
         { seq := 7, sent := 50, resp := some (90, 60) }, 90, 60, by decide +kernel⟩,
    ⟨base.slot .A 1 ({ · with portState := [0, 6] }), .A, 1, 1, { domain := 2, kind := 1, seq := 7, sfd := 9 },
         by decide +kernel⟩,
    ⟨base, .A, 1, 1, { domain := 2, kind := 0, seq := 7 }, by decide +kernel⟩⟩

/-- The premises of TimeActs are met, clause by clause. -/
theorem meets_TimeActs :
    (∃ (s : State) (l : LaneId) (port : Nat) (k : Nat), let state := (at? ((s.m.lane l).slot k).portState port 0);
         (s.m.lane l).red.holds = true ∧ k ≤ 1 ∧ (s.m.lane l).portUp port = true ∧
         (s.m.lane l).slotOn l k port = true ∧ state = 6 ∧ nbit ((s.m.lane l).portCfg l port).ptp 2 = false) ∧
    (∃ (s : State) (l : LaneId) (port : Nat) (k : Nat), let state := (at? ((s.m.lane l).slot k).portState port 0);
         (s.m.lane l).red.holds = true ∧ k ≤ 1 ∧ (s.m.lane l).portUp port = true ∧
         (s.m.lane l).slotOn l k port = true ∧ state = 6 ∧ nbit ((s.m.lane l).portCfg l port).ptp 2 = true) ∧
    (∃ (s : State) (l : LaneId) (port : Nat) (k : Nat), let state := (at? ((s.m.lane l).slot k).portState port 0);
         let peer := (nbit ((s.m.lane l).portCfg l port).ptp 1); (s.m.lane l).red.holds = true ∧ k ≤ 1 ∧
         (s.m.lane l).portUp port = true ∧ (s.m.lane l).slotOn l k port = true ∧ state = 9 ∧ peer = false) ∧
    (∃ (s : State) (l : LaneId) (port : Nat) (k : Nat), let peer := (nbit ((s.m.lane l).portCfg l port).ptp 1);
         (s.m.lane l).red.holds = true ∧ k ≤ 1 ∧ (s.m.lane l).portUp port = true ∧
         (s.m.lane l).slotOn l k port = true ∧ peer = true) ∧
    (∃ (s : State) (l : LaneId) (port : Nat) (k : Nat), let state := (at? ((s.m.lane l).slot k).portState port 0);
         (s.m.lane l).red.holds = true ∧ k ≤ 1 ∧ (s.m.lane l).portUp port = true ∧
         (s.m.lane l).slotOn l k port = true ∧ state = 6) ∧
    (∃ (s : State) (l : LaneId) (k : Nat), ∃ a, (s.m.lane l).red.holds = true ∧ k ≤ 1 ∧
         (s.m.lane l).slotSteers k = true ∧ ((s.m.lane l).slot k).syncAt = some a ∧
         ((s.m.lane l).slot k).annAt = none) ∧
    (∃ (s : State) (l : LaneId) (k : Nat), ∃ b, (s.m.lane l).red.holds = true ∧ k ≤ 1 ∧
         (s.m.lane l).slotSteers k = false ∧ (s.m.lane l).slotState k ≠ .disabled ∧
         ((s.m.lane l).slot k).annAt = some b) ∧
    (∃ (s : State) (l : LaneId), (s.m.lane l).red.holds = true ∧ (s.m.lane l).ptp.slewing = true) ∧
    (∃ (s : State) (l : LaneId), ∃ v, (s.m.lane l).red.holds = true ∧ Heard s l v ∧
         (s.m.lane l).slotSteers (1 - (s.m.lane l).ptp.steer) = true ∧ (s.m.lane l).ptp.steerState ≠ 2) ∧
    (∃ (s : State) (l : LaneId), ∃ v, (s.m.lane l).red.holds = true ∧ Heard s l v ∧
         (s.m.lane l).slotSteers (1 - (s.m.lane l).ptp.steer) = true ∧ (s.m.lane l).ptp.steerState = 2) ∧
    (∃ (s : State) (l : LaneId), ∃ v, (s.m.lane l).red.holds = true ∧ Heard s l v ∧
         (s.m.lane l).slotSteers (1 - (s.m.lane l).ptp.steer) = false) ∧
    (∃ (s : State) (l : LaneId), ∃ v, (s.m.lane l).red.holds = true ∧ Heard s l v ∧
         (s.m.lane l).ptp.steerState = 1 ∧ (s.m.lane l).rtc.lockout = true) ∧
    (∃ (s : State) (l : LaneId), ∃ v, (s.m.lane l).red.holds = true ∧ Heard s l v ∧
         (s.m.lane l).ptp.steerState = 1 ∧ (s.m.lane l).rtc.lockout = false) ∧
    (∃ (s : State) (l : LaneId), ∃ v, (s.m.lane l).red.holds = true ∧ Heard s l v ∧ (s.m.lane l).ptp.steerState ≠ 1) ∧
    (∃ (s : State) (l : LaneId), ∃ sec, (s.m.lane l).red.holds = true ∧ (s.m.lane l).ptp.setRtc = some sec ∧
         (s.m.lane l).rtc.lockout = true) ∧
    (∃ (s : State) (l : LaneId), ∃ sec, (s.m.lane l).red.holds = true ∧ (s.m.lane l).ptp.setRtc = some sec ∧
         (s.m.lane l).rtc.lockout = false ∧ (s.m.lane l).rtc.stagedOk = true) :=
  ⟨⟨base.slot .A 1 ({ · with portState := [0, 6] }), .A, 1, 1, by dsimp only; decide +kernel⟩,
    ⟨(base.net .A (portFlags 5)).slot .A 1 ({ · with portState := [0, 6] }), .A, 1, 1, by dsimp only; decide +kernel⟩,
    ⟨base.slot .A 1 ({ · with portState := [0, 9] }), .A, 1, 1, by dsimp only; decide +kernel⟩,
    ⟨(base.net .A (portFlags 3)).slot .A 1 ({ · with portState := [0, 9] }), .A, 1, 1, by dsimp only; decide +kernel⟩,
    ⟨base.slot .A 1 ({ · with portState := [0, 6] }), .A, 1, 1, by dsimp only; decide +kernel⟩,
    ⟨base.slot .A 1 ({ · with state := .locked, syncAt := some 5, annAt := none }), .A, 1, 5, by decide +kernel⟩,
    ⟨base.slot .A 1 ({ · with state := .listening, annAt := some 5, portState := [3, 9] }), .A, 1, 5,
         by decide +kernel⟩,
    ⟨base.ptp .A ({ · with slewing := true, slewEnd := 2000000, slewLeft := -5, rate := 7 }), .A, by decide +kernel⟩,
    ⟨base.slot .A 1 ({ · with state := .locked }), .A, .host, by decide +kernel⟩,
    ⟨(base.slot .A 1 ({ · with state := .locked })).ptp .A ({ · with steer := 0, steerState := 2 }), .A, .host,
         by decide +kernel⟩,
    ⟨base, .A, .host, by decide +kernel⟩,
    ⟨(base.ptp .A ({ · with steerState := 1 })).rtc .A ({ · with lockout := true }), .A, .host, by decide +kernel⟩,
    ⟨base.ptp .A ({ · with steerState := 1 }), .A, .host, by decide +kernel⟩,
    ⟨base, .A, .host, by decide +kernel⟩,
    ⟨(base.ptp .A ({ · with setRtc := some 1000000000 })).rtc .A ({ · with lockout := true }), .A, 1000000000,
         by decide +kernel⟩,
    ⟨base.ptp .A ({ · with setRtc := some 1000000000 }), .A, 1000000000, by decide +kernel⟩⟩

/-- The premises of EthernetPortsAct are met, clause by clause. -/
theorem meets_EthernetPortsAct :
    (∃ (s : State) (l : LaneId) (port : Nat), ∃ up gig, port ≤ 1 ∧ (s.m.lane l).linkUp port = !up ∧
         (up = true → (s.m.lane l).red.holds = true ∧
         (((s.m.lane l).portCfg l port).mode = 1 ∨ (((s.m.lane l).portCfg l port).mode = 2 ∧
         gig = true) ∨ (((s.m.lane l).portCfg l port).mode = 3 ∧ gig = false)))) ∧
    (∃ (s : State) (l : LaneId) (port : Nat) (ip : BitVec 32), port ≤ 1 ∧ (s.m.lane l).portUp port = true ∧ ip ≠ 0 ∧
         ip.toNat = ((s.m.lane l).portCfg l port).ipv4) ∧
    (∃ (s : State) (l : LaneId) (port : Nat) (ip : BitVec 32), port ≤ 1 ∧ (s.m.lane l).portUp port = true ∧
         ip.toNat ≠ ((s.m.lane l).portCfg l port).ipv4) ∧
    (∃ (s : State) (l : LaneId) (port : Nat), port ≤ 1 ∧ (s.m.lane l).portUp port = true) :=
  ⟨⟨base.ptp .A ({ · with ports := [{}, {}] }), .A, 1, true, true, by decide +kernel⟩,
    ⟨base, .A, 1, 0x0A000001, by decide +kernel⟩,
    ⟨base, .A, 1, 0x0A000002, by decide +kernel⟩,
    ⟨base, .A, 1, by decide +kernel⟩⟩

/-- The premises of MemoryProgramsAct are met, clause by clause. -/
theorem meets_MemoryProgramsAct :
    (∃ (s : State) (l : LaneId), (s.m.lane l).sysOn = true ∧ (s.m.lane l).mayProgram = true) ∧
    (∃ (s : State) (l : LaneId) (w : Word), (s.m.lane l).sysOn = true ∧ (s.m.lane l).mayProgram = true ∧
         bitOf w 31 = false) ∧
    (∃ (s : State) (l : LaneId) (w : Word), let a := ((s.m.lane l).nvm.progAddr.toNat); let len := (fld w 6 0);
         let bs := ((bytesOf (s.m.lane l).nvm.progData).take len); (s.m.lane l).sysOn = true ∧
         (s.m.lane l).mayProgram = true ∧ bitOf w 31 = true ∧
         (len = 0 ∨ 64 < len ∨ programRefused s.m l .firmware a bs = true)) ∧
    (∃ (s : State) (l : LaneId) (w : Word), let a := ((s.m.lane l).nvm.progAddr.toNat); let len := (fld w 6 0);
         let bs := ((bytesOf (s.m.lane l).nvm.progData).take len); let image := (a < 0x1800000 ∨ (0x2720200 ≤ a ∧
         a < 0x2720A00)); let frozen := ((s.m.lane l).cfg.state = .checking ∨ (s.m.lane l).cfg.state = .armed);
         (s.m.lane l).sysOn = true ∧ (s.m.lane l).mayProgram = true ∧ bitOf w 31 = true ∧ 0 < len ∧ len ≤ 64 ∧
         programRefused s.m l .firmware a bs = false ∧ image ∧ frozen) ∧
    (∃ (s : State) (l : LaneId) (w : Word), let a := ((s.m.lane l).nvm.progAddr.toNat); let len := (fld w 6 0);
         let bs := ((bytesOf (s.m.lane l).nvm.progData).take len); let image := (a < 0x1800000 ∨ (0x2720200 ≤ a ∧
         a < 0x2720A00)); let frozen := ((s.m.lane l).cfg.state = .checking ∨ (s.m.lane l).cfg.state = .armed);
         (s.m.lane l).sysOn = true ∧ (s.m.lane l).mayProgram = true ∧ bitOf w 31 = true ∧ 0 < len ∧ len ≤ 64 ∧
         programRefused s.m l .firmware a bs = false ∧ ¬(image ∧ frozen) ∧ a < 0x1800000) ∧
    (∃ (s : State) (l : LaneId) (w : Word), let a := ((s.m.lane l).nvm.progAddr.toNat); let len := (fld w 6 0);
         let bs := ((bytesOf (s.m.lane l).nvm.progData).take len); let image := (a < 0x1800000 ∨ (0x2720200 ≤ a ∧
         a < 0x2720A00)); let frozen := ((s.m.lane l).cfg.state = .checking ∨ (s.m.lane l).cfg.state = .armed);
         (s.m.lane l).sysOn = true ∧ (s.m.lane l).mayProgram = true ∧ bitOf w 31 = true ∧ 0 < len ∧ len ≤ 64 ∧
         programRefused s.m l .firmware a bs = false ∧ ¬(image ∧ frozen) ∧ 0x1800000 ≤ a) ∧
    (∃ (s : State) (l : LaneId), ∃ p, (s.m.lane l).sysOn = true ∧ (s.m.lane l).mayProgram = true ∧
         (s.m.lane l).nvm.busy = some p) :=
  ⟨⟨base.nvm .A ({ · with progAddr := 0x2720000 }), .A, by decide +kernel⟩,
    ⟨base, .A, 0x7FFFFFFF, by decide +kernel⟩,
    ⟨base, .A, 0x80000000, by dsimp only; decide +kernel⟩,
    ⟨(base.nvm .A ({ · with progAddr := 0xC00000 })).cfg .A ({ · with state := .checking }), .A, 0x80000040,
         by dsimp only; decide +kernel⟩,
    ⟨base.nvm .A ({ · with progAddr := 0xC00000 }), .A, 0x80000040, by dsimp only; decide +kernel⟩,
    ⟨base.nvm .A ({ · with progAddr := 0x2700000 }), .A, 0x80000001, by dsimp only; decide +kernel⟩,
    ⟨base.nvm .A ({ · with busy := some { addr := 0x2720200, bytes := [1, 2, 3] }, waiting := [{ addr := 0x2720300, bytes := [1] }] }),
         .A, { addr := 0x2720200, bytes := [1, 2, 3] }, by decide +kernel⟩⟩

/-- The premises of RecorderWritesInOrder are met, clause by clause. -/
theorem meets_RecorderWritesInOrder :
    (∃ (s : State) (l : LaneId) (r : EvRec) (rest : List EvRec), let e := ((s.m.lane l).evr);
         let able := (e.known = true ∧ (s.m.lane l).nvmOn = true ∧ (s.m.lane l).sys.holdupOk = true ∧
         s.m.supplyGood = true ∧ (s.m.lane l).sys.phase ≠ .stopped ∧ (s.m.lane l).sys.phase ≠ .off ∧
         (s.m.lane l).sys.phase ≠ .saving ∧ ∀ k ∈ s.m.laneList, (s.m.lane k).sys.phase ≠ .saving); able ∧
         e.frozen = false ∧ e.held = r :: rest) ∧
    (∃ (s : State) (l : LaneId) (r : EvRec) (rest : List EvRec), let e := ((s.m.lane l).evr);
         let able := (e.known = true ∧ (s.m.lane l).nvmOn = true ∧ (s.m.lane l).sys.holdupOk = true ∧
         s.m.supplyGood = true ∧ (s.m.lane l).sys.phase ≠ .stopped ∧ (s.m.lane l).sys.phase ≠ .off ∧
         (s.m.lane l).sys.phase ≠ .saving ∧ ∀ k ∈ s.m.laneList, (s.m.lane k).sys.phase ≠ .saving);
         let down := ((s.m.lane l).sys.phase = .saving); (able ∨ down) ∧ (e.frozen = true ∨ down ∨ e.held = []) ∧
         e.queue = r :: rest ∧ isMetrology r.code = true ∧ (s.m.lane l).red.holds = true) ∧
    (∃ (s : State) (l : LaneId) (r : EvRec) (rest : List EvRec), let e := ((s.m.lane l).evr);
         let able := (e.known = true ∧ (s.m.lane l).nvmOn = true ∧ (s.m.lane l).sys.holdupOk = true ∧
         s.m.supplyGood = true ∧ (s.m.lane l).sys.phase ≠ .stopped ∧ (s.m.lane l).sys.phase ≠ .off ∧
         (s.m.lane l).sys.phase ≠ .saving ∧ ∀ k ∈ s.m.laneList, (s.m.lane k).sys.phase ≠ .saving); able ∧
         e.frozen = true ∧ e.queue = r :: rest ∧ isMetrology r.code = false) ∧
    (∃ (s : State) (l : LaneId) (r : EvRec) (rest : List EvRec), let e := ((s.m.lane l).evr);
         let able := (e.known = true ∧ (s.m.lane l).nvmOn = true ∧ (s.m.lane l).sys.holdupOk = true ∧
         s.m.supplyGood = true ∧ (s.m.lane l).sys.phase ≠ .stopped ∧ (s.m.lane l).sys.phase ≠ .off ∧
         (s.m.lane l).sys.phase ≠ .saving ∧ ∀ k ∈ s.m.laneList, (s.m.lane k).sys.phase ≠ .saving); able ∧
         e.frozen = false ∧ e.held = [] ∧ e.queue = r :: rest ∧ isMetrology r.code = false) ∧
    (∃ (s : State) (l : LaneId) (r : EvRec) (rest : List EvRec), let e := ((s.m.lane l).evr);
         let down := ((s.m.lane l).sys.phase = .saving); down ∧ e.queue = r :: rest ∧ isMetrology r.code = false) ∧
    (∃ (s : State) (l : LaneId), let e := ((s.m.lane l).evr); let down := ((s.m.lane l).sys.phase = .saving);
         (e.known = false ∨ (s.m.lane l).nvmOn = false ∨ (s.m.lane l).sys.holdupOk = false ∨ s.m.supplyGood = false) ∧
         ¬down) :=
  ⟨⟨base.evr .A ({ · with freezeHost := none, freezeFw := none, held := [{ code := 0x8005 }], intake := [{ code := 1 }] }),
       .A, { code := 0x8005 }, [], by dsimp only; decide +kernel⟩,
    ⟨base.evr .A ({ · with freezeHost := some 5, held := [{ code := 0x8005 }], intake := [{ code := 0x5803 }] }),
         .A, { code := 0x5803 }, [], by dsimp only; decide +kernel⟩,
    ⟨base.evr .A ({ · with freezeHost := some 5, held := [], intake := [{ code := 0x8005 }] }), .A,
         { code := 0x8005 }, [], by dsimp only; decide +kernel⟩,
    ⟨base.evr .A ({ · with freezeHost := none, freezeFw := none, held := [], intake := [{ code := 0x8005 }] }), .A,
         { code := 0x8005 }, [], by dsimp only; decide +kernel⟩,
    ⟨(base.evr .A ({ · with intake := [{ code := 0x8005 }] })).sys .A ({ · with phase := .saving }), .A,
         { code := 0x8005 }, [], by dsimp only; decide +kernel⟩,
    ⟨base.evr .A ({ · with known := false }), .A, by dsimp only; decide +kernel⟩⟩

/-- The premises of RecorderCommandsAct are met, clause by clause. -/
theorem meets_RecorderCommandsAct :
    (∃ code block, code < 65536 ∧ block < 32) ∧
    (∃ code block d, code < 65536 ∧ block < 32 ∧ d < 4) ∧
    (∃ code block d, code < 65536 ∧ block < 32 ∧ d < 2) ∧
    (∃ (s : State) (l : LaneId), ∃ code, (s.m.lane l).evr.buckets.any (·.code == code) = true ∧
         ((s.m.lane l).evr.bucket code).suppressed = 0) ∧
    (∃ (s : State) (l : LaneId), ∃ code, (s.m.lane l).evr.buckets.any (·.code == code) = true ∧
         0 < ((s.m.lane l).evr.bucket code).suppressed ∧ (s.m.lane l).sysOn = true) ∧
    (∃ (s : State) (l : LaneId), Heard s l .host) ∧
    (∃ (s : State) (l : LaneId), Heard s l .fw) ∧
    (∃ (s : State) (l : LaneId), ∃ v, Heard s l v ∧ (s.m.lane l).evr.frozen = true) ∧
    (∃ (s : State) (l : LaneId), ∃ a, (s.m.lane l).evr.freezeHost = some a) ∧
    (∃ (s : State) (l : LaneId), ∃ a, (s.m.lane l).evr.freezeFw = some a) :=
  ⟨⟨0x8005, 31, by decide +kernel⟩,
    ⟨0x8005, 31, 3, by decide +kernel⟩,
    ⟨0x8005, 31, 1, by decide +kernel⟩,
    ⟨base.evr .A ({ · with buckets := [{ code := 7, tokens := 15 }] }), .A, 7, by decide +kernel⟩,
    ⟨base.evr .A ({ · with buckets := [{ code := 7, tokens := 0, suppressed := 4, firstOpsec := 3 }] }), .A, 7,
         by decide +kernel⟩,
    ⟨base, .A, by decide +kernel⟩,
    ⟨base, .A, by decide +kernel⟩,
    ⟨base.evr .A ({ · with freezeHost := some 5, freezeFw := none, held := [{ code := 0x8005 }] }), .A, .host,
         by decide +kernel⟩,
    ⟨base.evr .A ({ · with freezeHost := some 5, held := [{ code := 0x8005 }] }), .A, 5, by decide +kernel⟩,
    ⟨base.evr .A ({ · with freezeFw := some 5, held := [{ code := 0x8005 }] }), .A, 5, by decide +kernel⟩⟩

/-- The premises of KeyCommandsAct are met, clause by clause. -/
theorem meets_KeyCommandsAct :
    (∃ (s : State) (l : LaneId) (v : View) (w : Word), ∃ x, let bs := (s.m.keyBuf l);
         let both := (bitOf w 24 = true ∧ s.m.variant = .nfj8); Heard s l v ∧ s.m.active l = true ∧
         (s.m.lane l).key.cmdState ≠ 1 ∧ keyLoadMode (s.m.lane l).sys.mode = true ∧
         judgeEntry true (s.m.lane l).key.slots (secEntryOf bs) (secEntryResv bs) = .ok x ∧
         (s.m.lane l).key.trngFailed = false ∧ ¬both ∧ (secEntryOf bs).op = 1 ∧ (secEntryOf bs).kekSlot = 0xFF) ∧
    (∃ (s : State) (l : LaneId) (v : View) (w : Word) (bad : Bool), ∃ x k, let bs := (s.m.keyBuf l);
         let both := (bitOf w 24 = true ∧ s.m.variant = .nfj8); Heard s l v ∧ s.m.active l = true ∧
         (s.m.lane l).key.cmdState ≠ 1 ∧ keyLoadMode (s.m.lane l).sys.mode = true ∧
         judgeEntry true (s.m.lane l).key.slots (secEntryOf bs) (secEntryResv bs) = .ok x ∧
         (s.m.lane l).key.trngFailed = false ∧ ¬both ∧ (secEntryOf bs).op = 1 ∧ (secEntryOf bs).kekSlot ≠ 0xFF ∧
         (useSlot l (secEntryOf bs).kekSlot 1 bad s.m.fresh).1 = .ok k) ∧
    (∃ (s : State) (l : LaneId) (v : View) (w : Word), ∃ x, let bs := (s.m.keyBuf l);
         let both := (bitOf w 24 = true ∧ s.m.variant = .nfj8); Heard s l v ∧ s.m.active l = true ∧
         (s.m.lane l).key.cmdState ≠ 1 ∧ keyLoadMode (s.m.lane l).sys.mode = true ∧
         judgeEntry true (s.m.lane l).key.slots (secEntryOf bs) (secEntryResv bs) = .ok x ∧ ¬both ∧
         (secEntryOf bs).op = 0) ∧
    (∃ (s : State) (l : LaneId) (v : View) (w : Word), ∃ x y, let bs := (s.m.keyBuf l);
         let both := (bitOf w 24 = true ∧ s.m.variant = .nfj8); Heard s l v ∧ s.m.active l = true ∧
         (s.m.lane l).key.cmdState ≠ 1 ∧ keyLoadMode (s.m.lane l).sys.mode = true ∧
         judgeEntry true (s.m.lane l).key.slots (secEntryOf bs) (secEntryResv bs) = .ok x ∧ both ∧
         s.m.peerWrites l = true ∧ judgeEntry true (s.m.lane l.other).key.slots (secEntryOf bs) (secEntryResv bs) = .ok y ∧
         (secEntryOf bs).op = 0) ∧
    (∃ (s : State) (l : LaneId) (v : View), ∃ c, let bs := (s.m.keyBuf l);
         let tries := ((secEntryOf bs).tries (secEntryResv bs)); Heard s l v ∧ s.m.active l = true ∧
         (s.m.lane l).key.cmdState ≠ 1 ∧ keyLoadMode (s.m.lane l).sys.mode = true ∧
         judgeEntry true (s.m.lane l).key.slots (secEntryOf bs) (secEntryResv bs) = .error c ∧ tries = false) ∧
    (∃ (s : State) (l : LaneId) (v : View), ∃ c, let bs := (s.m.keyBuf l);
         let tries := ((secEntryOf bs).tries (secEntryResv bs)); Heard s l v ∧ s.m.active l = true ∧
         (s.m.lane l).key.cmdState ≠ 1 ∧ keyLoadMode (s.m.lane l).sys.mode = true ∧
         judgeEntry true (s.m.lane l).key.slots (secEntryOf bs) (secEntryResv bs) = .error c ∧ tries = true ∧
         (c = keyAttr ∨ c = keyExhausted)) ∧
    (∃ (s : State) (l : LaneId) (v : View) (bad : Bool), ∃ c d, let bs := (s.m.keyBuf l);
         let kek := ((secEntryOf bs).kekSlot); let tries := ((secEntryOf bs).tries (secEntryResv bs)); Heard s l v ∧
         s.m.active l = true ∧ (s.m.lane l).key.cmdState ≠ 1 ∧ keyLoadMode (s.m.lane l).sys.mode = true ∧
         judgeEntry true (s.m.lane l).key.slots (secEntryOf bs) (secEntryResv bs) = .error c ∧ tries = true ∧
         c ≠ keyAttr ∧ c ≠ keyExhausted ∧ (useSlot l kek 1 bad s.m.fresh).1 = .error d) ∧
    (∃ (s : State) (l : LaneId) (v : View) (bad : Bool), ∃ c k, let bs := (s.m.keyBuf l);
         let kek := ((secEntryOf bs).kekSlot); let tries := ((secEntryOf bs).tries (secEntryResv bs)); Heard s l v ∧
         s.m.active l = true ∧ (s.m.lane l).key.cmdState ≠ 1 ∧ keyLoadMode (s.m.lane l).sys.mode = true ∧
         judgeEntry true (s.m.lane l).key.slots (secEntryOf bs) (secEntryResv bs) = .error c ∧ tries = true ∧
         c ≠ keyAttr ∧ c ≠ keyExhausted ∧ (useSlot l kek 1 bad s.m.fresh).1 = .ok k) ∧
    (∃ (s : State) (l : LaneId) (v : View) (w : Word), let slot := (fld w 13 8); let both := (bitOf w 24 = true ∧
         s.m.variant = .nfj8); Heard s l v ∧ s.m.active l = true ∧ (s.m.lane l).key.cmdState ≠ 1 ∧
         keyLoadMode (s.m.lane l).sys.mode = true ∧ 8 ≤ slot ∧ ((s.m.lane l).key.slot slot).locked = false ∧
         ((s.m.lane l).key.slot slot).key.isSome = true ∧ ¬both) ∧
    (∃ (s : State) (l : LaneId) (v : View) (w : Word), let slot := (fld w 13 8); let both := (bitOf w 24 = true ∧
         s.m.variant = .nfj8); Heard s l v ∧ s.m.active l = true ∧ (s.m.lane l).key.cmdState ≠ 1 ∧
         keyLoadMode (s.m.lane l).sys.mode = true ∧ 8 ≤ slot ∧ ((s.m.lane l).key.slot slot).locked = false ∧
         ((s.m.lane l).key.slot slot).key.isSome = true ∧ both ∧ s.m.peerWrites l = true ∧
         ((s.m.lane l.other).key.slot slot).locked = false) ∧
    (∃ (s : State) (l : LaneId) (v : View) (w : Word) (bad : Bool), ∃ k, let bs := (s.m.keyBuf l);
         let slot := (fld w 13 8); Heard s l v ∧ s.m.active l = true ∧ (s.m.lane l).key.cmdState ≠ 1 ∧
         keyUseMode (s.m.lane l).sys.mode = true ∧ leAt bs 0 1 ≤ 96 ∧ (useSlot l slot 0 bad s.m.fresh).1 = .ok k) ∧
    (∃ (s : State) (l : LaneId) (v : View) (w : Word) (bad : Bool), ∃ c, let bs := (s.m.keyBuf l);
         let slot := (fld w 13 8); Heard s l v ∧ s.m.active l = true ∧ (s.m.lane l).key.cmdState ≠ 1 ∧
         keyUseMode (s.m.lane l).sys.mode = true ∧ leAt bs 0 1 ≤ 96 ∧ (useSlot l slot 0 bad s.m.fresh).1 = .error c) ∧
    (∃ (s : State) (l : LaneId) (v : View) (w : Word) (bad : Bool), ∃ qx, let slot := (fld w 13 8); Heard s l v ∧
         s.m.active l = true ∧ (s.m.lane l).key.cmdState ≠ 1 ∧ keyUseMode (s.m.lane l).sys.mode = true ∧
         attrType ((s.m.lane l).key.slot slot).attr = 3 ∧ attrType ((s.m.lane l).key.slot (slot + 1)).shown = 4 ∧
         nbit ((s.m.lane l).key.slot (slot + 1)).shown 3 = true ∧
         ((s.m.lane l).key.slot (slot + 1)).isDead = false ∧ (useSlot l slot 3 bad s.m.fresh).1 = .ok qx) ∧
    (∃ (s : State) (l : LaneId) (v : View) (w : Word), let slot := (fld w 13 8); Heard s l v ∧ s.m.active l = true ∧
         (s.m.lane l).key.cmdState ≠ 1 ∧ keyUseMode (s.m.lane l).sys.mode = true ∧
         ((s.m.lane l).key.slot slot).key.isSome = true ∧ attrType ((s.m.lane l).key.slot slot).attr = 3 ∧
         attrType ((s.m.lane l).key.slot (slot + 1)).shown = 4 ∧
         nbit ((s.m.lane l).key.slot (slot + 1)).shown 3 = true ∧ ((s.m.lane l).key.slot (slot + 1)).isDead = true) ∧
    (∃ (s : State) (l : LaneId) (v : View) (bad : Bool), ∃ cfg k, Heard s l v ∧ s.m.active l = true ∧
         (s.m.lane l).key.cmdState ≠ 1 ∧ keyUseMode (s.m.lane l).sys.mode = true ∧
         (s.m.lane l).cfg.active = some cfg ∧ nbit ((s.m.lane l).key.slot cfg.challengeSlot).shown 4 = true ∧
         (useSlot l cfg.challengeSlot 4 bad s.m.fresh).1 = .ok k) ∧
    (∃ (s : State) (l : LaneId) (v : View) (w : Word) (bad : Bool), ∃ k, let bs := (s.m.keyBuf l);
         let slot := (fld w 13 8); let source := (fld w 21 16); let ll := (leAt bs 0 1); let cl := (leAt bs 1 1);
         let attr := (leAt bs 0x70 4 - attrType (leAt bs 0x70 4) * 512 + 512); let count := (leAt bs 0x74 4);
         Heard s l v ∧ s.m.active l = true ∧ (s.m.lane l).key.cmdState ≠ 1 ∧
         keyUseMode (s.m.lane l).sys.mode = true ∧ 8 ≤ slot ∧ 1 ≤ ll ∧ ll ≤ 32 ∧ cl ≤ 64 ∧ count < 2 ^ 24 ∧
         attrForbidden attr count = false ∧ nbit attr 6 = false ∧ ((s.m.lane l).key.slot slot).locked = false ∧
         nbit ((s.m.lane l).key.slot slot).attr 6 = false ∧ (useSlot l source 2 bad s.m.fresh).1 = .ok k) :=
  ⟨⟨(base.sys .A ({ · with mode := .commission })).buf .A publicEntry, .A, .host, 1,
       { key := some (List.replicate 32 7), attr := 0x608 }, by dsimp only; decide +kernel⟩,
    ⟨((base.sys .A ({ · with mode := .commission })).buf .A wrappedEntry).key .A 9 0x202 (List.replicate 32 1), .A,
         .host, 1, false, { key := some (List.replicate 32 2), attr := 0x201 }, List.replicate 32 1,
         by dsimp only; decide +kernel⟩,
    ⟨((base.sys .A ({ · with mode := .commission })).buf .A ([20, 0, 0xFF,
         0] ++ leBytes 4 0x201)).key .A 20 0x200 (List.replicate 32 1), .A, .host, 1,
         { key := some (List.replicate 32 1), attr := 0x201, count := 0 }, by dsimp only; decide +kernel⟩,
    ⟨(((base.sys .A ({ · with mode := .commission })).buf .A ([20, 0, 0xFF,
         0] ++ leBytes 4 0x201)).key .A 20 0x200 (List.replicate 32 1)).key .B 20 0x200 (List.replicate 32 4), .A,
         .host, 0x01000001, { key := some (List.replicate 32 1), attr := 0x201, count := 0 },
         { key := some (List.replicate 32 4), attr := 0x201, count := 0 }, by dsimp only; decide +kernel⟩,
    ⟨(base.sys .A ({ · with mode := .commission })).buf .A ([7, 1, 0xFF, 0] ++ leBytes 4 0x608), .A, .host,
         keySlotBad, by dsimp only; decide +kernel⟩,
    ⟨((base.sys .A ({ · with mode := .commission })).buf .A wrappedEntry).key .A 9 0x201 (List.replicate 32 1), .A,
         .host, keyAttr, by dsimp only; decide +kernel⟩,
    ⟨((base.sys .A ({ · with mode := .commission })).buf .A (wrappedEntry.take 16)).key .A 9 0x202 (List.replicate 32 1),
         .A, .host, true, keyUnwrap, keyFaulty, by dsimp only; decide +kernel⟩,
    ⟨((base.sys .A ({ · with mode := .commission })).buf .A (wrappedEntry.take 16)).key .A 9 0x202 (List.replicate 32 1),
         .A, .host, false, keyUnwrap, List.replicate 32 1, by dsimp only; decide +kernel⟩,
    ⟨(base.sys .A ({ · with mode := .commission })).key .A 20 0x200 (List.replicate 32 1), .A, .host, 0x1403,
         by dsimp only; decide +kernel⟩,
    ⟨((base.sys .A ({ · with mode := .commission })).key .A 20 0x200 (List.replicate 32 1)).key .B 20 0x200 (List.replicate 32 1),
         .A, .host, 0x01001403, by dsimp only; decide +kernel⟩,
    ⟨(base.buf .A [3, 97, 98, 99]).key .A 20 0x201 (List.replicate 32 1), .A, .host, 0x1405, false,
         List.replicate 32 1, by dsimp only; decide +kernel⟩,
    ⟨base.buf .A [3, 97, 98, 99], .A, .host, 0x1405, false, keyEmpty, by dsimp only; decide +kernel⟩,
    ⟨(base.key .A 20 0x608 (List.replicate 32 1)).key .A 21 0x808 (List.replicate 32 1), .A, .host, 0x1406, false,
         List.replicate 32 1, by dsimp only; decide +kernel⟩,
    ⟨(((base.key .A 20 0x608 (List.replicate 32 1)).key .A 21 0x808 (List.replicate 32 1)).keys .A (fun k => { k with slots := upd k.slots 21 fun x => { x with attr := 0x908, count := 0 } })),
         .A, .host, 0x1406, by dsimp only; decide +kernel⟩,
    ⟨base.key .A 11 0x210 (List.replicate 32 1), .A, .host, false, image, List.replicate 32 1, by decide +kernel⟩,
    ⟨(base.buf .A ([1, 0, 97] ++ List.replicate 109 0 ++ leBytes 4 0x201)).key .A 20 0x204 (List.replicate 32 1),
         .A, .host, 0x00141502, false, List.replicate 32 1, by dsimp only; decide +kernel⟩⟩

/-- The premises of LockedSlotsKeepTheirKeys are met, clause by clause. -/
theorem meets_LockedSlotsKeepTheirKeys :
    ∃ (s : State) (t : State) (l : LaneId) (k : LaneId) (v : View) (w : Word) (bad : Bool) (n : Nat) (x : Bytes) (i : Instr),
        (i = .keyImport l v ⟨w, bad⟩ ∨ i = .keyDerive l v ⟨w, bad⟩ ∨ i = .keyErase l v w ∨ i = .keyChallenge l v ⟨w,
        bad⟩ ∨ i = .keyMac l v ⟨w, bad⟩ ∨ i = .keyVerify l v ⟨w, bad⟩) ∧ exec i s = .next t ∧
        ((s.m.lane k).key.slot n).locked = true ∧ ((s.m.lane k).key.slot n).key = some x ∧
        ((s.m.lane k).key.faulty.contains n = true → (s.m.lane k).key.stored k n = none ∨ (s.m.lane k).key.stored k n = some x) :=
  ⟨(base.sys .A ({ · with mode := .commission })).key .A 20 0x280 (List.replicate 32 1),
       (match exec (.keyErase .A .host 0x1403) ((base.sys .A ({ · with mode := .commission })).key .A 20 0x280 (List.replicate 32 1)) with | .next t => t | _ => ((base.sys .A ({ · with mode := .commission })).key .A 20 0x280 (List.replicate 32 1))),
       .A, .A, .host, 0x1403, false, 20, List.replicate 32 1, .keyErase .A .host 0x1403, ⟨by decide +kernel, rfl,
       by decide +kernel, by decide +kernel, by decide +kernel⟩⟩

/-- The premises of PowerActs are met, clause by clause. -/
theorem meets_PowerActs :
    (∃ (s : State) (l : LaneId), (s.m.lane l).red.holds = true ∧ (s.m.lane l).sys.phase = .up ∧
         s.m.supplyGood = true) ∧
    (∃ (s : State) (l : LaneId), ∃ a, (s.m.lane l).pwr.lowSince = some a ∧ (s.m.lane l).red.holds = true ∧
         (s.m.lane l).sys.phase = .up ∧ s.m.supplyGood = true ∧ 0 < (s.m.lane l).pwr.step) ∧
    (∃ (s : State) (l : LaneId), Heard s l .host) ∧
    (∃ (s : State) (l : LaneId), ∃ w, let die := (fld w 2 0); Heard s l .fw ∧ bitOf w 31 = true ∧
         s.m.pwrFitted l die = false) ∧
    (∃ (s : State) (l : LaneId), ∃ w, let die := (fld w 2 0); let i := (fld w 12 8); Heard s l .fw ∧
         bitOf w 31 = true ∧ s.m.pwrFitted l die = true ∧ (die ≠ l.num ∨ i ≠ 12)) ∧
    (∃ (s : State) (l : LaneId), ∃ w, let die := (fld w 2 0); let i := (fld w 12 8); let t := (fld w 17 16);
         Heard s l .fw ∧ bitOf w 31 = true ∧ die = l.num ∧ i = 12 ∧ t = 3) ∧
    (∃ (s : State) (l : LaneId), ∃ w, let die := (fld w 2 0); let i := (fld w 12 8); let t := (fld w 17 16);
         Heard s l .fw ∧ bitOf w 31 = true ∧ die = l.num ∧ i = 12 ∧ t < 3) ∧
    (∃ (s : State) (l : LaneId), ∃ die i c k, s.m.pwrFitted (if die < 2 then laneOfDie die else l) die = true ∧
         (s.m.dom die i).moving = true ∧
         (s.m.dom die i).state ≠ .ret ∨ (s.m.dom die i).target ≠ .on ∨ retCapable die i = false ∨ (c = true ∧
         k = true)) ∧
    (∃ (s : State) (l : LaneId), ∃ die i c k, s.m.pwrFitted (if die < 2 then laneOfDie die else l) die = true ∧
         (s.m.dom die i).moving = true ∧ (s.m.dom die i).state = .ret ∧ (s.m.dom die i).target = .on ∧
         retCapable die i = true ∧ ¬(c = true ∧ k = true)) ∧
    (∃ (ppm : Nat), ppm ≤ 1000) ∧
    (∃ (s : State) (ppm : Nat), ∃ l, 1000 < ppm ∧ (s.m.lane l).sysOn = true) ∧
    (∃ (s : State) (ppm : Nat), ∃ d, 1000 < ppm ∧ d < s.m.variant.nSd ∧ d < 2 ∧ (s.m.sd d).powered = true ∧
         (s.m.sd d).clockFailed = false) ∧
    (∃ (s : State) (ppm : Nat), ∃ d, 1000 < ppm ∧ s.m.fdUp d = true) :=
  ⟨⟨base, .A, by decide +kernel⟩,
    ⟨base.pwr .A ({ · with lowSince := some 5, step := 1 }), .A, 5, by decide +kernel⟩,
    ⟨base, .A, by decide +kernel⟩,
    ⟨base.md ({ · with variant := .nfj2 }), .A, 0x80010C02, by dsimp only; decide +kernel⟩,
    ⟨base, .A, 0x80010D04, by dsimp only; decide +kernel⟩,
    ⟨base, .A, word (0x80030C00 + 0), by dsimp only; decide +kernel⟩,
    ⟨base, .A, word (0x80010C00 + 0), by dsimp only; decide +kernel⟩,
    ⟨(base.fl 3 fun f => { f with doms := upd f.doms 17 fun _ => { state := .off, moving := true, target := .on } }),
         .A, 7, 17, false, false, by decide +kernel⟩,
    ⟨(base.pwr .A fun p => { p with doms := upd p.doms 12 fun _ => { state := .ret, moving := true, target := .on } }),
         .A, 0, 12, true, false, by decide +kernel⟩,
    ⟨1000, by decide +kernel⟩,
    ⟨base, 1001, .A, by decide +kernel⟩,
    ⟨base, 1001, 1, by decide +kernel⟩,
    ⟨base, 1001, 3, by decide +kernel⟩⟩

/-- The premises of WakePortAnswers are met, clause by clause. -/
theorem meets_WakePortAnswers :
    (∃ (s : State) (l : LaneId), (s.m.lane l).rtc.alive = true ∧ (s.m.variant.nLane = 2 ∨ l = .A) ∧
         s.m.supplyGood = true) ∧
    (∃ (s : State) (l : LaneId), (s.m.lane l).rtc.alive = true ∧ (s.m.variant.nLane = 2 ∨ l = .A) ∧
         s.m.supplyGood = true ∧ s.m.active l = false) ∧
    (∃ (s : State) (l : LaneId), (s.m.lane l).rtc.alive = true ∧ (s.m.variant.nLane = 2 ∨ l = .A) ∧
         s.m.supplyGood = true ∧ s.m.active l = true) ∧
    (∃ (s : State) (l : LaneId), (s.m.lane l).rtc.alive = true ∧ (s.m.variant.nLane = 2 ∨ l = .A) ∧
         s.m.supplyGood = true ∧ (s.m.lane l).sys.mode = .standby ∨ (s.m.lane l).sys.mode = .resync) ∧
    (∃ (s : State) (l : LaneId), (s.m.lane l).rtc.alive = true ∧ (s.m.variant.nLane = 2 ∨ l = .A) ∧
         s.m.supplyGood = true ∧ (s.m.lane l).sys.mode ≠ .standby ∧ (s.m.lane l).sys.mode ≠ .resync) ∧
    (∃ (s : State) (l : LaneId) (peer : Bool), (s.m.lane l).rtc.alive = true ∧ (s.m.variant.nLane = 2 ∨ l = .A) ∧
         s.m.supplyGood = true ∧ peer = true ∧ s.m.variant.nLane = 2 ∧ (s.m.lane l).sys.phase = .starting ∧
         (s.m.lane l).sys.holdupOk = true ∧ (s.m.lane l).sys.failed = false) ∧
    (∃ (s : State) (l : LaneId), (s.m.lane l).rtc.alive = true ∧ (s.m.variant.nLane = 2 ∨ l = .A) ∧
         s.m.supplyGood = false ∧ (s.m.lane l).rtc.wakeEn = true) ∧
    (∃ (s : State) (l : LaneId), (s.m.lane l).rtc.alive = true ∧ (s.m.variant.nLane = 2 ∨ l = .A)) :=
  ⟨⟨base, .A, by decide +kernel⟩,
    ⟨base.red .A ({ · with holds := false }), .A, by decide +kernel⟩,
    ⟨base, .A, by decide +kernel⟩,
    ⟨base.sys .A ({ · with mode := .standby }), .A, by decide +kernel⟩,
    ⟨base, .A, by decide +kernel⟩,
    ⟨base.sys .A ({ · with phase := .starting }), .A, true, by decide +kernel⟩,
    ⟨(base.md ({ · with supplyGood := false })).rtc .A ({ · with wakeEn := true }), .A, by decide +kernel⟩,
    ⟨base, .A, by decide +kernel⟩⟩

/-- The premises of RingsAct are met, clause by clause. -/
theorem meets_RingsAct :
    (∃ (s : State) (l : LaneId), ∃ r w, let g := ((s.m.lane l).ring r); r < 8 ∧ s.m.bar2 l = true ∧
         r < (s.m.lane l).hst.rings.length ∧ (fld w 15 0 + 65536 - g.cons) % 65536 ≤ g.size) ∧
    (∃ (s : State) (l : LaneId), ∃ r w, let g := ((s.m.lane l).ring r); r < 8 ∧ s.m.bar2 l = true ∧
         r < (s.m.lane l).hst.rings.length ∧ g.size < (fld w 15 0 + 65536 - g.cons) % 65536) ∧
    (∃ (s : State) (l : LaneId), ∃ v w, let r := ((s.m.sel l v).hstRing); let g := ((s.m.lane l).ring r);
         Heard s l v ∧ bitOf w 0 = true ∧ g.state ≠ 3) ∧
    (∃ (s : State) (l : LaneId), ∃ v w, let r := ((s.m.sel l v).hstRing); let g := ((s.m.lane l).ring r);
         Heard s l v ∧ bitOf w 0 = true ∧ g.state = 3) ∧
    (∃ (s : State) (l : LaneId), ∃ v w, let r := ((s.m.sel l v).hstRing); let g := ((s.m.lane l).ring r);
         Heard s l v ∧ bitOf w 0 = false ∧ g.cur = none ∧ g.state ≠ 3) ∧
    (∃ (s : State) (l : LaneId), ∃ v w, let r := ((s.m.sel l v).hstRing); let g := ((s.m.lane l).ring r);
         Heard s l v ∧ bitOf w 0 = false ∧ g.cur = none ∧ g.state = 3) ∧
    (∃ (s : State) (l : LaneId), ∃ v w, let r := ((s.m.sel l v).hstRing); let g := ((s.m.lane l).ring r);
         Heard s l v ∧ bitOf w 0 = false ∧ g.cur.isSome = true ∧ g.ending = none ∧ g.firstAt = none ∧ g.state = 1 ∧
         (r = 3 ∨ r = 5 ∨ r = 6) ∧ r < (s.m.lane l).hst.rings.length) ∧
    (∃ (s : State) (l : LaneId), ∃ v w, let r := ((s.m.sel l v).hstRing); let g := ((s.m.lane l).ring r);
         Heard s l v ∧ bitOf w 0 = false ∧ g.cur.isSome = true ∧ g.state = 1 ∧ r ≠ 3 ∧ r ≠ 5 ∧ r ≠ 6 ∧
         r < (s.m.lane l).hst.rings.length) ∧
    (∃ (s : State) (l : LaneId), ∃ v w, let r := ((s.m.sel l v).hstRing); let g := ((s.m.lane l).ring r);
         Heard s l v ∧ g.state = 0 ∧ fld w 12 0 ∈ [16, 32, 64, 128, 256, 512, 1024, 2048, 4096]) ∧
    (∃ (s : State) (l : LaneId), ∃ v w, let r := ((s.m.sel l v).hstRing); let g := ((s.m.lane l).ring r);
         Heard s l v ∧ (g.state ≠ 0 ∨ fld w 12 0 ∉ [16, 32, 64, 128, 256, 512, 1024, 2048, 4096])) ∧
    (∃ (s : State) (l : LaneId) (r : Nat), ∃ d e, let g := ((s.m.lane l).ring r); g.cur = some d ∧
         g.ending = some e ∧ s.m.mayMaster l = true) ∧
    (∃ (s : State) (l : LaneId) (r : Nat), ∃ d n, let g := ((s.m.lane l).ring r); g.cur = some d ∧
         g.ending = some (0, n) ∧ inOp r d.op = true ∧ s.m.mayMaster l = true ∧ (g.state = 1 ∨ g.state = 2)) ∧
    (∃ (s : State) (l : LaneId) (r : Nat), let g := ((s.m.lane l).ring r); g.cur = none ∧ g.state = 1 ∧
         g.waiting ≠ 0 ∧ s.m.mayMaster l = true) ∧
    (∃ (s : State) (l : LaneId) (r : Nat), ∃ a, let g := ((s.m.lane l).ring r); g.msgWait = true ∧
         g.msgAt = some a) :=
  ⟨⟨base, .A, 7, 16, by dsimp only; decide +kernel⟩,
    ⟨base, .A, 7, 17, by dsimp only; decide +kernel⟩,
    ⟨base, .A, .host, 0x00FF0001, by dsimp only; decide +kernel⟩,
    ⟨base.ring .A 0 ({ · with state := 3 }), .A, .host, 0x00FF0001, by dsimp only; decide +kernel⟩,
    ⟨base, .A, .host, 0, by dsimp only; decide +kernel⟩,
    ⟨base.ring .A 0 ({ · with state := 3, cur := none }), .A, .host, 0, by dsimp only; decide +kernel⟩,
    ⟨(base.sel .A .fw ({ · with hstRing := 6 })).ring .A 6 ({ · with cur := some {}, state := 1, ending := none, firstAt := none }),
         .A, .fw, 0, by dsimp only; decide +kernel⟩,
    ⟨(base.sel .A .host ({ · with hstRing := 0 })).ring .A 0 ({ · with cur := some {}, state := 1 }), .A, .host, 0,
         by dsimp only; decide +kernel⟩,
    ⟨base.ring .A 0 ({ · with state := 0 }), .A, .host, 4096, by dsimp only; decide +kernel⟩,
    ⟨base.ring .A 0 ({ · with state := 0 }), .A, .host, 17, by dsimp only; decide +kernel⟩,
    ⟨base.ring .A 7 ({ · with cur := some { irq := true }, ending := some (0, 4), outData := [1, 2, 3, 4], wb := 0x100 }),
         .A, 7, { irq := true }, (0, 4), by dsimp only; decide +kernel⟩,
    ⟨base.ring .A 0 ({ · with cur := some { op := 1 }, ending := some (0, 4), state := 2 }), .A, 0, { op := 1 }, 4,
         by dsimp only; decide +kernel⟩,
    ⟨base.ring .A 7 ({ · with cur := none, state := 1 }), .A, 7, by dsimp only; decide +kernel⟩,
    ⟨base.ring .A 7 ({ · with msgWait := true, msgAt := some 5, holdoff := 3 }), .A, 7, 5,
         by dsimp only; decide +kernel⟩⟩

/-- The premises of DescriptorsAreJudgedFirst are met, clause by clause. -/
theorem meets_DescriptorsAreJudgedFirst :
    (∃ (s : State) (l : LaneId) (d : HostDesc), ∃ c, c ∈ [(Instr.shadowWrite l d, 0, 1, 2), (.activeRead l d, 0, 2,
         1), (.ringRead l d, 1, 1, 2), (.mlogRead l d, 1, 2, 1), (.warmIn l d, 2, 1, 2), (.resultOut l d, 2, 2, 1),
         (.readoutDescriptor l d, 3, 1, 2), (.tableOut l d, 3, 2, 1), (.instanceRead l d, 4, 1, 1), (.capture l d,
         5, 1, 1), (.telemetry l d, 6, 1, 1), (.toFirmware l d, 7, 1, 2), (.fromFirmware l d, 7, 2, 1)] ∧
         s.m.fetches l c.2.1 d.fence = true ∧ d.op ≠ c.2.2.1 ∧ d.op ≠ c.2.2.2) ∧
    (∃ (s : State) (l : LaneId) (d : HostDesc), ∃ c, c ∈ [(Instr.shadowWrite l d, 0, 1, 2), (.activeRead l d, 0, 2,
         1), (.ringRead l d, 1, 1, 2), (.mlogRead l d, 1, 2, 1), (.warmIn l d, 2, 1, 2), (.resultOut l d, 2, 2, 1),
         (.readoutDescriptor l d, 3, 1, 2), (.tableOut l d, 3, 2, 1), (.instanceRead l d, 4, 1, 1), (.capture l d,
         5, 1, 1), (.telemetry l d, 6, 1, 1), (.toFirmware l d, 7, 1, 2), (.fromFirmware l d, 7, 2, 1)] ∧
         s.m.fetches l c.2.1 d.fence = true ∧ d.op = c.2.2.1 ∧ ¬(c.2.1 = 2 ∧ s.m.variant = .nfj2) ∧
         (d.addr % 4 ≠ 0 ∨ d.len % 4 ≠ 0 ∨ d.len < 4 ∨ 4194304 < d.len)) :=
  ⟨⟨base, .A, { op := 3 }, (.ringRead .A { op := 3 }, 1, 1, 2), by decide +kernel⟩,
    ⟨base, .A, { op := 1, len := 6 }, (.readoutDescriptor .A { op := 1, len := 6 }, 3, 1, 2), by decide +kernel⟩⟩

/-- The premises of TransfersAct are met, clause by clause. -/
theorem meets_TransfersAct :
    (∃ (s : State) (l : LaneId) (d : HostDesc), TakesUp s l 0 2 d ∧ d.param + d.len ≤ 12582912) ∧
    (∃ (s : State) (l : LaneId) (d : HostDesc), TakesUp s l 1 1 d ∧ d.len % 32 = 0 ∧ d.len ≤ 2097152 ∧
         d.param < 2 ^ 32 ∧ ((s.m.lane l).evr.head + 1) % 2 ^ 32 ≠ (s.m.lane l).evr.tail) ∧
    (∃ (s : State) (l : LaneId) (d : HostDesc), TakesUp s l 1 1 d ∧ d.len % 32 = 0 ∧ d.len ≤ 2097152 ∧
         d.param < 2 ^ 32 ∧ ((s.m.lane l).evr.head + 1) % 2 ^ 32 = (s.m.lane l).evr.tail) ∧
    (∃ (s : State) (l : LaneId) (d : HostDesc), TakesUp s l 1 2 d ∧ d.len % 32 = 0 ∧ 32 * d.param + d.len ≤ 0x20000) ∧
    (∃ (s : State) (l : LaneId) (d : HostDesc), ∃ c r, TakesUp s l 2 2 d ∧
         (s.m.lane l).conf.tmpl (d.param % 65536) = some c ∧
         (at? (s.m.lane l).slv.tpls (d.param % 65536 - 1) {}).result = some r ∧ r.bytes.length ≤ d.len) ∧
    (∃ (s : State) (l : LaneId) (d : HostDesc), ∃ c, TakesUp s l 2 2 d ∧
         (s.m.lane l).conf.tmpl (d.param % 65536) = some c ∧
         (at? (s.m.lane l).slv.tpls (d.param % 65536 - 1) {}).result = none) ∧
    (∃ (s : State) (l : LaneId) (d : HostDesc),
         let out := (fun (m : Module) => leBytes 8 m.us ++ leBytes 4 (48 * m.variant.nFd) ++ leBytes 4 0 ++ (readoutBytes m l).drop 128); TakesUp s l 3 2 d ∧
         (out (inCourse l 3 d s.m.fresh)).length ≤ d.len) ∧
    (∃ (s : State) (l : LaneId) (d : HostDesc), TakesUp s l 4 1 d ∧ (s.m.lane l).sys.mode ≠ .blank ∧
         (s.m.lane l).prg.running = false ∧ d.param + d.len ≤ ((s.m.lane l).conf.program.map (·.instBytes)).getD 0) ∧
    (∃ (s : State) (l : LaneId) (d : HostDesc), TakesUp s l 4 1 d ∧ (s.m.lane l).sys.mode ≠ .blank ∧
         (s.m.lane l).prg.running = true ∧ d.param + d.len ≤ ((s.m.lane l).conf.program.map (·.instBytes)).getD 0) ∧
    (∃ (s : State) (l : LaneId) (d : HostDesc), TakesUp s l 4 1 d ∧ (s.m.lane l).sys.mode = .blank) ∧
    (∃ (s : State) (l : LaneId) (d : HostDesc), TakesUp s l 7 2 d ∧ d.len ≤ 65536) ∧
    (∃ (s : State) (l : LaneId) (d : HostDesc), ∃ c x, TakesUp s l 2 1 d ∧
         (s.m.lane l).conf.tmpl (d.param % 65536) = some c ∧ parseWarm (fitTo d.len d.data) = some x ∧
         x.broken c = false ∧ x.n ≤ c.warmNMax) ∧
    (∃ (s : State) (l : LaneId) (d : HostDesc), ∃ c x, TakesUp s l 2 1 d ∧
         (s.m.lane l).conf.tmpl (d.param % 65536) = some c ∧ parseWarm (fitTo d.len d.data) = some x ∧
         (x.broken c = true ∨ c.warmNMax < x.n)) ∧
    (∃ (s : State) (l : LaneId) (d : HostDesc), ∃ c, TakesUp s l 2 1 d ∧
         (s.m.lane l).conf.tmpl (d.param % 65536) = some c ∧ parseWarm (fitTo d.len d.data) = none) ∧
    (∃ (s : State) (l : LaneId) (d : HostDesc), TakesUp s l 7 1 d ∧ d.len ≤ 65536) ∧
    (∃ (s : State) (l : LaneId) (d : HostDesc), TakesUp s l 3 1 d ∧ s.m.readoutSize ≤ d.len) ∧
    (∃ (s : State) (l : LaneId) (d : HostDesc), TakesUp s l 5 1 d ∧ d.len % 96 = 0) ∧
    (∃ (s : State) (l : LaneId) (d : HostDesc), TakesUp s l 6 1 d ∧ 64 ≤ d.len) ∧
    (∃ (s : State) (l : LaneId), ∃ c a, ((s.m.lane l).ring 5).cur = some c ∧ ((s.m.lane l).ring 5).ending = none ∧
         ((s.m.lane l).ring 5).firstAt = some a) ∧
    (∃ (s : State) (l : LaneId), s.m.active l = true ∧ ((s.m.lane l).ring 6).cur.isSome = true ∧
         ((s.m.lane l).ring 6).ending = none) ∧
    (∃ (s : State) (l : LaneId), s.m.active l = true ∧
         ((s.m.lane l).ring 6).cur = none ∨ ((s.m.lane l).ring 6).ending.isSome = true) :=
  ⟨⟨base, .A, { op := 2, len := 8, param := 0xBFFFF8 }, by decide +kernel⟩,
    ⟨base.evr .A ({ · with head := 3, tail := 1 }), .A, { op := 1, len := 64, param := 65535 }, by decide +kernel⟩,
    ⟨base.evr .A ({ · with head := 0, tail := 1 }), .A, { op := 1, len := 64, param := 65535 }, by decide +kernel⟩,
    ⟨base, .A, { op := 2, len := 32, param := 4095 }, by decide +kernel⟩,
    ⟨(base.slv .A fun x => { x with tpls := upd x.tpls 0 ({ · with result := some { requested := 1, n := 1, x := [5] } }) }),
         .A, { op := 2, len := 4096, param := 1 }, template, { requested := 1, n := 1, x := [5] }, by decide +kernel⟩,
    ⟨(base.slv .A fun x => { x with tpls := upd x.tpls 0 ({ · with result := none }) }), .A,
         { op := 2, len := 4096, param := 1 }, template, by decide +kernel⟩,
    ⟨base, .A, { op := 2, len := 65536 }, by decide +kernel,
         by simp only [readoutBytes, List.length_append, List.length_drop, length_readoutHead]; decide +kernel⟩,
    ⟨base.prg .A ({ · with running := false }), .A, { op := 1, len := 12, param := 4 }, by decide +kernel⟩,
    ⟨base, .A, { op := 1, len := 12, param := 4 }, by decide +kernel⟩,
    ⟨base.sys .A ({ · with mode := .blank }), .A, { op := 1, len := 12, param := 4 }, by decide +kernel⟩,
    ⟨base, .A, { op := 2, len := 8, data := [1, 2, 3] }, by decide +kernel⟩,
    ⟨base, .A, { op := 1, len := 40, param := 1, data := leBytes 8 0 ++ leBytes 4 1 ++ List.replicate 20 0 ++ leBytes 8 0x4000000000000000 },
         template, ((parseWarm (leBytes 8 0 ++ leBytes 4 1 ++ List.replicate 20 0 ++ leBytes 8 0x4000000000000000)).getD {}),
         by decide +kernel⟩,
    ⟨base, .A, { op := 1, len := 40, param := 1, data := leBytes 8 0 ++ leBytes 4 1 ++ List.replicate 20 0 ++ leBytes 8 0x7FF0000000000000 },
         template, ((parseWarm (leBytes 8 0 ++ leBytes 4 1 ++ List.replicate 20 0 ++ leBytes 8 0x7FF0000000000000)).getD {}),
         by decide +kernel⟩,
    ⟨base, .A, { op := 1, len := 40, param := 1, data := leBytes 8 0 ++ leBytes 4 9 }, template, by decide +kernel⟩,
    ⟨base, .A, { op := 1, len := 65536, data := [1, 2, 3] }, by decide +kernel⟩,
    ⟨base, .A, { op := 1, len := 65536 }, by decide +kernel⟩,
    ⟨base, .A, { op := 1, len := 96 }, by decide +kernel⟩,
    ⟨base, .A, { op := 1, len := 64 }, by decide +kernel⟩,
    ⟨base.ring .A 5 ({ · with cur := some {}, ending := none, outData := [1, 2, 3, 4], firstAt := some 5 }), .A, {},
         5, by decide +kernel⟩,
    ⟨base.ring .A 6 ({ · with cur := some { len := 64 }, ending := none }), .A, by decide +kernel⟩,
    ⟨base, .A, by decide +kernel⟩⟩

/-- The premises of EndpointActs are met, clause by clause. -/
theorem meets_EndpointActs :
    (∃ (s : State) (l : LaneId), (s.m.lane l).hst.linkUp = true) ∧
    (∃ (s : State) (l : LaneId), (at? (s.m.lane l).pwr.doms 15 {}).state = .on ∧ (s.m.lane l).hst.linkUp = true) ∧
    (∃ (s : State) (l : LaneId), (at? (s.m.lane l).pwr.doms 15 {}).state = .on ∧ (s.m.lane l).hst.linkUp = false) ∧
    (∃ (s : State) (l : LaneId), ∃ speed width, (at? (s.m.lane l).pwr.doms 15 {}).state = .on ∧ 1 ≤ speed ∧
         speed ≤ 3 ∧ 1 ≤ width ∧ width ≤ 2) ∧
    (∃ (s : State) (l : LaneId), ∃ n, n < 32 ∧ s.m.bar2 l = true) :=
  ⟨⟨base, .A, by decide +kernel⟩,
    ⟨base, .A, by decide +kernel⟩,
    ⟨base.hst .A ({ · with linkUp := false }), .A, by decide +kernel⟩,
    ⟨base, .A, 3, 1, by decide +kernel⟩,
    ⟨base.hst .A ({ · with vpend := 0x80000000, msix := true }), .A, 31, by decide +kernel⟩⟩

/-- The premises of CompletionsAreWrittenInOrder are met, clause by clause. -/
theorem meets_CompletionsAreWrittenInOrder :
    (∃ (m : Module) (l : LaneId) (r : Nat) (code : Nat) (d : Desc),
         let g := ((m.lane l).ring r); r < (m.lane l).hst.rings.length ∧ g.cur = some d ∧ code ≠ 5) ∧
    (∃ (m : Module) (l : LaneId) (r : Nat) (code : Nat) (d : Desc),
         let g := ((m.lane l).ring r); r < (m.lane l).hst.rings.length ∧ g.cur = some d ∧ code ≠ 5 ∧ g.outData ≠ []) ∧
    (∃ (m : Module) (l : LaneId) (r : Nat) (code : Nat) (d : Desc),
         let g := ((m.lane l).ring r); r < (m.lane l).hst.rings.length ∧ g.cur = some d ∧ code ≠ 5 ∧ g.outData = []) ∧
    (∃ (m : Module) (l : LaneId) (r : Nat) (code : Nat) (d : Desc),
         let g := ((m.lane l).ring r); r < (m.lane l).hst.rings.length ∧ g.cur = some d ∧ code ≠ 5 ∧ g.wb ≠ 0) ∧
    (∃ (m : Module) (l : LaneId) (r : Nat) (code : Nat) (d : Desc),
         let g := ((m.lane l).ring r); r < (m.lane l).hst.rings.length ∧ g.cur = some d ∧ code ≠ 5 ∧ g.wb = 0) :=
  ⟨⟨(base.ring .A 7 ({ · with cur := some {} })).m, .A, 7, 4, {}, by dsimp only; decide +kernel⟩,
    ⟨(base.ring .A 7 ({ · with cur := some {}, outData := [1] })).m, .A, 7, 0, {}, by dsimp only; decide +kernel⟩,
    ⟨(base.ring .A 7 ({ · with cur := some {}, outData := [] })).m, .A, 7, 0, {}, by dsimp only; decide +kernel⟩,
    ⟨(base.ring .A 7 ({ · with cur := some {}, wb := 0x100 })).m, .A, 7, 0, {}, by dsimp only; decide +kernel⟩,
    ⟨(base.ring .A 7 ({ · with cur := some {}, wb := 0 })).m, .A, 7, 0, {}, by dsimp only; decide +kernel⟩⟩

/-- The premises of MetrologyRecordsAreNeverDropped are met, clause by clause. -/
theorem meets_MetrologyRecordsAreNeverDropped :
    (∃ (r : EvRec) (L : Lane), isMetrology r.code = true ∧ L.red.holds = true) ∧
    (∃ (s : State) (l : LaneId) (r : EvRec), ∃ rest, isMetrology r.code = true ∧ (s.m.lane l).red.holds = true ∧
         (s.m.lane l).evr.aoStore = [] ∧ (s.m.lane l).evr.intake = r :: rest ∧
         (s.m.lane l).evr.frozen = true ∨ (s.m.lane l).evr.held = [] ∨ (s.m.lane l).sys.phase = .saving ∧
         (s.m.canRecord l = true ∨ (s.m.lane l).sys.phase = .saving)) :=
  ⟨⟨{ code := 0x5803 }, (base.evr .A ({ · with intake := List.replicate 64 {} })).m.lane .A, by decide +kernel⟩,
    ⟨base.evr .A ({ · with freezeHost := some 5, held := [{ code := 4 }], intake := [{ code := 0x5803 }] }), .A,
         { code := 0x5803 }, [], by decide +kernel⟩⟩

/-- The premises of ClaimNumbersNameTheirLane are met, clause by clause. -/
theorem meets_ClaimNumbersNameTheirLane :
    ∃ (e : Nat) (f : Nat), e < 2 ^ 31 ∧ f < 2 ^ 31 :=
  ⟨2 ^ 31 - 1, 2 ^ 31 - 1, by decide +kernel⟩

/-- The premises of StepRunsTheFront are met, clause by clause. -/
theorem meets_StepRunsTheFront :
    ∃ (s : State) (c : Instr), ∃ rest, s.pending = c :: rest :=
  ⟨{ base with pending := [.commandApply, .trngHealthFailure .A 0] }, .commandApply, [.trngHealthFailure .A 0],
       by decide +kernel⟩

/-- The premises of EveryCommandAnswers are met, clause by clause. -/
theorem meets_EveryCommandAnswers :
    ∃ (s : State), s.pending = [] :=
  ⟨base, by decide +kernel⟩

/-- The premises of StepKeepsTheStoresCanonical are met, clause by clause. -/
theorem meets_StepKeepsTheStoresCanonical :
    ∃ (s : State) (t : State), s.Inv ∧ step s = .next t :=
  ⟨base, { base with m := { base.m with now := base.m.now + 10 } }, ⟨by unfold State.Inv; decide +kernel, rfl⟩⟩

/-- The premises of OnlyAQuorumMakesALaneActive are met, clause by clause. -/
theorem meets_OnlyAQuorumMakesALaneActive :
    ∃ (s : State) (t : State) (i : Instr) (l : LaneId), exec i s = .next t ∧ (s.m.lane l).red.holds = false ∧
        (t.m.lane l).red.holds = true :=
  ⟨(base.red .A ({ · with holds := false, exch := some { why := .takeover, proposed := mkClaim 4 .A, raised := true, latched := [0, 1, 2] } })),
       (match exec (.claimLatchAck .A) ((base.red .A ({ · with holds := false, exch := some { why := .takeover, proposed := mkClaim 4 .A, raised := true, latched := [0, 1, 2] } }))) with | .next t => t | _ => ((base.red .A ({ · with holds := false, exch := some { why := .takeover, proposed := mkClaim 4 .A, raised := true, latched := [0, 1, 2] } })))),
       .claimLatchAck .A, .A, ⟨rfl, by decide +kernel, by decide +kernel⟩⟩

/-- The premises of EveryConfigurationCommandCompletes are met, clause by clause. -/
theorem meets_EveryConfigurationCommandCompletes :
    (∃ (s : State) (l : LaneId) (d : HostDesc), let c := ((s.m.lane l).cfg); s.m.fetches l 0 d.fence = true ∧
         d.op = 1 ∧ d.addr % 4 = 0 ∧ d.len % 4 = 0 ∧ 4 ≤ d.len ∧ d.len ≤ 4194304 ∧ d.param + d.len ≤ 12582912 ∧
         c.state ∉ [.checking, .armed]) ∧
    (∃ (s : State) (l : LaneId) (v : View), let c := ((s.m.lane l).cfg); Heard s l v ∧
         (s.m.lane l).sys.mode ∉ [.standby, .resync] ∧ c.state = .loading) ∧
    (∃ (s : State) (l : LaneId), let c := ((s.m.lane l).cfg); c.state = .checking ∧ c.mirrorWait = false ∧
         (s.m.lane l).sys.mode ∉ [.standby, .resync]) ∧
    (∃ (s : State) (l : LaneId), let c := ((s.m.lane l).cfg); c.state = .checking ∧ c.mirrorWait = true ∧
         (s.m.lane l.other).sys.mode = .standby ∧ s.m.laneLink = true) ∧
    (∃ (s : State) (l : LaneId), let c := ((s.m.lane l).cfg); c.state = .checking ∧ c.mirrorWait = true) ∧
    (∃ (s : State) (l : LaneId) (v : View), ∃ new at_, let c := ((s.m.lane l).cfg); Heard s l v ∧
         (s.m.lane l).sys.mode ∉ [.standby, .resync] ∧ c.state = .passed ∧ c.candidate = some new ∧
         s.m.applyInstant l = some at_) ∧
    (∃ (s : State) (l : LaneId) (v : View), let c := ((s.m.lane l).cfg); Heard s l v ∧ c.state = .passed) ∧
    (∃ (s : State) (l : LaneId), let c := ((s.m.lane l).cfg); c.state = .armed ∧ c.confirmSent = false) ∧
    (∃ (s : State) (l : LaneId), ∃ die at_ rest, let c := ((s.m.lane l).cfg); 2 ≤ die ∧ die < 8 ∧
         s.m.mail = { src := l.num, dst := die, msg := .apply (s.m.dieClaim die) at_ } :: rest ∧ die ∈ c.staged) ∧
    (∃ (s : State) (l : LaneId), let c := ((s.m.lane l).cfg);
         let dies := (if c.applySent = [] then s.m.applyDies l else c.applySent); c.state = .armed ∧
         c.confirmSent = false ∧ c.laggard dies = none) ∧
    (∃ (s : State) (l : LaneId), ∃ d, let c := ((s.m.lane l).cfg);
         let dies := (if c.applySent = [] then s.m.applyDies l else c.applySent); c.state = .armed ∧
         c.confirmSent = false ∧ c.laggard dies = some d) ∧
    (∃ (s : State) (l : LaneId), ∃ die rest, 2 ≤ die ∧ die < 8 ∧
         s.m.mail = { src := l.num, dst := die, msg := .cancel (s.m.dieClaim die) } :: rest) ∧
    (∃ (s : State) (l : LaneId), ∃ die at_ rest, 2 ≤ die ∧ die < 8 ∧
         s.m.mail = { src := l.num, dst := die, msg := .confirm (s.m.dieClaim die) } :: rest ∧
         s.m.dieApplyAt die = some at_) ∧
    (∃ (s : State), ∃ die at_, 2 ≤ die ∧ die < 8 ∧ s.m.dieApplyAt die = some at_ ∧ s.m.dieConfirmed die = true) ∧
    (∃ (s : State) (l : LaneId), ∃ new, let c := ((s.m.lane l).cfg); c.state = .armed ∧ c.confirmSent = true ∧
         c.candidate = some new) :=
  ⟨⟨base, .A, { op := 1, len := 8, param := 4, data := [1, 2, 3], tag := 9 }, by dsimp only; decide +kernel⟩,
    ⟨base.cfg .A ({ · with state := .loading }), .A, .host, by dsimp only; decide +kernel⟩,
    ⟨base.cfg .A ({ · with state := .checking }), .A, by dsimp only; decide +kernel⟩,
    ⟨base.cfg .A ({ · with state := .checking, mirrorWait := true }), .A, by dsimp only; decide +kernel⟩,
    ⟨base.cfg .A ({ · with state := .checking, mirrorWait := true }), .A, by dsimp only; decide +kernel⟩,
    ⟨base.cfg .A ({ · with state := .passed, candidate := some image }), .A, .host, image,
         ((base.cfg .A ({ · with state := .passed, candidate := some image })).m.applyInstant .A).getD 0,
         by dsimp only; decide +kernel⟩,
    ⟨base.cfg .A ({ · with state := .passed, candidate := some image }), .A, .host, by dsimp only; decide +kernel⟩,
    ⟨base.cfg .A ({ · with state := .armed, applyInstant := 5000000 }), .A, by dsimp only; decide +kernel⟩,
    ⟨(base.cfg .A ({ · with state := .armed, staged := [4, 5] })).post 0 4 (.apply (base.m.dieClaim 4) 5000000), .A,
         4, 5000000, ((base.cfg .A ({ · with state := .armed, staged := [4, 5] })).post 0 4 (.apply (base.m.dieClaim 4) 5000000)).m.mail.tail,
         by dsimp only; decide +kernel⟩,
    ⟨base.cfg .A ({ · with state := .armed, applyInstant := 5000000, applySent := [4, 5], acked := [4, 5], staged := [4, 5] }),
         .A, by dsimp only; decide +kernel⟩,
    ⟨base.cfg .A ({ · with state := .armed, applyInstant := 5000000, applySent := [4, 5], acked := [4], staged := [4, 5] }),
         .A, 5, by dsimp only; decide +kernel⟩,
    ⟨base.post 0 4 (.cancel (base.m.dieClaim 4)), .A, 4, (base.post 0 4 (.cancel (base.m.dieClaim 4))).m.mail.tail,
         by decide +kernel⟩,
    ⟨(base.fl 0 ({ · with applyAt := some 5000000 })).post 0 4 (.confirm (base.m.dieClaim 4)), .A, 4, 5000000,
         ((base.fl 0 ({ · with applyAt := some 5000000 })).post 0 4 (.confirm (base.m.dieClaim 4))).m.mail.tail,
         by decide +kernel⟩,
    ⟨base.fl 0 ({ · with applyAt := some 5000000, confirmed := true }), 4, 5000000, by decide +kernel⟩,
    ⟨base.cfg .A ({ · with state := .armed, confirmSent := true, candidate := some image, applyInstant := 5000000 }),
         .A, image, by dsimp only; decide +kernel⟩⟩

end Sys2Proof.Machine
end

section
/-! The effect of a register access that is heard, and how a statement about the next state follows from it. -/

namespace Sys2Proof.Machine

/-! ### From a command's effect to its next state -/

section
variable {i : Instr} {s : State} {l : LaneId} {v : View} {f : Store → Module → Module}

theorem Does.ends {Q : State → Prop} (d : Does i s f) (q : Q (commit s f)) : Ends i s Q := ⟨_, d, q⟩

/-- Only what a body does on the module of the present state counts. -/
theorem Does.congr {g : Store → Module → Module} (d : Does i s f) (h : f s.mem s.m.fresh = g s.mem s.m.fresh) :
    Does i s g :=
  d.trans (congrArg _ (by simp only [commit, h]))

/-- A read that is heard has the effect of its register (R459). -/
theorem does_of_guardRead (h : Heard s l v) (d : Does i s fun st m => guardRead l v (f st) m) : Does i s f :=
  d.congr (guardRead_pass _ ((fresh_reach ..).trans h.1) ((fresh_mute ..).trans h.2))

/-- A write that is heard has the effect of its register (R459). -/
theorem does_of_guardWrite (h : Heard s l v) (d : Does i s fun st m => guardWrite l v (f st) m) : Does i s f :=
  d.congr (guardWrite_pass _ ((fresh_reach ..).trans h.1) ((fresh_mute ..).trans h.2))

theorem onlyLane_commit (w : Word) (F : Lane → Lane)
    (h : f s.mem s.m.fresh = onBus w (s.m.fresh.updLane l F)) : OnlyLane l s (commit s f) := by
  simp [OnlyLane, h]

/-- The next state of a read that answers `w` and changes its lane by `F`. -/
theorem Does.ends_laneRead {w : Module → Word} {F : Module → Lane → Lane}
    (d : Does i s fun _ m => onBus (w m) (m.updLane l (F m))) :
    Ends i s fun t => OnlyLane l s t ∧ t.m.bus = w s.m.fresh ∧ t.m.lane l = F s.m.fresh (s.m.lane l) :=
  d.ends ⟨onlyLane_commit _ _ rfl, by simp, by simp⟩

/-- The next state of a write that changes its lane by `F`. -/
theorem Does.ends_laneWrite {F : Lane → Lane} (d : Does i s f) (h : f s.mem s.m.fresh = s.m.fresh.updLane l F) :
    Ends i s fun t => OnlyLane l s t ∧ t.m.lane l = F (s.m.lane l) :=
  d.ends ⟨by simp [OnlyLane, h], by simp [h]⟩

end

/-! ### What a command reads on the module as it finds it -/

@[simp] theorem fresh_readSys (m : Module) (l : LaneId) (off : Nat) : m.fresh.readSys l off = m.readSys l off := by
  cases l <;> rfl

@[simp] theorem fresh_pwrGov (m : Module) (l : LaneId) : m.fresh.pwrGov l = m.pwrGov l := by cases l <;> rfl

@[simp] theorem fresh_sdReach (m : Module) (l : LaneId) (d : Nat) : m.fresh.sdReach l d = m.sdReach l d := by
  cases l <;> rfl

@[simp] theorem fresh_fdReach (m : Module) (l : LaneId) (d : Nat) : m.fresh.fdReach l d = m.fdReach l d := by
  cases l <;> rfl

@[simp] theorem fresh_modNs (m : Module) (l : LaneId) : m.fresh.modNs l = m.modNs l := by cases l <;> rfl

@[simp] theorem fresh_canPort (m : Module) (d p : Nat) : m.fresh.canPort d p = m.canPort d p := by
  simp [Module.canPort]

/-! ### The view's latches and the CAN ports -/

@[simp] theorem sel_latchWord (m : Module) (l : LaneId) (v : View) (a : Nat) (w : Word) :
    (latchWord l v a w m).sel l v = { m.sel l v with latch := putKey (m.sel l v).latch a w } := by
  simp [latchWord]

@[simp] theorem sel_updCan (m : Module) (l : LaneId) (v : View) (d p : Nat) (f : CanPort → CanPort) :
    (m.updCan d p f).sel l v = m.sel l v := by
  cases v <;> simp [Module.sel, Module.updCan]

@[simp] theorem updCan_nvmOut (m : Module) (d p : Nat) (f : CanPort → CanPort) :
    (m.updCan d p f).nvmOut = m.nvmOut := by
  simp [Module.updCan]

theorem latchEntry_eq (l : LaneId) (v : View) (bs : Bytes) (m : Module) : latchEntry l v bs m =
    forEach (List.range 23) (fun k m => latchWord l v (0xB0164 + 4 * k) (word (leAt bs (4 * k + 4) 4)) m) m := rfl

@[simp] theorem latchEntry_nvmOut (l : LaneId) (v : View) (bs : Bytes) (m : Module) :
    (latchEntry l v bs m).nvmOut = m.nvmOut :=
  forEach_part (·.nvmOut) _ _ (fun _ _ => latchWord_nvmOut ..) m

theorem keyed_latchEntry (l : LaneId) (v : View) (bs : Bytes) (m : Module) {k : Nat} (hk : k < 23) :
    keyed ((latchEntry l v bs m).sel l v).latch (0xB0164 + 4 * k) 0 = word (leAt bs (4 * k + 4) 4) := by
  rw [latchEntry_eq]
  exact latch_loop l v 0xB0164 _ m 23 k hk

end Sys2Proof.Machine
end

section
/-! Reads that clear what they count (R14). -/

namespace Sys2Proof.Machine

section
variable {s : State} {l : LaneId} {v : View}

theorem does_sysAccessErrRead (h : Heard s l v) : Does (.sysAccessErrRead l v) s fun _ m =>
    onBus (word (m.readSys l 0x60)) (m.updLane l fun L => { L with sys := { L.sys with partialWr := 0, unreach := 0 } }) :=
  does_of_guardRead h rfl

theorem does_motAdmitPeakRead (h : Heard s l v) : Does (.motAdmitPeakRead l v) s fun _ m =>
    onBus (word (m.regRead l v 0x70104)) (m.updLane l fun L => { L with mot := { L.mot with peak := 0 } }) :=
  does_of_guardRead h rfl

theorem does_motWaitMaxRead (h : Heard s l v) : Does (.motWaitMaxRead l v) s fun _ m =>
    onBus (word (m.regRead l v 0x70108)) (m.updLane l fun L => { L with mot := { L.mot with waitMax := 0 } }) :=
  does_of_guardRead h rfl

theorem does_pwrGovRead (h : Heard s l v) : Does (.pwrGovRead l v) s fun _ m =>
    onBus (word (m.pwrGov l)) (m.updLane l fun L => { L with pwr := { L.pwr with maxStep := 0 } }) :=
  does_of_guardRead h rfl

theorem does_prgTaskMaxRead (h : Heard s l v) : Does (.prgTaskMaxRead l v) s fun _ m =>
    onBus (word (m.regRead l v 0x50044)) (m.updLane l fun L => { L with prg := { L.prg with
      tasks := upd L.prg.tasks (m.sel l v).prgTask fun k => { k with maxUs := 0 } } }) :=
  does_of_guardRead h rfl

theorem does_ptpPortErrorsRead (h : Heard s l v) : Does (.ptpPortErrorsRead l v) s fun _ m =>
    onBus (word ((at? (m.lane l).ptp.ports (m.sel l v).ptpPort {}).other +
        65536 * (at? (m.lane l).ptp.ports (m.sel l v).ptpPort {}).fcs))
      (m.updLane l fun L => { L with ptp := { L.ptp with
        ports := upd L.ptp.ports (m.sel l v).ptpPort fun e => { e with other := 0, fcs := 0 } } }) :=
  does_of_guardRead h rfl

theorem does_canRecErrorsRead (h : Heard s l v) : Does (.canRecErrorsRead l v) s fun _ m =>
    let r := (m.sel l v).canRec
    let e := (m.lane l).can.eng r
    onBus (word (e.eCheck + 256 * e.eSeq + 65536 * e.eTimeout + 16777216 * e.eOld)) (updEng l r
      (fun e => { e with eCheck := 0, eSeq := 0, eTimeout := 0, eOld := 0 }) m) :=
  does_of_guardRead h rfl

theorem does_slvCollectMaxRead (h : Heard s l v) : Does (.slvCollectMaxRead l v) s fun _ m =>
    onBus (word (m.regRead l v 0x40120)) (if m.sdReach l (m.sel l v).slvDie then
      m.updSd (m.sel l v).slvDie fun x => { x with collectMax := 0 } else m) :=
  does_of_guardRead h rfl

theorem does_slvCollectMaxRead_reached (h : Heard s l v) (hd : s.m.sdReach l (s.m.sel l v).slvDie = true) :
    Does (.slvCollectMaxRead l v) s fun _ m =>
      onBus (word (m.regRead l v 0x40120)) (m.updSd (m.sel l v).slvDie fun x => { x with collectMax := 0 }) :=
  (does_slvCollectMaxRead h).congr (by simp [hd])

theorem does_slvCollectMaxRead_unreached (h : Heard s l v) (hd : s.m.sdReach l (s.m.sel l v).slvDie = false) :
    Does (.slvCollectMaxRead l v) s fun _ m => onBus (word (m.regRead l v 0x40120)) m :=
  (does_slvCollectMaxRead h).congr (by simp [hd])

end

/-- Settles O1: each read passes its guard, answers the count and clears it in its own lane or solver die. -/
theorem readClearsItsCounts : Obligations.ReadClearsItsCounts := by
  unfold Obligations.ReadClearsItsCounts
  intro s l v h
  refine ⟨?sys, ?peak, ?wait, ?gov, ?task, ?port, ?record, does_canRecErrorsRead h, fun hd => ⟨?collector, ?_⟩,
    does_slvCollectMaxRead_unreached h⟩
  case sys => simpa using (does_sysAccessErrRead h).ends_laneRead
  case peak => simpa using (does_motAdmitPeakRead h).ends_laneRead
  case wait => simpa using (does_motWaitMaxRead h).ends_laneRead
  case gov => simpa using (does_pwrGovRead h).ends_laneRead
  case task => simpa using (does_prgTaskMaxRead h).ends_laneRead
  case port => simpa using (does_ptpPortErrorsRead h).ends_laneRead
  case record =>
    refine (does_canRecErrorsRead h).ends ⟨onlyLane_commit _ _ rfl, ?_, ?_⟩
    · simp
    · simp [updEng]
  case collector => exact (does_slvCollectMaxRead_reached h hd).ends (by simp [SameStores, Module.updSd])
  exact does_slvCollectMaxRead_reached h hd

end Sys2Proof.Machine
end

section
/-! Reads of a low word, which latch the words that belong to it (R13). -/

namespace Sys2Proof.Machine

theorem lowWords_aligned {addr : Nat} (ha : addr ∈ lowWords) : addr % 4 = 0 := by
  revert addr; decide

/-- No low word of the map is a register whose read has a command of its own. -/
theorem wordRead_lowWord {addr : Nat} (ha : addr ∈ lowWords) (l : LaneId) (v : View) (st : Store) (m : Module) :
    wordRead l v addr st m =
      if !m.reach l v then m
      else if m.mute l v && !spoken addr then onBus 0 m
      else latchWord l v (addr + 4) (word (m.regRead l v addr / 2 ^ 32)) (onBus (word (m.regRead l v addr)) m) := by
  simp only [lowWords, List.mem_cons, List.not_mem_nil, or_false] at ha
  rcases ha with rfl | rfl | rfl | rfl | rfl | rfl | rfl | rfl | rfl | rfl | rfl | rfl | rfl | rfl | rfl | rfl <;> rfl

section
variable {s : State} {l : LaneId} {v : View}

theorem does_lowWordRead {addr : Nat} (h : Heard s l v) (ha : addr ∈ lowWords) :
    Does (.lowWordRead l v addr) s fun _ m =>
      latchWord l v (addr + 4) (word (m.regRead l v addr / 2 ^ 32)) (onBus (word (m.regRead l v addr)) m) := by
  obtain ⟨hr, hm⟩ := h
  have d : Does (.lowWordRead l v addr) s (lowWordReadBody l v addr) := rfl
  exact d.congr (by simp [lowWordReadBody, lowWords_aligned ha, wordRead_lowWord ha, hr, hm])

theorem does_mtrRegLoRead (h : Heard s l v) : Does (.mtrRegLoRead l v) s fun _ m =>
    let w := m.sel l v
    let i := fld w.mtrPt 6 0
    let heat := bitOf w.mtrPt 8
    let d := if heat then i / 16 else i / 32
    let r : MReg := if !m.fdReach l d then {} else
      if heat then at? (at? (m.fd d).hps (i % 16) {}).regs w.mtrReg {} else at? (at? (m.fd d).mps (i % 32) {}).regs w.mtrReg {}
    onBus (word r.value) (latchWord l v 0x90010 (word (r.value / 2 ^ 32)) (latchWord l v 0x90014 (word r.roll) m)) :=
  does_of_guardRead h rfl

theorem does_nvmWinLoRead (h : Heard s l v) : Does (.nvmWinLoRead l v) s fun st m =>
    let a := (m.sel l v).nvmWin
    let n := (m.lane l).nvm
    let bs := Memory.reads (readMram n st l a) a 8
    let e := n.readEcc a
    let m := latchWord l v 0xD0028 (word (leAt bs 4 4)) (if e = 0 then m else nvmRead l a 8 m)
    onBus (word (leAt bs 0 4)) (m.updLane l fun L => { L with
      nvm := { L.nvm with
        winCorr := upd L.nvm.winCorr (viewIdx v) fun _ => (if e = 3 then 0 else e)
        winUe := upd L.nvm.winUe (viewIdx v) fun _ => decide (e = 3) } }) :=
  does_of_guardRead h rfl

theorem does_evrRdDataRead (h : Heard s l v) : Does (.evrRdDataRead l v) s fun st m =>
    let w := m.sel l v
    let log := bitOf w.evrCtrl 0
    let k := w.evrPos.toNat
    let out := log && decide (k > 4095)
    let a := if log then mlogBase + 32 * k else ringAddr k
    let bs := if out then List.replicate 32 0 else Memory.reads (st.mram l) a 32
    let ok := !out && evValid (m.lane l).nvm a bs && (log || leAt bs 0 4 == k)
    let m := if out then m else nvmRead l a 32 m
    let m := forEach (List.range 7) (fun j m => latchWord l v (0xE0044 + 4 * j) (word (leAt bs (4 * j + 4) 4)) m) m
    onBus (word (leAt bs 0 4)) (m.updLane l fun L => { L with
      evr := { L.evr with
        rdValid := upd L.evr.rdValid (viewIdx v) fun _ => ok
        rdEmpty := upd L.evr.rdEmpty (viewIdx v) fun _ => !out && allZero bs } }) :=
  does_of_guardRead h rfl

theorem does_ptpTimeNsRead (h : Heard s l v) : Does (.ptpTimeNsRead l v) s fun _ m =>
    let t := (m.modNs l).toNat
    onBus (word (t % 1000000000)) (latchWord l v 0xC0008 (word (t / 1000000000 / 2 ^ 32)) (latchWord l v 0xC0004
      (word (t / 1000000000)) m)) :=
  does_of_guardRead h rfl

theorem does_canFiltBufRead (h : Heard s l v) (k : Nat) : Does (.canFiltBufRead l v k) s fun _ m =>
    let w := m.sel l v
    let d := w.canPort / 4
    let p := w.canPort % 4
    let bs := (at? (m.canPort d p).filters w.canFiltBuf {}).buf.bytes
    if m.variant = .nfj8 ∨ m.fdReach l d = false then onBus 0 m
    else if k ≠ 0 then onBus (keyed w.latch (0xB0160 + 4 * k) 0) m
    else onBus (word (leAt bs 0 4)) ((latchEntry l v bs m).updCan d p fun c => { c with
      filters := upd c.filters w.canFiltBuf fun f => { f with full := false } }) := by
  refine Does.congr (does_of_guardRead h rfl) ?_
  simp only [Bool.or_eq_true, beq_iff_eq, Bool.not_eq_true', ne_eq, ite_not]

end

/-- Settles O2: each read has the effect of its register, whose latched words the view then holds. -/
theorem lowWordReadLatchesTheRest : Obligations.LowWordReadLatchesTheRest := by
  unfold Obligations.LowWordReadLatchesTheRest
  intro s l v h
  refine ⟨fun addr ha => ?low, fun hd heat => ?meter, ?window, fun log => ?record, ?time, fun hv hd => ?filter,
    does_mtrRegLoRead h, does_nvmWinLoRead h, does_evrRdDataRead h, does_ptpTimeNsRead h, does_canFiltBufRead h⟩
  case low =>
    refine (does_lowWordRead h ha).ends ⟨?_, ?_, ?_⟩
    · simp [OnlyLane, latchWord, updSel]
    · simp
    · simp [keyed_putKey_same]
  case meter =>
    refine (does_mtrRegLoRead h).ends ⟨?_, ?_, ?_, ?_⟩
    · simp [OnlyLane, latchWord, updSel]
    · simp [heat, hd]
    · simp [heat, hd, keyed_putKey_same]
    · simp [heat, hd, keyed_putKey_same, keyed_putKey_other]
  case window =>
    refine (does_nvmWinLoRead h).ends ⟨commit_mem_of_quiet _ _ ?_, ?_, ?_, ?_⟩
    · simp [apply_ite]
    · simp [apply_ite]
    · simp
    · simp [keyed_putKey_same]
  case record =>
    refine (does_evrRdDataRead h).ends ⟨commit_mem_of_quiet _ _ ?_, ?_, ?_, fun k hk => ?_⟩
    · simp only [onBus_nvmOut, updLane_nvmOut]
      rw [forEach_part (·.nvmOut) _ _ (fun _ _ => latchWord_nvmOut ..)]
      simp [apply_ite]
    · simp only [commit_m, closed_fds, onBus_fds, updLane_fds]
      rw [forEach_part (·.fds) _ _ (fun _ _ => latchWord_fds ..)]
      simp [apply_ite]
    · simp [log]
    · simp only [commit_m, closed_sel, sel_onBus, updLane_sel_evr]
      rw [latch_loop _ _ _ _ _ _ _ hk]
      simp [log]
  case time =>
    refine (does_ptpTimeNsRead h).ends ⟨?_, ?_, ?_, ?_⟩
    · simp [OnlyLane, latchWord, updSel]
    · simp
    · simp [keyed_putKey_same, keyed_putKey_other]
    · simp [keyed_putKey_same]
  case filter =>
    refine (does_canFiltBufRead h 0).ends ⟨commit_mem_of_quiet _ _ ?_, ?_, ?_⟩
    · simp [hv, hd]
    · simp [hv, hd]
    · simpa [hv, hd] using keyed_latchEntry _ _ _ _ (by decide : 0 < 23)

end Sys2Proof.Machine
end

section
/-! Writes of a register, as a whole word or in part (R14, R503). -/

namespace Sys2Proof.Machine

section
variable {s : State} {l : LaneId} {v : View}

theorem does_registerWrite (h : Heard s l v) (addr : Nat) (value : Word) (be : BitVec 4) :
    Does (.registerWrite l v addr value be) s fun st m =>
      if be = 0xF ∧ addr % 4 = 0 then regWrite st l v addr value m else partialWrite l v m :=
  does_of_guardWrite h rfl

theorem does_registerWrite_whole (h : Heard s l v) {addr : Nat} (value : Word) (ha : addr % 4 = 0) :
    Does (.registerWrite l v addr value 0xF) s fun st m => regWrite st l v addr value m :=
  (does_registerWrite h addr value 0xF).congr (if_pos ⟨rfl, ha⟩)

theorem does_registerWrite_partial (h : Heard s l v) {addr : Nat} (value : Word) {be : BitVec 4}
    (hp : ¬ (be = 0xF ∧ addr % 4 = 0)) : Does (.registerWrite l v addr value be) s fun _ m => partialWrite l v m :=
  (does_registerWrite h addr value be).congr (if_neg hp)

theorem regWrite_redIrqStatus (st : Store) (value : Word) (m : Module) : regWrite st l v 0xA0030 value m =
    m.updLane l fun L => { L with red := { L.red with irq := L.red.irq &&& ~~~value } } := rfl

theorem regWrite_redIrqEnable (st : Store) (value : Word) (m : Module) : regWrite st l v 0xA0034 value m =
    m.updLane l fun L => { L with red := { L.red with irqEn := value &&& 0x3F } } := rfl

theorem regWrite_fldSelect (st : Store) (value : Word) (m : Module) : regWrite st l v 0x60000 value m =
    updSel l v (fun s => { s with fldDie := fld value 1 0 }) m := rfl

/-- A register that is read-only takes no write (R14). -/
theorem regWrite_redStatus (st : Store) (value : Word) (m : Module) : regWrite st l v 0xA0000 value m = m := rfl

theorem partialWrite_host (m : Module) : partialWrite l .host m =
    m.updLane l fun L => { L with sys := { L.sys with partialWr := sat 65535 (L.sys.partialWr + 1) } } := rfl

theorem partialWrite_fw (m : Module) : partialWrite l .fw m = put (.busError l.num) m := rfl

end

/-- Settles O4: a whole aligned word reaches its register, any other access is counted or raises a bus error. -/
theorem registerWriteTakesWholeWords : Obligations.RegisterWriteTakesWholeWords := by
  unfold Obligations.RegisterWriteTakesWholeWords
  intro s l v value h
  have whole {addr : Nat} (ha : addr % 4 = 0) := does_registerWrite_whole h value ha
  refine ⟨?status, ?enable, ?select, ?readOnly, ?host, ?firmware⟩
  case status => exact (whole rfl).ends_laneWrite (regWrite_redIrqStatus ..)
  case enable => exact (whole rfl).ends_laneWrite (regWrite_redIrqEnable ..)
  case select =>
    refine (whole rfl).ends ⟨?_, ?_⟩
    · simp [OnlyLane, regWrite_fldSelect, updSel]
    · simp [regWrite_fldSelect]
  case readOnly =>
    refine (whole rfl).ends ?_
    simp [OnlyLane, regWrite_redStatus]
  case host =>
    rintro addr be hp rfl
    exact (does_registerWrite_partial h value hp).ends_laneWrite (partialWrite_host _)
  case firmware =>
    rintro addr be hp rfl
    refine (does_registerWrite_partial h value hp).ends ?_
    simp [OnlyLane, partialWrite_fw]

end Sys2Proof.Machine
end

section
/-! What event reports, interrupts and requests for power domains leave as it was: everything that stays once the parts
they write are blanked. -/

namespace Sys2Proof.Machine

/-- A lane with the parts blanked that reports, interrupts and domain requests write. -/
def Lane.blank (L : Lane) : Lane := { L with
  sys := { L.sys with irq := 0 }, pwr := {}, slv := { L.slv with irq := 0, lastDie := [] }, prg := { L.prg with irq := 0 }
  mot := { L.mot with irq := 0 }, mtr := { L.mtr with irq := 0, mlogLost := 0 }, red := { L.red with irq := 0 }
  can := { L.can with irq := 0 }, ptp := { L.ptp with irq := 0 }, nvm := { L.nvm with irq := 0 }, evr := {}
  rtc := { L.rtc with irq := 0 }, key := { L.key with irq := 0 }, hst := { L.hst with irq := 0, vpend := 0 } }

/-- A solver die with its domains and its rail as a new die's. -/
def SolverDie.blank (x : SolverDie) : SolverDie := { x with doms := ({} : SolverDie).doms, rail := {} }

/-- A field die with its domains, its interrupt words and the events it keeps as a new die's. -/
def FieldDie.blank (x : FieldDie) : FieldDie :=
  { x with doms := ({} : FieldDie).doms, irq := 0, lpIrq := 0, evq := [], evDropped := 0, evDroppedMet := 0 }

/-- The module with the parts blanked that reports, interrupts and domain requests write. -/
def Module.blank (m : Module) : Module := { m with
  laneA := m.laneA.blank, laneB := m.laneB.blank, sds := m.sds.map SolverDie.blank, fds := m.fds.map FieldDie.blank
  out := [] }

/-! ### Parts of the blanked module -/

theorem map_upd {α β : Type} (xs : List α) (n : Nat) (f : α → α) (p : α → β) (h : ∀ x, p (f x) = p x) :
    (upd xs n f).map p = xs.map p := by
  refine List.ext_getElem? fun k => ?_
  simp only [upd, List.getElem?_map, List.getElem?_modify]
  cases xs[k]? with
  | none => rfl
  | some x => by_cases e : n = k <;> simp [e, h]

@[simp] theorem lane_blank (m : Module) (k : LaneId) : m.blank.lane k = (m.lane k).blank := by cases k <;> rfl

@[simp] theorem sd_blank (m : Module) (d : Nat) : m.blank.sd d = (m.sd d).blank := by
  simp only [Module.sd, Module.blank, at?, List.getElem?_map]
  cases m.sds[d]? <;> rfl

@[simp] theorem fd_blank (m : Module) (d : Nat) : m.blank.fd d = (m.fd d).blank := by
  simp only [Module.fd, Module.blank, at?, List.getElem?_map]
  cases m.fds[d]? <;> rfl

section
variable {m n : Module}

theorem lane_of_blank (h : m.blank = n.blank) (k : LaneId) : (m.lane k).blank = (n.lane k).blank := by
  rw [← lane_blank, h, lane_blank]

theorem sd_of_blank (h : m.blank = n.blank) (d : Nat) : (m.sd d).blank = (n.sd d).blank := by
  rw [← sd_blank, h, sd_blank]

theorem state_of_blank {x y : SolverDie} (h : x.blank = y.blank) : x.state = y.state := (congrArg SolverDie.state h :)

theorem queue_of_blank {x y : SolverDie} (h : x.blank = y.blank) : x.queue = y.queue := (congrArg SolverDie.queue h :)

theorem run_of_blank {x y : SolverDie} (h : x.blank = y.blank) : x.run = y.run := (congrArg SolverDie.run h :)

theorem fd_of_blank (h : m.blank = n.blank) (d : Nat) : (m.fd d).blank = (n.fd d).blank := by
  rw [← fd_blank, h, fd_blank]

theorem cmds_of_blank {x y : FieldDie} (h : x.blank = y.blank) : x.cmds = y.cmds := (congrArg FieldDie.cmds h :)

theorem claim_of_blank {x y : FieldDie} (h : x.blank = y.blank) : x.claim = y.claim := (congrArg FieldDie.claim h :)

theorem claimRejected_of_blank {x y : FieldDie} (h : x.blank = y.blank) : x.claimRejected = y.claimRejected :=
  (congrArg FieldDie.claimRejected h :)

theorem nvmOut_of_blank (h : m.blank = n.blank) : m.nvmOut = n.nvmOut := (congrArg Module.nvmOut h :)

theorem mail_of_blank (h : m.blank = n.blank) : m.mail = n.mail := (congrArg Module.mail h :)

theorem now_of_blank (h : m.blank = n.blank) : m.now = n.now := (congrArg Module.now h :)

theorem length_sds_of_blank (h : m.blank = n.blank) : m.sds.length = n.sds.length := by
  simpa [Module.blank] using congrArg (fun m => m.sds.length) h

theorem length_fds_of_blank (h : m.blank = n.blank) : m.fds.length = n.fds.length := by
  simpa [Module.blank] using congrArg (fun m => m.fds.length) h

end

theorem blank_updLane (l : LaneId) (f : Lane → Lane) (m : Module) (h : ∀ L, (f L).blank = L.blank) :
    (m.updLane l f).blank = m.blank := by
  cases l <;> simp [Module.updLane, Module.blank, h]

theorem blank_updSd (d : Nat) (f : SolverDie → SolverDie) (m : Module) (h : ∀ x, (f x).blank = x.blank) :
    (m.updSd d f).blank = m.blank := by
  simp [Module.updSd, Module.blank, map_upd _ _ _ _ h]

theorem blank_updFd (d : Nat) (f : FieldDie → FieldDie) (m : Module) (h : ∀ x, (f x).blank = x.blank) :
    (m.updFd d f).blank = m.blank := by
  simp [Module.updFd, Module.blank, map_upd _ _ _ _ h]

/-! ### Reports and interrupts -/

theorem blank_setIrq (L : Lane) (b : Nat) (w : Word) : (L.setIrq b w).blank = L.blank := by
  unfold Lane.setIrq
  split <;> rfl

theorem blank_take (L : Lane) (now : Nat) (supply : Bool) (r : EvRec) : (L.take now supply r).blank = L.blank := by
  rw [take_eq]
  rfl

theorem blank_keepEvent (x : FieldDie) (r : EvRec) : (x.keepEvent r).blank = x.blank := by
  unfold FieldDie.keepEvent
  split_ifs
  · rfl
  · split <;> rfl
  · rfl

theorem blank_sendMsi (l : LaneId) (n : Nat) (m : Module) : (sendMsi l n m).blank = m.blank := by
  simp only [sendMsi]
  split_ifs
  · rfl
  · rfl
  · exact blank_updLane _ _ _ fun _ => rfl

@[simp] theorem blank_raise (l : LaneId) (b n : Nat) (m : Module) : (raise l b n m).blank = m.blank := by
  have set := blank_updLane l (fun L => L.setIrq b (((m.lane l).irqOf b).1 ||| word n)) m fun L => blank_setIrq ..
  simp only [raise]
  split
  · exact set
  · exact (blank_sendMsi ..).trans set

@[simp] theorem blank_raiseFd (d n : Nat) (m : Module) : (raiseFd d n m).blank = m.blank := by
  have set := blank_updFd d (fun x => { x with irq := x.irq ||| word n }) m fun _ => rfl
  simp only [raiseFd]
  split
  · exact set
  · exact (blank_sendMsi ..).trans set

@[simp] theorem blank_reportAs (l : LaneId) (e b c fl x y z : Nat) (m : Module) :
    (reportAs l e b c fl x y z m).blank = m.blank :=
  blank_updLane _ _ _ fun _ => blank_take ..

@[simp] theorem blank_report (l : LaneId) (b c x y z : Nat) (m : Module) : (report l b c x y z m).blank = m.blank :=
  blank_reportAs ..

@[simp] theorem blank_reportFd (d b c x y z : Nat) (m : Module) : (reportFd d b c x y z m).blank = m.blank := by
  simp only [reportFd]
  split
  · exact blank_reportAs ..
  · exact blank_updFd _ _ _ fun _ => blank_keepEvent ..

/-! ### Power domains and the solver dies' clocks -/

theorem blank_forEach {α : Type} (xs : List α) (f : α → Module → Module) (m : Module)
    (h : ∀ x m, (f x m).blank = m.blank) : (forEach xs f m).blank = m.blank :=
  forEach_part Module.blank xs f h m

@[simp] theorem blank_updDom (die i : Nat) (f : Dom → Dom) (m : Module) : (updDom die i f m).blank = m.blank := by
  unfold updDom
  split
  · rfl
  · rfl
  · exact blank_updSd _ _ _ fun _ => rfl
  · exact blank_updSd _ _ _ fun _ => rfl
  · exact blank_updFd _ _ _ fun _ => rfl

@[simp] theorem blank_domRequest (l : LaneId) (die i : Nat) (t : DomState) (m : Module) :
    (domRequest l die i t m).blank = m.blank := by
  have kept (c : Nat) (b : Bool) (m : Module) : (keepLast l die i c b m).blank = m.blank :=
    blank_updLane _ _ _ fun _ => rfl
  simp only [domRequest]
  split <;> simp [kept]

@[simp] theorem blank_domRequests (l : LaneId) (die : Nat) (is : List Nat) (t : DomState) (m : Module) :
    (domRequests l die is t m).blank = m.blank :=
  blank_forEach _ _ _ fun _ _ => blank_domRequest ..

@[simp] theorem blank_domSettle (die : Nat) (is : List Nat) (m : Module) : (domSettle die is m).blank = m.blank :=
  blank_forEach _ _ _ fun _ _ => blank_updDom ..

@[simp] theorem blank_askBanks (d : Nat) (m : Module) : (askBanks d m).blank = m.blank := blank_domRequests ..

@[simp] theorem blank_slvClocks (m : Module) : (slvClocks m).blank = m.blank := by
  simp only [slvClocks, Module.blank, List.map_map]
  rfl

@[simp] theorem blank_slvWatch (m : Module) : (slvWatch m).blank = m.blank := by
  refine (blank_forEach _ _ _ fun l m => ?_).trans (blank_slvClocks m)
  have last (x : List SdState) :
      (m.updLane l fun L => { L with slv := { L.slv with lastDie := x } }).blank = m.blank :=
    blank_updLane _ _ _ fun _ => rfl
  simp only
  split <;> simp [last]

end Sys2Proof.Machine
end

section
/-! Messages at the front of their link, and items of a list that may be absent. -/

namespace Sys2Proof.Machine

/-! ### The front of a link -/

theorem takeMail_front {α : Type} {src dst : Nat} {sel : Msg → Option α} {msg : Msg} {a : α} {rest : List Mail}
    (h : sel msg = some a) : takeMail src dst sel (⟨src, dst, msg⟩ :: rest) = some (a, rest) := by
  simp [takeMail, h]

/-- The module with other messages under way. -/
def Module.withMail (m : Module) (xs : List Mail) : Module := { m with mail := xs }

section
variable (m : Module) (xs : List Mail)

@[simp] theorem withMail_mail : (m.withMail xs).mail = xs := rfl
@[simp] theorem withMail_nvmOut : (m.withMail xs).nvmOut = m.nvmOut := rfl
@[simp] theorem withMail_sds : (m.withMail xs).sds = m.sds := rfl
@[simp] theorem withMail_sd (d : Nat) : (m.withMail xs).sd d = m.sd d := rfl
@[simp] theorem withMail_fds : (m.withMail xs).fds = m.fds := rfl
@[simp] theorem withMail_fd (d : Nat) : (m.withMail xs).fd d = m.fd d := rfl
@[simp] theorem withMail_lane (k : LaneId) : (m.withMail xs).lane k = m.lane k := by cases k <;> rfl
@[simp] theorem withMail_fdReach (k : LaneId) (d : Nat) : (m.withMail xs).fdReach k d = m.fdReach k d := by
  cases k <;> rfl

end

/-! ### An item that may be absent -/

theorem upd_eq_upd {α : Type} {xs : List α} {n : Nat} {f g : α → α} (h : ∀ x, xs[n]? = some x → f x = g x) :
    upd xs n f = upd xs n g := by
  refine List.ext_getElem? fun k => ?_
  simp only [upd, List.getElem?_modify]
  by_cases e : n = k
  · subst e
    cases hx : xs[n]? with
    | none => rfl
    | some x => simp [h x hx]
  · simp [e]

theorem sd_updSd_or (m : Module) (d : Nat) (f : SolverDie → SolverDie) :
    (m.updSd d f).sd d = f (m.sd d) ∨ (m.updSd d f).sd d = m.sd d := by
  by_cases h : d < m.sds.length
  · exact .inl (sd_updSd m d f h)
  · exact .inr (by simp [Module.updSd, Module.sd, upd, at?, h])

/-- A field die that takes part is one of the module's. -/
theorem lt_of_fdUp {m : Module} {d : Nat} (h : m.fdUp d = true) : d < m.fds.length := by
  by_contra hd
  simp [Module.fdUp, Module.fd, at?, hd] at h

theorem lt_of_fdReach {m : Module} {l : LaneId} {d : Nat} (h : m.fdReach l d = true) : d < m.fds.length := by
  simp only [Module.fdReach, Bool.and_eq_true] at h
  exact lt_of_fdUp h.1

end Sys2Proof.Machine
end

section
/-! A checkpoint instant of a lane whose standby has no link to any field die (R286, R287). -/

namespace Sys2Proof.Machine

/-- Lane A active, and lane B in STANDBY over both lane links but with every link to the field dies down: no standby that
could stand in for lane A (R286, case 9). -/
def unbackedLane : State := { m := {
  laneA := { sys := { phase := .up }, cfg := { active := some {} }, red := { holds := true } }
  laneB := { sys := { phase := .up, mode := .standby } }
  laneLinks := [true, true] } }

theorem unbackedLane_standby : unbackedLane.m.peerAt .A .standby = true ∧ unbackedLane.m.backed .A = false := ⟨rfl, rfl⟩

/-- The instant counts as a mirror that failed, and none is under way after it (R291). -/
theorem unbackedLane_mirrorAt :
    ((commit unbackedLane (checkpointInstantBody .A)).m.lane .A).red.mirrorAt = none := rfl

/-- Refutes O17: the statement has a checkpoint captured for any standby that the lane links reach, but at `unbackedLane` the
standby reaches no field die, and the instant ends as a failed mirror. -/
theorem not_checkpointsAndLinksAct : ¬ Obligations.CheckpointsAndLinksAct := by
  unfold Obligations.CheckpointsAndLinksAct
  rintro ⟨checkpoints, -⟩
  obtain ⟨captures, -⟩ := checkpoints unbackedLane .A
  obtain ⟨t, ends, -, -, mirrorAt, -⟩ := captures rfl rfl rfl rfl rfl rfl unbackedLane_standby.1
  cases ends
  exact absurd (unbackedLane_mirrorAt.symm.trans mirrorAt) (by simp)

end Sys2Proof.Machine
end

section
/-! Jobs on a solver die: how a descriptor and a payload are received, and which queued job starts (R20, R99 to R101). -/

namespace Sys2Proof.Machine

section
variable {s : State} {l : LaneId} {sd : Nat} {j : SlvJob} {rest : List Mail}

/-- A descriptor at the front of its link, by what the die makes of it (R20, R100, R274). -/
theorem does_jobDescriptor (hmail : s.m.mail = ⟨l.num, 2 + sd, .job j⟩ :: rest) :
    Does (.jobDescriptor l sd) s fun _ m =>
      let m := m.withMail rest
      let x := m.sd sd
      let swapped := x.confirmed && (match x.applyAt with | some t => decide (t ≤ m.now) | none => false)
      let takes := x.state == .asleep || x.state == .waking || x.state == .active
      if j.claim < x.claim || (j.claim = x.claim && claimLane j.claim != l) then
        m.updSd sd fun x => { x with rejected := sat max32 (x.rejected + 1) }
      else if j.claim ≠ x.claim || !takes then m
      else if j.imageCounter ≠ (if swapped then x.shadowCounter else x.bankCounter) then
        endQueued sd j { status := 10, p2 := 0xFFFFFFFF } m
      else slvWatch (askBanks sd (domRequests l (2 + sd) engDoms .on (m.updSd sd fun x =>
        { x with queue := x.queue ++ [j], state := if x.state == .asleep then .waking else x.state }))) := by
  have d : Does (.jobDescriptor l sd) s (jobDescriptorBody l sd) := rfl
  refine d.congr ?_
  simp only [jobDescriptorBody, fresh_mail, hmail, sdId]
  rw [takeMail_front (a := j) rfl] <;> rfl

theorem does_jobDescriptor_rejected (hmail : s.m.mail = ⟨l.num, 2 + sd, .job j⟩ :: rest)
    (h : j.claim < (s.m.sd sd).claim ∨ (j.claim = (s.m.sd sd).claim ∧ claimLane j.claim ≠ l)) :
    Does (.jobDescriptor l sd) s fun _ m =>
      (m.withMail rest).updSd sd fun x => { x with rejected := sat max32 (x.rejected + 1) } :=
  (does_jobDescriptor hmail).congr (if_pos (by simpa using h))

section
variable (hmail : s.m.mail = ⟨l.num, 2 + sd, .job j⟩ :: rest) (hc : j.claim = (s.m.sd sd).claim)
  (hl : claimLane j.claim = l)
include hmail hc hl

theorem does_jobDescriptor_ignored (hs : (s.m.sd sd).state ∉ [.asleep, .waking, .active]) :
    Does (.jobDescriptor l sd) s fun _ m => m.withMail rest := by
  refine (does_jobDescriptor hmail).congr ?_
  simp at hs
  simp [hc, ← hl, hs]

variable (hs : (s.m.sd sd).state ∈ [.asleep, .waking, .active]) (hn : (s.m.sd sd).confirmed = false)
include hs hn

theorem does_jobDescriptor_stale (hi : j.imageCounter ≠ (s.m.sd sd).bankCounter) :
    Does (.jobDescriptor l sd) s fun _ m => endQueued sd j { status := 10, p2 := 0xFFFFFFFF } (m.withMail rest) := by
  refine (does_jobDescriptor hmail).congr ?_
  simp only [List.mem_cons, List.not_mem_nil, or_false] at hs
  rcases hs with hs | hs | hs <;> simp [hc, ← hl, hs, hn, hi]

theorem does_jobDescriptor_queued (hi : j.imageCounter = (s.m.sd sd).bankCounter) :
    Does (.jobDescriptor l sd) s fun _ m =>
      slvWatch (askBanks sd (domRequests l (2 + sd) engDoms .on ((m.withMail rest).updSd sd fun x =>
        { x with queue := x.queue ++ [j], state := if x.state == .asleep then .waking else x.state }))) := by
  refine (does_jobDescriptor hmail).congr ?_
  simp only [List.mem_cons, List.not_mem_nil, or_false] at hs
  rcases hs with hs | hs | hs <;> simp [hc, ← hl, hs, hn, hi]

end
end

/-- The solver dies' engine and bank domains asked for, and their clocks following. -/
theorem blank_engines (l : LaneId) (die sd : Nat) (m : Module) :
    (slvWatch (askBanks sd (domRequests l die engDoms .on m))).blank = m.blank := by simp

/-! ### The queued job that starts next (R101) -/

/-- Whether a job starts no later than another: an earlier deadline, or the same with no higher template. -/
def SlvJob.before (a b : SlvJob) : Prop :=
  a.deadlineUs < b.deadlineUs ∨ (a.deadlineUs = b.deadlineUs ∧ a.template ≤ b.template)

theorem SlvJob.before_trans {a b c : SlvJob} (h : a.before b) (k : b.before c) : a.before c := by
  unfold SlvJob.before at *
  omega

/-- The earlier of two jobs, the first where they tie. -/
def SlvJob.first (a b : SlvJob) : SlvJob :=
  if b.deadlineUs < a.deadlineUs || (b.deadlineUs == a.deadlineUs && b.template < a.template) then b else a

theorem SlvJob.first_before (a b : SlvJob) : (a.first b).before a ∧ (a.first b).before b := by
  unfold SlvJob.first SlvJob.before
  split <;> simp_all <;> omega

theorem SlvJob.first_mem (a b : SlvJob) : a.first b = a ∨ a.first b = b := by
  unfold SlvJob.first
  split <;> simp

theorem foldl_first_mem (xs : List SlvJob) (a : SlvJob) : xs.foldl SlvJob.first a ∈ a :: xs := by
  induction xs generalizing a with
  | nil => simp
  | cons b xs ih =>
    have mem := ih (a.first b)
    rcases SlvJob.first_mem a b with e | e <;> rw [e] at mem <;> simp only [List.foldl_cons, e, List.mem_cons] at mem ⊢ <;>
      tauto

theorem foldl_first_before (xs : List SlvJob) (a : SlvJob) : ∀ k ∈ a :: xs, (xs.foldl SlvJob.first a).before k := by
  induction xs generalizing a with
  | nil => simp [SlvJob.before]
  | cons b xs ih =>
    have start := ih (a.first b) _ (List.mem_cons_self ..)
    obtain ⟨first, second⟩ := SlvJob.first_before a b
    intro k hk
    rcases List.mem_cons.1 hk with rfl | hk
    · exact SlvJob.before_trans start first
    · rcases List.mem_cons.1 hk with rfl | hk
      · exact SlvJob.before_trans start second
      · exact ih _ k (List.mem_cons_of_mem _ hk)

theorem nextJob_spec {x : SolverDie} (h : x.queue ≠ []) :
    ∃ j, x.nextJob = some j ∧ j ∈ x.queue ∧ ∀ k ∈ x.queue, j.before k := by
  obtain ⟨a, xs, hq⟩ := List.exists_cons_of_ne_nil h
  rw [hq]
  refine ⟨xs.foldl SlvJob.first a, ?_, foldl_first_mem xs a, foldl_first_before xs a⟩
  simp only [SolverDie.nextJob, hq]
  rfl

/-! ### The start of a job (R101, R118) -/

section
variable {m : Module} {sd : Nat}

theorem giveStart_sd {r : SlvRun} (set : Option WarmSet) (hsd : sd < m.sds.length) (hr : (m.sd sd).run = some r) :
    ∃ x0 flags, (giveStart sd set m).sd sd =
      { m.sd sd with run := some { r with x0 := x0, job := { r.job with flags := flags } } } := by
  refine ⟨(warmStart r.job.tmpl r.job.tmpl.unknowns set).1,
    r.job.flags ||| (warmStart r.job.tmpl r.job.tmpl.unknowns set).2.1, ?_⟩
  simp only [giveStart, hr]
  split <;> simp [updTpl, updRun, reportSd, reportAs, hsd, hr]

theorem giveStart_nvmOut (set : Option WarmSet) : (giveStart sd set m).nvmOut = m.nvmOut := by
  unfold giveStart
  split
  · rfl
  · simp only
    split <;> simp [updTpl, updRun, reportSd, reportAs]

theorem takePayload_waiting {r : SlvRun} (hr : (m.sd sd).run = some r) (hp : r.job.payload = none) :
    takePayload sd m = m := by
  simp [takePayload, hr, hp]

/-- A job on its die before its payload has come: it alone of the queue has gone from it (R101). -/
def engaged (sd : Nat) (j : SlvJob) (m : Module) : Module :=
  slvWatch (updTpl j.lane j.requested (fun v => { v with
    status := 2, flags := j.flags, pivotCount := 0, pivotFirst := 0xFFFFFFFF })
    ((domSettle (2 + sd) (engDoms ++ bankDoms) m).updSd sd fun x => { x with
      queue := x.queue.filter (·.seq != j.seq), state := .active
      run := some { job := j, batch := j.tmpl.problemList.map fun _ => none } }))

theorem startJob_eq (j : SlvJob) : startJob sd j m = takePayload sd (giveStart sd
    (if j.warmSrc = 1 then priorResult sd j.requested (engaged sd j m) else none) (engaged sd j m)) := rfl

theorem engaged_sd (j : SlvJob) (hsd : sd < m.sds.length) :
    ((engaged sd j m).sd sd).state = .active ∧
      ((engaged sd j m).sd sd).run = some { job := j, batch := j.tmpl.problemList.map fun _ => none } := by
  have settled : sd < (domSettle (2 + sd) (engDoms ++ bankDoms) m).sds.length := by
    rwa [length_sds_of_blank (blank_domSettle ..)]
  rw [engaged, state_of_blank (sd_of_blank (blank_slvWatch _) sd), run_of_blank (sd_of_blank (blank_slvWatch _) sd)]
  simp [updTpl, settled]

theorem engaged_length (j : SlvJob) : (engaged sd j m).sds.length = m.sds.length := by
  rw [engaged, length_sds_of_blank (blank_slvWatch _), updTpl, updLane_sds, length_sds_updSd,
    length_sds_of_blank (blank_domSettle ..)]

theorem engaged_nvmOut (j : SlvJob) : (engaged sd j m).nvmOut = m.nvmOut := by
  rw [engaged, nvmOut_of_blank (blank_slvWatch _), updTpl, updLane_nvmOut, updSd_nvmOut,
    nvmOut_of_blank (blank_domSettle ..)]

/-- A job that starts without its payload waits for it on its die (R101). -/
theorem startJob_waits {j : SlvJob} (hsd : sd < m.sds.length) (hp : j.payload = none) :
    (startJob sd j m).nvmOut = m.nvmOut ∧ ((startJob sd j m).sd sd).state = .active ∧
      ∃ r, ((startJob sd j m).sd sd).run = some r ∧ r.job.seq = j.seq ∧ r.job.deadlineUs = j.deadlineUs ∧
        r.phase = .waitPayload := by
  obtain ⟨state, run⟩ := engaged_sd j hsd
  obtain ⟨x0, flags, given⟩ := giveStart_sd
    (if j.warmSrc = 1 then priorResult sd j.requested (engaged sd j m) else none) ((engaged_length j).symm ▸ hsd) run
  rw [startJob_eq, takePayload_waiting (congrArg SolverDie.run given) hp, given, giveStart_nvmOut, engaged_nvmOut]
  exact ⟨rfl, state, _, rfl, rfl, rfl, rfl⟩

end

/-! ### The commands -/

section
variable {s : State} {l : LaneId} {sd : Nat}

theorem does_jobStart {j : SlvJob} (hr : (s.m.sd sd).run = none) (hp : (s.m.sd sd).powered = true)
    (hs : (s.m.sd sd).state ∈ [.waking, .active]) (hj : (s.m.sd sd).nextJob = some j) :
    Does (.jobStart sd) s fun _ m => startJob sd j m := by
  have d : Does (.jobStart sd) s (jobStartBody sd) := rfl
  refine d.congr ?_
  simp only [List.mem_cons, List.not_mem_nil, or_false] at hs
  rcases hs with hs | hs <;> simp [jobStartBody, hr, hp, hs, hj]

theorem does_jobStart_busy (hr : (s.m.sd sd).run.isSome = true) : Does (.jobStart sd) s fun _ m => m := by
  have d : Does (.jobStart sd) s (jobStartBody sd) := rfl
  exact d.congr (by simp [jobStartBody, hr])

/-- A job with the payload it was sent. -/
def SlvJob.give (l : LaneId) (q : Nat) (p : SlvPayload) (j : SlvJob) : SlvJob :=
  if j.seq = q && j.lane == l then { j with payload := some p } else j

@[simp] theorem give_seq (l : LaneId) (q : Nat) (p : SlvPayload) (j : SlvJob) : (j.give l q p).seq = j.seq := by
  unfold SlvJob.give
  split <;> rfl

/-- A payload goes to its job, queued or running (R99). -/
def keepPayload (l : LaneId) (sd q : Nat) (p : SlvPayload) (m : Module) : Module :=
  m.updSd sd fun x => { x with
    queue := x.queue.map (SlvJob.give l q p), run := x.run.map fun y => { y with job := y.job.give l q p } }

variable {q : Nat} {p : SlvPayload} {rest : List Mail}
  (hmail : s.m.mail = ⟨l.num, 2 + sd, .payload q p⟩ :: rest)
include hmail

theorem does_payloadReceived : Does (.payloadReceived l sd) s fun _ m =>
    let m := keepPayload l sd q p (m.withMail rest)
    match (m.sd sd).run with
    | some r => if r.job.seq = q && r.phase == .waitPayload then takePayload sd m else m
    | none => m := by
  have d : Does (.payloadReceived l sd) s (payloadReceivedBody l sd) := rfl
  refine d.congr ?_
  simp only [payloadReceivedBody, fresh_mail, hmail, sdId]
  rw [takeMail_front (a := (q, p)) rfl] <;> rfl

theorem does_payloadReceived_idle (hr : (s.m.sd sd).run = none) :
    Does (.payloadReceived l sd) s fun _ m => keepPayload l sd q p (m.withMail rest) := by
  refine (does_payloadReceived hmail).congr ?_
  have idle : ((keepPayload l sd q p (s.m.fresh.withMail rest)).sd sd).run = none := by
    rcases sd_updSd_or (s.m.fresh.withMail rest) sd _ with e | e <;> exact (congrArg SolverDie.run e).trans (by simp [hr])
  simp only [idle]

variable {r : SlvRun} (hr : (s.m.sd sd).run = some r) (hsd : sd < s.m.sds.length)
include hr hsd

theorem does_payloadReceived_taken (hq : r.job.seq = q) (hp : r.phase = .waitPayload) :
    Does (.payloadReceived l sd) s fun _ m => takePayload sd (keepPayload l sd q p (m.withMail rest)) :=
  (does_payloadReceived hmail).congr (by simp [keepPayload, hsd, hr, hq, hp])

theorem does_payloadReceived_kept (h : r.job.seq ≠ q ∨ r.phase ≠ .waitPayload) :
    Does (.payloadReceived l sd) s fun _ m => keepPayload l sd q p (m.withMail rest) := by
  refine (does_payloadReceived hmail).congr ?_
  rcases h with h | h <;> simp [keepPayload, hsd, hr, h]

end

/-- Settles O21: the descriptor by its claim and its counter, the start by the order of the queue, the payload by its
job. -/
theorem jobsStartByDeadline : Obligations.JobsStartByDeadline := by
  unfold Obligations.JobsStartByDeadline
  intro s l sd
  refine ⟨fun j rest hmail h => ?rejected, fun j rest hmail hc hl hs hn =>
      ⟨does_jobDescriptor_queued hmail hc hl hs hn, does_jobDescriptor_stale hmail hc hl hs hn⟩,
    fun j rest hmail hc hl hs => ?ignored, fun j rest hmail hc hl hs hn hi hsd => ?queued,
    fun hsd hr hp hs hq waits => ?starts, fun j => does_jobStart, ?received,
    fun hr => ?busy, fun q p rest hmail hr => ?payload⟩
  case rejected =>
    refine (does_jobDescriptor_rejected hmail h).ends ?_
    simp [SameStores, Module.updSd]
  case ignored =>
    refine (does_jobDescriptor_ignored hmail hc hl hs).ends ?_
    simp [SameStores]
  case queued =>
    have same (m : Module) := blank_engines l (2 + sd) sd m
    refine (does_jobDescriptor_queued hmail hc hl hs hn hi).ends ⟨⟨?_, rfl⟩, ?_, ?_⟩
    · exact commit_mem_of_quiet _ _ ((nvmOut_of_blank (same _)).trans (by simp))
    · rw [commit_m, closed_sd, queue_of_blank (sd_of_blank (same _) sd)]
      simp [hsd]
    · rw [commit_m, closed_sd, run_of_blank (sd_of_blank (same _) sd)]
      simp [hsd]
  case starts =>
    obtain ⟨j, hj, mem, least⟩ := nextJob_spec hq
    obtain ⟨quiet, state, r, run, seq, deadline, phase⟩ := startJob_waits (m := s.m.fresh) (by simpa using hsd) (waits j mem)
    exact (does_jobStart hr hp hs hj).ends ⟨⟨commit_mem_of_quiet _ _ quiet, rfl⟩, state, r, j, run, mem, seq, deadline,
      phase, least⟩
  case busy =>
    refine (does_jobStart_busy hr).ends ?_
    simp [SameStores]
  case received =>
    intro q p rest r hmail hr give kept hsd
    exact ⟨does_payloadReceived_taken hmail hr hsd, does_payloadReceived_kept hmail hr hsd⟩
  case payload =>
    refine (does_payloadReceived_idle hmail hr).ends ?_
    refine ⟨by simp [SameStores, keepPayload], by simp [keepPayload], ?_⟩
    refine upd_eq_upd (xs := s.m.sds) fun x hx => ?_
    have idle : x.run = none := by simpa [Module.sd, at?, hx] using hr
    simp [idle, SlvJob.give]

end Sys2Proof.Machine
end

section
/-! Changes of mode: what they read and leave of a lane's modes, tasks and forces (R311, R312). -/

namespace Sys2Proof.Machine

/-- What a change of mode concerns in a lane: its mode, its tasks, its force table, and the select registers beside them. -/
structure Course where
  mode : Mode
  cause : Nat
  running : Bool
  startWait : Option Bool
  exchOld : Option (Conf × Nat)
  tasks : List Task
  forces : List (Nat × ForceEntry)
  forceResult : Nat
  selHost : Sel
  selFw : Sel

def Course.sel (p : Course) : View → Sel
  | .host => p.selHost
  | .fw => p.selFw

def Lane.course (L : Lane) : Course :=
  { mode := L.sys.mode, cause := L.sys.cause, running := L.prg.running, startWait := L.prg.startWait
    exchOld := L.prg.exchOld, tasks := L.prg.tasks, forces := L.prg.forces, forceResult := L.prg.forceResult
    selHost := L.selHost, selFw := L.selFw }

theorem course_of_blank {m n : Module} (h : m.blank = n.blank) (l : LaneId) : (m.lane l).course = (n.lane l).course :=
  (congrArg Lane.course (lane_of_blank h l) :)

section
variable (l : LaneId) (m : Module)

@[simp] theorem course_raise (k : LaneId) (b n : Nat) : ((raise l b n m).lane k).course = (m.lane k).course :=
  course_of_blank (blank_raise ..) k

@[simp] theorem course_report (k : LaneId) (b c x y z : Nat) :
    ((report l b c x y z m).lane k).course = (m.lane k).course :=
  course_of_blank (blank_report ..) k

/-- Messages sent in a loop change no lane. -/
@[simp] theorem lane_sends {α : Type} (xs : List α) (src dst : α → Nat) (msg : α → Msg) (k : LaneId) :
    (forEach xs (fun x => send (src x) (dst x) (msg x)) m).lane k = m.lane k :=
  forEach_part (fun m => m.lane k) xs _ (fun _ _ => send_lane ..) m

@[simp] theorem nvmOut_sends {α : Type} (xs : List α) (src dst : α → Nat) (msg : α → Msg) :
    (forEach xs (fun x => send (src x) (dst x) (msg x)) m).nvmOut = m.nvmOut :=
  forEach_part (·.nvmOut) xs _ (fun _ _ => send_nvmOut ..) m

@[simp] theorem course_endInjection : ((endInjection l m).lane l).course = (m.lane l).course := by
  unfold endInjection
  simp only
  split
  · rw [course_report]
    simp [updSys, Lane.course]
  · rfl

@[simp] theorem course_cancelArm (die : Nat) : ((cancelArm l die m).lane l).course = (m.lane l).course := by
  unfold cancelArm
  simp only
  split
  · rw [course_report]
    simp [updCfg, Lane.course]
  · rfl

theorem nvmOut_endInjection : (endInjection l m).nvmOut = m.nvmOut := by
  unfold endInjection
  simp only
  split <;> simp [updSys]

theorem nvmOut_cancelArm (die : Nat) : (cancelArm l die m).nvmOut = m.nvmOut := by
  unfold cancelArm
  simp only
  split <;> simp [updCfg]

@[simp] theorem nvmOut_setMode (d : Mode) (c : Nat) : (setMode l d c m).nvmOut = m.nvmOut := by
  unfold setMode
  simp only
  split_ifs <;> simp [updSys, nvmOut_cancelArm, nvmOut_endInjection]

variable {l m}

theorem course_updMode (d : Mode) (c was : Nat) :
    ((updSys l (fun x => { x with mode := d, cause := c, prev := was }) m).lane l).course =
      { (m.lane l).course with mode := d, cause := c } := by
  simp only [updSys, lane_updLane]
  rfl

/-- A mode that is not frozen is left for another (R311, R316). -/
theorem course_setMode (h : m.frozen l = false) (d : Mode) (c : Nat) :
    ((setMode l d c m).lane l).course = { (m.lane l).course with mode := d, cause := c } := by
  have kept : ((if (m.lane l).sys.mode == .commission && d != .commission then endInjection l m else m).lane l).course =
      (m.lane l).course := by
    split <;> simp
  simp only [setMode, h, Bool.false_eq_true, if_false]
  by_cases five : c = 5
  · rw [if_pos five, course_report, course_raise, course_updMode, kept]
  · rw [if_neg five, course_cancelArm, course_report, course_raise, course_updMode, kept]

theorem setMode_frozen (h : m.frozen l = true) (d : Mode) (c : Nat) : setMode l d c m = m := by
  simp [setMode, h]

/-! ### RUN and RUN_FORCED (R155, R311) -/

/-- Between modes that run the tasks, a change of mode neither stops nor starts them. -/
theorem enterMode_running {d : Mode} {c : Nat} (h : (m.lane l).sys.mode.runs = true) (hd : d.runs = true)
    (hc : c ≠ 3 ∧ c ≠ 4) : enterMode l d c m = setMode l d c m := by
  by_cases frozen : m.frozen l = true
  · simp [enterMode, setMode_frozen, frozen]
  · simp [enterMode, frozen, h, hd, hc]

theorem followForces_cases (l : LaneId) (m : Module) :
    followForces l m = m ∨ ∃ d, followForces l m = setMode l d 2 m := by
  unfold followForces
  simp only
  split_ifs with forced plain
  · simp only [Bool.and_eq_true, beq_iff_eq] at forced
    exact .inr ⟨_, enterMode_running (by simp [forced.1, Mode.runs]) rfl (by decide)⟩
  · simp only [Bool.and_eq_true, beq_iff_eq] at plain
    exact .inr ⟨_, enterMode_running (by simp [plain.1, Mode.runs]) rfl (by decide)⟩
  · exact .inl rfl

@[simp] theorem nvmOut_followForces (l : LaneId) (m : Module) : (followForces l m).nvmOut = m.nvmOut := by
  rcases followForces_cases l m with e | ⟨d, e⟩ <;> simp [e]

/-- What follows a change of the force table is a mode alone. -/
theorem course_followForces (l : LaneId) (m : Module) :
    ∃ d c, ((followForces l m).lane l).course = { (m.lane l).course with mode := d, cause := c } := by
  rcases followForces_cases l m with e | ⟨d, e⟩
  · exact ⟨_, _, congrArg (fun m => (m.lane l).course) e⟩
  · cases frozen : m.frozen l
    · exact ⟨d, 2, by rw [e, course_setMode frozen]⟩
    · exact ⟨_, _, by rw [e, setMode_frozen frozen]⟩

end
end Sys2Proof.Machine
end

section
/-! Publishes at the field dies (R31, R183, R187). -/

namespace Sys2Proof.Machine

/-- A command rejected for its claim is counted, and nothing else but what is told of it changes (R187). -/
theorem blank_rejectClaim (d claim n : Nat) (m : Module) : (rejectClaim d claim n m).blank =
    (m.updFd d fun x => { x with claimRejected := sat max32 (x.claimRejected + n) }).blank := by
  simp [rejectClaim]

section
variable {s : State} {l : LaneId} {d : Nat} {c : OutCmds} {rest : List Mail}
  (hmail : s.m.mail = ⟨l.num, 4 + d, .outputs c⟩ :: rest) (hd : s.m.fdReach l d = true)
include hmail hd

theorem does_outputCommandsReceived : Does (.outputCommandsReceived l d) s fun _ m =>
    let m := m.withMail rest
    if c.claim ≠ (m.fd d).claim || c.counter ≠ (m.fd d).bankCounter || claimLane c.claim ≠ l then
      rejectClaim d c.claim ((m.fd d).cmdCount d c + c.frameCount) m
    else
      let free := !(m.fd d).firstCmd && (m.lane l).pwr.step == 0
      forEach c.frames (fun f => canQueue d f.1 c.claim f.2) (m.updFd d fun x => { x with
        cmds := x.cmds ++ [c], firstCmd := true
        supplies := if free then x.supplies.map fun y => { y with held := none } else x.supplies }) := by
  have b : Does (.outputCommandsReceived l d) s (outputCommandsReceivedBody l d) := rfl
  refine b.congr ?_
  simp only [outputCommandsReceivedBody, fresh_mail, hmail, fdId]
  rw [takeMail_front (a := c) rfl]
  exact if_neg (show ¬ (!(s.m.fresh.withMail rest).fdReach l d) = true by simp [hd])

theorem does_outputCommandsReceived_kept (hc : c.claim = (s.m.fd d).claim) (hn : c.counter = (s.m.fd d).bankCounter)
    (hl : claimLane c.claim = l) : Does (.outputCommandsReceived l d) s fun _ m =>
      let free := !(m.fd d).firstCmd && (m.lane l).pwr.step == 0
      forEach c.frames (fun f => canQueue d f.1 c.claim f.2) ((m.withMail rest).updFd d fun x => { x with
        cmds := x.cmds ++ [c], firstCmd := true
        supplies := if free then x.supplies.map fun y => { y with held := none } else x.supplies }) :=
  (does_outputCommandsReceived hmail hd).congr (if_neg (by simp [← hc, ← hn, hl]))

theorem does_outputCommandsReceived_rejected
    (h : c.claim ≠ (s.m.fd d).claim ∨ c.counter ≠ (s.m.fd d).bankCounter ∨ claimLane c.claim ≠ l) :
    Does (.outputCommandsReceived l d) s fun _ m =>
      rejectClaim d c.claim ((m.fd d).cmdCount d c + c.frameCount) (m.withMail rest) :=
  (does_outputCommandsReceived hmail hd).congr (if_pos (by simpa [or_assoc] using h))

end

theorem does_commandApply {s : State} {a : Nat} {as : List Nat}
    (h : s.m.fdList.flatMap (fun d => if s.m.fdUp d then (s.m.fd d).cmds.map (·.tick) else []) = a :: as) :
    Does .commandApply s fun _ m => forEach m.fdList applyDue (clockTo (as.foldl min a) m) := by
  have b : Does .commandApply s commandApplyBody := rfl
  refine b.congr ?_
  have ticks : s.m.fresh.fdList.flatMap
      (fun d => if s.m.fresh.fdUp d then (s.m.fresh.fd d).cmds.map (·.tick) else []) = a :: as := h
  simp only [commandApplyBody, ticks]
  rfl

end Sys2Proof.Machine
end

section
/-! The force table (R152 to R155). -/

namespace Sys2Proof.Machine

section
variable (l : LaneId) (m : Module)

@[simp] theorem nvmOut_forceEnd (x code : Nat) : (forceEnd l x code m).nvmOut = m.nvmOut := by
  unfold forceEnd
  simp only
  split <;> simp [updPrg]

theorem prg_forceEnd (x code : Nat) :
    ((forceEnd l x code m).lane l).prg = { (m.lane l).prg with forceResult := code } := by
  unfold forceEnd
  simp only
  split <;> simp [updPrg]

@[simp] theorem course_forceEnd (x code : Nat) :
    ((forceEnd l x code m).lane l).course = { (m.lane l).course with forceResult := code } := by
  unfold forceEnd
  simp only
  split <;> simp [updPrg, Lane.course]

/-- The reports of the entries that go, and the interrupt of a table that changes, leave the module but for what they
tell. -/
theorem blank_dropForces (cause : Nat) (gone : Nat → ForceEntry → Bool) : (dropForces l cause gone m).blank =
    (updPrg l (fun p => { p with forces := p.forces.filter fun f => !gone f.1 f.2 }) m).blank := by
  have told (xs : List (Nat × ForceEntry)) (n : Module) :
      (forEach xs (fun f => report l 5 0x3005 f.1 f.2.target cause) n).blank = n.blank :=
    blank_forEach _ _ _ fun _ _ => blank_report ..
  simp only [dropForces]
  split <;> simp [told]

@[simp] theorem nvmOut_dropForces (cause : Nat) (gone : Nat → ForceEntry → Bool) :
    (dropForces l cause gone m).nvmOut = m.nvmOut :=
  (nvmOut_of_blank (blank_dropForces ..)).trans (updLane_nvmOut ..)

@[simp] theorem course_dropForces (cause : Nat) (gone : Nat → ForceEntry → Bool) :
    ((dropForces l cause gone m).lane l).course =
      { (m.lane l).course with forces := (m.lane l).prg.forces.filter fun f => !gone f.1 f.2 } := by
  rw [course_of_blank (blank_dropForces ..), updPrg, lane_updLane]
  rfl

end

section
variable {s : State} {l : LaneId} {v : View} (h : Heard s l v)
include h

/-- The effect of a register's command on a heard access is that of its body past the guard (R459). -/
theorem guardWrite_heard (f : Module → Module) : guardWrite l v f s.m.fresh = f s.m.fresh :=
  guardWrite_pass f ((fresh_reach ..).trans h.1) ((fresh_mute ..).trans h.2)

section
variable {x y : Nat} (hx : (s.m.lane l).prg.forceTarget = x) (hy : (s.m.lane l).prg.forceValue = y)
include hx hy

theorem does_forceSet_sound (sound : (s.m.lane l).judgeForce x y = 0) : Does (.forceSet l v) s fun _ m =>
    let e := (m.lane l).prg.entryFor (m.sel l v).prgForce x
    let m := updSel l v (fun w => { w with prgForce := e }) (updPrg l
      (fun p => { p with forces := putKey p.forces e { target := x, value := y } }) m)
    followForces l (report l 5 0x3004 e x y (raise l 5 0x200 (forceEnd l x 0 m))) := by
  have b : Does (.forceSet l v) s (forceSetBody l v) := rfl
  refine b.congr ((guardWrite_heard h _).trans ?_)
  simp [hx, hy, sound]

theorem does_forceSet_refused (unsound : (s.m.lane l).judgeForce x y ≠ 0) :
    Does (.forceSet l v) s fun _ m => forceEnd l x ((m.lane l).judgeForce x y) m := by
  have b : Does (.forceSet l v) s (forceSetBody l v) := rfl
  refine b.congr ((guardWrite_heard h _).trans ?_)
  simp [hx, hy, unsound]

end

theorem does_forceClear (hm : mayClear (s.m.lane l).sys.mode = true) : Does (.forceClear l v) s fun _ m =>
    let e := (m.sel l v).prgForce
    let x := (((m.lane l).prg.forces.find? (·.1 == e)).map fun f => f.2.target).getD 0xFFFFFFFF
    followForces l (dropForces l 0 (fun k _ => k == e) (forceEnd l x 0 m)) := by
  have b : Does (.forceClear l v) s (forceClearBody l v) := rfl
  refine b.congr ((guardWrite_heard h _).trans ?_)
  simp [hm]

theorem does_forceClear_refused (hm : mayClear (s.m.lane l).sys.mode = false) : Does (.forceClear l v) s fun _ m =>
    let e := (m.sel l v).prgForce
    forceEnd l ((((m.lane l).prg.forces.find? (·.1 == e)).map fun f => f.2.target).getD 0xFFFFFFFF) 2 m := by
  have b : Does (.forceClear l v) s (forceClearBody l v) := rfl
  refine b.congr ((guardWrite_heard h _).trans ?_)
  simp [hm]

theorem does_forceClearAll (hm : mayClear (s.m.lane l).sys.mode = true) : Does (.forceClearAll l v) s fun _ m =>
    followForces l (dropForces l 2 (fun _ _ => true) (forceEnd l 0xFFFFFFFF 0 m)) := by
  have b : Does (.forceClearAll l v) s (forceClearAllBody l v) := rfl
  refine b.congr ((guardWrite_heard h _).trans ?_)
  simp [hm]

theorem does_forceClearAll_refused (hm : mayClear (s.m.lane l).sys.mode = false) :
    Does (.forceClearAll l v) s fun _ m => forceEnd l 0xFFFFFFFF 2 m := by
  have b : Does (.forceClearAll l v) s (forceClearAllBody l v) := rfl
  refine b.congr ((guardWrite_heard h _).trans ?_)
  simp [hm]

end

/-- The table, the result and the select registers after a command that the modes then follow. -/
theorem forces_followForces {l : LaneId} {m : Module} {p : Course} (h : (m.lane l).course = p) :
    ((followForces l m).lane l).prg.forces = p.forces ∧ ((followForces l m).lane l).prg.forceResult = p.forceResult ∧
      ∀ v, (followForces l m).sel l v = p.sel v := by
  obtain ⟨d, c, e⟩ := course_followForces l m
  rw [h] at e
  refine ⟨congrArg Course.forces e, congrArg Course.forceResult e, fun v => ?_⟩
  cases v
  · exact congrArg Course.selHost e
  · exact congrArg Course.selFw e

/-- Settles O20: the publish by its claim and its counter; a force command by what it is judged, the modes following the
table that it leaves. -/
theorem publishesAndForcesAct : Obligations.PublishesAndForcesAct := by
  unfold Obligations.PublishesAndForcesAct
  refine ⟨fun s l d => ⟨fun c rest => does_outputCommandsReceived_kept, fun c rest hmail hd hc hn hl hf first => ?kept,
      fun c rest hmail hd hc => ?rejected, fun a as => does_commandApply⟩,
    fun s l v h => ⟨fun x y hx hy sound => ⟨?set, does_forceSet_sound h hx hy sound⟩,
      fun x y hx hy unsound => ⟨?refused, does_forceSet_refused h hx hy unsound⟩,
      fun hm => ⟨?clear, does_forceClear h hm⟩, fun hm => ⟨?clearAll, does_forceClearAll h hm⟩,
      fun hm => ⟨?clearRefused, does_forceClear_refused h hm⟩,
      fun hm => ⟨?clearAllRefused, does_forceClearAll_refused h hm⟩⟩⟩
  case kept =>
    refine (does_outputCommandsReceived_kept hmail hd hc hn hl).ends ?_
    simp [SameStores, hf, first, Module.updFd]
  case rejected =>
    have reached := lt_of_fdReach hd
    refine (does_outputCommandsReceived_rejected hmail hd hc).ends ⟨⟨?_, rfl⟩, ?_, ?_⟩
    · exact commit_mem_of_quiet _ _ ((nvmOut_of_blank (blank_rejectClaim ..)).trans rfl)
    · rw [commit_m, closed_mail, mail_of_blank (blank_rejectClaim ..)]
      simp
    · rw [commit_m, closed_fd, cmds_of_blank (fd_of_blank (blank_rejectClaim ..) d),
        claim_of_blank (fd_of_blank (blank_rejectClaim ..) d), claimRejected_of_blank (fd_of_blank (blank_rejectClaim ..) d)]
      simp [reached]
  case set =>
    refine (does_forceSet_sound h hx hy sound).ends ⟨⟨?_, rfl⟩, ?_, ?_, ?_⟩
    · exact commit_mem_of_quiet _ _ (by simp [updSel, updPrg])
    · rw [commit_m, closed_lane, (forces_followForces rfl).2.1]
      simp
    · rw [commit_m, closed_lane, (forces_followForces rfl).1, course_report, course_raise, course_forceEnd]
      cases v <;> simp [updSel, updPrg, Lane.course]
    · rw [commit_m, closed_sel, (forces_followForces rfl).2.2 v, course_report, course_raise, course_forceEnd]
      cases v <;> simp [updSel, updPrg, Lane.course, Course.sel]
  case refused =>
    refine (does_forceSet_refused h hx hy unsound).ends ⟨⟨?_, rfl⟩, ?_⟩
    · exact commit_mem_of_quiet _ _ (by simp)
    · simp [prg_forceEnd]
  case clear =>
    refine (does_forceClear h hm).ends ⟨⟨?_, rfl⟩, ?_⟩
    · exact commit_mem_of_quiet _ _ (by simp)
    · simp only [commit_m, closed_lane]
      obtain ⟨forces, result, -⟩ := forces_followForces (course_dropForces l _ _ _)
      rw [forces, result]
      simp [prg_forceEnd, bne]
  case clearAll =>
    refine (does_forceClearAll h hm).ends ⟨⟨?_, rfl⟩, ?_⟩
    · exact commit_mem_of_quiet _ _ (by simp)
    · simp only [commit_m, closed_lane]
      obtain ⟨forces, result, -⟩ := forces_followForces (course_dropForces l _ _ _)
      rw [forces, result]
      simp [prg_forceEnd]
  case clearRefused =>
    refine (does_forceClear_refused h hm).ends ⟨⟨?_, rfl⟩, ?_⟩
    · exact commit_mem_of_quiet _ _ (by simp)
    · simp [prg_forceEnd]
  case clearAllRefused =>
    refine (does_forceClearAll_refused h hm).ends ⟨⟨?_, rfl⟩, ?_⟩
    · exact commit_mem_of_quiet _ _ (by simp)
    · simp [prg_forceEnd]

end Sys2Proof.Machine
end

section
/-! A lane's tasks: how their boundaries act, and how SAFE_HOLD stops them (R132, R137 to R139, R311, R312). -/

namespace Sys2Proof.Machine

/-! ### SAFE_HOLD taken by itself -/

section
variable {l : LaneId} {m : Module}

theorem course_blkDoms (t : DomState) : ((blkDoms l t m).lane l).course = (m.lane l).course :=
  course_of_blank (blank_forEach _ _ _ fun _ _ => blank_domRequest ..) l

theorem course_commandSafe : ((commandSafe l m).lane l).course = (m.lane l).course := by
  rw [commandSafe, updPrg, lane_updLane, ← course_blkDoms .ret, sendSafe, sendCmds, lane_sends]
  rfl

/-- The tasks stop: none is to start, and those that wait for a carry-over end (R161). -/
theorem course_programStop {p : Course} (h : (m.lane l).course = p) : ∃ ts, (p.exchOld = none → ts = p.tasks) ∧
    ((programStop l m).lane l).course = { p with running := false, startWait := none, tasks := ts } := by
  subst h
  refine ⟨(m.lane l).prg.tasks.zipIdx.map fun x => if (m.lane l).waitsCarry x.2 then
    { x.1 with executing := false, publishing := false, clockOn := false } else x.1, fun exch => ?_, ?_⟩
  · simp [Lane.waitsCarry, show (m.lane l).prg.exchOld = none from exch, Lane.course]
  · simp only [programStop]
    rw [apply_ite (fun n : Module => (n.lane l).course), course_commandSafe, ite_self]
    simp only [lane_updLane, Lane.course]

theorem enterMode_stops {d : Mode} {c : Nat} (h : m.frozen l = false) (was : (m.lane l).sys.mode.runs = true)
    (hd : d.runs = false) : enterMode l d c m = programStop l
      (if d == .safeHold && (c == 3 || c == 4) then raise l 0 4 (setMode l d c m) else setMode l d c m) := by
  simp [enterMode, h, was, hd]

theorem justRequested_eq_false {L : Lane} {t : Nat} :
    L.justRequested t = false ↔ ∀ x ∈ L.sys.reqLast, ¬ t < x.1 + 1000000 := by
  simp [Lane.justRequested, Option.any_eq_false]

theorem frozen_of_blank {n : Module} (h : m.blank = n.blank) : m.frozen l = n.frozen l := by
  have phase : (m.lane l).sys.phase = (n.lane l).sys.phase := (congrArg (·.sys.phase) (lane_of_blank h l) :)
  simp only [Module.frozen, phase]

theorem justRequested_of_blank {n : Module} (h : m.blank = n.blank) (t : Nat) :
    (m.lane l).justRequested t = (n.lane l).justRequested t := by
  have last : (m.lane l).sys.reqLast = (n.lane l).sys.reqLast := (congrArg (·.sys.reqLast) (lane_of_blank h l) :)
  simp only [Lane.justRequested, last]

/-- Where no request of the same 1 ms stands, SAFE_HOLD is entered from a mode that runs the tasks (R311, R313). -/
theorem autoHold_eq {c : Nat} (h : (m.lane l).justRequested m.now = false) (was : (m.lane l).sys.mode.runs = true) :
    autoHold l c m = enterMode l .safeHold c m := by
  have running : (m.lane l).sys.mode ≠ .safeHold := by
    intro e
    simp [e, Mode.runs] at was
  unfold autoHold
  cases e : (m.lane l).sys.reqLast with
  | none => simp [e, was, running]
  | some x =>
    have late := justRequested_eq_false.mp h x e
    simp [e, late, was, running]

/-- SAFE_HOLD taken by itself: its mode, its cause, and the tasks stopped (R138, R139, R311). -/
theorem course_autoHold {c : Nat} (h : m.frozen l = false) (was : (m.lane l).sys.mode.runs = true)
    (asked : (m.lane l).justRequested m.now = false) :
    ∃ ts, ((m.lane l).prg.exchOld = none → ts = (m.lane l).prg.tasks) ∧ ((autoHold l c m).lane l).course =
      { (m.lane l).course with mode := .safeHold, cause := c, running := false, startWait := none, tasks := ts } := by
  have set : ((if Mode.safeHold == .safeHold && (c == 3 || c == 4) then raise l 0 4 (setMode l .safeHold c m)
      else setMode l .safeHold c m).lane l).course = { (m.lane l).course with mode := .safeHold, cause := c } := by
    rw [apply_ite (fun n : Module => (n.lane l).course), course_raise, ite_self, course_setMode h]
  obtain ⟨ts, kept, stopped⟩ := course_programStop set
  exact ⟨ts, kept, by rw [autoHold_eq asked was, enterMode_stops h was rfl, stopped]⟩

/-- Once the safe-state commands have followed the last cycle, no start waits: the lane's course is as it was (R312). -/
theorem course_safeOnceStopped (h : (m.lane l).prg.startWait = none) :
    ((safeOnceStopped l m).lane l).course = (m.lane l).course := by
  unfold safeOnceStopped
  simp only
  split
  · rfl
  · simp only [h, course_commandSafe]

end

/-! ### A task at its boundary and at its watchdog -/

section
variable {l : LaneId} {k : Nat} {m : Module}

@[simp] theorem task_updTask (f : Task → Task) (h : k < (m.lane l).prg.tasks.length) :
    ((updTask l k f m).lane l).task k = f ((m.lane l).task k) := by
  simp [updTask, Lane.task, h]

theorem task_of_blank {m n : Module} (h : m.blank = n.blank) : (m.lane l).task k = (n.lane l).task k :=
  (congrArg (Lane.task · k) (lane_of_blank h l) :)

/-- A cycle that finds no released request begins with its task alone (R132). -/
theorem beginCycle_eq (b : Nat) (h : ((m.lane l).task k).released = []) : ∃ held img,
    beginCycle l k b m = updTask l k (fun x => { x with
      executing := true, publishing := false, clockOn := true, boundaryAt := b, stamp := b / 1000, skippedNow := 0
      heldImage := held, inImage := img, requests := [], released := []
      seen := (m.lane l).seenResults b x.boundaryAt x.seen }) m := by
  simp only [beginCycle, h, forEach_nil]
  exact ⟨_, _, rfl⟩

/-- What a watchdog does to its task: nothing is published, and its processor halts (R137, R139). -/
theorem blank_haltTask : (haltTask l k m).blank =
    (updTask l k (fun x => { x with halted := true, executing := false, clockOn := false, requests := [] })
      (clockTo (((m.lane l).task k).boundaryAt + (((m.lane l).taskConf k).task k).watchdogUs * 1000) m)).blank := by
  simp only [haltTask]
  split <;> simp

/-- A request accepted in the last 1 ms is no later one once the clock has gone on (R313). -/
theorem justRequested_mono {L : Lane} {t u : Nat} (h : L.justRequested t = false) (le : t ≤ u) :
    L.justRequested u = false := by
  rw [justRequested_eq_false] at h ⊢
  intro x hx
  have := h x hx
  omega

/-- SAFE_HOLD after a watchdog, with no exchange under way: the lane's mode, and its task halted (R139). -/
theorem course_watchdog (was : (m.lane l).sys.mode.runs = true) (exch : (m.lane l).prg.exchOld = none)
    (h : m.frozen l = false) (asked : (m.lane l).justRequested m.now = false) :
    ((safeOnceStopped l (autoHold l 4 (haltTask l k m))).lane l).course = { (m.lane l).course with
      mode := .safeHold, cause := 4, running := false, startWait := none
      tasks := upd (m.lane l).prg.tasks k fun x =>
        { x with halted := true, executing := false, clockOn := false, requests := [] } } := by
  have e := blank_haltTask (l := l) (k := k) (m := m)
  have later : m.now ≤ (haltTask l k m).now := by
    rw [now_of_blank e]
    simp [updTask]
  have calm : (haltTask l k m).frozen l = false := by
    rw [frozen_of_blank e]
    simpa [Module.frozen, updTask] using h
  have unasked : ((haltTask l k m).lane l).justRequested (haltTask l k m).now = false := by
    rw [justRequested_of_blank e]
    exact justRequested_mono (by simpa [updTask, justRequested_eq_false] using asked) later
  have course := course_of_blank e l
  simp only [updTask, lane_updLane, clockTo_lane] at course
  obtain ⟨ts, kept, held⟩ := course_autoHold (c := 4) calm
    ((congrArg (·.mode.runs) course).trans was) unasked
  rw [course_safeOnceStopped (congrArg Course.startWait held), held,
    kept ((congrArg Course.exchOld course).trans exch), course]
  exact congrArg (fun ts => ({ (m.lane l).course with
    mode := .safeHold, cause := 4, running := false, startWait := none, tasks := ts } : Course))
    (congrArg Course.tasks course)

end

section
variable {s : State} {l : LaneId} {k : Nat}

theorem does_cycleClockRequest (h : (s.m.lane l).mayCycle k = true) : Does (.cycleClockRequest l k) s fun _ m =>
    let L := m.lane l
    let b := ({ m with now := m.now + 25000 } : Module).gridFrom L.prg.t0 (L.periodNs k) (L.task k).lastB
    updTask l k (fun x => { x with clockOn := true }) (clockTo (b - 25000) m) := by
  have d : Does (.cycleClockRequest l k) s (cycleClockRequestBody l k) := rfl
  exact d.congr (if_pos (by simpa using h))

section
variable (h : (s.m.lane l).mayCycle k = true)
  {b : Nat} (hb : b = s.m.gridFrom (s.m.lane l).prg.t0 ((s.m.lane l).periodNs k) ((s.m.lane l).task k).lastB)
include h hb

theorem does_taskBoundary : Does (.taskBoundary l k) s fun _ m =>
    if (m.lane l).cfg.state == .armed && (m.lane l).cfg.confirmSent && decide ((m.lane l).cfg.applyInstant ≤ b) then m
    else
      let L := m.lane l
      let m := updTask l k (fun x => { x with lastB := b }) (clockTo b m)
      if (L.task k).executing then
        let first := (L.task k).skippedNow == 0
        let m := updTask l k (fun x => { x with
          skipped := sat max32 (x.skipped + 1), skippedNow := x.skippedNow + 1
          overruns := if first then sat max32 (x.overruns + 1) else x.overruns
          consec := if first then sat 255 (x.consec + 1) else x.consec }) m
        if first then raise l 5 (1 <<< k) m else m
      else beginCycle l k b m := by
  have d : Does (.taskBoundary l k) s (taskBoundaryBody l k) := rfl
  refine d.congr ?_
  have origin : s.m.fresh.gridFrom (s.m.lane l).prg.t0 ((s.m.lane l).periodNs k) ((s.m.lane l).task k).lastB = b :=
    hb.symm
  simp [taskBoundaryBody, h, origin]

/-- A boundary at or after the instant of a confirmed apply waits for it (R60). -/
theorem does_taskBoundary_held (held : (s.m.lane l).cfg.state = .armed ∧ (s.m.lane l).cfg.confirmSent = true ∧
    (s.m.lane l).cfg.applyInstant ≤ b) : Does (.taskBoundary l k) s fun _ m => m :=
  (does_taskBoundary h hb).congr (by simp [held])

section
variable (held : ¬((s.m.lane l).cfg.state = .armed ∧ (s.m.lane l).cfg.confirmSent = true ∧
  (s.m.lane l).cfg.applyInstant ≤ b))
include held

theorem does_taskBoundary_begins (idle : ((s.m.lane l).task k).executing = false) :
    Does (.taskBoundary l k) s fun _ m => beginCycle l k b (updTask l k (fun x => { x with lastB := b }) (clockTo b m)) :=
  (does_taskBoundary h hb).congr (by simp [and_assoc, held, idle])

/-- The first boundary a cycle runs over is skipped, and counted as an overrun (R137). -/
theorem does_taskBoundary_overruns (busy : ((s.m.lane l).task k).executing = true)
    (first : ((s.m.lane l).task k).skippedNow = 0) : Does (.taskBoundary l k) s fun _ m =>
      raise l 5 (1 <<< k) (updTask l k (fun x => { x with
        skipped := sat max32 (x.skipped + 1), skippedNow := x.skippedNow + 1
        overruns := sat max32 (x.overruns + 1), consec := sat 255 (x.consec + 1) })
        (updTask l k (fun x => { x with lastB := b }) (clockTo b m))) :=
  (does_taskBoundary h hb).congr (by simp [and_assoc, held, busy, first])

end
end

section
variable (ht : (s.m.lane l).prg.tasks.length = 4) (hk : k < 4)
include ht hk

/-- The next state of a boundary that begins a cycle with no released request (R132). -/
theorem ends_taskBoundary_begins {b : Nat} (idle : ((s.m.lane l).task k).released = []) (d : Does (.taskBoundary l k) s
    fun _ m => beginCycle l k b (updTask l k (fun x => { x with lastB := b }) (clockTo b m))) :
    Ends (.taskBoundary l k) s fun t => SameStores s t ∧ t.m.now = max s.m.now b ∧
      ((t.m.lane l).task k).executing = true ∧ ((t.m.lane l).task k).lastB = b ∧
      ((t.m.lane l).task k).boundaryAt = b ∧ ((t.m.lane l).task k).stamp = b / 1000 ∧
      ((t.m.lane l).task k).cycles = ((s.m.lane l).task k).cycles := by
  have within : k < ((clockTo b s.m.fresh).lane l).prg.tasks.length := by simp [ht, hk]
  obtain ⟨held, img, e⟩ := beginCycle_eq (l := l) (k := k) (b := b)
    (m := updTask l k (fun x => { x with lastB := b }) (clockTo b s.m.fresh)) (by
      rw [task_updTask _ within]
      simpa using idle)
  refine d.ends ⟨⟨commit_mem_of_quiet _ _ ?_, rfl⟩, ?_, ?_⟩
  · rw [e]
    simp [updTask]
  · rw [commit_m, e]
    simp [updTask]
  · rw [commit_m, closed_lane, e, task_updTask, task_updTask _ within]
    · simp
    · simp [updTask, ht, hk]

/-- The next state of a boundary that is the first its cycle runs over (R137). -/
theorem ends_taskBoundary_overruns {b : Nat} (first : ((s.m.lane l).task k).skippedNow = 0)
    (d : Does (.taskBoundary l k) s fun _ m => raise l 5 (1 <<< k) (updTask l k (fun x => { x with
        skipped := sat max32 (x.skipped + 1), skippedNow := x.skippedNow + 1
        overruns := sat max32 (x.overruns + 1), consec := sat 255 (x.consec + 1) })
        (updTask l k (fun x => { x with lastB := b }) (clockTo b m)))) :
    Ends (.taskBoundary l k) s fun t => SameStores s t ∧ (t.m.lane l).task k = { (s.m.lane l).task k with
      lastB := b, skipped := sat max32 (((s.m.lane l).task k).skipped + 1), skippedNow := 1
      overruns := sat max32 (((s.m.lane l).task k).overruns + 1)
      consec := sat 255 (((s.m.lane l).task k).consec + 1) } := by
  refine d.ends ⟨⟨commit_mem_of_quiet _ _ (by simp [updTask]), rfl⟩, ?_⟩
  have within : k < ((clockTo b s.m.fresh).lane l).prg.tasks.length := by simp [ht, hk]
  rw [commit_m, closed_lane, task_of_blank (blank_raise ..), task_updTask, task_updTask _ within]
  · simp [first]
  · simp [updTask, ht, hk]

end

/-- Too many overruns in a row bring SAFE_HOLD (R138). -/
theorem does_overrunLimit (h : (s.m.lane l).prg.running = true ∨ (s.m.lane l).justRequested s.m.now = true)
    (limit : ((s.m.lane l).conf.task k).overrunLimit ≠ 0)
    (past : ((s.m.lane l).conf.task k).overrunLimit ≤ ((s.m.lane l).task k).consec) : Does (.overrunLimit l k) s
      fun _ m => autoHold l 3 (report l 5 0x3002 k ((m.lane l).task k).consec 0 m) := by
  have d : Does (.overrunLimit l k) s (overrunLimitBody l k) := rfl
  exact d.congr (if_pos (by simpa [limit, past] using h))

section
variable (h : ((s.m.lane l).task k).executing = true) (hp : ((s.m.lane l).task k).publishing = false)
  (hh : ((s.m.lane l).task k).halted = false)
include h hp hh

theorem does_watchdog : Does (.watchdog l k) s fun _ m => safeOnceStopped l (autoHold l 4
    (if (m.lane l).oldCycle && !(m.lane l).waitsCarry k then endOldCycle l k ((m.lane l).taskConf k) (haltTask l k m)
      else haltTask l k m)) := by
  have d : Does (.watchdog l k) s (watchdogBody l k) := rfl
  exact d.congr (if_pos (by simp [h, hp, hh]))

theorem does_watchdog_old (old : (s.m.lane l).oldCycle = true ∧ (s.m.lane l).waitsCarry k = false) :
    Does (.watchdog l k) s fun _ m =>
      safeOnceStopped l (autoHold l 4 (endOldCycle l k ((m.lane l).taskConf k) (haltTask l k m))) :=
  (does_watchdog h hp hh).congr (by simp [old])

theorem does_watchdog_new (new : ¬((s.m.lane l).oldCycle = true ∧ (s.m.lane l).waitsCarry k = false)) :
    Does (.watchdog l k) s fun _ m => safeOnceStopped l (autoHold l 4 (haltTask l k m)) :=
  (does_watchdog h hp hh).congr (by simp [new])

end
end

/-- Settles O18: each command's body past its guard, the task it changes, and SAFE_HOLD taken by itself. -/
theorem taskCyclesFollowTheirBoundaries : Obligations.TaskCyclesFollowTheirBoundaries := by
  intro s l k
  have unheld {b : Nat} (h : (s.m.lane l).cfg.state ≠ .armed) : ¬((s.m.lane l).cfg.state = .armed ∧
    (s.m.lane l).cfg.confirmSent = true ∧ (s.m.lane l).cfg.applyInstant ≤ b) := fun held => h held.1
  refine ⟨fun h => ⟨(does_cycleClockRequest h).ends ⟨⟨commit_mem_of_quiet _ _ (by simp [updTask]), rfl⟩, ?_, ?_⟩,
    does_cycleClockRequest h⟩, fun h => ⟨does_taskBoundary_begins h rfl, does_taskBoundary_held h rfl⟩,
    fun h idle due unarmed ht hk => ?_, fun h busy unarmed ht hk first => ?_, fun run limit past was calm asked => ?_,
    does_overrunLimit, fun h hp hh => ⟨does_watchdog_new h hp hh, does_watchdog_old h hp hh⟩,
    fun h hp hh exch was calm asked ht hk => ?_⟩
  · simp [updTask, Module.gridFrom]
  · simp [updTask]
  · obtain ⟨t, next, same, now, ex, last, at_, stamp, cycles⟩ :=
      ends_taskBoundary_begins ht hk due (does_taskBoundary_begins h rfl (unheld unarmed) idle)
    exact ⟨t, next, same, now, ex, last.trans at_.symm, at_, stamp.trans (by rw [at_]), cycles⟩
  · exact ends_taskBoundary_overruns ht hk first (does_taskBoundary_overruns h rfl (unheld unarmed) busy first)
  · refine (does_overrunLimit (.inl run) limit past).ends ⟨rfl, ?_⟩
    have told := blank_report l 5 0x3002 k ((s.m.fresh.lane l).task k).consec 0 s.m.fresh
    obtain ⟨ts, -, held⟩ := course_autoHold (c := 3) (l := l) ((frozen_of_blank told).trans calm)
      ((congrArg (·.mode.runs) (course_of_blank told l)).trans (by simpa [Lane.course] using was))
      ((justRequested_of_blank told _).trans (by simpa using asked))
    rw [commit_m, closed_lane]
    exact ⟨congrArg Course.mode held, congrArg Course.cause held, congrArg Course.running held⟩
  · refine (does_watchdog_new h hp hh (by simp [Lane.oldCycle, exch])).ends ⟨rfl, ?_⟩
    have held := course_watchdog (m := s.m.fresh) (l := l) (k := k) (by simpa using was) (by simpa using exch) calm
      (by simpa using asked)
    have task := congrArg (fun p : Course => at? p.tasks k {}) held
    rw [commit_m, closed_lane]
    exact ⟨congrArg Course.mode held, congrArg Course.cause held,
      (congrArg Task.halted task).trans (by simp [ht, hk]), (congrArg Task.executing task).trans (by simp [ht, hk])⟩

end Sys2Proof.Machine
end

section
/-! What a field die's inputs, outputs, axes, loops and points leave as it was: everything that stays once these parts
are taken away. -/

namespace Sys2Proof.Machine

/-- A field die with its inputs, outputs, axes, loops and points as a new die's. -/
def FieldDie.shell (x : FieldDie) : FieldDie :=
  let y : FieldDie := {}
  { x with relSlots := y.relSlots, chans := y.chans, vs := y.vs, axes := y.axes, loops := y.loops, mps := y.mps
           hps := y.hps }

/-- The module with its field dies so. -/
def Module.shell (m : Module) : Module := { m with fds := m.fds.map FieldDie.shell }

/-- The module so, and with the parts blanked that reports, interrupts and domain requests write. -/
def Module.hull (m : Module) : Module := m.shell.blank

section
variable {m n : Module}

theorem fd_shell (d : Nat) : m.shell.fd d = (m.fd d).shell := by
  simp only [Module.fd, Module.shell, at?, List.getElem?_map]
  cases m.fds[d]? <;> rfl

theorem fd_of_shell (h : m.shell = n.shell) (d : Nat) : (m.fd d).shell = (n.fd d).shell := by
  rw [← fd_shell, h, fd_shell]

theorem hull_of_shell (h : m.shell = n.shell) : m.hull = n.hull := congrArg Module.blank h

theorem hull_of_blank (h : m.blank = n.blank) : m.hull = n.hull := by
  have comm (m : Module) : m.hull = m.blank.shell := by
    simp only [Module.hull, Module.shell, Module.blank, List.map_map]
    rfl
  rw [comm, comm, h]

theorem lane_of_hull (h : m.hull = n.hull) (l : LaneId) : (m.lane l).blank = (n.lane l).blank := by
  have same (m : Module) : m.shell.lane l = m.lane l := by cases l <;> rfl
  rw [← same m, ← same n, lane_of_blank h]

theorem fd_of_hull (h : m.hull = n.hull) (d : Nat) : (m.fd d).shell.blank = (n.fd d).shell.blank := by
  rw [← fd_shell, ← fd_shell, fd_of_blank h]

theorem brg_of_hull (h : m.hull = n.hull) (d : Nat) : (m.fd d).brg = (n.fd d).brg :=
  (congrArg FieldDie.brg (fd_of_hull h d) :)

theorem claim_of_hull (h : m.hull = n.hull) (d : Nat) : (m.fd d).claim = (n.fd d).claim :=
  (congrArg FieldDie.claim (fd_of_hull h d) :)

theorem railLow_of_hull (h : m.hull = n.hull) (d : Nat) : (m.fd d).railLow = (n.fd d).railLow :=
  (congrArg FieldDie.railLow (fd_of_hull h d) :)

theorem railMv_of_hull (h : m.hull = n.hull) (d : Nat) : (m.fd d).railMv = (n.fd d).railMv :=
  (congrArg FieldDie.railMv (fd_of_hull h d) :)

theorem irq_of_shell (h : m.shell = n.shell) (d : Nat) : (m.fd d).irq = (n.fd d).irq :=
  (congrArg FieldDie.irq (fd_of_shell h d) :)

theorem holds_of_hull (h : m.hull = n.hull) (l : LaneId) : (m.lane l).red.holds = (n.lane l).red.holds :=
  (congrArg (·.red.holds) (lane_of_hull h l) :)

theorem nvmOut_of_hull (h : m.hull = n.hull) : m.nvmOut = n.nvmOut := (congrArg Module.nvmOut h :)

theorem mail_of_hull (h : m.hull = n.hull) : m.mail = n.mail := (congrArg Module.mail h :)

theorem now_of_hull (h : m.hull = n.hull) : m.now = n.now := (congrArg Module.now h :)

theorem length_fds_of_hull (h : m.hull = n.hull) : m.fds.length = n.fds.length := by
  simpa [Module.shell] using length_fds_of_blank h

/-- The lanes that a die's frames go to hang on the links, the claims and the lanes that count themselves active. -/
theorem frameLanes_of_hull (h : m.hull = n.hull) (d : Nat) : m.frameLanes d = n.frameLanes d := by
  have variant : m.variant = n.variant := (congrArg Module.variant h :)
  have links (l : LaneId) : (m.lane l).fldUp = (n.lane l).fldUp := (congrArg Lane.fldUp (lane_of_hull h l) :)
  simp only [Module.frameLanes, Module.laneList, variant, links, holds_of_hull h, claim_of_hull h]

end

section
variable (d c : Nat) (m : Module)

theorem shell_updFd (f : FieldDie → FieldDie) (h : ∀ x, (f x).shell = x.shell) : (m.updFd d f).shell = m.shell := by
  simp [Module.updFd, Module.shell, map_upd _ _ _ _ h]

@[simp] theorem shell_updChan (f : Channel → Channel) : (m.updChan d c f).shell = m.shell :=
  shell_updFd _ _ _ fun _ => rfl

@[simp] theorem shell_updOut (n : Nat) (f : Output → Output) : (m.updOut d c n f).shell = m.shell := shell_updChan ..

/-! ### Outputs and axes -/

@[simp] theorem shell_refreshOut (n : Nat) : (refreshOut d c n m).shell = m.shell := by
  unfold refreshOut
  extract_lets
  split
  · exact shell_updOut ..
  · rw [shell_updFd, shell_updOut]
    exact fun _ => rfl

@[simp] theorem shell_refreshCh : (refreshCh d c m).shell = m.shell :=
  forEach_part _ _ _ (fun n m => shell_refreshOut d c m n) m

@[simp] theorem shell_refreshFd : (refreshFd d m).shell = m.shell :=
  forEach_part _ _ _ (fun c m => shell_refreshCh d c m) m

@[simp] theorem shell_axisBridgeFault : (axisBridgeFault d c m).shell = m.shell := by
  have drop (st : AxisState) (m : Module) : (axisDrop d c st m).shell = m.shell := shell_updFd _ _ _ fun _ => rfl
  simp only [axisBridgeFault]
  split
  · rfl
  · rw [shell_updFd, drop]
    exact fun _ => rfl

@[simp] theorem shell_axisUnfault : (axisUnfault d c m).shell = m.shell := by
  simp only [axisUnfault]
  split
  · exact shell_updFd _ _ _ fun _ => rfl
  · rfl

/-! ### Faults, flags and samples -/

theorem hull_updFd (f : FieldDie → FieldDie) (h : ∀ x, (f x).shell = x.shell) : (m.updFd d f).hull = m.hull :=
  hull_of_shell (shell_updFd _ _ _ h)

@[simp] theorem hull_updChan (f : Channel → Channel) : (m.updChan d c f).hull = m.hull := hull_of_shell (shell_updChan ..)

@[simp] theorem hull_updOut (n : Nat) (f : Output → Output) : (m.updOut d c n f).hull = m.hull :=
  hull_of_shell (shell_updOut ..)

@[simp] theorem hull_reportFd (b e x y z : Nat) : (reportFd d b e x y z m).hull = m.hull :=
  hull_of_blank (blank_reportFd ..)

@[simp] theorem hull_raise (l : LaneId) (b n : Nat) : (raise l b n m).hull = m.hull := hull_of_blank (blank_raise ..)

@[simp] theorem hull_raiseFd (n : Nat) : (raiseFd d n m).hull = m.hull := hull_of_blank (blank_raiseFd ..)

@[simp] theorem hull_refreshCh : (refreshCh d c m).hull = m.hull := hull_of_shell (shell_refreshCh ..)

@[simp] theorem hull_axisBridgeFault : (axisBridgeFault d c m).hull = m.hull :=
  hull_of_shell (shell_axisBridgeFault ..)

/-- A fault acts on its channel's outputs and its axis alone, beside what is told of it (R180, R208). -/
@[simp] theorem hull_faultOuts (ns : List Nat) (cause : Nat) : (faultOuts d c ns cause m).hull = m.hull := by
  have outs (f : Nat → Output → Output) (m : Module) : (forEach ns (fun n m =>
      reportFd d 6 0x4001 (64 * d + c) n cause (m.updOut d c n (f n))) m).hull = m.hull :=
    forEach_part _ _ _ (fun _ _ => by simp) m
  simp only [faultOuts]
  split
  · rfl
  · rw [hull_refreshCh, hull_raiseFd, apply_ite Module.hull, hull_axisBridgeFault, ite_self, outs, hull_updChan]

@[simp] theorem hull_flagEvent (i fl : Nat) (x y : Bool) : (flagEvent d c i fl x y m).hull = m.hull := by
  unfold flagEvent
  split <;> simp

theorem hull_when (b : Bool) (f : Module → Module) (h : ∀ m, (f m).hull = m.hull) : (when b f m).hull = m.hull := by
  cases b
  · rfl
  · exact h m

@[simp] theorem hull_frameChan (x : Option ChanMeas) : (frameChan d c x m).hull = m.hull := by
  unfold frameChan
  extract_lets ch new1 new2 r1 r2 m1 m2 m3
  have first : m1.hull = m.hull := hull_when _ _ _ fun m => by simp
  have inputs : m2.hull = m.hull := (hull_when _ _ _ fun m => by simp).trans first
  have currents : m3.hull = m.hull := by
    rw [← inputs]
    cases x
    · rfl
    · exact hull_updChan ..
  split
  · rw [hull_flagEvent, hull_updChan, currents]
  · exact currents

@[simp] theorem hull_updPulse (point k : Nat) (f : PulseOut → PulseOut) : (m.updPulse d point k f).hull = m.hull := by
  have heat (p : Nat) (f : HeatPoint → HeatPoint) : (m.updHp d p f).hull = m.hull := hull_updFd _ _ _ fun _ => rfl
  have meter (p : Nat) (f : MeterPoint → MeterPoint) : (m.updMp d p f).hull = m.hull := hull_updFd _ _ _ fun _ => rfl
  unfold Module.updPulse
  split
  · exact heat ..
  · exact meter ..

@[simp] theorem hull_setBacklog (point k : Nat) (on : Bool) : (setBacklog d point k on m).hull = m.hull := by
  simp only [setBacklog]
  split
  · rfl
  · rw [hull_reportFd, apply_ite Module.hull, hull_raise, ite_self, hull_updPulse]

@[simp] theorem hull_judgePulses : (judgePulses d m).hull = m.hull := by
  refine forEach_part Module.hull _ _ (fun x m => ?_) m
  simp only [judgePulse]
  split
  · split
    · rfl
    · simp
  · rfl

@[simp] theorem hull_sampleDie (x : FrameMeas) : (sampleDie d x m).hull = m.hull := by
  have points (m : Module) : (samplePoints d m).hull = m.hull := by
    unfold samplePoints
    split
    · rfl
    · exact hull_updFd _ _ _ fun _ => rfl
  have inputs (k : Nat) (m : Module) : (sampleInputs d x k m).hull = m.hull := by
    unfold sampleInputs
    exact hull_updFd _ _ _ fun _ => rfl
  exact forEach_part Module.hull _ _ (fun k m => (points _).trans (inputs k m)) m

end
end Sys2Proof.Machine
end

section
/-! Events of the field channels (R30, R172 to R185). -/

namespace Sys2Proof.Machine

section
variable (d : Nat) (m : Module)

@[simp] theorem fresh_fdUp : m.fresh.fdUp d = m.fdUp d := rfl

@[simp] theorem fresh_gridAfter (grid last : Nat) : m.fresh.gridAfter grid last = m.gridAfter grid last := rfl

/-- What a change of a field die leaves of the die stays, whichever die is looked at. -/
theorem part_updFd {β : Type} (g : FieldDie → β) {f : FieldDie → FieldDie} (h : ∀ x, g (f x) = g x) (e : Nat) :
    g ((m.updFd d f).fd e) = g (m.fd e) := by
  simp only [Module.updFd, Module.fd, at?, upd, List.getElem?_modify]
  cases m.fds[e]? with
  | none => rfl
  | some x => by_cases k : d = e <;> simp [k, h]

theorem frameLanes_updFd {f : FieldDie → FieldDie} (h : ∀ x, (f x).claim = x.claim) (e : Nat) :
    (m.updFd d f).frameLanes e = m.frameLanes e := by
  simp [Module.frameLanes, Module.laneList, part_updFd d m FieldDie.claim h]

theorem chans_of_blank {x y : FieldDie} (h : x.blank = y.blank) : x.chans = y.chans := (congrArg FieldDie.chans h :)

theorem fd_raiseFd (n : Nat) (h : d < m.fds.length) :
    (raiseFd d n m).fd d = { m.fd d with irq := (m.fd d).irq ||| word n } := by
  have sent (l : LaneId) (b : Nat) (m : Module) : (sendMsi l b m).fd d = m.fd d := by
    simp only [sendMsi]
    split_ifs
    · rfl
    · rfl
    · exact updLane_fd ..
  simp only [raiseFd]
  rw [apply_ite (Module.fd · d), sent, ite_self, fd_updFd _ _ _ h]

@[simp] theorem irq_reportFd (e b c x y z : Nat) : ((reportFd d b c x y z m).fd e).irq = (m.fd e).irq := by
  have kept (x : FieldDie) (r : EvRec) : (x.keepEvent r).irq = x.irq := by
    unfold FieldDie.keepEvent
    split_ifs
    · rfl
    · split <;> rfl
    · rfl
  simp only [reportFd]
  split
  · rw [reportAs, updLane_fd]
  · exact part_updFd d m FieldDie.irq (fun _ => kept ..) e

@[simp] theorem fd_sends {α : Type} (xs : List α) (src dst : α → Nat) (msg : α → Msg) (e : Nat) :
    (forEach xs (fun x => send (src x) (dst x) (msg x)) m).fd e = m.fd e :=
  forEach_part (·.fd e) xs _ (fun _ _ => send_fd ..) m

@[simp] theorem now_sends {α : Type} (xs : List α) (src dst : α → Nat) (msg : α → Msg) :
    (forEach xs (fun x => send (src x) (dst x) (msg x)) m).now = m.now :=
  forEach_part (·.now) xs _ (fun _ _ => send_now ..) m

@[simp] theorem mail_sends {α : Type} (xs : List α) (src dst : α → Nat) (msg : α → Msg) :
    (forEach xs (fun x => send (src x) (dst x) (msg x)) m).mail = m.mail ++ xs.map fun x => ⟨src x, dst x, msg x⟩ := by
  induction xs generalizing m with
  | nil => simp
  | cons x xs ih => simp [ih]

end

/-! ### What each event does -/

/-! ### The inputs that a frame carries -/

/-- A die's inputs converted at a tick, as its frame carries them (R30, R167). -/
def converted (d : Nat) (m : Module) (x : FrameMeas) : Module :=
  frameDie d x (forEach (List.range 64) (fun c => frameChan d c ((x.chans.find? (·.1 == c)).map (·.2)))
    (judgePulses d (sampleDie d x m)))

section
variable (d : Nat) (m : Module) (x : FrameMeas)

theorem frameDie_eq : ∃ f : FieldDie → FieldDie, frameDie d x m = m.updFd d f ∧ ∀ y, (f y).claim = y.claim := by
  unfold frameDie
  exact ⟨_, rfl, fun _ => rfl⟩

theorem converted_eq : ∃ (n : Module) (f : FieldDie → FieldDie),
    converted d m x = n.updFd d f ∧ n.hull = m.hull ∧ ∀ y, (f y).claim = y.claim := by
  obtain ⟨f, e, kept⟩ := frameDie_eq d (forEach (List.range 64)
    (fun c => frameChan d c ((x.chans.find? (·.1 == c)).map (·.2))) (judgePulses d (sampleDie d x m))) x
  refine ⟨_, f, e, ?_, kept⟩
  rw [forEach_part Module.hull _ _ fun _ _ => hull_frameChan .., hull_judgePulses, hull_sampleDie]

@[simp] theorem now_converted : (converted d m x).now = m.now := by
  obtain ⟨n, f, e, h, -⟩ := converted_eq d m x
  rw [e, updFd_now, now_of_hull h]

@[simp] theorem mail_converted : (converted d m x).mail = m.mail := by
  obtain ⟨n, f, e, h, -⟩ := converted_eq d m x
  rw [e, updFd_mail, mail_of_hull h]

@[simp] theorem nvmOut_converted : (converted d m x).nvmOut = m.nvmOut := by
  obtain ⟨n, f, e, h, -⟩ := converted_eq d m x
  rw [e, updFd_nvmOut, nvmOut_of_hull h]

theorem length_fds_converted : (converted d m x).fds.length = m.fds.length := by
  obtain ⟨n, f, e, h, -⟩ := converted_eq d m x
  rw [e, Module.updFd, length_upd, length_fds_of_hull h]

@[simp] theorem claim_converted (e : Nat) : ((converted d m x).fd e).claim = (m.fd e).claim := by
  obtain ⟨n, f, eq, h, kept⟩ := converted_eq d m x
  rw [eq, part_updFd _ _ FieldDie.claim kept, claim_of_hull h]

theorem frameLanes_converted (e : Nat) : (converted d m x).frameLanes e = m.frameLanes e := by
  obtain ⟨n, f, eq, h, kept⟩ := converted_eq d m x
  rw [eq, frameLanes_updFd _ _ kept, frameLanes_of_hull h]

end

/-- A die's frame sent to each lane that hears it, and the die as it then stands (R30). -/
def frameSent (d : Nat) (m : Module) : Module :=
  let f := frameOf d m
  let sent := m.frameLanes d != []
  let m := m.updFd d fun fd => { fd with
    tick := m.now, relSlots := if sent then [] else fd.relSlots,
    chans := fd.chans.map fun c => { c with encErr := false } }
  forEach (m.frameLanes d) (fun l => send (4 + d) l.num (.frame f)) m

section
variable (d : Nat) (m : Module)

theorem die_frameOf : (frameOf d m).die = d := rfl
theorem tick_frameOf : (frameOf d m).tick = m.now := rfl
theorem claim_frameOf : (frameOf d m).claim = (m.fd d).claim := rfl

@[simp] theorem nvmOut_frameSent : (frameSent d m).nvmOut = m.nvmOut := by simp [frameSent]

@[simp] theorem now_frameSent : (frameSent d m).now = m.now := by simp [frameSent]

theorem tick_frameSent (h : d < m.fds.length) : ((frameSent d m).fd d).tick = m.now := by
  rw [frameSent, fd_sends, fd_updFd _ _ _ h]

theorem mail_frameSent : (frameSent d m).mail = m.mail ++ (m.frameLanes d).map fun l =>
    (⟨4 + d, l.num, .frame (frameOf d m)⟩ : Mail) := by
  have lanes {f : FieldDie → FieldDie} (kept : ∀ y, (f y).claim = y.claim) :
      (m.updFd d f).frameLanes d = m.frameLanes d := frameLanes_updFd d m kept d
  rw [frameSent, mail_sends, updFd_mail, lanes]
  exact fun _ => rfl

end

section
variable {s : State} {d ch : Nat} (up : s.m.fdUp d = true)
include up

theorem does_inputFrameTick (x : FrameMeas) : Does (.inputFrameTick d x) s fun _ m =>
    frameSent d (converted d (clockTo (m.gridAfter 100000 (m.fd d).tick) m) x) := by
  have b : Does (.inputFrameTick d x) s (inputFrameTickBody d x) := rfl
  exact b.congr (if_pos up)

theorem does_overcurrentTrip (k : Nat) : Does (.overcurrentTrip d ch k) s fun _ m =>
    faultOuts d ch (bridgeOuts ((s.m.fd d).chanCfg d ch).function k) 0 m := by
  have b : Does (.overcurrentTrip d ch k) s (overcurrentTripBody d ch k) := rfl
  exact b.congr (if_pos up)

theorem does_currentLimitTimeout (o : Nat) (h : ((s.m.fd d).chanCfg d ch).function = 3) (ho : o < 4) :
    Does (.currentLimitTimeout d ch o) s fun _ m => faultOuts d ch [o] 1 m := by
  have b : Does (.currentLimitTimeout d ch o) s (currentLimitTimeoutBody d ch o) := rfl
  exact b.congr (if_pos (by simpa [h, ho] using up))

theorem does_openLoadDetected (k : Nat) (h : (s.m.fd d).loadTested d ch k = true) :
    Does (.openLoadDetected d ch k) s fun _ m =>
      faultOuts d ch (bridgeOuts ((s.m.fd d).chanCfg d ch).function k) 2 m := by
  have b : Does (.openLoadDetected d ch k) s (openLoadDetectedBody d ch k) := rfl
  exact b.congr (if_pos (by simpa [h] using up))

theorem does_thermalShutdown {g : Nat} (hg : g < 8) : Does (.thermalShutdown d g) s fun _ m =>
    let m := m.updFd d fun fd => { fd with
      brg := upd fd.brg g fun b => { b with shutdown := true, warn := true, temp := max b.temp 1600 } }
    raiseFd d 2 (forEach (List.range 8) (fun k m => faultOuts d (8 * g + k) (List.range (outsOf
      ((m.fd d).chanCfg d (8 * g + k)).function)) 3 m) m) := by
  have b : Does (.thermalShutdown d g) s (thermalShutdownBody d g) := rfl
  exact b.congr (if_pos (by simpa [hg] using up))

theorem does_thermalWarning {g x : Nat} (hg : g < 8) (hx : 1350 ≤ x) : Does (.thermalWarning d g x) s fun _ m =>
    reportFd d 6 0x4003 (4 + d) g x (raiseFd d 2 (m.updFd d fun fd => { fd with
      brg := upd fd.brg g fun b => { b with warn := true, temp := x } })) := by
  have b : Does (.thermalWarning d g x) s (thermalWarningBody d g x) := rfl
  exact b.congr (if_pos (by simpa [hg, hx] using up))

theorem does_endOfTravel (o : Nat) (h : ((s.m.fd d).chanCfg d ch).function = 2)
    (ho : ((s.m.fd d).outp ch o).now.isDrive = true) : Does (.endOfTravel d ch o) s fun _ m =>
      refreshOut d ch o (m.updOut d ch o fun x => { x with
        endOut := true, endCmd := x.now, safeDriveDone := x.safeDriveDone || x.safeDriveAt.isSome }) := by
  have b : Does (.endOfTravel d ch o) s (endOfTravelBody d ch o) := rfl
  exact b.congr (if_pos (by simpa [h, ho] using up))

theorem does_directionChangeEnd (o : Nat) (h : ((s.m.fd d).outp ch o).turning.isSome = true) :
    Does (.directionChangeEnd d ch o) s fun _ m =>
      refreshOut d ch o (clockTo (((s.m.fd d).outp ch o).lastDriveEnd + 20000000) m) := by
  have b : Does (.directionChangeEnd d ch o) s (directionChangeEndBody d ch o) := rfl
  exact b.congr (if_pos (by simpa [h] using up))

theorem does_safeDriveEnd (o a : Nat) (h : ((s.m.fd d).outp ch o).safeDriveAt = some a)
    (held : (s.m.fd d).safeHeld d ch o = true) : Does (.safeDriveEnd d ch o) s fun _ m =>
      refreshOut d ch o ((clockTo (a + ((s.m.fd d).chanCfg d ch).safeDriveTime * 1000000) m).updOut d ch o fun x =>
        { x with safeDriveDone := true }) := by
  have b : Does (.safeDriveEnd d ch o) s (safeDriveEndBody d ch o) := rfl
  refine b.congr ?_
  simp only [safeDriveEndBody, fresh_fd, h]
  exact if_pos (by simpa [held] using up)

theorem does_railLow {mv : Nat} (h : (s.m.fd d).railLow = false) (hm : mv < 6000) : Does (.railLow d mv) s fun _ m =>
    reportFd d 6 0x4007 (4 + d) mv 0 (raiseFd d 8 (refreshFd d
      (m.updFd d fun fd => { fd with railLow := true, railMv := mv }))) := by
  have b : Does (.railLow d mv) s (railLowBody d mv) := rfl
  exact b.congr (if_pos (by simpa [h, hm] using up))

theorem does_railRestored {mv : Nat} (h : (s.m.fd d).railLow = true) (hm : 6500 < mv) :
    Does (.railRestored d mv) s fun _ m => refreshFd d (m.updFd d fun x => { x with railLow := false, railMv := mv }) := by
  have b : Does (.railRestored d mv) s (railRestoredBody d mv) := rfl
  exact b.congr (if_pos (by simpa [h, hm] using up))

theorem does_sensorSupplyLimit {h ma : Nat} {on : Bool} (hh : h < 2) (turns : (at? (s.m.fd d).supplies h {}).limit ≠ on)
    (due : on = false ∨ (at? (s.m.fd d).supplies h {}).on = true ∧ (s.m.fd d).supplyMax h ≤ ma) :
    Does (.sensorSupplyLimit d h ma on) s fun _ m =>
      let m := m.updFd d fun fd => { fd with
        supplies := upd fd.supplies h fun x => { x with limit := on, ma := ma },
        chans := fd.chans.zipIdx.map fun x => if x.2 / 32 = h then { x.1 with supplyLimit := on } else x.1 }
      reportFd d 6 0x4004 (2 + 2 * d + h) ma (b2n on) (if on then raiseFd d 4 m else m) := by
  have b : Does (.sensorSupplyLimit d h ma on) s (sensorSupplyLimitBody d h ma on) := rfl
  exact b.congr (if_pos (by simpa [hh, turns, due] using up))

theorem does_encoderEdge (hc : ch < 64) (a b : Bool) : Does (.encoderEdge d ch a b) s fun _ m =>
    let c := m.chan d ch
    let e := encoderStep ((m.fd d).chanCfg d ch).encMode c.encA c.encB a b
    let m := m.updChan d ch fun c => { c with
      encA := a, encB := b, enc := c.enc + BitVec.ofInt 32 e.1, encErr := c.encErr || e.2,
      encErrRep := c.encErrRep || e.2 }
    if e.2 && !c.encErrRep then reportFd d 6 0x4005 (64 * d + ch) 3 2 m else m := by
  have body : Does (.encoderEdge d ch a b) s (encoderEdgeBody d ch a b) := rfl
  exact body.congr (if_pos (by simpa [hc] using up))

end

/-! ### The next states -/

section
variable {s : State} {d ch : Nat} (up : s.m.fdUp d = true)
include up

/-- The next state of an event that changes its die by `f`, and beside it what is told. -/
theorem ends_of_blank {i : Instr} {F : Store → Module → Module} {f : FieldDie → FieldDie} (does : Does i s F)
    (h : (F s.mem s.m.fresh).blank = (s.m.fresh.updFd d f).blank) :
    Ends i s fun t => SameStores s t ∧ (t.m.fd d).blank = (f (s.m.fd d)).blank := by
  refine does.ends ⟨⟨commit_mem_of_quiet _ _ ?_, rfl⟩, ?_⟩
  · rw [nvmOut_of_blank h]
    simp
  · rw [commit_m, closed_fd, fd_of_blank h, fd_updFd s.m.fresh _ _ (lt_of_fdUp up), fresh_fd]

theorem ends_inputFrameTick (x : FrameMeas) : Ends (.inputFrameTick d x) s fun t => SameStores s t ∧
    t.m.now = max s.m.now (s.m.gridAfter 100000 (s.m.fd d).tick) ∧ (t.m.fd d).tick = t.m.now ∧
    ∃ f : InFrame, f.die = d ∧ f.tick = t.m.now ∧ f.claim = (s.m.fd d).claim ∧
      t.m.mail = s.m.mail ++ (s.m.frameLanes d).map fun l => (⟨4 + d, l.num, .frame f⟩ : Mail) := by
  have within : d < (converted d (clockTo (s.m.fresh.gridAfter 100000 (s.m.fresh.fd d).tick) s.m.fresh) x).fds.length := by
    rw [length_fds_converted, clockTo_fds]
    exact lt_of_fdUp up
  have lanes : (clockTo (s.m.fresh.gridAfter 100000 (s.m.fresh.fd d).tick) s.m.fresh).frameLanes d = s.m.frameLanes d := by
    simp [Module.frameLanes, Module.laneList]
  refine (does_inputFrameTick up x).ends ⟨⟨commit_mem_of_quiet _ _ (by simp), commit_pending ..⟩, by simp, ?_,
    frameOf d (converted d (clockTo (s.m.fresh.gridAfter 100000 (s.m.fresh.fd d).tick) s.m.fresh) x),
    die_frameOf .., ?_, ?_, ?_⟩
  · rw [commit_m, closed_fd, closed_now, tick_frameSent _ _ within, now_frameSent]
  · rw [commit_m, closed_now, now_frameSent, tick_frameOf]
  · rw [claim_frameOf, claim_converted, clockTo_fd, fresh_fd]
  · rw [commit_m, closed_mail, mail_frameSent, mail_converted, clockTo_mail, fresh_mail, frameLanes_converted, lanes]

theorem ends_thermalShutdown {g : Nat} (hg : g < 8) (h : (s.m.fd d).brg.length = 8) :
    Ends (.thermalShutdown d g) s fun t => SameStores s t ∧ (at? (t.m.fd d).brg g {}).shutdown = true ∧
      (at? (t.m.fd d).brg g {}).warn = true := by
  have inside : d < s.m.fresh.fds.length := lt_of_fdUp up
  have hull (m : Module) : (raiseFd d 2 (forEach (List.range 8) (fun k m => faultOuts d (8 * g + k)
      (List.range (outsOf ((m.fd d).chanCfg d (8 * g + k)).function)) 3 m) m)).hull = m.hull :=
    (hull_raiseFd ..).trans (forEach_part Module.hull _ _ (fun _ _ => hull_faultOuts ..) m)
  refine (does_thermalShutdown up hg).ends ⟨⟨commit_mem_of_quiet _ _ ?_, rfl⟩, ?_⟩
  · rw [nvmOut_of_hull (hull _)]
    simp
  · rw [commit_m, closed_fd, brg_of_hull (hull _), fd_updFd _ _ _ inside]
    simp [h, hg]

theorem ends_thermalWarning {g x : Nat} (hg : g < 8) (hx : 1350 ≤ x) : Ends (.thermalWarning d g x) s fun t =>
    SameStores s t ∧ (t.m.fd d).chans = (s.m.fd d).chans ∧
    (t.m.fd d).brg = upd (s.m.fd d).brg g (fun b => { b with warn := true, temp := x }) := by
  obtain ⟨t, next, same, fd⟩ := ends_of_blank up (does_thermalWarning up hg hx) (f := fun x' => { x' with
      brg := upd x'.brg g fun b => { b with warn := true, temp := x } }) (by simp)
  exact ⟨t, next, same, (chans_of_blank fd :), (congrArg FieldDie.brg fd :)⟩

theorem ends_railLow {mv : Nat} (h : (s.m.fd d).railLow = false) (hm : mv < 6000) : Ends (.railLow d mv) s fun t =>
    SameStores s t ∧ (t.m.fd d).railLow = true ∧ (t.m.fd d).railMv = mv ∧ (t.m.fd d).irq = (s.m.fd d).irq ||| 8 := by
  have inside : d < s.m.fresh.fds.length := lt_of_fdUp up
  have low := fd_updFd s.m.fresh d (fun x => { x with railLow := true, railMv := mv }) inside
  have hull : (reportFd d 6 0x4007 (4 + d) mv 0 (raiseFd d 8 (refreshFd d
      (s.m.fresh.updFd d fun x => { x with railLow := true, railMv := mv })))).hull =
      (s.m.fresh.updFd d fun x => { x with railLow := true, railMv := mv }).hull := by
    rw [hull_reportFd, hull_raiseFd, hull_of_shell (shell_refreshFd ..)]
  have within : d < (refreshFd d (s.m.fresh.updFd d fun x => { x with railLow := true, railMv := mv })).fds.length := by
    rw [length_fds_of_hull (hull_of_shell (shell_refreshFd ..))]
    simpa [Module.updFd] using inside
  refine (does_railLow up h hm).ends ⟨⟨commit_mem_of_quiet _ _ ?_, commit_pending ..⟩, ?_⟩
  · rw [nvmOut_of_hull hull]
    simp
  · rw [commit_m, closed_fd]
    refine ⟨(railLow_of_hull hull d).trans (by rw [low]), (railMv_of_hull hull d).trans (by rw [low]), ?_⟩
    rw [irq_reportFd, fd_raiseFd _ _ _ within, irq_of_shell (shell_refreshFd ..), low, fresh_fd]
    rfl

theorem ends_sensorSupplyLimit {h ma : Nat} {on : Bool} (hh : h < 2) (turns : (at? (s.m.fd d).supplies h {}).limit ≠ on)
    (due : on = false ∨ (at? (s.m.fd d).supplies h {}).on = true ∧ (s.m.fd d).supplyMax h ≤ ma) :
    Ends (.sensorSupplyLimit d h ma on) s fun t => SameStores s t ∧
      (t.m.fd d).supplies = upd (s.m.fd d).supplies h (fun x => { x with limit := on, ma := ma }) ∧
      (t.m.fd d).chans = (s.m.fd d).chans.zipIdx.map fun x =>
        if x.2 / 32 = h then { x.1 with supplyLimit := on } else x.1 := by
  obtain ⟨t, next, same, fd⟩ := ends_of_blank up (does_sensorSupplyLimit up hh turns due) (f := fun x => { x with
      supplies := upd x.supplies h fun x => { x with limit := on, ma := ma }
      chans := x.chans.zipIdx.map fun x => if x.2 / 32 = h then { x.1 with supplyLimit := on } else x.1 }) (by
    simp only [blank_reportFd]
    split <;> simp)
  exact ⟨t, next, same, (congrArg FieldDie.supplies fd :), chans_of_blank fd⟩

theorem ends_encoderEdge (hc : ch < 64) (hl : (s.m.fd d).chans.length = 64) (a b : Bool) :
    Ends (.encoderEdge d ch a b) s fun t => SameStores s t ∧ (t.m.chan d ch).encA = a ∧ (t.m.chan d ch).encB = b ∧
    (t.m.chan d ch).enc = (s.m.chan d ch).enc + BitVec.ofInt 32
      (encoderStep ((s.m.fd d).chanCfg d ch).encMode (s.m.chan d ch).encA (s.m.chan d ch).encB a b).1 := by
  let e := encoderStep ((s.m.fd d).chanCfg d ch).encMode (s.m.chan d ch).encA (s.m.chan d ch).encB a b
  obtain ⟨t, next, same, fd⟩ := ends_of_blank up (does_encoderEdge up hc a b) (f := fun x => { x with
      chans := upd x.chans ch fun c => { c with
        encA := a, encB := b, enc := c.enc + BitVec.ofInt 32 e.1, encErr := c.encErr || e.2,
        encErrRep := c.encErrRep || e.2 } }) (by
    simp only
    split
    · exact blank_reportFd ..
    · rfl)
  have chan : t.m.chan d ch = { s.m.chan d ch with
      encA := a, encB := b, enc := (s.m.chan d ch).enc + BitVec.ofInt 32 e.1, encErr := (s.m.chan d ch).encErr || e.2,
      encErrRep := (s.m.chan d ch).encErrRep || e.2 } := by
    rw [Module.chan, chans_of_blank fd]
    exact at?_upd _ _ _ _ (by rw [hl]; exact hc)
  exact ⟨t, next, same, by rw [chan], by rw [chan], by rw [chan]⟩

end

/-! ### A write that clears faults (R181, R188) -/

theorem mkClaim_claimEpoch (c : Nat) : mkClaim (claimEpoch c) (claimLane c) = c := by
  unfold mkClaim claimEpoch claimLane
  split <;> simp only [LaneId.num] <;> omega

/-- Faults cleared change nothing of a lane but what it is told. -/
theorem lane_clearFaults (d c causes : Nat) (l : LaneId) (m : Module) :
    ((clearFaults d c causes m).lane l).blank = (m.lane l).blank := by
  have told (gone n : Nat) (m : Module) : (forEach [0, 1, 2, 3] (fun b =>
      when (nbit gone b) (reportFd d 6 0x4002 (64 * d + c) n b)) m).hull = m.hull :=
    forEach_part Module.hull _ _ (fun b m => hull_when _ _ _ fun m => hull_reportFd ..) m
  unfold clearFaults
  extract_lets fd ch hot causes m1 m2 g left m3
  have outs : m2.hull = m.hull := by
    refine (forEach_part Module.hull _ _ (fun n m => ?_) m1).trans (hull_updChan ..)
    simp only
    split
    · rfl
    · rw [told, hull_updOut]
  have group : m3.lane l = m2.lane l := by
    simp only [m3]
    split
    · rfl
    · exact updFd_lane ..
  rw [lane_of_hull (hull_refreshCh ..), lane_of_hull (hull_of_shell (shell_axisUnfault ..)), group, lane_of_hull outs]

/-- A field register write of a lane whose claim the die obeys reaches the die (R188). -/
theorem dieWrite_obeyed {s : State} {l : LaneId} {v : View} {d : Nat} {f : Module → Module} (h : Heard s l v)
    (reach : s.m.fdReach l d = true) (claim : (s.m.fd d).claim = (s.m.lane l).red.claim)
    (own : claimLane (s.m.lane l).red.claim = l) (holds : (s.m.lane l).red.holds = true)
    (kept : ((f s.m.fresh).lane l).red.claim = (s.m.lane l).red.claim) : dieWrite l v d f s.m.fresh = f s.m.fresh := by
  have fitted : d < s.m.variant.nFd := by
    by_contra absent
    simp [Module.fdReach, Module.fdUp, absent] at reach
  have tag : mkClaim (claimEpoch (s.m.lane l).red.claim) l = (s.m.lane l).red.claim := by
    conv_rhs => rw [← mkClaim_claimEpoch (s.m.lane l).red.claim, own]
  have written : fldWrite l v d f s.m.fresh = f s.m.fresh := by
    rw [fldWrite, guardWrite_heard h]
    simp [Nat.not_le.mpr fitted, reach, tag, claim, Module.active, holds]
  simp only [dieWrite, written, claimSeen]
  simp [claim, kept]

theorem does_fldChFaultClear {s : State} {l : LaneId} {v : View} {w : Word} {d ch : Nat} (h : Heard s l v)
    (hd : (s.m.sel l v).fldDie = d) (hc : (s.m.sel l v).fldCh = ch) (reach : s.m.fdReach l d = true)
    (claim : (s.m.fd d).claim = (s.m.lane l).red.claim) (own : claimLane (s.m.lane l).red.claim = l)
    (holds : (s.m.lane l).red.holds = true) :
    Does (.fldChFaultClear l v w) s fun _ m => clearFaults d ch (fld w 3 0) m := by
  have b : Does (.fldChFaultClear l v w) s (fldChFaultClearBody l v w) := rfl
  refine b.congr ?_
  simp only [fldChFaultClearBody, fresh_sel, hd, hc]
  refine dieWrite_obeyed h reach claim own holds ?_
  have kept := (congrArg (·.red.claim) (lane_clearFaults d ch (fld w 3 0) l s.m.fresh) :)
  rw [fresh_lane] at kept
  exact kept

/-- Settles O24: each event's body past its guard, and what the guard's premises leave of the rest of the module. -/
theorem fieldEventsAct : Obligations.FieldEventsAct := by
  intro s d ch up hc hl
  exact ⟨fun x => ⟨ends_inputFrameTick up x, does_inputFrameTick up x⟩, does_overcurrentTrip up,
    fun o h ho => does_currentLimitTimeout up o h ho, does_openLoadDetected up,
    fun g hg h => ⟨ends_thermalShutdown up hg h, does_thermalShutdown up hg⟩,
    fun g x hg hx => ⟨ends_thermalWarning up hg hx, does_thermalWarning up hg hx⟩, does_endOfTravel up,
    does_directionChangeEnd up, does_safeDriveEnd up,
    fun mv h hm => ⟨ends_railLow up h hm, does_railLow up h hm⟩, fun mv h hm => does_railRestored up h hm,
    fun h ma on hh turns due => ⟨ends_sensorSupplyLimit up hh turns due, does_sensorSupplyLimit up hh turns due⟩,
    fun a b => ⟨ends_encoderEdge up hc hl a b, does_encoderEdge up hc a b⟩,
    fun l v w h hd hch reach claim own holds => does_fldChFaultClear h hd hch reach claim own holds⟩

end Sys2Proof.Machine
end

section
/-! What the engines of the store and of the key store leave as it was: everything that stays once their own parts are
taken away beside those that reports, interrupts and domain requests write. -/

namespace Sys2Proof.Machine

/-- A lane with its store and its keys as a new lane's, and with the parts blanked that reports, interrupts and domain
requests write. -/
def Lane.core (L : Lane) : Lane := { L.blank with nvm := {}, key := {} }

/-- The module with its lanes so, with nothing programmed, and with no free value drawn. -/
def Module.core (m : Module) : Module := { m.blank with
  laneA := m.laneA.core, laneB := m.laneB.core, nvmOut := [], free := 0 }

section
variable {m n : Module}

theorem core_of_blank (h : m.blank = n.blank) : m.core = n.core :=
  congrArg (fun b : Module => { b with
    laneA := { b.laneA with nvm := {}, key := {} }, laneB := { b.laneB with nvm := {}, key := {} }
    nvmOut := [], free := 0 }) h

theorem lane_of_core (h : m.core = n.core) (l : LaneId) : (m.lane l).core = (n.lane l).core := by
  have same (m : Module) : (m.lane l).core = m.core.lane l := by cases l <;> rfl
  rw [same, same, h]

theorem cfg_of_core (h : m.core = n.core) (l : LaneId) : (m.lane l).cfg = (n.lane l).cfg :=
  (congrArg Lane.cfg (lane_of_core h l) :)

theorem mode_of_core (h : m.core = n.core) (l : LaneId) : (m.lane l).sys.mode = (n.lane l).sys.mode :=
  (congrArg (·.sys.mode) (lane_of_core h l) :)

theorem mayProgram_of_core (h : m.core = n.core) (l : LaneId) : (m.lane l).mayProgram = (n.lane l).mayProgram :=
  (congrArg (·.mayProgram) (lane_of_core h l) :)

theorem rings_of_core (h : m.core = n.core) (l : LaneId) : (m.lane l).hst.rings = (n.lane l).hst.rings :=
  (congrArg (·.hst.rings) (lane_of_core h l) :)

theorem variant_of_core (h : m.core = n.core) : m.variant = n.variant := (congrArg Module.variant h :)

theorem now_of_core (h : m.core = n.core) : m.now = n.now := (congrArg Module.now h :)

end

theorem core_updLane (l : LaneId) (f : Lane → Lane) (m : Module) (h : ∀ L, (f L).core = L.core) :
    (m.updLane l f).core = m.core := by
  cases l <;> simp [Module.updLane, Module.core, Module.blank, h]

theorem core_forEach {α : Type} (xs : List α) (f : α → Module → Module) (m : Module)
    (h : ∀ x m, (f x m).core = m.core) : (forEach xs f m).core = m.core :=
  forEach_part Module.core xs f h m

section
variable (l : LaneId) (m : Module)

@[simp] theorem core_report (b c x y z : Nat) : (report l b c x y z m).core = m.core := core_of_blank (blank_report ..)

@[simp] theorem core_raise (b n : Nat) : (raise l b n m).core = m.core := core_of_blank (blank_raise ..)

/-! ### The store -/

theorem core_updNvm (f : Lane → Nvm) : (m.updLane l fun L => { L with nvm := f L }).core = m.core :=
  core_updLane _ _ _ fun _ => rfl

@[simp] theorem core_nvmRefuse (a : Nat) (w : Writer) : (nvmRefuse l a w m).core = m.core := by
  rw [nvmRefuse, core_report, core_raise, core_updNvm]

@[simp] theorem core_nvmRead (a n : Nat) : (nvmRead l a n m).core = m.core :=
  nvmRead_part Module.core l a n m (fun k m => by rw [nvmUe, core_report, core_raise, core_updNvm])
    fun f m => core_updNvm l m f

@[simp] theorem core_mergeRead (a n : Nat) : (mergeRead l a n m).core = m.core :=
  core_forEach _ _ _ fun _ _ => core_nvmRead ..

theorem core_programRaw (t a : Nat) (bs : Bytes) : (programRaw t a bs m).core = m.core := rfl

@[simp] theorem core_mramWrite (w : Writer) (st : Store) (a : Nat) (bs : Bytes) :
    (mramWrite w st l a bs m).core = m.core := by
  simp only [mramWrite]
  split
  · rfl
  · split
    · exact core_nvmRefuse ..
    · rw [core_updNvm, core_programRaw, core_mergeRead]

@[simp] theorem core_seqCheck (st : Store) (a b size type : Nat) : (seqCheck st l a b size type m).core = m.core := by
  simp only [seqCheck]
  split
  · split <;> simp
  · simp

@[simp] theorem core_writeBlock (w : Writer) (st : Store) (base type : Nat) (body : Bytes) :
    (writeBlock w st l base type body m).core = m.core := by
  rw [writeBlock, core_mramWrite, core_seqCheck]

@[simp] theorem core_clearProvenance (st : Store) : (clearProvenance st l m).core = m.core := by
  unfold clearProvenance
  extract_lets
  split
  · exact core_mramWrite ..
  · rfl

@[simp] theorem core_readSlot (mem : Mem) (slot : Nat) : (readSlot mem l slot m).core = m.core := by
  simp [readSlot]

@[simp] theorem core_storeComposed (st : Store) (delta : Bool) (shadow : Bytes) (bodies : Bodies) :
    (storeComposed st l delta shadow bodies m).core = m.core := by
  simp only [storeComposed]
  split <;> simp

/-! ### The key store -/

theorem core_updKey (f : Lane → Key) : (m.updLane l fun L => { L with key := f L }).core = m.core :=
  core_updLane _ _ _ fun _ => rfl

theorem core_randomised : m.randomised.core = m.core := rfl

@[simp] theorem core_setSlot (k : Nat) (x : KeySlot) : (setSlot l k x m).core = m.core :=
  (core_updKey ..).trans (core_randomised m)

@[simp] theorem core_refuseUseAs (user slot code : Nat) : (refuseUseAs user l slot code m).core = m.core := by
  simp only [refuseUseAs]
  split <;> simp [core_updKey]

@[simp] theorem core_useSlotAs (user slot bit : Nat) (fault : Bool) :
    (useSlotAs user l slot bit fault m).2.core = m.core := by
  simp only [useSlotAs]
  split
  · simp
  · split_ifs <;> simp [core_updKey, core_randomised]

@[simp] theorem core_spend (user : Nat) (uses : List (Nat × Nat)) : (spend user l uses m).core = m.core :=
  core_forEach _ _ _ fun _ _ => core_useSlotAs ..

@[simp] theorem core_applySecurity (checked : Bool) (es : List SecEntry) :
    (applySecurity checked l es m).core = m.core := by
  refine core_forEach _ _ _ fun e m => ?_
  simp only
  split <;> split_ifs <;> simp

end
end Sys2Proof.Machine
end

section
/-! The image that a lane applies (R34, R54, R60). -/

namespace Sys2Proof.Machine

section
variable (m : Module) (k l : LaneId)

theorem cfg_updLane (f : Lane → Lane) (h : ∀ L, (f L).cfg = L.cfg) : ((m.updLane k f).lane l).cfg = (m.lane l).cfg := by
  cases k <;> cases l <;> simp [Module.updLane, Module.lane, h]

theorem cfg_of_blank {m n : Module} (h : m.blank = n.blank) (l : LaneId) : (m.lane l).cfg = (n.lane l).cfg :=
  cfg_of_core (core_of_blank h) l

@[simp] theorem cfg_updPrg (f : Prg → Prg) : ((updPrg k f m).lane l).cfg = (m.lane l).cfg := cfg_updLane _ _ _ _ fun _ => rfl

@[simp] theorem cfg_updPtp (f : Ptp → Ptp) : ((updPtp k f m).lane l).cfg = (m.lane l).cfg := cfg_updLane _ _ _ _ fun _ => rfl

@[simp] theorem cfg_updSys (f : Sys → Sys) : ((updSys k f m).lane l).cfg = (m.lane l).cfg := cfg_updLane _ _ _ _ fun _ => rfl

theorem cfg_forEach {α : Type} (xs : List α) (f : α → Module → Module)
    (h : ∀ x m, ((f x m).lane l).cfg = (m.lane l).cfg) : ((forEach xs f m).lane l).cfg = (m.lane l).cfg :=
  forEach_part (fun m => (m.lane l).cfg) xs f h m

/-! ### The parts of an apply that leave every lane's configuration block alone -/

@[simp] theorem cfg_dropForces (cause : Nat) (gone : Nat → ForceEntry → Bool) :
    ((dropForces k cause gone m).lane l).cfg = (m.lane l).cfg := by
  rw [cfg_of_blank (blank_dropForces ..), cfg_updPrg]

@[simp] theorem cfg_dropRequests (t : Nat) (old new : Conf) (qs : List (Nat × SlvPayload × Nat)) :
    ((dropRequests k t old new qs m).lane l).cfg = (m.lane l).cfg :=
  cfg_forEach _ _ _ _ fun _ _ => by simp

theorem cfg_keepProgram (old : Option Conf) (new : Conf) :
    ((keepProgram k old new m).lane l).cfg = (m.lane l).cfg := by
  simp only [keepProgram]
  split <;> simp

theorem cfg_swapProgram (old : Option Conf) (new : Conf) :
    ((swapProgram k old new m).lane l).cfg = (m.lane l).cfg := by
  unfold swapProgram
  extract_lets o L running count m1 m2 swap m3 m4 c
  have reset : (m4.lane l).cfg = (m3.lane l).cfg := cfg_updLane _ _ _ _ fun L => by split <;> rfl
  have dropped : (m3.lane l).cfg = (m.lane l).cfg := by
    simp only [m3, m2, m1, cfg_updPrg, cfg_dropForces]
    exact cfg_forEach _ _ _ _ fun _ _ => cfg_dropRequests ..
  split <;> simp [reset, dropped]

theorem cfg_sealChange (st : Store) (new : Conf) (ok : Bool) :
    ((sealChange st k new ok m).lane l).cfg = (m.lane l).cfg := by
  have written (j : LaneId) (w : Writer) (m : Module) : ((writeSeal w st j m).lane l).cfg = (m.lane l).cfg :=
    cfg_of_core (core_writeBlock ..) l
  have woken (p : LaneId) (m : Module) : ((wakeReceiver p m).lane l).cfg = (m.lane l).cfg := by
    rw [wakeReceiver, cfg_of_blank (blank_domRequests ..), peerWake, report_lane_cfg, raise_lane_cfg, put_lane]
  have done (p : LaneId) (m : Module) : ((receiverDone p m).lane l).cfg = (m.lane l).cfg := by
    refine cfg_of_blank ?_ l
    simp only [receiverDone]
    split <;> simp
  have kept (p : LaneId) (f : Lane → Mtr) (m : Module) :
      ((m.updLane p fun P => { P with mtr := f P }).lane l).cfg = (m.lane l).cfg := cfg_updLane _ _ _ _ fun _ => rfl
  unfold sealChange
  extract_lets m1 t m2
  have recorded : (m2.lane l).cfg = (m.lane l).cfg := by
    simp only [m2, m1, recordChange]
    rw [report_lane_cfg, written, kept]
  split
  · exact recorded
  · split
    · rw [done, written, kept, woken, recorded]
    · rw [report_lane_cfg, recorded]

@[simp] theorem blank_slotChanges (was : List SlotState) : (slotChanges l was m).blank = m.blank := by
  refine blank_forEach _ _ _ fun k m => ?_
  simp only
  split <;> simp

theorem cfg_holdover : ((holdover k m).lane l).cfg = (m.lane l).cfg := by
  simp only [holdover]
  split <;> simp

theorem cfg_imageRegs (old : Option Conf) (new : Conf) : ((imageRegs k old new m).lane l).cfg = (m.lane l).cfg := by
  unfold imageRegs
  extract_lets n p before vblk m1 m2 m3
  have kept : (m1.lane l).cfg = (m.lane l).cfg := cfg_updLane _ _ _ _ fun _ => rfl
  have slots : (m2.lane l).cfg = (m1.lane l).cfg := cfg_of_blank (blank_slotChanges ..) l
  have held : (m3.lane l).cfg = (m2.lane l).cfg := by
    simp only [m3]
    split
    · exact cfg_holdover ..
    · rfl
  rw [cfg_of_blank (blank_slvClocks m3), held, slots, kept]

theorem cfg_dropRecords (old : Option Conf) (new : Conf) :
    ((dropRecords k old new m).lane l).cfg = (m.lane l).cfg := cfg_updLane _ _ _ _ fun _ => rfl

theorem cfg_dropViews (new : Conf) : ((dropViews k new m).lane l).cfg = (m.lane l).cfg := cfg_updLane _ _ _ _ fun _ => rfl

theorem cfg_blkDoms (t : DomState) : ((blkDoms k t m).lane l).cfg = (m.lane l).cfg :=
  cfg_of_blank (blank_forEach _ _ _ fun _ _ => blank_domRequest ..) l

end

/-! ### The modes that follow an apply -/

/-- The boundary at which the program was last stopped kept (R127). -/
def Cfg.withBoundary (b : Nat) (c : Cfg) : Cfg := { c with boundaryNow := b }

/-- The configuration block as an apply leaves it (R34, R54, R60). -/
def Cfg.applied (new : Conf) (c : Cfg) : Cfg := { c with
  state := .empty, active := some new, activeCounter := new.counter, activeDigest := new.digest
  floor := max c.floor new.counter, activeSlot := c.shadowSlot, shadowDigest := [], candidate := none, delta := false
  applySent := [], staged := [], acked := [], confirmSent := false }

section
variable {l : LaneId} {m : Module}

/-- A change of mode touches no arm where there is none (R311). -/
theorem cfg_setMode (h : (m.lane l).cfg.state ≠ .armed) (d : Mode) (c : Nat) :
    ((setMode l d c m).lane l).cfg = (m.lane l).cfg := by
  have ended (m : Module) : ((endInjection l m).lane l).cfg = (m.lane l).cfg := by
    simp only [endInjection]
    split <;> simp
  have changed (was : Nat) : ((report l 0 0x0003 was d.code c (raise l 0 1 (updSys l
      (fun s => { s with mode := d, cause := c, prev := was })
      (if (m.lane l).sys.mode == .commission && d != .commission then endInjection l m else m)))).lane l).cfg =
      (m.lane l).cfg := by
    rw [report_lane_cfg, raise_lane_cfg, cfg_updSys]
    split
    · exact ended m
    · rfl
  simp only [setMode]
  split
  · rfl
  · split
    · exact changed _
    · rw [cancelArm, changed, if_neg (by simp [h]), changed]

theorem cfg_followForces (h : (m.lane l).cfg.state ≠ .armed) : ((followForces l m).lane l).cfg = (m.lane l).cfg := by
  rcases followForces_cases l m with e | ⟨d, e⟩
  · rw [e]
  · rw [e, cfg_setMode h]

/-- Into LOADED, the program at most stops, with its last boundary kept (R311). -/
theorem cfg_enterLoaded (h : (m.lane l).cfg.state ≠ .armed) :
    ∃ b, ((enterMode l .loaded 5 m).lane l).cfg = (m.lane l).cfg.withBoundary b := by
  have stopped (m : Module) : ((programStop l m).lane l).cfg =
      (m.lane l).cfg.withBoundary ((m.lane l).boundaryCount m.now) := by
    simp only [programStop]
    split
    · rw [lane_updLane]
      rfl
    · rw [commandSafe, cfg_updPrg, sendSafe, sendCmds, lane_sends, cfg_blkDoms, lane_updLane]
      rfl
  have stays (c : Cfg) : ∃ b, c = c.withBoundary b := ⟨c.boundaryNow, rfl⟩
  have entered := cfg_setMode h .loaded 5
  cases frozen : m.frozen l
  · cases was : (m.lane l).sys.mode.runs
    · simpa [enterMode, frozen, was, show Mode.loaded.runs = false from rfl, entered] using stays (m.lane l).cfg
    · have e := enterMode_stops (c := 5) frozen was (d := .loaded) rfl
      rw [if_neg (by decide)] at e
      exact ⟨_, by rw [e, stopped, entered]⟩
  · simpa [enterMode, frozen] using stays (m.lane l).cfg

end

/-- The configuration block of a lane once it has applied an image: what R60 step 7 gives it, and the boundary kept where
the program stops. -/
theorem cfg_applyLane (st : Store) (l : LaneId) (new : Conf) (m : Module) :
    ∃ b, ((applyLane st l new m).lane l).cfg = ((m.lane l).cfg.applied new).withBoundary b := by
  unfold applyLane
  extract_lets c old m1 m2 m3 m4 m5 m6 m7 changed m8 m9 m10 m11
  have program : (m1.lane l).cfg = c := by
    simp only [m1]
    split
    · exact cfg_swapProgram ..
    · exact cfg_keepProgram ..
  have applied : (m2.lane l).cfg = c.applied new := by
    simp only [m2, updCfg, lane_updLane, program]
    rfl
  have selector : (m4.lane l).cfg = (m2.lane l).cfg := by
    simp only [m4, m3, writeSlotSel]
    rw [report_lane_cfg, cfg_of_core (core_writeBlock ..)]
  have sealed : (m5.lane l).cfg = (m4.lane l).cfg := by
    simp only [m5]
    split
    · exact cfg_sealChange ..
    · rfl
  have keys : (m7.lane l).cfg = (m5.lane l).cfg := by
    simp only [m7, m6]
    split
    · rw [cfg_of_core (core_applySecurity ..), cfg_of_core (core_applySecurity ..)]
    · rw [cfg_of_core (core_applySecurity ..)]
  have registers : (m10.lane l).cfg = (m7.lane l).cfg := by
    simp only [m10, m9, m8]
    rw [cfg_blkDoms, cfg_updPrg, cfg_dropViews, cfg_dropRecords, cfg_imageRegs]
  have before := registers.trans (keys.trans (sealed.trans (selector.trans applied)))
  have unarmed : (m10.lane l).cfg.state ≠ .armed := by
    rw [before]
    exact CfgState.noConfusion
  have follows : (m11.lane l).cfg = (m10.lane l).cfg := cfg_followForces unarmed
  have enters := cfg_enterLoaded (follows ▸ unarmed)
  have stays : ∃ b, (m11.lane l).cfg = (m11.lane l).cfg.withBoundary b := ⟨(m11.lane l).cfg.boundaryNow, rfl⟩
  rw [← before, ← follows]
  split
  · exact enters
  · split
    · exact stays
    · exact enters
  · exact stays

/-- Settles O12: the fields of the configuration block that the apply sets, which nothing after them in it touches. -/
theorem appliedImageIsActive : Obligations.AppliedImageIsActive := by
  intro st l new m
  obtain ⟨b, e⟩ := cfg_applyLane st l new m
  rw [e]
  exact ⟨rfl, rfl, rfl, rfl, rfl, rfl, rfl⟩

end Sys2Proof.Machine
end

section
/-! The commands of an apply: what each does past its guard (R60). -/

namespace Sys2Proof.Machine

/-! ### What the commands read of the module as they find it -/

section
variable (m : Module) (l : LaneId)

@[simp] theorem fresh_dieClaim (die : Nat) : m.fresh.dieClaim die = m.dieClaim die := rfl

@[simp] theorem fresh_dieApplyAt (die : Nat) : m.fresh.dieApplyAt die = m.dieApplyAt die := rfl

@[simp] theorem fresh_dieConfirmed (die : Nat) : m.fresh.dieConfirmed die = m.dieConfirmed die := rfl

@[simp] theorem fresh_applyDies : m.fresh.applyDies l = m.applyDies l := by cases l <;> rfl

@[simp] theorem fresh_applyInstant : m.fresh.applyInstant l = m.applyInstant l := by cases l <;> rfl

@[simp] theorem clockTo_applyDies (t : Nat) : (clockTo t m).applyDies l = m.applyDies l := by cases l <;> rfl

@[simp] theorem updCfg_applyDies (f : Cfg → Cfg) : (updCfg l f m).applyDies l = m.applyDies l := by cases l <;> rfl

@[simp] theorem withMail_now (xs : List Mail) : (m.withMail xs).now = m.now := rfl

theorem dieClaim_solver {d : Nat} (h : d < 2) : m.dieClaim (2 + d) = (m.sd d).claim := by
  simp [Module.dieClaim, show 2 + d < 4 by omega]

theorem dieClaim_field (d : Nat) : m.dieClaim (4 + d) = (m.fd d).claim := by simp [Module.dieClaim]

theorem dieApplyAt_solver {d : Nat} (h : d < 2) : m.dieApplyAt (2 + d) = (m.sd d).applyAt := by
  simp [Module.dieApplyAt, show 2 + d < 4 by omega]

theorem dieApplyAt_field (d : Nat) : m.dieApplyAt (4 + d) = (m.fd d).applyAt := by simp [Module.dieApplyAt]

theorem dieConfirmed_solver {d : Nat} (h : d < 2) : m.dieConfirmed (2 + d) = (m.sd d).confirmed := by
  simp [Module.dieConfirmed, show 2 + d < 4 by omega]

theorem dieConfirmed_field (d : Nat) : m.dieConfirmed (4 + d) = (m.fd d).confirmed := by simp [Module.dieConfirmed]

section
variable (at_ : Option Nat) (ok : Bool)

theorem setDieApply_solver {d : Nat} (h : d < 2) : setDieApply (2 + d) at_ ok m =
    m.updSd d fun f => { f with applyAt := at_, confirmed := ok } := by
  simp [setDieApply, show 2 + d < 4 by omega]

theorem setDieApply_field (d : Nat) : setDieApply (4 + d) at_ ok m =
    m.updFd d fun f => { f with applyAt := at_, confirmed := ok } := by
  simp [setDieApply]

@[simp] theorem setDieApply_lane (die : Nat) (k : LaneId) : (setDieApply die at_ ok m).lane k = m.lane k := by
  unfold setDieApply
  split <;> simp

end
end

/-- A die that acknowledges is among those that have (R60 step 4). -/
theorem mem_acked (d : Nat) (xs : List Nat) : d ∈ if xs.contains d then xs else d :: xs := by
  split <;> simp_all

theorem laneOfDie_num (l : LaneId) : laneOfDie l.num = l := by cases l <;> rfl

theorem takeFromLane_front {α : Type} {m : Module} {l : LaneId} {die : Nat} {pick : Msg → Option α} {msg : Msg} {a : α}
    {rest : List Mail} (hmail : m.mail = ⟨l.num, die, msg⟩ :: rest) (h : pick msg = some a) :
    takeFromLane die pick m = some (l, a, m.withMail rest) := by
  simp [takeFromLane, hmail, takeTo, h, laneOfDie_num, Module.withMail]

/-! ### Whether every die is ready (R60 step 5) -/

theorem laggard_eq_none {c : Cfg} {dies : List Nat} (h : ∀ d, d ∈ dies → d ∈ c.staged ∧ d ∈ c.acked) :
    c.laggard dies = none := by
  simpa [Cfg.laggard] using h

theorem laggard_isSome {c : Cfg} {dies : List Nat} {d : Nat} (h : d ∈ dies) (late : d ∉ c.acked) :
    ∃ k, c.laggard dies = some k := by
  rw [← Option.isSome_iff_exists, Cfg.laggard, List.find?_isSome]
  exact ⟨d, h, by simp [late]⟩

/-- A cancelled arm leaves the shadow PASSED (R60 step 5). -/
theorem cfg_cancelArm {l : LaneId} {m : Module} (die : Nat) (h : (m.lane l).cfg.state = .armed)
    (open_ : (m.lane l).cfg.confirmSent = false) : ((cancelArm l die m).lane l).cfg = { (m.lane l).cfg with
      state := .passed, armCancelled := true, applySent := [], staged := [], acked := [] } := by
  simp [cancelArm, h, open_, updCfg]

/-- A solver die with its banks swapped (R60 step 7). -/
def SolverDie.swapped (new : Conf) (x : SolverDie) : SolverDie := { x with
  bank := some new, bankCounter := x.shadowCounter, shadow := x.bank, shadowCounter := x.bankCounter
  applyAt := none, confirmed := false }

theorem banks_of_blank {x y : SolverDie} (h : x.blank = y.blank) : x.bank = y.bank ∧ x.bankCounter = y.bankCounter ∧
    x.shadow = y.shadow ∧ x.shadowCounter = y.shadowCounter ∧ x.applyAt = y.applyAt ∧ x.confirmed = y.confirmed :=
  ⟨(congrArg SolverDie.bank h :), (congrArg SolverDie.bankCounter h :), (congrArg SolverDie.shadow h :),
    (congrArg SolverDie.shadowCounter h :), (congrArg SolverDie.applyAt h :), (congrArg SolverDie.confirmed h :)⟩

theorem sd_swapSolver {m : Module} {d : Nat} {c : Conf} (h : d < m.sds.length) (staged : (m.sd d).shadow = some c) :
    ((swapSolver d m).sd d).blank = ((m.sd d).swapped c).blank := by
  rw [swapSolver, sd_of_blank (blank_askBanks ..), sd_updSd _ _ _ h, staged]
  rfl

/-! ### The lane's side -/

section
variable {s : State} {l : LaneId} (ha : (s.m.lane l).cfg.state = .armed)
include ha

section
variable (hc : (s.m.lane l).cfg.confirmSent = false)
include hc

theorem does_applyAnnounce : Does (.applyAnnounce l) s fun _ m =>
    let c := (s.m.lane l).cfg
    let m := clockTo (c.applyInstant - (if c.applySent = [] then 2000000 else 1000000)) m
    let dies := if c.applySent = [] then m.applyDies l else c.applySent
    forEach (dies.filter (2 ≤ ·)) (fun d => send l.num d (.apply (s.m.lane l).red.claim c.applyInstant))
      (updCfg l (fun x => { x with
        applySent := dies, acked := if x.acked.contains l.num then x.acked else l.num :: x.acked }) m) := by
  have b : Does (.applyAnnounce l) s (applyAnnounceBody l) := rfl
  exact b.congr (by simp [applyAnnounceBody, ha, hc])

section
variable {dies : List Nat}
  (hd : dies = if (s.m.lane l).cfg.applySent = [] then s.m.applyDies l else (s.m.lane l).cfg.applySent)
include hd

theorem does_applyAckDeadline_late {d : Nat} (late : (s.m.lane l).cfg.laggard dies = some d) :
    Does (.applyAckDeadline l) s fun _ m => cancelArm l d (clockTo ((s.m.lane l).cfg.applyInstant - 500000) m) := by
  have b : Does (.applyAckDeadline l) s (applyAckDeadlineBody l) := rfl
  exact b.congr (by simp [applyAckDeadlineBody, ha, hc, ← hd, late])

theorem does_applyAckDeadline_ready (ready : (s.m.lane l).cfg.laggard dies = none) :
    Does (.applyAckDeadline l) s fun _ m => clockTo ((s.m.lane l).cfg.applyInstant - 500000) m := by
  have b : Does (.applyAckDeadline l) s (applyAckDeadlineBody l) := rfl
  exact b.congr (by simp [applyAckDeadlineBody, ha, hc, ← hd, ready])

theorem does_applyConfirm_late {d : Nat} (late : (s.m.lane l).cfg.laggard dies = some d) :
    Does (.applyConfirm l) s fun _ m => cancelArm l d m := by
  have b : Does (.applyConfirm l) s (applyConfirmBody l) := rfl
  exact b.congr (by simp [applyConfirmBody, ha, hc, ← hd, late])

theorem does_applyConfirm_ready (ready : (s.m.lane l).cfg.laggard dies = none) : Does (.applyConfirm l) s fun _ m =>
    forEach ((s.m.lane l).cfg.applySent.filter (2 ≤ ·)) (fun d => send l.num d (.confirm (s.m.lane l).red.claim))
      (updCfg l (fun x => { x with confirmSent := true }) (clockTo ((s.m.lane l).cfg.applyInstant - 200000) m)) := by
  have b : Does (.applyConfirm l) s (applyConfirmBody l) := rfl
  exact b.congr (by simp [applyConfirmBody, ha, hc, ← hd, ready])

end
end

theorem does_applyInstant {new : Conf} (hc : (s.m.lane l).cfg.confirmSent = true)
    (hn : (s.m.lane l).cfg.candidate = some new) : Does (.applyInstant l) s fun st m =>
      applyLane st l new (clockTo (s.m.lane l).cfg.applyInstant m) := by
  have b : Does (.applyInstant l) s (applyInstantBody l) := rfl
  exact b.congr (by simp [applyInstantBody, ha, hc, hn])

end

/-! ### The dies' side -/

section
variable {s : State} {l : LaneId} {die : Nat} {rest : List Mail} (h2 : 2 ≤ die)
include h2

theorem does_applyMsg {at_ : Nat} (hmail : s.m.mail = ⟨l.num, die, .apply (s.m.dieClaim die) at_⟩ :: rest)
    (staged : die ∈ (s.m.lane l).cfg.staged) : Does (.applyMsg die) s fun _ m =>
      updCfg l (fun x => { x with acked := if x.acked.contains die then x.acked else die :: x.acked })
        (setDieApply die (some at_) false (m.withMail rest)) := by
  have b : Does (.applyMsg die) s (applyMsgBody die) := rfl
  refine b.congr ?_
  have claim : (s.m.fresh.withMail rest).dieClaim die = s.m.dieClaim die := rfl
  simp only [applyMsgBody, if_neg (Nat.not_lt.mpr h2)]
  rw [takeFromLane_front (m := s.m.fresh) (a := (s.m.dieClaim die, at_)) hmail rfl]
  simp [claim, staged]

theorem does_cancelMsg (hmail : s.m.mail = ⟨l.num, die, .cancel (s.m.dieClaim die)⟩ :: rest) :
    Does (.cancelMsg die) s fun _ m => setDieApply die none false (m.withMail rest) := by
  have b : Does (.cancelMsg die) s (cancelMsgBody die) := rfl
  refine b.congr ?_
  have claim : (s.m.fresh.withMail rest).dieClaim die = s.m.dieClaim die := rfl
  simp only [cancelMsgBody, if_neg (Nat.not_lt.mpr h2)]
  rw [takeFromLane_front (m := s.m.fresh) (a := s.m.dieClaim die) hmail rfl]
  simp [claim]

theorem does_confirmMsg {at_ : Nat} (hmail : s.m.mail = ⟨l.num, die, .confirm (s.m.dieClaim die)⟩ :: rest)
    (known : s.m.dieApplyAt die = some at_) :
    Does (.confirmMsg die) s fun _ m => setDieApply die (some at_) true (m.withMail rest) := by
  have b : Does (.confirmMsg die) s (confirmMsgBody die) := rfl
  refine b.congr ?_
  have claim : (s.m.fresh.withMail rest).dieClaim die = s.m.dieClaim die := rfl
  have told : (s.m.fresh.withMail rest).dieApplyAt die = some at_ := known
  simp only [confirmMsgBody, if_neg (Nat.not_lt.mpr h2)]
  rw [takeFromLane_front (m := s.m.fresh) (a := s.m.dieClaim die) hmail rfl]
  simp [claim, told]

theorem does_bankSwap (h8 : die < 8) {at_ : Nat} (known : s.m.dieApplyAt die = some at_)
    (confirmed : s.m.dieConfirmed die = true) : Does (.bankSwap die) s fun _ m =>
      if die < 4 then swapSolver (die - 2) (clockTo at_ m) else swapField (die - 4) (clockTo at_ m) := by
  have b : Does (.bankSwap die) s (bankSwapBody die) := rfl
  refine b.congr ?_
  have fitted : (decide (die < 2) || decide (8 ≤ die)) = false := by simpa using ⟨h2, h8⟩
  simp only [bankSwapBody, fitted, fresh_dieApplyAt, known, fresh_dieConfirmed, confirmed]
  rfl

end

/-- A die that is not confirmed keeps its banks (R60 step 7). -/
theorem does_bankSwap_unconfirmed {s : State} {die : Nat} (h : s.m.dieConfirmed die = false) :
    Does (.bankSwap die) s fun _ m => m := by
  have b : Does (.bankSwap die) s (bankSwapBody die) := rfl
  refine b.congr ?_
  simp only [bankSwapBody]
  split
  · rfl
  · split
    · rfl
    · simp [h]

end Sys2Proof.Machine
end

section
/-! The apply up to its instant (R60). -/

namespace Sys2Proof.Machine

section
variable {s : State} {l : LaneId}

theorem sameStores_commit {f : Store → Module → Module} (h : (f s.mem s.m.fresh).nvmOut = []) :
    SameStores s (commit s f) := ⟨commit_mem_of_quiet _ _ h, commit_pending ..⟩

section
variable (ha : (s.m.lane l).cfg.state = .armed) (hc : (s.m.lane l).cfg.confirmSent = false)
include ha hc

/-- The next state of APPLY sent to dies, the first time or the second (R60 steps 3 and 4). -/
theorem ends_applyAnnounce {t : Nat} {dies : List Nat}
    (ht : t = (s.m.lane l).cfg.applyInstant - if (s.m.lane l).cfg.applySent = [] then 2000000 else 1000000)
    (hd : dies = if (s.m.lane l).cfg.applySent = [] then s.m.applyDies l else (s.m.lane l).cfg.applySent) :
    Ends (.applyAnnounce l) s fun u => SameStores s u ∧ u.m.now = max s.m.now t ∧
      (u.m.lane l).cfg.applySent = dies ∧ l.num ∈ (u.m.lane l).cfg.acked ∧
      u.m.mail = s.m.mail ++ (dies.filter (2 ≤ ·)).map fun d =>
        ({ src := l.num, dst := d, msg := .apply (s.m.lane l).red.claim (s.m.lane l).cfg.applyInstant } : Mail) := by
  refine (does_applyAnnounce ha hc).ends ⟨sameStores_commit ?_, ?_, ?_, ?_, ?_⟩
  · simp [updCfg]
  · simp [updCfg, ht]
  · simp [updCfg, hd]
  · simp only [commit_m, closed_lane, lane_sends, updCfg, lane_updLane]
    exact mem_acked ..
  · simp [updCfg, hd]

/-- The next state of an arm that a late die cancels (R60 step 5). -/
theorem ends_applyAckDeadline_late {d : Nat} (sent : (s.m.lane l).cfg.applySent ≠ [])
    (late : (s.m.lane l).cfg.laggard (s.m.lane l).cfg.applySent = some d) :
    Ends (.applyAckDeadline l) s fun t => SameStores s t ∧ (t.m.lane l).cfg.state = .passed ∧
      (t.m.lane l).cfg.armCancelled = true ∧ (t.m.lane l).cfg.applySent = [] ∧ (t.m.lane l).cfg.staged = [] := by
  refine (does_applyAckDeadline_late ha hc (if_neg sent).symm late).ends ⟨sameStores_commit ?_, ?_⟩
  · simp [nvmOut_cancelArm]
  · rw [commit_m, closed_lane, cfg_cancelArm _ (by simpa using ha) (by simpa using hc)]
    exact ⟨rfl, rfl, rfl, rfl⟩

end

section
variable {d at_ : Nat} {rest : List Mail}

section
variable (h : d < 2)
include h

theorem ends_applyMsg_solver (hmail : s.m.mail = ⟨l.num, 2 + d, .apply (s.m.sd d).claim at_⟩ :: rest)
    (staged : 2 + d ∈ (s.m.lane l).cfg.staged) : Ends (.applyMsg (2 + d)) s fun t => SameStores s t ∧
      t.m.mail = rest ∧ 2 + d ∈ (t.m.lane l).cfg.acked ∧
      t.m.sds = upd s.m.sds d (fun f => { f with applyAt := some at_, confirmed := false }) := by
  rw [← dieClaim_solver s.m h] at hmail
  refine (does_applyMsg (by omega) hmail staged).ends ⟨sameStores_commit ?_, ?_, ?_, ?_⟩
  · simp [setDieApply_solver _ _ _ h, updCfg]
  · simp [setDieApply_solver _ _ _ h, updCfg]
  · simp only [commit_m, closed_lane, updCfg, lane_updLane]
    exact mem_acked ..
  · simp [setDieApply_solver _ _ _ h, updCfg, Module.updSd]

theorem ends_cancelMsg_solver (hmail : s.m.mail = ⟨l.num, 2 + d, .cancel (s.m.sd d).claim⟩ :: rest) :
    Ends (.cancelMsg (2 + d)) s fun t => SameStores s t ∧ t.m.mail = rest ∧
      t.m.sds = upd s.m.sds d (fun f => { f with applyAt := none, confirmed := false }) := by
  rw [← dieClaim_solver s.m h] at hmail
  refine (does_cancelMsg (by omega) hmail).ends ?_
  simp [setDieApply_solver _ _ _ h, SameStores, Module.updSd]

theorem ends_confirmMsg_solver (hmail : s.m.mail = ⟨l.num, 2 + d, .confirm (s.m.sd d).claim⟩ :: rest)
    (known : (s.m.sd d).applyAt = some at_) : Ends (.confirmMsg (2 + d)) s fun t => SameStores s t ∧
      t.m.mail = rest ∧ t.m.sds = upd s.m.sds d (fun f => { f with applyAt := some at_, confirmed := true }) := by
  rw [← dieClaim_solver s.m h] at hmail
  refine (does_confirmMsg (by omega) hmail ((dieApplyAt_solver s.m h).trans known)).ends ?_
  simp [setDieApply_solver _ _ _ h, SameStores, Module.updSd]

theorem does_bankSwap_solver (known : (s.m.sd d).applyAt = some at_) (confirmed : (s.m.sd d).confirmed = true) :
    Does (.bankSwap (2 + d)) s fun _ m => swapSolver d (clockTo at_ m) :=
  (does_bankSwap (by omega) (by omega) ((dieApplyAt_solver s.m h).trans known)
    ((dieConfirmed_solver s.m h).trans confirmed)).congr (by simp [show 2 + d < 4 by omega])

/-- A solver die that is told and confirmed has its banks swapped at t_A (R60 step 7). -/
theorem ends_bankSwap_solver {c : Conf} (hsd : d < s.m.sds.length) (known : (s.m.sd d).applyAt = some at_)
    (confirmed : (s.m.sd d).confirmed = true) (staged : (s.m.sd d).shadow = some c) :
    Ends (.bankSwap (2 + d)) s fun t => SameStores s t ∧ t.m.now = max s.m.now at_ ∧
      (t.m.sd d).bank = some c ∧ (t.m.sd d).bankCounter = (s.m.sd d).shadowCounter ∧
      (t.m.sd d).shadow = (s.m.sd d).bank ∧ (t.m.sd d).shadowCounter = (s.m.sd d).bankCounter ∧
      (t.m.sd d).applyAt = none ∧ (t.m.sd d).confirmed = false := by
  refine (does_bankSwap_solver h known confirmed).ends ⟨sameStores_commit ?_, ?_, ?_⟩
  · rw [swapSolver, nvmOut_of_blank (blank_askBanks ..)]
    simp
  · rw [commit_m, closed_now, swapSolver, now_of_blank (blank_askBanks ..)]
    simp
  · have die := sd_swapSolver (m := clockTo at_ s.m.fresh) hsd staged
    rw [clockTo_sd, fresh_sd] at die
    rw [commit_m, closed_sd]
    exact banks_of_blank die

end

theorem ends_applyMsg_field (hmail : s.m.mail = ⟨l.num, 4 + d, .apply (s.m.fd d).claim at_⟩ :: rest)
    (staged : 4 + d ∈ (s.m.lane l).cfg.staged) : Ends (.applyMsg (4 + d)) s fun t => SameStores s t ∧
      t.m.mail = rest ∧ 4 + d ∈ (t.m.lane l).cfg.acked ∧
      t.m.fds = upd s.m.fds d (fun f => { f with applyAt := some at_, confirmed := false }) := by
  rw [← dieClaim_field] at hmail
  refine (does_applyMsg (by omega) hmail staged).ends ⟨sameStores_commit ?_, ?_, ?_, ?_⟩
  · simp [setDieApply_field, updCfg]
  · simp [setDieApply_field, updCfg]
  · simp only [commit_m, closed_lane, updCfg, lane_updLane]
    exact mem_acked ..
  · simp [setDieApply_field, updCfg, Module.updFd]

theorem ends_cancelMsg_field (hmail : s.m.mail = ⟨l.num, 4 + d, .cancel (s.m.fd d).claim⟩ :: rest) :
    Ends (.cancelMsg (4 + d)) s fun t => SameStores s t ∧ t.m.mail = rest ∧
      t.m.fds = upd s.m.fds d (fun f => { f with applyAt := none, confirmed := false }) := by
  rw [← dieClaim_field] at hmail
  refine (does_cancelMsg (by omega) hmail).ends ?_
  simp [setDieApply_field, SameStores, Module.updFd]

theorem ends_confirmMsg_field (hmail : s.m.mail = ⟨l.num, 4 + d, .confirm (s.m.fd d).claim⟩ :: rest)
    (known : (s.m.fd d).applyAt = some at_) : Ends (.confirmMsg (4 + d)) s fun t => SameStores s t ∧
      t.m.mail = rest ∧ t.m.fds = upd s.m.fds d (fun f => { f with applyAt := some at_, confirmed := true }) := by
  rw [← dieClaim_field] at hmail
  refine (does_confirmMsg (by omega) hmail ((dieApplyAt_field s.m d).trans known)).ends ?_
  simp [setDieApply_field, SameStores, Module.updFd]

theorem does_bankSwap_field (h : d < 4) (known : (s.m.fd d).applyAt = some at_)
    (confirmed : (s.m.fd d).confirmed = true) : Does (.bankSwap (4 + d)) s fun _ m => swapField d (clockTo at_ m) :=
  (does_bankSwap (by omega) (by omega) ((dieApplyAt_field s.m d).trans known)
    ((dieConfirmed_field s.m d).trans confirmed)).congr (by simp)

end
end

/-- Settles O11: each step of the apply past its guard, on the lane and on a solver die or a field die. -/
theorem applyRunsToTheInstant : Obligations.ApplyRunsToTheInstant := by
  intro s l
  refine ⟨fun ha hc first => ?first, fun ha hc again => ?again, fun d at_ rest => ends_applyMsg_solver,
    fun d at_ rest _ => ends_applyMsg_field, fun ha hc sent ready => ?ready, fun d ha hc sent hd late => ?late,
    fun ha hc => ⟨fun d late => (does_applyAckDeadline_late ha hc rfl late).congr (by simp),
      fun ready => (does_applyAckDeadline_ready ha hc rfl ready).congr (by simp),
      fun d late => does_applyConfirm_late ha hc rfl late⟩,
    fun d rest => ends_cancelMsg_solver, fun d at_ rest => ends_confirmMsg_solver,
    fun d rest _ => ends_cancelMsg_field, fun ha hc sent ready => ?confirm, fun d at_ rest _ => ends_confirmMsg_field,
    fun d at_ c h hsd known confirmed staged =>
      ⟨does_bankSwap_solver h known confirmed, ends_bankSwap_solver h hsd known confirmed staged⟩,
    fun d at_ => does_bankSwap_field, fun d at_ _ _ unconfirmed => ?stays, fun new ha hc hn => (does_applyInstant ha hc hn).congr (by simp)⟩
  case first => exact ends_applyAnnounce ha hc (by rw [if_pos first]) (if_pos first).symm
  case again =>
    obtain ⟨t, next, same, now, dies, -, mail⟩ :=
      ends_applyAnnounce ha hc (by rw [if_neg again]) (if_neg again).symm
    exact ⟨t, next, same, now, dies, mail⟩
  case ready =>
    refine (does_applyAckDeadline_ready ha hc (if_neg sent).symm (laggard_eq_none ready)).ends ?_
    simp [SameStores]
  case late =>
    obtain ⟨k, hk⟩ := laggard_isSome hd late
    exact ends_applyAckDeadline_late ha hc sent hk
  case confirm =>
    refine (does_applyConfirm_ready ha hc (if_neg sent).symm (laggard_eq_none ready)).ends ?_
    simp [SameStores, updCfg]
  case stays =>
    refine (does_bankSwap_unconfirmed unconfirmed).ends ?_
    simp [SameStores]

end Sys2Proof.Machine
end

section
/-! Page programs of the store: those that firmware asks for, and the end of one (R35, R55, R302, R364, R366 to R368,
R372). -/

namespace Sys2Proof.Machine

section
variable {s : State} {l : LaneId} {w : Word}

/-- What firmware writes into NVM_PROG_CTRL but GO (R366). -/
def keepProgCtrl (l : LaneId) (w : Word) (m : Module) : Module :=
  m.updLane l fun L => { L with nvm := { L.nvm with progCtrl := w &&& 0xFF } }

/-- A page program queued behind those that wait (R372). -/
def queueProgram (l : LaneId) (p : PageProg) (m : Module) : Module :=
  m.updLane l fun L => { L with nvm := Nvm.advance { L.nvm with waiting := L.nvm.waiting ++ [p] } }

@[simp] theorem programRefused_keepProgCtrl (wr : Writer) (a : Nat) (bs : Bytes) :
    programRefused (keepProgCtrl l w s.m.fresh) l wr a bs = programRefused s.m l wr a bs := by
  cases l <;> rfl

theorem inSlot_iff {a : Nat} : inSlot a = true ↔ a < 0x1800000 ∨ (0x2720200 ≤ a ∧ a < 0x2720A00) := by
  simp [inSlot]

/-- The host view of NVM_PROG_CTRL takes no write (R366). -/
theorem does_nvmProgram_host : Does (.nvmProgram l .host w) s fun _ m => m := rfl

section
variable (on : (s.m.lane l).sysOn = true) (may : (s.m.lane l).mayProgram = true)
include on may

theorem does_nvmProgram_still (go : bitOf w 31 = false) : Does (.nvmProgram l .fw w) s fun _ m => keepProgCtrl l w m := by
  have b : Does (.nvmProgram l .fw w) s (nvmProgramBody l .fw w) := rfl
  exact b.congr (by simp [nvmProgramBody, on, may, go, keepProgCtrl])

variable (go : bitOf w 31 = true) {a : Nat} (ha : a = (s.m.lane l).nvm.progAddr.toNat)
  {bs : Bytes} (hbs : bs = (bytesOf (s.m.lane l).nvm.progData).take (fld w 6 0))
include go ha hbs

/-- What a GO of firmware comes to (R35, R364, R366). -/
theorem does_nvmProgram_go : Does (.nvmProgram l .fw w) s fun _ m =>
    let m := keepProgCtrl l w m
    if fld w 6 0 = 0 ∨ fld w 6 0 > 64 then nvmRefuse l a .firmware m
    else if programRefused m l .firmware a bs then nvmRefuse l a .firmware m
    else if inSlot a && ((s.m.lane l).cfg.state == .checking || (s.m.lane l).cfg.state == .armed) then
      shadowRejected l 1 m
    else queueProgram l { addr := a, bytes := bs, lowPower := bitOf w 7, writer := 0 }
      (if a < 0x1800000 then shadowAccepted l m else m) := by
  subst ha hbs
  have b : Does (.nvmProgram l .fw w) s (nvmProgramBody l .fw w) := rfl
  refine b.congr ((if_neg (by simp [on, may])).trans ((if_neg (by simp [go])).trans ?_))
  simp only [fresh_lane]
  rfl

theorem does_nvmProgram_refused
    (h : fld w 6 0 = 0 ∨ 64 < fld w 6 0 ∨ programRefused s.m l .firmware a bs = true) :
    Does (.nvmProgram l .fw w) s fun _ m => nvmRefuse l a .firmware (keepProgCtrl l w m) := by
  refine (does_nvmProgram_go on may go ha hbs).congr ?_
  rcases h with h | h | h <;> simp [h]

section
variable (some_ : 0 < fld w 6 0) (fits : fld w 6 0 ≤ 64) (free : programRefused s.m l .firmware a bs = false)
include some_ fits free

theorem does_nvmProgram_frozen (slot : inSlot a = true)
    (frozen : (s.m.lane l).cfg.state = .checking ∨ (s.m.lane l).cfg.state = .armed) :
    Does (.nvmProgram l .fw w) s fun _ m => shadowRejected l 1 (keepProgCtrl l w m) := by
  refine (does_nvmProgram_go on may go ha hbs).congr ?_
  have length : ¬(fld w 6 0 = 0 ∨ fld w 6 0 > 64) := by omega
  simp [length, free, slot, frozen]

theorem does_nvmProgram_queued
    (h : ¬(inSlot a = true ∧ ((s.m.lane l).cfg.state = .checking ∨ (s.m.lane l).cfg.state = .armed))) :
    Does (.nvmProgram l .fw w) s fun _ m =>
      queueProgram l { addr := a, bytes := bs, lowPower := bitOf w 7, writer := 0 }
        (if a < 0x1800000 then shadowAccepted l (keepProgCtrl l w m) else keepProgCtrl l w m) := by
  refine (does_nvmProgram_go on may go ha hbs).congr ?_
  have length : ¬(fld w 6 0 = 0 ∨ fld w 6 0 > 64) := by omega
  have open_ : (inSlot a && ((s.m.lane l).cfg.state == .checking || (s.m.lane l).cfg.state == .armed)) = false := by
    simpa using h
  simp [length, free, open_]

end
end

/-- The end of a page program: its bytes in the groups it covers, and the next one begun (R366 to R368, R372). -/
def programEnded (l : LaneId) (p : PageProg) (m : Module) : Module :=
  (forEach (pageParts p.addr p.bytes) (fun q m => programRaw l.num q.1 q.2 (mergeRead l q.1 q.2.length m)) m).updLane l
    fun L => { L with nvm := Nvm.advance { L.nvm with
      busy := none, progPages := L.nvm.progPages + 1
      ecc := L.nvm.ecc.filter fun e =>
        !((pageParts p.addr p.bytes).flatMap fun q => groupsOf q.1 q.2.length).contains e.1 } }

theorem core_programEnded (p : PageProg) (m : Module) : (programEnded l p m).core = m.core :=
  (core_updNvm ..).trans (core_forEach _ _ _ fun _ _ => (core_programRaw ..).trans (core_mergeRead ..))

theorem does_pageProgramComplete {p : PageProg} (h : (s.m.lane l).nvm.busy = some p) :
    Does (.pageProgramComplete l) s fun st m =>
      let slot := imageBase (s.m.lane l).cfg.shadowSlot
      let m := programEnded l p m
      let m := if slot ≤ p.addr ∧ p.addr < slot + 0xC00000 then clearProvenance st l m else m
      if p.writer = 0 then raise l 13 4 m else m := by
  have b : Does (.pageProgramComplete l) s (pageProgramCompleteBody l) := rfl
  refine b.congr ?_
  have slot : ((programEnded l p s.m.fresh).lane l).cfg = (s.m.lane l).cfg := by
    rw [cfg_of_core (core_programEnded p s.m.fresh), fresh_lane]
  rw [← slot]
  simp only [pageProgramCompleteBody, fresh_lane, h]
  rfl

end

/-- Settles O41: firmware's GO by its length, its target and the state of the configuration, and the end of a program. -/
theorem memoryProgramsAct : Obligations.MemoryProgramsAct := by
  intro s l w on may a len bs image frozen kept queued
  have slot : inSlot a = true ↔ image := inSlot_iff
  refine ⟨does_nvmProgram_host, does_nvmProgram_still on may,
    fun go refused => does_nvmProgram_refused on may go rfl rfl refused,
    fun go some_ fits free inside held => does_nvmProgram_frozen on may go rfl rfl some_ fits free (slot.mpr inside) held,
    fun go some_ fits free other => ?_, fun p busy => does_pageProgramComplete busy⟩
  have does := does_nvmProgram_queued on may go rfl rfl some_ fits free (by rwa [slot])
  exact ⟨fun low => does.congr (by rw [if_pos low]; rfl),
    fun high => does.congr (by rw [if_neg (Nat.not_lt.mpr high)]; rfl)⟩

end Sys2Proof.Machine
end

section
/-! CAN ports: recovery, the raw frame, capture, the timeout of an assembly and record datagrams (R61, R324, R326 to R328,
R332, R334). -/

namespace Sys2Proof.Machine

/-! ### What the operations of a port leave alone -/

section
variable (d p : Nat) (m : Module)

@[simp] theorem updCan_lane (f : CanPort → CanPort) (l : LaneId) : (m.updCan d p f).lane l = m.lane l := updFd_lane ..

@[simp] theorem updCan_now (f : CanPort → CanPort) : (m.updCan d p f).now = m.now := updFd_now ..

@[simp] theorem updCan_stampAt (f : CanPort → CanPort) (l : LaneId) (t : Nat) :
    (m.updCan d p f).stampAt l t = m.stampAt l t := by
  cases l <;> rfl

@[simp] theorem fresh_stampAt (l : LaneId) (t : Nat) : m.fresh.stampAt l t = m.stampAt l t := by cases l <;> rfl

@[simp] theorem fresh_fdHeard : m.fresh.fdHeard d = m.fdHeard d := by simp [Module.fdHeard]

theorem updCan_updCan (f g : CanPort → CanPort) : (m.updCan d p f).updCan d p g = m.updCan d p fun c => g (f c) := by
  simp [Module.updCan, Module.updFd, upd, List.modify_modify_eq, Function.comp_def]

/-- A port's item hangs on its die's bank alone. -/
@[simp] theorem canCfg_updCan (f : CanPort → CanPort) (e k n : Nat) :
    ((m.updCan d p f).fd e).canCfg k n = (m.fd e).canCfg k n := by
  refine part_updFd d m (fun x => x.canCfg k n) (fun _ => ?_) e
  rfl

/-- What a change of a port leaves of the port stays. -/
theorem part_updCan {β : Type} (g : CanPort → β) {f : CanPort → CanPort} (h : ∀ c, g (f c) = g c) :
    g ((m.updCan d p f).canPort d p) = g (m.canPort d p) := by
  refine part_updFd d m (fun x => g (at? x.can p {})) (fun x => ?_) d
  simp only [at?, upd, List.getElem?_modify]
  cases x.can[p]? with
  | none => rfl
  | some c => simp [h]

/-- The raw frame is built of the raw registers alone (R326). -/
@[simp] theorem rawFrame_updCan (v w : Word) :
    ((m.updCan d p fun c => { c with rawCtrl := v }).canPort d p).rawFrame w = (m.canPort d p).rawFrame w :=
  part_updCan d p m (fun c => c.rawFrame w) fun _ => rfl

theorem lane_canState (s : Nat) (l : LaneId) : ((canState d p s m).lane l).blank = (m.lane l).blank := by
  have told (n : Nat) (m : Module) : (raiseCan d n m).blank = m.blank := by
    simp only [raiseCan]
    split <;> simp
  unfold canState
  extract_lets m1 m2
  have raised : m2.blank = m1.blank := by
    simp only [m2]
    split_ifs
    · exact told ..
    · exact told ..
    · rfl
  split
  · rfl
  · rw [lane_of_blank (blank_reportFd ..), lane_of_blank raised, updCan_lane]

theorem lane_canDrop (n cause : Nat) (l : LaneId) : ((canDrop d p n cause m).lane l).blank = (m.lane l).blank := by
  simp only [canDrop]
  split
  · rfl
  · split
    · rw [lane_of_blank (blank_reportFd ..), updCan_lane]
    · rw [updCan_lane]

theorem lane_canQueue (claim : Nat) (fs : List TxFrame) (l : LaneId) :
    ((canQueue d p claim fs m).lane l).blank = (m.lane l).blank := by
  unfold canQueue
  extract_lets i m1 recNo m2 c
  have first : (m1.lane l).blank = (m.lane l).blank := by
    simp only [m1]
    split
    · rw [lane_of_blank (blank_reportFd ..), updCan_lane]
    · rfl
  have cleared : (m2.lane l).blank = (m1.lane l).blank := by
    simp only [m2]
    split
    · rfl
    · rw [updCan_lane]
  split
  · rw [lane_canDrop, cleared, first]
  · split
    · rw [lane_canDrop, cleared, first]
    · rw [updCan_lane, cleared, first]

end

/-! ### Recovery and the bus idle (R61, R324) -/

section
variable {s : State} {d p : Nat} (up : s.m.fdUp d = true)
include up

theorem does_busOffRecoveryComplete (recovering : (s.m.canPort d p).state = 3) :
    Does (.busOffRecoveryComplete d p) s fun _ m =>
      (canState d p 0 (m.updCan d p fun c => { c with tecCnt := 0, recCnt := 0 })).updCan d p
        (CanPort.begin ((m.fd d).canCfg d p)) := by
  have b : Does (.busOffRecoveryComplete d p) s (busOffRecoveryCompleteBody d p) := rfl
  exact b.congr ((if_pos (by simp [up, recovering])).trans (by simp only [canCfg_updCan]))

theorem does_canBusIdle : Does (.canBusIdle d p) s fun _ m => m.updCan d p fun c => { c with oldTiming := none } := by
  have b : Does (.canBusIdle d p) s (canBusIdleBody d p) := rfl
  exact b.congr (if_pos up)

end

/-! ### Writes of a port's registers by the lane that its die obeys (R326) -/

section
variable {s : State} {l : LaneId} {v : View} {d p : Nat} {w : Word} (h : Heard s l v)
  (sel : (s.m.sel l v).canPort = 4 * d + p) (hp : p < 4) (reach : s.m.fdReach l d = true)
  (claim : (s.m.fd d).claim = (s.m.lane l).red.claim) (own : claimLane (s.m.lane l).red.claim = l)
  (holds : (s.m.lane l).red.holds = true)
include h sel hp reach claim own holds

/-- A command on a port's register has the effect of the register, where it keeps the lane's own claim. -/
theorem does_of_canWrite {i : Instr} {f : Nat → Nat → Module → Module}
    (b : Does i s fun _ m => dieWrite l v ((m.sel l v).canPort / 4)
      (f ((m.sel l v).canPort / 4) ((m.sel l v).canPort % 4)) m)
    (kept : ((f d p s.m.fresh).lane l).blank = (s.m.fresh.lane l).blank) : Does i s fun _ m => f d p m := by
  refine b.congr ?_
  have die : (s.m.fresh.sel l v).canPort / 4 = d := by simp only [fresh_sel, sel]; omega
  have port : (s.m.fresh.sel l v).canPort % 4 = p := by simp only [fresh_sel, sel]; omega
  have same : ((f d p s.m.fresh).lane l).red.claim = (s.m.fresh.lane l).red.claim := (congrArg (·.red.claim) kept :)
  rw [fresh_lane] at same
  simp only [die, port]
  exact dieWrite_obeyed h reach claim own holds same

theorem does_canRecover : Does (.canRecover l v w) s fun _ m =>
    if bitOf w 0 && (m.canPort d p).state == 2 then canState d p 3 m else m := by
  refine does_of_canWrite h sel hp reach claim own holds (f := fun d p m =>
    if bitOf w 0 && (m.canPort d p).state == 2 then canState d p 3 m else m) rfl ?_
  split
  · exact lane_canState ..
  · rfl

theorem does_canRecover_starts (go : bitOf w 0 = true) (off : (s.m.canPort d p).state = 2) :
    Does (.canRecover l v w) s fun _ m => canState d p 3 m :=
  (does_canRecover h sel hp reach claim own holds).congr (if_pos (by simp [go, off]))

theorem does_canRecover_still (still : bitOf w 0 = false ∨ (s.m.canPort d p).state ≠ 2) :
    Does (.canRecover l v w) s fun _ m => m :=
  (does_canRecover h sel hp reach claim own holds).congr (if_neg (by
    rcases still with still | still <;> simp [still]))

theorem does_canRawTx : Does (.canRawTx l v w) s fun _ m =>
    let m := m.updCan d p fun c => { c with rawCtrl := w &&& 0x7F }
    if bitOf w 31 then
      if bitOf w 5 && ((m.fd d).canCfg d p).mode == 1 then canDrop d p 1 0 m
      else canQueue d p (m.lane l).red.claim [(m.canPort d p).rawFrame w] m
    else m := by
  refine does_of_canWrite h sel hp reach claim own holds (f := fun d p m =>
    let m := m.updCan d p fun c => { c with rawCtrl := w &&& 0x7F }
    if bitOf w 31 then
      if bitOf w 5 && ((m.fd d).canCfg d p).mode == 1 then canDrop d p 1 0 m
      else canQueue d p (m.lane l).red.claim [(m.canPort d p).rawFrame w] m
    else m) rfl ?_
  simp only
  split_ifs
  · rw [lane_canDrop, updCan_lane]
  · rw [lane_canQueue, updCan_lane]
  · rw [updCan_lane]

theorem does_canRawTx_queues (go : bitOf w 31 = true)
    (sendable : bitOf w 5 = false ∨ ((s.m.fd d).canCfg d p).mode ≠ 1) : Does (.canRawTx l v w) s fun _ m =>
      canQueue d p (m.lane l).red.claim [(m.canPort d p).rawFrame w]
        (m.updCan d p fun c => { c with rawCtrl := w &&& 0x7F }) := by
  refine (does_canRawTx h sel hp reach claim own holds).congr ?_
  simp only [go, if_true, canCfg_updCan, fresh_fd, rawFrame_updCan, updCan_lane]
  exact if_neg (by rcases sendable with x | x <;> simp [x])

theorem does_canRawTx_kept (go : bitOf w 31 = false) : Does (.canRawTx l v w) s fun _ m =>
    m.updCan d p fun c => { c with rawCtrl := w &&& 0x7F } :=
  (does_canRawTx h sel hp reach claim own holds).congr (by simp [go])

end

/-! ### Capture (R327, R328) -/

theorem cfg_ringDrop (l : LaneId) (r n : Nat) (m : Module) (k : LaneId) :
    ((ringDrop l r n m).lane k).cfg = (m.lane k).cfg := by
  have ring (f : Ring → Ring) (m : Module) : ((updRing l r f m).lane k).cfg = (m.lane k).cfg :=
    cfg_updLane _ _ _ _ fun _ => rfl
  unfold ringDrop
  extract_lets g say m1 m2
  have raised : (m2.lane k).cfg = (m.lane k).cfg := (raise_lane_cfg ..).trans (ring ..)
  split
  · rw [report_lane_cfg, raised]
  · exact raised

theorem cfg_hostCapture (l : LaneId) (e : CapEntry) (m : Module) (k : LaneId) :
    ((hostCapture l e m).lane k).cfg = (m.lane k).cfg := by
  simp only [hostCapture]
  split
  · rfl
  · split
    · exact cfg_ringDrop ..
    · exact cfg_updLane _ _ _ _ fun _ => rfl

/-- An entry put at the end of a lane's capture ring, which keeps its newest 1024 (R327). -/
def putCapture (l : LaneId) (n : Nat) (e : CapEntry) (m : Module) : Module :=
  m.updLane l fun L => { L with can := { L.can with
    rings := upd L.can.rings n fun q => (q ++ [e]).drop ((q ++ [e]).length - 1024) } }

section
variable {s : State} {l : LaneId} {d p : Nat} {e : CapEntry} {rest : List CapEntry}
  (fifo : (s.m.canPort d p).fifo = e :: rest) (heard : s.m.fdHeard d = true)
  (own : claimLane (s.m.fd d).claim = l)
include fifo heard own

/-- An entry lost because the lane's ring is full is counted (R328). -/
theorem does_captureEntry_full : Does (.captureEntry l d p true) s fun _ m =>
    let say := secondPast m.now (s.m.canPort d p).lostEvAt
    let m := m.updCan d p fun c => { c with
      fifo := rest, lostRing := sat 65535 (c.lostRing + 1), lostEvAt := if say then some m.now else c.lostEvAt }
    let c := m.canPort d p
    let m := raise l 11 0x20000 m
    if say then report l 11 0x7004 (4 * d + p) c.lostFifo c.lostRing m else m := by
  have b : Does (.captureEntry l d p true) s (captureEntryBody l d p true) := rfl
  refine b.congr ?_
  simp only [captureEntryBody, fresh_canPort, fifo]
  refine (if_neg (by simp [heard, own])).trans ?_
  simp only [if_true, updCan_updCan, updCan_now]

theorem does_captureEntry_full_told (due : secondPast s.m.now (s.m.canPort d p).lostEvAt = true) :
    Does (.captureEntry l d p true) s fun _ m =>
      let m := m.updCan d p fun c => { c with
        fifo := rest, lostRing := sat 65535 (c.lostRing + 1), lostEvAt := some m.now }
      report l 11 0x7004 (4 * d + p) (m.canPort d p).lostFifo (m.canPort d p).lostRing (raise l 11 0x20000 m) :=
  (does_captureEntry_full fifo heard own).congr (by simp [due])

theorem does_captureEntry_full_quiet (due : secondPast s.m.now (s.m.canPort d p).lostEvAt = false) :
    Does (.captureEntry l d p true) s fun _ m =>
      raise l 11 0x20000 (m.updCan d p fun c => { c with fifo := rest, lostRing := sat 65535 (c.lostRing + 1) }) :=
  (does_captureEntry_full fifo heard own).congr (by simp [due])

variable {seen : CapEntry} (stamped : seen = { e with stamp := some (s.m.stampAt l (1000 * e.tbUs + 10 * e.frac)) })
include stamped

/-- An entry that the lane's ring has room for goes into it and to the host, and then to the record engine (R327, R332). -/
theorem does_captureEntry : Does (.captureEntry l d p false) s fun _ m =>
    let m := hostCapture l e (putCapture l (4 * d + p) seen (m.updCan d p fun c => { c with fifo := rest }))
    match (s.m.lane l).cfg.active.bind (·.network) with
    | none => m
    | some nw =>
      if nbit e.flags 5 then m
      else match recordEntry nw (4 * d + p) e with
        | none => m
        | some sub => recSegment l sub e m := by
  have b : Does (.captureEntry l d p false) s (captureEntryBody l d p false) := rfl
  refine b.congr ?_
  simp only [captureEntryBody, fresh_canPort, fifo]
  refine (if_neg (by simp [heard, own])).trans ?_
  simp only [Bool.false_eq_true, if_false, updCan_stampAt, fresh_stampAt, ← stamped, cfg_hostCapture, lane_updLane,
    updCan_lane, fresh_lane]
  rfl

/-- Without an active image and with the host's ring still, an entry goes into the lane's ring alone. -/
theorem does_captureEntry_plain (blank : (s.m.lane l).cfg.active = none) (still : ((s.m.lane l).ring 5).state ≠ 1) :
    Does (.captureEntry l d p false) s fun _ m =>
      putCapture l (4 * d + p) seen (m.updCan d p fun c => { c with fifo := rest }) := by
  refine (does_captureEntry fifo heard own stamped).congr ?_
  have kept : ((putCapture l (4 * d + p) seen (s.m.fresh.updCan d p fun c => { c with fifo := rest })).lane l).ring 5 =
      (s.m.lane l).ring 5 := by
    simp [putCapture, Lane.ring]
  simp [blank, hostCapture, kept, still]

section
variable {nw : NetworkCfg} (network : (s.m.lane l).cfg.active.bind (·.network) = some nw)
  (data : nbit e.flags 5 = false)
include network data

theorem does_captureEntry_other (other : recordEntry nw (4 * d + p) e = none) :
    Does (.captureEntry l d p false) s fun _ m =>
      hostCapture l e (putCapture l (4 * d + p) seen (m.updCan d p fun c => { c with fifo := rest })) :=
  (does_captureEntry fifo heard own stamped).congr (by simp [network, data, other])

theorem does_captureEntry_record {sub : SubCfg} (entry : recordEntry nw (4 * d + p) e = some sub) :
    Does (.captureEntry l d p false) s fun _ m => recSegment l sub e
      (hostCapture l e (putCapture l (4 * d + p) seen (m.updCan d p fun c => { c with fifo := rest }))) :=
  (does_captureEntry fifo heard own stamped).congr (by simp [network, data, entry])

end
end

/-! ### Records (R332, R334) -/

section
variable {s : State} {l : LaneId} {nw : NetworkCfg} (network : (s.m.lane l).cfg.active.bind (·.network) = some nw)
include network

theorem does_recordAssemblyTimeout {r : Nat} {a : Assembly} {sub : SubCfg} (asm : ((s.m.lane l).can.eng r).asm = some a)
    (item : nw.subs.find? (·.record == r) = some sub) : Does (.recordAssemblyTimeout l r) s fun _ m =>
      recDiscard l r 3 a.seq (updEng l r (fun g => { g with asm := none })
        (clockTo (a.openedAt + sub.timeoutMs * 1000000) m)) := by
  have b : Does (.recordAssemblyTimeout l r) s (recordAssemblyTimeoutBody l r) := rfl
  refine b.congr ?_
  simp [recordAssemblyTimeoutBody, asm, network, item]

variable {port : Nat} {dg : UdpDatagram} (up : (s.m.lane l).portUp port = true)
include up

theorem does_udpRecordDatagram : Does (.udpRecordDatagram l port dg) s fun _ m =>
    if dg.port = nw.udpPort ∧ dg.payload.length ≤ 1472 then udpRecords l nw dg.srcIp.toNat dg.payload 184 0 m
    else discardFrame l port false m := by
  have b : Does (.udpRecordDatagram l port dg) s (udpRecordDatagramBody l port dg) := rfl
  refine b.congr ?_
  simp [udpRecordDatagramBody, up, network]

end

/-- Settles O36: each command of a port, of capture and of the record engine past its guard. -/
theorem canPortsAct : Obligations.CanPortsAct := by
  refine ⟨fun s d p => ⟨does_busOffRecoveryComplete, fun up => ⟨?idle, does_canBusIdle up⟩,
      fun l v w h sel hp reach claim own holds => ⟨does_canRecover_starts h sel hp reach claim own holds,
        does_canRecover_still h sel hp reach claim own holds, does_canRawTx_queues h sel hp reach claim own holds,
        fun go => ?raw⟩⟩,
    fun s l => ⟨fun d p e rest fifo heard own => ⟨does_captureEntry_full_told fifo heard own,
        does_captureEntry_full_quiet fifo heard own, fun blank still => ?plain,
        fun nw sub network data => ⟨does_captureEntry_other fifo heard own rfl network data,
          does_captureEntry_record fifo heard own rfl network data⟩⟩,
      fun r a nw sub asm network => does_recordAssemblyTimeout network asm,
      fun port dg nw network up => ⟨fun own fits => ?record, fun other => ?discarded⟩⟩⟩
  case idle =>
    refine (does_canBusIdle up).ends ?_
    simp [SameStores, Module.updCan, Module.updFd]
  case raw =>
    refine (does_canRawTx_kept h sel hp reach claim own holds go).ends ?_
    simp [SameStores, Module.updCan, Module.updFd]
  case plain =>
    refine (does_captureEntry_plain fifo heard own rfl blank still).ends ⟨?_, ?_, ?_⟩
    · simp [SameStores, putCapture]
    · simp [putCapture, Module.updCan, Module.updFd]
    · simp [putCapture]
  case record => exact (does_udpRecordDatagram network up).congr (if_pos ⟨own, fits⟩)
  case discarded =>
    exact (does_udpRecordDatagram network up).congr (if_neg (by
      rintro ⟨own, fits⟩
      exact other.elim (· own) fun long => Nat.not_lt.mpr fits long))

end Sys2Proof.Machine
end

section
/-! What the engines of the store program, and what the reads and the uses of keys beside them do not. -/

namespace Sys2Proof.Machine

/-! ### The stores with what has been programmed so far -/

section
variable (st : Store)

theorem program_append (xs ys : List (Nat × Nat × Bytes)) :
    Store.program st (xs ++ ys) = Store.program (Store.program st xs) ys := by
  induction xs generalizing st with
  | nil => rfl
  | cons x xs ih => exact ih _

@[simp] theorem cur_fresh (m : Module) : m.fresh.cur st = st := rfl

@[simp] theorem cur_clockTo (t : Nat) (m : Module) : (clockTo t m).cur st = m.cur st := rfl

theorem cur_programRaw (l : LaneId) (a : Nat) (bs : Bytes) (m : Module) :
    ((programRaw l.num a bs m).cur st).mram l = Memory.writes ((m.cur st).mram l) a bs ∧
      ((programRaw l.num a bs m).cur st).mram l.other = (m.cur st).mram l.other := by
  simp only [Module.cur, programRaw_nvmOut_eq, program_append]
  cases l <;> exact ⟨rfl, rfl⟩

theorem cur_of_nvmOut {m n : Module} (h : m.nvmOut = n.nvmOut) : m.cur st = n.cur st := congrArg (Store.program st) h

theorem commit_mem_eq_cur (s : State) (b : Store → Module → Module) :
    (commit s b).mem = (b s.mem s.m.fresh).cur s.mem := rfl

end

/-! ### What programs nothing -/

section
variable (l : LaneId) (m : Module)

@[simp] theorem nvmOut_nvmRefuse (a : Nat) (w : Writer) : (nvmRefuse l a w m).nvmOut = m.nvmOut := by simp [nvmRefuse]

@[simp] theorem nvmOut_mergeRead (a n : Nat) : (mergeRead l a n m).nvmOut = m.nvmOut :=
  forEach_part (·.nvmOut) _ _ (fun _ _ => nvmRead_nvmOut ..) m

@[simp] theorem nvmOut_readSlot (mem : Mem) (slot : Nat) : (readSlot mem l slot m).nvmOut = m.nvmOut := by
  simp [readSlot]

@[simp] theorem nvmOut_setSlot (k : Nat) (x : KeySlot) : (setSlot l k x m).nvmOut = m.nvmOut := updLane_nvmOut ..

@[simp] theorem nvmOut_refuseUseAs (user slot code : Nat) : (refuseUseAs user l slot code m).nvmOut = m.nvmOut := by
  simp only [refuseUseAs]
  split <;> simp

theorem nvmOut_randomised : m.randomised.nvmOut = m.nvmOut := rfl

@[simp] theorem nvmOut_useSlotAs (user slot bit : Nat) (fault : Bool) :
    (useSlotAs user l slot bit fault m).2.nvmOut = m.nvmOut := by
  simp only [useSlotAs]
  split
  · simp
  · split_ifs <;> simp [nvmOut_randomised]

@[simp] theorem nvmOut_spend (user : Nat) (uses : List (Nat × Nat)) : (spend user l uses m).nvmOut = m.nvmOut :=
  forEach_part (·.nvmOut) _ _ (fun _ _ => nvmOut_useSlotAs ..) m

end

/-! ### What an engine's write programs -/

section
variable {w : Writer} {st : Store} {l : LaneId} {a : Nat} {bs : Bytes} {m : Module}

/-- A write of one lane's store leaves the other's alone. -/
theorem mram_other_mramWrite (w : Writer) (st st' : Store) (l : LaneId) (a : Nat) (bs : Bytes) (m : Module) :
    ((mramWrite w st l a bs m).cur st').mram l.other = (m.cur st').mram l.other := by
  simp only [mramWrite]
  split
  · rfl
  · split
    · rw [cur_of_nvmOut st' (nvmOut_nvmRefuse ..)]
    · rw [cur_of_nvmOut st' (updLane_nvmOut ..), (cur_programRaw ..).2, cur_of_nvmOut st' (nvmOut_mergeRead ..)]

/-- A write that is not refused programs its bytes (R302, R364, R365). -/
theorem mram_mramWrite (some_ : bs ≠ []) (fits : a + bs.length ≤ mramSize) (may : (m.lane l).mayProgram = true)
    (free : writeRefused m st l w a bs.length = false) (st' : Store) :
    ((mramWrite w st l a bs m).cur st').mram l = Memory.writes ((m.cur st').mram l) a bs := by
  have open_ : (bs.isEmpty || decide (a + bs.length > mramSize) || !(m.lane l).mayProgram) = false := by
    simpa [may] using ⟨some_, fits⟩
  simp only [mramWrite, open_, free, Bool.false_eq_true, if_false]
  rw [cur_of_nvmOut st' (updLane_nvmOut ..), (cur_programRaw ..).1, cur_of_nvmOut st' (nvmOut_mergeRead ..)]

theorem mem_groupsOf {g n : Nat} (h : g ∈ groupsOf a n) : a < 8 * g + 8 ∧ 8 * g < a + n := by
  unfold groupsOf at h
  split at h
  · simp at h
  · obtain ⟨k, hk, rfl⟩ := List.mem_map.1 h
    have := List.mem_range.1 hk
    omega

/-- A stretch of a writer's own that lies beside the metrology log is not refused (R364, R365). -/
theorem writeRefused_eq_false {n : Nat} (hn : 0 < n) (named : ∀ g, a < 8 * g + 8 → 8 * g < a + n →
      mayWrite m.variant (m.lane l).cfg.activeSlot (m.lane l).red.holds w (8 * g) = true)
    (beside : a + n ≤ 0x2600000 ∨ 0x2620000 ≤ a) : writeRefused m st l w a n = false := by
  have log : mlogBase = 0x2600000 := rfl
  simp only [writeRefused, logTaken, Bool.or_eq_false_iff, List.any_eq_false, Bool.not_eq_true',
    Bool.and_eq_true, decide_eq_true_eq]
  refine ⟨fun g hg => ?_, fun c _ => ?_⟩
  · simp [named g (mem_groupsOf hg).1 (mem_groupsOf hg).2]
  · omega

/-- The slot that is not active is a shadow write's own (R34, R361). -/
theorem mayWrite_image (v : Variant) (c : Cfg) (holds : Bool) {x : Nat} (low : imageBase c.shadowSlot ≤ x)
    (high : x < imageBase c.shadowSlot + 0xC00000) : mayWrite v c.activeSlot holds .shadow x = true := by
  by_cases h : c.activeSlot = 0
  · simp only [Cfg.shadowSlot, h, imageBase] at low high
    simp [mayWrite, h, show x < 0x1800000 by simp at high; omega, show ¬x < 0xC00000 by simp at low; omega]
  · simp only [Cfg.shadowSlot, h, imageBase] at low high
    simp [mayWrite, h, show x < 0x1800000 by simp at high; omega, show x < 0xC00000 by simp at high; omega]

/-- So is its provenance area (R363). -/
theorem mayWrite_prov (v : Variant) (c : Cfg) (holds : Bool) {x : Nat} (low : provBase c.shadowSlot ≤ x)
    (high : x < provBase c.shadowSlot + 1024) : mayWrite v c.activeSlot holds .shadow x = true := by
  by_cases h : c.activeSlot = 0
  · simp only [Cfg.shadowSlot, h, provBase] at low high
    have range : 0x2720600 ≤ x ∧ x < 0x2720A00 := by simp at low high; omega
    obtain ⟨low, high⟩ := range
    unfold mayWrite
    extract_lets peer
    repeat rw [if_neg (by omega)]
    rw [if_pos (by omega)]
    simp [h]
  · simp only [Cfg.shadowSlot, h, provBase] at low high
    have range : 0x2720200 ≤ x ∧ x < 0x2720600 := by simp at low high; omega
    obtain ⟨low, high⟩ := range
    unfold mayWrite
    extract_lets peer
    repeat rw [if_neg (by omega)]
    rw [if_pos (by omega)]
    simp [h]

end

/-! ### A write into the shadow slot (R35, R55) -/

section
variable {st : Store} {l : LaneId} {m : Module}

theorem mram_other_clearProvenance (st' : Store) :
    ((clearProvenance st l m).cur st').mram l.other = (m.cur st').mram l.other := by
  unfold clearProvenance
  extract_lets slot mem
  split
  · exact mram_other_mramWrite ..
  · rfl

variable (may : (m.lane l).mayProgram = true)
include may

/-- A shadow write within the shadow slot takes effect. -/
theorem mram_shadowWrite {off : Nat} {bs : Bytes} (some_ : bs ≠ []) (fits : off + bs.length ≤ 0xC00000) (st' : Store) :
    ((mramWrite .shadow st l (imageBase (m.lane l).cfg.shadowSlot + off) bs m).cur st').mram l =
      Memory.writes ((m.cur st').mram l) (imageBase (m.lane l).cfg.shadowSlot + off) bs := by
  have base : imageBase (m.lane l).cfg.shadowSlot % 8 = 0 ∧ imageBase (m.lane l).cfg.shadowSlot ≤ 0xC00000 := by
    unfold imageBase
    split <;> simp
  have length : 0 < bs.length := List.length_pos_iff.2 some_
  refine mram_mramWrite some_ (by unfold mramSize; omega) may (writeRefused_eq_false length (fun g low high => ?_) ?_) st'
  · exact mayWrite_image _ _ _ (by omega) (by omega)
  · omega

/-- After a shadow write, a full image leaves the provenance area of its slot all 0 (R55, R363). -/
theorem mram_clearProvenance {w : Mem} (hw : (m.cur st).mram l = w) : ((clearProvenance st l m).cur st).mram l =
    if fullImage w (m.lane l).cfg.shadowSlot && (Memory.reads w (provBase (m.lane l).cfg.shadowSlot) 1024).any (· != 0) then
      Memory.writes w (provBase (m.lane l).cfg.shadowSlot) (List.replicate 1024 0) else w := by
  subst hw
  have zeros : (List.replicate 1024 (0 : Byte)).length = 1024 := List.length_replicate
  have base : provBase (m.lane l).cfg.shadowSlot % 8 = 0 ∧ 0x2720200 ≤ provBase (m.lane l).cfg.shadowSlot ∧
      provBase (m.lane l).cfg.shadowSlot ≤ 0x2720600 := by
    unfold provBase
    split <;> simp
  simp only [clearProvenance]
  split
  · refine mram_mramWrite (List.ne_nil_of_length_pos (by rw [zeros]; omega)) (by rw [zeros, mramSize]; omega) may
      (writeRefused_eq_false (by rw [zeros]; omega) (fun g low high => ?_) ?_) st
    · exact mayWrite_prov _ _ _ (by omega) (by rw [zeros] at high; omega)
    · omega
  · rfl

/-- A shadow write with the clearing that follows it, over bytes of which no write is pending (R35, R55). -/
theorem mram_clearProvenance_shadowWrite {off : Nat} {bs : Bytes} {w : Mem} (some_ : bs ≠ [])
    (fits : off + bs.length ≤ 0xC00000) (held : m.cur st = st)
    (hw : w = Memory.writes (st.mram l) (imageBase (m.lane l).cfg.shadowSlot + off) bs) :
    ((clearProvenance st l (mramWrite .shadow st l (imageBase (m.lane l).cfg.shadowSlot + off) bs m)).cur st).mram l =
      if fullImage w (m.lane l).cfg.shadowSlot && (Memory.reads w (provBase (m.lane l).cfg.shadowSlot) 1024).any (· != 0) then
        Memory.writes w (provBase (m.lane l).cfg.shadowSlot) (List.replicate 1024 0) else w := by
  have core := core_mramWrite l m .shadow st (imageBase (m.lane l).cfg.shadowSlot + off) bs
  have written := mram_shadowWrite (st := st) may some_ fits st
  rw [held, ← hw] at written
  have e := mram_clearProvenance ((mayProgram_of_core core l).trans may) written
  rwa [cfg_of_core core] at e

end
end Sys2Proof.Machine
end

section
/-! The commands of a lane's configuration block: what each does past its guard (R35, R36, R47 to R58, R464). -/

namespace Sys2Proof.Machine

/-! ### What the commands read of the module as they find it -/

section
variable (m : Module) (l : LaneId)

@[simp] theorem fresh_fetches (r : Nat) (fence : Bool) : m.fresh.fetches l r fence = m.fetches l r fence := by
  cases l <;> rfl

@[simp] theorem clockTo_settled (t : Nat) (st : Store) (k : LaneId) : (clockTo t m).settled st k = m.settled st k := by
  cases k <;> rfl

@[simp] theorem clockTo_checkEnv (t : Nat) (st : Store) : (clockTo t m).checkEnv st l = m.checkEnv st l := by
  cases l <;> rfl

@[simp] theorem fresh_checkEnv (st : Store) : m.fresh.checkEnv st l = m.checkEnv st l := by cases l <;> rfl

@[simp] theorem updCfg_cfg (f : Cfg → Cfg) : ((updCfg l f m).lane l).cfg = f (m.lane l).cfg := by simp [updCfg]

@[simp] theorem updCfg_nvmOut (f : Cfg → Cfg) : (updCfg l f m).nvmOut = m.nvmOut := updLane_nvmOut ..

@[simp] theorem updRing_cfg (r : Nat) (f : Ring → Ring) (k : LaneId) : ((updRing l r f m).lane k).cfg = (m.lane k).cfg :=
  cfg_updLane _ _ _ _ fun _ => rfl

@[simp] theorem updRing_nvmOut (r : Nat) (f : Ring → Ring) : (updRing l r f m).nvmOut = m.nvmOut := updLane_nvmOut ..

@[simp] theorem updRing_rings (r : Nat) (f : Ring → Ring) :
    ((updRing l r f m).lane l).hst.rings = upd (m.lane l).hst.rings r f := by
  simp [updRing, updHst]

end

theorem rests_eq_false {d : Mode} (h : d ∉ [.standby, .resync]) : d.rests = false := by
  cases d <;> simp_all [Mode.rests]

theorem rests_eq_true {d : Mode} (h : d ∈ [.standby, .resync]) : d.rests = true := by
  cases d <;> simp_all [Mode.rests]

/-! ### SHADOW_WRITE (R47, R55, R464) -/

/-- A descriptor of ring 0 taken for execution (R463). -/
def takeDesc (l : LaneId) (d : HostDesc) (m : Module) : Module :=
  updRing l 0 (fun g => { g with
    cur := some ⟨d.addr, d.len, d.op, d.irq, d.fence, d.param, d.tag⟩, ending := none, outData := [], firstAt := none }) m

section
variable {s : State} {l : LaneId} {d : HostDesc} (fetched : s.m.fetches l 0 d.fence = true) (op : d.op = 1)
  (addr : d.addr % 4 = 0) (words : d.len % 4 = 0) (some_ : 4 ≤ d.len) (fits : d.len ≤ 4194304)
  (within : d.param + d.len ≤ 12582912)
include fetched op addr words some_ fits within

theorem does_shadowWrite : Does (.shadowWrite l d) s fun st m =>
    let c := (s.m.lane l).cfg
    let m := takeDesc l d m
    if c.state == .checking || c.state == .armed then ringDone l 0 3 0 [] (shadowRejected l 0 m)
    else ringDone l 0 0 d.len [] (clearProvenance st l
      (mramWrite .shadow st l (imageBase c.shadowSlot + d.param) (fitTo d.len d.data) (shadowAccepted l m))) := by
  have b : Does (.shadowWrite l d) s (shadowWriteBody l d) := rfl
  refine b.congr ((if_neg (by simp [fetched, op])).trans ((if_neg (by simp [op])).trans ((if_neg ?_).trans
    ((if_neg (by omega)).trans ?_))))
  · omega
  · rw [updRing_cfg, fresh_lane]
    rfl

theorem does_shadowWrite_taken (h : (s.m.lane l).cfg.state ∉ [.checking, .armed]) :
    Does (.shadowWrite l d) s fun st m => ringDone l 0 0 d.len [] (clearProvenance st l
      (mramWrite .shadow st l (imageBase (s.m.lane l).cfg.shadowSlot + d.param) (fitTo d.len d.data)
        (shadowAccepted l (takeDesc l d m)))) :=
  (does_shadowWrite fetched op addr words some_ fits within).congr (if_neg (by simpa using h))

theorem does_shadowWrite_rejected (h : (s.m.lane l).cfg.state ∈ [.checking, .armed]) :
    Does (.shadowWrite l d) s fun _ m => ringDone l 0 3 0 [] (shadowRejected l 0 (takeDesc l d m)) :=
  (does_shadowWrite fetched op addr words some_ fits within).congr (if_pos (by simpa using h))

end

/-! ### ENABLE, APPLY_ARM and ABANDON (R36, R47, R48, R58) -/

/-- The apply instant of an arm fixed, and nothing yet sent to the dies (R58). -/
def armedAt (l : LaneId) (at_ : Nat) (m : Module) : Module :=
  updCfg l (fun x => { x with
    state := .armed, armAt := m.now, applyInstant := at_, applySent := [], acked := [], confirmSent := false }) m

section
variable {s : State} {l : LaneId} {v : View} (h : Heard s l v)
include h

section
variable (awake : (s.m.lane l).sys.mode ∉ [.standby, .resync])
include awake

theorem does_cfgEnable_starts (loading : (s.m.lane l).cfg.state = .loading) : Does (.cfgEnable l v) s fun st m =>
    let i := rawImage (Memory.reads ((m.settled st l).mram l) (imageBase (s.m.lane l).cfg.shadowSlot) 256)
    updCfg l (fun x => { x with
      state := .checking, stage := 1, enableAt := m.now, delta := i.kind == 1, mirrorWait := false }) m := by
  have b : Does (.cfgEnable l v) s (cfgEnableBody l v) := rfl
  refine b.congr ((guardWrite_heard h _).trans ?_)
  simp [startCheck, rests_eq_false awake, loading]

theorem does_cfgEnable_refused (other : (s.m.lane l).cfg.state ∉ [.loading, .checking]) :
    Does (.cfgEnable l v) s fun _ m => cfgRefuse l 0x0B02 m := by
  have b : Does (.cfgEnable l v) s (cfgEnableBody l v) := rfl
  refine b.congr ((guardWrite_heard h _).trans ?_)
  simp only [startCheck, fresh_lane, rests_eq_false awake]
  cases state : (s.m.lane l).cfg.state <;> simp_all

/-- An arm: the apply instant fixed and the dies staged (R58, R60 steps 1 and 2). -/
theorem does_applyArm {new : Conf} {at_ : Nat} (passed : (s.m.lane l).cfg.state = .passed)
    (candidate : (s.m.lane l).cfg.candidate = some new) (instant : s.m.applyInstant l = some at_) :
    Does (.applyArm l v) s fun _ m => stageDies l new ((armedAt l at_ m).applyDies l) (armedAt l at_ m) := by
  have b : Does (.applyArm l v) s (applyArmBody l v) := rfl
  refine b.congr ((guardWrite_heard h _).trans ?_)
  simp [arm, armedAt, rests_eq_false awake, passed, candidate, instant]

end

theorem does_cfgAbandon_empty (empty : (s.m.lane l).cfg.state = .empty) :
    Does (.cfgAbandon l v) s fun _ m => cfgRefuse l 0x0B02 m := by
  have b : Does (.cfgAbandon l v) s (cfgAbandonBody l v) := rfl
  refine b.congr ((guardWrite_heard h _).trans ?_)
  simp [abandon, empty]

theorem does_cfgAbandon_checking (checking : (s.m.lane l).cfg.state = .checking) : Does (.cfgAbandon l v) s fun _ m =>
    abortShadowWrite l (updCfg l (fun c => { c with
      state := .empty, stage := 0, shadowDigest := [], candidate := none, delta := false, mirrorWait := false }) m) := by
  have b : Does (.cfgAbandon l v) s (cfgAbandonBody l v) := rfl
  refine b.congr ((guardWrite_heard h _).trans ?_)
  simp [abandon, checking]

theorem does_cfgAbandon_late (armed : (s.m.lane l).cfg.state = .armed)
    (late : (s.m.lane l).cfg.confirmSent = true ∨ (s.m.lane l).cfg.applyInstant ≤ s.m.now) :
    Does (.cfgAbandon l v) s fun _ m => updCfg l (fun c => { c with abandonLate := true }) m := by
  have b : Does (.cfgAbandon l v) s (cfgAbandonBody l v) := rfl
  refine b.congr ((guardWrite_heard h _).trans ?_)
  simp [abandon, armed, late]

/-- A shadow discarded outside a check, with what its arm told the dies taken back (R47, R60). -/
def discarded (l : LaneId) (x : CfgState) (m : Module) : Module :=
  report l 1 0x1005 x.code 0 0 (abortShadowWrite l (updCfg l (fun c => { c with
    state := .empty, shadowDigest := [], candidate := none, delta := false, applySent := [], staged := []
    acked := [] }) m))

theorem does_cfgAbandon_idle (idle : (s.m.lane l).cfg.state ∈ [.loading, .refused, .passed]) :
    Does (.cfgAbandon l v) s fun _ m => discarded l (s.m.lane l).cfg.state m := by
  have b : Does (.cfgAbandon l v) s (cfgAbandonBody l v) := rfl
  refine b.congr ((guardWrite_heard h _).trans ?_)
  simp only [List.mem_cons, List.not_mem_nil, or_false] at idle
  rcases idle with idle | idle | idle <;> simp [abandon, idle, discarded]

theorem does_cfgAbandon_armed (armed : (s.m.lane l).cfg.state = .armed)
    (open_ : (s.m.lane l).cfg.confirmSent = false) (early : s.m.now < (s.m.lane l).cfg.applyInstant) :
    Does (.cfgAbandon l v) s fun _ m => discarded l .armed (forEach ((m.applyDies l).filter (2 ≤ ·))
      (fun d => send l.num d (.cancel (m.lane l).red.claim)) m) := by
  have b : Does (.cfgAbandon l v) s (cfgAbandonBody l v) := rfl
  refine b.congr ((guardWrite_heard h _).trans ?_)
  simp [abandon, armed, open_, early, discarded]

end

/-! ### The end of a check and the mirror (R50, R52, R55, R56) -/

section
variable (l : LaneId) (m : Module)

theorem cfg_checkPassed (mirrored : Bool) : ((checkPassed l mirrored m).lane l).cfg = { (m.lane l).cfg with
    state := .passed, stage := 0, reason := 0, reasonSection := 0, reasonIndex := noIndex
    checkTime := (m.now - (m.lane l).cfg.enableAt) / 1000, mirrorWait := false, mirrored := mirrored } := by
  simp [checkPassed]

theorem cfg_checkRefused (r : Reason) : ((checkRefused l r m).lane l).cfg = { (m.lane l).cfg with
    state := .refused, stage := 0, reason := r.code, reasonSection := r.sect, reasonIndex := r.index
    checkTime := (m.now - (m.lane l).cfg.enableAt) / 1000, mirrorWait := false } := by
  simp [checkRefused]

@[simp] theorem nvmOut_checkPassed (mirrored : Bool) : (checkPassed l mirrored m).nvmOut = m.nvmOut := by
  simp [checkPassed]

@[simp] theorem nvmOut_checkRefused (r : Reason) : (checkRefused l r m).nvmOut = m.nvmOut := by simp [checkRefused]

end

/-- What the check of a shadow reads and spends, with the digest it finds (R55, R371, R430). -/
def judged (l : LaneId) (mem : Mem) (slot : Nat) (r : Verdict) (m : Module) : Module :=
  updCfg l (fun x => { x with shadowDigest := r.digest.getD [] }) (spend 1 l r.uses (readSlot mem l slot m))

/-- What a check without a failure leaves of the shadow: the image composed in its slot, and the candidate (R55). -/
def composed (st : Store) (l : LaneId) (delta : Bool) (shadow : Bytes) (r : Verdict) (m : Module) : Module :=
  updCfg l (fun x => { x with
    candidate := some r.conf, shadowCounter := r.conf.counter, meteringChanged := r.meteringChanged
    sealOk := r.sealOk, programChanged := r.programChanged }) (storeComposed st l delta shadow r.bodies m)

section
variable {s : State} {l : LaneId} (checking : (s.m.lane l).cfg.state = .checking)
include checking

section
variable {us : Nat} (own : (s.m.lane l).cfg.mirrorWait = false)
include own

theorem does_consistencyCheckEnd_resting (rests : (s.m.lane l).sys.mode ∈ [.standby, .resync]) :
    Does (.consistencyCheckEnd l us) s fun _ m => checkRefused l { code := 0x0B02, sect := 0, index := noIndex }
      (clockTo ((s.m.lane l).cfg.enableAt + 1000 * us) m) := by
  have b : Does (.consistencyCheckEnd l us) s (consistencyCheckEndBody l us) := rfl
  exact b.congr (by simp [consistencyCheckEndBody, checking, own, rests_eq_true rests])

theorem does_consistencyCheckEnd (awake : (s.m.lane l).sys.mode ∉ [.standby, .resync]) :
    Does (.consistencyCheckEnd l us) s fun st m =>
      let c := (s.m.lane l).cfg
      let m := clockTo (c.enableAt + 1000 * us) m
      let st := m.settled st l
      let shadow := slotBytes (st.mram l) c.shadowSlot
      let r := consistency (m.checkEnv st l) shadow
      let m := judged l (st.mram l) c.shadowSlot r m
      match r.refusal with
      | some x => checkRefused l x m
      | none => mirrorCheck l (composed st l c.delta shadow r m) := by
  have b : Does (.consistencyCheckEnd l us) s (consistencyCheckEndBody l us) := rfl
  refine b.congr ((if_neg (by simp [checking, own])).trans ((if_neg (by simp [rests_eq_false awake])).trans ?_))
  simp only [fresh_lane]
  generalize consistency _ _ = r
  rfl

end

section
variable (waits : (s.m.lane l).cfg.mirrorWait = true)
include waits

theorem does_mirrorTimeout : Does (.mirrorTimeout l) s fun _ m =>
    let c := (s.m.lane l).cfg
    checkPassed l false (report l 1 0x1008 c.shadowCounter (c.shadowCounter / 2 ^ 32) 0
      (clockTo (c.mirrorAt + 50000000) m)) := by
  have b : Does (.mirrorTimeout l) s (mirrorTimeoutBody l) := rfl
  refine b.congr ((if_neg (by simp [checking, waits])).trans ?_)
  simp only [fresh_lane]

end
end

/-! ### The mirror to the standby lane (R56) -/

section
variable (st : Store) (l : LaneId) (m : Module)

theorem peerShadowWrite_keeps (prov image : Bytes) (st' : Store) :
    ((peerShadowWrite st l prov image m).lane l.other).cfg = (m.lane l.other).cfg ∧
    ((peerShadowWrite st l prov image m).lane l).cfg.shadowSlot = (m.lane l).cfg.shadowSlot ∧
    ((peerShadowWrite st l prov image m).cur st').mram l.other = (m.cur st').mram l.other := by
  unfold peerShadowWrite
  extract_lets c
  split
  · exact ⟨by rw [lane_updLane_other], by rw [lane_updLane]; rfl, by rw [cur_of_nvmOut st' (updLane_nvmOut ..)]⟩
  · refine ⟨?_, ?_, ?_⟩
    · rw [cfg_of_core (core_mramWrite ..), cfg_of_core (core_mramWrite ..), shadowAccepted, lane_updLane_other]
    · rw [cfg_of_core (core_mramWrite ..), cfg_of_core (core_mramWrite ..), shadowAccepted, lane_updLane]
      rfl
    · rw [mram_other_mramWrite, mram_other_mramWrite, shadowAccepted, cur_of_nvmOut st' (updLane_nvmOut ..)]

/-- The mirror leaves the lane's own configuration block, the other's active slot, and the lane's own store alone. -/
theorem mirrorShadow_keeps (st' : Store) : ((mirrorShadow st l m).lane l).cfg = (m.lane l).cfg ∧
    ((mirrorShadow st l m).lane l.other).cfg.shadowSlot = (m.lane l.other).cfg.shadowSlot ∧
    ((mirrorShadow st l m).cur st').mram l = (m.cur st').mram l := by
  unfold mirrorShadow
  extract_lets slot mem
  obtain ⟨own, other, store⟩ := peerShadowWrite_keeps st l.other (readSlot mem l slot m) (provBytes mem slot)
    (slotBytes mem slot) st'
  rw [LaneId.other_other] at own store
  rw [own, other, store, cfg_of_core (core_readSlot ..), cfg_of_core (core_readSlot ..),
    cur_of_nvmOut st' (nvmOut_readSlot ..)]
  exact ⟨rfl, rfl, rfl⟩

end

theorem does_standbyDigestReport {s : State} {l : LaneId} (checking : (s.m.lane l).cfg.state = .checking)
    (waits : (s.m.lane l).cfg.mirrorWait = true) (standby : (s.m.lane l.other).sys.mode = .standby)
    (linked : s.m.laneLink = true) : Does (.standbyDigestReport l) s fun st m =>
      let m := mirrorShadow st l m
      let i := rawImage (slotBytes ((m.cur st).mram l.other) (m.lane l.other).cfg.shadowSlot)
      if digestField (canonical i (composeOver [] i)) = (s.m.lane l).cfg.shadowDigest then checkPassed l true m
      else checkRefused l imageMismatch m := by
  have b : Does (.standbyDigestReport l) s (standbyDigestReportBody l) := rfl
  refine b.congr ((if_neg (by simp [checking, waits, standby, linked])).trans ?_)
  simp only [fresh_lane, (mirrorShadow_keeps s.mem l s.m.fresh s.mem).2.1]

/-- Settles O60: every command of the configuration block and of the apply past its guard. -/
theorem everyConfigurationCommandCompletes : Obligations.EveryConfigurationCommandCompletes := by
  intro s l v c
  refine ⟨fun d fetched op addr words some_ fits within => does_shadowWrite_taken fetched op addr words some_ fits within,
    fun h => does_cfgEnable_starts h,
    fun us checking own awake => (does_consistencyCheckEnd checking own awake).congr ?_,
    does_standbyDigestReport, does_mirrorTimeout, fun new at_ h awake => does_applyArm h awake,
    fun h passed => (does_cfgAbandon_idle h (by simp [c, passed])).congr (by rw [passed]; rfl),
    does_applyAnnounce, fun die at_ rest h2 _ => does_applyMsg h2,
    fun ha hc => ⟨does_applyAckDeadline_ready ha hc rfl, fun d => does_applyAckDeadline_late ha hc rfl,
      does_applyConfirm_ready ha hc rfl⟩,
    fun die rest h2 _ => does_cancelMsg h2, fun die at_ rest h2 _ => does_confirmMsg h2,
    fun die at_ h2 h8 => does_bankSwap h2 h8, fun new ha => does_applyInstant ha⟩
  dsimp only
  generalize consistency _ _ = r
  rfl

end Sys2Proof.Machine
end

section
/-! What the commands of the configuration block leave (R35, R36, R47, R48, R50, R52, R56, R58, R464). -/

namespace Sys2Proof.Machine

/-! ### Shadow writes and discarded shadows -/

section
variable (l : LaneId) (m : Module)

theorem cfg_takeDesc (d : HostDesc) : ((takeDesc l d m).lane l).cfg = (m.lane l).cfg := updRing_cfg ..

@[simp] theorem nvmOut_takeDesc (d : HostDesc) : (takeDesc l d m).nvmOut = m.nvmOut := updRing_nvmOut ..

theorem cfg_ringDone (r code len : Nat) (out : Bytes) : ((ringDone l r code len out m).lane l).cfg = (m.lane l).cfg :=
  updRing_cfg ..

@[simp] theorem nvmOut_ringDone (r code len : Nat) (out : Bytes) : (ringDone l r code len out m).nvmOut = m.nvmOut :=
  updRing_nvmOut ..

theorem ending_ringDone {r : Nat} (code len : Nat) (out : Bytes) (h : r < (m.lane l).hst.rings.length) :
    (((ringDone l r code len out m).lane l).ring r).ending = some (code, len) := by
  simp [ringDone, Lane.ring, h]

theorem state_shadowAccepted (h : (m.lane l).cfg.state ∉ [.checking, .armed]) :
    ((shadowAccepted l m).lane l).cfg.state = .loading := by
  simp only [shadowAccepted, lane_updLane]
  cases state : (m.lane l).cfg.state <;> simp_all

@[simp] theorem nvmOut_shadowAccepted : (shadowAccepted l m).nvmOut = m.nvmOut := updLane_nvmOut ..

@[simp] theorem nvmOut_abortShadowWrite : (abortShadowWrite l m).nvmOut = m.nvmOut := updLane_nvmOut ..

@[simp] theorem cfg_abortShadowWrite : ((abortShadowWrite l m).lane l).cfg = (m.lane l).cfg :=
  cfg_updLane _ _ _ _ fun _ => rfl

theorem cfg_discarded (x : CfgState) : ((discarded l x m).lane l).cfg = { (m.lane l).cfg with
    state := .empty, shadowDigest := [], candidate := none, delta := false, applySent := [], staged := []
    acked := [] } := by
  simp [discarded]

@[simp] theorem nvmOut_discarded (x : CfgState) : (discarded l x m).nvmOut = m.nvmOut := by simp [discarded]

end

section
variable {s : State} {l : LaneId} {d : HostDesc} (fetched : s.m.fetches l 0 d.fence = true) (op : d.op = 1)
  (addr : d.addr % 4 = 0) (words : d.len % 4 = 0) (some_ : 4 ≤ d.len) (fits : d.len ≤ 4194304)
  (within : d.param + d.len ≤ 12582912) (rings : (s.m.lane l).hst.rings.length = 8)
include fetched op addr words some_ fits within rings

theorem ends_shadowWrite_taken (h : (s.m.lane l).cfg.state ∉ [.checking, .armed])
    (ok : (s.m.lane l).sys.holdupOk = true) : Ends (.shadowWrite l d) s fun t =>
      let slot := (s.m.lane l).cfg.shadowSlot
      let w := Memory.writes (s.mem.mram l) (imageBase slot + d.param) (fitTo d.len d.data)
      let stale := fullImage w slot && (Memory.reads w (provBase slot) 1024).any (· != 0)
      t.mem.mram l = (if stale then Memory.writes w (provBase slot) (List.replicate 1024 0) else w) ∧
      t.mem.mram l.other = s.mem.mram l.other ∧ (t.m.lane l).cfg.state = .loading ∧
      ((t.m.lane l).ring 0).ending = some (0, d.len) := by
  have cfg : ((takeDesc l d s.m.fresh).lane l).cfg = (s.m.lane l).cfg := by rw [cfg_takeDesc, fresh_lane]
  have slot : ((shadowAccepted l (takeDesc l d s.m.fresh)).lane l).cfg.shadowSlot = (s.m.lane l).cfg.shadowSlot := by
    simp only [shadowAccepted, lane_updLane, cfg]
    rfl
  have may : ((shadowAccepted l (takeDesc l d s.m.fresh)).lane l).mayProgram = true := by
    simp [shadowAccepted, takeDesc, updRing, updHst, Lane.mayProgram, ok]
  have held : (shadowAccepted l (takeDesc l d s.m.fresh)).cur s.mem = s.mem :=
    cur_of_nvmOut (n := s.m.fresh) s.mem (by simp)
  have length : (fitTo d.len d.data).length = d.len := length_fitTo ..
  have bytes : fitTo d.len d.data ≠ [] := List.ne_nil_of_length_pos (by omega)
  refine (does_shadowWrite_taken fetched op addr words some_ fits within h).ends ⟨?_, ?_, ?_, ?_⟩
  · rw [commit_mem_eq_cur, cur_of_nvmOut s.mem (nvmOut_ringDone ..), ← slot]
    exact mram_clearProvenance_shadowWrite may bytes (by omega) held rfl
  · rw [commit_mem_eq_cur, cur_of_nvmOut s.mem (nvmOut_ringDone ..), mram_other_clearProvenance,
      mram_other_mramWrite, held]
  · rw [commit_m, closed_lane, cfg_ringDone, cfg_of_core (core_clearProvenance ..), cfg_of_core (core_mramWrite ..)]
    exact state_shadowAccepted _ _ (by rwa [cfg])
  · rw [commit_m, closed_lane]
    refine ending_ringDone _ _ _ _ _ ?_
    rw [rings_of_core (core_clearProvenance ..), rings_of_core (core_mramWrite ..)]
    simp [shadowAccepted, takeDesc, rings]

theorem ends_shadowWrite_rejected (h : (s.m.lane l).cfg.state ∈ [.checking, .armed]) :
    Ends (.shadowWrite l d) s fun t => SameStores s t ∧ (t.m.lane l).cfg.shadowWriteRejected = true ∧
      (t.m.lane l).cfg.state = (s.m.lane l).cfg.state ∧ ((t.m.lane l).ring 0).ending = some (3, 0) := by
  refine (does_shadowWrite_rejected fetched op addr words some_ fits within h).ends ⟨sameStores_commit ?_, ?_, ?_, ?_⟩
  · simp [shadowRejected]
  · simp [cfg_ringDone, shadowRejected]
  · simp [cfg_ringDone, shadowRejected, cfg_takeDesc]
  · rw [commit_m, closed_lane]
    refine ending_ringDone _ _ _ _ _ ?_
    simp [shadowRejected, takeDesc, rings]

end

/-! ### ENABLE, APPLY_ARM and ABANDON -/

section
variable {s : State} {l : LaneId} {i : Instr}

/-- The next state of a command that changes its lane's configuration block alone. -/
theorem Does.ends_updCfg {f : Cfg → Cfg} (d : Does i s fun _ m => updCfg l f m) :
    Ends i s fun t => OnlyLane l s t ∧ (t.m.lane l).cfg = f (s.m.lane l).cfg :=
  d.ends ⟨by simp [OnlyLane, updCfg], by simp⟩

theorem Does.ends_refused (d : Does i s fun _ m => cfgRefuse l 0x0B02 m) : Ends i s fun t => OnlyLane l s t ∧
    (t.m.lane l).cfg = { (s.m.lane l).cfg with cmdRefused := true, cmdReason := 0x0B02 } :=
  d.ends_updCfg

theorem Does.ends_discarded {x : CfgState} {f : Module → Module} (quiet : (f s.m.fresh).nvmOut = [])
    (d : Does i s fun _ m => discarded l x (f m)) : Ends i s fun t => SameStores s t ∧
      (t.m.lane l).cfg.state = .empty ∧ (t.m.lane l).cfg.candidate = none ∧ (t.m.lane l).cfg.shadowDigest = [] :=
  d.ends ⟨sameStores_commit (by simp [quiet]), by simp [cfg_discarded]⟩

/-- The dies that an arm stages are those it reaches; the lanes and the messages stand as they were (R60 step 2). -/
theorem stageDies_eq (l : LaneId) (c : Conf) (dies : List Nat) (m : Module) : ∃ n, stageDies l c dies m =
    updCfg l (fun g => { g with staged := dies.filter fun k =>
      if k < 2 then true else if k < 4 then m.sdReach l (k - 2) else m.fdReach l (k - 4) }) n ∧
    (∀ k, n.lane k = m.lane k) ∧ n.mail = m.mail ∧ n.nvmOut = m.nvmOut := by
  refine ⟨_, rfl, fun k => ?_, ?_, ?_⟩
  · refine forEach_part (·.lane k) _ _ (fun k m => ?_) m
    split_ifs <;> simp
  · refine forEach_part (·.mail) _ _ (fun k m => ?_) m
    split_ifs <;> simp
  · refine forEach_part (·.nvmOut) _ _ (fun k m => ?_) m
    split_ifs <;> simp

theorem ends_applyArm {v : View} (h : Heard s l v) (awake : (s.m.lane l).sys.mode ∉ [.standby, .resync]) {new : Conf}
    {at_ : Nat} (passed : (s.m.lane l).cfg.state = .passed) (candidate : (s.m.lane l).cfg.candidate = some new)
    (instant : s.m.applyInstant l = some at_) : Ends (.applyArm l v) s fun t => SameStores s t ∧
      t.m.mail = s.m.mail ∧ (t.m.lane l).cfg = { (s.m.lane l).cfg with
        state := .armed, armAt := s.m.now, applyInstant := at_, applySent := [], acked := [], confirmSent := false
        staged := (s.m.applyDies l).filter fun k =>
          if k < 2 then true else if k < 4 then s.m.sdReach l (k - 2) else s.m.fdReach l (k - 4) } := by
  have dies : (armedAt l at_ s.m.fresh).applyDies l = s.m.applyDies l := by simp [armedAt]
  have sdReach (k : Nat) : (armedAt l at_ s.m.fresh).sdReach l k = s.m.sdReach l k := by cases l <;> rfl
  have fdReach (k : Nat) : (armedAt l at_ s.m.fresh).fdReach l k = s.m.fdReach l k := by cases l <;> rfl
  obtain ⟨n, e, lanes, mail, quiet⟩ := stageDies_eq l new (s.m.applyDies l) (armedAt l at_ s.m.fresh)
  rw [← dies] at e
  refine (does_applyArm h awake passed candidate instant).ends ⟨sameStores_commit ?_, ?_, ?_⟩
  · rw [e, updCfg_nvmOut, quiet, armedAt, updCfg_nvmOut, fresh_nvmOut]
  · rw [commit_m, closed_mail, e, updCfg, updLane_mail, mail, armedAt, updCfg, updLane_mail, fresh_mail]
  · rw [commit_m, closed_lane, e, updCfg_cfg, lanes]
    simp only [dies, sdReach, fdReach]
    simp [armedAt]

theorem ends_cfgAbandon_checking {v : View} (h : Heard s l v) (checking : (s.m.lane l).cfg.state = .checking) :
    Ends (.cfgAbandon l v) s fun t => SameStores s t ∧ (t.m.lane l).cfg.state = .empty ∧
      (t.m.lane l).cfg.candidate = none ∧ (t.m.lane l).cfg.shadowDigest = [] :=
  (does_cfgAbandon_checking h checking).ends ⟨sameStores_commit (by simp), by simp⟩

end

/-! ### The end of a check -/

section
variable {s : State} {l : LaneId}

theorem judged_eq (mem : Mem) (slot : Nat) (r : Verdict) (m : Module) : ∃ n, n.core = m.core ∧
    n.nvmOut = m.nvmOut ∧ judged l mem slot r m = updCfg l (fun x => { x with shadowDigest := r.digest.getD [] }) n :=
  ⟨spend 1 l r.uses (readSlot mem l slot m), by simp, by simp, rfl⟩

@[simp] theorem nvmOut_judged (mem : Mem) (slot : Nat) (r : Verdict) (m : Module) :
    (judged l mem slot r m).nvmOut = m.nvmOut := by
  simp [judged]

theorem cfg_judged (mem : Mem) (slot : Nat) (r : Verdict) (m : Module) : ((judged l mem slot r m).lane l).cfg =
    { (m.lane l).cfg with shadowDigest := r.digest.getD [] } := by
  obtain ⟨n, core, -, e⟩ := judged_eq (l := l) mem slot r m
  rw [e, updCfg_cfg, cfg_of_core core]

theorem cfg_composed (st : Store) (delta : Bool) (shadow : Bytes) (r : Verdict) (m : Module) :
    ((composed st l delta shadow r m).lane l).cfg = { (m.lane l).cfg with
      candidate := some r.conf, shadowCounter := r.conf.counter, meteringChanged := r.meteringChanged
      sealOk := r.sealOk, programChanged := r.programChanged } := by
  rw [composed, updCfg_cfg, cfg_of_core (core_storeComposed ..)]

/-- What a check leaves outside its lane's store and configuration block: the variant, the other lane's mode and store. -/
theorem composed_judged_keeps (st st' : Store) (mem : Mem) (slot : Nat) (delta : Bool) (shadow : Bytes) (r : Verdict)
    (m : Module) : (composed st l delta shadow r (judged l mem slot r m)).variant = m.variant ∧
      ((composed st l delta shadow r (judged l mem slot r m)).lane l.other).sys.mode = (m.lane l.other).sys.mode ∧
      ((composed st l delta shadow r (judged l mem slot r m)).cur st').mram l.other = (m.cur st').mram l.other := by
  obtain ⟨n, core, quiet, e⟩ := judged_eq (l := l) mem slot r m
  have stored (k : Module) : ((storeComposed st l delta shadow r.bodies k).cur st').mram l.other =
      (k.cur st').mram l.other := by
    simp only [storeComposed]
    split
    · rw [mram_other_mramWrite, mram_other_mramWrite]
    · rfl
  rw [e, composed]
  refine ⟨?_, ?_, ?_⟩
  · rw [updCfg, updLane_variant, variant_of_core (core_storeComposed ..), updCfg, updLane_variant, variant_of_core core]
  · rw [updCfg, lane_updLane_other, mode_of_core (core_storeComposed ..), updCfg, lane_updLane_other, mode_of_core core]
  · rw [cur_of_nvmOut st' (updCfg_nvmOut ..), stored, cur_of_nvmOut st' ((updCfg_nvmOut ..).trans quiet)]

/-! #### The mirror check -/

section
variable {m : Module}

theorem mirrorCheck_alone (h : m.variant.nLane = 1) : mirrorCheck l m = checkPassed l false m := by
  simp [mirrorCheck, h]

theorem mirrorCheck_resync (h : m.variant.nLane = 2) (other : (m.lane l.other).sys.mode = .resync) :
    mirrorCheck l m = checkRefused l imageMismatch m := by
  simp [mirrorCheck, h, other]

theorem mirrorCheck_waits (h : m.variant.nLane = 2) (other : (m.lane l.other).sys.mode ≠ .resync) :
    mirrorCheck l m = updCfg l (fun c => { c with mirrorWait := true, mirrorAt := m.now, stage := 4 }) m := by
  simp [mirrorCheck, h, other]

end

section
variable {us : Nat} (checking : (s.m.lane l).cfg.state = .checking) (own : (s.m.lane l).cfg.mirrorWait = false)
include checking own

theorem ends_consistencyCheckEnd_resting (rests : (s.m.lane l).sys.mode ∈ [.standby, .resync]) :
    Ends (.consistencyCheckEnd l us) s fun t => SameStores s t ∧ (t.m.lane l).cfg.state = .refused ∧
      (t.m.lane l).cfg.reason = 0x0B02 :=
  (does_consistencyCheckEnd_resting checking own rests).ends ⟨sameStores_commit (by simp), by simp [cfg_checkRefused]⟩

variable (awake : (s.m.lane l).sys.mode ∉ [.standby, .resync]) {held : Store} (hh : held = s.m.fresh.settled s.mem l)
  {v : Verdict} (hv : v = consistency (s.m.checkEnv held l) (slotBytes (held.mram l) (s.m.lane l).cfg.shadowSlot))
include awake hh hv

theorem does_consistencyCheckEnd_refused {x : Reason} (refusal : v.refusal = some x) :
    Does (.consistencyCheckEnd l us) s fun _ m => checkRefused l x (judged l (held.mram l) (s.m.lane l).cfg.shadowSlot v
      (clockTo ((s.m.lane l).cfg.enableAt + 1000 * us) m)) := by
  refine (does_consistencyCheckEnd checking own awake).congr ?_
  simp only [clockTo_settled, clockTo_checkEnv, fresh_checkEnv, ← hh, ← hv, refusal]

theorem does_consistencyCheckEnd_sound (refusal : v.refusal = none) :
    Does (.consistencyCheckEnd l us) s fun _ m => mirrorCheck l (composed held l (s.m.lane l).cfg.delta
      (slotBytes (held.mram l) (s.m.lane l).cfg.shadowSlot) v (judged l (held.mram l) (s.m.lane l).cfg.shadowSlot v
        (clockTo ((s.m.lane l).cfg.enableAt + 1000 * us) m))) := by
  refine (does_consistencyCheckEnd checking own awake).congr ?_
  simp only [clockTo_settled, clockTo_checkEnv, fresh_checkEnv, ← hh, ← hv, refusal]

theorem ends_consistencyCheckEnd_refused {x : Reason} (refusal : v.refusal = some x) :
    Ends (.consistencyCheckEnd l us) s fun t => SameStores s t ∧ (t.m.lane l).cfg.state = .refused ∧
      (t.m.lane l).cfg.reason = x.code ∧ (t.m.lane l).cfg.reasonSection = x.sect ∧
      (t.m.lane l).cfg.reasonIndex = x.index ∧ (t.m.lane l).cfg.stage = 0 ∧
      (t.m.lane l).cfg.active = (s.m.lane l).cfg.active :=
  (does_consistencyCheckEnd_refused checking own awake hh hv refusal).ends
    ⟨sameStores_commit (by simp), by simp [cfg_checkRefused, cfg_judged]⟩

/-- A sound image is composed before the mirror step; the other lane and its store stand as they were (R52, R56). -/
theorem does_consistencyCheckEnd_composed (refusal : v.refusal = none) : ∃ n,
    Does (.consistencyCheckEnd l us) s (fun _ _ => mirrorCheck l n) ∧ n.variant = s.m.variant ∧
    (n.lane l.other).sys.mode = (s.m.lane l.other).sys.mode ∧ (n.cur s.mem).mram l.other = s.mem.mram l.other ∧
    (n.lane l).cfg = { (s.m.lane l).cfg with
      shadowDigest := v.digest.getD [], candidate := some v.conf, shadowCounter := v.conf.counter
      meteringChanged := v.meteringChanged, sealOk := v.sealOk, programChanged := v.programChanged } := by
  obtain ⟨variant, mode, store⟩ := composed_judged_keeps (l := l) held s.mem (held.mram l) (s.m.lane l).cfg.shadowSlot
    (s.m.lane l).cfg.delta (slotBytes (held.mram l) (s.m.lane l).cfg.shadowSlot) v
    (clockTo ((s.m.lane l).cfg.enableAt + 1000 * us) s.m.fresh)
  refine ⟨_, (does_consistencyCheckEnd_sound checking own awake hh hv refusal).congr rfl, variant, ?_, store, ?_⟩
  · simpa using mode
  · rw [cfg_composed, cfg_judged, clockTo_lane, fresh_lane]

theorem ends_consistencyCheckEnd_sound (refusal : v.refusal = none) : Ends (.consistencyCheckEnd l us) s fun t =>
    (s.m.variant.nLane = 2 → (s.m.lane l.other).sys.mode ≠ .resync →
      t.mem.mram l.other = s.mem.mram l.other ∧ (t.m.lane l).cfg.state = .checking ∧
      (t.m.lane l).cfg.mirrorWait = true ∧ (t.m.lane l).cfg.stage = 4 ∧ (t.m.lane l).cfg.mirrorAt = t.m.now) ∧
    (s.m.variant.nLane = 1 → (t.m.lane l).cfg.state = .passed ∧ (t.m.lane l).cfg.candidate = some v.conf ∧
      (t.m.lane l).cfg.shadowCounter = v.conf.counter) ∧
    (s.m.variant.nLane = 2 → (s.m.lane l.other).sys.mode = .resync →
      (t.m.lane l).cfg.state = .refused ∧ (t.m.lane l).cfg.reason = 0x0803) := by
  obtain ⟨n, does, variant, mode, store, cfg⟩ := does_consistencyCheckEnd_composed checking own awake hh hv refusal
  refine does.ends ⟨fun two other => ?waits, fun one => ?alone, fun two other => ?resync⟩
  case waits =>
    rw [commit_mem_eq_cur, commit_m, closed_lane, closed_now, mirrorCheck_waits (variant ▸ two) (mode ▸ other),
      cur_of_nvmOut s.mem (updCfg_nvmOut ..), updCfg_cfg, cfg]
    exact ⟨store, checking, rfl, rfl, (updLane_now ..).symm⟩
  case alone =>
    rw [commit_m, closed_lane, mirrorCheck_alone (variant ▸ one), cfg_checkPassed, cfg]
    exact ⟨rfl, rfl, rfl⟩
  case resync =>
    rw [commit_m, closed_lane, mirrorCheck_resync (variant ▸ two) (mode ▸ other), cfg_checkRefused]
    exact ⟨rfl, rfl⟩

/-- The next state of a check's end in a lane that does not rest, by its verdict (R50, R52, R56). -/
theorem ends_consistencyCheckEnd : Ends (.consistencyCheckEnd l us) s fun t =>
    (∀ x, v.refusal = some x → SameStores s t ∧ (t.m.lane l).cfg.state = .refused ∧
      (t.m.lane l).cfg.reason = x.code ∧ (t.m.lane l).cfg.reasonSection = x.sect ∧
      (t.m.lane l).cfg.reasonIndex = x.index ∧ (t.m.lane l).cfg.stage = 0 ∧
      (t.m.lane l).cfg.active = (s.m.lane l).cfg.active) ∧
    (v.refusal = none → s.m.variant.nLane = 2 → (s.m.lane l.other).sys.mode ≠ .resync →
      t.mem.mram l.other = s.mem.mram l.other ∧ (t.m.lane l).cfg.state = .checking ∧
      (t.m.lane l).cfg.mirrorWait = true ∧ (t.m.lane l).cfg.stage = 4 ∧ (t.m.lane l).cfg.mirrorAt = t.m.now) ∧
    (v.refusal = none → s.m.variant.nLane = 1 → (t.m.lane l).cfg.state = .passed ∧
      (t.m.lane l).cfg.candidate = some v.conf ∧ (t.m.lane l).cfg.shadowCounter = v.conf.counter) ∧
    (v.refusal = none → s.m.variant.nLane = 2 → (s.m.lane l.other).sys.mode = .resync →
      (t.m.lane l).cfg.state = .refused ∧ (t.m.lane l).cfg.reason = 0x0803) := by
  cases refusal : v.refusal with
  | some x =>
    obtain ⟨t, next, refused⟩ := ends_consistencyCheckEnd_refused (us := us) checking own awake hh hv refusal
    exact ⟨t, next, fun y e => by cases e; exact refused, nofun, nofun, nofun⟩
  | none =>
    obtain ⟨t, next, waits, alone, resync⟩ :=
      ends_consistencyCheckEnd_sound (us := us) checking own awake hh hv refusal
    exact ⟨t, next, nofun, fun _ => waits, fun _ => alone, fun _ => resync⟩

end

section
variable (checking : (s.m.lane l).cfg.state = .checking) (waits : (s.m.lane l).cfg.mirrorWait = true)
include checking waits

theorem ends_mirrorTimeout : Ends (.mirrorTimeout l) s fun t => SameStores s t ∧ (t.m.lane l).cfg.state = .passed ∧
    (t.m.lane l).cfg.mirrored = false ∧ (t.m.lane l).cfg.reason = 0 ∧
    t.m.now = max s.m.now ((s.m.lane l).cfg.mirrorAt + 50000000) := by
  refine (does_mirrorTimeout checking waits).ends ⟨sameStores_commit (by simp), ?_⟩
  rw [commit_m, closed_lane, cfg_checkPassed]
  exact ⟨rfl, rfl, rfl, by simp [checkPassed, updCfg]⟩

theorem ends_standbyDigestReport (standby : (s.m.lane l.other).sys.mode = .standby) (linked : s.m.laneLink = true) :
    Ends (.standbyDigestReport l) s fun t => t.mem.mram l = s.mem.mram l ∧ (t.m.lane l).cfg.mirrorWait = false ∧
      ((t.m.lane l).cfg.state = .passed ∧ (t.m.lane l).cfg.mirrored = true ∨
       (t.m.lane l).cfg.state = .refused ∧ (t.m.lane l).cfg.reason = 0x0803) := by
  obtain ⟨-, -, store⟩ := mirrorShadow_keeps s.mem l s.m.fresh s.mem
  refine (does_standbyDigestReport checking waits standby linked).ends ?_
  rw [commit_mem_eq_cur, commit_m, closed_lane]
  dsimp only
  split
  · rw [cur_of_nvmOut s.mem (nvmOut_checkPassed ..), store, cfg_checkPassed]
    exact ⟨rfl, rfl, .inl ⟨rfl, rfl⟩⟩
  · rw [cur_of_nvmOut s.mem (nvmOut_checkRefused ..), store, cfg_checkRefused]
    exact ⟨rfl, rfl, .inr ⟨rfl, rfl⟩⟩

end
end

/-- Settles O10: each command by the state of the shadow that it finds, and the end of a check by its verdict. -/
theorem configurationCommandsAct : Obligations.ConfigurationCommandsAct := by
  refine ⟨fun s l v => ⟨fun d => ends_shadowWrite_taken, fun d => ends_shadowWrite_rejected,
      fun h awake loading => ?enable, fun h awake other => (does_cfgEnable_refused h awake other).ends_refused,
      fun new at_ h awake => ends_applyArm h awake, fun h passed => ?passed, fun h state => ?abandon,
      fun h empty => (does_cfgAbandon_empty h empty).ends_refused,
      fun h armed late => (does_cfgAbandon_late h armed late).ends_updCfg⟩,
    fun s l => ⟨fun us => ends_consistencyCheckEnd_resting, fun us checking own awake => ends_consistencyCheckEnd checking own awake rfl rfl,
      ends_mirrorTimeout, ends_standbyDigestReport⟩⟩
  case enable =>
    refine (does_cfgEnable_starts h awake loading).ends ⟨?_, ?_⟩
    · simp [OnlyLane, updCfg]
    · simp
  case passed => exact (does_cfgAbandon_idle h (by simp [passed])).ends_discarded (f := id) (fresh_nvmOut _)
  case abandon =>
    simp only [List.mem_cons, List.not_mem_nil, or_false] at state
    rcases state with (loading | refused | checking) | ⟨armed, open_, early⟩
    · exact (does_cfgAbandon_idle h (by simp [loading])).ends_discarded (f := id) (fresh_nvmOut _)
    · exact (does_cfgAbandon_idle h (by simp [refused])).ends_discarded (f := id) (fresh_nvmOut _)
    · exact ends_cfgAbandon_checking h checking
    · exact (does_cfgAbandon_armed h armed open_ early).ends_discarded (by simp)

end Sys2Proof.Machine
end

section
/-! Transfers between a lane and host memory: the descriptor taken up, and what each operation of a ring does with it (R78,
R109, R267, R327, R388, R464). -/

namespace Sys2Proof.Machine

/-! ### The descriptor taken up (R463) -/

section
variable (m : Module) (l : LaneId) (r : Nat) (d : HostDesc)

/-- A descriptor in execution stands on its ring; every other part of the lane is as it was. -/
theorem lane_inCourse : (inCourse l r d m).lane l = { m.lane l with hst := { (m.lane l).hst with
    rings := upd (m.lane l).hst.rings r fun g => { g with
      cur := some ⟨d.addr, d.len, d.op, d.irq, d.fence, d.param, d.tag⟩, ending := none, outData := []
      firstAt := none } } } :=
  lane_updLane ..

@[simp] theorem inCourse_sys : ((inCourse l r d m).lane l).sys = (m.lane l).sys := by rw [lane_inCourse]

@[simp] theorem inCourse_cfg : ((inCourse l r d m).lane l).cfg = (m.lane l).cfg := by rw [lane_inCourse]

@[simp] theorem inCourse_slv : ((inCourse l r d m).lane l).slv = (m.lane l).slv := by rw [lane_inCourse]

@[simp] theorem inCourse_prg : ((inCourse l r d m).lane l).prg = (m.lane l).prg := by rw [lane_inCourse]

@[simp] theorem inCourse_evr : ((inCourse l r d m).lane l).evr = (m.lane l).evr := by rw [lane_inCourse]

@[simp] theorem inCourse_conf : ((inCourse l r d m).lane l).conf = (m.lane l).conf := by rw [lane_inCourse]; rfl

@[simp] theorem inCourse_task (t : Nat) : ((inCourse l r d m).lane l).task t = (m.lane l).task t := by
  rw [lane_inCourse]; rfl

@[simp] theorem inCourse_variant : (inCourse l r d m).variant = m.variant := updLane_variant ..

end

section
variable {s : State} {l : LaneId} {r op : Nat} {d : HostDesc}

/-- A descriptor that is taken up is in execution, and its operation goes on from there (R462, R463). -/
theorem startDesc_takesUp (up : TakesUp s l r op d) {others : List Nat} (own : op ∉ others) (f : Module → Module) :
    startDesc l r op others d f s.m.fresh = f (inCourse l r d s.m.fresh) := by
  obtain ⟨fetched, rfl, hasRing, addr, words, some_, fits⟩ := up
  have starts : ¬((!s.m.fresh.fetches l r d.fence || others.contains d.op) = true) := by simp [fetched, own]
  have judged : ¬(d.op ≠ d.op ∨ r = 2 ∧ (inCourse l r d s.m.fresh).variant = .nfj2) := by simpa using hasRing
  have sound : ¬(d.addr % 4 ≠ 0 ∨ d.len % 4 ≠ 0 ∨ d.len < 4 ∨ d.len > 4194304) := by omega
  exact (if_neg starts).trans ((if_neg judged).trans (if_neg sound))

/-- The effect of a command that starts a descriptor is that of its operation on the descriptor in execution. -/
theorem does_of_startDesc {i : Instr} {others : List Nat} {f g : Store → Module → Module}
    (b : Does i s fun st m => startDesc l r op others d (f st) m) (up : TakesUp s l r op d)
    (h : f s.mem (inCourse l r d s.m.fresh) = g s.mem s.m.fresh) (own : op ∉ others := by decide) : Does i s g :=
  b.congr ((startDesc_takesUp up own _).trans h)

end

/-! ### Transfers out of the stores (R388, R464) -/

section
variable {s : State} {l : LaneId} {d : HostDesc}

theorem does_activeRead (up : TakesUp s l 0 2 d) (within : d.param + d.len ≤ 12582912) :
    Does (.activeRead l d) s fun st m =>
      let a := imageBase (m.lane l).cfg.activeSlot + d.param
      sendOut l 0 (Memory.reads (st.mram l) a d.len) (nvmRead l a d.len (inCourse l 0 d m)) := by
  refine does_of_startDesc rfl up ((if_neg (by omega)).trans ?_)
  rw [inCourse_cfg]

section
variable (up : TakesUp s l 1 1 d) (records : d.len % 32 = 0) (fits : d.len ≤ 2097152) (number : d.param < 2 ^ 32)
include up records fits number

theorem does_ringRead (held : ((s.m.lane l).evr.head + 1) % 2 ^ 32 ≠ (s.m.lane l).evr.tail) :
    Does (.ringRead l d) s fun st m =>
      let i := d.param % 65536
      let n := min (d.len / 32) (65536 - i)
      let n2 := d.len / 32 - n
      sendOut l 1 (Memory.reads (st.mram l) (ringAddr i) (32 * n) ++ Memory.reads (st.mram l) (ringAddr 0) (32 * n2))
        (nvmRead l (ringAddr 0) (32 * n2) (nvmRead l (ringAddr i) (32 * n) (inCourse l 1 d m))) :=
  does_of_startDesc rfl up ((if_neg (by omega)).trans (if_neg (by simpa using held)))

/-- An empty ring alone has no data to send (assumption 36). -/
theorem does_ringRead_empty (empty : ((s.m.lane l).evr.head + 1) % 2 ^ 32 = (s.m.lane l).evr.tail) :
    Does (.ringRead l d) s fun _ m => ringDone l 1 6 0 [] (inCourse l 1 d m) :=
  does_of_startDesc rfl up ((if_neg (by omega)).trans (if_pos (by simpa using empty)))

end

theorem does_mlogRead (up : TakesUp s l 1 2 d) (slots : d.len % 32 = 0) (within : 32 * d.param + d.len ≤ 0x20000) :
    Does (.mlogRead l d) s fun st m =>
      let a := mlogBase + 32 * d.param
      sendOut l 1 (Memory.reads (st.mram l) a d.len) (nvmRead l a d.len (inCourse l 1 d m)) :=
  does_of_startDesc rfl up (if_neg (by omega))

/-! ### The metering table and firmware's data (R464) -/

/-- What a TABLE transfer sends: time base, number of entries, and the metering entries without header or MAC (R464). -/
def tableBytes (l : LaneId) (m : Module) : Bytes :=
  leBytes 8 m.us ++ leBytes 4 (48 * m.variant.nFd) ++ leBytes 4 0 ++ (readoutBytes m l).drop 128

theorem does_tableOut (up : TakesUp s l 3 2 d) (fits : (tableBytes l (inCourse l 3 d s.m.fresh)).length ≤ d.len) :
    Does (.tableOut l d) s fun _ m => sendOut l 3 (tableBytes l (inCourse l 3 d m)) (inCourse l 3 d m) :=
  does_of_startDesc rfl up (if_neg fits.not_gt)

theorem does_fromFirmware (up : TakesUp s l 7 2 d) (fits : d.len ≤ 65536) :
    Does (.fromFirmware l d) s fun _ m => sendOut l 7 (fitTo d.len d.data) (inCourse l 7 d m) :=
  does_of_startDesc rfl up (if_neg fits.not_gt)

theorem does_toFirmware (up : TakesUp s l 7 1 d) (fits : d.len ≤ 65536) :
    Does (.toFirmware l d) s fun _ m => ringDone l 7 0 d.len [] (inCourse l 7 d m) :=
  does_of_startDesc rfl up (if_neg fits.not_gt)

/-! ### Results and warm-start sets (R78, R109, R464) -/

section
variable {c : Template} (known : (s.m.lane l).conf.tmpl (d.param % 65536) = some c)
include known

section
variable (up : TakesUp s l 2 2 d)
include up

theorem does_resultOut {res : SlvResult} (result : (at? (s.m.lane l).slv.tpls (d.param % 65536 - 1) {}).result = some res)
    (fits : res.bytes.length ≤ d.len) : Does (.resultOut l d) s fun _ m => sendOut l 2 res.bytes (inCourse l 2 d m) := by
  refine does_of_startDesc rfl up ?_
  simp only [inCourse_conf, inCourse_slv, fresh_lane, known, result]
  exact if_neg fits.not_gt

theorem does_resultOut_none (none_ : (at? (s.m.lane l).slv.tpls (d.param % 65536 - 1) {}).result = none) :
    Does (.resultOut l d) s fun _ m => ringDone l 2 6 0 [] (inCourse l 2 d m) := by
  refine does_of_startDesc rfl up ?_
  simp only [inCourse_conf, inCourse_slv, fresh_lane, known, none_]

end

section
variable (up : TakesUp s l 2 1 d)
include up

theorem does_warmIn_unparsed (unparsed : parseWarm (fitTo d.len d.data) = none) :
    Does (.warmIn l d) s fun _ m => ringDone l 2 8 0 [] (inCourse l 2 d m) := by
  refine does_of_startDesc rfl up ?_
  simp only [inCourse_conf, fresh_lane, known, unparsed]

section
variable {x : WarmSet} (parsed : parseWarm (fitTo d.len d.data) = some x)
include parsed

/-- A set that the buffer's layout holds is kept, sound or not, and the descriptor ends by its soundness (R78;
assumption 50). -/
theorem does_warmIn_parsed : Does (.warmIn l d) s fun _ m =>
    let kept := updHst l (fun h => { h with warmPend := some (d.param % 65536, x) }) (inCourse l 2 d m)
    if (x.broken c || decide (x.n > c.warmNMax)) = true then ringDone l 2 8 0 [] kept
    else ringDone l 2 0 d.len [] kept := by
  refine does_of_startDesc rfl up ?_
  simp only [inCourse_conf, fresh_lane, known, parsed]

theorem does_warmIn_sound (sound : x.broken c = false) (fits : x.n ≤ c.warmNMax) :
    Does (.warmIn l d) s fun _ m => ringDone l 2 0 d.len []
      (updHst l (fun h => { h with warmPend := some (d.param % 65536, x) }) (inCourse l 2 d m)) :=
  (does_warmIn_parsed known up parsed).congr (if_neg (by simpa [sound] using fits))

theorem does_warmIn_refused (unsound : x.broken c = true ∨ c.warmNMax < x.n) :
    Does (.warmIn l d) s fun _ m => ringDone l 2 8 0 []
      (updHst l (fun h => { h with warmPend := some (d.param % 65536, x) }) (inCourse l 2 d m)) :=
  (does_warmIn_parsed known up parsed).congr (if_pos (by simpa using unsound))

end
end
end

/-! ### The frame area (R287, R464) -/

section
variable (up : TakesUp s l 4 1 d)
include up

theorem does_instanceRead_blank (blank : (s.m.lane l).sys.mode = .blank) : Does (.instanceRead l d) s fun _ m =>
    ringDone l 4 7 0 [] (inCourse l 4 d m) :=
  does_of_startDesc rfl up (if_pos (by simp [blank]))

section
variable (awake : (s.m.lane l).sys.mode ≠ .blank)
  (within : d.param + d.len ≤ ((s.m.lane l).conf.program.map (·.instBytes)).getD 0)
include awake within

/-- Past its tests a transfer captures the area as it stands, or at the next common boundary of a running program. -/
theorem does_instanceRead : Does (.instanceRead l d) s fun _ m =>
    let L := m.lane l
    let m := inCourse l 4 d m
    if (!L.prg.running) = true then instEnd l L.prg.frames m
    else
      let m := clockTo (max L.prg.t0 (m.gridFrom L.prg.t0 (L.conf.commonUs * 1000) 0)) m
      let busy := (List.range 4).filter fun t => (L.task t).executing
      if busy.isEmpty then instEnd l L.prg.frames m
      else updHst l (fun h => { h with instCap := some (busy, L.prg.frames) }) m := by
  have outside : ¬(d.param + d.len > (((inCourse l 4 d s.m.fresh).lane l).conf.program.map (·.instBytes)).getD 0) := by
    simpa using within
  refine does_of_startDesc rfl up ((if_neg (by simpa using awake)).trans ((if_neg outside).trans ?_))
  simp only [inCourse_conf, inCourse_prg, inCourse_task]

theorem does_instanceRead_still (still : (s.m.lane l).prg.running = false) : Does (.instanceRead l d) s fun _ m =>
    instEnd l (m.lane l).prg.frames (inCourse l 4 d m) :=
  (does_instanceRead up awake within).congr (if_pos (by simp [still]))

theorem does_instanceRead_running (running : (s.m.lane l).prg.running = true) : Does (.instanceRead l d) s fun _ m =>
    let L := m.lane l
    let m := inCourse l 4 d m
    let m := clockTo (max L.prg.t0 (m.gridFrom L.prg.t0 (L.conf.commonUs * 1000) 0)) m
    let busy := (List.range 4).filter fun t => (L.task t).executing
    if busy.isEmpty then instEnd l L.prg.frames m
    else updHst l (fun h => { h with instCap := some (busy, L.prg.frames) }) m :=
  (does_instanceRead up awake within).congr (if_neg (by simp [running]))

end
end

/-! ### Buffers that wait (R267, R327, R464) -/

theorem does_readoutDescriptor (up : TakesUp s l 3 1 d) (fits : s.m.readoutSize ≤ d.len) :
    Does (.readoutDescriptor l d) s fun _ m => readoutGive l (inCourse l 3 d m) :=
  does_of_startDesc rfl up (if_neg (by simpa [Module.readoutSize] using fits))

theorem does_capture (up : TakesUp s l 5 1 d) (entries : d.len % 96 = 0) :
    Does (.capture l d) s fun _ m => inCourse l 5 d m :=
  does_of_startDesc rfl up (if_neg (by omega))

theorem does_telemetry (up : TakesUp s l 6 1 d) (fits : 64 ≤ d.len) :
    Does (.telemetry l d) s fun _ m => inCourse l 6 d m :=
  does_of_startDesc rfl up (if_neg fits.not_gt)

theorem does_captureBufferTimeout {c : Desc} {a : Nat} (waits : ((s.m.lane l).ring 5).cur = some c)
    (open_ : ((s.m.lane l).ring 5).ending = none) (first : ((s.m.lane l).ring 5).firstAt = some a) :
    Does (.captureBufferTimeout l) s fun _ m => ringDone l 5 9 ((m.lane l).ring 5).outData.length
      ((m.lane l).ring 5).outData (clockTo (a + 1000000) m) := by
  have b : Does (.captureBufferTimeout l) s (captureBufferTimeoutBody l) := rfl
  refine b.congr ?_
  simp only [captureBufferTimeoutBody, fresh_lane, waits, open_, first]

/-! ### Telemetry frames (R464, R471) -/

/-- The module at the instant of its lane's next telemetry frame. -/
def telemDue (l : LaneId) (m : Module) : Module := clockTo ((m.lane l).hst.telemAt + (m.lane l).hst.telemMs * 1000000) m

/-- The module at that instant with the frame counted. -/
def telemTold (l : LaneId) (m : Module) : Module := updHst l (fun h => { h with
  telemAt := (telemDue l m).now, telemCount := (h.telemCount + 1) % 2 ^ 32 }) (telemDue l m)

/-- Counting a frame leaves every ring as it is. -/
theorem ring_telemTold (m : Module) (r : Nat) : ((telemTold l m).lane l).ring r = (m.lane l).ring r := by
  simp [telemTold, telemDue, updHst, Lane.ring]

section
variable (active : s.m.active l = true)
include active

/-- A frame goes to the buffer that waits for it, or is dropped and counted; frames follow each other by their period
(assumption 36). -/
theorem does_telemetryTick : Does (.telemetryTick l) s fun _ m =>
    if (((m.lane l).ring 6).cur.isSome && ((m.lane l).ring 6).ending.isNone) = true then
      sendOut l 6 (telemFrame (telemDue l m) l) (telemTold l m)
    else ringDrop l 6 1 (telemTold l m) := by
  have b : Does (.telemetryTick l) s (telemetryTickBody l) := rfl
  refine b.congr ((if_neg (by simp [active])).trans ?_)
  rw [← ring_telemTold s.m.fresh 6]
  rfl

theorem does_telemetryTick_sent (waits : ((s.m.lane l).ring 6).cur.isSome = true)
    (open_ : ((s.m.lane l).ring 6).ending = none) :
    Does (.telemetryTick l) s fun _ m => sendOut l 6 (telemFrame (telemDue l m) l) (telemTold l m) :=
  (does_telemetryTick active).congr (if_pos (by simp [waits, open_]))

theorem does_telemetryTick_dropped
    (closed : ((s.m.lane l).ring 6).cur = none ∨ ((s.m.lane l).ring 6).ending.isSome = true) :
    Does (.telemetryTick l) s fun _ m => ringDrop l 6 1 (telemTold l m) := by
  refine (does_telemetryTick active).congr (if_neg ?_)
  rw [fresh_lane]
  rcases closed with none_ | ended
  · simp [none_]
  · simp [Option.isNone_eq_false_iff.mpr ended]

end
end

/-- Settles O50: each descriptor that is taken up by its operation and its bounds, and each buffer by what fills it. -/
theorem transfersAct : Obligations.TransfersAct :=
  ⟨fun _ _ _ => ⟨does_activeRead,
    fun up records fits number => ⟨does_ringRead up records fits number, does_ringRead_empty up records fits number⟩,
    does_mlogRead, fun _ _ up known => does_resultOut known up, fun _ up known => does_resultOut_none known up,
    does_tableOut, fun up awake still within => does_instanceRead_still up awake within still,
    fun up awake running within => does_instanceRead_running up awake within running, does_instanceRead_blank,
    does_fromFirmware⟩,
  fun _ _ _ => ⟨fun _ _ up known => does_warmIn_sound known up, fun _ _ up known => does_warmIn_refused known up,
    fun _ up known => does_warmIn_unparsed known up, does_toFirmware, does_readoutDescriptor, does_capture,
    does_telemetry, fun _ _ => does_captureBufferTimeout,
    fun active => ⟨does_telemetryTick_sent active, does_telemetryTick_dropped active⟩⟩⟩

end Sys2Proof.Machine
end

section
/-! What the end of a job, a suspicion and a retirement change of a solver die (R102, R111, R119, R120). -/

namespace Sys2Proof.Machine

/-! ### The solver dies -/

theorem updSd_updSd (m : Module) (d : Nat) (f g : SolverDie → SolverDie) :
    (m.updSd d f).updSd d g = m.updSd d fun x => g (f x) := by
  simp [Module.updSd, upd, List.modify_modify_eq, Function.comp_def]

/-- Of a change to a solver die only what it does to the die as it stands counts. -/
theorem updSd_congr {m : Module} {d : Nat} {f g : SolverDie → SolverDie} (h : f (m.sd d) = g (m.sd d)) :
    m.updSd d f = m.updSd d g := by
  have same : upd m.sds d f = upd m.sds d g := upd_eq_upd fun x hx => by simpa [Module.sd, at?, hx] using h
  simp [Module.updSd, same]

/-- A solver die with power is one of the module's. -/
theorem lt_of_sd_powered {m : Module} {d : Nat} (h : (m.sd d).powered = true) : d < m.sds.length := by
  by_contra out
  simp [Module.sd, at?, out] at h

theorem testing_of_blank {x y : SolverDie} (h : x.blank = y.blank) : x.testing = y.testing :=
  (congrArg SolverDie.testing h :)

theorem retired_of_blank {x y : SolverDie} (h : x.blank = y.blank) : x.retired = y.retired :=
  (congrArg SolverDie.retired h :)

theorem suspect_of_blank {x y : SolverDie} (h : x.blank = y.blank) : x.suspect = y.suspect :=
  (congrArg SolverDie.suspect h :)

theorem selftestReq_of_blank {x y : SolverDie} (h : x.blank = y.blank) : x.selftestReq = y.selftestReq :=
  (congrArg SolverDie.selftestReq h :)

theorem slv_of_blank {L K : Lane} (h : L.blank = K.blank) : L.slv.tpls = K.slv.tpls ∧ L.slv.jobs = K.slv.jobs :=
  ⟨(congrArg (·.slv.tpls) h :), (congrArg (·.slv.jobs) h :)⟩

section
variable (d b c x y z : Nat) (m : Module)

@[simp] theorem reportSd_nvmOut : (reportSd d b c x y z m).nvmOut = m.nvmOut := by simp [reportSd, reportAs]

@[simp] theorem reportSd_sds : (reportSd d b c x y z m).sds = m.sds := by simp [reportSd, reportAs]

@[simp] theorem reportSd_sd (e : Nat) : (reportSd d b c x y z m).sd e = m.sd e := by simp [reportSd, reportAs]

end

/-! ### A die freed of its running job (R102, R122, R441) -/

/-- A die once its running job is gone: parked where that is asked for, asleep where nothing waits. -/
def SolverDie.freed (x : SolverDie) : SolverDie :=
  if x.parkReq && x.state != .outOfService then
    { x with run := none, collector := [], heldDone := [], state := .parked, parkReq := false }
  else if x.queue = [] ∧ x.suspect = [] then
    if x.state == .active || x.state == .waking then
      { x with run := none, collector := [], heldDone := [], state := .asleep }
    else { x with run := none, collector := [], heldDone := [] }
  else { x with run := none, collector := [], heldDone := [] }

theorem freed_engines (x : SolverDie) :
    x.freed.retired = x.retired ∧ x.freed.suspect = x.suspect ∧ x.freed.testing = x.testing := by
  unfold SolverDie.freed
  split_ifs <;> exact ⟨rfl, rfl, rfl⟩

theorem freed_asleep {x : SolverDie} (asleep : x.state = .asleep) (park : x.parkReq = false) :
    x.freed.state = .asleep := by
  simp [SolverDie.freed, asleep, park]

section
variable {m : Module} {sd : Nat} (hsd : sd < m.sds.length)
include hsd

theorem blank_sdFree : (sdFree sd m).blank = (m.updSd sd SolverDie.freed).blank := by
  simp only [sdFree, sd_updSd m sd _ hsd]
  split_ifs with park idle
  · simp only [blank_slvWatch, blank_domRequest, blank_domRequests, updSd_updSd]
    exact congrArg Module.blank (updSd_congr (by simp only [SolverDie.freed, if_pos park]))
  · simp only [blank_slvWatch, blank_askBanks, blank_domRequests, updSd_updSd]
    exact congrArg Module.blank (updSd_congr (by simp only [SolverDie.freed, if_neg park, if_pos idle]))
  · rw [blank_slvWatch]
    exact congrArg Module.blank (updSd_congr (by simp only [SolverDie.freed, if_neg park, if_neg idle]))

theorem sd_sdFree : ((sdFree sd m).sd sd).blank = (m.sd sd).freed.blank := by
  rw [sd_of_blank (blank_sdFree hsd) sd, sd_updSd m sd _ hsd]

theorem nvmOut_sdFree : (sdFree sd m).nvmOut = m.nvmOut :=
  (nvmOut_of_blank (blank_sdFree hsd)).trans (updSd_nvmOut ..)

end

/-! ### Engines under suspicion and out of service -/

/-- Nothing is programmed, and the engines of a die are in and out of service, and under suspicion, as before. -/
def KeepsEngines (sd : Nat) (n m : Module) : Prop :=
  n.nvmOut = m.nvmOut ∧ (n.sd sd).retired = (m.sd sd).retired ∧ (n.sd sd).suspect = (m.sd sd).suspect

theorem keepsEngines_of_blank {n m : Module} (sd : Nat) (h : n.blank = m.blank) : KeepsEngines sd n m :=
  ⟨nvmOut_of_blank h, retired_of_blank (sd_of_blank h sd), suspect_of_blank (sd_of_blank h sd)⟩

section
variable {m : Module} {sd : Nat} (hsd : sd < m.sds.length)
include hsd

theorem keepsEngines_sdFree : KeepsEngines sd (sdFree sd m) m := by
  obtain ⟨retired, suspect, -⟩ := freed_engines (m.sd sd)
  exact ⟨nvmOut_sdFree hsd, (retired_of_blank (sd_sdFree hsd)).trans retired,
    (suspect_of_blank (sd_sdFree hsd)).trans suspect⟩

theorem keepsEngines_testedFree : KeepsEngines sd (testedFree sd m) m := by
  simp only [testedFree]
  split
  · have kept := keepsEngines_sdFree (m := m.updSd sd fun x => { x with state := .asleep }) (by simpa using hsd)
    simpa [KeepsEngines, hsd] using kept
  · exact keepsEngines_of_blank sd (blank_slvWatch m)

end

/-! ### Engines marked suspect (R111, R119) -/

/-- One engine marked suspect, and recorded where it was not. -/
def suspectEngine (sd e : Nat) (m : Module) : Module :=
  if (m.sd sd).suspect.contains e then m
  else reportSd sd 4 0x200A (2 + sd) e 0 (m.updSd sd fun x => { x with suspect := x.suspect ++ [e] })

theorem markSuspect_eq (sd : Nat) (es : List Nat) (m : Module) :
    markSuspect sd es m = forEach es (suspectEngine sd) m := rfl

section
variable (sd e : Nat) (m : Module)

theorem length_sds_suspectEngine : (suspectEngine sd e m).sds.length = m.sds.length := by
  unfold suspectEngine
  split <;> simp

theorem nvmOut_suspectEngine : (suspectEngine sd e m).nvmOut = m.nvmOut := by
  unfold suspectEngine
  split <;> simp

theorem selftestReq_suspectEngine : ((suspectEngine sd e m).sd sd).selftestReq = (m.sd sd).selftestReq := by
  unfold suspectEngine
  split
  · rfl
  · rw [reportSd_sd]
    rcases sd_updSd_or m sd fun x => { x with suspect := x.suspect ++ [e] } with h | h <;> rw [h]

end

theorem mem_suspect_suspectEngine {m : Module} {sd : Nat} (hsd : sd < m.sds.length) (e k : Nat) :
    k ∈ ((suspectEngine sd e m).sd sd).suspect ↔ k = e ∨ k ∈ (m.sd sd).suspect := by
  unfold suspectEngine
  split
  case isTrue known =>
    have mem : e ∈ (m.sd sd).suspect := by simpa using known
    exact ⟨.inr, fun h => h.elim (fun same => same ▸ mem) id⟩
  case isFalse => simp [hsd, or_comm]

theorem mem_suspect_markSuspect {m : Module} {sd : Nat} (hsd : sd < m.sds.length) (es : List Nat) (k : Nat) :
    k ∈ ((markSuspect sd es m).sd sd).suspect ↔ k ∈ es ∨ k ∈ (m.sd sd).suspect := by
  rw [markSuspect_eq]
  induction es generalizing m with
  | nil => simp
  | cons e es ih =>
    rw [forEach_cons, ih ((length_sds_suspectEngine sd e m).symm ▸ hsd), mem_suspect_suspectEngine hsd, List.mem_cons]
    tauto

theorem nvmOut_markSuspect (sd : Nat) (es : List Nat) (m : Module) : (markSuspect sd es m).nvmOut = m.nvmOut :=
  forEach_part (·.nvmOut) es _ (nvmOut_suspectEngine sd) m

theorem selftestReq_markSuspect (sd : Nat) (es : List Nat) (m : Module) :
    ((markSuspect sd es m).sd sd).selftestReq = (m.sd sd).selftestReq :=
  forEach_part (fun m => (m.sd sd).selftestReq) es _ (selftestReq_suspectEngine sd) m

/-! ### An engine retired (R120) -/

theorem loseJobs_eq (sd : Nat) (m : Module) : loseJobs sd m =
    (m.updSd sd fun x => { x with queue := [], run := none, collector := [], heldDone := [] }).withMail
      (m.mail.filter fun x => x.src != 2 + sd && x.dst != 2 + sd) := rfl

theorem retireEngine_spec {m : Module} {sd : Nat} (hsd : sd < m.sds.length) (e : Nat) :
    (retireEngine sd e m).nvmOut = m.nvmOut ∧ (retireEngine sd e m).sds.length = m.sds.length ∧
      ((retireEngine sd e m).sd sd).retired = (m.sd sd).retired ++ [e] ∧
      ((retireEngine sd e m).sd sd).suspect = (m.sd sd).suspect.filter (· != e) := by
  simp only [retireEngine]
  generalize (if e = 16 then (m.sd sd).spare.isSome else (m.sd sd).spare.isSome || (m.sd sd).retired.contains 16) = out
  cases out
  case false => simp [hsd]
  case true => simp [loseJobs_eq, hsd]

end Sys2Proof.Machine
end

section
/-! Jobs as their lane sees them end: the copy of a result, the deadline of an open job and its abort (R102, R106, R112,
R114). -/

namespace Sys2Proof.Machine

/-! ### The lane's view of a template after an ending (R106 to R108) -/

/-- A template's view once its job has ended without a commit. -/
def TplView.ended (e : JobEnd) (v : TplView) : TplView := { v with
  status := e.status, flags := e.flags, iter := e.iterations, rho := e.rho.getD v.rho
  pivotCount := e.pivotCount, pivotFirst := e.pivotFirst, firstBad := e.firstBad
  miss := if e.status = 6 then sat max32 (v.miss + 1) else v.miss, committed := false }

section
variable (l : LaneId) (req seq : Nat) (e : JobEnd) (m : Module)

theorem blank_viewEnd : (viewEnd l req seq e m).blank = (updTpl l req (TplView.ended e) (closeJob l seq m)).blank := by
  simp only [viewEnd]
  split
  · exact blank_raise ..
  · rfl

theorem slv_viewEnd : ((viewEnd l req seq e m).lane l).slv.tpls =
      upd (m.lane l).slv.tpls (req - 1) (TplView.ended e) ∧
    ((viewEnd l req seq e m).lane l).slv.jobs = (m.lane l).slv.jobs.filter (·.seq != seq) := by
  obtain ⟨tpls, jobs⟩ := slv_of_blank (lane_of_blank (blank_viewEnd l req seq e m) l)
  rw [tpls, jobs]
  simp [updTpl, closeJob]

theorem nvmOut_viewEnd : (viewEnd l req seq e m).nvmOut = m.nvmOut :=
  (nvmOut_of_blank (blank_viewEnd ..)).trans (by simp [updTpl, closeJob])

theorem now_viewEnd : (viewEnd l req seq e m).now = m.now :=
  (now_of_blank (blank_viewEnd ..)).trans (by simp [updTpl, closeJob])

end

@[simp] theorem status_lostEnd (l : LaneId) (o : OpenJob) (status p2 : Nat) (m : Module) :
    (lostEnd l o status p2 m).status = status := by
  simp only [lostEnd]
  split <;> rfl

section
variable (l : LaneId) (seq : Nat) (m : Module)

@[simp] theorem recallJob_lane (k : LaneId) : (recallJob l seq m).lane k = m.lane k := by cases k <;> rfl

@[simp] theorem recallJob_sd (d : Nat) : (recallJob l seq m).sd d = m.sd d := rfl

@[simp] theorem recallJob_nvmOut : (recallJob l seq m).nvmOut = m.nvmOut := rfl

@[simp] theorem recallJob_now : (recallJob l seq m).now = m.now := rfl

end

/-! ### The commands -/

section
variable {s : State} {l : LaneId} {v : View} {sd k : Nat} {o : OpenJob}

theorem does_resultCopyDone {r : Nat × SlvResult} (up : at? (s.m.lane l).slv.linkUp sd false = true)
    (found : (s.m.sd sd).results.find? (fun r => !(at? (s.m.lane l).slv.tpls (r.1 - 1) {}).copied &&
      (at? (s.m.lane l).slv.tpls (r.1 - 1) {}).result == some r.2) = some r) :
    Does (.resultCopyDone l sd) s fun _ m => updTpl l r.1 (fun x => { x with copied := true }) m := by
  have d : Does (.resultCopyDone l sd) s (resultCopyDoneBody l sd) := rfl
  refine d.congr ?_
  simp only [resultCopyDoneBody, fresh_lane, fresh_sd, up, found, Bool.not_true, Bool.false_eq_true, if_false]

section
variable (known : (s.m.lane l).slv.jobs.find? (·.requested == k) = some o)
include known

theorem does_deadlineExpiry_queued {j : SlvJob}
    (queued : ((s.m.sd (o.die.getD 2)).queue.find? fun j => j.seq == o.seq && j.lane == l) = some j) :
    Does (.deadlineExpiry l k) s fun _ m =>
      endQueued (o.die.getD 2) j { status := 6 } (recallJob l o.seq (clockTo (o.deadlineUs * 1000) m)) := by
  have d : Does (.deadlineExpiry l k) s (deadlineExpiryBody l k) := rfl
  exact d.congr (by simp [deadlineExpiryBody, known, queued])

variable (gone : ((s.m.sd (o.die.getD 2)).queue.find? fun j => j.seq == o.seq && j.lane == l) = none)
include gone

theorem does_deadlineExpiry_running {r : SlvRun} (run : (s.m.sd (o.die.getD 2)).run = some r) (seq : r.job.seq = o.seq)
    (own : r.job.lane = l) : Does (.deadlineExpiry l k) s fun _ m =>
      endRun (o.die.getD 2) (r.ending 6 r.it.i none) (recallJob l o.seq (clockTo (o.deadlineUs * 1000) m)) := by
  have d : Does (.deadlineExpiry l k) s (deadlineExpiryBody l k) := rfl
  exact d.congr (by simp [deadlineExpiryBody, known, gone, run, seq, own])

/-- The deadline of an open job that no die holds passes: the lane ends it by itself (R102). -/
theorem does_deadlineExpiry_lost
    (other : ∀ r, (s.m.sd (o.die.getD 2)).run = some r → ¬(r.job.seq = o.seq ∧ r.job.lane = l)) :
    Does (.deadlineExpiry l k) s fun _ m =>
      let m := recallJob l o.seq (clockTo (o.deadlineUs * 1000) m)
      report l 4 0x2001 o.requested o.seq 0 (viewEnd l o.requested o.seq (lostEnd l o 6 0 m) m) := by
  have d : Does (.deadlineExpiry l k) s (deadlineExpiryBody l k) := rfl
  refine d.congr ?_
  cases run : (s.m.sd (o.die.getD 2)).run with
  | none => simp [deadlineExpiryBody, known, gone, run]
  | some r => simp [deadlineExpiryBody, known, gone, run, other r run]

end

theorem does_slvAbort_one {w : Word} (h : Heard s l v) (one : bitOf w 31 = false) :
    Does (.slvAbort l v w) s fun _ m => abortTemplate l .register (fld w 15 0) m :=
  Does.congr (does_of_guardWrite h rfl) (by simp [one])

theorem does_slvAbort_all {w : Word} (h : Heard s l v) (all : bitOf w 31 = true) :
    Does (.slvAbort l v w) s fun _ m => abortAll l .register m :=
  Does.congr (does_of_guardWrite h rfl) (by simp [all])

theorem does_slvAbortAll (h : Heard s l v) : Does (.slvAbortAll l v) s fun _ m => abortAll l .register m :=
  does_of_guardWrite h rfl

end

/-- A running job latches the abort, the first that is asked for (R114). -/
theorem abortTemplate_running {m : Module} {l : LaneId} {src : AbortSrc} {k : Nat} {o : OpenJob} {r : SlvRun}
    (known : (m.lane l).slv.jobs.find? (·.requested == k) = some o) (run : (m.sd (o.die.getD 2)).run = some r)
    (seq : r.job.seq = o.seq) (own : r.job.lane = l) : abortTemplate l src k m =
      updRun (o.die.getD 2) (fun r => { r with job := { r.job with abort := some (r.job.abort.getD src) } }) m := by
  simp [abortTemplate, known, run, seq, own]

/-! ### The next states -/

section
variable {s : State} {l : LaneId} {v : View} {sd k : Nat} {o : OpenJob}

theorem ends_resultCopyDone {r : Nat × SlvResult} (up : at? (s.m.lane l).slv.linkUp sd false = true)
    (found : (s.m.sd sd).results.find? (fun r => !(at? (s.m.lane l).slv.tpls (r.1 - 1) {}).copied &&
      (at? (s.m.lane l).slv.tpls (r.1 - 1) {}).result == some r.2) = some r) :
    Ends (.resultCopyDone l sd) s fun t => OnlyLane l s t ∧
      (t.m.lane l).slv.tpls = upd (s.m.lane l).slv.tpls (r.1 - 1) fun x => { x with copied := true } := by
  refine (does_resultCopyDone up found).ends ⟨?_, ?_⟩
  · simp [OnlyLane, updTpl]
  · simp [updTpl]

/-- An open job that no die holds ends LATE at its deadline, and is counted (R102, R106). -/
theorem ends_deadlineExpiry_lost (known : (s.m.lane l).slv.jobs.find? (·.requested == k) = some o)
    (idle : (s.m.sd (o.die.getD 2)).run = none) (empty : (s.m.sd (o.die.getD 2)).queue = [])
    (hk : k - 1 < (s.m.lane l).slv.tpls.length) :
    Ends (.deadlineExpiry l k) s fun t => SameStores s t ∧ t.m.now = max s.m.now (o.deadlineUs * 1000) ∧
      (t.m.lane l).slv.jobs = (s.m.lane l).slv.jobs.filter (·.seq != o.seq) ∧
      (at? (t.m.lane l).slv.tpls (k - 1) {}).status = 6 ∧
      (at? (t.m.lane l).slv.tpls (k - 1) {}).miss = sat max32 ((at? (s.m.lane l).slv.tpls (k - 1) {}).miss + 1) := by
  have named : o.requested = k := by simpa using List.find?_some known
  refine (does_deadlineExpiry_lost known (by simp [empty]) (by simp [idle])).ends ⟨⟨?_, rfl⟩, ?_⟩
  · exact commit_mem_of_quiet _ _ (by simp [nvmOut_viewEnd])
  · simp [now_viewEnd, slv_viewEnd, named, hk, TplView.ended]

theorem does_slvAbort_running {w : Word} {r : SlvRun} (h : Heard s l v) (one : bitOf w 31 = false)
    (known : (s.m.lane l).slv.jobs.find? (·.requested == fld w 15 0) = some o)
    (run : (s.m.sd (o.die.getD 2)).run = some r) (seq : r.job.seq = o.seq) (own : r.job.lane = l) :
    Does (.slvAbort l v w) s fun _ m => updRun (o.die.getD 2)
      (fun y => { y with job := { y.job with abort := some (y.job.abort.getD .register) } }) m :=
  (does_slvAbort_one h one).congr (abortTemplate_running (by simpa using known) (by simpa using run) seq own)

theorem ends_slvAbort_running {w : Word} {r : SlvRun} (h : Heard s l v) (one : bitOf w 31 = false)
    (known : (s.m.lane l).slv.jobs.find? (·.requested == fld w 15 0) = some o)
    (run : (s.m.sd (o.die.getD 2)).run = some r) (seq : r.job.seq = o.seq) (own : r.job.lane = l)
    (first : r.job.abort = none) :
    Ends (.slvAbort l v w) s fun t => SameStores s t ∧ t.m.lane l = s.m.lane l ∧
      t.m.sds = upd s.m.sds (o.die.getD 2) fun x => { x with
        run := x.run.map fun y => { y with job := { y.job with abort := some .register } } } := by
  refine (does_slvAbort_running h one known run seq own).ends ⟨⟨?_, rfl⟩, ?_, ?_⟩
  · exact commit_mem_of_quiet _ _ (by simp [updRun])
  · simp [updRun]
  · refine upd_eq_upd (xs := s.m.sds) fun x hx => ?_
    have running : x.run = some r := by simpa [Module.sd, at?, hx] using run
    simp [running, first]

end
end Sys2Proof.Machine
end

section
/-! Self-tests of a solver die's engines: their request and their ends (R119, R120). -/

namespace Sys2Proof.Machine

/-! ### The request -/

/-- A die under self-test on request: every engine in service is marked suspect (R119). -/
def testRequested (sd : Nat) (m : Module) : Module :=
  markSuspect sd ((List.range 17).filter fun e => !(m.sd sd).retired.contains e)
    (m.updSd sd fun x => { x with selftestReq := true })

theorem testRequested_spec {m : Module} {sd : Nat} (hsd : sd < m.sds.length) :
    (testRequested sd m).nvmOut = m.nvmOut ∧ ((testRequested sd m).sd sd).selftestReq = true ∧
      ∀ e, e < 17 → e ∉ (m.sd sd).retired → e ∈ ((testRequested sd m).sd sd).suspect := by
  have hsd' : sd < (m.updSd sd fun x => { x with selftestReq := true }).sds.length := by simpa using hsd
  refine ⟨?_, ?_, fun e he service => ?_⟩
  · simp [testRequested, nvmOut_markSuspect]
  · simp [testRequested, selftestReq_markSuspect, hsd]
  · rw [testRequested, mem_suspect_markSuspect hsd']
    exact .inl (by simp [he, service])

/-- A request taken by its die: its engines are woken for their tests where no job keeps them (R119). -/
def takeRequest (l : LaneId) (sd : Nat) (m : Module) : Module :=
  if (m.sd sd).run.isNone && (m.sd sd).queue.isEmpty && ((m.sd sd).state == .asleep || (m.sd sd).state == .active) then
    slvWatch (domRequests l (2 + sd) engDoms .on (testRequested sd m))
  else testRequested sd m

theorem blank_takeRequest (l : LaneId) (sd : Nat) (m : Module) :
    (takeRequest l sd m).blank = (testRequested sd m).blank := by
  unfold takeRequest
  split
  · simp
  · rfl

section
variable {s : State} {l : LaneId} {v : View} {sd : Nat} (h : Heard s l v) (selected : (s.m.sel l v).slvDie = sd)
  (reached : s.m.sdReach l sd = true) (claim : mkClaim (claimEpoch (s.m.lane l).red.claim) l = (s.m.sd sd).claim)
  (active : s.m.active l = true)
include h selected reached claim active

theorem does_selftestRequest : Does (.selftestRequest l v) s fun _ m => takeRequest l sd m := by
  have d : Does (.selftestRequest l v) s (selftestRequestBody l v) := rfl
  have fitted : sd < s.m.variant.nSd := by
    simp only [Module.sdReach, Bool.and_eq_true, decide_eq_true_eq] at reached
    exact reached.1.1
  refine d.congr ?_
  rw [selftestRequestBody, fresh_sel, selected, sdWrite, guardWrite_pass _ (by simp [h.1]) (by simp [h.2])]
  simp only [fresh_variant, fresh_sdReach, reached, fresh_lane, fresh_sd, claim, fresh_active, active]
  rw [if_neg (by omega), if_neg (by simp), if_neg (by simp)]
  rfl

theorem ends_selftestRequest (hsd : sd < s.m.sds.length) :
    Ends (.selftestRequest l v) s fun t => SameStores s t ∧ (t.m.sd sd).selftestReq = true ∧
      ∀ e, e < 17 → e ∉ (s.m.sd sd).retired → e ∈ (t.m.sd sd).suspect := by
  obtain ⟨quiet, requested, suspect⟩ := testRequested_spec (m := s.m.fresh) (by simpa using hsd)
  have same := blank_takeRequest l sd s.m.fresh
  refine (does_selftestRequest h selected reached claim active).ends ⟨⟨?_, rfl⟩, ?_, fun e he service => ?_⟩
  · exact commit_mem_of_quiet _ _ ((nvmOut_of_blank same).trans (by simp [quiet]))
  · rw [commit_m, closed_sd, selftestReq_of_blank (sd_of_blank same sd), requested]
  · rw [commit_m, closed_sd, suspect_of_blank (sd_of_blank same sd)]
    exact suspect e he (by simpa using service)

end

/-! ### The end of an engine's test -/

/-- A self-test request once no engine is under suspicion any more (R119). -/
def SolverDie.requestMet (x : SolverDie) : SolverDie := if x.suspect.isEmpty then { x with selftestReq := false } else x

theorem requestMet_keeps (x : SolverDie) : x.requestMet = { x with selftestReq := x.requestMet.selftestReq } := by
  unfold SolverDie.requestMet
  split <;> rfl

section
variable (x : SolverDie)

@[simp] theorem requestMet_state : x.requestMet.state = x.state := by rw [requestMet_keeps]

@[simp] theorem requestMet_run : x.requestMet.run = x.run := by rw [requestMet_keeps]

@[simp] theorem requestMet_retired : x.requestMet.retired = x.retired := by rw [requestMet_keeps]

@[simp] theorem requestMet_suspect : x.requestMet.suspect = x.suspect := by rw [requestMet_keeps]

@[simp] theorem requestMet_testing : x.requestMet.testing = x.testing := by rw [requestMet_keeps]

@[simp] theorem requestMet_parkReq : x.requestMet.parkReq = x.parkReq := by rw [requestMet_keeps]

@[simp] theorem requestMet_doms : x.requestMet.doms = x.doms := by rw [requestMet_keeps]

end

/-- What the test of an engine finds on a die that went into it as `x`: the engine is retired, or suspect no more (R119,
R120). -/
def judgeEngine (x : SolverDie) (sd e : Nat) (pass : Bool) (m : Module) : Module :=
  if x.retired.contains e then m
  else if !pass then retireEngine sd e m
  else if x.suspect.contains e then
    reportSd sd 4 0x200B (2 + sd) e 0 (m.updSd sd fun x => { x with suspect := x.suspect.filter (· != e) })
  else m

/-- A die with one engine's test over, before what was found. -/
def dropTest (sd e : Nat) (m : Module) : Module := m.updSd sd fun x => { x with testing := x.testing.filter (· != e) }

section
variable (sd e : Nat) (m : Module)

@[simp] theorem dropTest_nvmOut : (dropTest sd e m).nvmOut = m.nvmOut := updSd_nvmOut ..

@[simp] theorem length_sds_dropTest : (dropTest sd e m).sds.length = m.sds.length := length_sds_updSd ..

@[simp] theorem sd_dropTest (hsd : sd < m.sds.length) :
    (dropTest sd e m).sd sd = { m.sd sd with testing := (m.sd sd).testing.filter (· != e) } :=
  sd_updSd m sd _ hsd

end

/-- A die with one engine's test over and judged. -/
def engineTested (sd e : Nat) (pass : Bool) (m : Module) : Module :=
  (judgeEngine (m.sd sd) sd e pass (dropTest sd e m)).updSd sd SolverDie.requestMet

/-- A die asleep after the last engine of its full self-test. -/
def testedAsleep (sd e : Nat) (m : Module) : Module :=
  ((dropTest sd e m).updSd sd SolverDie.requestMet).updSd sd fun x => { x with state := .asleep }

/-- What a die does once an engine's test is over (R119). -/
def afterTest (sd : Nat) (m : Module) : Module :=
  if (m.sd sd).state == .selfTest then testedFree sd m
  else if (m.sd sd).state != .selfTest && (m.sd sd).run.isNone then sdFree sd m
  else slvWatch m

theorem keepsEngines_afterTest {m : Module} {sd : Nat} (hsd : sd < m.sds.length) :
    KeepsEngines sd (afterTest sd m) m := by
  unfold afterTest
  split_ifs
  · exact keepsEngines_testedFree hsd
  · exact keepsEngines_sdFree hsd
  · exact keepsEngines_of_blank sd (blank_slvWatch m)


theorem judgeEngine_passed {x : SolverDie} {e : Nat} (service : e ∉ x.retired) (under : e ∈ x.suspect) (sd : Nat)
    (m : Module) : judgeEngine x sd e true m =
      reportSd sd 4 0x200B (2 + sd) e 0 (m.updSd sd fun x => { x with suspect := x.suspect.filter (· != e) }) := by
  simp [judgeEngine, service, under]

theorem judgeEngine_unsuspected {x : SolverDie} {e : Nat} (clear : e ∉ x.suspect) (sd : Nat) (m : Module) :
    judgeEngine x sd e true m = m := by
  simp [judgeEngine, clear]

theorem judgeEngine_failed {x : SolverDie} {e : Nat} (service : e ∉ x.retired) (sd : Nat) (m : Module) :
    judgeEngine x sd e false m = retireEngine sd e m := by
  simp [judgeEngine, service]

/-- A die without a job that is in no full self-test is free again once a suspect engine is tested. -/
theorem afterTest_idle {m : Module} {sd : Nat} (single : (m.sd sd).state ≠ .selfTest) (idle : (m.sd sd).run = none) :
    afterTest sd m = sdFree sd m := by
  simp [afterTest, single, idle]

/-- The last test of a full self-test puts its die to sleep, once its domains are released (R119). -/
theorem afterTest_last {m : Module} {sd : Nat} (full : (m.sd sd).state = .selfTest) (last : (m.sd sd).testing = [])
    (released : (m.sd sd).released = true) :
    afterTest sd m = sdFree sd (m.updSd sd fun x => { x with state := .asleep }) := by
  simp [afterTest, testedFree, full, last, released]

section
variable {s : State} {sd e : Nat} (fitted : sd < s.m.variant.nSd) (powered : (s.m.sd sd).powered = true)
include fitted powered

/-- The test of an engine that is due, in a full self-test (R119). -/
theorem does_selfTestEnd_full (pass : Bool) (full : (s.m.sd sd).state = .selfTest) (due : e ∈ (s.m.sd sd).testing) :
    Does (.selfTestEnd sd e pass) s fun _ m => afterTest sd (engineTested sd e pass m) := by
  have d : Does (.selfTestEnd sd e pass) s (selfTestEndBody sd e pass) := rfl
  refine d.congr ?_
  rw [selfTestEndBody, if_neg (by simp [powered, full, due, fitted])]
  rfl

/-- The test of a suspect engine on a die without a job (R120). -/
theorem does_selfTestEnd_single (pass : Bool) (state : (s.m.sd sd).state ∈ [.asleep, .waking, .active])
    (suspect : e ∈ (s.m.sd sd).suspect) (empty : (s.m.sd sd).queue = []) (idle : (s.m.sd sd).run = none) :
    Does (.selfTestEnd sd e pass) s fun _ m => afterTest sd (engineTested sd e pass m) := by
  have d : Does (.selfTestEnd sd e pass) s (selfTestEndBody sd e pass) := rfl
  refine d.congr ?_
  simp only [List.mem_cons, List.not_mem_nil, or_false] at state
  rw [selfTestEndBody, if_neg (by rcases state with h | h | h <;> simp [powered, h, suspect, empty, idle, fitted])]
  rfl

/-- A suspect engine that passes on a die without a job is suspect no more, and the die is free again (R119). -/
theorem does_selfTestEnd_passed (state : (s.m.sd sd).state ∈ [.asleep, .waking, .active])
    (suspect : e ∈ (s.m.sd sd).suspect) (empty : (s.m.sd sd).queue = []) (idle : (s.m.sd sd).run = none)
    (service : e ∉ (s.m.sd sd).retired) : Does (.selfTestEnd sd e true) s fun _ m =>
      sdFree sd ((reportSd sd 4 0x200B (2 + sd) e 0 ((dropTest sd e m).updSd sd fun x =>
        { x with suspect := x.suspect.filter (· != e) })).updSd sd SolverDie.requestMet) := by
  have hsd := lt_of_sd_powered powered
  refine (does_selfTestEnd_single fitted powered true state suspect empty idle).congr ?_
  have single : (s.m.sd sd).state ≠ .selfTest := fun h => by simp [h] at state
  rw [engineTested, judgeEngine_passed (by simpa using service) (by simpa using suspect), afterTest_idle]
  · simpa [hsd] using single
  · simpa [hsd] using idle

theorem ends_selfTestEnd_passed (state : (s.m.sd sd).state ∈ [.asleep, .waking, .active])
    (suspect : e ∈ (s.m.sd sd).suspect) (empty : (s.m.sd sd).queue = []) (idle : (s.m.sd sd).run = none)
    (service : e ∉ (s.m.sd sd).retired) : Ends (.selfTestEnd sd e true) s fun t =>
      SameStores s t ∧ e ∉ (t.m.sd sd).suspect ∧ (t.m.sd sd).retired = (s.m.sd sd).retired := by
  have hsd := lt_of_sd_powered powered
  obtain ⟨quiet, retired, suspects⟩ := keepsEngines_sdFree (sd := sd)
    (m := (reportSd sd 4 0x200B (2 + sd) e 0 ((dropTest sd e s.m.fresh).updSd sd fun x =>
      { x with suspect := x.suspect.filter (· != e) })).updSd sd SolverDie.requestMet) (by simpa using hsd)
  refine (does_selfTestEnd_passed fitted powered state suspect empty idle service).ends ⟨⟨?_, rfl⟩, ?_, ?_⟩
  · exact commit_mem_of_quiet _ _ (quiet.trans (by simp))
  · rw [commit_m, closed_sd, suspects]
    simp [hsd]
  · rw [commit_m, closed_sd, retired]
    simp [hsd]

theorem does_selfTestEnd_last (full : (s.m.sd sd).state = .selfTest) (last : (s.m.sd sd).testing = [e])
    (clear : (s.m.sd sd).suspect = []) (released : (s.m.sd sd).released = true) :
    Does (.selfTestEnd sd e true) s fun _ m => sdFree sd (testedAsleep sd e m) := by
  have hsd := lt_of_sd_powered powered
  refine (does_selfTestEnd_full fitted powered true full (by simp [last])).congr ?_
  rw [engineTested, judgeEngine_unsuspected (by simp [clear]), afterTest_last (by simp [hsd, full])
    (by simp [hsd, last]) (by simpa [hsd, SolverDie.released] using released), testedAsleep]

/-- The last engine of a full self-test that passes puts the die to sleep (R119, R441). -/
theorem ends_selfTestEnd_last (full : (s.m.sd sd).state = .selfTest) (last : (s.m.sd sd).testing = [e])
    (clear : (s.m.sd sd).suspect = []) (park : (s.m.sd sd).parkReq = false)
    (released : (s.m.sd sd).released = true) : Ends (.selfTestEnd sd e true) s fun t =>
      SameStores s t ∧ (t.m.sd sd).state = .asleep ∧ (t.m.sd sd).testing = [] ∧
        (t.m.sd sd).retired = (s.m.sd sd).retired := by
  have hsd := lt_of_sd_powered powered
  have hsd' : sd < (testedAsleep sd e s.m.fresh).sds.length := by simpa [testedAsleep] using hsd
  have freed := sd_sdFree hsd'
  obtain ⟨retired, -, testing⟩ := freed_engines ((testedAsleep sd e s.m.fresh).sd sd)
  refine (does_selfTestEnd_last fitted powered full last clear released).ends ⟨⟨?_, rfl⟩, ?_, ?_, ?_⟩
  · exact commit_mem_of_quiet _ _ ((nvmOut_sdFree hsd').trans (by simp [testedAsleep]))
  · rw [commit_m, closed_sd, state_of_blank freed, freed_asleep] <;> simp [testedAsleep, hsd, park]
  · rw [commit_m, closed_sd, testing_of_blank freed, testing]
    simp [testedAsleep, hsd, last]
  · rw [commit_m, closed_sd, retired_of_blank freed, retired]
    simp [testedAsleep, hsd]

/-- An engine that fails in a full self-test is retired, and no longer suspect (R120). -/
theorem ends_selfTestEnd_failed (full : (s.m.sd sd).state = .selfTest) (due : e ∈ (s.m.sd sd).testing)
    (service : e ∉ (s.m.sd sd).retired) : Ends (.selfTestEnd sd e false) s fun t =>
      SameStores s t ∧ e ∈ (t.m.sd sd).retired ∧ e ∉ (t.m.sd sd).suspect := by
  have hsd := lt_of_sd_powered powered
  obtain ⟨quiet, len, retired, suspect⟩ := retireEngine_spec (m := dropTest sd e s.m.fresh) (sd := sd)
    (by simpa using hsd) e
  have tested : engineTested sd e false s.m.fresh =
      (retireEngine sd e (dropTest sd e s.m.fresh)).updSd sd SolverDie.requestMet := by
    rw [engineTested, judgeEngine_failed (by simpa using service)]
  have hsd' : sd < (retireEngine sd e (dropTest sd e s.m.fresh)).sds.length := by simpa [len] using hsd
  obtain ⟨quiet', retired', suspect'⟩ := keepsEngines_afterTest (m := engineTested sd e false s.m.fresh) (sd := sd)
    (by simpa [tested] using hsd')
  refine (does_selfTestEnd_full fitted powered false full due).ends ⟨⟨?_, rfl⟩, ?_, ?_⟩
  · exact commit_mem_of_quiet _ _ (quiet'.trans (by simp [tested, quiet]))
  · rw [commit_m, closed_sd, retired', tested]
    simp [hsd', hsd, retired]
  · rw [commit_m, closed_sd, suspect', tested]
    simp [hsd', hsd, suspect]

end

/-- Settles O23: a job by where its deadline or its abort finds it, a test by what it finds of its engine. -/
theorem jobsAndSelfTestsEnd : Obligations.JobsAndSelfTestsEnd := by
  refine ⟨fun s l v sd => ⟨fun r up found => ⟨ends_resultCopyDone up found, does_resultCopyDone up found⟩,
      fun k o => ends_deadlineExpiry_lost, fun k o known => ⟨fun j => does_deadlineExpiry_queued known,
        fun r gone run seq own => does_deadlineExpiry_running known gone run seq own,
        does_deadlineExpiry_lost known⟩,
      fun w => does_slvAbort_one, fun w => does_slvAbort_all,
      fun w o r => ends_slvAbort_running, does_slvAbortAll⟩,
    fun s l v sd => ⟨fun h selected reached claim active hsd =>
        ⟨ends_selftestRequest h selected reached claim active hsd,
          does_selftestRequest h selected reached claim active⟩,
      fun e fitted powered state suspect empty idle service =>
        ⟨ends_selfTestEnd_passed fitted powered state suspect empty idle service,
          does_selfTestEnd_passed fitted powered state suspect empty idle service⟩,
      fun e _ fitted powered full last clear park released =>
        ends_selfTestEnd_last fitted powered full last clear park released,
      fun e _ fitted powered full due service => ends_selfTestEnd_failed fitted powered full due service⟩⟩

end Sys2Proof.Machine
end

section
/-! The publish of the last cycle of a lane whose tasks were asked to start again while it was in progress (R132, R312). -/

namespace Sys2Proof.Machine

/-- Lane A active in RUN, with task 0 at the publish of its eighth cycle. -/
def publishingLane : State := { m := {
  laneA := { sys := { phase := .up, mode := .run, restored := true }, cfg := { active := some {} }
             red := { holds := true }, hst := { linkUp := true }
             prg := { running := true
                      tasks := [{ executing := true, publishing := true, cycles := 7 }, {}, {}, {}] } } } }

/-- The lane once the host has asked for SAFE_HOLD and then for RUN before the cycle in progress has published: the tasks are
to start when that cycle ends (R312). -/
def restartedLane : State :=
  commit (commit publishingLane (modeRequestBody .A .host 0xF)) (modeRequestBody .A .host 0xB)

/-- The publish ends the last cycle, and the start that waited for it sets the count of cycles, which runs from the program's
start, to 0 (register PRG_TASK_CYCLES of chapter 05). -/
theorem restartedLane_cycles : ((restartedLane.m.lane .A).task 0).cycles = 7 ∧
    (((commit restartedLane (publishCompleteBody .A 0)).m.lane .A).task 0).cycles = 0 := ⟨rfl, rfl⟩

/-- Refutes O19: the statement has every publish outside an exchange leave one cycle more in the task's count, but at
`restartedLane` the tasks start again with the publish, and the count is 0. -/
theorem not_cyclesEndWithTheirPublish : ¬ Obligations.CyclesEndWithTheirPublish := by
  unfold Obligations.CyclesEndWithTheirPublish
  intro h
  obtain ⟨-, -, -, publishes, -⟩ := h restartedLane .A 0
  obtain ⟨t, ends, -, -, -, -, counted, -⟩ := publishes rfl rfl rfl rfl (by decide)
  cases ends
  obtain ⟨before, after⟩ := restartedLane_cycles
  rw [before] at counted
  exact absurd (after.symm.trans counted) (by decide)

end Sys2Proof.Machine
end

section
/-! Outputs of a field die: what bringing them to their values changes, and that one held open then carries OFF (R176,
R180, R182). -/

namespace Sys2Proof.Machine

/-! ### Repetition -/

/-- What one step of a repetition brings about stands after it, where every step keeps it. -/
theorem forEach_reaches {α : Type} {P Q : Module → Prop} {xs : List α} {f : α → Module → Module} {a : α} (ha : a ∈ xs)
    (keeps : ∀ x m, P m → P (f x m)) (brings : ∀ m, P m → Q (f a m)) (stays : ∀ x m, P m → Q m → Q (f x m)) (m : Module)
    (p : P m) : Q (forEach xs f m) := by
  obtain ⟨before, after, rfl⟩ := List.append_of_mem ha
  have reached : P (forEach before f m) := forEach_keeps P before f keeps m p
  rw [forEach_append, forEach_cons]
  exact (forEach_keeps (fun m => P m ∧ Q m) after f (fun x m h => ⟨keeps x m h.1, stays x m h.1 h.2⟩) _
    ⟨keeps a _ reached, brings _ reached⟩).2

/-! ### An output among the outputs of a die -/

theorem outp_of_chans {x y : FieldDie} (h : x.chans = y.chans) (c n : Nat) : x.outp c n = y.outp c n := by
  rw [FieldDie.outp, h, FieldDie.outp]

/-- A channel's outputs with the one at an index changed. -/
def Channel.withOut (n : Nat) (f : Output → Output) (ch : Channel) : Channel := { ch with outs := upd ch.outs n f }

/-- A die's channels with one output changed. -/
def FieldDie.withOut (c n : Nat) (f : Output → Output) (x : FieldDie) : FieldDie :=
  { x with chans := upd x.chans c (Channel.withOut n f) }

theorem updOut_eq (m : Module) (d c n : Nat) (f : Output → Output) :
    m.updOut d c n f = m.updFd d (FieldDie.withOut c n f) := rfl

/-- What the change of an item leaves of it stays, whichever item is looked at. -/
theorem part_upd {α β : Type} (g : α → β) {xs : List α} {n : Nat} {f : α → α} {d : α} (k : Nat)
    (h : k = n → g (f (at? xs n d)) = g (at? xs n d)) : g (at? (upd xs n f) k d) = g (at? xs k d) := by
  by_cases e : k = n
  · subst e
    by_cases inside : k < xs.length
    · rw [at?_upd _ _ _ _ inside, h rfl]
    · simp [upd, at?, Nat.not_lt.mp inside]
  · rw [at?_upd_ne _ _ _ _ _ (Ne.symm e)]

/-- A channel and an output that a die has. -/
def FieldDie.HasOut (c n : Nat) (x : FieldDie) : Prop := c < x.chans.length ∧ n < (at? x.chans c {}).outs.length

/-! ### Whether an output is held open (R182) -/

/-- Whether an output's switches are held open hangs on the die's shell and on the output's fault (R182). -/
theorem openBy_congr {x y : FieldDie} (shell : x.shell = y.shell) (supply : Bool) {c n : Nat}
    (fault : (x.outp c n).fault = (y.outp c n).fault) : x.openBy supply c n = y.openBy supply c n := by
  have powered : x.powered = y.powered := (congrArg FieldDie.powered shell :)
  have railLow : x.railLow = y.railLow := (congrArg FieldDie.railLow shell :)
  have doms : x.doms = y.doms := (congrArg FieldDie.doms shell :)
  have bank : x.bank = y.bank := (congrArg FieldDie.bank shell :)
  have clockFailed : x.clockFailed = y.clockFailed := (congrArg FieldDie.clockFailed shell :)
  simp only [FieldDie.openBy, FieldDie.brgOn, powered, railLow, doms, bank, clockFailed, fault]

/-- An output whose switches are held open should carry OFF (R182). -/
theorem wanted_of_open {x : FieldDie} {supply : Bool} {c n : Nat} (d : Nat) (h : x.openBy supply c n = true) :
    x.wanted d supply c n = .off := by
  simp [FieldDie.wanted, h]

/-! ### A die with one output changed -/

section
variable (x : FieldDie) (c n b k : Nat) (f : Output → Output)

/-- What the change of an output leaves of it stays, whichever output is looked at. -/
theorem part_outp_withOut {β : Type} (g : Output → β)
    (h : b = c → k = n → g (f (x.outp c n)) = g (x.outp c n)) : g ((x.withOut c n f).outp b k) = g (x.outp b k) := by
  refine part_upd (fun ch : Channel => g (at? ch.outs k {})) b fun e => part_upd g k fun e' => ?_
  subst e e'
  exact h rfl rfl

theorem outp_withOut (has : x.HasOut c n) : (x.withOut c n f).outp c n = f (x.outp c n) := by
  obtain ⟨channel, output⟩ := has
  rw [FieldDie.outp, FieldDie.withOut, at?_upd _ _ _ _ channel, Channel.withOut, at?_upd _ _ _ _ output]
  rfl

theorem chanFault_withOut : (at? (x.withOut c n f).chans b {}).fault = (at? x.chans b {}).fault :=
  part_upd Channel.fault b fun _ => rfl

theorem hasOut_withOut : (x.withOut c n f).HasOut b k ↔ x.HasOut b k := by
  have outs : (at? (x.withOut c n f).chans b {}).outs.length = (at? x.chans b {}).outs.length :=
    part_upd (fun ch : Channel => ch.outs.length) b fun _ => length_upd ..
  rw [FieldDie.HasOut, outs, FieldDie.withOut, length_upd, FieldDie.HasOut]

theorem shell_withOut : (x.withOut c n f).shell = x.shell := rfl

theorem openBy_withOut (h : (f (x.outp c n)).fault = (x.outp c n).fault) (supply : Bool) :
    (x.withOut c n f).openBy supply c n = x.openBy supply c n :=
  openBy_congr (shell_withOut ..) _ (part_outp_withOut x c n c n f Output.fault fun _ _ => h)

end

/-! ### The drive of an output (R179) -/

section
variable (now : Nat) (w : OutVal) (o : Output)

@[simp] theorem drive_fault : (o.drive now w).fault = o.fault := by
  simp only [Output.drive]
  split_ifs <;> rfl

@[simp] theorem drive_cmd : (o.drive now w).cmd = o.cmd := by
  simp only [Output.drive]
  split_ifs <;> rfl

theorem drive_off : (o.drive now .off).now = .off := rfl

end

/-! ### One output brought to its value -/

theorem updFd_updFd (m : Module) (d : Nat) (f g : FieldDie → FieldDie) :
    (m.updFd d f).updFd d g = m.updFd d fun x => g (f x) := by
  simp only [Module.updFd, upd, List.modify_modify_eq]
  rfl

/-- Bringing an output to its value sets that output, whose fault and last command stay, and the instants of a loop that owns
it; an output held open then carries OFF. -/
theorem refreshOut_eq (d c n : Nat) (m : Module) : ∃ (o : Output) (ls : List LoopSlot → List LoopSlot),
    refreshOut d c n m = m.updFd d (fun x => { x.withOut c n (fun _ => o) with loops := ls x.loops }) ∧
    o.fault = ((m.fd d).outp c n).fault ∧ o.cmd = ((m.fd d).outp c n).cmd ∧
    ((m.fd d).openBy m.supplyGood c n = true → o.now = .off) := by
  unfold refreshOut
  extract_lets fd o held free o1 o2 fd' o3 o4 m'
  have fault : o2.fault = o.fault := by
    simp only [o2, o1]
    split_ifs <;> rfl
  have cmd : o2.cmd = o.cmd := by
    simp only [o2, o1]
    split_ifs <;> rfl
  have moved : o4.fault = o3.fault ∧ o4.cmd = o3.cmd ∧ o4.now = o3.now := by
    simp only [o4]
    split <;> exact ⟨rfl, rfl, rfl⟩
  obtain ⟨fault', cmd', now'⟩ := moved
  have opened (h : fd.openBy m.supplyGood c n = true) : o4.now = .off := by
    rw [now']
    simp only [o3, show fd' = fd.withOut c n fun _ => o2 from rfl]
    rw [wanted_of_open d ((openBy_withOut fd c n _ fault _).trans h), drive_off]
  have keptFault : o4.fault = o.fault := fault'.trans ((drive_fault ..).trans fault)
  have keptCmd : o4.cmd = o.cmd := cmd'.trans ((drive_cmd ..).trans cmd)
  split
  · exact ⟨o4, id, rfl, keptFault, keptCmd, opened⟩
  · exact ⟨o4, _, updFd_updFd .., keptFault, keptCmd, opened⟩

section
variable (d c n : Nat) (m : Module)

/-- What the change of a field die leaves of a part of it stays. -/
theorem part_updFd_at {β : Type} (g : FieldDie → β) {f : FieldDie → FieldDie} (h : g (f (m.fd d)) = g (m.fd d)) :
    g ((m.updFd d f).fd d) = g (m.fd d) := part_upd g d fun _ => h

theorem fault_refreshOut (b k : Nat) : (((refreshOut d c n m).fd d).outp b k).fault = ((m.fd d).outp b k).fault := by
  obtain ⟨o, ls, e, fault, -, -⟩ := refreshOut_eq d c n m
  rw [e]
  exact part_updFd_at d m (fun x => (x.outp b k).fault) (part_outp_withOut _ _ _ _ _ _ Output.fault fun _ _ => fault)

theorem cmd_refreshOut (b k : Nat) : (((refreshOut d c n m).fd d).outp b k).cmd = ((m.fd d).outp b k).cmd := by
  obtain ⟨o, ls, e, -, cmd, -⟩ := refreshOut_eq d c n m
  rw [e]
  exact part_updFd_at d m (fun x => (x.outp b k).cmd) (part_outp_withOut _ _ _ _ _ _ Output.cmd fun _ _ => cmd)

theorem chanFault_refreshOut (b : Nat) : ((refreshOut d c n m).chan d b).fault = (m.chan d b).fault := by
  obtain ⟨o, ls, e, -, -, -⟩ := refreshOut_eq d c n m
  rw [e]
  exact part_updFd_at d m (fun x => (at? x.chans b {}).fault) (chanFault_withOut ..)

theorem hasOut_refreshOut (b k : Nat) : ((refreshOut d c n m).fd d).HasOut b k ↔ (m.fd d).HasOut b k := by
  obtain ⟨o, ls, e, -, -, -⟩ := refreshOut_eq d c n m
  rw [e]
  exact Iff.of_eq (part_updFd_at d m (FieldDie.HasOut b k) (propext (hasOut_withOut ..)))

end

/-! ### An output held open -/

/-- A die has an output, and its switches are held open (R176, R180, R182). -/
structure Module.HeldOpen (d c n : Nat) (m : Module) : Prop where
  within : d < m.fds.length
  has : (m.fd d).HasOut c n
  opened : (m.fd d).openBy m.supplyGood c n = true

/-- An output carries OFF. -/
def Module.IsOff (d c n : Nat) (m : Module) : Prop := ((m.fd d).outp c n).now = .off

section
variable {d c n : Nat} {m : Module} (h : m.HeldOpen d c n)
include h

theorem heldOpen_refreshOut (b k : Nat) : (refreshOut d b k m).HeldOpen d c n := by
  have shell := shell_refreshOut d b m k
  have supply : (refreshOut d b k m).supplyGood = m.supplyGood := (congrArg Module.supplyGood shell :)
  refine ⟨?_, (hasOut_refreshOut ..).mpr h.has, ?_⟩
  · rw [length_fds_of_hull (hull_of_shell shell)]
    exact h.within
  · rw [supply, openBy_congr (fd_of_shell shell d) _ (fault_refreshOut ..)]
    exact h.opened

theorem isOff_refreshOut : (refreshOut d c n m).IsOff d c n := by
  obtain ⟨o, ls, e, -, -, opened⟩ := refreshOut_eq d c n m
  rw [Module.IsOff, e, fd_updFd _ _ _ h.within]
  exact (congrArg Output.now (outp_withOut _ _ _ _ h.has)).trans (opened h.opened)

theorem isOff_refreshOut_of_isOff (b k : Nat) (off : m.IsOff d c n) : (refreshOut d b k m).IsOff d c n := by
  by_cases same : c = b ∧ n = k
  · obtain ⟨rfl, rfl⟩ := same
    exact isOff_refreshOut h
  · obtain ⟨o, ls, e, -, -, -⟩ := refreshOut_eq d b k m
    rw [Module.IsOff, e]
    refine (part_updFd_at d m (fun x => (x.outp c n).now) ?_).trans off
    exact part_outp_withOut _ _ _ _ _ _ Output.now fun hc hn => absurd ⟨hc, hn⟩ same

theorem heldOpen_refreshCh (b : Nat) : (refreshCh d b m).HeldOpen d c n :=
  forEach_keeps (Module.HeldOpen d c n) _ _ (fun k _ h => heldOpen_refreshOut h b k) m h

theorem isOff_refreshCh_of_isOff (b : Nat) (off : m.IsOff d c n) : (refreshCh d b m).IsOff d c n :=
  (forEach_keeps (fun m => m.HeldOpen d c n ∧ m.IsOff d c n) _ _
    (fun k _ ⟨h, off⟩ => ⟨heldOpen_refreshOut h b k, isOff_refreshOut_of_isOff h b k off⟩) m ⟨h, off⟩).2

theorem isOff_refreshCh (hn : n < 4) : (refreshCh d c m).IsOff d c n :=
  forEach_reaches (a := n) (by simp; omega) (fun k _ h => heldOpen_refreshOut h c k) (fun _ h => isOff_refreshOut h)
    (fun k _ h off => isOff_refreshOut_of_isOff h c k off) m h

theorem isOff_refreshFd (hc : c < 64) (hn : n < 4) : (refreshFd d m).IsOff d c n :=
  forEach_reaches (a := c) (List.mem_range.mpr hc) (fun b _ h => heldOpen_refreshCh h b) (fun _ h => isOff_refreshCh h hn)
    (fun b _ h off => isOff_refreshCh_of_isOff h b off) m h

end

/-- Settles O25: an output held open carries OFF once it is brought to its value, and the others leave it there. -/
theorem openOutputsCarryNothing : Obligations.OpenOutputsCarryNothing := by
  intro m d c n within hc hn channels outputs opened
  have channel : c < (m.fd d).chans.length := by rwa [channels]
  have outs : (at? (m.fd d).chans c {}).outs.length = 4 :=
    outputs _ (by simp [at?, List.getElem?_eq_getElem channel])
  exact isOff_refreshFd ⟨within, ⟨channel, by rwa [outs]⟩, opened⟩ hc hn

end Sys2Proof.Machine
end

section
/-! A fault on outputs of a channel: the causes that it sets, the commands that it takes away and the switches that it opens
(R180, R181). -/

namespace Sys2Proof.Machine

/-! ### An output struck by a fault -/

/-- An output with a fault's cause set and its last command gone. -/
def Output.struck (cause : Nat) (held : Bool) (o : Output) : Output :=
  { o with fault := o.fault ||| 1 <<< cause, cmd := .off, safeDriveDone := held }

/-- A field die has an output, and the output's channel keeps a cause. -/
structure FieldDie.ChanFaulted (c n cause : Nat) (x : FieldDie) : Prop where
  has : x.HasOut c n
  chan : nbit (at? x.chans c {}).fault cause = true

/-- So it is, and the output keeps the cause too and its last command is gone. -/
structure FieldDie.OutFaulted (c n cause : Nat) (x : FieldDie) : Prop extends x.ChanFaulted c n cause where
  out : nbit (x.outp c n).fault cause = true
  cmd : (x.outp c n).cmd = .off

theorem nbit_setBit (w k : Nat) : nbit (w ||| 1 <<< k) k = true := by simp [nbit]

theorem openBy_of_fault {x : FieldDie} {c n cause : Nat} (supply : Bool) (h : nbit (x.outp c n).fault cause = true) :
    x.openBy supply c n = true := by
  have faulty : (x.outp c n).fault ≠ 0 := fun clear => by simp [nbit, clear] at h
  simp [FieldDie.openBy, faulty]

section
variable {c n cause : Nat} {x y : FieldDie}

theorem chanFaulted_of_chans (e : y.chans = x.chans) (h : x.ChanFaulted c n cause) : y.ChanFaulted c n cause := by
  obtain ⟨has, chan⟩ := h
  exact ⟨by rwa [FieldDie.HasOut, e], by rwa [e]⟩

theorem outFaulted_of_chans (e : y.chans = x.chans) (h : x.OutFaulted c n cause) : y.OutFaulted c n cause := by
  obtain ⟨struck, out, cmd⟩ := h
  exact ⟨chanFaulted_of_chans e struck, by rwa [outp_of_chans e], by rwa [outp_of_chans e]⟩

theorem chanFaulted_withOut (k : Nat) (f : Output → Output) (h : x.ChanFaulted c n cause) :
    (x.withOut c k f).ChanFaulted c n cause :=
  ⟨(hasOut_withOut ..).mpr h.has, by rw [chanFault_withOut]; exact h.chan⟩

theorem outFaulted_struck (held : Bool) (h : x.ChanFaulted c n cause) :
    (x.withOut c n (Output.struck cause held)).OutFaulted c n cause := by
  have struck := outp_withOut x c n (Output.struck cause held) h.has
  exact ⟨chanFaulted_withOut _ _ h, by rw [struck]; exact nbit_setBit .., by rw [struck]; rfl⟩

theorem outFaulted_struck_any (k : Nat) (held : Bool) (h : x.OutFaulted c n cause) :
    (x.withOut c k (Output.struck cause held)).OutFaulted c n cause := by
  by_cases same : n = k
  · subst same
    exact outFaulted_struck held h.toChanFaulted
  · have kept : (x.withOut c k (Output.struck cause held)).outp c n = x.outp c n :=
      part_outp_withOut x c k c n _ id fun _ e => absurd e same
    exact ⟨chanFaulted_withOut _ _ h.toChanFaulted, by rw [kept]; exact h.out, by rw [kept]; exact h.cmd⟩

end

/-! ### The steps of a fault -/

/-- A fault's cause set in its channel (R180). -/
def setCause (d c cause : Nat) (m : Module) : Module :=
  m.updChan d c fun ch => { ch with fault := ch.fault ||| 1 <<< cause }

/-- One output struck, and its fault recorded (R180). -/
def strikeOut (d c cause : Nat) (held : Nat → Bool) (k : Nat) (m : Module) : Module :=
  reportFd d 6 0x4001 (64 * d + c) k cause (m.updOut d c k (Output.struck cause (held k)))

/-- The outputs of a fault struck one after the other. -/
def strikeOuts (d c : Nat) (ns : List Nat) (cause : Nat) (m : Module) : Module :=
  forEach ns (strikeOut d c cause fun n => (m.fd d).safeHeld d c n) m

/-- The axis of a channel stopped, where the channel drives one (R208). -/
def stopAxis (d c : Nat) (m : Module) : Module :=
  if ((m.fd d).chanCfg d c).function = 1 then axisBridgeFault d c m else m

theorem faultOuts_eq {ns : List Nat} (any : ns ≠ []) (d c cause : Nat) (m : Module) : faultOuts d c ns cause m =
    refreshCh d c (raiseFd d 1 (stopAxis d c (strikeOuts d c ns cause (setCause d c cause m)))) := if_neg any

section
variable (d c cause : Nat) (m : Module)

theorem length_fds_setCause : (setCause d c cause m).fds.length = m.fds.length := length_fds_updFd ..

theorem length_fds_strikeOut (held : Nat → Bool) (k : Nat) :
    (strikeOut d c cause held k m).fds.length = m.fds.length := by
  rw [strikeOut, length_fds_of_hull (hull_reportFd ..), updOut_eq, length_fds_updFd]

theorem length_fds_strikeOuts (ns : List Nat) : (strikeOuts d c ns cause m).fds.length = m.fds.length :=
  forEach_part (·.fds.length) _ _ (fun k m => length_fds_strikeOut d c cause m _ k) m

theorem chans_strikeOut (held : Nat → Bool) (k : Nat) (within : d < m.fds.length) :
    ((strikeOut d c cause held k m).fd d).chans = ((m.fd d).withOut c k (Output.struck cause (held k))).chans := by
  rw [strikeOut, chans_of_blank (fd_of_blank (blank_reportFd ..) d), updOut_eq, fd_updFd _ _ _ within]

theorem chans_axisBridgeFault : ((axisBridgeFault d c m).fd d).chans = (m.fd d).chans := by
  have drop (st : AxisState) : ((axisDrop d c st m).fd d).chans = (m.fd d).chans := by
    rw [axisDrop, part_updFd d _ FieldDie.chans]
    exact fun _ => rfl
  simp only [axisBridgeFault]
  split
  · rfl
  · rw [part_updFd d _ FieldDie.chans, drop]
    exact fun _ => rfl

theorem chans_stopAxis : ((stopAxis d c m).fd d).chans = (m.fd d).chans := by
  rw [stopAxis]
  split
  · exact chans_axisBridgeFault ..
  · rfl

theorem hull_stopAxis : (stopAxis d c m).hull = m.hull := by
  rw [stopAxis, apply_ite Module.hull, hull_axisBridgeFault, ite_self]

end

section
variable {d c n cause : Nat} {ns : List Nat} {m : Module}

theorem outFaulted_refreshCh (b : Nat) (h : (m.fd d).OutFaulted c n cause) :
    ((refreshCh d b m).fd d).OutFaulted c n cause :=
  forEach_keeps (fun m => (m.fd d).OutFaulted c n cause) _ _ (fun k m h =>
    ⟨⟨(hasOut_refreshOut ..).mpr h.has, (congrArg (nbit · cause) (chanFault_refreshOut d b k m c)).trans h.chan⟩,
      by rw [fault_refreshOut]; exact h.out, by rw [cmd_refreshOut]; exact h.cmd⟩) m h

theorem chanFaulted_setCause (has : (m.fd d).HasOut c n) (within : d < m.fds.length) :
    ((setCause d c cause m).fd d).ChanFaulted c n cause := by
  obtain ⟨channel, output⟩ := has
  have set := at?_upd (m.fd d).chans c (fun ch => { ch with fault := ch.fault ||| 1 <<< cause }) {} channel
  rw [setCause, Module.updChan, fd_updFd _ _ _ within]
  exact ⟨⟨by rwa [length_upd], by rwa [set]⟩, by rw [set]; exact nbit_setBit ..⟩

theorem outFaulted_strikeOuts (mem : n ∈ ns) (within : d < m.fds.length) (h : (m.fd d).ChanFaulted c n cause) :
    ((strikeOuts d c ns cause m).fd d).OutFaulted c n cause := by
  refine forEach_reaches (P := fun m => d < m.fds.length ∧ (m.fd d).ChanFaulted c n cause)
    (Q := fun m => (m.fd d).OutFaulted c n cause) mem ?_ ?_ ?_ m ⟨within, h⟩
  · rintro k m ⟨within, h⟩
    exact ⟨by rwa [length_fds_strikeOut],
      chanFaulted_of_chans (chans_strikeOut _ _ _ _ _ _ within) (chanFaulted_withOut k _ h)⟩
  · rintro m ⟨within, h⟩
    exact outFaulted_of_chans (chans_strikeOut _ _ _ _ _ _ within) (outFaulted_struck _ h)
  · rintro k m ⟨within, -⟩ h
    exact outFaulted_of_chans (chans_strikeOut _ _ _ _ _ _ within) (outFaulted_struck_any k _ h)

/-- A fault is kept by each of its outputs, and bringing them to their values leaves their switches open (R180, R181). -/
theorem outFaulted_faultOuts (hn : n < 4) (within : d < m.fds.length) (has : (m.fd d).HasOut c n) (mem : n ∈ ns) :
    ((faultOuts d c ns cause m).fd d).OutFaulted c n cause ∧ (faultOuts d c ns cause m).IsOff d c n := by
  have struck : ((strikeOuts d c ns cause (setCause d c cause m)).fd d).OutFaulted c n cause :=
    outFaulted_strikeOuts mem (by rwa [length_fds_setCause]) (chanFaulted_setCause has within)
  have stopped := outFaulted_of_chans (chans_stopAxis d c _) struck
  have told := outFaulted_of_chans (chans_of_blank (fd_of_blank (blank_raiseFd d 1 _) d)) stopped
  rw [faultOuts_eq (List.ne_nil_of_mem mem)]
  refine ⟨outFaulted_refreshCh c told, isOff_refreshCh ⟨?_, told.has, openBy_of_fault _ told.out⟩ hn⟩
  rwa [length_fds_of_hull (hull_raiseFd ..), length_fds_of_hull (hull_stopAxis ..), length_fds_strikeOuts,
    length_fds_setCause]

end

/-- Settles O26: the fault strikes each of its outputs, what follows keeps that, and an output with a fault is held open. -/
theorem faultsOpenTheirOutputs : Obligations.FaultsOpenTheirOutputs := by
  intro m d c n cause ns within hc channels outputs mem hn _
  obtain ⟨faulted, off⟩ := outFaulted_faultOuts (cause := cause) hn within
    (⟨by rwa [channels], by rwa [outputs]⟩ : (m.fd d).HasOut c n) mem
  exact ⟨faulted.out, faulted.cmd, off, faulted.chan⟩

end Sys2Proof.Machine
end

section
/-! Heartbeats and what the field dies make of them: the ticks of the active lane, T_VACANT, T_safe and RELEASE (R184, R275,
R276, R353). -/

namespace Sys2Proof.Machine

/-! ### The lane's side (R275, R353) -/

section
variable (l : LaneId) (m : Module)

/-- A lane's end of the lane wire toggled, where there are two lanes (R275). -/
def Red.toggled (two : Bool) (now : Nat) (r : Red) : Red :=
  { r with wire := if two then !r.wire else r.wire, wireAt := now }

/-- The lane's wire is toggled, and the other lane's redundancy block follows the edges that it sees (R275, R277). -/
theorem toggleWire_eq : ∃ f : Red → Red, toggleWire l m =
    (if m.variant.nLane == 2 then updRed l.other f (updRed l (Red.toggled (m.variant.nLane == 2) m.now) m)
      else updRed l (Red.toggled (m.variant.nLane == 2) m.now) m) := ⟨_, rfl⟩

theorem lane_toggleWire : (toggleWire l m).lane l =
    { m.lane l with red := (m.lane l).red.toggled (m.variant.nLane == 2) m.now } := by
  obtain ⟨f, e⟩ := toggleWire_eq l m
  rw [e]
  split <;> simp [updRed]

/-- What no change of a redundancy block touches stays. -/
theorem part_toggleWire {β : Type} (g : Module → β) (h : ∀ k f m, g (updRed k f m) = g m) :
    g (toggleWire l m) = g m := by
  obtain ⟨f, e⟩ := toggleWire_eq l m
  rw [e, apply_ite g, h l.other, ite_self, h]

@[simp] theorem toggleWire_variant : (toggleWire l m).variant = m.variant :=
  part_toggleWire l m (·.variant) fun _ _ _ => updLane_variant ..

@[simp] theorem toggleWire_fds : (toggleWire l m).fds = m.fds :=
  part_toggleWire l m (·.fds) fun _ _ _ => updLane_fds ..

@[simp] theorem toggleWire_mail : (toggleWire l m).mail = m.mail :=
  part_toggleWire l m (·.mail) fun _ _ _ => updLane_mail ..

@[simp] theorem toggleWire_nvmOut : (toggleWire l m).nvmOut = m.nvmOut :=
  part_toggleWire l m (·.nvmOut) fun _ _ _ => updLane_nvmOut ..

@[simp] theorem toggleWire_now : (toggleWire l m).now = m.now :=
  part_toggleWire l m (·.now) fun _ _ _ => updLane_now ..

/-- The heartbeat of a lane at the present instant, under its claim (R275, R353). -/
def Module.heartbeat : Msg :=
  let L := m.lane l
  .heartbeat L.red.claim L.cfg.activeCounter L.red.hbSeq m.us L.prg.tbOffset L.ptp.steer L.ptp.steerState
    (heartbeatMac keyHb L.red.claim L.cfg.activeCounter L.red.hbSeq m.us L.prg.tbOffset L.ptp.steer L.ptp.steerState)

theorem sendHeartbeats_eq : sendHeartbeats l m =
    forEach (m.fdsOf l) (fun d => send l.num (fdId d) (m.heartbeat l)) m := rfl

end

theorem fdsOf_congr {m n : Module} {l : LaneId} (variant : m.variant = n.variant) (fds : m.fds = n.fds)
    (links : (m.lane l).fldUp = (n.lane l).fldUp) : m.fdsOf l = n.fdsOf l := by
  simp only [Module.fdsOf, Module.fdList, Module.fdReach, Module.fdUp, Module.fd, variant, fds, links]

@[simp] theorem fresh_fdsOf (m : Module) (l : LaneId) : m.fresh.fdsOf l = m.fdsOf l := by cases l <;> rfl

/-- A lane at the instant of its heartbeat: the clock there, the sequence number one on and its wire toggled (R275). -/
def beat (l : LaneId) (m : Module) : Module :=
  let m := clockTo (m.gridAfter 1000000 (m.lane l).red.wireAt) m
  toggleWire l (updRed l (fun r => { r with hbSeq := (r.hbSeq + 1) % 2 ^ 32 }) m)

section
variable (l : LaneId) (m : Module)

@[simp] theorem beat_now : (beat l m).now = max m.now (m.gridAfter 1000000 (m.lane l).red.wireAt) := by
  simp [beat, updRed]

@[simp] theorem beat_mail : (beat l m).mail = m.mail := by simp [beat, updRed]

@[simp] theorem beat_nvmOut : (beat l m).nvmOut = m.nvmOut := by simp [beat, updRed]

theorem lane_beat : (beat l m).lane l = { m.lane l with red := { (m.lane l).red with
    hbSeq := ((m.lane l).red.hbSeq + 1) % 2 ^ 32, wireAt := (beat l m).now
    wire := if m.variant.nLane = 2 then !(m.lane l).red.wire else (m.lane l).red.wire } } := by
  simp [beat, lane_toggleWire, updRed, Red.toggled]

theorem fdsOf_beat : (beat l m).fdsOf l = m.fdsOf l :=
  fdsOf_congr (by simp [beat, updRed]) (by simp [beat, updRed]) (by rw [lane_beat])

end

section
variable {s : State} {l : LaneId} (holds : (s.m.lane l).red.holds = true) (keeps : (s.m.lane l).red.releaseAt = none)
include holds keeps

theorem does_heartbeatTick : Does (.heartbeatTick l) s fun _ m => sendHeartbeats l (beat l m) := by
  have b : Does (.heartbeatTick l) s (heartbeatTickBody l) := rfl
  exact b.congr (if_neg (by simp [holds, keeps]))

theorem ends_heartbeatTick : Ends (.heartbeatTick l) s fun t => SameStores s t ∧
    t.m.now = max s.m.now (s.m.gridAfter 1000000 (s.m.lane l).red.wireAt) ∧
    t.m.lane l = { s.m.lane l with red := { (s.m.lane l).red with
      hbSeq := ((s.m.lane l).red.hbSeq + 1) % 2 ^ 32, wireAt := t.m.now
      wire := if s.m.variant.nLane = 2 then !(s.m.lane l).red.wire else (s.m.lane l).red.wire } } ∧
    t.m.mail = s.m.mail ++ (s.m.fdsOf l).map fun d => ⟨l.num, 4 + d, t.m.heartbeat l⟩ := by
  have lane : (sendHeartbeats l (beat l s.m.fresh)).lane l = (beat l s.m.fresh).lane l :=
    forEach_part (·.lane l) _ _ (fun _ _ => send_lane ..) _
  have now : (sendHeartbeats l (beat l s.m.fresh)).now = (beat l s.m.fresh).now := now_sends ..
  have nvmOut : (sendHeartbeats l (beat l s.m.fresh)).nvmOut = (beat l s.m.fresh).nvmOut :=
    forEach_part (·.nvmOut) _ _ (fun _ _ => send_nvmOut ..) _
  have said : (commit s fun _ m => sendHeartbeats l (beat l m)).m.heartbeat l = (beat l s.m.fresh).heartbeat l := by
    simp only [Module.heartbeat, Module.us, commit_m, closed_lane, closed_now, lane, now]
  refine (does_heartbeatTick holds keeps).ends ⟨⟨commit_mem_of_quiet _ _ ?_, commit_pending ..⟩, ?_, ?_, ?_⟩
  · rw [nvmOut, beat_nvmOut, fresh_nvmOut]
  · rw [commit_m, closed_now, now, beat_now]
    simp
  · rw [commit_m, closed_lane, closed_now, lane, now, lane_beat]
    simp
  · rw [said, commit_m, closed_mail, sendHeartbeats_eq, mail_sends, beat_mail, fdsOf_beat, fresh_mail, fresh_fdsOf]
    rfl

end

/-! ### A die's side: heartbeats and RELEASE (R275, R276, R353) -/

/-- A die that takes a heartbeat as valid: its time is aligned to the message's, and no vacancy and no T_safe stands any
longer (R28, R276). -/
def FieldDie.heard (now tb : Nat) (off : Int) (slot st : Nat) (x : FieldDie) : FieldDie :=
  { x.takeTime now tb off slot st with heartAt := now, vacant := false, tSafeDone := false }

/-- A die with no arm has no swap to make up for (R60 step 10). -/
theorem lateSwap_unarmed {l : LaneId} {d k : Nat} {m : Module} (h : (m.fd d).applyAt = none) : lateSwap l d k m = m := by
  simp [lateSwap, h]

section
variable {s : State} {l : LaneId} {d : Nat} {rest : List Mail}

section
variable {c k q tb : Nat} {off : Int} {slot st : Nat} {mac : Bytes}
  (hmail : s.m.mail = ⟨l.num, 4 + d, .heartbeat c k q tb off slot st mac⟩ :: rest)
include hmail

/-- The heartbeat that a die receives, by whether it finds it valid (R275). -/
theorem does_heartbeatReceived : Does (.heartbeatReceived l d) s fun _ m =>
    let m := m.withMail rest
    if !m.fdReach l d || c != (m.fd d).claim || claimLane c != l ||
        mac != heartbeatMac (m.fd d).kHb c k q tb off slot st then m
    else lateSwap l d k (m.updFd d (FieldDie.heard m.now tb off slot st)) := by
  have b : Does (.heartbeatReceived l d) s (heartbeatReceivedBody l d) := rfl
  refine b.congr ?_
  simp only [heartbeatReceivedBody, fresh_mail, hmail, fdId]
  rw [takeMail_front (a := (c, k, (q, tb, off), slot, st, mac)) rfl]
  rfl

theorem does_heartbeatReceived_valid (reach : s.m.fdReach l d = true) (claim : c = (s.m.fd d).claim)
    (own : claimLane c = l) (sealed : mac = heartbeatMac (s.m.fd d).kHb c k q tb off slot st) :
    Does (.heartbeatReceived l d) s fun _ m =>
      lateSwap l d k ((m.withMail rest).updFd d (FieldDie.heard m.now tb off slot st)) :=
  (does_heartbeatReceived hmail).congr (if_neg (by simp [reach, ← claim, own, ← sealed]))

theorem does_heartbeatReceived_invalid
    (invalid : c ≠ (s.m.fd d).claim ∨ mac ≠ heartbeatMac (s.m.fd d).kHb c k q tb off slot st) :
    Does (.heartbeatReceived l d) s fun _ m => m.withMail rest :=
  (does_heartbeatReceived hmail).congr (if_pos (by obtain h | h := invalid <;> simp [h]))

theorem ends_heartbeatReceived_invalid
    (invalid : c ≠ (s.m.fd d).claim ∨ mac ≠ heartbeatMac (s.m.fd d).kHb c k q tb off slot st) :
    Ends (.heartbeatReceived l d) s fun t => SameStores s t ∧ t.m.mail = rest ∧ t.m.fds = s.m.fds :=
  (does_heartbeatReceived_invalid hmail invalid).ends ⟨⟨commit_mem_of_quiet _ _ (by simp), rfl⟩, rfl, rfl⟩

theorem ends_heartbeatReceived_valid (reach : s.m.fdReach l d = true) (claim : c = (s.m.fd d).claim)
    (own : claimLane c = l) (sealed : mac = heartbeatMac (s.m.fd d).kHb c k q tb off slot st)
    (unarmed : (s.m.fd d).applyAt = none) : Ends (.heartbeatReceived l d) s fun t => SameStores s t ∧ t.m.mail = rest ∧
      t.m.fds = upd s.m.fds d (FieldDie.heard s.m.now tb off slot st) ∧
      t.m.fd d = (s.m.fd d).heard s.m.now tb off slot st := by
  have die := fd_updFd (s.m.fresh.withMail rest) d (FieldDie.heard s.m.fresh.now tb off slot st) (lt_of_fdReach reach)
  refine ((does_heartbeatReceived_valid hmail reach claim own sealed).congr
    (g := fun _ m => (m.withMail rest).updFd d (FieldDie.heard m.now tb off slot st))
    (lateSwap_unarmed (by rw [die]; exact unarmed))).ends ?_
  exact ⟨⟨commit_mem_of_quiet _ _ (by simp), rfl⟩, rfl, rfl, die⟩

end

/-- RELEASE under the claim that a die obeys makes it vacant (R276, R296). -/
theorem does_releaseMsg (hmail : s.m.mail = ⟨l.num, 4 + d, .release (s.m.fd d).claim⟩ :: rest)
    (reach : s.m.fdReach l d = true) (own : claimLane (s.m.fd d).claim = l) :
    Does (.releaseMsg l d) s fun _ m => vacate d (m.withMail rest) := by
  have b : Does (.releaseMsg l d) s (releaseMsgBody l d) := rfl
  refine b.congr ?_
  simp only [releaseMsgBody, fresh_mail, hmail, fdId]
  rw [takeMail_front (a := (s.m.fd d).claim) rfl]
  exact if_neg (show ¬ (!(s.m.fresh.withMail rest).fdReach l d ||
    (s.m.fd d).claim != ((s.m.fresh.withMail rest).fd d).claim || _) = true by simp [reach, own])

theorem ends_releaseMsg (hmail : s.m.mail = ⟨l.num, 4 + d, .release (s.m.fd d).claim⟩ :: rest)
    (reach : s.m.fdReach l d = true) (own : claimLane (s.m.fd d).claim = l) :
    Ends (.releaseMsg l d) s fun t => SameStores s t ∧ t.m.mail = rest ∧ t.m.fds = upd s.m.fds d fun f =>
      { f with vacant := true, vacantAt := s.m.now, vacantTb := (f.tb s.m.now).toNat } :=
  (does_releaseMsg hmail reach own).ends ⟨⟨commit_mem_of_quiet _ _ (by simp [vacate]), rfl⟩, rfl, rfl⟩

end

/-! ### A die's side: the times that run out (R184, R276) -/

section
variable {s : State} {d : Nat} (up : s.m.fdUp d = true)
include up

theorem does_vacancy (held : (s.m.fd d).vacant = false) (two : s.m.variant.nLane = 2) :
    Does (.vacancy d) s fun _ m => vacate d (clockTo ((m.fd d).heartAt + (m.fd d).tVacantNs) m) := by
  have b : Does (.vacancy d) s (vacancyBody d) := rfl
  exact b.congr (if_neg (by simp [up, held, two]))

theorem ends_vacancy (held : (s.m.fd d).vacant = false) (two : s.m.variant.nLane = 2) :
    Ends (.vacancy d) s fun t => SameStores s t ∧
      t.m.now = max s.m.now ((s.m.fd d).heartAt + (s.m.fd d).tVacantNs) ∧
      t.m.fds = upd s.m.fds d fun f => { f with vacant := true, vacantAt := t.m.now, vacantTb := (f.tb t.m.now).toNat } :=
  (does_vacancy up held two).ends ⟨⟨commit_mem_of_quiet _ _ (by simp [vacate]), rfl⟩, rfl, rfl⟩

theorem does_tSafeExpiry (fitted : (s.m.fd d).bank.isSome = true) (waits : (s.m.fd d).tSafeDone = false) :
    Does (.tSafeExpiry d) s fun _ m => tSafeExpire d (clockTo ((s.m.fd d).heartAt + (s.m.fd d).tSafeNs) m) := by
  have b : Does (.tSafeExpiry d) s (tSafeExpiryBody d) := rfl
  exact b.congr (if_neg (by simp [up, Option.isNone_eq_false_iff.mpr fitted, waits]))

end

/-- Settles O13: each command of a lane and a die past its guard, a heartbeat by whether the die finds it valid. -/
theorem heartbeatsGuardTheDies : Obligations.HeartbeatsGuardTheDies := by
  intro s l d
  refine ⟨fun holds keeps => ⟨?_, does_heartbeatTick holds keeps⟩, ?_, ?_, ?_,
    fun up held two => ⟨ends_vacancy up held two, does_vacancy up held two⟩,
    fun up fitted waits => does_tSafeExpiry up fitted waits,
    fun rest hmail reach own => ⟨ends_releaseMsg hmail reach own, does_releaseMsg hmail reach own⟩⟩
  · obtain ⟨t, next, same, now, lane, mail⟩ := ends_heartbeatTick holds keeps
    refine ⟨t, next, same, now, by rw [lane], ?_⟩
    simpa only [Module.heartbeat, Module.us, lane] using mail
  · intro k q tb off slot st mac rest sealed hmail reach own unarmed
    obtain ⟨t, next, same, mail, fds, die⟩ := ends_heartbeatReceived_valid hmail reach rfl own sealed unarmed
    refine ⟨t, next, same, mail, fds, ?_⟩
    rw [die]
    exact ⟨rfl, rfl, rfl, rfl, rfl, rfl⟩
  · exact fun k q tb off slot st mac rest sealed hmail reach own =>
      does_heartbeatReceived_valid hmail reach rfl own sealed
  · exact fun c k q tb off slot st mac rest hmail invalid => ends_heartbeatReceived_invalid hmail invalid

end Sys2Proof.Machine
end

section
/-! Admission: the rounds of the active lane's arbiter, and a grant at its die (R211 to R215). -/

namespace Sys2Proof.Machine

/-! ### One slot granted (R212, R213) -/

/-- A request granted: the grant goes to its die under a claim, and its slot of the budget is taken. -/
def grantSlot (l : LaneId) (claim : Nat) (x : Nat × Nat × Nat) (m : Module) : Module :=
  (send l.num (4 + x.1 / 64) (.grant claim (x.1 % 64)) m).updLane l fun L => { L with mot := { L.mot with
    requests := L.mot.requests.filter (·.1 != x.1), granted := L.mot.granted ++ [x.1]
    waitMax := max L.mot.waitMax ((m.now - x.2.1) / 1000) } }

/-- The highest number of slots taken at once, brought up to date. -/
def notePeak (l : LaneId) (m : Module) : Module :=
  m.updLane l fun L => { L with mot := { L.mot with peak := max L.mot.peak L.mot.granted.length } }

section
variable (l : LaneId) (claim : Nat) (xs : List (Nat × Nat × Nat)) (m : Module)

theorem fds_grantSlots : (forEach xs (grantSlot l claim) m).fds = m.fds :=
  forEach_part (·.fds) xs _ (fun _ _ => by simp [grantSlot]) m

theorem nvmOut_grantSlots : (forEach xs (grantSlot l claim) m).nvmOut = m.nvmOut :=
  forEach_part (·.nvmOut) xs _ (fun _ _ => by simp [grantSlot]) m

theorem budget_grantSlots : ((forEach xs (grantSlot l claim) m).lane l).budget = (m.lane l).budget :=
  forEach_part (fun m => (m.lane l).budget) xs _ (fun _ _ => by simp [grantSlot, Lane.budget]) m

theorem granted_grantSlots :
    ((forEach xs (grantSlot l claim) m).lane l).mot.granted = (m.lane l).mot.granted ++ xs.map (·.1) := by
  induction xs generalizing m with
  | nil => simp
  | cons x xs ih => rw [forEach_cons, ih]; simp [grantSlot]

theorem mail_grantSlots : (forEach xs (grantSlot l claim) m).mail =
    m.mail ++ xs.map fun x => (⟨l.num, 4 + x.1 / 64, .grant claim (x.1 % 64)⟩ : Mail) := by
  induction xs generalizing m with
  | nil => simp
  | cons x xs ih => rw [forEach_cons, ih]; simp [grantSlot]

end

/-! ### A round (R211 to R215) -/

/-- The requests that a round grants: those of dies that the lane reaches and that hear it, in their order, as far as the
budget has free slots (R211, R212, R215). -/
def Module.admitted (m : Module) (l : LaneId) : List (Nat × Nat × Nat) :=
  (((m.lane l).mot.requests.filter fun x => m.fdReach l (x.1 / 64) && !(m.fd (x.1 / 64)).vacant).foldr insertReq []).take
    ((m.lane l).budget - (m.lane l).mot.granted.length)

@[simp] theorem fresh_admitted (m : Module) (l : LaneId) : m.fresh.admitted l = m.admitted l := by
  simp [Module.admitted]

theorem length_admitted (m : Module) (l : LaneId) :
    (m.admitted l).length ≤ (m.lane l).budget - (m.lane l).mot.granted.length := List.length_take_le ..

/-- A round that makes grants. -/
def admitRound (l : LaneId) (m : Module) : Module :=
  notePeak l (forEach (m.admitted l) (grantSlot l (m.lane l).red.claim) m)

section
variable (l : LaneId) (m : Module)

theorem fds_admitRound : (admitRound l m).fds = m.fds := by simp [admitRound, notePeak, fds_grantSlots]

theorem nvmOut_admitRound : (admitRound l m).nvmOut = m.nvmOut := by simp [admitRound, notePeak, nvmOut_grantSlots]

theorem budget_admitRound : ((admitRound l m).lane l).budget = (m.lane l).budget := by
  rw [← budget_grantSlots l (m.lane l).red.claim (m.admitted l) m]
  simp [admitRound, notePeak, Lane.budget]

theorem granted_admitRound : ((admitRound l m).lane l).mot.granted =
    (m.lane l).mot.granted ++ (m.admitted l).map (·.1) := by
  simp [admitRound, notePeak, granted_grantSlots]

theorem mail_admitRound : (admitRound l m).mail = m.mail ++ (m.admitted l).map fun x =>
    (⟨l.num, 4 + x.1 / 64, .grant (m.lane l).red.claim (x.1 % 64)⟩ : Mail) := by
  simp [admitRound, notePeak, mail_grantSlots]

/-- A round that begins within the budget ends within it: it grants no more than the free slots (R211). -/
theorem admitRound_within (h : (m.lane l).mot.granted.length ≤ (m.lane l).budget) :
    ((admitRound l m).lane l).mot.granted.length ≤ ((admitRound l m).lane l).budget := by
  rw [budget_admitRound, granted_admitRound, List.length_append, List.length_map]
  have free := length_admitted m l
  omega

end

/-- The arbiter of a lane may grant: the lane is active, its governor is below the second step, and the dies of a raise have
been heard (R212, R214). -/
structure Lane.Admits (L : Lane) : Prop where
  holds : L.red.holds = true
  step : L.pwr.step < 2
  heard : L.mot.await = []

section
variable {s : State} {l : LaneId}

theorem does_admissionRound (h : (s.m.lane l).Admits) : Does (.admissionRound l) s fun _ m => admitRound l m := by
  have b : Does (.admissionRound l) s (admissionRoundBody l) := rfl
  exact b.congr (if_neg (by simp [h.holds, h.heard, Nat.not_le.mpr h.step]))

theorem does_admissionRound_still (h : ¬ (s.m.lane l).Admits) : Does (.admissionRound l) s fun _ m => m := by
  have b : Does (.admissionRound l) s (admissionRoundBody l) := rfl
  refine b.congr (if_pos ?_)
  by_contra k
  simp only [fresh_lane, Bool.or_eq_true, Bool.not_eq_true', decide_eq_true_eq, not_or, Bool.not_eq_false,
    List.isEmpty_iff, Nat.not_le] at k
  exact h ⟨k.1.1, k.1.2, k.2⟩

theorem ends_admissionRound (h : (s.m.lane l).Admits) : Ends (.admissionRound l) s fun t =>
    SameStores s t ∧ t.m.fds = s.m.fds ∧
    (t.m.lane l).mot.granted = (s.m.lane l).mot.granted ++ (s.m.admitted l).map (·.1) ∧
    t.m.mail = s.m.mail ++ (s.m.admitted l).map fun x =>
      (⟨l.num, 4 + x.1 / 64, .grant (s.m.lane l).red.claim (x.1 % 64)⟩ : Mail) :=
  (does_admissionRound h).ends ⟨⟨commit_mem_of_quiet _ _ (by rw [nvmOut_admitRound, fresh_nvmOut]), rfl⟩,
    by simp [fds_admitRound], by simp [granted_admitRound], by simp [mail_admitRound]⟩

end

/-- Settles O29: a round either makes grants within the free slots, or changes nothing, as from the governor's second step
on. -/
theorem admissionKeepsTheBudget : Obligations.AdmissionKeepsTheBudget := by
  intro s t l next
  by_cases h : (s.m.lane l).Admits
  · obtain rfl : commit s (fun _ m => admitRound l m) = t :=
      Host.Outcome.next.inj ((does_admissionRound h).symm.trans next)
    refine ⟨fun within => ?_, fun late => absurd h.step (Nat.not_lt.mpr late)⟩
    simpa using admitRound_within l s.m.fresh (by simpa using within)
  · obtain rfl : commit s (fun _ m => m) = t :=
      Host.Outcome.next.inj ((does_admissionRound_still h).symm.trans next)
    simp

/-! ### A grant at its die (R20, R213, R215) -/

@[simp] theorem fresh_axis (m : Module) (d c : Nat) : m.fresh.axis d c = m.axis d c := rfl

@[simp] theorem withMail_axis (m : Module) (xs : List Mail) (d c : Nat) : (m.withMail xs).axis d c = m.axis d c := rfl

theorem takeTo_front {α : Type} {src dst : Nat} {sel : Msg → Option α} {msg : Msg} {a : α} {rest : List Mail}
    (h : sel msg = some a) : takeTo dst sel (⟨src, dst, msg⟩ :: rest) = some (src, a, rest) := by
  simp [takeTo, h]

section
variable {s : State} {d src claim ch : Nat} {rest : List Mail}
  (hmail : s.m.mail = ⟨src, 4 + d, .grant claim ch⟩ :: rest)
include hmail

/-- The grant that a die receives, by its claim and by whether its axis still waits. -/
theorem does_admissionGrant : Does (.admissionGrant d) s fun _ m =>
    let m := m.withMail rest
    if !m.fdReach (laneOfDie src) d || claim != (m.fd d).claim || claimLane claim != laneOfDie src then m
    else if (m.axis d ch).state == .waiting && !(m.fd d).vacant then m.updAxis d ch fun a => { a with granted := true }
    else m.updFd d fun fd => { fd with relSlots := fd.relSlots ++ [ch] } := by
  have b : Does (.admissionGrant d) s (admissionGrantBody d) := rfl
  refine b.congr ?_
  simp only [admissionGrantBody, fresh_mail, hmail, fdId]
  rw [takeTo_front (a := (claim, ch)) rfl]
  rfl

theorem does_admissionGrant_passed (other : s.m.fdReach (laneOfDie src) d = false ∨ claim ≠ (s.m.fd d).claim ∨
    claimLane claim ≠ laneOfDie src) : Does (.admissionGrant d) s fun _ m => m.withMail rest :=
  (does_admissionGrant hmail).congr (if_pos (by obtain h | h | h := other <;> simp [h]))

section
variable (reach : s.m.fdReach (laneOfDie src) d = true) (held : claim = (s.m.fd d).claim)
  (own : claimLane claim = laneOfDie src)
include reach held own

theorem does_admissionGrant_taken (waits : (s.m.axis d ch).state = .waiting) (heard : (s.m.fd d).vacant = false) :
    Does (.admissionGrant d) s fun _ m => (m.withMail rest).updAxis d ch fun a => { a with granted := true } := by
  refine (does_admissionGrant hmail).congr ((if_neg ?_).trans (if_pos ?_))
  · simp [reach, own, ← held]
  · simp [waits, heard]

theorem does_admissionGrant_returned (gone : (s.m.axis d ch).state ≠ .waiting ∨ (s.m.fd d).vacant = true) :
    Does (.admissionGrant d) s fun _ m => (m.withMail rest).updFd d fun fd => { fd with
      relSlots := fd.relSlots ++ [ch] } := by
  refine (does_admissionGrant hmail).congr ((if_neg ?_).trans (if_neg ?_))
  · simp [reach, own, ← held]
  · obtain h | h := gone <;> simp [h]

end
end

end Sys2Proof.Machine
end

section
/-! An axis of a field die: how it reads after a change, and that its updates act on its die's axes and outputs alone beside
what is told of them. -/

namespace Sys2Proof.Machine

/-! ### Reading and changing an axis -/

/-- A die has an axis. -/
structure Module.HasAxis (d c : Nat) (m : Module) : Prop where
  within : d < m.fds.length
  fitted : c < (m.fd d).axes.length

section
variable {d c : Nat} {m n : Module}

theorem updFd_congr {f g : FieldDie → FieldDie} (h : f (m.fd d) = g (m.fd d)) : m.updFd d f = m.updFd d g := by
  simp only [Module.updFd]
  congr 1
  exact upd_eq_upd fun x hx => by rwa [Module.fd, at?, hx, Option.getD_some] at h

/-- Only what is done to the axis as it stands counts. -/
theorem updAxis_congr {f g : Axis → Axis} (h : f (m.axis d c) = g (m.axis d c)) : m.updAxis d c f = m.updAxis d c g := by
  refine updFd_congr ?_
  congr 1
  exact upd_eq_upd fun a ha => by rwa [Module.axis, at?, ha, Option.getD_some] at h

theorem updAxis_self {f : Axis → Axis} (h : f (m.axis d c) = m.axis d c) : m.updAxis d c f = m := by
  have id_ {α : Type} (xs : List α) (n : Nat) : upd xs n id = xs := List.modify_id ..
  rw [updAxis_congr (g := id) h, Module.updAxis, updFd_congr (g := id) (by rw [id_]; rfl), Module.updFd, id_]

@[simp] theorem updAxis_updAxis (f g : Axis → Axis) :
    (m.updAxis d c f).updAxis d c g = m.updAxis d c fun a => g (f a) := by
  simp only [Module.updAxis, updFd_updFd, upd, List.modify_modify_eq]
  rfl

/-- A part of an axis that a change leaves stays, whether or not the die has the axis. -/
theorem part_updAxis {β : Type} (g : Axis → β) {f : Axis → Axis} (h : g (f (m.axis d c)) = g (m.axis d c)) :
    g ((m.updAxis d c f).axis d c) = g (m.axis d c) :=
  part_updFd_at d m (fun x => g (at? x.axes c {})) (part_upd g c fun _ => h)

@[simp] theorem chan_updAxis (f : Axis → Axis) : (m.updAxis d c f).chan d c = m.chan d c :=
  part_updFd d m (fun x => at? x.chans c {}) (by exact fun _ => rfl) d

@[simp] theorem outp_updAxis (f : Axis → Axis) (b k : Nat) : ((m.updAxis d c f).fd d).outp b k = (m.fd d).outp b k :=
  part_updFd d m (fun x => x.outp b k) (by exact fun _ => rfl) d

theorem axis_of_blank (h : n.blank = m.blank) (c : Nat) : n.axis d c = m.axis d c := by
  have axes : (n.fd d).axes = (m.fd d).axes := (congrArg FieldDie.axes (fd_of_blank h d) :)
  rw [Module.axis, axes, Module.axis]

@[simp] theorem axis_raiseMot (bits : Nat) : (raiseMot d bits m).axis d c = m.axis d c := by
  simp only [raiseMot]
  split
  · exact axis_of_blank (blank_raise ..) c
  · rfl

@[simp] theorem axis_reportFd (b e x y z : Nat) : (reportFd d b e x y z m).axis d c = m.axis d c :=
  axis_of_blank (blank_reportFd ..) c

@[simp] theorem axis_refreshOut (b k : Nat) : (refreshOut d b k m).axis d c = m.axis d c := by
  obtain ⟨o, ls, e, -⟩ := refreshOut_eq d b k m
  rw [e]
  exact part_updFd d m (fun x => at? x.axes c {}) (by exact fun _ => rfl) d

theorem hasAxis_updAxis (f : Axis → Axis) : (m.updAxis d c f).HasAxis d c ↔ m.HasAxis d c := by
  have axes : ((m.updAxis d c f).fd d).axes.length = (m.fd d).axes.length :=
    part_updFd d m (·.axes.length) (fun _ => length_upd ..) d
  have dies : (m.updAxis d c f).fds.length = m.fds.length := length_fds_updFd ..
  constructor <;> rintro ⟨within, fitted⟩
  · exact ⟨by rwa [← dies], by rwa [← axes]⟩
  · exact ⟨by rwa [dies], by rwa [axes]⟩

/-- An axis with its die's other parts changed beside it. -/
theorem axis_updFd (h : m.HasAxis d c) {f : FieldDie → FieldDie} {g : Axis → Axis}
    (axes : (f (m.fd d)).axes = upd (m.fd d).axes c g) : (m.updFd d f).axis d c = g (m.axis d c) := by
  rw [Module.axis, fd_updFd _ _ _ h.within, axes, at?_upd _ _ _ _ h.fitted]
  rfl

@[simp] theorem axis_updAxis (h : m.HasAxis d c) (f : Axis → Axis) : (m.updAxis d c f).axis d c = f (m.axis d c) :=
  axis_updFd h rfl

/-! ### An axis stopped (R207 to R209, R213) -/

/-- An axis taken out of motion into a state. -/
def Axis.dropped (st : AxisState) (a : Axis) : Axis :=
  { a with state := st, queue := [], plan := none, speed := 0, granted := false }

theorem axis_axisDrop (h : m.HasAxis d c) (st : AxisState) : (axisDrop d c st m).axis d c = (m.axis d c).dropped st :=
  axis_updFd h (g := fun _ => (m.axis d c).dropped st) rfl

theorem hasAxis_axisDrop (h : m.HasAxis d c) (st : AxisState) : (axisDrop d c st m).HasAxis d c := by
  refine ⟨(length_fds_updFd ..).symm ▸ h.within, ?_⟩
  rw [axisDrop, fd_updFd _ _ _ h.within, length_upd]
  exact h.fitted

theorem axis_axisStallFault (h : m.HasAxis d c) : ∃ count, (axisStallFault d c m).axis d c =
    { ((m.axis d c).dropped .fault).fromEnc count with
      stall := true, stallCount := sat max32 ((m.axis d c).stallCount + 1) } := by
  refine ⟨(at? ((axisDrop d c .fault m).fd d).chans c {}).enc, ?_⟩
  rw [axisStallFault, axis_reportFd, axis_raiseMot, axis_updFd (hasAxis_axisDrop h .fault) rfl, axis_axisDrop h]
  rfl

/-- An axis is in FAULT with nothing that keeps it there but its output's fault. -/
def Axis.cleared (a : Axis) : Bool := a.state == .fault && !a.stall && !a.limit

theorem axisUnfault_of_not_cleared (h : (m.axis d c).cleared = false) : axisUnfault d c m = m :=
  if_neg (by
    change ¬ ((m.axis d c).cleared && _) = true
    simp [h])

theorem axisUnfault_of_cleared (h : (m.axis d c).cleared = true) (sound : ((m.fd d).outp c 0).fault = 0) :
    axisUnfault d c m = m.updAxis d c fun a => { a.fromEnc (m.chan d c).enc with state := .standstill } := by
  refine (if_pos ?_).trans (updFd_congr rfl)
  change ((m.axis d c).cleared && _) = true
  simp [h, sound]

end

/-! ### What an axis's update leaves alone -/

section
variable (d c : Nat) (m : Module)

@[simp] theorem hull_updAxis (f : Axis → Axis) : (m.updAxis d c f).hull = m.hull := hull_updFd _ _ _ fun _ => rfl

@[simp] theorem hull_refreshOut (n : Nat) : (refreshOut d c n m).hull = m.hull := hull_of_shell (shell_refreshOut ..)

@[simp] theorem hull_axisUnfault : (axisUnfault d c m).hull = m.hull := hull_of_shell (shell_axisUnfault ..)

@[simp] theorem hull_raiseMot (bits : Nat) : (raiseMot d bits m).hull = m.hull := by
  simp only [raiseMot]
  split <;> simp

@[simp] theorem hull_axisDrop (st : AxisState) : (axisDrop d c st m).hull = m.hull := hull_updFd _ _ _ fun _ => rfl

@[simp] theorem hull_axisLimit (pos spd : Int) : (axisLimit d c pos spd m).hull = m.hull := by simp [axisLimit]

@[simp] theorem hull_axisStallFault : (axisStallFault d c m).hull = m.hull := by
  rw [axisStallFault, hull_reportFd, hull_raiseMot, hull_updFd, hull_axisDrop]
  exact fun _ => rfl

@[simp] theorem hull_axisReject (op code : Nat) : (axisReject d c op code m).hull = m.hull := by simp [axisReject]

@[simp] theorem hull_axisAck (bits source : Nat) : (axisAck d c bits source m).hull = m.hull := by
  simp only [axisAck]
  split <;> simp

/-- An axis with the limit that it meets on its way (R204). -/
theorem hull_limitMet (x : Option (Int × Int)) :
    (match x with | none => m | some l => axisLimit d c l.1 l.2 m).hull = m.hull := by
  cases x <;> simp

@[simp] theorem hull_axisInterval : (axisInterval d c m).hull = m.hull := by
  simp only [axisInterval, hull_axisUnfault, apply_ite Module.hull, hull_axisStallFault, ite_self]
  exact (hull_limitMet ..).trans (hull_updAxis ..)

@[simp] theorem hull_axisAdvance : (axisAdvance d c m).hull = m.hull := by
  simp only [axisAdvance]
  split
  · exact (hull_limitMet ..).trans (hull_updAxis ..)
  · rfl

@[simp] theorem hull_axisFirst (mv : Move) : (axisFirst d c mv m).hull = m.hull := by
  simp only [axisFirst]
  split_ifs <;> simp

@[simp] theorem hull_axisMove (mv : Move) : (axisMove d c mv m).hull = m.hull := by
  rw [axisMove]
  split <;> simp

@[simp] theorem hull_axisStopNow : (axisStopNow d c m).hull = m.hull := by
  simp only [axisStopNow]
  split
  · simp
  · split
    · rw [hull_updFd, hull_updAxis]
      exact fun _ => rfl
    · simp
  · rfl

@[simp] theorem hull_axisReplace (mv : Move) : (axisReplace d c mv m).hull = m.hull := by
  simp only [axisReplace]
  split
  · split_ifs <;> simp
  · rw [apply_ite Module.hull, hull_updAxis, hull_updAxis, ite_self]
  · simp

/-- A speed as COMMISSION lets a die take it (R42). -/
def FieldDie.speedFor (x : FieldDie) (speed : Nat) : Nat :=
  match x.bank with
  | some b => if x.inComm then min speed b.safety.commMaxRate else speed
  | none => speed

/-- What a sound record does, by its operation (R199 to R205, R209). -/
def axisDo (d c : Nat) (rec : Bytes) (m : Module) : Module :=
  let a := m.axis d c
  let target := leIntAt rec 4 4
  let speed := (m.fd d).speedFor (leAt rec 8 4)
  match leAt rec 0 1 with
  | 1 => axisMove d c (a.moveTo target speed) m
  | 2 => axisMove d c (a.moveTo ((match a.queue.getLast? with | some l => l.target | none => a.pCmd) + target) speed) m
  | 3 => axisReplace d c (a.moveTo target speed) m
  | 4 => axisStopNow d c m
  | 5 => m.updAxis d c fun a => Axis.setRamps m.now (leAt rec 12 4) (leAt rec 16 4) a
  | 6 =>
    let m := m.updFd d fun fd => { fd with axes := upd fd.axes c fun a =>
      { a with pCmd := target, pRef := target, cRef := (at? fd.chans c {}).enc, referenced := true } }
    reportFd d 7 0x4105 (64 * d + c) (ofS 32 a.pCmd) (ofS 32 target) m
  | 7 => axisAck d c 3 0 m
  | _ => m

@[simp] theorem hull_axisDo (rec : Bytes) : (axisDo d c rec m).hull = m.hull := by
  unfold axisDo
  extract_lets a target speed n
  split
  · exact hull_axisMove ..
  · exact hull_axisMove ..
  · exact hull_axisReplace ..
  · exact hull_axisStopNow ..
  · exact hull_updAxis ..
  · exact (hull_reportFd ..).trans (hull_updFd _ _ _ fun _ => rfl)
  · exact hull_axisAck ..
  · rfl

/-- The first reason against a record, 0 for none (R198). -/
def Axis.verdict (rec : Bytes) (a : Axis) : Nat :=
  a.judge (leAt rec 0 1) (leIntAt rec 4 4) (leAt rec 8 4) (leAt rec 12 4) (leAt rec 16 4)

/-- A record noted as seen (R196). -/
def Axis.noted (rec : Bytes) (a : Axis) : Axis := { a with ackSeq := leAt rec 1 1, cmd := none }

theorem axisAct_eq (rec : Bytes) : axisAct d c rec m =
    let n := axisAdvance d c (m.updAxis d c (Axis.noted rec))
    refreshOut d c 0 (if (n.axis d c).verdict rec ≠ 0 then axisReject d c (leAt rec 0 1) ((n.axis d c).verdict rec) n
      else axisDo d c rec n) := rfl

@[simp] theorem hull_axisAct (rec : Bytes) : (axisAct d c rec m).hull = m.hull := by
  simp [axisAct_eq, apply_ite Module.hull]

@[simp] theorem hull_axisTake (ok : Nat → Bool) : (axisTake d c ok m).hull = m.hull := by
  rw [axisTake]
  split
  · rfl
  · split <;> simp

@[simp] theorem hull_axisHoldEnd : (axisHoldEnd d c m).hull = m.hull := by simp [axisHoldEnd]

/-- What an axis does once its record is taken: a granted move begins, and a hold time that is over ends (R192). -/
def axisGoOn (d c : Nat) (m : Module) : Module :=
  let a := m.axis d c
  let m :=
    if a.state == .waiting && a.granted then m.updAxis d c fun a => { a with granted := false }.begin m.now 0
    else m
  let a := m.axis d c
  let m :=
    if a.state == .holding && decide (a.holdAt + a.item.holdTime * 1000000 ≤ m.now) then axisHoldEnd d c m else m
  refreshOut d c 0 m

@[simp] theorem hull_axisGoOn : (axisGoOn d c m).hull = m.hull := by
  rw [axisGoOn, hull_refreshOut, apply_ite Module.hull, hull_axisHoldEnd, ite_self, apply_ite Module.hull, hull_updAxis,
    ite_self]

/-- The profile update of an axis that is due: the interval just ended, a changed item, the record, and what then goes on
(R192). -/
theorem axisUpdate_due (due : (m.axis d c).updAt < m.now) (fitted : (m.axis d c).state ≠ .notAxis) : axisUpdate d c m =
    axisGoOn d c (axisTake d c (fun _ => true) (axisItem d c (axisInterval d c
      (m.updAxis d c fun a => { a with updAt := m.now })))) :=
  (if_neg (by simpa using due)).trans (if_neg (by simpa using fitted))

/-- On a channel that is no axis a record is only rejected (R198). -/
theorem axisUpdate_notAxis (due : (m.axis d c).updAt < m.now) (fitted : (m.axis d c).state = .notAxis) :
    axisUpdate d c m = axisTake d c (fun _ => true) m :=
  (if_neg (by simpa using due)).trans (if_pos (by simpa using fitted))

theorem axisUpdate_done (done : m.now ≤ (m.axis d c).updAt) : axisUpdate d c m = m := if_pos (by simpa using done)

@[simp] theorem hull_axisUpdate : (axisUpdate d c m).hull = m.hull := by
  by_cases due : (m.axis d c).updAt < m.now
  · by_cases fitted : (m.axis d c).state = .notAxis
    · rw [axisUpdate_notAxis d c m due fitted, hull_axisTake]
    · rw [axisUpdate_due d c m due fitted, hull_axisGoOn, hull_axisTake, axisItem, hull_updAxis, hull_axisInterval,
        hull_updAxis]
  · rw [axisUpdate_done d c m (Nat.not_lt.mp due)]

end
end Sys2Proof.Machine
end

section
/-! The profile update of an axis that does not move: the interval just ended, the record that it takes and what then goes on
(R192, R196 to R198, R206, R210). -/

namespace Sys2Proof.Machine

/-! ### The interval just ended (R206) -/

/-- The deviation of an axis (R206). -/
def Axis.off (count : BitVec 32) (a : Axis) : Int := a.pCmd - a.pEnc count

/-- An axis under the stall test deviates by more than its window (R206). -/
def Axis.strays (count : BitVec 32) (a : Axis) : Bool := a.tested && decide ((a.off count).natAbs > a.item.window)

/-- An axis that did not move, with the deviation of the interval just ended (R206). -/
def Axis.watched (count : BitVec 32) (a : Axis) : Axis :=
  { a with dev := if a.tested then a.off count else a.dev, beyond := if a.strays count then a.beyond + 1 else 0 }

/-- The deviation has lain beyond the window for the updates given (R207). -/
def Axis.stalls (count : BitVec 32) (a : Axis) : Bool :=
  a.strays count && decide ((a.watched count).beyond ≥ a.item.windowUpdates)

/-- An axis that does not move is looked at: it may stall, and a fault that has gone lets it stand still (R206, R209). -/
theorem axisInterval_still {d c : Nat} {m : Module} (still : (m.axis d c).state ≠ .moving) : axisInterval d c m =
    axisUnfault d c (if (m.axis d c).stalls (m.chan d c).enc then
      axisStallFault d c (m.updAxis d c (Axis.watched (m.chan d c).enc))
      else m.updAxis d c (Axis.watched (m.chan d c).enc)) := by
  have rest : ((at? (m.fd d).axes c {}).state == .moving) = false := beq_eq_false_iff_ne.mpr still
  rw [updAxis_congr (f := Axis.watched (m.chan d c).enc) (g := fun _ => (m.axis d c).watched (m.chan d c).enc) rfl]
  simp only [axisInterval, rest, Bool.false_eq_true, if_false]
  rfl

section
variable {d c : Nat} {m : Module}

/-- An axis within its window, which no fault that has gone holds, is only looked at. -/
theorem axisInterval_near (still : (m.axis d c).state ≠ .moving) (near : (m.axis d c).strays (m.chan d c).enc = false)
    (held : (m.axis d c).cleared = false) :
    axisInterval d c m = m.updAxis d c (Axis.watched (m.chan d c).enc) := by
  rw [axisInterval_still still, if_neg (by simp [Axis.stalls, near])]
  exact axisUnfault_of_not_cleared ((part_updAxis Axis.cleared rfl).trans held)

theorem axisItem_none (h : (m.axis d c).nextItem = none) : axisItem d c m = m := updAxis_self (by simp only [h])

/-! ### The record (R192, R196 to R198) -/

theorem axisTake_none (h : (m.axis d c).cmd = none) (ok : Nat → Bool) : axisTake d c ok m = m := by simp [axisTake, h]

theorem axisTake_record {rec : Bytes} (h : (m.axis d c).cmd = some rec) (up : m.fdUp d = true) :
    axisTake d c (fun _ => true) m = axisAct d c rec m := by simp [axisTake, h, up]

theorem axisAdvance_still (still : (m.axis d c).state ≠ .moving) : axisAdvance d c m = m := if_neg (by simpa using still)

theorem axisAct_still (still : (m.axis d c).state ≠ .moving) (rec : Bytes) : axisAct d c rec m =
    refreshOut d c 0 (if (m.axis d c).verdict rec ≠ 0 then
      axisReject d c (leAt rec 0 1) ((m.axis d c).verdict rec) (m.updAxis d c (Axis.noted rec))
      else axisDo d c rec (m.updAxis d c (Axis.noted rec))) := by
  have rest : ((m.updAxis d c (Axis.noted rec)).axis d c).state ≠ .moving := (part_updAxis Axis.state rfl).trans_ne still
  have same : ((m.updAxis d c (Axis.noted rec)).axis d c).verdict rec = (m.axis d c).verdict rec :=
    part_updAxis (Axis.verdict rec) rfl
  rw [axisAct_eq, axisAdvance_still rest]
  simp only [same]

theorem verdict_notAxis {a : Axis} (h : a.state = .notAxis) (rec : Bytes) : a.verdict rec = 6 := by
  simp [Axis.verdict, Axis.judge, h]

/-! ### What goes on (R192, R210) -/

/-- An axis on which an update goes on to nothing: no granted move waits, and no hold time runs. -/
structure Axis.Rests (a : Axis) : Prop where
  waits : a.state = .waiting → a.granted = false
  holds : a.state ≠ .holding

/-- An axis with the parts as a new one's that its motion changes. -/
def Axis.parked (a : Axis) : Axis :=
  { a with state := .notAxis, dirNeg := false, accPending := false, speed := 0, acc := 0, dec := 0, pending := none
           queue := [], plan := none, granted := false }

theorem axisGoOn_rest (h : (m.axis d c).Rests) : axisGoOn d c m = refreshOut d c 0 m := by
  have waits : ((m.axis d c).state == .waiting && (m.axis d c).granted) = false := by
    by_cases w : (m.axis d c).state = .waiting
    · simp [h.waits w]
    · simp [w]
  simp [axisGoOn, waits, h.holds]

/-- The hold time of an axis that holds is over: it stands still, and its queue is empty (R210). -/
theorem axis_axisGoOn_holdEnd (h : m.HasAxis d c) (holds : (m.axis d c).state = .holding)
    (past : (m.axis d c).holdAt + (m.axis d c).item.holdTime * 1000000 ≤ m.now) :
    (axisGoOn d c m).axis d c = (m.axis d c).dropped .standstill := by
  simp [axisGoOn, holds, past, axisHoldEnd, axis_axisDrop h]

theorem parked_begin (t vs : Nat) (a : Axis) : (a.begin t vs).parked = a.parked := by
  unfold Axis.begin
  split <;> rfl

/-- What goes on after the record concerns the motion of the axis alone. -/
theorem parked_axisGoOn : ((axisGoOn d c m).axis d c).parked = (m.axis d c).parked := by
  have begun (m : Module) : ((m.updAxis d c fun a => { a with granted := false }.begin m.now 0).axis d c).parked =
      (m.axis d c).parked := part_updAxis Axis.parked (parked_begin ..)
  have ended (m : Module) : ((axisHoldEnd d c m).axis d c).parked = (m.axis d c).parked := by
    rw [axisHoldEnd, axis_refreshOut]
    exact part_updFd_at d m (fun x => (at? x.axes c {}).parked) (part_upd Axis.parked c fun _ => rfl)
  have ite (p : Prop) [Decidable p] {k n : Module} (h : (k.axis d c).parked = (n.axis d c).parked) :
      ((if p then k else n).axis d c).parked = (n.axis d c).parked := by
    split
    · exact h
    · rfl
  rw [axisGoOn, axis_refreshOut]
  exact (ite _ (ended _)).trans (ite _ (begun m))

/-! ### The update as a whole (R192) -/

/-- An axis that does not move at its update, within its window. -/
def Axis.rested (now : Nat) (count : BitVec 32) (a : Axis) : Axis :=
  { a with updAt := now, dev := if a.tested then a.off count else a.dev, beyond := 0 }

/-- An axis that does not move and stays within its window, with no fault that has gone and no changed item. -/
structure Axis.Steady (count : BitVec 32) (a : Axis) : Prop where
  still : a.state ≠ .moving
  near : (a.off count).natAbs ≤ a.item.window
  held : a.cleared = false
  item : a.nextItem = none

theorem strays_of_near {a : Axis} {count : BitVec 32} (near : (a.off count).natAbs ≤ a.item.window) :
    a.strays count = false := by simp [Axis.strays, near]

theorem axisUpdate_steady (due : (m.axis d c).updAt < m.now) (fitted : (m.axis d c).state ≠ .notAxis)
    (h : (m.axis d c).Steady (m.chan d c).enc) : axisUpdate d c m =
    axisGoOn d c (axisTake d c (fun _ => true) (m.updAxis d c (Axis.rested m.now (m.chan d c).enc))) := by
  obtain ⟨still, near, held, item⟩ := h
  have calm := strays_of_near near
  have look : (m.updAxis d c fun a => { a with updAt := m.now }).updAxis d c (Axis.watched (m.chan d c).enc) =
      m.updAxis d c (Axis.rested m.now (m.chan d c).enc) := by
    rw [updAxis_updAxis]
    refine updAxis_congr ?_
    have calm' : Axis.strays (m.chan d c).enc { m.axis d c with updAt := m.now } = false := calm
    simp only [Axis.watched, calm', Bool.false_eq_true, if_false]
    rfl
  rw [axisUpdate_due d c m due fitted, axisInterval_near, chan_updAxis, look, axisItem_none]
  · exact (part_updAxis Axis.nextItem rfl).trans item
  · exact (part_updAxis Axis.state rfl).trans_ne still
  · rw [chan_updAxis]
    exact (part_updAxis (Axis.strays (m.chan d c).enc) rfl).trans calm
  · exact (part_updAxis Axis.cleared rfl).trans held

/-! ### The next update (R192) -/

/-- The module at the next profile update of an axis. -/
def Module.atNext (d c : Nat) (m : Module) : Module :=
  clockTo (m.gridAfter 100000 (max (m.fd d).updAt (m.axis d c).updAt)) m

theorem axisNext_eq : axisNext d c m = axisUpdate d c (m.atNext d c) := rfl

theorem lt_gridAfter (m : Module) (last : Nat) : last < m.gridAfter 100000 last := by
  rw [Module.gridAfter, if_neg (by decide)]
  omega

theorem now_atNext : (m.atNext d c).now = max m.now (m.gridAfter 100000 (max (m.fd d).updAt (m.axis d c).updAt)) := rfl

/-- The axis is due then: the next tick lies beyond its last update. -/
theorem due_atNext : ((m.atNext d c).axis d c).updAt < (m.atNext d c).now := by
  change (m.axis d c).updAt < _
  have later := lt_gridAfter m (max (m.fd d).updAt (m.axis d c).updAt)
  rw [now_atNext]
  omega

theorem now_axisNext : (axisNext d c m).now = (m.atNext d c).now := now_of_hull (hull_axisUpdate ..)

theorem nvmOut_axisNext : (axisNext d c m).nvmOut = m.nvmOut := 
  (nvmOut_of_hull (hull_axisUpdate d c (m.atNext d c))).trans (clockTo_nvmOut ..)

/-- The next state of a command that brings an axis to its next update. -/
theorem ends_axisNext {s : State} {i : Instr} (does : Does i s fun _ m => axisNext d c m) :
    Ends i s fun t => SameStores s t ∧ t.m.now = (s.m.atNext d c).now ∧
      t.m.axis d c = (axisNext d c s.m.fresh).axis d c :=
  does.ends ⟨⟨commit_mem_of_quiet _ _ (by rw [nvmOut_axisNext, fresh_nvmOut]), rfl⟩,
    by rw [commit_m, closed_now, now_axisNext]; rfl, rfl⟩

end
end Sys2Proof.Machine
end

section
/-! The commands of an axis: the record that it takes at its next update, what the record does, and how it is acknowledged
(R192, R196 to R205, R209). -/

namespace Sys2Proof.Machine

/-! ### What a sound record does, by its operation -/

/-- A move asked for, which waits for its grant (R199, R212). -/
def Axis.asked (now : Nat) (mv : Move) (a : Axis) : Axis :=
  { a with queue := [mv], state := .waiting, reqAt := now, granted := false }

/-- A position taken as the reference (R205). -/
def Axis.placed (target : Int) (count : BitVec 32) (a : Axis) : Axis :=
  { a with pCmd := target, pRef := target, cRef := count, referenced := true }

/-- A record counted as rejected, with its reason (R198). -/
def Axis.refused (code : Nat) (a : Axis) : Axis :=
  { a with rejectCount := sat 65535 (a.rejectCount + 1), rejectReason := code }

/-- An axis whose fault bits are acknowledged (R209). -/
def Axis.acknowledged (count : BitVec 32) (a : Axis) : Axis :=
  { ({ a with stall := false, limit := false } : Axis).fromEnc count with state := .standstill }

section
variable {d c : Nat} {m : Module} {rec : Bytes}

theorem fdUp_updAxis (f : Axis → Axis) : (m.updAxis d c f).fdUp d = m.fdUp d := by
  have powered : ((m.updAxis d c f).fd d).powered = (m.fd d).powered :=
    part_updFd d m FieldDie.powered (by exact fun _ => rfl) d
  have clock : ((m.updAxis d c f).fd d).clockFailed = (m.fd d).clockFailed :=
    part_updFd d m FieldDie.clockFailed (by exact fun _ => rfl) d
  rw [Module.fdUp, powered, clock]
  rfl

theorem speedFor_plain {x : FieldDie} (plain : x.inComm = false) (speed : Nat) : x.speedFor speed = speed := by
  rw [FieldDie.speedFor]
  split
  · rw [plain]
    rfl
  · rfl

theorem axisDo_moveAbs (op : leAt rec 0 1 = 1) (plain : (m.fd d).inComm = false) : axisDo d c rec m =
    axisMove d c ((m.axis d c).moveTo (leIntAt rec 4 4) (leAt rec 8 4)) m := by
  simp [axisDo, op, speedFor_plain plain]

theorem axisDo_moveRel (op : leAt rec 0 1 = 2) (plain : (m.fd d).inComm = false) (empty : (m.axis d c).queue = []) :
    axisDo d c rec m =
      axisMove d c ((m.axis d c).moveTo ((m.axis d c).pCmd + leIntAt rec 4 4) (leAt rec 8 4)) m := by
  simp [axisDo, op, speedFor_plain plain, empty]

theorem axisDo_replaceAbs (op : leAt rec 0 1 = 3) (plain : (m.fd d).inComm = false) : axisDo d c rec m =
    axisReplace d c ((m.axis d c).moveTo (leIntAt rec 4 4) (leAt rec 8 4)) m := by
  simp [axisDo, op, speedFor_plain plain]

theorem axisDo_stop (op : leAt rec 0 1 = 4) : axisDo d c rec m = axisStopNow d c m := by simp [axisDo, op]

theorem axisDo_setRamps (op : leAt rec 0 1 = 5) : axisDo d c rec m =
    m.updAxis d c (Axis.setRamps m.now (leAt rec 12 4) (leAt rec 16 4)) := by
  simp [axisDo, op]

theorem axisDo_ackFault (op : leAt rec 0 1 = 7) : axisDo d c rec m = axisAck d c 3 0 m := by simp [axisDo, op]

/-- A move that an axis at standstill takes waits for its grant. -/
theorem axisMove_standstill {mv : Move} (empty : (m.axis d c).queue = []) (stands : (m.axis d c).state = .standstill)
    (away : mv.target ≠ (m.axis d c).pCmd) : axisMove d c mv m = m.updAxis d c (Axis.asked m.now mv) := by
  simp only [axisMove, if_pos empty, axisFirst, if_neg away, stands]
  rfl

/-- A replacement takes the waiting move's place. -/
theorem axisReplace_waiting {mv : Move} (waits : (m.axis d c).state = .waiting) (away : mv.target ≠ (m.axis d c).pCmd) :
    axisReplace d c mv m = m.updAxis d c fun a => { a with queue := [mv] } := by
  simp only [axisReplace, waits, if_neg away]

/-- A stop takes the waiting move away. -/
theorem axisStopNow_waiting (waits : (m.axis d c).state = .waiting) (free : (m.axis d c).granted = false) :
    axisStopNow d c m = m.updAxis d c Axis.unwait := by
  simp [axisStopNow, waits, free]

/-- The two fault bits that an acknowledgement of both finds (R209). -/
theorem bits_of_faults : ∀ stall limit : Bool,
    let gone := 3 &&& (b2n stall + 2 * b2n limit)
    (stall && !nbit gone 0) = false ∧ (limit && !nbit gone 1) = false ∧ (gone = 0 → stall = false ∧ limit = false) := by
  decide

section
variable (has : m.HasAxis d c)
include has

theorem axis_axisDo_setPosition (op : leAt rec 0 1 = 6) : (axisDo d c rec m).axis d c =
    (m.axis d c).placed (leIntAt rec 4 4) (m.chan d c).enc := by
  simp only [axisDo, op, axis_reportFd]
  exact axis_updFd has rfl

theorem axis_axisReject (op code : Nat) : (axisReject d c op code m).axis d c = (m.axis d c).refused code := by
  rw [axisReject, axis_reportFd, axis_raiseMot, axis_updAxis has]
  rfl

theorem axis_axisAck_both (fault : (m.axis d c).state = .fault) (bad : (m.axis d c).stall = true ∨ (m.axis d c).limit = true)
    (sound : ((m.fd d).outp c 0).fault = 0) (source : Nat) : (axisAck d c 3 source m).axis d c =
      (m.axis d c).acknowledged (m.chan d c).enc := by
  obtain ⟨stall, limit, none_⟩ := bits_of_faults (m.axis d c).stall (m.axis d c).limit
  have some_ : 3 &&& (b2n (m.axis d c).stall + 2 * b2n (m.axis d c).limit) ≠ 0 := by
    intro gone
    obtain ⟨s, l⟩ := none_ gone
    simp [s, l] at bad
  have clear := updAxis_congr (m := m) (d := d) (c := c) (g := fun a => { a with stall := false, limit := false })
    (f := fun a => { a with
      stall := a.stall && !nbit (3 &&& (b2n (m.axis d c).stall + 2 * b2n (m.axis d c).limit)) 0
      limit := a.limit && !nbit (3 &&& (b2n (m.axis d c).stall + 2 * b2n (m.axis d c).limit)) 1 })
    (by simp only [stall, limit])
  have has' := (hasAxis_updAxis fun a => { a with stall := false, limit := false }).mpr has
  simp only [axisAck, if_neg some_, axis_reportFd, clear]
  rw [axisUnfault_of_cleared, axis_updAxis has', axis_updAxis has, chan_updAxis]
  · rfl
  · rw [axis_updAxis has, Axis.cleared, fault]
    rfl
  · rwa [outp_updAxis]

end

/-! ### The judgement of a record (R198) -/

theorem stands_of_setPosition {a : Axis} (op : leAt rec 0 1 = 6) (sound : a.verdict rec = 0) :
    a.state = .standstill ∨ a.state = .holding := by
  by_contra h
  rw [not_or] at h
  by_cases fitted : a.state = .notAxis
  · simp [verdict_notAxis fitted] at sound
  · simp [Axis.verdict, Axis.judge, op, h, fitted] at sound

theorem verdict_ackFault {a : Axis} (op : leAt rec 0 1 = 7) (fault : a.state = .fault) : a.verdict rec = 0 := by
  simp [Axis.verdict, Axis.judge, op, fault]

/-! ### The record at the next update -/

/-- An axis at its update has seen its record (R192, R196). -/
def Axis.seen (now : Nat) (count : BitVec 32) (rec : Bytes) (a : Axis) : Axis := (a.rested now count).noted rec

theorem seen_tested {a : Axis} (tested : a.tested = true) (now : Nat) (count : BitVec 32) (rec : Bytes) :
    a.seen now count rec = { a with
      ackSeq := leAt rec 1 1, cmd := none, updAt := now, dev := a.off count, beyond := 0 } := by
  simp only [Axis.seen, Axis.noted, Axis.rested, tested, if_true]

/-- A die's axis holds a record, outside COMMISSION, and at its next update it lies within its window with no changed item. -/
structure Module.Heeds (d c : Nat) (rec : Bytes) (m : Module) : Prop extends m.HasAxis d c where
  up : m.fdUp d = true
  record : (m.axis d c).cmd = some rec
  plain : (m.fd d).inComm = false
  item : (m.axis d c).nextItem = none
  near : ((m.axis d c).off (m.chan d c).enc).natAbs ≤ (m.axis d c).item.window

/-- An axis as its next update finds it, with its record seen. -/
def Module.nextSeen (d c : Nat) (rec : Bytes) (m : Module) : Axis :=
  (m.axis d c).seen (m.atNext d c).now (m.chan d c).enc rec

/-- The module as the record's operation finds it. -/
def Module.noticed (d c : Nat) (rec : Bytes) (m : Module) : Module :=
  (m.atNext d c).updAxis d c (Axis.seen (m.atNext d c).now (m.chan d c).enc rec)

theorem chan_noticed : (m.noticed d c rec).chan d c = m.chan d c := chan_updAxis ..

theorem outp_noticed : ((m.noticed d c rec).fd d).outp c 0 = (m.fd d).outp c 0 := outp_updAxis ..

theorem cleared_of_ne_fault {a : Axis} (h : a.state ≠ .fault) : a.cleared = false := by simp [Axis.cleared, h]

section
variable (h : m.Heeds d c rec)
include h

theorem hasAxis_noticed : (m.noticed d c rec).HasAxis d c := (hasAxis_updAxis _).mpr ⟨h.within, h.fitted⟩

theorem axis_noticed : (m.noticed d c rec).axis d c = m.nextSeen d c rec :=
  axis_updAxis (m := m.atNext d c) ⟨h.within, h.fitted⟩ _

theorem plain_noticed : ((m.noticed d c rec).fd d).inComm = false :=
  (part_updFd d (m.atNext d c) FieldDie.inComm (by exact fun _ => rfl) d).trans h.plain

/-- The record is acted on after the interval just ended (R192). -/
theorem axisNext_record (fitted : (m.axis d c).state ≠ .notAxis) (still : (m.axis d c).state ≠ .moving)
    (held : (m.axis d c).cleared = false) : axisNext d c m = axisGoOn d c (refreshOut d c 0
      (if (m.axis d c).verdict rec ≠ 0 then
        axisReject d c (leAt rec 0 1) ((m.axis d c).verdict rec) (m.noticed d c rec)
      else axisDo d c rec (m.noticed d c rec))) := by
  have record : ((Axis.rested (m.atNext d c).now (m.chan d c).enc) (m.axis d c)).cmd = some rec := h.record
  let n := (m.atNext d c).updAxis d c (Axis.rested (m.atNext d c).now (m.chan d c).enc)
  have axis : n.axis d c = (m.axis d c).rested (m.atNext d c).now (m.chan d c).enc :=
    axis_updAxis (m := m.atNext d c) ⟨h.within, h.fitted⟩ _
  have same : ((m.axis d c).rested (m.atNext d c).now (m.chan d c).enc).verdict rec = (m.axis d c).verdict rec := rfl
  have up : n.fdUp d = true := (fdUp_updAxis _).trans h.up
  have noted : n.updAxis d c (Axis.noted rec) = m.noticed d c rec := updAxis_updAxis ..
  rw [axisNext_eq, axisUpdate_steady due_atNext fitted ⟨still, h.near, held, h.item⟩]
  change axisGoOn d c (axisTake d c _ n) = _
  rw [axisTake_record (by rw [axis]; exact record) up, axisAct_still (by rw [axis]; exact still), axis, same, noted]

/-- What a sound record makes of its axis stands after the update, where nothing more goes on. -/
theorem axis_axisNext_sound {b : Axis} (sound : (m.axis d c).verdict rec = 0) (still : (m.axis d c).state ≠ .moving)
    (held : (m.axis d c).cleared = false) (does : (axisDo d c rec (m.noticed d c rec)).axis d c = b) (rests : b.Rests) :
    (axisNext d c m).axis d c = b := by
  have fitted : (m.axis d c).state ≠ .notAxis := fun none_ => by simp [verdict_notAxis none_] at sound
  have done : (refreshOut d c 0 (axisDo d c rec (m.noticed d c rec))).axis d c = b := (axis_refreshOut ..).trans does
  rw [axisNext_record h fitted still held, if_neg (by simp [sound]), axisGoOn_rest (by rwa [done]), axis_refreshOut, done]

theorem parked_axisNext_sound (sound : (m.axis d c).verdict rec = 0) (still : (m.axis d c).state ≠ .moving)
    (held : (m.axis d c).cleared = false) :
    ((axisNext d c m).axis d c).parked = ((axisDo d c rec (m.noticed d c rec)).axis d c).parked := by
  have fitted : (m.axis d c).state ≠ .notAxis := fun none_ => by simp [verdict_notAxis none_] at sound
  rw [axisNext_record h fitted still held, if_neg (by simp [sound]), parked_axisGoOn, axis_refreshOut]

/-- A rejected record is counted with its reason, and the axis goes on as it was (R198). -/
theorem axisNext_unsound (unsound : (m.axis d c).verdict rec ≠ 0) (still : (m.axis d c).state ≠ .moving)
    (held : (m.axis d c).cleared = false) : ∃ b : Axis, b.pCmd = (m.axis d c).pCmd ∧
      b.rejectCount = (m.axis d c).rejectCount ∧
      ((axisNext d c m).axis d c).parked = ((b.noted rec).refused ((m.axis d c).verdict rec)).parked := by
  by_cases fitted : (m.axis d c).state = .notAxis
  · have has : (m.atNext d c).HasAxis d c := ⟨h.within, h.fitted⟩
    have rejected : axisTake d c (fun _ => true) (m.atNext d c) = refreshOut d c 0 (axisReject d c (leAt rec 0 1)
        ((m.axis d c).verdict rec) ((m.atNext d c).updAxis d c (Axis.noted rec))) :=
      (axisTake_record (m := m.atNext d c) h.record h.up).trans
        ((axisAct_still (m := m.atNext d c) still rec).trans (congrArg _ (if_pos unsound)))
    refine ⟨m.axis d c, rfl, rfl, ?_⟩
    rw [axisNext_eq, axisUpdate_notAxis d c _ due_atNext fitted, rejected, axis_refreshOut,
      axis_axisReject ((hasAxis_updAxis _).mpr has), axis_updAxis has]
    rfl
  · refine ⟨(m.axis d c).rested (m.atNext d c).now (m.chan d c).enc, rfl, rfl, ?_⟩
    rw [axisNext_record h fitted still held, if_pos unsound, parked_axisGoOn, axis_refreshOut,
      axis_axisReject (hasAxis_noticed h), axis_noticed h]
    rfl

/-! ### Each operation at the next update -/

/-- A move that an axis at standstill takes. -/
theorem axis_axisNext_move {mv : Move} (does : axisDo d c rec (m.noticed d c rec) = axisMove d c mv (m.noticed d c rec))
    (sound : (m.axis d c).verdict rec = 0) (stands : (m.axis d c).state = .standstill) (empty : (m.axis d c).queue = [])
    (away : mv.target ≠ (m.axis d c).pCmd) :
    (axisNext d c m).axis d c = (m.nextSeen d c rec).asked (m.atNext d c).now mv := by
  have axis := axis_noticed h
  refine axis_axisNext_sound h sound (by simp [stands]) (cleared_of_ne_fault (by simp [stands])) ?_
    ⟨fun _ => rfl, by simp [Axis.asked]⟩
  rw [does, axisMove_standstill (by rw [axis]; exact empty) (by rw [axis]; exact stands) (by rw [axis]; exact away),
    axis_updAxis (hasAxis_noticed h), axis]
  rfl

theorem axis_axisNext_moveAbs (op : leAt rec 0 1 = 1) (sound : (m.axis d c).verdict rec = 0)
    (stands : (m.axis d c).state = .standstill) (empty : (m.axis d c).queue = [])
    (away : ((m.axis d c).moveTo (leIntAt rec 4 4) (leAt rec 8 4)).target ≠ (m.axis d c).pCmd) :
    (axisNext d c m).axis d c = (m.nextSeen d c rec).asked (m.atNext d c).now
      ((m.axis d c).moveTo (leIntAt rec 4 4) (leAt rec 8 4)) :=
  axis_axisNext_move h (by rw [axisDo_moveAbs op (plain_noticed h), axis_noticed h]; rfl) sound stands empty away

theorem axis_axisNext_moveRel (op : leAt rec 0 1 = 2) (sound : (m.axis d c).verdict rec = 0)
    (stands : (m.axis d c).state = .standstill) (empty : (m.axis d c).queue = [])
    (away : ((m.axis d c).moveTo ((m.axis d c).pCmd + leIntAt rec 4 4) (leAt rec 8 4)).target ≠ (m.axis d c).pCmd) :
    (axisNext d c m).axis d c = (m.nextSeen d c rec).asked (m.atNext d c).now
      ((m.axis d c).moveTo ((m.axis d c).pCmd + leIntAt rec 4 4) (leAt rec 8 4)) := by
  have axis := axis_noticed h
  exact axis_axisNext_move h (by rw [axisDo_moveRel op (plain_noticed h) (by rw [axis]; exact empty), axis]; rfl) sound
    stands empty away

section
variable (sound : (m.axis d c).verdict rec = 0) (waits : (m.axis d c).state = .waiting)
  (free : (m.axis d c).granted = false)
include sound waits free

theorem axis_axisNext_replaceAbs (op : leAt rec 0 1 = 3)
    (away : ((m.axis d c).moveTo (leIntAt rec 4 4) (leAt rec 8 4)).target ≠ (m.axis d c).pCmd) :
    (axisNext d c m).axis d c =
      { m.nextSeen d c rec with queue := [(m.axis d c).moveTo (leIntAt rec 4 4) (leAt rec 8 4)] } := by
  have axis := axis_noticed h
  refine axis_axisNext_sound h sound (by simp [waits]) (cleared_of_ne_fault (by simp [waits])) ?_
    ⟨fun _ => free, waits.trans_ne (by decide)⟩
  rw [axisDo_replaceAbs op (plain_noticed h), axisReplace_waiting (by rw [axis]; exact waits) (by rw [axis]; exact away),
    axis_updAxis (hasAxis_noticed h), axis]
  rfl

theorem axis_axisNext_stop (op : leAt rec 0 1 = 4) : (axisNext d c m).axis d c = (m.nextSeen d c rec).unwait := by
  have axis := axis_noticed h
  refine axis_axisNext_sound h sound (by simp [waits]) (cleared_of_ne_fault (by simp [waits])) ?_
    ⟨fun _ => rfl, by simp [Axis.unwait]⟩
  rw [axisDo_stop op, axisStopNow_waiting (by rw [axis]; exact waits) (by rw [axis]; exact free),
    axis_updAxis (hasAxis_noticed h), axis]

end

theorem axis_axisNext_setRamps (op : leAt rec 0 1 = 5) (sound : (m.axis d c).verdict rec = 0)
    (stands : (m.axis d c).state = .standstill) (planless : (m.axis d c).plan = none) : (axisNext d c m).axis d c =
      { m.nextSeen d c rec with pending := some (leAt rec 12 4, leAt rec 16 4), accPending := true } := by
  have planless' : (m.nextSeen d c rec).plan = none := planless
  refine axis_axisNext_sound h sound (by simp [stands]) (cleared_of_ne_fault (by simp [stands])) ?_
    ⟨fun waits => absurd (stands.symm.trans waits) (by decide), stands.trans_ne (by decide)⟩
  rw [axisDo_setRamps op, axis_updAxis (hasAxis_noticed h), axis_noticed h]
  simp only [Axis.setRamps, planless']

theorem parked_axisNext_setPosition (op : leAt rec 0 1 = 6) (sound : (m.axis d c).verdict rec = 0) :
    ((axisNext d c m).axis d c).parked = ((m.nextSeen d c rec).placed (leIntAt rec 4 4) (m.chan d c).enc).parked := by
  have stands := stands_of_setPosition op sound
  have still : (m.axis d c).state ≠ .moving := by obtain e | e := stands <;> simp [e]
  have sane : (m.axis d c).state ≠ .fault := by obtain e | e := stands <;> simp [e]
  rw [parked_axisNext_sound h sound still (cleared_of_ne_fault sane), axis_axisDo_setPosition (hasAxis_noticed h) op,
    axis_noticed h, chan_noticed]

theorem axis_axisNext_ackFault (op : leAt rec 0 1 = 7) (fault : (m.axis d c).state = .fault)
    (bad : (m.axis d c).stall = true ∨ (m.axis d c).limit = true) (clear : ((m.fd d).outp c 0).fault = 0) :
    (axisNext d c m).axis d c = (m.nextSeen d c rec).acknowledged (m.chan d c).enc := by
  have axis := axis_noticed h
  have held : (m.axis d c).cleared = false := by obtain e | e := bad <;> simp [Axis.cleared, e]
  refine axis_axisNext_sound h (verdict_ackFault op fault) (by simp [fault]) held ?_
    ⟨fun waits => by simp [Axis.acknowledged] at waits, by simp [Axis.acknowledged]⟩
  rw [axisDo_ackFault op, axis_axisAck_both (hasAxis_noticed h) (by rw [axis]; exact fault) (by rw [axis]; exact bad)
    (by rw [outp_noticed]; exact clear), axis, chan_noticed]

end
end

/-! ### The commands -/

section
variable {s : State} {d ch : Nat} {rec : Bytes} (up : s.m.fdUp d = true) (record : (s.m.axis d ch).cmd = some rec)
include up record

theorem axisCommand_record {op : Nat} (h : leAt rec 0 1 = op) :
    axisCommand d ch op s.m.fresh = axisNext d ch s.m.fresh := by
  simp [axisCommand, record, up, h]

theorem does_moveAbs (h : leAt rec 0 1 = 1) : Does (.moveAbs d ch) s fun _ m => axisNext d ch m :=
  (show Does (.moveAbs d ch) s (moveAbsBody d ch) from rfl).congr (axisCommand_record up record h)

theorem does_moveRel (h : leAt rec 0 1 = 2) : Does (.moveRel d ch) s fun _ m => axisNext d ch m :=
  (show Does (.moveRel d ch) s (moveRelBody d ch) from rfl).congr (axisCommand_record up record h)

theorem does_replaceAbs (h : leAt rec 0 1 = 3) : Does (.replaceAbs d ch) s fun _ m => axisNext d ch m :=
  (show Does (.replaceAbs d ch) s (replaceAbsBody d ch) from rfl).congr (axisCommand_record up record h)

theorem does_axisStop (h : leAt rec 0 1 = 4) : Does (.axisStop d ch) s fun _ m => axisNext d ch m :=
  (show Does (.axisStop d ch) s (axisStopBody d ch) from rfl).congr (axisCommand_record up record h)

theorem does_setRamps (h : leAt rec 0 1 = 5) : Does (.setRamps d ch) s fun _ m => axisNext d ch m :=
  (show Does (.setRamps d ch) s (setRampsBody d ch) from rfl).congr (axisCommand_record up record h)

theorem does_setPosition (h : leAt rec 0 1 = 6) : Does (.setPosition d ch) s fun _ m => axisNext d ch m :=
  (show Does (.setPosition d ch) s (setPositionBody d ch) from rfl).congr (axisCommand_record up record h)

theorem does_ackFault (h : leAt rec 0 1 = 7) : Does (.ackFault d ch) s fun _ m => axisNext d ch m :=
  (show Does (.ackFault d ch) s (ackFaultBody d ch) from rfl).congr (axisCommand_record up record h)

end

/-- Settles O27: a command's record is acted on at the axis's next update, where each operation makes its own of the axis
that has seen the record. -/
theorem axisCommandsAct : Obligations.AxisCommandsAct := by
  refine ⟨fun s d ch rec up record => ⟨does_moveAbs up record, does_moveRel up record, does_replaceAbs up record,
    does_axisStop up record, does_setRamps up record, does_setPosition up record, does_ackFault up record⟩, ?_⟩
  intro s d ch rec up within fitted record plain a off target speed ramps code item near now seen
  have h : s.m.fresh.Heeds d ch rec := ⟨⟨within, fitted⟩, up, record, plain, item, near⟩
  have saw (tested : a.tested = true) : s.m.fresh.nextSeen d ch rec = seen := seen_tested tested ..
  have verdict (sound : code = 0) : a.verdict rec = 0 := sound
  refine ⟨?_, ?_, ?_, ?_, ?_, ?_, ?_, ?_⟩
  · intro op sound stands empty away
    obtain ⟨t, next, same, at_, axis⟩ := ends_axisNext (does_moveAbs up record op)
    rw [axis_axisNext_moveAbs h op (verdict sound) stands empty away, saw (by simp [Axis.tested, a, stands])] at axis
    exact ⟨t, next, same, at_, axis⟩
  · intro op sound stands empty away
    obtain ⟨t, next, same, at_, axis⟩ := ends_axisNext (does_moveRel up record op)
    rw [axis_axisNext_moveRel h op (verdict sound) stands empty away, saw (by simp [Axis.tested, a, stands])] at axis
    exact ⟨t, next, same, at_, axis⟩
  · intro op sound waits free away
    obtain ⟨t, next, same, -, axis⟩ := ends_axisNext (does_replaceAbs up record op)
    rw [axis_axisNext_replaceAbs h (verdict sound) waits free op away, saw (by simp [Axis.tested, a, waits])] at axis
    exact ⟨t, next, same, axis⟩
  · intro op sound waits free
    obtain ⟨t, next, same, -, axis⟩ := ends_axisNext (does_axisStop up record op)
    rw [axis_axisNext_stop h (verdict sound) waits free op, saw (by simp [Axis.tested, a, waits])] at axis
    refine ⟨t, next, same, axis.trans ?_⟩
    rw [Axis.unwait, ← show seen.granted = false from free]
  · intro op sound stands planless
    obtain ⟨t, next, same, -, axis⟩ := ends_axisNext (does_setRamps up record op)
    rw [axis_axisNext_setRamps h op (verdict sound) stands planless, saw (by simp [Axis.tested, a, stands])] at axis
    exact ⟨t, next, same, axis⟩
  · intro op sound
    obtain ⟨t, next, same, -, axis⟩ := ends_axisNext (does_setPosition up record op)
    have parked := parked_axisNext_setPosition h op (verdict sound)
    rw [← axis] at parked
    exact ⟨t, next, same, (congrArg Axis.pCmd parked :), (congrArg Axis.pRef parked :), (congrArg Axis.cRef parked :),
      (congrArg Axis.referenced parked :), (congrArg Axis.ackSeq parked :)⟩
  · intro op fault bad clear
    obtain ⟨t, next, same, -, axis⟩ := ends_axisNext (does_ackFault up record op)
    rw [axis_axisNext_ackFault h op fault bad clear] at axis
    exact ⟨t, next, same, congrArg Axis.state axis, congrArg Axis.stall axis, congrArg Axis.limit axis,
      congrArg Axis.ackSeq axis⟩
  · intro op unsound still sane
    obtain ⟨t, next, same, -, axis⟩ := ends_axisNext (does_moveAbs up record op)
    obtain ⟨b, pCmd, count, parked⟩ := axisNext_unsound h unsound still (cleared_of_ne_fault sane)
    rw [← axis] at parked
    refine ⟨t, next, same, (congrArg Axis.ackSeq parked :), ?_, (congrArg Axis.rejectReason parked :),
      (congrArg Axis.cmd parked :), (congrArg Axis.pCmd parked :).trans pCmd⟩
    exact (congrArg Axis.rejectCount parked :).trans (congrArg (fun n => sat 65535 (n + 1)) count)

end Sys2Proof.Machine
end

section
/-! Events of the axes: the update of a die, a stall, the end of a hold time and the acknowledgement by a write (R192, R206,
R207, R209, R210); and what the admission commands leave (R211 to R213, R215). -/

namespace Sys2Proof.Machine

/-! ### A stall (R206, R207) -/

section
variable {d c : Nat} {m : Module}

/-- An axis whose deviation has lain beyond its window for the updates given, and that holds no record (R207). -/
structure Axis.Strands (count : BitVec 32) (a : Axis) : Prop where
  tested : a.tested = true
  still : a.state ≠ .moving
  beyond : a.item.window < (a.off count).natAbs
  updates : a.item.windowUpdates ≤ a.beyond + 1
  cmd : a.cmd = none
  item : a.nextItem = none

/-- An axis that a stall has stopped, with no record and no changed item (R207). -/
structure Axis.Stalled (count : Nat) (a : Axis) : Prop where
  state : a.state = .fault
  stall : a.stall = true
  count : a.stallCount = count
  queue : a.queue = []
  speed : a.speed = 0
  cmd : a.cmd = none
  item : a.nextItem = none

theorem stalls_of_strands {count : BitVec 32} {a : Axis} (h : a.Strands count) : a.stalls count = true := by
  have strays : a.strays count = true := by simp [Axis.strays, h.tested, h.beyond]
  simp [Axis.stalls, Axis.watched, strays, h.updates]

section
variable (has : m.HasAxis d c)
include has

theorem stalled_axisStallFault (cmd : (m.axis d c).cmd = none) (item : (m.axis d c).nextItem = none) :
    ((axisStallFault d c m).axis d c).Stalled (sat max32 ((m.axis d c).stallCount + 1)) := by
  obtain ⟨count, e⟩ := axis_axisStallFault has
  rw [e]
  exact ⟨rfl, rfl, rfl, rfl, rfl, cmd, item⟩

/-- At the end of the interval such an axis stops in FAULT, and its stall is counted. -/
theorem stalled_axisInterval (h : (m.axis d c).Strands (m.chan d c).enc) :
    ((axisInterval d c m).axis d c).Stalled (sat max32 ((m.axis d c).stallCount + 1)) := by
  have axis := axis_updAxis has (Axis.watched (m.chan d c).enc)
  have stalled := stalled_axisStallFault ((hasAxis_updAxis (Axis.watched (m.chan d c).enc)).mpr has)
    (by rw [axis]; exact h.cmd) (by rw [axis]; exact h.item)
  rw [axis] at stalled
  rw [axisInterval_still h.still, if_pos (stalls_of_strands h),
    axisUnfault_of_not_cleared (by simp [Axis.cleared, stalled.stall])]
  exact stalled

theorem stalled_axisNext (h : (m.axis d c).Strands (m.chan d c).enc) :
    ((axisNext d c m).axis d c).Stalled (sat max32 ((m.axis d c).stallCount + 1)) := by
  have fitted : (m.axis d c).state ≠ .notAxis := fun none_ => by simpa [Axis.tested, none_] using h.tested
  let tick (a : Axis) : Axis := { a with updAt := (m.atNext d c).now }
  have here : (m.atNext d c).HasAxis d c := ⟨has.within, has.fitted⟩
  have axis := axis_updAxis here tick
  have strands : (((m.atNext d c).updAxis d c tick).axis d c).Strands (((m.atNext d c).updAxis d c tick).chan d c).enc := by
    rw [axis, chan_updAxis]
    exact ⟨h.tested, h.still, h.beyond, h.updates, h.cmd, h.item⟩
  have stalled := stalled_axisInterval ((hasAxis_updAxis tick).mpr here) strands
  rw [axis] at stalled
  have rests : ((axisInterval d c ((m.atNext d c).updAxis d c tick)).axis d c).Rests :=
    ⟨fun waits => absurd (stalled.state.symm.trans waits) (by decide), stalled.state.trans_ne (by decide)⟩
  rw [axisNext_eq, axisUpdate_due d c _ due_atNext fitted, axisItem_none stalled.item, axisTake_none stalled.cmd,
    axisGoOn_rest rests, axis_refreshOut]
  exact stalled

end

/-! ### The end of a hold time (R210) -/

/-- The module at the first tick at or after the end of an axis's hold time. -/
def Module.heldOut (d c : Nat) (m : Module) : Module :=
  clockTo (cdiv ((m.axis d c).holdAt + (m.axis d c).item.holdTime * 1000000) 100000 * 100000) m

theorem le_cdiv_mul (a : Nat) : a ≤ cdiv a 100000 * 100000 := by
  rw [cdiv]
  omega

theorem heldOut_le_now : (m.axis d c).holdAt + (m.axis d c).item.holdTime * 1000000 ≤ (m.heldOut d c).now :=
  (le_cdiv_mul _).trans (le_max_right _ _)

/-- A quiet axis at the end of its hold time stands still at its next update. -/
theorem axis_axisNext_holdEnd (has : m.HasAxis d c) (holds : (m.axis d c).state = .holding)
    (past : (m.axis d c).holdAt + (m.axis d c).item.holdTime * 1000000 ≤ m.now) (cmd : (m.axis d c).cmd = none)
    (item : (m.axis d c).nextItem = none) (near : ((m.axis d c).off (m.chan d c).enc).natAbs ≤ (m.axis d c).item.window) :
    (axisNext d c m).axis d c =
      ((m.axis d c).rested (m.atNext d c).now (m.chan d c).enc).dropped .standstill := by
  have steady : (m.axis d c).Steady (m.chan d c).enc :=
    ⟨by simp [holds], near, cleared_of_ne_fault (by simp [holds]), item⟩
  let n := (m.atNext d c).updAxis d c (Axis.rested (m.atNext d c).now (m.chan d c).enc)
  have axis : n.axis d c = (m.axis d c).rested (m.atNext d c).now (m.chan d c).enc :=
    axis_updAxis (m := m.atNext d c) ⟨has.within, has.fitted⟩ _
  have later : m.now ≤ (m.atNext d c).now := le_max_left _ _
  rw [axisNext_eq, axisUpdate_steady due_atNext (holds.trans_ne (by decide)) steady]
  change (axisGoOn d c (axisTake d c _ n)).axis d c = _
  have hasN : n.HasAxis d c := (hasAxis_updAxis _).mpr ⟨has.within, has.fitted⟩
  rw [axisTake_none (by rw [axis]; exact cmd), axis_axisGoOn_holdEnd hasN (by rw [axis]; exact holds)
    (by rw [axis]; exact past.trans later), axis]

end

/-! ### The commands -/

section
variable {s : State} {d ch : Nat} (up : s.m.fdUp d = true)
include up

theorem does_profileUpdate : Does (.profileUpdate d) s fun _ m =>
    let now := max s.m.now (s.m.gridAfter 100000 (s.m.fd d).updAt)
    forEach (List.range 64) (axisUpdate d) (({ m with now := now } : Module).updFd d fun x => { x with updAt := now }) := by
  have b : Does (.profileUpdate d) s (profileUpdateBody d) := rfl
  exact b.congr (if_pos up)

theorem does_axisStall (stalls : (s.m.axis d ch).stallCount < ((axisNext d ch s.m.fresh).axis d ch).stallCount ∨
    ((s.m.axis d ch).stall = false ∧ ((axisNext d ch s.m.fresh).axis d ch).stall = true)) :
    Does (.axisStall d ch) s fun _ m => axisNext d ch m := by
  have b : Does (.axisStall d ch) s (axisStallBody d ch) := rfl
  have due : (decide ((s.m.axis d ch).stallCount < ((axisNext d ch s.m.fresh).axis d ch).stallCount) ||
      (!(s.m.axis d ch).stall && ((axisNext d ch s.m.fresh).axis d ch).stall)) = true := by simpa using stalls
  exact b.congr (if_pos ((Bool.and_eq_true ..).mpr ⟨up, due⟩))

theorem does_holdTimeExpiry (holds : (s.m.axis d ch).state = .holding) :
    Does (.holdTimeExpiry d ch) s fun _ m => axisNext d ch (m.heldOut d ch) := by
  have b : Does (.holdTimeExpiry d ch) s (holdTimeExpiryBody d ch) := rfl
  exact b.congr (if_pos (by simp [up, holds]))

section
variable (has : s.m.HasAxis d ch)
include has

theorem ends_axisStall (h : (s.m.axis d ch).Strands (s.m.chan d ch).enc) (clear : (s.m.axis d ch).stall = false) :
    Ends (.axisStall d ch) s fun t => SameStores s t ∧ (t.m.axis d ch).Stalled (sat max32 ((s.m.axis d ch).stallCount + 1)) := by
  have stalled := stalled_axisNext (m := s.m.fresh) ⟨has.within, has.fitted⟩ h
  obtain ⟨t, next, same, -, axis⟩ := ends_axisNext (does_axisStall up (.inr ⟨clear, stalled.stall⟩))
  exact ⟨t, next, same, by rwa [axis]⟩

theorem ends_holdTimeExpiry (holds : (s.m.axis d ch).state = .holding) (cmd : (s.m.axis d ch).cmd = none)
    (item : (s.m.axis d ch).nextItem = none)
    (near : ((s.m.axis d ch).off (s.m.chan d ch).enc).natAbs ≤ (s.m.axis d ch).item.window) :
    Ends (.holdTimeExpiry d ch) s fun t => SameStores s t ∧ (t.m.axis d ch).state = .standstill ∧
      (t.m.axis d ch).queue = [] ∧ (s.m.axis d ch).holdAt + (s.m.axis d ch).item.holdTime * 1000000 ≤ t.m.now := by
  have past := heldOut_le_now (d := d) (c := ch) (m := s.m.fresh)
  have axis := axis_axisNext_holdEnd (m := s.m.fresh.heldOut d ch) ⟨has.within, has.fitted⟩ holds past cmd item near
  refine (does_holdTimeExpiry up holds).ends ⟨⟨commit_mem_of_quiet _ _ ?_, rfl⟩, congrArg Axis.state axis,
    congrArg Axis.queue axis, ?_⟩
  · rw [nvmOut_axisNext]
    rfl
  · rw [commit_m, closed_now, now_axisNext]
    exact past.trans (le_max_left _ _)

end
end

/-- A write of the fault bits of an axis by the lane whose claim its die obeys acknowledges them (R188, R209). -/
theorem does_motFaultClear {s : State} {l : LaneId} {v : View} {w : Word} {d ch : Nat} (h : Heard s l v)
    (axis : (s.m.sel l v).motAxis = 64 * d + ch) (local_ : ch < 64) (reach : s.m.fdReach l d = true)
    (claim : (s.m.fd d).claim = (s.m.lane l).red.claim) (own : claimLane (s.m.lane l).red.claim = l)
    (holds : (s.m.lane l).red.holds = true) :
    Does (.motFaultClear l v w) s fun _ m => axisAck d ch (fld w 1 0) 1 m := by
  have b : Does (.motFaultClear l v w) s (motFaultClearBody l v w) := rfl
  have die : (64 * d + ch) / 64 = d := by omega
  have channel : (64 * d + ch) % 64 = ch := by omega
  refine b.congr ?_
  simp only [motFaultClearBody, fresh_sel, axis, die, channel]
  refine dieWrite_obeyed h reach claim own holds ?_
  have kept := (congrArg (·.red.claim) (lane_of_hull (hull_axisAck d ch s.m.fresh (fld w 1 0) 1) l) :)
  rw [fresh_lane] at kept
  exact kept

/-- Settles O28: each event past its guard, where the next update of the axis makes of it what the event's premises say; and
each admission command by the claim of its grant and by what its axis then is. -/
theorem axisEventsAct : Obligations.AxisEventsAct := by
  refine ⟨?_, fun s l d => ?_⟩
  · intro s d ch up within fitted a off
    have has : s.m.HasAxis d ch := ⟨within, fitted⟩
    refine ⟨does_profileUpdate up, does_axisStall up, fun tested still beyond updates clear cmd item => ?_,
      fun holds => (does_holdTimeExpiry up holds).congr rfl, ends_holdTimeExpiry up has,
      fun l v w h axis local_ reach claim own holds => does_motFaultClear h axis local_ reach claim own holds⟩
    obtain ⟨t, next, same, stalled⟩ := ends_axisStall up has ⟨tested, still, beyond, updates, cmd, item⟩ clear
    obtain ⟨state, stall, count, queue, speed, -, -⟩ := stalled
    exact ⟨t, next, same, state, stall, count, queue, speed⟩
  · refine ⟨fun holds step heard => ?_, ?_, ?_, ?_⟩
    · have admits : (s.m.lane l).Admits := ⟨holds, step, heard⟩
      exact ⟨ends_admissionRound admits, (does_admissionRound admits).congr rfl⟩
    · intro src claim ch rest hmail reach held own waits heard
      have does := does_admissionGrant_taken hmail reach held own waits heard
      exact ⟨does.ends ⟨⟨commit_mem_of_quiet _ _ (by simp [Module.updAxis]), rfl⟩, rfl, rfl⟩, does⟩
    · intro src claim ch rest hmail reach held own gone
      have does := does_admissionGrant_returned hmail reach held own gone
      exact ⟨does.ends ⟨⟨commit_mem_of_quiet _ _ (by simp), rfl⟩, rfl, rfl⟩, does⟩
    · intro src claim ch rest hmail other
      have does := does_admissionGrant_passed hmail other
      exact ⟨does.ends ⟨⟨commit_mem_of_quiet _ _ (by simp), rfl⟩, rfl, rfl⟩, does⟩

end Sys2Proof.Machine
end

section
/-! A loop slot: its two-position control (R223, R224), how a slot of a die is read and changed, and what the operations on
it leave alone. -/

namespace Sys2Proof.Machine

/-! ### Two-position control (R223, R224) -/

section
variable {x : LoopSlot} {c : LoopCfg} {now a : Nat} {e : Int} {u want : Bool}

theorem want_between (above : x.eOff < e) (below : e < x.eOn) : x.want e = x.on := by
  rw [LoopSlot.want, if_neg (by simp [below]), if_neg (by simp [above])]

theorem want_of_eOn_le (off : x.on = false) (reached : x.eOn ≤ e) : x.want e = true := if_pos (by simp [off, reached])

theorem want_of_le_eOff (on : x.on = true) (reached : e ≤ x.eOff) : x.want e = false := by
  rw [LoopSlot.want, if_neg (by simp [on]), if_pos (by simp [on, reached])]

theorem not_mayTurn_off (kind : c.kind ≠ 1) (since : x.onSince = some a) (early : now < a + c.minOnMs * 1000000) :
    x.mayTurn now c u false = false := by
  simp [LoopSlot.mayTurn, kind, since, early]

theorem not_mayTurn_on (kind : c.kind ≠ 1) (since : x.offSince = some a) (early : now < a + c.minOffMs * 1000000) :
    x.mayTurn now c u true = false := by
  simp [LoopSlot.mayTurn, kind, since, early]

theorem turn_held (other : x.on ≠ want) (early : x.mayTurn now c u want = false) :
    x.turn now c u want = { x with minHold := true } :=
  (if_neg (by simpa using other)).trans (if_neg (by simp [early]))

end

/-! ### What switching changes of a slot -/

/-- A slot with the instants of its driven value blanked. -/
def LoopSlot.untimed (x : LoopSlot) : LoopSlot := { x with onSince := none, offSince := none }

/-- A slot with all blanked that a switch changes. -/
def LoopSlot.unswitched (x : LoopSlot) : LoopSlot :=
  { x.untimed with on := false, minHold := false, fbSafe := false, switches := 0 }

section
variable (x : LoopSlot) (c : LoopCfg) (now kind : Nat) (u want : Bool)

@[simp] theorem setOn_on : (x.setOn now kind want).on = want := by
  by_cases same : x.on = want
  · rw [LoopSlot.setOn, if_pos (by simpa using same), same]
  · simp only [LoopSlot.setOn, if_neg (show ¬ (x.on == want) = true by simpa using same)]
    split_ifs <;> rfl

@[simp] theorem unswitched_setOn : (x.setOn now kind want).unswitched = x.unswitched := by
  simp only [LoopSlot.setOn]
  split_ifs <;> rfl

@[simp] theorem unswitched_turn : (x.turn now c u want).unswitched = x.unswitched := by
  simp only [LoopSlot.turn]
  split_ifs
  · rfl
  · exact unswitched_setOn x now c.kind want
  · rfl

@[simp] theorem unswitched_fallbackState : (x.fallbackState now c u).unswitched = x.unswitched := by
  unfold LoopSlot.fallbackState
  split
  · exact unswitched_turn x c now u true
  · rfl
  · exact unswitched_setOn x now c.kind false
  · exact unswitched_setOn x now c.kind false

@[simp] theorem untimed_loopDriven (on before after : OutVal) : (loopDriven now on before after x).untimed = x.untimed := by
  simp only [loopDriven]
  split_ifs <;> rfl

end

section
variable {x y : LoopSlot}

theorem unswitched_of_untimed (h : x.untimed = y.untimed) : x.unswitched = y.unswitched :=
  (congrArg LoopSlot.unswitched h :)

theorem mode_of_unswitched (h : x.unswitched = y.unswitched) : x.mode = y.mode := (congrArg LoopSlot.mode h :)

theorem plaus_of_unswitched (h : x.unswitched = y.unswitched) : x.plaus = y.plaus := (congrArg LoopSlot.plaus h :)

theorem ackSeq_of_unswitched (h : x.unswitched = y.unswitched) : x.ackSeq = y.ackSeq := (congrArg LoopSlot.ackSeq h :)

end

/-! ### A slot that leaves FALLBACK (R228) -/

theorem resume_keeps (x : LoopSlot) : x.resume.plaus = x.plaus ∧ x.resume.ackSeq = x.ackSeq := by
  simp only [LoopSlot.resume, LoopSlot.takeSet]
  split_ifs
  · exact ⟨rfl, rfl⟩
  · exact ⟨rfl, rfl⟩
  · split <;> exact ⟨rfl, rfl⟩

/-! ### Reading and changing a slot -/

/-- A die has a loop slot. -/
structure Module.HasLoop (d k : Nat) (m : Module) : Prop where
  within : d < m.fds.length
  fitted : k < (m.fd d).loops.length

/-- The output of a slot, where it has one, brought to its value (R182). -/
def LoopCfg.driveOut (d : Nat) (c : LoopCfg) (m : Module) : Module :=
  if c.kind = 1 then refreshOut d c.outCh c.outN m else m

/-- Only a die that is there has a slot with a LOOPS item. -/
theorem within_of_kind {m : Module} {d k : Nat} (used : ((m.fd d).loopCfg d k).kind ≠ 0) : d < m.fds.length := by
  by_contra absent
  have none_ : m.fd d = {} := by simp [Module.fd, at?, Nat.not_lt.mp absent]
  exact used (by rw [none_]; rfl)

section
variable {d k : Nat} {m n : Module}

@[simp] theorem fresh_loop : m.fresh.loop d k = m.loop d k := rfl

theorem hasLoop_fresh (h : m.HasLoop d k) : m.fresh.HasLoop d k := ⟨h.within, h.fitted⟩

theorem loop_updLoop (h : m.HasLoop d k) (f : LoopSlot → LoopSlot) : (m.updLoop d k f).loop d k = f (m.loop d k) := by
  rw [Module.loop, Module.updLoop, fd_updFd _ _ _ h.within, at?_upd _ _ _ _ h.fitted, Module.loop]

theorem hasLoop_updLoop (h : m.HasLoop d k) (f : LoopSlot → LoopSlot) : (m.updLoop d k f).HasLoop d k := by
  refine ⟨(length_fds_updFd ..).symm ▸ h.within, ?_⟩
  rw [Module.updLoop, fd_updFd _ _ _ h.within, length_upd]
  exact h.fitted

theorem loop_of_blank (h : n.blank = m.blank) : n.loop d k = m.loop d k := by
  have loops : (n.fd d).loops = (m.fd d).loops := (congrArg FieldDie.loops (fd_of_blank h d) :)
  rw [Module.loop, loops, Module.loop]

theorem hasLoop_of_blank (h : n.blank = m.blank) (has : m.HasLoop d k) : n.HasLoop d k := by
  have loops : (n.fd d).loops = (m.fd d).loops := (congrArg FieldDie.loops (fd_of_blank h d) :)
  exact ⟨(length_fds_of_blank h).symm ▸ has.within, loops.symm ▸ has.fitted⟩

@[simp] theorem blank_raiseLp (bits : Nat) : (raiseLp d bits m).blank = m.blank := by
  have set := blank_updFd d (fun x => { x with lpIrq := x.lpIrq ||| word bits }) m fun _ => rfl
  simp only [raiseLp]
  split
  · exact set
  · exact (blank_sendMsi ..).trans set

@[simp] theorem loop_raiseLp (bits : Nat) : (raiseLp d bits m).loop d k = m.loop d k := loop_of_blank (blank_raiseLp ..)

@[simp] theorem loop_reportFd (b e x y z : Nat) : (reportFd d b e x y z m).loop d k = m.loop d k :=
  loop_of_blank (blank_reportFd ..)

theorem untimed_refreshOut (c o : Nat) : ((refreshOut d c o m).loop d k).untimed = (m.loop d k).untimed := by
  have out (f : Output → Output) : (m.updOut d c o f).loop d k = m.loop d k :=
    part_updFd d m (fun x => at? x.loops k {}) (by exact fun _ => rfl) d
  unfold refreshOut
  extract_lets
  split
  · rw [out]
  · rw [← out]
    exact part_updFd_at d _ (fun x => (at? x.loops k {}).untimed)
      (part_upd LoopSlot.untimed k fun _ => untimed_loopDriven ..)

theorem untimed_driveOut (c : LoopCfg) : ((c.driveOut d m).loop d k).untimed = (m.loop d k).untimed := by
  rw [LoopCfg.driveOut]
  split
  · exact untimed_refreshOut ..
  · rfl

/-! ### PLAUS raised and cleared (R227, R228) -/

/-- A slot on which PLAUS is raised (R227). -/
def LoopSlot.implausible (x : LoopSlot) : LoopSlot := { x with plaus := true, mode := { x with plaus := true }.modeNow }

theorem mode_implausible {x : LoopSlot} (auto : x.mode = .auto) : x.implausible.mode = .fallback := by
  simp [LoopSlot.implausible, LoopSlot.modeNow, auto]

theorem loop_raisePlaus (h : m.HasLoop d k) : (raisePlaus d k m).loop d k = (m.loop d k).implausible := by
  rw [raisePlaus, loop_reportFd, loop_raiseLp, loop_updLoop h]
  rfl

theorem hasLoop_raisePlaus (h : m.HasLoop d k) : (raisePlaus d k m).HasLoop d k :=
  hasLoop_of_blank ((blank_reportFd ..).trans (blank_raiseLp ..)) (hasLoop_updLoop h _)

theorem clearPlaus_of_clear (source : Nat) (clear : (m.loop d k).plaus = false) : clearPlaus d k source m = m :=
  if_pos (by simp [clear])

theorem loop_clearPlaus (h : m.HasLoop d k) (source : Nat) (raised : (m.loop d k).plaus = true) :
    (clearPlaus d k source m).loop d k = ({ m.loop d k with plaus := false, count := 0 } : LoopSlot).resume := by
  simp [clearPlaus, raised, loop_updLoop h]

theorem clearPlaus_clears (h : m.HasLoop d k) (source : Nat) : ((clearPlaus d k source m).loop d k).plaus = false ∧
    ((clearPlaus d k source m).loop d k).ackSeq = (m.loop d k).ackSeq := by
  cases raised : (m.loop d k).plaus with
  | false =>
    rw [clearPlaus_of_clear source raised]
    exact ⟨raised, rfl⟩
  | true =>
    rw [loop_clearPlaus h source raised]
    exact resume_keeps _

end

/-! ### What the operations on a slot leave alone -/

section
variable (d k : Nat) (m : Module)

@[simp] theorem hull_updLoop (f : LoopSlot → LoopSlot) : (m.updLoop d k f).hull = m.hull := hull_updFd _ _ _ fun _ => rfl

@[simp] theorem hull_raiseLp (bits : Nat) : (raiseLp d bits m).hull = m.hull := hull_of_blank (blank_raiseLp ..)

@[simp] theorem hull_driveOut (c : LoopCfg) : (c.driveOut d m).hull = m.hull := by
  rw [LoopCfg.driveOut, apply_ite Module.hull, hull_refreshOut, ite_self]

@[simp] theorem hull_raisePlaus : (raisePlaus d k m).hull = m.hull := by simp [raisePlaus]

@[simp] theorem hull_clearPlaus (source : Nat) : (clearPlaus d k source m).hull = m.hull := by
  simp only [clearPlaus]
  split <;> simp

@[simp] theorem hull_lpFlagsWrite (w : Word) : (lpFlagsWrite d k w m).hull = m.hull := by
  simp only [lpFlagsWrite]
  split
  · exact (hull_driveOut ..).trans ((hull_clearPlaus ..).trans (hull_updLoop ..))
  · exact hull_updLoop ..

@[simp] theorem hull_loopReject (rec : Bytes) : (loopReject d k rec m).hull = m.hull := by simp [loopReject]

end
end Sys2Proof.Machine
end

section
/-! The commands of a loop slot: the record that it takes, its samples, its plausibility and a write of its flags (R219, R223,
R227 to R230). -/

namespace Sys2Proof.Machine

/-! ### A record acted on, by its operation (R229, R230) -/

/-- A record noted as seen (R196). -/
def LoopSlot.noted (rec : Bytes) (x : LoopSlot) : LoopSlot := { x with ackSeq := leAt rec 1 1, cmd := none }

/-- The values of a SET kept for the next sample, which also turns on a disabled slot (R230). -/
def LoopSlot.given (rec : Bytes) (x : LoopSlot) : LoopSlot :=
  let x := { x with setNext := some (leIntAt rec 4 4, leIntAt rec 8 4, leIntAt rec 12 4) }
  if x.mode == .disabled then
    let x := { x with mode := .auto }
    { x with mode := x.modeNow }
  else x

/-- A slot turned off by DISABLE (R230). -/
def LoopSlot.shut (now kind : Nat) (x : LoopSlot) : LoopSlot :=
  { x.setOn now kind false with
    mode := .disabled, minHold := false, fbSafe := false, yhat := if x.mode == .fallback then x.y else x.yhat }

/-- A record counted as rejected, its SEQ taken (R196, R230). -/
def LoopSlot.refused (rec : Bytes) (x : LoopSlot) : LoopSlot := { x.noted rec with rejects := sat 65535 (x.rejects + 1) }

/-- What a sound record does, by its operation (R230). -/
def loopDo (d k kind : Nat) (rec : Bytes) (m : Module) : Module :=
  match leAt rec 0 1 with
  | 1 => m.updLoop d k (LoopSlot.given rec)
  | 2 => m.updLoop d k (LoopSlot.shut m.now kind)
  | 3 => clearPlaus d k 0 m
  | _ => m

section
variable {d k kind : Nat} {m : Module} {rec : Bytes}

theorem loopRejects_empty (op : leAt rec 0 1 = 1) (empty : leIntAt rec 8 4 ≤ leIntAt rec 12 4) :
    loopRejects kind rec = true := by
  simp [loopRejects, op, empty]

/-- A record is sound when its operation is known, its slot is used and the band of a SET is not empty (R230). -/
theorem loopRejects_sound (used : kind ≠ 0) (known : leAt rec 0 1 ≤ 3)
    (band : leAt rec 0 1 = 1 → leIntAt rec 12 4 < leIntAt rec 8 4) : loopRejects kind rec = false := by
  simpa [loopRejects, used, known] using band

theorem loopAct_rejected (h : loopRejects ((m.fd d).loopCfg d k).kind rec = true) :
    loopAct d k rec m = loopReject d k rec m := if_pos h

theorem loopAct_sound (h : loopRejects ((m.fd d).loopCfg d k).kind rec = false) : loopAct d k rec m =
    ((m.fd d).loopCfg d k).driveOut d
      (loopDo d k ((m.fd d).loopCfg d k).kind rec (m.updLoop d k (LoopSlot.noted rec))) :=
  if_neg (by simp [h])

@[simp] theorem hull_loopDo : (loopDo d k kind rec m).hull = m.hull := by
  unfold loopDo
  split <;> simp

@[simp] theorem hull_loopAct : (loopAct d k rec m).hull = m.hull := by
  cases h : loopRejects ((m.fd d).loopCfg d k).kind rec with
  | true => rw [loopAct_rejected h, hull_loopReject]
  | false => rw [loopAct_sound h, hull_driveOut, hull_loopDo, hull_updLoop]

theorem loopDo_set (op : leAt rec 0 1 = 1) : loopDo d k kind rec m = m.updLoop d k (LoopSlot.given rec) := by
  simp [loopDo, op]

theorem loopDo_disable (op : leAt rec 0 1 = 2) : loopDo d k kind rec m = m.updLoop d k (LoopSlot.shut m.now kind) := by
  simp [loopDo, op]

theorem loopDo_resetPlaus (op : leAt rec 0 1 = 3) : loopDo d k kind rec m = clearPlaus d k 0 m := by simp [loopDo, op]

theorem loop_loopReject (has : m.HasLoop d k) : (loopReject d k rec m).loop d k = (m.loop d k).refused rec := by
  simp [loopReject, loop_updLoop has, LoopSlot.refused, LoopSlot.noted]

section
variable (used : ((m.fd d).loopCfg d k).kind ≠ 0)
include used

theorem untimed_loopAct_resetPlaus (op : leAt rec 0 1 = 3) : ((loopAct d k rec m).loop d k).untimed =
    ((clearPlaus d k 0 (m.updLoop d k (LoopSlot.noted rec))).loop d k).untimed := by
  rw [loopAct_sound (loopRejects_sound used (by omega) (by omega)), untimed_driveOut, loopDo_resetPlaus op]

variable (has : m.HasLoop d k)
include has

theorem untimed_loopAct_set (op : leAt rec 0 1 = 1) (band : leIntAt rec 12 4 < leIntAt rec 8 4) :
    ((loopAct d k rec m).loop d k).untimed = (((m.loop d k).noted rec).given rec).untimed := by
  rw [loopAct_sound (loopRejects_sound used (by omega) fun _ => band), untimed_driveOut, loopDo_set op,
    loop_updLoop (hasLoop_updLoop has _), loop_updLoop has]

theorem untimed_loopAct_disable (op : leAt rec 0 1 = 2) : ((loopAct d k rec m).loop d k).untimed =
    (((m.loop d k).noted rec).shut m.now ((m.fd d).loopCfg d k).kind).untimed := by
  rw [loopAct_sound (loopRejects_sound used (by omega) (by omega)), untimed_driveOut, loopDo_disable op,
    loop_updLoop (hasLoop_updLoop has _), loop_updLoop has]
  rfl

end
end

/-! ### The next state of a command -/

section
variable {s : State} {d k : Nat} {i : Instr}

/-- The next state of a command that changes no more than a die's slots and outputs, and tells of it. -/
theorem Does.ends_loop {f : Store → Module → Module} (does : Does i s f)
    (quiet : (f s.mem s.m.fresh).hull = s.m.fresh.hull) :
    Ends i s fun t => SameStores s t ∧ t.m.loop d k = (f s.mem s.m.fresh).loop d k :=
  does.ends ⟨sameStores_commit ((nvmOut_of_hull quiet).trans (fresh_nvmOut _)), rfl⟩

section
variable (up : s.m.fdUp d = true)

section
variable {rec : Bytes} (cmd : (s.m.loop d k).cmd = some rec)
include up cmd

theorem loopTake_record (ok : Nat → Bool) (op : ok (leAt rec 0 1) = true) :
    loopTake d k ok s.m.fresh = loopAct d k rec s.m.fresh := by
  have held : (s.m.fresh.loop d k).cmd = some rec := cmd
  simp only [loopTake, held]
  exact if_pos (by simp [up, op])

theorem does_loopSet (op : leAt rec 0 1 = 1) : Does (.loopSet d k) s fun _ m => loopAct d k rec m :=
  have b : Does (.loopSet d k) s (loopSetBody d k) := rfl
  b.congr (loopTake_record up cmd (· == 1) (by simp [op]))

theorem does_loopDisable (op : leAt rec 0 1 = 2) : Does (.loopDisable d k) s fun _ m => loopAct d k rec m :=
  have b : Does (.loopDisable d k) s (loopDisableBody d k) := rfl
  b.congr (loopTake_record up cmd (· == 2) (by simp [op]))

theorem does_resetPlaus (op : leAt rec 0 1 = 3) : Does (.resetPlaus d k) s fun _ m => loopAct d k rec m :=
  have b : Does (.resetPlaus d k) s (resetPlausBody d k) := rfl
  b.congr (loopTake_record up cmd (· == 3) (by simp [op]))

variable (has : s.m.HasLoop d k)
include has

theorem ends_loopSet_rejected (op : leAt rec 0 1 = 1) (empty : leIntAt rec 8 4 ≤ leIntAt rec 12 4) :
    Ends (.loopSet d k) s fun t => SameStores s t ∧ t.m.loop d k = (s.m.loop d k).refused rec := by
  obtain ⟨t, next, same, slot⟩ := (does_loopSet up cmd op).ends_loop (d := d) (k := k) hull_loopAct
  have rejected := loopAct_rejected (d := d) (k := k) (m := s.m.fresh) (loopRejects_empty op empty)
  rw [rejected, loop_loopReject (hasLoop_fresh has)] at slot
  exact ⟨t, next, same, slot⟩

variable (used : ((s.m.fd d).loopCfg d k).kind ≠ 0)
include used

theorem ends_loopSet (op : leAt rec 0 1 = 1) (band : leIntAt rec 12 4 < leIntAt rec 8 4)
    (auto : (s.m.loop d k).mode = .auto) :
    Ends (.loopSet d k) s fun t => SameStores s t ∧ (t.m.loop d k).mode = .auto ∧
      (t.m.loop d k).setNext = some (leIntAt rec 4 4, leIntAt rec 8 4, leIntAt rec 12 4) ∧
      (t.m.loop d k).ackSeq = leAt rec 1 1 ∧ (t.m.loop d k).cmd = none ∧ (t.m.loop d k).sp = (s.m.loop d k).sp := by
  obtain ⟨t, next, same, slot⟩ := (does_loopSet up cmd op).ends_loop (d := d) (k := k) hull_loopAct
  have given : ((s.m.loop d k).noted rec).given rec = { (s.m.loop d k).noted rec with
      setNext := some (leIntAt rec 4 4, leIntAt rec 8 4, leIntAt rec 12 4) } :=
    if_neg (by simp [LoopSlot.noted, auto])
  have after := untimed_loopAct_set (m := s.m.fresh) used (hasLoop_fresh has) op band
  rw [← slot, fresh_loop, given] at after
  exact ⟨t, next, same, (congrArg LoopSlot.mode after :).trans auto, (congrArg LoopSlot.setNext after :),
    (congrArg LoopSlot.ackSeq after :), (congrArg LoopSlot.cmd after :), (congrArg LoopSlot.sp after :)⟩

theorem ends_loopDisable (op : leAt rec 0 1 = 2) : Ends (.loopDisable d k) s fun t => SameStores s t ∧
    (t.m.loop d k).mode = .disabled ∧ (t.m.loop d k).on = false ∧ (t.m.loop d k).ackSeq = leAt rec 1 1 := by
  obtain ⟨t, next, same, slot⟩ := (does_loopDisable up cmd op).ends_loop (d := d) (k := k) hull_loopAct
  have after := untimed_loopAct_disable (m := s.m.fresh) used (hasLoop_fresh has) op
  rw [← slot] at after
  exact ⟨t, next, same, (congrArg LoopSlot.mode after :), (congrArg LoopSlot.on after :).trans (setOn_on ..),
    (congrArg LoopSlot.ackSeq after :).trans (ackSeq_of_unswitched (unswitched_setOn ..))⟩

theorem ends_resetPlaus (op : leAt rec 0 1 = 3) : Ends (.resetPlaus d k) s fun t => SameStores s t ∧
    (t.m.loop d k).plaus = false ∧ (t.m.loop d k).ackSeq = leAt rec 1 1 := by
  obtain ⟨t, next, same, slot⟩ := (does_resetPlaus up cmd op).ends_loop (d := d) (k := k) hull_loopAct
  have has' := hasLoop_fresh has
  have after := untimed_loopAct_resetPlaus (m := s.m.fresh) used op
  rw [← slot] at after
  have noted : ((s.m.fresh.updLoop d k (LoopSlot.noted rec)).loop d k).ackSeq = leAt rec 1 1 := by
    rw [loop_updLoop has', LoopSlot.noted]
  obtain ⟨plaus, ackSeq⟩ := clearPlaus_clears (hasLoop_updLoop has' (LoopSlot.noted rec)) 0
  exact ⟨t, next, same, (congrArg LoopSlot.plaus after :).trans plaus,
    (congrArg LoopSlot.ackSeq after :).trans (ackSeq.trans noted)⟩

end

/-! ### A sample (R219, R223) -/

section
variable (used : ((s.m.fd d).loopCfg d k).kind ≠ 0) (awake : (s.m.fd d).atRest s.m.supplyGood = false) (x amb : Int)
include up used awake

theorem does_loopSample : Does (.loopSample d k x amb) s fun _ m =>
    let c := (s.m.fd d).loopCfg d k
    let now := max s.m.now (s.m.gridFrom (s.m.loopOrigin d) (c.div * 100000) (s.m.loop d k).sampleAt)
    c.driveOut d (loopEval d k x amb (loopTake d k (fun _ => true)
      (({ m with now := now } : Module).updLoop d k fun y => { y with sampleAt := now }))) := by
  have b : Does (.loopSample d k x amb) s (loopSampleBody d k x amb) := rfl
  exact b.congr (if_pos (by simp [up, used, awake]))

theorem does_loopSample_quiet (has : s.m.HasLoop d k) (cmd : (s.m.loop d k).cmd = none)
    (publish : ((s.m.fd d).loopCfg d k).kind = 2) : Does (.loopSample d k x amb) s fun _ m =>
      let now := max s.m.now (s.m.gridFrom (s.m.loopOrigin d) (((s.m.fd d).loopCfg d k).div * 100000) (s.m.loop d k).sampleAt)
      loopEval d k x amb (({ m with now := now } : Module).updLoop d k fun y => { y with sampleAt := now }) := by
  refine (does_loopSample up used awake x amb).congr ?_
  extract_lets c now
  let n : Module := { s.m.fresh with now := now }
  have held : ((n.updLoop d k fun y => { y with sampleAt := now }).loop d k).cmd = none := by
    rw [loop_updLoop (m := n) ⟨has.within, has.fitted⟩]
    exact cmd
  have idle (m : Module) (h : (m.loop d k).cmd = none) : loopTake d k (fun _ => true) m = m := by simp only [loopTake, h]
  rw [idle _ held, LoopCfg.driveOut, if_neg (by rw [publish]; decide)]

end

/-! ### Plausibility (R227) -/

section
variable (used : ((s.m.fd d).loopCfg d k).kind ≠ 0) (model : nbit ((s.m.fd d).loopCfg d k).flags 3 = true)
  (clear : (s.m.loop d k).plaus = false)
  (wide : ((s.m.loop d k).r.natAbs : Int) > ((s.m.fd d).loopCfg d k).rMax)
  (often : ((s.m.fd d).loopCfg d k).m ≤ (s.m.loop d k).count)
include up used model clear wide often

theorem does_loopPlaus : Does (.loopPlaus d k) s fun _ m =>
    ((m.fd d).loopCfg d k).driveOut d ((raisePlaus d k m).updLoop d k fun x =>
      if x.mode == .fallback then x.fallbackState m.now ((m.fd d).loopCfg d k) ((m.fd d).loopU d k) else x) := by
  have b : Does (.loopPlaus d k) s (loopPlausBody d k) := rfl
  have due : (s.m.fdUp d && ((s.m.fd d).loopCfg d k).kind != 0 && nbit ((s.m.fd d).loopCfg d k).flags 3 &&
      !(s.m.loop d k).plaus && decide (((s.m.loop d k).r.natAbs : Int) > ((s.m.fd d).loopCfg d k).rMax) &&
      decide (((s.m.fd d).loopCfg d k).m ≤ (s.m.loop d k).count)) = true := by
    simpa [up, used, model, clear, often] using wide
  refine b.congr ((if_pos due).trans ?_)
  simp only [now_of_hull (hull_raisePlaus ..)]
  rfl

theorem ends_loopPlaus (has : s.m.HasLoop d k) (auto : (s.m.loop d k).mode = .auto) :
    Ends (.loopPlaus d k) s fun t => SameStores s t ∧ (t.m.loop d k).plaus = true ∧ (t.m.loop d k).mode = .fallback := by
  have does := does_loopPlaus up used model clear wide often
  obtain ⟨t, next, same, slot⟩ := does.ends_loop (d := d) (k := k) (by simp)
  have has' := hasLoop_fresh has
  have fallback := mode_implausible auto
  have after : (t.m.loop d k).unswitched = (s.m.loop d k).implausible.unswitched := by
    rw [slot, unswitched_of_untimed (untimed_driveOut _), loop_updLoop (hasLoop_raisePlaus has'), loop_raisePlaus has',
      fresh_loop, if_pos (by rw [fallback]; rfl), unswitched_fallbackState]
  exact ⟨t, next, same, plaus_of_unswitched after, (mode_of_unswitched after).trans fallback⟩

end
end

/-! ### A write of the flags (R188, R222, R228) -/

/-- A write of a slot's flags by the lane whose claim its die obeys reaches the slot. -/
theorem does_lpFlagsPlausClear {l : LaneId} {v : View} {w : Word} (h : Heard s l v)
    (slot : (s.m.sel l v).lpSlot = 64 * d + k) (local_ : k < 64) (reach : s.m.fdReach l d = true)
    (claim : (s.m.fd d).claim = (s.m.lane l).red.claim) (own : claimLane (s.m.lane l).red.claim = l)
    (holds : (s.m.lane l).red.holds = true) : Does (.lpFlagsPlausClear l v w) s fun _ m => lpFlagsWrite d k w m := by
  have b : Does (.lpFlagsPlausClear l v w) s (lpFlagsPlausClearBody l v w) := rfl
  have die : (64 * d + k) / 64 = d := by omega
  have number : (64 * d + k) % 64 = k := by omega
  refine b.congr ?_
  simp only [lpFlagsPlausClearBody, fresh_sel, slot, die, number]
  refine dieWrite_obeyed h reach claim own holds ?_
  have kept := (congrArg (·.red.claim) (lane_of_hull (hull_lpFlagsWrite d k s.m.fresh w) l) :)
  rw [fresh_lane] at kept
  exact kept

end

/-- Settles O30: a record by its operation, a sample and a residual past their guards, a write of the flags by the claim; and
the two-position control by where the error and the minimum times stand. -/
theorem loopsAct : Obligations.LoopsAct := by
  refine ⟨fun s d k up fitted used => ?_, fun x c now e u => ?_⟩
  · have has : s.m.HasLoop d k := ⟨within_of_kind used, fitted⟩
    exact ⟨fun rec cmd op band auto => ends_loopSet up cmd has used op band auto,
      fun rec cmd op empty => ends_loopSet_rejected up cmd has op empty,
      fun rec cmd op => ends_loopDisable up cmd has used op,
      fun rec cmd op => ends_resetPlaus up cmd has used op,
      fun rec cmd => ⟨does_loopSet up cmd, does_loopDisable up cmd, does_resetPlaus up cmd⟩,
      fun x amb awake => does_loopSample up used awake x amb,
      fun x amb awake cmd publish => does_loopSample_quiet up used awake x amb has cmd publish,
      fun model clear auto wide often => ⟨ends_loopPlaus up used model clear wide often has auto,
        (does_loopPlaus up used model clear wide often).congr rfl⟩,
      fun l v w h slot local_ reach claim own holds => does_lpFlagsPlausClear h slot local_ reach claim own holds⟩
  · refine ⟨want_between, want_of_eOn_le, want_of_le_eOff, fun a kind on since early => ?_,
      fun a kind off since early => ?_⟩
    · rw [turn_held (by simp [on]) (not_mayTurn_off kind since early)]
      exact ⟨on, rfl, rfl⟩
    · rw [turn_held (by simp [off]) (not_mayTurn_on kind since early)]
      exact ⟨off, rfl⟩

end Sys2Proof.Machine
end

section
/-! Energy credited to a pulse output: none of its pulses comes before it (R254). -/

namespace Sys2Proof.Machine

theorem cdiv_le_iff {a b n : Nat} (hb : 0 < b) : cdiv a b ≤ n ↔ a ≤ b * n := by
  rw [cdiv, ← Nat.ceilDiv_eq_add_pred_div, ceilDiv_le_iff_le_mul hb]

/-- What a feed has credited by an instant: uniform over its 200 ms (R254). -/
def PulseOut.fedBy (t : Nat) (p : PulseOut) : Nat := p.feed * min (t - p.feedAt) 200000000 / 200000000

section
variable {p : PulseOut} {w a n t : Nat}

theorem residue_credit : (p.credit t).residue = p.residue + (p.fedBy t - p.fed) := rfl

/-- A feed has credited a part of itself once that part's share of the 200 ms is over. -/
theorem le_fedBy (feeds : 0 < p.feed) (part : n ≤ p.feed) (due : p.feedAt + cdiv (n * 200000000) p.feed ≤ t) :
    n ≤ p.fedBy t := by
  have share : cdiv (n * 200000000) p.feed ≤ 200000000 := (cdiv_le_iff feeds).mpr (Nat.mul_le_mul_right _ part)
  have past : cdiv (n * 200000000) p.feed ≤ min (t - p.feedAt) 200000000 := by omega
  rw [PulseOut.fedBy, Nat.le_div_iff_mul_le (by decide)]
  exact (cdiv_le_iff feeds).mp past

/-- Where an accumulator is said to reach its weight, the weight is there already, or the feed still holds what it lacks. -/
theorem reachAt_cases (h : p.reachAt w = some a) : w + p.fed ≤ p.residue ∨
    ∃ n, w + p.fed = p.residue + n ∧ 0 < p.feed ∧ n ≤ p.feed ∧ a = p.feedAt + cdiv (n * 200000000) p.feed := by
  simp only [PulseOut.reachAt] at h
  split_ifs at h with there lacking
  · exact .inl (by omega)
  · refine .inr ⟨((w : Int) - ((p.residue : Int) - p.fed)).toNat, by omega, by omega, by omega, ?_⟩
    exact (Option.some.inj h).symm

end

/-- Settles O32: what the accumulator lacks of the weight is credited once its share of the feed's 200 ms is over. -/
theorem pulsesAreEarned : Obligations.PulsesAreEarned := by
  intro p w a now reaches past
  rw [residue_credit]
  rcases reachAt_cases reaches with there | ⟨n, lacks, feeds, part, rfl⟩
  · omega
  · have credited := le_fedBy feeds part past
    omega

end Sys2Proof.Machine
end

section
/-! Registers of metering points: what an increment leaves in one, and how its rollover is told (R247, R248). -/

namespace Sys2Proof.Machine

/-! ### A register and its rollover -/

section
variable {r : MReg} {inc : Nat}

theorem add_rolls (h : 10 ^ 18 ≤ r.value + (r.frac + inc) / 2 ^ 32) : r.add inc =
    ({ value := r.value + (r.frac + inc) / 2 ^ 32 - 10 ^ 18, frac := (r.frac + inc) % 2 ^ 32
       roll := (r.roll + 1) % 65536 }, true) := if_pos h

theorem add_stays (h : ¬ 10 ^ 18 ≤ r.value + (r.frac + inc) / 2 ^ 32) : r.add inc =
    ({ value := r.value + (r.frac + inc) / 2 ^ 32, frac := (r.frac + inc) % 2 ^ 32, roll := r.roll }, false) := if_neg h

/-- A rollover takes 10^18 units away and counts up; nothing else is lost. -/
theorem total_add_rolls (h : 10 ^ 18 ≤ r.value + (r.frac + inc) / 2 ^ 32) :
    ((r.add inc).1.value + 10 ^ 18) * 2 ^ 32 + (r.add inc).1.frac = r.value * 2 ^ 32 + r.frac + inc ∧
    (r.add inc).1.roll = (r.roll + 1) % 65536 := by
  rw [add_rolls h]
  refine ⟨?_, rfl⟩
  simp only
  omega

theorem total_add_stays (h : ¬ 10 ^ 18 ≤ r.value + (r.frac + inc) / 2 ^ 32) :
    (r.add inc).1.value * 2 ^ 32 + (r.add inc).1.frac = r.value * 2 ^ 32 + r.frac + inc ∧
    (r.add inc).1.roll = r.roll := by
  rw [add_stays h]
  refine ⟨?_, rfl⟩
  simp only
  omega

theorem frac_add_lt : (r.add inc).1.frac < 2 ^ 32 := by
  simp only [MReg.add]
  split <;> exact Nat.mod_lt _ (by decide)

/-- An increment below 10^18 units leaves a register below 10^18, whether it rolls over or not. -/
theorem value_add_lt (value : r.value < 10 ^ 18) (frac : r.frac < 2 ^ 32) (small : inc ≤ (10 ^ 18 - 1) * 2 ^ 32) :
    (r.add inc).1.value < 10 ^ 18 := by
  simp only [MReg.add]
  split <;> simp only <;> omega

end

/-! ### The registers of a point -/

/-- The registers of a thermal or an electrical point. -/
def FieldDie.regs (thermal : Bool) (p : Nat) (x : FieldDie) : List MReg :=
  if thermal then (at? x.hps p {}).regs else (at? x.mps p {}).regs

/-- A die with the registers of a point changed. -/
def FieldDie.withRegs (thermal : Bool) (p : Nat) (f : List MReg → List MReg) (x : FieldDie) : FieldDie :=
  if thermal then { x with hps := upd x.hps p fun h => { h with regs := f h.regs } }
  else { x with mps := upd x.mps p fun a => { a with regs := f a.regs } }

/-- A die has a point. -/
def FieldDie.HasPoint (thermal : Bool) (p : Nat) (x : FieldDie) : Prop :=
  p < if thermal then x.hps.length else x.mps.length

section
variable {x y : FieldDie} {thermal : Bool} {p : Nat}

theorem regs_withRegs (has : x.HasPoint thermal p) (f : List MReg → List MReg) :
    (x.withRegs thermal p f).regs thermal p = f (x.regs thermal p) := by
  cases thermal with
  | false => exact congrArg MeterPoint.regs (at?_upd x.mps p _ {} has)
  | true => exact congrArg HeatPoint.regs (at?_upd x.hps p _ {} has)

theorem shell_withRegs (f : List MReg → List MReg) : (x.withRegs thermal p f).shell = x.shell := by
  cases thermal <;> rfl

theorem regs_of_blank (h : x.blank = y.blank) : x.regs thermal p = y.regs thermal p := by
  have mps : x.mps = y.mps := (congrArg FieldDie.mps h :)
  have hps : x.hps = y.hps := (congrArg FieldDie.hps h :)
  simp only [FieldDie.regs, mps, hps]

end

/-- Whether a die's events reach a lane hangs on links, claims and vacancy (R395). -/
theorem fdHeard_of_hull {m n : Module} (h : m.hull = n.hull) (d : Nat) : m.fdHeard d = n.fdHeard d := by
  have variant : m.variant = n.variant := (congrArg Module.variant h :)
  have vacant : (m.fd d).vacant = (n.fd d).vacant := (congrArg FieldDie.vacant (fd_of_hull h d) :)
  have links (l : LaneId) : (m.lane l).fldUp = (n.lane l).fldUp := (congrArg Lane.fldUp (lane_of_hull h l) :)
  have exch (l : LaneId) : (m.lane l).red.exch = (n.lane l).red.exch := (congrArg (·.red.exch) (lane_of_hull h l) :)
  simp only [Module.fdHeard, variant, vacant, claim_of_hull h, links, exch, holds_of_hull h]

/-! ### An event of the metrology class (R385, R393, R395) -/

section
variable {m : Module} {d b c x y z : Nat}

/-- A metrology event of a die that is heard enters the intake of its lane, where that lane holds the claim (R393). -/
theorem intake_reportFd (heard : m.fdHeard d = true) (holds : (m.lane (claimLane (m.fd d).claim)).red.holds = true)
    (metrology : isMetrology c = true) : ∃ e : EvRec, e.code = c ∧ e.p1 = y % 2 ^ 32 ∧
      ((reportFd d b c x y z m).lane (claimLane (m.fd d).claim)).evr.intake =
        (m.lane (claimLane (m.fd d).claim)).evr.intake ++ [e] := by
  simp only [reportFd, heard, if_true, reportAs, lane_updLane, Lane.take, metrology, holds, Bool.true_or]
  exact ⟨_, rfl, rfl, rfl⟩

/-- An event of a die that hears no lane is kept while there is room (R395). -/
theorem evq_reportFd (here : d < m.fds.length) (unheard : m.fdHeard d = false) (room : (m.fd d).evq.length < 128) :
    ∃ e : EvRec, e.code = c ∧ e.p1 = y % 2 ^ 32 ∧ ((reportFd d b c x y z m).fd d).evq = (m.fd d).evq ++ [e] := by
  simp only [reportFd, unheard, Bool.false_eq_true, if_false, fd_updFd _ _ _ here, FieldDie.keepEvent, room, if_true]
  exact ⟨_, rfl, rfl, rfl⟩

end

/-! ### An increment of a point's register -/

/-- The register of a point that an increment goes to. -/
def Module.reg (m : Module) (d : Nat) (thermal : Bool) (p idx : Nat) : MReg := at? ((m.fd d).regs thermal p) idx {}

/-- The module with an increment added to a point's register, before a rollover is told. -/
def addedReg (d : Nat) (thermal : Bool) (p idx inc : Nat) (m : Module) : Module :=
  m.updFd d (FieldDie.withRegs thermal p fun rs => upd rs idx fun _ => ((m.reg d thermal p idx).add inc).1)

section
variable {d p idx inc : Nat} {thermal : Bool} {m : Module}

theorem addReg_eq : addReg d thermal p idx inc m =
    if ((m.reg d thermal p idx).add inc).2 then
      reportFd d 9 0x5803 (pointCode d thermal p) idx ((m.reg d thermal p idx).add inc).1.roll
        (addedReg d thermal p idx inc m)
    else addedReg d thermal p idx inc m := by
  cases thermal <;> rfl

theorem shell_addedReg : (addedReg d thermal p idx inc m).shell = m.shell := shell_updFd _ _ _ fun _ => shell_withRegs _

@[simp] theorem hull_addReg : (addReg d thermal p idx inc m).hull = m.hull := by
  rw [addReg_eq, apply_ite Module.hull, hull_reportFd, ite_self, hull_of_shell shell_addedReg]

theorem regs_addReg (here : d < m.fds.length) (has : (m.fd d).HasPoint thermal p) :
    ((addReg d thermal p idx inc m).fd d).regs thermal p =
      upd ((m.fd d).regs thermal p) idx fun _ => ((m.reg d thermal p idx).add inc).1 := by
  have added : ((addedReg d thermal p idx inc m).fd d).regs thermal p =
      upd ((m.fd d).regs thermal p) idx fun _ => ((m.reg d thermal p idx).add inc).1 := by
    rw [addedReg, fd_updFd _ _ _ here, regs_withRegs has]
  rw [addReg_eq]
  split
  · rw [regs_of_blank (fd_of_blank (blank_reportFd ..) d), added]
  · exact added

theorem reg_addReg (here : d < m.fds.length) (has : (m.fd d).HasPoint thermal p)
    (within : idx < ((m.fd d).regs thermal p).length) :
    (addReg d thermal p idx inc m).reg d thermal p idx = ((m.reg d thermal p idx).add inc).1 := by
  rw [Module.reg, regs_addReg here has, at?_upd _ _ _ _ within]

/-- A rollover told to a lane that holds the claim (R248, R393). -/
theorem intake_addReg (rolls : ((m.reg d thermal p idx).add inc).2 = true) (heard : m.fdHeard d = true)
    (holds : (m.lane (claimLane (m.fd d).claim)).red.holds = true) : ∃ e : EvRec, e.code = 0x5803 ∧
      e.p1 = idx % 2 ^ 32 ∧ ((addReg d thermal p idx inc m).lane (claimLane (m.fd d).claim)).evr.intake =
        (m.lane (claimLane (m.fd d).claim)).evr.intake ++ [e] := by
  have hull : (addedReg d thermal p idx inc m).hull = m.hull := hull_of_shell shell_addedReg
  have lane (l : LaneId) : (addedReg d thermal p idx inc m).lane l = m.lane l := updFd_lane ..
  rw [addReg_eq, if_pos rolls, ← claim_of_hull hull, ← lane]
  exact intake_reportFd (by rwa [fdHeard_of_hull hull]) (by rwa [claim_of_hull hull, lane]) rfl

/-- A rollover kept by a die that hears no lane (R248, R395). -/
theorem evq_addReg (here : d < m.fds.length) (rolls : ((m.reg d thermal p idx).add inc).2 = true)
    (unheard : m.fdHeard d = false) (room : (m.fd d).evq.length < 128) : ∃ e : EvRec, e.code = 0x5803 ∧
      e.p1 = idx % 2 ^ 32 ∧ ((addReg d thermal p idx inc m).fd d).evq = (m.fd d).evq ++ [e] := by
  have evq : ((addedReg d thermal p idx inc m).fd d).evq = (m.fd d).evq :=
    (congrArg FieldDie.evq (fd_of_shell shell_addedReg d) :)
  rw [addReg_eq, if_pos rolls, ← evq]
  refine evq_reportFd ?_ ?_ (by rwa [evq])
  · rwa [addedReg, length_fds_updFd]
  · rwa [fdHeard_of_hull (hull_of_shell shell_addedReg)]

end

/-- Settles O33: an increment carries from the fraction to the integer part, and what a rollover takes away is 10^18. -/
theorem registersKeepTheEnergy : Obligations.RegistersKeepTheEnergy := by
  intro m d p idx inc thermal regs r t q reached here has within value frac small
  have after : q = (r.add inc).1 := reg_addReg here has within
  have rolls (h : reached) : (r.add inc).2 = true := by rw [add_rolls h]
  refine ⟨after ▸ value_add_lt value frac small, after ▸ frac_add_lt, fun h => after ▸ total_add_rolls h,
    fun h => after ▸ total_add_stays h, fun h heard holds => ?_, fun h unheard room => ?_⟩
  · obtain ⟨e, code, p1, intake⟩ := intake_addReg (rolls h) heard holds
    exact ⟨e, code, by rw [code]; rfl, p1, intake⟩
  · obtain ⟨e, code, p1, evq⟩ := evq_addReg here (rolls h) unheard room
    exact ⟨e, code, by rw [code]; rfl, p1, evq⟩

end Sys2Proof.Machine
end

section
/-! What metering leaves as it was: everything that stays once the points and the instant of the last block are taken away
beside the parts that the field channels and reports write. -/

namespace Sys2Proof.Machine

/-! ### Operations on the points of a die -/

section
variable (d p : Nat) (m : Module)

@[simp] theorem hull_updMp (f : MeterPoint → MeterPoint) : (m.updMp d p f).hull = m.hull := hull_updFd _ _ _ fun _ => rfl

@[simp] theorem hull_updHp (f : HeatPoint → HeatPoint) : (m.updHp d p f).hull = m.hull := hull_updFd _ _ _ fun _ => rfl

@[simp] theorem hull_judgeHeat : (judgeHeat d p m).hull = m.hull := by
  simp only [judgeHeat]
  split
  · rfl
  · rw [hull_reportFd, apply_ite Module.hull, hull_raise, ite_self, hull_updHp]

@[simp] theorem hull_mpBlock : (mpBlock d p m).hull = m.hull := by
  simp only [mpBlock]
  split
  · rfl
  · rw [hull_updMp]
    exact forEach_part Module.hull _ _ (fun _ _ => hull_addReg) m

@[simp] theorem hull_hpBlock : (hpBlock d p m).hull = m.hull := by
  simp only [hpBlock]
  split
  · rfl
  · rw [hull_updHp, hull_judgeHeat, hull_updHp]

@[simp] theorem hull_judgePulse (k : Nat) : (judgePulse d p k m).hull = m.hull := by
  simp only [judgePulse]
  split
  · split
    · rfl
    · rw [hull_setBacklog, hull_updPulse]
  · rfl

/-- The block in progress of a die ended for each of its points (R243). -/
def pointsEnd (d : Nat) (m : Module) : Module :=
  forEach (List.range 16) (fun p => hpBlock d p) (forEach (List.range 32) (fun p => mpBlock d p) (judgePulses d m))

/-- A die whose last block ended at an instant. -/
def FieldDie.blockedAt (t : Nat) (x : FieldDie) : FieldDie := { x with blockAt := t }

theorem blockAt_blockedAt (t : Nat) (x : FieldDie) : (x.blockedAt t).blockAt = t := rfl

theorem blockEnd_eq : blockEnd d m = (pointsEnd d m).updFd d (FieldDie.blockedAt (pointsEnd d m).now) := rfl

theorem hull_pointsEnd : (pointsEnd d m).hull = m.hull :=
  (forEach_part Module.hull _ _ (fun _ _ => hull_hpBlock ..) _).trans
    ((forEach_part Module.hull _ _ (fun _ _ => hull_mpBlock ..) _).trans (hull_judgePulses ..))

@[simp] theorem hull_clearMd : (clearMd d p m).hull = m.hull := hull_updMp ..

@[simp] theorem hull_lateMdResets : (lateMdResets d m).hull = m.hull :=
  forEach_part Module.hull _ _ (fun _ _ => by
    simp only
    split
    · rw [hull_reportFd, hull_clearMd]
    · rfl) m

end

/-! ### Blocks -/

/-- A field die with the instant of its last block as a new die's. -/
def FieldDie.still (x : FieldDie) : FieldDie := x.blockedAt 0

theorem still_blockedAt (t : Nat) (x : FieldDie) : (x.blockedAt t).still = x.still := rfl

/-- The module with its field dies so. -/
def Module.still (m : Module) : Module := { m with fds := m.fds.map FieldDie.still }

/-- The module so, and with the parts taken away that a hull leaves out. -/
def Module.husk (m : Module) : Module := m.still.hull

section
variable {m n : Module}

theorem fd_still (d : Nat) : m.still.fd d = (m.fd d).still := by
  simp only [Module.fd, Module.still, at?, List.getElem?_map]
  cases m.fds[d]? <;> rfl

theorem husk_of_still (h : m.still = n.still) : m.husk = n.husk := congrArg Module.hull h

theorem husk_of_hull (h : m.hull = n.hull) : m.husk = n.husk := by
  have comm (m : Module) : m.husk = m.hull.still := by
    simp only [Module.husk, Module.hull, Module.still, Module.shell, Module.blank, List.map_map]
    rfl
  rw [comm, comm, h]

/-- A part of a die that a husk keeps. -/
theorem part_of_husk {β : Type} (g : FieldDie → β) (still : ∀ x : FieldDie, g x.still = g x)
    (hull : ∀ x : FieldDie, g x.shell.blank = g x) (h : m.husk = n.husk) (d : Nat) : g (m.fd d) = g (n.fd d) := by
  have kept := congrArg g (fd_of_hull (m := m.still) (n := n.still) h d)
  rwa [hull, hull, fd_still, fd_still, still, still] at kept

theorem lane_of_husk (h : m.husk = n.husk) (l : LaneId) : (m.lane l).blank = (n.lane l).blank := by
  have same (m : Module) : m.still.lane l = m.lane l := by cases l <;> rfl
  rw [← same m, ← same n, lane_of_hull (m := m.still) (n := n.still) h]

theorem bank_of_husk (h : m.husk = n.husk) (d : Nat) : (m.fd d).bank = (n.fd d).bank :=
  part_of_husk FieldDie.bank (fun _ => rfl) (fun _ => rfl) h d

theorem now_of_husk (h : m.husk = n.husk) : m.now = n.now := (congrArg Module.now h :)

theorem nvmOut_of_husk (h : m.husk = n.husk) : m.nvmOut = n.nvmOut := (congrArg Module.nvmOut h :)

theorem variant_of_husk (h : m.husk = n.husk) : m.variant = n.variant := (congrArg Module.variant h :)

theorem length_fds_of_husk (h : m.husk = n.husk) : m.fds.length = n.fds.length := by
  simpa [Module.still] using length_fds_of_hull (m := m.still) (n := n.still) h

/-- The dies that a lane reaches hang on the links, the supplies and the references. -/
theorem fdReach_of_husk (h : m.husk = n.husk) (l : LaneId) (d : Nat) : m.fdReach l d = n.fdReach l d := by
  have powered : (m.fd d).powered = (n.fd d).powered := part_of_husk FieldDie.powered (fun _ => rfl) (fun _ => rfl) h d
  have sound : (m.fd d).clockFailed = (n.fd d).clockFailed := part_of_husk FieldDie.clockFailed (fun _ => rfl) (fun _ => rfl) h d
  have links : (m.lane l).fldUp = (n.lane l).fldUp := (congrArg Lane.fldUp (lane_of_husk h l) :)
  simp only [Module.fdReach, Module.fdUp, variant_of_husk h, powered, sound, links]

theorem fdsOf_of_husk (h : m.husk = n.husk) (l : LaneId) : m.fdsOf l = n.fdsOf l := by
  simp only [Module.fdsOf, Module.fdList, variant_of_husk h, fdReach_of_husk h]

theorem metCfg_of_husk (h : m.husk = n.husk) (d : Nat) : (m.fd d).metCfg = (n.fd d).metCfg := by
  rw [FieldDie.metCfg, bank_of_husk h, FieldDie.metCfg]

theorem chanCfg_of_husk (h : m.husk = n.husk) (d c : Nat) : (m.fd d).chanCfg d c = (n.fd d).chanCfg d c := by
  rw [FieldDie.chanCfg, bank_of_husk h, FieldDie.chanCfg]

end

section
variable (d : Nat) (m : Module)

theorem still_updFd (f : FieldDie → FieldDie) (h : ∀ x, (f x).still = x.still) : (m.updFd d f).still = m.still := by
  simp [Module.updFd, Module.still, map_upd _ _ _ _ h]

@[simp] theorem husk_blockEnd : (blockEnd d m).husk = m.husk := by
  rw [blockEnd_eq, husk_of_still (still_updFd ..), husk_of_hull (hull_pointsEnd ..)]
  exact fun _ => still_blockedAt ..

@[simp] theorem husk_blocksFirst (ds : List Nat) : (blocksFirst ds m).husk = m.husk :=
  forEach_part Module.husk _ _ (fun d m => by
    simp only
    rw [apply_ite Module.husk, husk_blockEnd, ite_self]) m

theorem blockAt_blockEnd (here : d < m.fds.length) : ((blockEnd d m).fd d).blockAt = m.now := by
  rw [blockEnd_eq, fd_updFd _ _ _ (by rwa [length_fds_of_hull (hull_pointsEnd ..)]), blockAt_blockedAt,
    now_of_hull (hull_pointsEnd ..)]

end
end Sys2Proof.Machine
end

section
/-! Blocks, settled integrators and closed demand intervals of a field die (R241, R243, R250, R268). -/

namespace Sys2Proof.Machine

/-! ### The end of a block and of the settling time (R241, R243) -/

section
variable {s : State} {d : Nat} (up : s.m.fdUp d = true)
include up

theorem does_meteringBlockEnd (awake : (s.m.fd d).atRest s.m.supplyGood = false) (x : FrameMeas) :
    Does (.meteringBlockEnd d x) s fun _ m =>
      blockEnd d (sampleDie d x (clockTo (m.gridAfter 200000000 (m.fd d).blockAt) m)) := by
  have b : Does (.meteringBlockEnd d x) s (meteringBlockEndBody d x) := rfl
  exact b.congr (if_pos (by simp [up, awake]))

theorem ends_meteringBlockEnd (awake : (s.m.fd d).atRest s.m.supplyGood = false) (x : FrameMeas) :
    Ends (.meteringBlockEnd d x) s fun t => SameStores s t ∧ (t.m.fd d).blockAt = t.m.now ∧
      t.m.now = max s.m.now (s.m.gridAfter 200000000 (s.m.fd d).blockAt) := by
  have sampled (m : Module) : (sampleDie d x m).hull = m.hull := hull_sampleDie ..
  have husk (m : Module) : (blockEnd d (sampleDie d x m)).husk = m.husk :=
    (husk_blockEnd ..).trans (husk_of_hull (sampled m))
  refine (does_meteringBlockEnd up awake x).ends ⟨sameStores_commit ?_, ?_, ?_⟩
  · rw [nvmOut_of_husk (husk _), clockTo_nvmOut, fresh_nvmOut]
  · rw [commit_m, closed_fd, closed_now, now_of_husk (husk _), blockAt_blockEnd, now_of_hull (sampled _)]
    rw [length_fds_of_hull (sampled _)]
    exact lt_of_fdUp up
  · rw [commit_m, closed_now, now_of_husk (husk _)]
    rfl

theorem does_settlingEnd {p : Nat} (settling : (at? (s.m.fd d).mps p {}).settling = true) :
    Does (.settlingEnd d p) s fun _ m =>
      (clockTo ((m.fd d).upAt + 3000000000) m).updMp d p fun a => { a with settling := false } := by
  have b : Does (.settlingEnd d p) s (settlingEndBody d p) := rfl
  exact b.congr (if_pos (Bool.and_eq_true_iff.mpr ⟨up, settling⟩))

theorem ends_settlingEnd {p : Nat} (settling : (at? (s.m.fd d).mps p {}).settling = true) :
    Ends (.settlingEnd d p) s fun t => SameStores s t ∧ t.m.now = max s.m.now ((s.m.fd d).upAt + 3000000000) ∧
      t.m.fds = upd s.m.fds d (fun f => { f with mps := upd f.mps p fun a => { a with settling := false } }) :=
  (does_settlingEnd up settling).ends ⟨sameStores_commit rfl, rfl, rfl⟩

end

/-! ### A demand interval closed, and the resets that waited for it (R250, R268) -/

/-- A point whose maximum demand is cleared (R250). -/
def MeterPoint.mdCleared (a : MeterPoint) : MeterPoint :=
  { a with demand := { a.demand with max := 0, maxTime := 0, mdReset := false } }

/-- A point with the reset that waited carried out. -/
def MeterPoint.lateReset (a : MeterPoint) : MeterPoint := if a.demand.mdReset then a.mdCleared else a

/-- The reset of one point that waited for the close of the interval carried out and recorded (R266, R268). -/
def lateMdReset (d p : Nat) (m : Module) : Module :=
  let g := (at? (m.fd d).mps p {}).demand
  if g.mdReset then reportFd d 9 0x5804 (32 * d + p) g.max (g.maxTime % 2 ^ 32) (clearMd d p m) else m

theorem lateMdResets_eq (d : Nat) (m : Module) : lateMdResets d m = forEach (List.range 32) (lateMdReset d) m := rfl

theorem mps_of_blank {m n : Module} (h : m.blank = n.blank) (d : Nat) : (m.fd d).mps = (n.fd d).mps :=
  (congrArg FieldDie.mps (fd_of_blank h d) :)

theorem demandAt_of_hull {m n : Module} (h : m.hull = n.hull) (d : Nat) : (m.fd d).demandAt = (n.fd d).demandAt :=
  (congrArg FieldDie.demandAt (fd_of_hull h d) :)

section
variable {d : Nat} {m : Module}

@[simp] theorem hull_lateMdReset (p : Nat) : (lateMdReset d p m).hull = m.hull := by
  simp only [lateMdReset]
  rw [apply_ite Module.hull, hull_reportFd, hull_clearMd, ite_self]

theorem mps_clearMd (here : d < m.fds.length) (p : Nat) :
    ((clearMd d p m).fd d).mps = upd (m.fd d).mps p MeterPoint.mdCleared := by
  rw [clearMd, Module.updMp, fd_updFd _ _ _ here]
  rfl

theorem mps_lateMdReset (here : d < m.fds.length) (p : Nat) :
    ((lateMdReset d p m).fd d).mps = upd (m.fd d).mps p MeterPoint.lateReset := by
  simp only [lateMdReset]
  split
  case isTrue waits =>
    rw [mps_of_blank (blank_reportFd ..), mps_clearMd here]
    exact upd_eq_upd fun a ha => by simp_all [at?, MeterPoint.lateReset]
  case isFalse none_ =>
    have kept : upd (m.fd d).mps p MeterPoint.lateReset = upd (m.fd d).mps p id :=
      upd_eq_upd fun a ha => by simp_all [at?, MeterPoint.lateReset]
    rw [kept, upd, List.modify_id]

theorem mps_forEach_lateMdReset (here : d < m.fds.length) (n : Nat) :
    ((forEach (List.range n) (lateMdReset d) m).fd d).mps =
      (m.fd d).mps.zipIdx.map fun a => if a.2 < n then a.1.lateReset else a.1 := by
  induction n with
  | zero => simp
  | succ n ih =>
    have hull : (forEach (List.range n) (lateMdReset d) m).hull = m.hull :=
      forEach_part Module.hull _ _ (fun _ _ => hull_lateMdReset _) m
    rw [List.range_succ, forEach_append, forEach_cons, forEach_nil,
      mps_lateMdReset (by rwa [length_fds_of_hull hull]), ih]
    refine List.ext_getElem? fun k => ?_
    simp only [upd, List.getElem?_modify, List.getElem?_map, List.getElem?_zipIdx, Option.map_map]
    cases (m.fd d).mps[k]? with
    | none => simp
    | some a =>
      by_cases last : n = k
      · simp [last]
      · have before : k ≤ n ↔ k < n := by omega
        simp [last, before]

end

theorem zipIdx_map_zipIdx_map {α β γ : Type} (xs : List α) (f : α × Nat → β) (g : β × Nat → γ) :
    (xs.zipIdx.map f).zipIdx.map g = xs.zipIdx.map fun a => g (f a, a.2) := by
  refine List.ext_getElem? fun k => ?_
  simp only [List.getElem?_map, List.getElem?_zipIdx, Option.map_map]
  rfl

/-- A point of a die, with its number, after the close of the interval: closed where it is in use (R250). -/
def FieldDie.closedPoint (d sec : Nat) (x : FieldDie) (a : MeterPoint × Nat) : MeterPoint :=
  if (x.mpCfg d a.2).kind = 0 then a.1 else { a.1 with demand := a.1.demand.close sec x.metCfg.demandMin }

/-- A die at the close of its demand interval (R250). -/
def demandClosed (d : Nat) (m : Module) : Module :=
  m.updFd d fun x => { x with
    demandAt := m.now, demandSent := none, mps := x.mps.zipIdx.map (x.closedPoint d ((m.fd d).modS m.now)) }

section
variable {s : State} {d : Nat} (up : s.m.fdUp d = true) (valid : (s.m.fd d).tbValid = true)
  (metered : (s.m.fd d).metCfg.demandMin ≠ 0)
include up valid metered

theorem does_demandBoundary : Does (.demandBoundary d) s fun _ m =>
    lateMdResets d (demandClosed d (clockTo (m.fd d).boundary m)) := by
  have b : Does (.demandBoundary d) s (demandBoundaryBody d) := rfl
  exact b.congr (if_pos (by simp [up, valid, metered]))

theorem ends_demandBoundary : Ends (.demandBoundary d) s fun t => SameStores s t ∧
    t.m.now = max s.m.now (s.m.fd d).boundary ∧ (t.m.fd d).demandAt = t.m.now ∧
    (t.m.fd d).mps = (s.m.fd d).mps.zipIdx.map fun a =>
      let x := (s.m.fd d).closedPoint d ((s.m.fd d).modS t.m.now) a
      if a.2 < 32 ∧ x.demand.mdReset = true then x.mdCleared else x := by
  let n := clockTo (s.m.fresh.fd d).boundary s.m.fresh
  have here : d < n.fds.length := lt_of_fdUp up
  have within : d < (demandClosed d n).fds.length := by rwa [demandClosed, length_fds_updFd]
  have hull : (lateMdResets d (demandClosed d n)).hull = (demandClosed d n).hull := hull_lateMdResets ..
  have now : (lateMdResets d (demandClosed d n)).now = max s.m.now (s.m.fd d).boundary := by
    rw [now_of_hull hull, demandClosed, updFd_now]
    rfl
  refine (does_demandBoundary up valid metered).ends ⟨sameStores_commit ?_, ?_, ?_, ?_⟩
  · rw [nvmOut_of_hull hull, demandClosed, updFd_nvmOut, clockTo_nvmOut, fresh_nvmOut]
  · rw [commit_m, closed_now, now]
  · rw [commit_m, closed_fd, closed_now, now]
    rw [demandAt_of_hull hull, demandClosed, fd_updFd _ _ _ here]
    rfl
  · rw [commit_m, closed_fd, closed_now, now, lateMdResets_eq, mps_forEach_lateMdReset within, demandClosed,
      fd_updFd _ _ _ here]
    simp only [zipIdx_map_zipIdx_map, MeterPoint.lateReset, ite_and]
    rfl

end
end Sys2Proof.Machine
end

section
/-! Flow pulses of a thermal point: the volume and the energy that they carry, and the registers that take them (R247, R251 to
R253, R268). -/

namespace Sys2Proof.Machine

/-! ### A register of a point, among the others -/

/-- A die has a register of a point. -/
structure Module.HasReg (d : Nat) (thermal : Bool) (p idx : Nat) (m : Module) : Prop where
  within : d < m.fds.length
  point : (m.fd d).HasPoint thermal p
  fitted : idx < ((m.fd d).regs thermal p).length

section
variable {d p idx k inc : Nat} {thermal : Bool} {m n : Module}

theorem hasPoint_withRegs (x : FieldDie) (f : List MReg → List MReg) :
    (x.withRegs thermal p f).HasPoint thermal p = x.HasPoint thermal p := by
  cases thermal <;> simp [FieldDie.withRegs, FieldDie.HasPoint]

theorem hasPoint_of_blank {x y : FieldDie} (h : x.blank = y.blank) : x.HasPoint thermal p = y.HasPoint thermal p := by
  have mps : x.mps = y.mps := (congrArg FieldDie.mps h :)
  have hps : x.hps = y.hps := (congrArg FieldDie.hps h :)
  simp only [FieldDie.HasPoint, mps, hps]

theorem hasReg_of_blank (h : n.blank = m.blank) (has : m.HasReg d thermal p idx) : n.HasReg d thermal p idx := by
  obtain ⟨within, point, fitted⟩ := has
  have die := fd_of_blank h d
  exact ⟨(length_fds_of_blank h).symm ▸ within, (hasPoint_of_blank die).symm ▸ point, regs_of_blank die ▸ fitted⟩

theorem reg_of_blank (h : n.blank = m.blank) : n.reg d thermal p k = m.reg d thermal p k := by
  rw [Module.reg, regs_of_blank (fd_of_blank h d), Module.reg]

@[simp] theorem reg_closed : m.closed.reg d thermal p k = m.reg d thermal p k := rfl

theorem hasReg_addReg (has : m.HasReg d thermal p k) : (addReg d thermal p idx inc m).HasReg d thermal p k := by
  obtain ⟨within, point, fitted⟩ := has
  have added : (addedReg d thermal p idx inc m).HasReg d thermal p k := by
    refine ⟨(length_fds_updFd ..).symm ▸ within, ?_, ?_⟩
    · rw [addedReg, fd_updFd _ _ _ within, hasPoint_withRegs]
      exact point
    · rw [addedReg, fd_updFd _ _ _ within, regs_withRegs point, length_upd]
      exact fitted
  rw [addReg_eq]
  split
  · exact hasReg_of_blank (blank_reportFd ..) added
  · exact added

theorem reg_addReg_same (has : m.HasReg d thermal p idx) :
    (addReg d thermal p idx inc m).reg d thermal p idx = ((m.reg d thermal p idx).add inc).1 :=
  reg_addReg has.within has.point has.fitted

theorem reg_addReg_other (has : m.HasReg d thermal p k) (other : idx ≠ k) :
    (addReg d thermal p idx inc m).reg d thermal p k = m.reg d thermal p k := by
  rw [Module.reg, regs_addReg has.within has.point, at?_upd_ne _ _ _ _ _ other, Module.reg]

end

/-! ### A thermal point changed beside its registers -/

section
variable {d h p k : Nat} {m : Module}

theorem regs_updHp {f : HeatPoint → HeatPoint} (keeps : ∀ x, (f x).regs = x.regs) :
    ((m.updHp d h f).fd d).regs true p = (m.fd d).regs true p :=
  part_updFd d m (FieldDie.regs true p) (f := fun x => { x with hps := upd x.hps h f })
    (fun x => part_upd (xs := x.hps) (n := h) (f := f) (d := {}) HeatPoint.regs p fun _ => keeps _) d

theorem reg_updHp {f : HeatPoint → HeatPoint} (keeps : ∀ x, (f x).regs = x.regs) :
    (m.updHp d h f).reg d true p k = m.reg d true p k := by
  rw [Module.reg, regs_updHp keeps, Module.reg]

theorem hasReg_updHp {f : HeatPoint → HeatPoint} (keeps : ∀ x, (f x).regs = x.regs) (has : m.HasReg d true p k) :
    (m.updHp d h f).HasReg d true p k := by
  obtain ⟨within, point, fitted⟩ := has
  have points : ((m.updHp d h f).fd d).hps.length = (m.fd d).hps.length :=
    part_updFd d m (·.hps.length) (fun _ => length_upd ..) d
  exact ⟨(length_fds_updFd ..).symm ▸ within, (Nat.lt_of_lt_of_eq point points.symm :), (regs_updHp keeps).symm ▸ fitted⟩

/-- Judging the temperatures of a point acts on its TEMP_RANGE alone, beside what is told of it (R253). -/
theorem judgeHeat_cases (d h : Nat) (m : Module) : judgeHeat d h m = m ∨
    ∃ bad, (judgeHeat d h m).blank = (m.updHp d h fun x => { x with tempRange := bad }).blank := by
  simp only [judgeHeat]
  split
  · exact .inl rfl
  · refine .inr ⟨heatBad (m.fd d) ((m.fd d).hpCfg d h) (at? (m.fd d).hps h {}), ?_⟩
    rw [blank_reportFd, apply_ite Module.blank, blank_raise, ite_self]

theorem judgeHeat_settled
    (h' : heatBad (m.fd d) ((m.fd d).hpCfg d h) (at? (m.fd d).hps h {}) = (at? (m.fd d).hps h {}).tempRange) :
    judgeHeat d h m = m := if_pos (beq_iff_eq.mpr h')

theorem reg_judgeHeat : (judgeHeat d h m).reg d true p k = m.reg d true p k := by
  rcases judgeHeat_cases d h m with e | ⟨bad, e⟩
  · rw [e]
  · rw [reg_of_blank e]
    exact reg_updHp fun _ => rfl

theorem hasReg_judgeHeat (has : m.HasReg d true p k) : (judgeHeat d h m).HasReg d true p k := by
  rcases judgeHeat_cases d h m with e | ⟨bad, e⟩
  · rwa [e]
  · exact hasReg_of_blank e (hasReg_updHp (fun _ => rfl) has)

end

/-! ### A pulse and the registers that take it (R247, R251, R252) -/

/-- Volume of a pulse in 2^-32 litres (R247). -/
def HpCfg.volume (i : HpCfg) : Nat := f64Scale ((f64OfInt i.pulseVol).div (f64OfInt 1000)).v (2 ^ 32) 1

/-- Energy of a pulse at the temperatures of a point, J (R251, R253). -/
def HpCfg.energy (i : HpCfg) (x : HeatPoint) : F64 :=
  if x.tempRange then 0 else ((f64OfNano i.pulseVol).mul (fl x.eUnit)).v

/-- Whether a pulse with the sampled direction counts as reverse flow (R252). -/
def FieldDie.flowsBack (x : FieldDie) (d : Nat) (i : HpCfg) (rev : Bool) : Bool :=
  rev && (x.chanCfg d i.ch).encMode == 3

/-- The volume register of a direction. -/
def volumeReg (back : Bool) : Nat := if back then 5 else 4

/-- The energy register of a direction and a sign. -/
def energyReg (back : Bool) (e : F64) : Nat := (if back then 2 else 0) + (if below0 e then 1 else 0)

theorem energyReg_lt (back : Bool) (e : F64) : energyReg back e < 4 := by
  unfold energyReg
  split <;> split <;> decide

theorem volumeReg_bounds (back : Bool) : 4 ≤ volumeReg back ∧ volumeReg back < 6 := by cases back <;> decide

/-- A pulse added to the registers of its point, whose temperatures have been judged. -/
def pulseRegs (i : HpCfg) (d h : Nat) (rev : Bool) (m : Module) : Module :=
  let x := at? (m.fd d).hps h {}
  let back := (m.fd d).flowsBack d i rev
  let n := addReg d true h (volumeReg back) i.volume m
  if x.tempRange then n else addReg d true h (energyReg back (i.energy x)) (toMwh (i.energy x)) n

/-- A pulse counted by its point: in the registers, in what its pulse outputs are fed, and in the flow of the last second. -/
def pulseCounted (i : HpCfg) (d h : Nat) (rev : Bool) (m : Module) : Module :=
  let x := at? (m.fd d).hps h {}
  let back := (m.fd d).flowsBack d i rev
  let e := i.energy x
  let n := pulseRegs i d h rev m
  let eJ := f64ScaleI e (2 ^ 32) 1
  n.updHp d h fun y => { y with
    reverse := back
    blockInc := upd (upd y.blockInc (volumeReg back) (· + i.volume)) (energyReg back e)
      (· + if y.tempRange then 0 else toMwh e)
    recent := (y.recent.filter fun r => decide (n.now < r.1 + 1000000000)) ++
      [(n.now, if back then -(i.pulseVol : Int) else i.pulseVol, if back then -eJ else eJ)] }

section
variable {i : HpCfg} {d h : Nat} {rev : Bool} {m : Module}

@[simp] theorem hull_pulseRegs : (pulseRegs i d h rev m).hull = m.hull := by
  simp only [pulseRegs, apply_ite Module.hull, hull_addReg, ite_self]

@[simp] theorem hull_pulseCounted : (pulseCounted i d h rev m).hull = m.hull := (hull_updHp ..).trans hull_pulseRegs

theorem reg_pulseCounted (k : Nat) : (pulseCounted i d h rev m).reg d true h k = (pulseRegs i d h rev m).reg d true h k :=
  reg_updHp fun _ => rfl

/-- The volume goes to the register of its direction (R251, R252). -/
theorem volume_pulseCounted (has : m.HasReg d true h (volumeReg ((m.fd d).flowsBack d i rev))) :
    (pulseCounted i d h rev m).reg d true h (volumeReg ((m.fd d).flowsBack d i rev)) =
      ((m.reg d true h (volumeReg ((m.fd d).flowsBack d i rev))).add i.volume).1 := by
  have apart (e : F64) : energyReg ((m.fd d).flowsBack d i rev) e ≠ volumeReg ((m.fd d).flowsBack d i rev) :=
    Nat.ne_of_lt ((energyReg_lt ..).trans_le (volumeReg_bounds _).1)
  rw [reg_pulseCounted]
  simp only [pulseRegs]
  split
  · exact reg_addReg_same has
  · rw [reg_addReg_other (hasReg_addReg has) (apart _), reg_addReg_same has]

/-- The energy goes to the register of its direction and sign, where the temperatures allow it (R251 to R253). -/
theorem energy_pulseCounted (allowed : (at? (m.fd d).hps h {}).tempRange = false)
    (has : m.HasReg d true h (energyReg ((m.fd d).flowsBack d i rev) (i.energy (at? (m.fd d).hps h {})))) :
    (pulseCounted i d h rev m).reg d true h
        (energyReg ((m.fd d).flowsBack d i rev) (i.energy (at? (m.fd d).hps h {}))) =
      ((m.reg d true h (energyReg ((m.fd d).flowsBack d i rev) (i.energy (at? (m.fd d).hps h {})))).add
        (toMwh (i.energy (at? (m.fd d).hps h {})))).1 := by
  have apart (e : F64) : volumeReg ((m.fd d).flowsBack d i rev) ≠ energyReg ((m.fd d).flowsBack d i rev) e :=
    Nat.ne_of_gt ((energyReg_lt ..).trans_le (volumeReg_bounds _).1)
  rw [reg_pulseCounted]
  simp only [pulseRegs, allowed, Bool.false_eq_true, if_false]
  rw [reg_addReg_same (hasReg_addReg has), reg_addReg_other has (apart _)]

end

/-! ### The command -/

section
variable {s : State} {d h : Nat} (up : s.m.fdUp d = true) (used : ((s.m.fd d).hpCfg d h).kind ≠ 0)
  (measured : s.m.injectedPoint d true h = false) (rev : Bool)
include up used measured

theorem does_flowPulse : Does (.flowPulse d h rev) s fun _ m =>
    pulseCounted ((m.fd d).hpCfg d h) d h rev (judgeHeat d h (blocksFirst [d] m)) := by
  have b : Does (.flowPulse d h rev) s (flowPulseBody d h rev) := rfl
  have fits : (s.m.fdUp d && ((s.m.fd d).hpCfg d h).kind != 0 && !s.m.injectedPoint d true h) = true := by
    simp [up, used, measured]
  exact b.congr (if_pos fits)

end

section
variable {s : State} {d h : Nat}

/-- The point once the blocks that end at the pulse's instant are over and its temperatures are judged. -/
theorem husk_judged : (judgeHeat d h (blocksFirst [d] s.m.fresh)).husk = s.m.fresh.husk :=
  (husk_of_hull (hull_judgeHeat ..)).trans (husk_blocksFirst ..)

theorem hasReg_blocksFirst (up : s.m.fdUp d = true) (fitted : h < ((blocksFirst [d] s.m.fresh).fd d).hps.length)
    (regs : (at? ((blocksFirst [d] s.m.fresh).fd d).hps h {}).regs.length = 6) {k : Nat} (hk : k < 6) :
    (blocksFirst [d] s.m.fresh).HasReg d true h k :=
  ⟨by rw [length_fds_of_husk (husk_blocksFirst ..)]; exact lt_of_fdUp up, fitted, regs.symm ▸ hk⟩

theorem flowsBack_judged (i : HpCfg) (rev : Bool) :
    ((judgeHeat d h (blocksFirst [d] s.m.fresh)).fd d).flowsBack d i rev = (s.m.fd d).flowsBack d i rev := by
  rw [FieldDie.flowsBack, chanCfg_of_husk husk_judged, fresh_fd, FieldDie.flowsBack]

theorem sameStores_flowPulse (rev : Bool) : SameStores s (commit s fun _ m =>
    pulseCounted ((m.fd d).hpCfg d h) d h rev (judgeHeat d h (blocksFirst [d] m))) :=
  sameStores_commit (by rw [nvmOut_of_hull hull_pulseCounted, nvmOut_of_husk husk_judged, fresh_nvmOut])

theorem ends_flowPulse_volume (up : s.m.fdUp d = true) (used : ((s.m.fd d).hpCfg d h).kind ≠ 0)
    (measured : s.m.injectedPoint d true h = false) (rev : Bool)
    (fitted : h < ((blocksFirst [d] s.m.fresh).fd d).hps.length)
    (regs : (at? ((blocksFirst [d] s.m.fresh).fd d).hps h {}).regs.length = 6) :
    Ends (.flowPulse d h rev) s fun t => SameStores s t ∧
      t.m.reg d true h (volumeReg ((s.m.fd d).flowsBack d ((s.m.fd d).hpCfg d h) rev)) =
        (((blocksFirst [d] s.m.fresh).reg d true h
          (volumeReg ((s.m.fd d).flowsBack d ((s.m.fd d).hpCfg d h) rev))).add ((s.m.fd d).hpCfg d h).volume).1 := by
  refine (does_flowPulse up used measured rev).ends ⟨sameStores_flowPulse rev, ?_⟩
  have has := hasReg_judgeHeat (h := h) (hasReg_blocksFirst up fitted regs
    (volumeReg_bounds ((s.m.fd d).flowsBack d ((s.m.fd d).hpCfg d h) rev)).2)
  rw [← flowsBack_judged (h := h)] at has ⊢
  rw [commit_m, reg_closed, fresh_fd, volume_pulseCounted has, reg_judgeHeat]

theorem ends_flowPulse_energy (up : s.m.fdUp d = true) (used : ((s.m.fd d).hpCfg d h).kind ≠ 0)
    (measured : s.m.injectedPoint d true h = false) (rev : Bool)
    (fitted : h < ((blocksFirst [d] s.m.fresh).fd d).hps.length)
    (regs : (at? ((blocksFirst [d] s.m.fresh).fd d).hps h {}).regs.length = 6)
    (allowed : (at? ((blocksFirst [d] s.m.fresh).fd d).hps h {}).tempRange = false)
    (sound : heatBad ((blocksFirst [d] s.m.fresh).fd d) ((s.m.fd d).hpCfg d h)
      (at? ((blocksFirst [d] s.m.fresh).fd d).hps h {}) = false) :
    let e := ((s.m.fd d).hpCfg d h).energy (at? ((blocksFirst [d] s.m.fresh).fd d).hps h {})
    let k := energyReg ((s.m.fd d).flowsBack d ((s.m.fd d).hpCfg d h) rev) e
    Ends (.flowPulse d h rev) s fun t => SameStores s t ∧
      t.m.reg d true h k = (((blocksFirst [d] s.m.fresh).reg d true h k).add (toMwh e)).1 := by
  intro e k
  have cfg : ((blocksFirst [d] s.m.fresh).fd d).hpCfg d h = (s.m.fd d).hpCfg d h := by
    rw [FieldDie.hpCfg, metCfg_of_husk (husk_blocksFirst ..), fresh_fd, FieldDie.hpCfg]
  have judged : judgeHeat d h (blocksFirst [d] s.m.fresh) = blocksFirst [d] s.m.fresh :=
    judgeHeat_settled (by rw [cfg, sound, allowed])
  have back := flowsBack_judged (s := s) (d := d) (h := h) ((s.m.fd d).hpCfg d h) rev
  have has := hasReg_blocksFirst up fitted regs ((energyReg_lt _ _).trans (by decide) : k < 6)
  refine (does_flowPulse up used measured rev).ends ⟨sameStores_flowPulse rev, ?_⟩
  rw [judged] at back
  simp only [k, ← back] at has ⊢
  rw [commit_m, reg_closed, fresh_fd, judged, energy_pulseCounted allowed has]

end
end Sys2Proof.Machine
end

section
/-! Pulse outputs: the start of a pulse once its energy is there and the spacing is over, and its end after 30 ms (R254,
R255, R257). -/

namespace Sys2Proof.Machine

/-! ### Reading and changing a pulse output -/

/-- The pulse outputs of a point by its code within the die: 256 and above thermal. -/
def FieldDie.pulses (p : Nat) (x : FieldDie) : List PulseOut :=
  if p ≥ 256 then (at? x.hps (p - 256) {}).pulses else (at? x.mps p {}).pulses

/-- A die with the pulse outputs of a point changed. -/
def FieldDie.withPulse (p k : Nat) (f : PulseOut → PulseOut) (x : FieldDie) : FieldDie :=
  if p ≥ 256 then { x with hps := upd x.hps (p - 256) fun h => { h with pulses := upd h.pulses k f } }
  else { x with mps := upd x.mps p fun a => { a with pulses := upd a.pulses k f } }

/-- A die has a pulse output. -/
def FieldDie.HasPulse (p k : Nat) (x : FieldDie) : Prop :=
  (p < x.mps.length ∧ p < 256 ∨ 256 ≤ p ∧ p - 256 < x.hps.length) ∧ k < (x.pulses p).length

/-- A pulse output of a die. -/
def Module.pulse (m : Module) (d p k : Nat) : PulseOut := ((m.fd d).pulseAt d p k).1

/-- What the judgement at the end of a pulse's spacing leaves of a pulse output (R255). -/
def PulseOut.unjudged (q : PulseOut) : PulseOut := { q with backlog := false, spacing := false }

section
variable {d p k : Nat} {m n : Module} {x y : FieldDie} {f : PulseOut → PulseOut}

theorem pulseAt_fst (x : FieldDie) (d : Nat) : (x.pulseAt d p k).1 = at? (x.pulses p) k {} := by
  simp only [FieldDie.pulseAt, FieldDie.pulses, FieldDie.pulse]
  split <;> rfl

theorem pulse_eq : m.pulse d p k = at? ((m.fd d).pulses p) k {} := pulseAt_fst ..

theorem updPulse_eq : m.updPulse d p k f = m.updFd d (FieldDie.withPulse p k f) := by
  unfold Module.updPulse
  split
  case isTrue thermal => exact congrArg (m.updFd d) (funext fun x => (if_pos thermal).symm)
  case isFalse electrical => exact congrArg (m.updFd d) (funext fun x => (if_neg electrical).symm)

theorem pulses_withPulse (has : x.HasPulse p k) : (x.withPulse p k f).pulses p = upd (x.pulses p) k f := by
  obtain ⟨point, -⟩ := has
  by_cases thermal : p ≥ 256
  · have fitted : p - 256 < x.hps.length := by omega
    simp only [FieldDie.withPulse, FieldDie.pulses, thermal, if_true, at?_upd _ _ _ _ fitted]
  · have fitted : p < x.mps.length := by omega
    simp only [FieldDie.withPulse, FieldDie.pulses, thermal, if_false, at?_upd _ _ _ _ fitted]

theorem hasPulse_withPulse (has : x.HasPulse p k) : (x.withPulse p k f).HasPulse p k := by
  have points : (x.withPulse p k f).mps.length = x.mps.length ∧ (x.withPulse p k f).hps.length = x.hps.length := by
    unfold FieldDie.withPulse
    split <;> simp
  obtain ⟨mps, hps⟩ := points
  refine ⟨by rw [mps, hps]; exact has.1, ?_⟩
  rw [pulses_withPulse has, length_upd]
  exact has.2

theorem pulses_of_blank (h : x.blank = y.blank) : x.pulses p = y.pulses p := by
  have mps : x.mps = y.mps := (congrArg FieldDie.mps h :)
  have hps : x.hps = y.hps := (congrArg FieldDie.hps h :)
  simp only [FieldDie.pulses, mps, hps]

theorem hasPulse_of_blank (h : x.blank = y.blank) (has : y.HasPulse p k) : x.HasPulse p k := by
  have mps : x.mps = y.mps := (congrArg FieldDie.mps h :)
  have hps : x.hps = y.hps := (congrArg FieldDie.hps h :)
  rwa [FieldDie.HasPulse, pulses_of_blank h, mps, hps]

end

/-- A module has a pulse output. -/
structure Module.HasPulse (d p k : Nat) (m : Module) : Prop where
  within : d < m.fds.length
  fitted : (m.fd d).HasPulse p k

section
variable {d p k : Nat} {m n : Module} {f : PulseOut → PulseOut}

theorem pulse_updPulse (has : m.HasPulse d p k) : (m.updPulse d p k f).pulse d p k = f (m.pulse d p k) := by
  rw [pulse_eq, updPulse_eq, fd_updFd _ _ _ has.within, pulses_withPulse has.fitted, at?_upd _ _ _ _ has.fitted.2,
    pulse_eq]

theorem hasPulse_updPulse (has : m.HasPulse d p k) : (m.updPulse d p k f).HasPulse d p k := by
  rw [updPulse_eq]
  refine ⟨(length_fds_updFd ..).symm ▸ has.within, ?_⟩
  rw [fd_updFd _ _ _ has.within]
  exact hasPulse_withPulse has.fitted

theorem pulse_of_blank (h : n.blank = m.blank) : n.pulse d p k = m.pulse d p k := by
  rw [pulse_eq, pulses_of_blank (fd_of_blank h d), pulse_eq]

theorem module_hasPulse_of_blank (h : n.blank = m.blank) (has : m.HasPulse d p k) : n.HasPulse d p k :=
  ⟨(length_fds_of_blank h).symm ▸ has.within, hasPulse_of_blank (fd_of_blank h d) has.fitted⟩

theorem pulse_refreshOut (c o : Nat) : (refreshOut d c o m).pulse d p k = m.pulse d p k := by
  obtain ⟨o', ls, e, -⟩ := refreshOut_eq d c o m
  rw [e]
  exact part_updFd d m (fun x => (x.pulseAt d p k).1) (fun x => by rw [pulseAt_fst, pulseAt_fst]; rfl) d

/-! ### The end of the spacing judged (R255) -/

theorem setBacklog_eq (on : Bool) : setBacklog d p k on m = m ∨
    (setBacklog d p k on m).blank = (m.updPulse d p k fun q => { q with backlog := on }).blank := by
  simp only [setBacklog]
  split
  · exact .inl rfl
  · exact .inr (by rw [blank_reportFd, apply_ite Module.blank, blank_raise, ite_self])

theorem setBacklog_keeps (on : Bool) (has : m.HasPulse d p k) : (setBacklog d p k on m).HasPulse d p k ∧
    ((setBacklog d p k on m).pulse d p k).unjudged = (m.pulse d p k).unjudged := by
  rcases setBacklog_eq (d := d) (p := p) (k := k) (m := m) on with e | e
  · rw [e]
    exact ⟨has, rfl⟩
  · refine ⟨module_hasPulse_of_blank e (hasPulse_updPulse has), ?_⟩
    rw [pulse_of_blank e, pulse_updPulse has]
    rfl

theorem judgePulse_keeps (has : m.HasPulse d p k) : (judgePulse d p k m).HasPulse d p k ∧
    ((judgePulse d p k m).pulse d p k).unjudged = (m.pulse d p k).unjudged := by
  simp only [judgePulse]
  split
  · split
    · exact ⟨has, rfl⟩
    · obtain ⟨keeps, same⟩ := setBacklog_keeps (_ : Bool) (hasPulse_updPulse has)
      exact ⟨keeps, same.trans (by rw [pulse_updPulse has]; rfl)⟩
  · exact ⟨has, rfl⟩

end

/-! ### The commands -/

/-- The instant at which a pulse starts: its energy is there, and 50 ms have passed since the last, on the 10 ns grid
(R254, R255). -/
def PulseOut.startAt (a : Nat) (q : PulseOut) : Nat :=
  cdiv (max a (match q.lastAt with | none => 0 | some b => b + 50000000)) 10 * 10

theorem startAt_due (q : PulseOut) (a : Nat) : a ≤ q.startAt a ∧
    ∀ b, q.lastAt = some b → b + 50000000 ≤ q.startAt a := by
  have grid (t : Nat) : t ≤ cdiv t 10 * 10 := by
    have := (cdiv_le_iff (a := t) (b := 10) (by decide)).mp le_rfl
    omega
  refine ⟨(le_max_left ..).trans (grid _), fun b last => ?_⟩
  rw [PulseOut.startAt, last]
  exact (le_max_right ..).trans (grid _)

/-- A pulse output as a pulse starts at an instant (R254). -/
def PulseOut.started (now weight : Nat) (q : PulseOut) : PulseOut :=
  { q.credit now with
    residue := (q.credit now).residue - weight * 2 ^ 32, lastAt := some now, active := true, spacing := true
    count := ((q.credit now).count + 1) % 65536 }

/-- A pulse started at the present instant, once the spacing before it has been judged. -/
def pulseStarted (d p k : Nat) (c : PulseCfg) (m : Module) : Module :=
  refreshOut d c.ch c.out (m.updPulse d p k (PulseOut.started m.now c.weight))

/-- A pulse ended at the present instant (R254). -/
def pulseEnded (d p k : Nat) (c : PulseCfg) (m : Module) : Module :=
  refreshOut d c.ch c.out (m.updPulse d p k fun q => { q.credit m.now with active := false })

section
variable (d p k : Nat) (c : PulseCfg) (m : Module)

theorem hull_pulseStarted : (pulseStarted d p k c m).hull = m.hull := (hull_refreshOut ..).trans (hull_updPulse ..)

theorem hull_pulseEnded : (pulseEnded d p k c m).hull = m.hull := (hull_refreshOut ..).trans (hull_updPulse ..)

theorem pulse_pulseStarted (has : m.HasPulse d p k) :
    (pulseStarted d p k c m).pulse d p k = (m.pulse d p k).started m.now c.weight := by
  rw [pulseStarted, pulse_refreshOut, pulse_updPulse has]

theorem pulse_pulseEnded (has : m.HasPulse d p k) :
    (pulseEnded d p k c m).pulse d p k = { (m.pulse d p k).credit m.now with active := false } := by
  rw [pulseEnded, pulse_refreshOut, pulse_updPulse has]

@[simp] theorem pulse_closed : m.closed.pulse d p k = m.pulse d p k := rfl

theorem hasPulse_atInstant {s : State} (t : Nat) (has : s.m.HasPulse d p k) : (clockTo t s.m.fresh).HasPulse d p k :=
  ⟨has.within, has.fitted⟩

end

section
variable {s : State} {d p k a : Nat} (up : s.m.fdUp d = true)
include up

theorem hasPulse_of_point (hk : k < 2) (point : p < (s.m.fd d).mps.length ∧ p < 256 ∧
      (at? (s.m.fd d).mps p {}).pulses.length = 2 ∨
    256 ≤ p ∧ p - 256 < (s.m.fd d).hps.length ∧ (at? (s.m.fd d).hps (p - 256) {}).pulses.length = 2) :
    s.m.HasPulse d p k := by
  refine ⟨lt_of_fdUp up, ?_, ?_⟩
  · omega
  · unfold FieldDie.pulses
    split <;> omega

section
variable {c : PulseCfg} (cfg : ((s.m.fd d).pulseAt d p k).2 = c)
  (reaches : (s.m.pulse d p k).reachAt (c.weight * 2 ^ 32) = some a) (used : c.onCode ≠ 0)
  (idle : (s.m.pulse d p k).active = false) (shut : (s.m.fd d).openBy s.m.supplyGood c.ch c.out = false)
include cfg reaches used idle shut

theorem does_pulseStart : Does (.pulseStart d p k) s fun _ m =>
    pulseStarted d p k c (judgePulse d p k (clockTo ((s.m.pulse d p k).startAt a) m)) := by
  have b : Does (.pulseStart d p k) s (pulseStartBody d p k) := rfl
  refine b.congr ?_
  subst cfg
  have ready : (!s.m.fdUp d || ((s.m.fd d).pulseAt d p k).2.onCode == 0 || (s.m.pulse d p k).active ||
      (s.m.fd d).openBy s.m.supplyGood ((s.m.fd d).pulseAt d p k).2.ch ((s.m.fd d).pulseAt d p k).2.out) = false := by
    simp [up, used, idle, shut]
  unfold pulseStartBody
  simp only [fresh_fd, show ((s.m.fd d).pulseAt d p k).1 = s.m.pulse d p k from rfl, reaches]
  exact if_neg (by rw [Bool.not_eq_true]; exact ready)

theorem ends_pulseStart (has : s.m.HasPulse d p k) : Ends (.pulseStart d p k) s fun t => SameStores s t ∧
    (t.m.pulse d p k).active = true ∧ (t.m.pulse d p k).count = ((s.m.pulse d p k).count + 1) % 65536 ∧
    (t.m.pulse d p k).lastAt = some t.m.now ∧ a ≤ t.m.now ∧
    ∀ b, (s.m.pulse d p k).lastAt = some b → b + 50000000 ≤ t.m.now := by
  obtain ⟨due, spaced⟩ := startAt_due (s.m.pulse d p k) a
  obtain ⟨judged, same⟩ := judgePulse_keeps (hasPulse_atInstant d p k ((s.m.pulse d p k).startAt a) has)
  have counted := congrArg PulseOut.count same
  have hull (n : Module) : (pulseStarted d p k c (judgePulse d p k n)).hull = n.hull :=
    (hull_pulseStarted ..).trans (hull_judgePulse ..)
  refine (does_pulseStart up cfg reaches used idle shut).ends ⟨sameStores_commit ?_, ?_⟩
  · rw [nvmOut_of_hull (hull _), clockTo_nvmOut, fresh_nvmOut]
  · rw [commit_m, pulse_closed, closed_now, now_of_hull (hull _), pulse_pulseStarted _ _ _ _ _ judged,
      now_of_hull (hull_judgePulse ..), clockTo_now_eq]
    exact ⟨rfl, congrArg (fun n => (n + 1) % 65536) counted, rfl, due.trans (le_max_right ..),
      fun b last => (spaced b last).trans (le_max_right ..)⟩

end

section
variable (active : (s.m.pulse d p k).active = true) (last : (s.m.pulse d p k).lastAt = some a)
include active last

theorem does_pulseEnd : Does (.pulseEnd d p k) s fun _ m =>
    pulseEnded d p k ((m.fd d).pulseAt d p k).2 (clockTo (a + 30000000) m) := by
  have b : Does (.pulseEnd d p k) s (pulseEndBody d p k) := rfl
  refine b.congr ?_
  unfold pulseEndBody
  simp only [fresh_fd, show ((s.m.fd d).pulseAt d p k).1 = s.m.pulse d p k from rfl, active, last]
  exact if_pos up

theorem ends_pulseEnd (has : s.m.HasPulse d p k) : Ends (.pulseEnd d p k) s fun t => SameStores s t ∧
    (t.m.pulse d p k).active = false ∧ (t.m.pulse d p k).count = (s.m.pulse d p k).count ∧
    t.m.now = max s.m.now (a + 30000000) := by
  refine (does_pulseEnd up active last).ends ⟨sameStores_commit ?_, ?_⟩
  · rw [nvmOut_of_hull (hull_pulseEnded ..), clockTo_nvmOut, fresh_nvmOut]
  · rw [commit_m, pulse_closed, closed_now, now_of_hull (hull_pulseEnded ..),
      pulse_pulseEnded _ _ _ _ _ (hasPulse_atInstant d p k _ has)]
    exact ⟨rfl, rfl, rfl⟩

end
end

/-- Settles O31: each event past its guard; the register that a flow pulse goes to, the points at the close of an interval,
and the pulse output at a start and at an end. -/
theorem meteringEventsAct : Obligations.MeteringEventsAct := by
  intro s d up
  refine ⟨fun x awake => does_meteringBlockEnd up awake x, fun x awake => ends_meteringBlockEnd up awake x,
    fun p settling => ⟨ends_settlingEnd up settling, does_settlingEnd up settling⟩,
    fun h rev used measured fitted regs => ⟨?volume, (does_flowPulse up used measured rev).congr ?counted⟩,
    fun h rev used measured fitted regs allowed sound => ?energy,
    fun valid metered => ⟨ends_demandBoundary up valid metered, does_demandBoundary up valid metered⟩,
    fun p k a hk point reaches used idle shut => ⟨ends_pulseStart up rfl reaches used idle shut
      (hasPulse_of_point up hk point), does_pulseStart up rfl reaches used idle shut⟩,
    fun p k a hk point active last => ⟨ends_pulseEnd up active last (hasPulse_of_point up hk point),
      does_pulseEnd up active last⟩⟩
  case volume =>
    simpa [volumeReg, HpCfg.volume, FieldDie.flowsBack, Module.reg, FieldDie.regs] using
      ends_flowPulse_volume up used measured rev fitted regs
  case counted =>
    simp only [pulseCounted, pulseRegs, HpCfg.volume, HpCfg.energy, volumeReg, energyReg, FieldDie.flowsBack, fresh_fd]
  case energy =>
    have ends := ends_flowPulse_energy up used measured rev fitted regs allowed sound
    simp only [HpCfg.energy, allowed, Bool.false_eq_true, if_false] at ends
    simpa [energyReg, FieldDie.flowsBack, Module.reg, FieldDie.regs] using ends

end Sys2Proof.Machine
end

section
/-! Saves of the accumulators: what a save takes as it begins, and what the writing of its records leaves as it was (R258,
R259). -/

namespace Sys2Proof.Machine

/-! ### A save begins (R258) -/

/-- A lane with the next save number. -/
def saveNumbered (l : LaneId) (m : Module) : Module :=
  m.updLane l fun L => { L with mtr := { L.mtr with saveSeq := nextSeq (m.lane l).mtr.saveSeq } }

/-- The records of the dies that a lane reaches, under a save number. -/
def saveRecs (l : LaneId) (kind seq : Nat) (m : Module) : List (Nat × Bytes) :=
  (m.fdsOf l).map fun d => (d, accuRecord m l d kind seq)

/-- A lane with the next save number, and with the records of the dies that it reaches in the save under way. -/
def saveBegun (l : LaneId) (kind : Nat) (m : Module) : Module :=
  let n := saveNumbered l m
  n.updLane l fun L => { L with mtr := { L.mtr with
    save := some (kind, saveRecs l kind (nextSeq (m.lane l).mtr.saveSeq) n, n.now) } }

section
variable (l : LaneId) (m : Module)

@[simp] theorem blank_put (e : OutEv) : (put e m).blank = m.blank := rfl

@[simp] theorem blank_wakeReceiver : (wakeReceiver l m).blank = m.blank := by
  rw [wakeReceiver, blank_domRequests, peerWake, blank_report, blank_raise, blank_put]

@[simp] theorem blank_receiverDone : (receiverDone l m).blank = m.blank := by
  simp only [receiverDone]
  split <;> simp

theorem blank_saveStart (kind : Nat) : (saveStart l kind m).blank = (saveBegun l kind m).blank := by
  simp only [saveStart]
  rw [blank_forEach _ _ _ fun _ _ => (blank_report ..).trans (blank_raise ..)]
  split
  · exact blank_wakeReceiver ..
  · rfl

theorem saveSeq_saveBegun (kind : Nat) :
    ((saveBegun l kind m).lane l).mtr.saveSeq = nextSeq (m.lane l).mtr.saveSeq := by
  simp only [saveBegun, lane_updLane, saveNumbered]

theorem save_saveBegun (kind : Nat) : ∃ recs, ((saveBegun l kind m).lane l).mtr.save = some (kind, recs, m.now) ∧
    recs.map (·.1) = m.fdsOf l := by
  refine ⟨saveRecs l kind (nextSeq (m.lane l).mtr.saveSeq) (saveNumbered l m), ?_, ?_⟩
  · simp only [saveBegun, lane_updLane, saveNumbered, updLane_now]
  · have dies : (saveNumbered l m).fdsOf l = m.fdsOf l :=
      fdsOf_congr (by simp [saveNumbered]) (by simp [saveNumbered]) (by simp [saveNumbered])
    rw [saveRecs, List.map_map, dies]
    exact List.map_id _

@[simp] theorem now_saveBegun (kind : Nat) : (saveBegun l kind m).now = m.now := by simp [saveBegun, saveNumbered]

@[simp] theorem nvmOut_saveBegun (kind : Nat) : (saveBegun l kind m).nvmOut = m.nvmOut := by simp [saveBegun, saveNumbered]

end

section
variable {m n : Module}

theorem saveSeq_of_blank (h : m.blank = n.blank) (l : LaneId) : (m.lane l).mtr.saveSeq = (n.lane l).mtr.saveSeq :=
  (congrArg (·.mtr.saveSeq) (lane_of_blank h l) :)

theorem saveSeq_of_husk (h : m.husk = n.husk) (l : LaneId) : (m.lane l).mtr.saveSeq = (n.lane l).mtr.saveSeq :=
  (congrArg (·.mtr.saveSeq) (lane_of_husk h l) :)

theorem save_of_core (h : m.core = n.core) (l : LaneId) : (m.lane l).mtr.save = (n.lane l).mtr.save :=
  (congrArg (·.mtr.save) (lane_of_core h l) :)

theorem saveAt_of_core (h : m.core = n.core) (l : LaneId) : (m.lane l).mtr.saveAt = (n.lane l).mtr.saveAt :=
  (congrArg (·.mtr.saveAt) (lane_of_core h l) :)

end

theorem saveStart_begins (l : LaneId) (kind : Nat) (m : Module) :
    ((saveStart l kind m).lane l).mtr.saveSeq = nextSeq (m.lane l).mtr.saveSeq ∧
    ∃ recs, ((saveStart l kind m).lane l).mtr.save = some (kind, recs, (saveStart l kind m).now) ∧
      recs.map (·.1) = m.fdsOf l := by
  obtain ⟨recs, save, keys⟩ := save_saveBegun l m kind
  have begun := blank_saveStart l m kind
  exact ⟨(saveSeq_of_blank begun l).trans (saveSeq_saveBegun ..), recs,
    by rw [save_of_core (core_of_blank begun), save, now_of_blank begun, now_saveBegun], keys⟩

section
variable {s : State} {l : LaneId} (holds : (s.m.lane l).red.holds = true) (restored : s.m.restored l = true)
  (good : s.m.supplyGood = true) (up : (s.m.lane l).sys.phase = .up)
include holds restored good up

theorem does_periodicSave : Does (.periodicSave l) s fun _ m =>
    let m := clockTo (m.gridAfter 60000000000 (m.now - 1)) m
    saveStart l 0 (blocksFirst (m.fdList.filter fun d => m.fdReach l d) m) := by
  have b : Does (.periodicSave l) s (periodicSaveBody l) := rfl
  have same : s.m.fresh.restored l = s.m.restored l := by cases l <;> rfl
  exact b.congr (if_pos (by simp [holds, same, restored, good, up]))

theorem ends_periodicSave : Ends (.periodicSave l) s fun t => SameStores s t ∧
    (t.m.lane l).mtr.saveSeq = nextSeq (s.m.lane l).mtr.saveSeq ∧
    ∃ recs, (t.m.lane l).mtr.save = some (0, recs, t.m.now) ∧ recs.map (·.1) = s.m.fdsOf l := by
  refine (does_periodicSave holds restored good up).ends ?_
  generalize hm : clockTo (s.m.fresh.gridAfter 60000000000 (s.m.fresh.now - 1)) s.m.fresh = m
  generalize hn : blocksFirst (m.fdList.filter fun d => m.fdReach l d) m = n
  have husk : n.husk = m.husk := by rw [← hn, husk_blocksFirst]
  have quiet : n.nvmOut = [] := by rw [nvmOut_of_husk husk, ← hm, clockTo_nvmOut, fresh_nvmOut]
  have dies : n.fdsOf l = s.m.fdsOf l := by
    rw [fdsOf_of_husk husk, ← hm, fdsOf_congr (clockTo_variant ..) (clockTo_fds ..) (by rw [clockTo_lane]), fresh_fdsOf]
  have seq : (n.lane l).mtr.saveSeq = (s.m.lane l).mtr.saveSeq := by
    rw [saveSeq_of_husk husk, ← hm, clockTo_lane, fresh_lane]
  obtain ⟨next, recs, save, keys⟩ := saveStart_begins l 0 n
  refine ⟨sameStores_commit ?_, ?_⟩
  · simp only [hm, hn]
    rw [nvmOut_of_blank (blank_saveStart ..), nvmOut_saveBegun, quiet]
  · simp only [commit_m, closed_lane, closed_now, hm, hn]
    exact ⟨by rw [next, seq], recs, save, by rw [keys, dies]⟩

end

/-! ### The records of a save written (R258, R259) -/

section
variable (l : LaneId) (m : Module)

theorem fds_forEach {α : Type} (xs : List α) (f : α → Module → Module) (h : ∀ x m, (f x m).fds = m.fds) :
    (forEach xs f m).fds = m.fds :=
  forEach_part Module.fds xs f h m

@[simp] theorem updDom_num_fds (i : Nat) (f : Dom → Dom) : (updDom l.num i f m).fds = m.fds := by cases l <;> rfl

@[simp] theorem domSettle_num_fds (is : List Nat) : (domSettle l.num is m).fds = m.fds :=
  fds_forEach _ _ _ fun _ _ => updDom_num_fds ..

@[simp] theorem domRequests_num_fds (k : LaneId) (is : List Nat) (t : DomState) :
    (domRequests k l.num is t m).fds = m.fds := by
  refine fds_forEach _ _ _ fun i m => ?_
  simp only [domRequest, keepLast]
  split <;> simp

@[simp] theorem receiverDone_fds : (receiverDone l m).fds = m.fds := by
  simp only [receiverDone]
  split <;> simp

@[simp] theorem mergeRead_fds (a n : Nat) : (mergeRead l a n m).fds = m.fds := fds_forEach _ _ _ fun _ _ => nvmRead_fds ..

@[simp] theorem nvmRefuse_fds (a : Nat) (w : Writer) : (nvmRefuse l a w m).fds = m.fds := by simp [nvmRefuse]

@[simp] theorem mramWrite_fds (w : Writer) (st : Store) (a : Nat) (bs : Bytes) : (mramWrite w st l a bs m).fds = m.fds := by
  simp only [mramWrite]
  split
  · rfl
  · split <;> simp

@[simp] theorem seqCheck_fds (st : Store) (a b size type : Nat) : (seqCheck st l a b size type m).fds = m.fds := by
  simp only [seqCheck]
  split
  · split <;> simp
  · simp

/-- What the check, the write and the refusal of a record each leave alone stays over a save. -/
theorem saveWrite_part {β : Type} (g : Module → β) (check : ∀ st a b m, g (seqCheck st l a b 10240 accuType m) = g m)
    (write : ∀ st a bs m, g (mramWrite .save st l a bs m) = g m)
    (refuse : ∀ x y m, g (report l 9 0x5003 x y 0 (raise l 9 2 m)) = g m) (st : Store) (recs : List (Nat × Bytes)) :
    g (saveWrite st l recs m) = g m := by
  refine forEach_part g _ _ (fun r m => ?_) m
  simp only [when, apply_ite]
  rw [Function.comp_apply, refuse, ite_self, write, check]

theorem saveWrite_fds (st : Store) (recs : List (Nat × Bytes)) : (saveWrite st l recs m).fds = m.fds :=
  saveWrite_part l m Module.fds (fun _ _ _ _ => seqCheck_fds ..) (fun _ _ _ _ => mramWrite_fds ..) (fun _ _ _ => by simp)
    st recs

@[simp] theorem core_saveWrite (st : Store) (recs : List (Nat × Bytes)) : (saveWrite st l recs m).core = m.core :=
  saveWrite_part l m Module.core (fun _ _ _ _ => core_seqCheck ..) (fun _ _ _ _ => core_mramWrite ..)
    (fun _ _ _ => by simp) st recs

end

/-- The records of a save written into a lane's store, and into the standby lane's where that lane mirrors it. -/
def saveStored (l : LaneId) (kind : Nat) (recs : List (Nat × Bytes)) (st : Store) (m : Module) : Module :=
  let m := saveWrite st l recs m
  if kind = 0 ∧ m.mirrors l = true then receiverDone l.other (saveWrite st l.other recs m) else m

section
variable (l : LaneId) (kind : Nat) (recs : List (Nat × Bytes)) (st : Store) (m : Module)

theorem core_saveStored : (saveStored l kind recs st m).core = m.core := by
  simp only [saveStored]
  split
  · rw [core_of_blank (blank_receiverDone ..), core_saveWrite, core_saveWrite]
  · exact core_saveWrite ..

theorem saveStored_fds : (saveStored l kind recs st m).fds = m.fds := by
  simp only [saveStored]
  split
  · rw [receiverDone_fds, saveWrite_fds, saveWrite_fds]
  · exact saveWrite_fds ..

end

/-- The save under way ended and told (R258). -/
def saveTold (l : LaneId) (kind : Nat) (recs : List (Nat × Bytes)) (m : Module) : Module :=
  let m := m.updLane l fun L => { L with mtr := { L.mtr with save := none, saveAt := some m.now } }
  report l 9 0x5004 (m.lane l).mtr.saveSeq kind (recs.foldl (fun a r => a ||| 1 <<< r.1) 0) (raise l 9 1 m)

section
variable {s : State} {l : LaneId} {k at_ : Nat} {recs : List (Nat × Bytes)}
  (save : (s.m.lane l).mtr.save = some (k, recs, at_)) (periodic : k ≠ 1)
include save periodic

theorem does_saveRecordsWritten :
    Does (.saveRecordsWritten l) s fun st m => saveTold l k recs (saveStored l k recs st m) := by
  have b : Does (.saveRecordsWritten l) s (saveRecordsWrittenBody l) := rfl
  refine b.congr ?_
  unfold saveRecordsWrittenBody
  simp only [fresh_lane, save, periodic, if_false, saveTold, saveStored, Bool.and_eq_true, decide_eq_true_eq]

theorem ends_saveRecordsWritten : Ends (.saveRecordsWritten l) s fun t => t.pending = s.pending ∧
    (t.m.lane l).mtr.save = none ∧ (t.m.lane l).mtr.saveAt = some s.m.now ∧ t.m.fds = s.m.fds := by
  have stored := now_of_core (core_saveStored l k recs s.mem s.m.fresh)
  have told (n : Module) : (saveTold l k recs n).core =
      (n.updLane l fun L => { L with mtr := { L.mtr with save := none, saveAt := some n.now } }).core := by
    rw [saveTold, core_report, core_raise]
  refine (does_saveRecordsWritten save periodic).ends ⟨commit_pending .., ?_, ?_, ?_⟩
  · rw [commit_m, closed_lane, save_of_core (told _), lane_updLane]
  · rw [commit_m, closed_lane, saveAt_of_core (told _), lane_updLane, stored, fresh_now]
  · rw [commit_m, closed_fds, saveTold, report_fds, raise_fds, updLane_fds, saveStored_fds, fresh_fds]

end

end Sys2Proof.Machine
end

section
/-! Read-outs (R267, R464): the command, the latch of the record, and a record that nobody fetches. -/

namespace Sys2Proof.Machine

/-- Metering's part of a lane at the end of a command. -/
def Mtr.ended (state reason : Nat) (t : Mtr) : Mtr := { t with cmdState := state, cmdReason := reason }

section
variable (l : LaneId) (m : Module) (state reason : Nat)

theorem mtrEnd_eq : mtrEnd l state reason m = m.updLane l fun L => { L with mtr := L.mtr.ended state reason } := rfl

theorem ends_mtrEnd {i : Instr} {s : State} (does : Does i s fun _ m => mtrEnd l state reason m) :
    Ends i s fun t => OnlyLane l s t ∧ (t.m.lane l).mtr = (s.m.lane l).mtr.ended state reason := by
  obtain ⟨t, next, only, lane⟩ := does.ends_laneWrite (mtrEnd_eq ..)
  exact ⟨t, next, only, by rw [lane]⟩

end

/-! ### The command (R267) -/

section
variable {s : State} {l : LaneId} {v : View} (heard : Heard s l v)
include heard

theorem does_readout_blank (mode : (s.m.lane l).sys.mode = .blank) : Does (.readout l v) s fun _ m => mtrEnd l 3 3 m :=
  (does_of_guardWrite (i := .readout l v) heard rfl).congr (if_pos (by simp [mode]))

section
variable (mode : (s.m.lane l).sys.mode ≠ .blank)
include mode

theorem does_readout_busy (busy : (s.m.lane l).mtr.readoutAt.isSome = true) :
    Does (.readout l v) s fun _ m => mtrEnd l 3 4 m :=
  (does_of_guardWrite (i := .readout l v) heard rfl).congr (by simp [mode, busy])

section
variable (idle : (s.m.lane l).mtr.readoutAt = none)
include idle

theorem does_readout_noRing (ring : (at? (s.m.lane l).hst.rings 3 {}).state ≠ 1) :
    Does (.readout l v) s fun _ m => mtrEnd l 3 5 m :=
  (does_of_guardWrite (i := .readout l v) heard rfl).congr (by simp [mode, idle, ring])

variable (ring : (at? (s.m.lane l).hst.rings 3 {}).state = 1)
include ring

theorem does_readout : Does (.readout l v) s fun _ m => (mtrEnd l 1 0 m).updLane l fun L => { L with
    mtr := { L.mtr with readoutAt := some m.now, readoutNonce := fitTo 16 L.mtr.nonce } } :=
  (does_of_guardWrite (i := .readout l v) heard rfl).congr (by simp [mode, idle, ring])

theorem ends_readout : Ends (.readout l v) s fun t => OnlyLane l s t ∧ (t.m.lane l).mtr = { (s.m.lane l).mtr with
    cmdState := 1, cmdReason := 0, readoutAt := some s.m.now, readoutNonce := fitTo 16 (s.m.lane l).mtr.nonce } := by
  obtain ⟨t, next, only, lane⟩ := (does_readout heard mode idle ring).ends_laneWrite (updLane_updLane ..)
  exact ⟨t, next, only, by rw [lane]; rfl⟩

end
end
end

/-! ### The latch (R267) -/

/-- The registers latched at the first common block end at least 1 ms after the command. -/
def readoutLatched (l : LaneId) (at_ : Nat) (m : Module) : Module :=
  blocksFirst (m.fdsOf l) (clockTo (cdiv (at_ + 1000000) 200000000 * 200000000) m)

/-- The key slot of the read-out in the active image. -/
def Lane.readoutSlot (L : Lane) : Nat :=
  match L.cfg.active with | none => 0 | some b => (b.metering.getD {}).readoutSlot

/-- A record latched with its MAC, ready for the descriptor of ring 3. -/
def readoutMade (l : LaneId) (bytes k : Bytes) (m : Module) : Module :=
  readoutGive l (m.updLane l fun L => { L with mtr := { L.mtr with readoutRec := some (bytes ++ hmac k bytes) } })

/-- A read-out that its key refuses. -/
def readoutFailed (l : LaneId) (m : Module) : Module :=
  (mtrEnd l 3 0 m).updLane l fun L => { L with mtr := { L.mtr with readoutAt := none } }

/-- A read-out once its key has been used, or refused. -/
def readoutKept (l : LaneId) (bytes : Bytes) (u : Except Nat Bytes × Module) : Module :=
  match u.1 with
  | .error _ => readoutFailed l u.2
  | .ok k => readoutMade l bytes k u.2

section
variable {l : LaneId} {bytes : Bytes} {u : Except Nat Bytes × Module}

theorem readoutKept_of_ok {k : Bytes} (h : u.1 = .ok k) : readoutKept l bytes u = readoutMade l bytes k u.2 := by
  rw [readoutKept, h]

theorem readoutKept_of_error {e : Nat} (h : u.1 = .error e) : readoutKept l bytes u = readoutFailed l u.2 := by
  rw [readoutKept, h]

end

section
variable (l : LaneId) (m : Module)

theorem readoutGive_cases : readoutGive l m = m ∨ ∃ n bs, readoutGive l m = ringDone l 3 0 n bs m := by
  simp only [readoutGive]
  split
  · split
    · exact .inr ⟨_, _, rfl⟩
    · exact .inl rfl
  · exact .inl rfl

@[simp] theorem now_readoutGive : (readoutGive l m).now = m.now := by
  rcases readoutGive_cases l m with e | ⟨n, bs, e⟩ <;> simp [e, ringDone, updRing, updHst]

@[simp] theorem mtr_readoutGive : ((readoutGive l m).lane l).mtr = (m.lane l).mtr := by
  rcases readoutGive_cases l m with e | ⟨n, bs, e⟩ <;> simp [e, ringDone, updRing, updHst]

theorem husk_readoutLatched (at_ : Nat) : (readoutLatched l at_ m).husk =
    (clockTo (cdiv (at_ + 1000000) 200000000 * 200000000) m).husk := husk_blocksFirst ..

@[simp] theorem now_readoutLatched (at_ : Nat) : (readoutLatched l at_ m).now =
    max m.now (cdiv (at_ + 1000000) 200000000 * 200000000) :=
  (now_of_husk (husk_readoutLatched ..)).trans (clockTo_now_eq ..)

theorem readoutSlot_readoutLatched (at_ : Nat) : ((readoutLatched l at_ m).lane l).readoutSlot = (m.lane l).readoutSlot := by
  have cfg : ((readoutLatched l at_ m).lane l).cfg = ((clockTo _ m).lane l).cfg :=
    (congrArg Lane.cfg (lane_of_husk (husk_readoutLatched ..) l) :)
  rw [Lane.readoutSlot, cfg, clockTo_lane, Lane.readoutSlot]

end

section
variable {s : State} {l : LaneId} {at_ : Nat} (asked : (s.m.lane l).mtr.readoutAt = some at_)
  (unlatched : (s.m.lane l).mtr.readoutRec = none)
include asked unlatched

theorem does_readoutLatch : Does (.readoutLatch l) s fun _ m => readoutKept l (readoutBytes (readoutLatched l at_ m) l)
    (useSlotAs 9 l (s.m.lane l).readoutSlot 4 false (readoutLatched l at_ m)) := by
  have b : Does (.readoutLatch l) s (readoutLatchBody l) := rfl
  refine b.congr ?_
  have dies : (clockTo (cdiv (at_ + 1000000) 200000000 * 200000000) s.m.fresh).fdsOf l = s.m.fresh.fdsOf l :=
    fdsOf_congr (clockTo_variant ..) (clockTo_fds ..) (by rw [clockTo_lane])
  have slot := readoutSlot_readoutLatched l s.m.fresh at_
  rw [fresh_lane] at slot
  unfold readoutLatchBody
  simp only [fresh_lane, asked, unlatched, Option.isSome_none, Bool.false_eq_true, if_false]
  rw [← slot, readoutLatched, ← dies]
  rfl

theorem ends_readoutLatch : Ends (.readoutLatch l) s fun t => t.pending = s.pending ∧
    t.m.now = max s.m.now (cdiv (at_ + 1000000) 200000000 * 200000000) ∧
    ((t.m.lane l).mtr.readoutRec.isSome = true ∨ (t.m.lane l).mtr.cmdState = 3) := by
  refine (does_readoutLatch asked unlatched).ends ⟨commit_pending .., ?_⟩
  have now := now_of_core (core_useSlotAs l (readoutLatched l at_ s.m.fresh) 9 (s.m.lane l).readoutSlot 4 false)
  rw [now_readoutLatched, fresh_now] at now
  rw [commit_m, closed_lane, closed_now]
  revert now
  rcases useSlotAs 9 l (s.m.lane l).readoutSlot 4 false (readoutLatched l at_ s.m.fresh) with ⟨e | k, n⟩
  · exact fun now => ⟨by simpa [readoutKept, readoutFailed, mtrEnd_eq] using now,
      .inr (by simp [readoutKept, readoutFailed, mtrEnd_eq, Mtr.ended])⟩
  · exact fun now => ⟨by simpa [readoutKept, readoutMade] using now, .inl (by simp [readoutKept, readoutMade])⟩

end

/-! ### A record that nobody fetches (R464) -/

section
variable {s : State} {l : LaneId} {at_ : Nat} (made : (s.m.lane l).mtr.readoutRec.isSome = true)
  (asked : (s.m.lane l).mtr.readoutAt = some at_) (idle : ((s.m.lane l).ring 3).ending = none)
include made asked idle

theorem does_readoutRingTimeout : Does (.readoutRingTimeout l) s fun _ m =>
    (mtrEnd l 3 5 (clockTo (at_ + 1000000000) m)).updLane l fun L => { L with
      mtr := { L.mtr with readoutAt := none, readoutRec := none } } := by
  obtain ⟨bs, made⟩ := Option.isSome_iff_exists.mp made
  have b : Does (.readoutRingTimeout l) s (readoutRingTimeoutBody l) := rfl
  refine b.congr ?_
  unfold readoutRingTimeoutBody
  simp only [fresh_lane, made, asked, idle]
  exact if_neg (by simp)

theorem ends_readoutRingTimeout : Ends (.readoutRingTimeout l) s fun t =>
    OnlyLane l { s with m := { s.m with now := t.m.now } } t ∧ t.m.now = max s.m.now (at_ + 1000000000) ∧
    (t.m.lane l).mtr = { (s.m.lane l).mtr with cmdState := 3, cmdReason := 5, readoutAt := none, readoutRec := none } := by
  refine (does_readoutRingTimeout made asked idle).ends ⟨?_, ?_, ?_⟩
  · cases l <;> simp [OnlyLane, mtrEnd_eq] <;> exact ⟨rfl, rfl⟩
  · simp [mtrEnd_eq]
  · simp [mtrEnd_eq, Mtr.ended]

end
end Sys2Proof.Machine
end

section
/-! MD_RESET (R250, R268), and the saves and read-outs settled. -/

namespace Sys2Proof.Machine

/-- A meter point whose maximum demand is cleared once its interval has closed. -/
def MeterPoint.mdAwaited (a : MeterPoint) : MeterPoint := { a with demand := { a.demand with mdReset := true } }

/-- MD_RESET of a point whose block may have been the last of its interval (R250, R268). -/
def mdResetDone (l : LaneId) (d p : Nat) (m : Module) : Module :=
  let g := (at? (m.fd d).mps p {}).demand
  if (m.fd d).closesDemand then mtrEnd l 2 0 (m.updMp d p MeterPoint.mdAwaited)
  else mtrEnd l 2 0 (report l 9 0x5804 (32 * d + p) g.max (g.maxTime % 2 ^ 32) (clearMd d p m))

section
variable (l : LaneId) (d p : Nat) (m : Module)

theorem mtr_mdResetDone : ∃ t : Mtr, ((mdResetDone l d p m).lane l).mtr = t.ended 2 0 := by
  simp only [mdResetDone, mtrEnd_eq]
  split
  · exact ⟨_, by rw [lane_updLane]⟩
  · exact ⟨_, by rw [lane_updLane]⟩

@[simp] theorem nvmOut_mdResetDone : (mdResetDone l d p m).nvmOut = m.nvmOut := by
  simp only [mdResetDone, mtrEnd_eq]
  split
  · rw [updLane_nvmOut, nvmOut_of_hull (hull_updMp ..)]
  · rw [updLane_nvmOut, report_nvmOut, nvmOut_of_hull (hull_clearMd ..)]

theorem mdResetDone_fds : (mdResetDone l d p m).fds = upd m.fds d fun f => { f with
    mps := upd f.mps p (if (m.fd d).closesDemand then MeterPoint.mdAwaited else MeterPoint.mdCleared) } := by
  simp only [mdResetDone, mtrEnd_eq]
  split
  · exact updLane_fds ..
  · rw [updLane_fds, report_fds]
    rfl

end

section
variable {s : State} {l : LaneId} {v : View}

theorem runs_of_mem (mode : (s.m.lane l).sys.mode ∈ [.commission, .run, .runForced]) :
    ((s.m.lane l).sys.mode == .commission || (s.m.lane l).sys.mode == .run ||
      (s.m.lane l).sys.mode == .runForced) = true := by
  simpa [or_assoc] using mode

variable (heard : Heard s l v)
include heard

theorem does_mdReset_mode (mode : (s.m.lane l).sys.mode ∉ [.commission, .run, .runForced]) :
    Does (.mdReset l v) s fun _ m => mtrEnd l 3 3 m := by
  refine (does_of_guardWrite (i := .mdReset l v) heard rfl).congr (if_pos ?_)
  simpa [and_assoc] using mode

variable (mode : (s.m.lane l).sys.mode ∈ [.commission, .run, .runForced])
include mode

theorem does_mdReset_busy (busy : (s.m.lane l).mtr.readoutAt.isSome = true) :
    Does (.mdReset l v) s fun _ m => mtrEnd l 3 4 m :=
  (does_of_guardWrite (i := .mdReset l v) heard rfl).congr (by simp [runs_of_mem mode, busy])

variable {d p : Nat} (idle : (s.m.lane l).mtr.readoutAt = none) (idx : fld (s.m.sel l v).mtrPt 6 0 = 32 * d + p)
  (within : p < 32) (electrical : bitOf (s.m.sel l v).mtrPt 8 = false) (reach : s.m.fdReach l d = true)
  (used : ((s.m.fd d).mpCfg d p).kind ≠ 0) (room : 65 ≤ (s.m.lane l).evr.mFree)
include idle idx within electrical reach used room

theorem does_mdReset : Does (.mdReset l v) s fun _ m => mdResetDone l d p (blocksFirst [d] m) := by
  refine (does_of_guardWrite (i := .mdReset l v) heard rfl).congr ?_
  have die : (32 * d + p) / 32 = d := by omega
  have point : (32 * d + p) % 32 = p := by omega
  simp only [fresh_lane, fresh_sel, fresh_fdReach, fresh_fd, idx, die, point, runs_of_mem mode, idle, electrical, reach]
  rw [if_neg (by simp), if_neg (by simp), if_neg (by simp [used]), if_neg (by omega)]
  rfl

theorem ends_mdReset : Ends (.mdReset l v) s fun t => SameStores s t ∧ (t.m.lane l).mtr.cmdState = 2 ∧
    (t.m.lane l).mtr.cmdReason = 0 ∧ t.m.fds = upd (blocksFirst [d] s.m.fresh).fds d fun f => { f with
      mps := upd f.mps p (if ((blocksFirst [d] s.m.fresh).fd d).closesDemand then MeterPoint.mdAwaited
        else MeterPoint.mdCleared) } := by
  obtain ⟨t, mtr⟩ := mtr_mdResetDone l d p (blocksFirst [d] s.m.fresh)
  refine (does_mdReset heard mode idle idx within electrical reach used room).ends ⟨sameStores_commit ?_, ?_⟩
  · rw [nvmOut_mdResetDone, nvmOut_of_husk (husk_blocksFirst ..), fresh_nvmOut]
  · rw [commit_m, closed_lane, closed_fds, mtr]
    exact ⟨rfl, rfl, mdResetDone_fds ..⟩

end

/-- Settles O34: each command past its guard, the records of a save as it begins, the key that a latch uses, and the point
that a reset selects. -/
theorem savesAndReadoutsAct : Obligations.SavesAndReadoutsAct := by
  intro s l v
  refine ⟨fun holds restored good up => ⟨ends_periodicSave holds restored good up, does_periodicSave holds restored good up⟩,
    fun k recs at_ save periodic => ⟨ends_saveRecordsWritten save periodic, does_saveRecordsWritten save periodic⟩,
    fun heard mode idle ring => ⟨ends_readout heard mode idle ring, does_readout heard mode idle ring⟩,
    fun heard mode => ⟨ends_mtrEnd _ _ _ (does_readout_blank heard mode), does_readout_blank heard mode⟩,
    fun at_ asked opened => ⟨fun k key => ?made, fun e refused => ?failed⟩,
    fun at_ asked opened => ends_readoutLatch asked opened,
    fun at_ made asked idle => ⟨ends_readoutRingTimeout made asked idle, does_readoutRingTimeout made asked idle⟩,
    fun d p heard mode idle idx within electrical reach used room => ⟨?reset,
      does_mdReset heard mode idle idx within electrical reach used room⟩,
    fun heard mode busy => does_readout_busy heard mode busy,
    fun heard mode idle ring => does_readout_noRing heard mode idle ring,
    fun heard mode => does_mdReset_mode heard mode, fun heard mode busy => does_mdReset_busy heard mode busy⟩
  case made =>
    exact (does_readoutLatch asked opened).congr (readoutKept_of_ok key)
  case failed =>
    exact (does_readoutLatch asked opened).congr (readoutKept_of_error refused)
  case reset =>
    obtain ⟨t, next, same, state, reason, fds⟩ := ends_mdReset heard mode idle idx within electrical reach used room
    exact ⟨t, next, same, state, reason, fun stays => by rw [fds, stays]; rfl, fun closes => by rw [fds, closes]; rfl⟩

end Sys2Proof.Machine
end

section
/-! Halts, restarts and the arming of the start triggers (R308, R309, R314, R423). -/

namespace Sys2Proof.Machine

/-! ### What reports, interrupts and domains leave of a lane's start -/

section
variable {m n : Module}

theorem phase_of_core (h : m.core = n.core) (l : LaneId) : (m.lane l).sys.phase = (n.lane l).sys.phase :=
  (congrArg (·.sys.phase) (lane_of_core h l) :)

theorem phase_of_blank (h : m.blank = n.blank) (l : LaneId) : (m.lane l).sys.phase = (n.lane l).sys.phase :=
  phase_of_core (core_of_blank h) l

theorem holds_of_blank (h : m.blank = n.blank) (l : LaneId) : (m.lane l).red.holds = (n.lane l).red.holds :=
  (congrArg (·.red.holds) (lane_of_blank h l) :)

end

section
variable (l : LaneId) (m : Module)

theorem forEach_when {α β : Type} (g : Module → β) (xs : List α) (c : α → Bool) (f : α → Module → Module) (m : Module)
    (h : ∀ x m, g (f x m) = g m) : g (forEach xs (fun x => when (c x) (f x)) m) = g m :=
  forEach_part g xs _ (fun x m => by rw [when, apply_ite g, h, ite_self]) m

@[simp] theorem blank_domsOff (die : Nat) : (domsOff die m).blank = m.blank :=
  forEach_when Module.blank _ _ _ m fun _ _ => blank_updDom ..

theorem updDom_num_other (i : Nat) (f : Dom → Dom) : (updDom l.num i f m).lane l.other = m.lane l.other := by
  cases l <;> rfl

@[simp] theorem domsOff_other : (domsOff l.num m).lane l.other = m.lane l.other :=
  forEach_when (fun m => m.lane l.other) _ _ _ m fun _ _ => updDom_num_other ..

/-! ### A halt (R314) -/

theorem endInjection_other : (endInjection l m).lane l.other = m.lane l.other := by
  simp only [endInjection]
  split
  · rw [report_lane_other, updSys, lane_updLane_other]
  · rfl

/-- A halt leaves the lane without its claim. -/
theorem lane_haltLane (c : Nat) : ((haltLane l c m).lane l).sys.phase = .halted ∧
    ((haltLane l c m).lane l).red.holds = false := by
  rw [haltLane, lane_updLane, take_sys, take_red]
  have dropped (n : Module) : (dropMail l.num n).lane l = n.lane l := by cases l <;> rfl
  rw [dropped, phase_of_blank (blank_domsOff ..), holds_of_blank (blank_domsOff ..), resetLane, lane_updLane]
  exact ⟨rfl, rfl⟩

theorem haltLane_other (c : Nat) : (haltLane l c m).lane l.other = m.lane l.other := by
  have dropped (n : Module) : (dropMail l.num n).lane l.other = n.lane l.other := by cases l <;> rfl
  rw [haltLane, lane_updLane_other, dropped, domsOff_other, resetLane, lane_updLane_other, expireSlots, lane_updLane_other,
    dropRings, updHst, lane_updLane_other, endInjection_other]

theorem nvmOut_haltLane (c : Nat) : (haltLane l c m).nvmOut = m.nvmOut := by
  have dropped (n : Module) : (dropMail l.num n).nvmOut = n.nvmOut := rfl
  rw [haltLane, updLane_nvmOut, dropped, nvmOut_of_blank (blank_domsOff ..), resetLane, updLane_nvmOut, expireSlots,
    updLane_nvmOut, dropRings, updHst, updLane_nvmOut, nvmOut_endInjection]

end

section
variable {s : State} {l : LaneId} {v : View} {w : Word} (c : Nat)

theorem does_lockstepMismatch (holds : (s.m.lane l).red.holds = true) :
    Does (.lockstepMismatch l c) s fun _ m => haltLane l (min 1 c) m := by
  have b : Does (.lockstepMismatch l c) s (lockstepMismatchBody l c) := rfl
  exact b.congr (if_pos (by simp [holds]))

theorem ends_lockstepMismatch (holds : (s.m.lane l).red.holds = true) : Ends (.lockstepMismatch l c) s fun t =>
    SameStores s t ∧ (t.m.lane l).sys.phase = .halted ∧ (t.m.lane l).red.holds = false ∧
    t.m.lane l.other = s.m.lane l.other := by
  obtain ⟨halted, free⟩ := lane_haltLane l s.m.fresh (min 1 c)
  refine (does_lockstepMismatch c holds).ends ⟨sameStores_commit ((nvmOut_haltLane ..).trans (fresh_nvmOut _)), ?_⟩
  rw [commit_m, closed_lane, closed_lane, haltLane_other, fresh_lane]
  exact ⟨halted, free, rfl⟩

theorem does_laneReset (heard : Heard s l v) (go : bitOf w 0 = true) (key : fld w 31 16 = 0x4E52) :
    Does (.laneReset l v w) s fun _ m => haltLane l 3 m :=
  (does_of_guardWrite (i := .laneReset l v w) heard rfl).congr (if_pos (by simp [go, key]))

end

/-! ### A restart (R314) -/

section
variable (l : LaneId) (m : Module)

@[simp] theorem variant_haltLane (c : Nat) : (haltLane l c m).variant = m.variant := by
  have dropped (n : Module) : (dropMail l.num n).variant = n.variant := rfl
  have ended : (endInjection l m).variant = m.variant := by
    simp only [endInjection]
    split <;> simp [updSys]
  rw [haltLane, updLane_variant, dropped, variant_of_core (core_of_blank (blank_domsOff ..)), resetLane, updLane_variant,
    expireSlots, updLane_variant, dropRings, updHst, updLane_variant, ended]

end

/-! ### A boot after a halt (R309, R314) -/

section
variable (l : LaneId) (m : Module)

@[simp] theorem core_expireSlots : (expireSlots l m).core = m.core := core_updKey ..

@[simp] theorem core_loadArray : (loadArray l m).core = m.core := (core_updKey ..).trans (core_randomised m)

@[simp] theorem core_fillInterDie : (fillInterDie l m).core = m.core := by rw [fillInterDie, core_setSlot, core_setSlot]

@[simp] theorem core_laneKeys : (laneKeys l m).core = m.core := by
  simp only [laneKeys]
  split
  · rw [core_updKey, core_setSlot, core_fillInterDie, core_expireSlots, core_loadArray]
  · rw [core_report, core_setSlot, core_updKey, core_setSlot, core_fillInterDie, core_expireSlots, core_loadArray]

@[simp] theorem variant_bootLane : (bootLane l m).variant = m.variant := by
  simp only [bootLane]
  rw [apply_ite Module.variant, variant_haltLane, ite_self, variant_of_core (core_laneKeys ..)]

@[simp] theorem blank_wakeDoms : (wakeDoms l m).blank = m.blank := blank_domRequests ..

theorem variant_restartBoot : (restartBoot l m).variant = m.variant := by
  simp only [restartBoot, variant_bootLane]
  rw [variant_of_core (core_of_blank ((blank_domSettle ..).trans (blank_wakeDoms ..))), updLane_variant, updSys,
    updLane_variant]

end

section
variable {s : State} {l : LaneId} (halted : (s.m.lane l).sys.phase = .halted)
include halted

theorem does_laneRestart : Does (.laneRestart l) s fun st m =>
    if ((restartBoot l m).lane l).sys.phase = .starting then
      if (restartBoot l m).variant.nLane = 1 then
        startLane ((restartBoot l m).cur st) l (updSys l (fun s => { s with elected := l }) (restartBoot l m))
      else rejoin ((restartBoot l m).cur st) l (restartBoot l m)
    else restartBoot l m := by
  have b : Does (.laneRestart l) s (laneRestartBody l) := rfl
  refine b.congr ((if_neg (by simp [halted])).trans ?_)
  by_cases up : ((restartBoot l s.m.fresh).lane l).sys.phase = .starting <;> simp [up]

end

/-! ### The triggers of lane B (R308) -/

section
variable {s : State} (two : s.m.variant.nLane = 2) (fit : s.m.laneB.sys.failed = false)
  (free : s.m.laneB.red.holds = false) (unarmed : s.m.laneB.red.patArmed = false) (heldUp : s.m.laneB.sys.holdupOk = true)
include two fit free unarmed heldUp

theorem does_startTriggerArm : Does (.startTriggerArm .B) s fun _ m =>
    updRed .B (fun r => { r with wireArmed := true, patArmed := true }) (clockTo m.armInstant m) := by
  have b : Does (.startTriggerArm .B) s (startTriggerArmBody .B) := rfl
  exact b.congr (if_neg (by simp [two, fit, free, unarmed, heldUp]))

theorem ends_startTriggerArm : Ends (.startTriggerArm .B) s fun t =>
    OnlyLane .B { s with m := { s.m with now := t.m.now } } t ∧ t.m.now = max s.m.now s.m.armInstant ∧
    t.m.laneB.red = { s.m.laneB.red with wireArmed := true, patArmed := true } := by
  refine (does_startTriggerArm two fit free unarmed heldUp).ends ⟨?_, ?_, ?_⟩
  · exact ⟨commit_mem_of_quiet _ _ (by simp [updRed]), rfl, rfl, rfl, rfl, rfl, rfl, rfl, rfl⟩
  · simp only [commit_m, closed_now, updRed, updLane_now, clockTo_now_eq]
    rfl
  · rfl

end

theorem ends_startTriggerArm_A (s : State) :
    Ends (.startTriggerArm .A) s fun t => SameStores s t ∧ t.m = s.m.fresh.closed := by
  have b : Does (.startTriggerArm .A) s (startTriggerArmBody .A) := rfl
  have idle : Does (.startTriggerArm .A) s fun _ m => m := b.congr (by simp [startTriggerArmBody])
  exact idle.ends ⟨sameStores_commit (fresh_nvmOut _), rfl⟩

/-! ### The generator (R309, R423) -/

section
variable (l : LaneId) (n : Nat)

theorem key_raise_key (m : Module) : ((raise l 16 4 m).lane l).key =
    { (m.lane l).key with irq := (m.lane l).key.irq ||| 4 } := by
  have sent (n : Module) : ((sendMsi l 16 n).lane l).key = (n.lane l).key := by
    simp only [sendMsi]
    split_ifs
    · rfl
    · rfl
    · rw [lane_updLane]
  simp only [raise, apply_ite (fun m : Module => (m.lane l).key), sent, ite_self, lane_updLane]
  rfl

theorem does_trngHealthFailure (s : State) : Does (.trngHealthFailure l n) s fun _ m =>
    report l 16 0x9007 n 0 0 (raise l 16 4 (m.updLane l fun L => { L with
      key := { L.key with trngOk := false, trngFailed := true } })) := rfl

theorem ends_trngHealthFailure (s : State) : Ends (.trngHealthFailure l n) s fun t => SameStores s t ∧
    (t.m.lane l).key = { (s.m.lane l).key with
      trngOk := false, trngFailed := true, irq := (s.m.lane l).key.irq ||| 4 } := by
  refine (does_trngHealthFailure l n s).ends ⟨sameStores_commit (by simp), ?_⟩
  rw [commit_m, closed_lane, report_lane_key, key_raise_key, lane_updLane, fresh_lane]

end
end Sys2Proof.Machine
end

section
/-! The swap of a start and the restore of the accumulators (R261, R303, R305, R306, R310). -/

namespace Sys2Proof.Machine

/-! ### The swap of a start -/

section
variable {l k : LaneId} {m : Module}

theorem phase_endInjection : ((endInjection l m).lane k).sys.phase = (m.lane k).sys.phase := by
  simp only [endInjection]
  split
  · rw [report_lane_sys]
    cases l <;> cases k <;> rfl
  · rfl

theorem phase_updSys (f : Sys → Sys) (h : ∀ x, (f x).phase = x.phase) :
    ((updSys l f m).lane k).sys.phase = (m.lane k).sys.phase := by
  cases l <;> cases k <;> simp [updSys, Module.updLane, Module.lane, h]

theorem phase_cancelArm (die : Nat) : ((cancelArm l die m).lane k).sys.phase = (m.lane k).sys.phase := by
  simp only [cancelArm]
  split
  · rw [report_lane_sys, updCfg]
    have sent (n : Module) : ((n.updLane l fun L => { L with cfg := { L.cfg with
        state := .passed, armCancelled := true, applySent := [], staged := [], acked := [] } }).lane k).sys =
        (n.lane k).sys := by cases l <;> cases k <;> rfl
    rw [sent, lane_sends]
  · rfl

/-- A change of mode leaves every lane's phase. -/
theorem phase_setMode (d : Mode) (c : Nat) : ((setMode l d c m).lane k).sys.phase = (m.lane k).sys.phase := by
  have told (n : Module) (a b e : Nat) : ((report l 0 3 a b e (raise l 0 1 n)).lane k).sys.phase = (n.lane k).sys.phase :=
    phase_of_blank ((blank_report ..).trans (blank_raise ..)) k
  simp only [setMode, apply_ite (fun n : Module => (n.lane k).sys.phase), phase_cancelArm, told,
    phase_updSys (fun x => { x with mode := d, cause := c, prev := _ }) (fun _ => rfl), phase_endInjection, ite_self]

end

/-- A lane up, with nothing staged. -/
def swappedUp (l : LaneId) (m : Module) : Module :=
  updCfg l (fun c => { c with staged := [] }) (updSys l (fun s => { s with phase := .up }) m)

/-- A lane up in its first mode, without an image. -/
def startedBlank (l : LaneId) (m : Module) : Module := setMode l .blank 0 (swappedUp l m)

section
variable {l : LaneId} {m : Module}

theorem swapAtStart_blank (staged : (m.lane l).cfg.staged = []) (blank : (m.lane l).cfg.active = none) :
    swapAtStart l m = startedBlank l m := by
  have swapped (f : Nat → Module → Module) : (forEach [] f m) = m := rfl
  simp only [swapAtStart, staged, swapped]
  exact if_neg (by simp [blank])

theorem phase_swappedUp : ((swappedUp l m).lane l).sys.phase = .up := by simp [swappedUp, updCfg, updSys]

theorem lane_startedBlank : ((startedBlank l m).lane l).sys.phase = .up ∧ ((startedBlank l m).lane l).sys.mode = .blank := by
  have frozen : (swappedUp l m).frozen l = false := by simp [Module.frozen, phase_swappedUp]
  exact ⟨by rw [startedBlank, phase_setMode, phase_swappedUp], congrArg Course.mode (course_setMode frozen .blank 0)⟩

theorem phase_startedBlank_other : ((startedBlank l m).lane l.other).sys.phase = (m.lane l.other).sys.phase := by
  rw [startedBlank, phase_setMode, swappedUp, updCfg, lane_updLane_other, updSys, lane_updLane_other]

theorem joinPeer_absent {k : LaneId} {st : Store} (h : (m.lane k).sys.phase ≠ .starting) : joinPeer st k m = m :=
  if_neg (by simp [h])

end

section
variable {s : State} {l : LaneId} (swaps : (s.m.lane l).sys.phase = .startSwap) (holds : (s.m.lane l).red.holds = true)
include swaps holds

theorem does_startSwap : Does (.startSwap l) s fun st m => joinPeer st l.other (swapAtStart l
    (clockTo (cdiv ((m.lane l).sys.raisedAt + 5000000) 1000000 * 1000000) m)) := by
  have b : Does (.startSwap l) s (startSwapBody l) := rfl
  exact b.congr (if_neg (by simp [swaps, holds]))

theorem ends_startSwap (apart : (s.m.lane l.other).sys.phase ≠ .starting) (blank : (s.m.lane l).cfg.active = none)
    (staged : (s.m.lane l).cfg.staged = []) :
    Ends (.startSwap l) s fun t => (t.m.lane l).sys.phase = .up ∧ (t.m.lane l).sys.mode = .blank := by
  refine (does_startSwap swaps holds).ends ?_
  rw [commit_m, closed_lane, swapAtStart_blank (by rw [clockTo_lane, fresh_lane, staged])
    (by rw [clockTo_lane, fresh_lane, blank]), joinPeer_absent]
  · exact lane_startedBlank
  · rwa [phase_startedBlank_other, clockTo_lane, fresh_lane]

end

/-! ### What the restore reads and records leave as it was -/

/-- A lane with its metering part as a new lane's, beside its store and its keys. -/
def Lane.trunk (L : Lane) : Lane := { L.core with mtr := {} }

/-- The module with its lanes so. -/
def Module.trunk (m : Module) : Module := { m.core with laneA := m.laneA.trunk, laneB := m.laneB.trunk }

section
variable {m n : Module}

theorem trunk_of_core (h : m.core = n.core) : m.trunk = n.trunk :=
  congrArg (fun b : Module => { b with laneA := { b.laneA with mtr := {} }, laneB := { b.laneB with mtr := {} } }) h

theorem trunk_of_blank (h : m.blank = n.blank) : m.trunk = n.trunk := trunk_of_core (core_of_blank h)

theorem mode_of_trunk (h : m.trunk = n.trunk) (l : LaneId) : (m.lane l).sys.mode = (n.lane l).sys.mode := by
  have same (m : Module) : (m.lane l).sys.mode = (m.trunk.lane l).sys.mode := by cases l <;> rfl
  rw [same, same n, h]

theorem laneRestored_of_trunk (h : m.trunk = n.trunk) (l : LaneId) :
    (m.lane l).sys.restored = (n.lane l).sys.restored := by
  have same (m : Module) : (m.lane l).sys.restored = (m.trunk.lane l).sys.restored := by cases l <;> rfl
  rw [same, same n, h]

theorem variant_of_trunk (h : m.trunk = n.trunk) : m.variant = n.variant := (congrArg Module.variant h :)

theorem restored_of_trunk (h : m.trunk = n.trunk) (d : Nat) : (m.fd d).restored = (n.fd d).restored := by
  have fds : m.fds.map FieldDie.blank = n.fds.map FieldDie.blank := (congrArg Module.fds h :)
  have same (m : Module) : (m.fd d).restored = (at? (m.fds.map FieldDie.blank) d {}).restored := by
    simp only [Module.fd, at?, List.getElem?_map]
    cases m.fds[d]? <;> rfl
  rw [same, same n, fds]

end

section
variable (l : LaneId) (m : Module) (st : Store)

theorem trunk_updMtr (f : Lane → Mtr) : (m.updLane l fun L => { L with mtr := f L }).trunk = m.trunk := by
  cases l <;> rfl

@[simp] theorem trunk_adoptSaveSeq : (adoptSaveSeq st l m).trunk = m.trunk := trunk_updMtr ..

theorem trunk_saveStart (kind : Nat) : (saveStart l kind m).trunk = m.trunk := by
  rw [trunk_of_blank (blank_saveStart ..), saveBegun, trunk_updMtr, saveNumbered, trunk_updMtr]

theorem trunk_onPeerPath (f : Module → Module) (h : (f m).trunk = m.trunk)
    (woken : (f (domSettle l.num rxDoms (wakeReceiver l m))).trunk = m.trunk) : (onPeerPath l f m).trunk = m.trunk := by
  simp only [onPeerPath]
  split
  · exact h
  · rw [trunk_of_blank (blank_receiverDone ..), woken]

theorem trunk_recordChange (new : Conf) : (recordChange l new m).trunk = m.trunk := trunk_of_core (core_report ..)

theorem trunk_writeSeal (w : Writer) : (writeSeal w st l m).trunk = m.trunk := trunk_of_core (core_writeBlock ..)

theorem trunk_sealChange (new : Conf) (ok : Bool) : (sealChange st l new ok m).trunk = m.trunk := by
  simp only [sealChange]
  split_ifs
  · rw [trunk_recordChange, trunk_writeSeal, trunk_updMtr]
  · rw [trunk_of_blank (blank_receiverDone ..), trunk_writeSeal, trunk_updMtr, trunk_of_blank (blank_wakeReceiver ..),
      trunk_recordChange, trunk_writeSeal, trunk_updMtr]
  · rw [trunk_of_core (core_report ..), trunk_recordChange, trunk_writeSeal, trunk_updMtr]

theorem trunk_missingChange : (missingChange st l m).trunk = m.trunk := by
  simp only [missingChange]
  split
  · rfl
  · split_ifs
    · rfl
    · exact trunk_recordChange ..
    · rfl
    · rw [trunk_sealChange, trunk_of_core (core_spend ..)]

end

/-! ### The restore (R261) -/

/-- Every field die fitted has its set restored. -/
def Module.AllRestored (m : Module) : Prop := ∀ d, d < m.variant.nFd → (m.fd d).restored = true

section
variable {l : LaneId} {m n : Module} {st : Store}

theorem allRestored_of_trunk (h : n.trunk = m.trunk) (all : m.AllRestored) : n.AllRestored := fun d fitted => by
  rw [restored_of_trunk h, all d (variant_of_trunk h ▸ fitted)]

/-- Where every die is restored, none is left to be. -/
theorem unrestored_eq_nil (all : m.AllRestored) : ((m.fdsOf l).filter fun d => !(m.fd d).restored) = [] := by
  refine List.filter_eq_nil_iff.mpr fun d mem => ?_
  have fitted : d < m.variant.nFd := List.mem_range.mp (List.mem_of_mem_filter mem)
  simp [all d fitted]

theorem restoreReached_restored (all : m.AllRestored) : ((restoreReached st l m).lane l).sys.restored = true ∧
    ((restoreReached st l m).lane l).sys.mode = (m.lane l).sys.mode := by
  unfold restoreReached
  extract_lets read m1 m2
  have reads (k : Module) (h : k.trunk = m.trunk) : (read k).trunk = m.trunk := by
    have none := unrestored_eq_nil (l := l) (allRestored_of_trunk h all)
    simp only [read, none]
    exact (trunk_adoptSaveSeq ..).trans h
  have readOut : m1.trunk = m.trunk := by
    simp only [m1]
    split
    · exact trunk_onPeerPath _ _ _ (reads m rfl)
        (reads _ (trunk_of_blank ((blank_domSettle ..).trans (blank_wakeReceiver ..))))
    · exact reads m rfl
  have judged : m2.trunk = m.trunk := (trunk_missingChange ..).trans readOut
  have done : m2.fdList.all (fun d => (m2.fd d).restored) = true :=
    List.all_eq_true.mpr fun d mem => allRestored_of_trunk judged all d (List.mem_range.mp mem)
  rw [updSys, lane_updLane]
  exact ⟨done, mode_of_trunk judged l⟩

end

/-- The lane once its START save has begun. -/
def restoreSaved (l : LaneId) (st : Store) (m : Module) : Module := saveStart l 2 (restoreReached st l m)

section
variable {s : State} {l : LaneId} (up : (s.m.lane l).sys.phase = .up) (holds : (s.m.lane l).red.holds = true)
  (waits : (s.m.lane l).sys.restored = false)
include up holds waits

theorem does_accumulatorRestoreComplete : Does (.accumulatorRestoreComplete l) s fun st m =>
    let sys := ((restoreSaved l st m).lane l).sys
    if sys.mode == .loaded && sys.autoDue && sys.restored then autostart l (restoreSaved l st m)
    else restoreSaved l st m := by
  have b : Does (.accumulatorRestoreComplete l) s (accumulatorRestoreCompleteBody l) := rfl
  exact b.congr (if_neg (by simp [up, holds, waits]))

theorem ends_accumulatorRestoreComplete (mode : (s.m.lane l).sys.mode ≠ .loaded)
    (all : ∀ d, d < s.m.variant.nFd → (s.m.fd d).restored = true) :
    Ends (.accumulatorRestoreComplete l) s fun t => (t.m.lane l).sys.restored = true := by
  obtain ⟨restored, sameMode⟩ := restoreReached_restored (l := l) (m := s.m.fresh) (st := s.mem) all
  have saved : (restoreSaved l s.mem s.m.fresh).trunk = (restoreReached s.mem l s.m.fresh).trunk := trunk_saveStart ..
  have savedMode : ((restoreSaved l s.mem s.m.fresh).lane l).sys.mode ≠ .loaded := by
    rwa [mode_of_trunk saved, sameMode, fresh_lane]
  refine (does_accumulatorRestoreComplete up holds waits).ends ?_
  rw [commit_m, closed_lane, if_neg (by simp [savedMode]), laneRestored_of_trunk saved, restored]

end

end Sys2Proof.Machine
end

section
/-! The final save (R260, R316, R317), and the starts and halts settled. -/

namespace Sys2Proof.Machine

/-! ### A field die's record enters the save (R260) -/

/-- A die's set latched with the samples up to now, in the save under way. -/
def saveEntered (l : LaneId) (d : Nat) (recs : List (Nat × Bytes)) (at_ : Nat) (x : FrameMeas) (m : Module) : Module :=
  let m := blockEnd d (sampleDie d x m)
  let r := accuRecord m l d 1 (m.lane l).mtr.saveSeq
  m.updLane l fun L => { L with mtr := { L.mtr with save := some (1, recs ++ [(d, r)], at_) } }

/-- The ADC groups and the loop slots of a die stop. -/
def groupsOff (d : Nat) (m : Module) : Module :=
  forEach (List.range 8) (fun g => updDom (4 + d) (1 + g) fun x =>
    { x with state := .off, moving := false, target := .off, pending := none }) m

theorem blank_groupsOff (d : Nat) (m : Module) : (groupsOff d m).blank = m.blank :=
  blank_forEach _ _ _ fun _ _ => blank_updDom ..

theorem save_saveEntered (l : LaneId) (d : Nat) (recs : List (Nat × Bytes)) (at_ : Nat) (x : FrameMeas) (m : Module) :
    ∃ r, ((saveEntered l d recs at_ x m).lane l).mtr.save = some (1, recs ++ [(d, r)], at_) :=
  ⟨_, by rw [saveEntered, lane_updLane]⟩

section
variable {s : State} {l : LaneId} {d at_ : Nat} {recs : List (Nat × Bytes)} (x : FrameMeas)
  (save : (s.m.lane l).mtr.save = some (1, recs, at_)) (saving : (s.m.lane l).sys.phase = .saving)
  (reach : s.m.fdReach l d = true) (missing : recs.any (·.1 == d) = false)
include save saving reach missing

theorem does_finalSaveMsg :
    Does (.finalSaveMsg l d x) s fun _ m => groupsOff d (saveEntered l d recs at_ x m) := by
  have b : Does (.finalSaveMsg l d x) s (finalSaveMsgBody l d x) := rfl
  refine b.congr ?_
  unfold finalSaveMsgBody
  simp only [fresh_lane, save]
  exact if_neg (by simp [saving, reach, missing])

theorem ends_finalSaveMsg : Ends (.finalSaveMsg l d x) s fun t => t.pending = s.pending ∧
    ∃ r, (t.m.lane l).mtr.save = some (1, recs ++ [(d, r)], at_) := by
  refine (does_finalSaveMsg x save saving reach missing).ends ⟨commit_pending .., ?_⟩
  rw [commit_m, closed_lane, save_of_core (core_of_blank (blank_groupsOff ..))]
  exact save_saveEntered ..

end

/-! ### The end of the final save (R260, R316, R317) -/

section
variable (l : LaneId) (m : Module) (st : Store)

theorem core_updEvr (f : Lane → Evr) : (m.updLane l fun L => { L with evr := f L }).core = m.core :=
  core_updLane _ _ _ fun _ => rfl

@[simp] theorem core_mlogPut (seq : Nat) (bs : Bytes) : (mlogPut st l seq bs m).core = m.core := by
  simp only [mlogPut, core_raise, apply_ite Module.core, ite_self, core_updEvr, core_mramWrite]

@[simp] theorem core_mlogLose (n : Nat) : (mlogLose st l n m).core = m.core := by
  simp only [mlogLose]
  split
  · rfl
  · exact (core_writeBlock ..).trans (core_updLane _ _ _ fun _ => rfl)

@[simp] theorem core_mlogWrite (r : EvRec) : (mlogWrite st l r m).core = m.core := by
  simp only [mlogWrite, apply_ite Module.core, core_mlogPut, core_mlogLose, ite_self]

end

theorem supplyGood_of_core {m n : Module} (h : m.core = n.core) : m.supplyGood = n.supplyGood :=
  (congrArg Module.supplyGood h :)

/-- The records of the dies and the metrology records that arose before, in the store. -/
def finalStored (l : LaneId) (recs : List (Nat × Bytes)) (st : Store) (m : Module) : Module :=
  let m := saveWrite st l recs m
  forEach ((m.lane l).evr.intake.filter fun r => isMetrology r.code) (fun r m => mlogWrite (m.cur st) l r m) m

/-- A lane stopped once its final save stands in the store. -/
def finalSaved (l : LaneId) (recs : List (Nat × Bytes)) (st : Store) (m : Module) : Module :=
  endShutdown l ((finalStored l recs st m).updLane l fun L => { L with
    mtr := { L.mtr with saveAt := some (finalStored l recs st m).now } })

section
variable (l : LaneId) (recs : List (Nat × Bytes)) (st : Store) (m : Module)

theorem core_finalStored : (finalStored l recs st m).core = m.core :=
  (core_forEach _ _ _ fun _ _ => core_mlogWrite ..).trans (core_saveWrite ..)

theorem supplyGood_endShutdown : (endShutdown l m).supplyGood = m.supplyGood := by
  rw [endShutdown, updLane_supplyGood, supplyGood_of_core (core_of_blank (blank_domsOff ..))]

theorem supplyGood_finalSaved : (finalSaved l recs st m).supplyGood = m.supplyGood := by
  rw [finalSaved, supplyGood_endShutdown, updLane_supplyGood, supplyGood_of_core (core_finalStored ..)]

/-- A shutdown without supply ends with the lane stopped, without its claim and with nothing left to save or to write. -/
theorem lane_endShutdown (lost : m.supplyGood = false) : let L := (endShutdown l m).lane l
    L.sys.phase = .stopped ∧ L.mtr.save = none ∧ L.red.holds = false ∧ L.evr.intake = [] := by
  have gone : (domsOff l.num m).supplyGood = false := by
    rw [supplyGood_of_core (core_of_blank (blank_domsOff ..)), lost]
  simp only [endShutdown, lane_updLane, gone, Bool.false_eq_true, if_false, and_self]

end

section
variable {s : State} {l : LaneId} {at_ : Nat} {recs : List (Nat × Bytes)}
  (save : (s.m.lane l).mtr.save = some (1, recs, at_)) (saving : (s.m.lane l).sys.phase = .saving)
  (all : ∀ d, d ∈ s.m.fdsOf l → recs.any (·.1 == d) = true)
include save saving all

theorem does_finalSaveComplete : Does (.finalSaveComplete l) s fun st m =>
    if (finalSaved l recs st m).supplyGood then beginStart (finalSaved l recs st m) else finalSaved l recs st m := by
  have b : Does (.finalSaveComplete l) s (finalSaveCompleteBody l) := rfl
  refine b.congr ?_
  unfold finalSaveCompleteBody
  simp only [fresh_lane, save]
  exact if_neg (by simpa [saving] using all)

theorem does_finalSaveComplete_lost (lost : s.m.supplyGood = false) :
    Does (.finalSaveComplete l) s fun st m => finalSaved l recs st m :=
  (does_finalSaveComplete save saving all).congr
    (if_neg (by rw [supplyGood_finalSaved, fresh_supplyGood, lost]; decide))

theorem ends_finalSaveComplete (lost : s.m.supplyGood = false) : Ends (.finalSaveComplete l) s fun t =>
    t.pending = s.pending ∧ (t.m.lane l).sys.phase = .stopped ∧ (t.m.lane l).mtr.save = none ∧
    (t.m.lane l).red.holds = false ∧ (t.m.lane l).evr.intake = [] := by
  refine (does_finalSaveComplete_lost save saving all lost).ends ⟨commit_pending .., ?_⟩
  rw [commit_m, closed_lane]
  refine lane_endShutdown _ _ ?_
  rw [updLane_supplyGood, supplyGood_of_core (core_finalStored ..), fresh_supplyGood, lost]

end

/-- Settles O8: each start, halt and save past its guard, and what its effect leaves of the lane's phase, mode and claim. -/
theorem startsAndHaltsAct : Obligations.StartsAndHaltsAct := by
  refine ⟨fun s l v => ⟨fun swaps holds apart blank staged => ends_startSwap swaps holds apart blank staged,
      fun up holds waits mode all => ends_accumulatorRestoreComplete up holds waits mode all,
      fun swaps holds => does_startSwap swaps holds,
      fun up holds waits => ⟨fun kept => ?saved, fun mode due done => ?requested⟩,
      fun two fit free unarmed heldUp => ⟨ends_startTriggerArm two fit free unarmed heldUp,
        does_startTriggerArm two fit free unarmed heldUp⟩,
      ends_startTriggerArm_A s, fun c holds => does_lockstepMismatch c holds,
      fun w heard go key => does_laneReset heard go key, fun c holds => ends_lockstepMismatch c holds,
      fun halted => ⟨fun up one => ?alone, fun up two => ?beside, fun down => ?down⟩,
      fun n => ⟨ends_trngHealthFailure l n s, does_trngHealthFailure l n s⟩⟩,
    fun s l => ⟨fun d x recs at_ save saving reach missing => ⟨ends_finalSaveMsg x save saving reach missing,
        does_finalSaveMsg x save saving reach missing⟩,
      fun recs at_ save saving lost all => ⟨ends_finalSaveComplete save saving all lost,
        does_finalSaveComplete_lost save saving all lost⟩⟩,
    fun s l recs at_ save saving good all => does_finalSaveComplete save saving all⟩
  case saved =>
    refine (does_accumulatorRestoreComplete up holds waits).congr (if_neg ?_)
    rcases kept with mode | due | done
    · simp [restoreSaved, mode]
    · simp [restoreSaved, due]
    · simp [restoreSaved, done]
  case requested =>
    exact (does_accumulatorRestoreComplete up holds waits).congr (if_pos (by simp [restoreSaved, mode, due, done]))
  case alone =>
    exact (does_laneRestart halted).congr ((if_pos up).trans (if_pos (by rw [variant_restartBoot, fresh_variant, one])))
  case beside =>
    exact (does_laneRestart halted).congr
      ((if_pos up).trans (if_neg (by rw [variant_restartBoot, fresh_variant, two]; decide)))
  case down => exact (does_laneRestart halted).congr (if_neg down)

end Sys2Proof.Machine
end

section
/-! Claim numbers (R271) and the machine right after reset. -/

namespace Sys2Proof.Machine

/-! ### Claim numbers -/

section
variable (e : Nat) (l : LaneId)

theorem num_lt_two : l.num < 2 := by cases l <;> decide

@[simp] theorem claimEpoch_mkClaim : claimEpoch (mkClaim e l) = e := by
  have small := num_lt_two l
  unfold claimEpoch mkClaim
  omega

theorem mkClaim_mod_two : mkClaim e l % 2 = l.num := by
  have small := num_lt_two l
  unfold mkClaim
  omega

@[simp] theorem claimLane_mkClaim : claimLane (mkClaim e l) = l := by
  unfold claimLane
  rw [mkClaim_mod_two]
  cases l <;> rfl

theorem mkClaim_lt {e : Nat} (small : e < 2 ^ 31) : mkClaim e l < 2 ^ 32 := by
  have bit := num_lt_two l
  unfold mkClaim
  omega

theorem mkClaim_lt_mkClaim (f : Nat) (k : LaneId) :
    mkClaim e l < mkClaim f k ↔ e < f ∨ (e = f ∧ l = .A ∧ k = .B) := by
  unfold mkClaim
  cases l <;> cases k <;> simp [LaneId.num] <;> omega

theorem mkClaim_A_ne_mkClaim_B (f : Nat) : mkClaim e .A ≠ mkClaim f .B := fun same => by
  have lane : LaneId.A = .B := by simpa using congrArg claimLane same
  cases lane

end

/-- Settles O54: the lane's number is the last binary digit of the claim number, and the epoch all the others. -/
theorem claimNumbersNameTheirLane : Obligations.ClaimNumbersNameTheirLane := fun e f l k small _ =>
  ⟨mkClaim_lt l small, claimEpoch_mkClaim e l, claimLane_mkClaim e l,
    by rw [mkClaim_mod_two]; cases l <;> decide, mkClaim_lt_mkClaim e l f k, mkClaim_A_ne_mkClaim_B e f⟩

/-! ### Reset -/

theorem wf_newMram : Memory.wf newMram = true := by decide

theorem reset_inv : State.reset.Inv := by
  simp only [State.Inv, Store.wf, Bool.and_eq_true]
  exact ⟨⟨wf_newMram, wf_newMram⟩, rfl⟩

theorem at_replicate {α : Type} (n i : Nat) (x : α) : at? (List.replicate n x) i x = x := by
  unfold at?
  rw [List.getElem?_replicate]
  split <;> rfl

theorem reset_fd (d : Nat) : State.reset.m.fd d = {} := at_replicate 4 d ({} : FieldDie)

theorem reset_sd (d : Nat) : State.reset.m.sd d = {} := at_replicate 2 d ({} : SolverDie)

/-- Settles O58: the reset state is the default of every field but the stores, which hold a new module's two tables. -/
theorem resetIsSound : Obligations.ResetIsSound :=
  ⟨reset_inv, rfl, rfl, rfl, fun l => by cases l <;> exact ⟨rfl, rfl, rfl⟩, fun d => by rw [reset_fd],
    fun d => by rw [reset_sd]⟩

end Sys2Proof.Machine
end

section
/-! Which lanes hold a claim, and the operations of the model that leave it as it is: one rule for each. -/

namespace Sys2Proof.Machine

/-- Which lanes hold a claim. -/
def Module.holders (m : Module) (l : LaneId) : Bool := (m.lane l).red.holds

theorem holders_of_hull {m n : Module} (h : m.hull = n.hull) : m.holders = n.holders := funext (holds_of_hull h)

theorem holders_of_blank {m n : Module} (h : m.blank = n.blank) : m.holders = n.holders :=
  holders_of_hull (hull_of_blank h)

theorem holders_of_husk {m n : Module} (h : m.husk = n.husk) : m.holders = n.holders :=
  funext fun l => (congrArg (fun L : Lane => L.red.holds) (lane_of_husk h l) :)

theorem holders_of_core {m n : Module} (h : m.core = n.core) : m.holders = n.holders :=
  funext fun l => (congrArg (fun L : Lane => L.red.holds) (lane_of_core h l) :)

section
variable (m : Module)

@[simp] theorem holders_ite (c : Prop) [Decidable c] (n : Module) :
    (if c then m else n).holders = if c then m.holders else n.holders := apply_ite ..

@[simp] theorem holders_withBus (w : Word) : ({ m with bus := w } : Module).holders = m.holders := rfl

@[simp] theorem holders_withMail (xs : List Mail) : ({ m with mail := xs } : Module).holders = m.holders := rfl

section
variable (l : LaneId)

@[simp] theorem holders_updLane {f : Lane → Lane} (h : ∀ L, (f L).red.holds = L.red.holds) :
    (m.updLane l f).holders = m.holders := by
  funext k; cases l <;> cases k <;> simp [Module.holders, Module.updLane, Module.lane, h]

@[simp] theorem holders_updRed {f : Red → Red} (h : ∀ r, (f r).holds = r.holds) :
    (updRed l f m).holders = m.holders := holders_updLane _ _ fun _ => h _

end

variable {f : Module → Module} (h : ∀ m, (f m).holders = m.holders)
include h

@[simp] theorem holders_when (b : Bool) : (when b f m).holders = m.holders := by
  unfold when; split <;> simp [h]

@[simp] theorem holders_guardWrite (l : LaneId) (v : View) : (guardWrite l v f m).holders = m.holders := by
  unfold guardWrite; split <;> simp [h]

@[simp] theorem holders_guardRead (l : LaneId) (v : View) : (guardRead l v f m).holders = m.holders := by
  unfold guardRead; split
  · rfl
  · split <;> simp [h]

end

@[simp] theorem holders_forEach {α : Type} (xs : List α) {f : α → Module → Module}
    (h : ∀ x m, (f x m).holders = m.holders) (m : Module) : (forEach xs f m).holders = m.holders :=
  forEach_part _ _ _ h _

theorem holders_takeFromLane {α : Type} {die : Nat} {pick : Msg → Option α} {m n : Module} {l : LaneId} {a : α}
    (h : takeFromLane die pick m = some (l, a, n)) : n.holders = m.holders := by
  simp only [takeFromLane] at h
  split at h
  · simp only [Option.some.injEq, Prod.mk.injEq] at h
    obtain ⟨-, -, rfl⟩ := h
    rfl
  · cases h

theorem holds_setIrq (L : Lane) (b : Nat) (w : Word) : (L.setIrq b w).red.holds = L.red.holds := by
  unfold Lane.setIrq; split <;> rfl

theorem holds_setIrqEn (L : Lane) (b : Nat) (w : Word) : (L.setIrqEn b w).red.holds = L.red.holds := by
  unfold Lane.setIrqEn; split <;> rfl

/-! ### The shared operations -/

section
variable (l : LaneId) (bits block code d p0 p1 p2 : Nat) (m : Module)

@[simp] theorem holders_fresh : m.fresh.holders = m.holders := funext fun _ => rfl

@[simp] theorem holders_closed : m.closed.holders = m.holders := funext fun _ => rfl

@[simp] theorem holders_updFd (f : FieldDie → FieldDie) : (m.updFd d f).holders = m.holders := funext fun _ => rfl

@[simp] theorem holders_updSd (f : SolverDie → SolverDie) : (m.updSd d f).holders = m.holders := funext fun _ => rfl

@[simp] theorem holders_updChan (c : Nat) (f : Channel → Channel) : (m.updChan d c f).holders = m.holders :=
  holders_of_hull (hull_updChan ..)

@[simp] theorem holders_clockTo (t : Nat) : (clockTo t m).holders = m.holders := funext fun _ => rfl

@[simp] theorem holders_retime (ppb : Int) : (retime ppb m).holders = m.holders := by
  funext k; unfold retime
  split
  · rfl
  · cases k <;> rfl

@[simp] theorem holders_drawn : m.drawn.holders = m.holders := funext fun _ => rfl

@[simp] theorem holders_put (e : OutEv) : (put e m).holders = m.holders := holders_of_blank (blank_put ..)

@[simp] theorem holders_sendMsi (vec : Nat) : (sendMsi l vec m).holders = m.holders :=
  holders_of_blank (blank_sendMsi ..)

@[simp] theorem holders_raise (b : Nat) : (raise l b bits m).holders = m.holders := holders_of_hull (hull_raise ..)

@[simp] theorem holders_raiseFd : (raiseFd d bits m).holders = m.holders := holders_of_hull (hull_raiseFd ..)

@[simp] theorem holders_raiseLp : (raiseLp d bits m).holders = m.holders := holders_of_hull (hull_raiseLp ..)

@[simp] theorem holders_reportAs (die fl : Nat) : (reportAs l die block code fl p0 p1 p2 m).holders = m.holders :=
  holders_of_blank (blank_reportAs ..)

@[simp] theorem holders_report : (report l block code p0 p1 p2 m).holders = m.holders :=
  holders_of_blank (blank_report ..)

@[simp] theorem holders_reportFd : (reportFd d block code p0 p1 p2 m).holders = m.holders :=
  holders_of_hull (hull_reportFd ..)

@[simp] theorem holders_reportSd : (reportSd d block code p0 p1 p2 m).holders = m.holders := by simp [reportSd]

@[simp] theorem holders_send (src dst : Nat) (msg : Msg) : (send src dst msg m).holders = m.holders :=
  funext fun _ => rfl

@[simp] theorem holders_programRaw (target addr : Nat) (bs : Bytes) :
    (programRaw target addr bs m).holders = m.holders := holders_of_core (core_programRaw ..)

@[simp] theorem holders_updSel (v : View) (f : Sel → Sel) : (updSel l v f m).holders = m.holders := by
  unfold updSel; split <;> simp

@[simp] theorem holders_latchWord (v : View) (addr : Nat) (w : Word) :
    (latchWord l v addr w m).holders = m.holders := by
  simp [latchWord]

@[simp] theorem holders_onBus (w : Word) : (onBus w m).holders = m.holders := funext fun _ => rfl

end

/-! ### The field channels (chapter 6) -/

section
variable (l : LaneId) (c ch d n out : Nat) (st : AxisState) (m : Module)

@[simp] theorem holders_updOut (f : Output → Output) : (m.updOut d c n f).holders = m.holders :=
  holders_of_hull (hull_updOut ..)

@[simp] theorem holders_refreshOut : (refreshOut d c n m).holders = m.holders := holders_of_hull (hull_refreshOut ..)

@[simp] theorem holders_refreshCh : (refreshCh d c m).holders = m.holders := holders_of_hull (hull_refreshCh ..)

@[simp] theorem holders_refreshFd : (refreshFd d m).holders = m.holders :=
  holders_of_hull (hull_of_shell (shell_refreshFd ..))

@[simp] theorem holders_refreshAll : (refreshAll m).holders = m.holders := by simp [refreshAll]

@[simp] theorem holders_axisDrop : (axisDrop d c st m).holders = m.holders := holders_of_hull (hull_axisDrop ..)

@[simp] theorem holders_axisSafe : (axisSafe d c m).holders = m.holders := funext fun _ => rfl

@[simp] theorem holders_axisUnfault : (axisUnfault d c m).holders = m.holders := holders_of_hull (hull_axisUnfault ..)

@[simp] theorem holders_axisLeaveSafe : (axisLeaveSafe d c m).holders = m.holders := by simp [axisLeaveSafe]

@[simp] theorem holders_faultOuts (ns : List Nat) (cause : Nat) : (faultOuts d c ns cause m).holders = m.holders :=
  holders_of_hull (hull_faultOuts ..)

@[simp] theorem holders_clearFaults (causes : Nat) : (clearFaults d c causes m).holders = m.holders := by
  have outs (gone : Nat → Module → Nat) (f : Nat → Module → Output → Output) (m : Module) :
      (forEach [0, 1, 2, 3] (fun n m => if gone n m = 0 then m else forEach [0, 1, 2, 3] (fun b =>
        when (nbit (gone n m) b) (reportFd d 6 0x4002 (64 * d + c) n b)) (m.updOut d c n (f n m))) m).holders =
        m.holders := by simp
  simp only [clearFaults, holders_refreshCh, holders_axisUnfault, holders_ite, holders_updFd, ite_self]
  rw [outs, holders_updChan]

@[simp] theorem holders_rejectClaim (claim : Nat) : (rejectClaim d claim n m).holders = m.holders := by
  simp [rejectClaim]

@[simp] theorem holders_unreachable : (unreachable l m).holders = m.holders := by simp [unreachable]

@[simp] theorem holders_fldWrite (v : View) {f : Module → Module} (h : ∀ m, (f m).holders = m.holders) :
    (fldWrite l v d f m).holders = m.holders := by simp [fldWrite, h]

@[simp] theorem holders_enterSafe (sel : Nat → Nat → Bool) (cause : Nat) :
    (enterSafe d sel cause m).holders = m.holders := by simp [enterSafe]

@[simp] theorem holders_maskChanged (was : Nat → Bool) : (maskChanged d was m).holders = m.holders := by
  simp [maskChanged]

@[simp] theorem holders_applyOut (code : Nat) : (applyOut d c n code m).holders = m.holders := by simp [applyOut]

@[simp] theorem holders_overcurrentTripBody (bridge : Nat) (st : Store) :
    (overcurrentTripBody d ch bridge st m).holders = m.holders := by simp [overcurrentTripBody]

@[simp] theorem holders_currentLimitTimeoutBody (st : Store) :
    (currentLimitTimeoutBody d ch out st m).holders = m.holders := by simp [currentLimitTimeoutBody]

@[simp] theorem holders_openLoadDetectedBody (bridge : Nat) (st : Store) :
    (openLoadDetectedBody d ch bridge st m).holders = m.holders := by simp [openLoadDetectedBody]

@[simp] theorem holders_thermalShutdownBody (grp : Nat) (st : Store) :
    (thermalShutdownBody d grp st m).holders = m.holders := by simp [thermalShutdownBody]

@[simp] theorem holders_thermalWarningBody (grp temp : Nat) (st : Store) :
    (thermalWarningBody d grp temp st m).holders = m.holders := by simp [thermalWarningBody]

@[simp] theorem holders_endOfTravelBody (st : Store) : (endOfTravelBody d ch out st m).holders = m.holders := by
  simp [endOfTravelBody]

@[simp] theorem holders_directionChangeEndBody (st : Store) :
    (directionChangeEndBody d ch out st m).holders = m.holders := by simp [directionChangeEndBody]

@[simp] theorem holders_safeDriveEndBody (st : Store) : (safeDriveEndBody d ch out st m).holders = m.holders := by
  simp only [safeDriveEndBody]; split <;> simp

@[simp] theorem holders_railLowBody (mv : Nat) (st : Store) : (railLowBody d mv st m).holders = m.holders := by
  simp [railLowBody]

@[simp] theorem holders_railRestoredBody (mv : Nat) (st : Store) :
    (railRestoredBody d mv st m).holders = m.holders := by
  simp [railRestoredBody]

@[simp] theorem holders_sensorSupplyLimitBody (half ma : Nat) (on : Bool) (st : Store) :
    (sensorSupplyLimitBody d half ma on st m).holders = m.holders := by simp [sensorSupplyLimitBody]

@[simp] theorem holders_encoderEdgeBody (a b : Bool) (st : Store) :
    (encoderEdgeBody d ch a b st m).holders = m.holders := by simp [encoderEdgeBody]

end

/-! ### Axes (chapter 7) -/

section
variable (l : LaneId) (c ch d : Nat) (m : Module)

@[simp] theorem holders_updAxis (f : Axis → Axis) : (m.updAxis d c f).holders = m.holders :=
  holders_of_hull (hull_updAxis ..)

@[simp] theorem holders_axisAck (bits source : Nat) : (axisAck d c bits source m).holders = m.holders :=
  holders_of_hull (hull_axisAck ..)

@[simp] theorem holders_axisUpdate : (axisUpdate d c m).holders = m.holders := holders_of_hull (hull_axisUpdate ..)

@[simp] theorem holders_profileUpdateBody (st : Store) : (profileUpdateBody d st m).holders = m.holders := by
  simp [profileUpdateBody]

@[simp] theorem holders_axisNext : (axisNext d c m).holders = m.holders := by simp [axisNext]

@[simp] theorem holders_axisStallBody (st : Store) : (axisStallBody d ch st m).holders = m.holders := by
  simp [axisStallBody]

@[simp] theorem holders_holdTimeExpiryBody (st : Store) : (holdTimeExpiryBody d ch st m).holders = m.holders := by
  simp [holdTimeExpiryBody]

@[simp] theorem holders_axisCommand (op : Nat) : (axisCommand d c op m).holders = m.holders := by
  unfold axisCommand; split <;> simp

@[simp] theorem holders_moveAbsBody (st : Store) : (moveAbsBody d ch st m).holders = m.holders := by simp [moveAbsBody]

@[simp] theorem holders_moveRelBody (st : Store) : (moveRelBody d ch st m).holders = m.holders := by simp [moveRelBody]

@[simp] theorem holders_replaceAbsBody (st : Store) : (replaceAbsBody d ch st m).holders = m.holders := by
  simp [replaceAbsBody]

@[simp] theorem holders_axisStopBody (st : Store) : (axisStopBody d ch st m).holders = m.holders := by
  simp [axisStopBody]

@[simp] theorem holders_setRampsBody (st : Store) : (setRampsBody d ch st m).holders = m.holders := by
  simp [setRampsBody]

@[simp] theorem holders_setPositionBody (st : Store) : (setPositionBody d ch st m).holders = m.holders := by
  simp [setPositionBody]

@[simp] theorem holders_ackFaultBody (st : Store) : (ackFaultBody d ch st m).holders = m.holders := by
  simp [ackFaultBody]

@[simp] theorem holders_admissionRoundBody (st : Store) : (admissionRoundBody l st m).holders = m.holders := by
  simp [admissionRoundBody]

@[simp] theorem holders_admissionGrantBody (st : Store) : (admissionGrantBody d st m).holders = m.holders := by
  unfold admissionGrantBody; split <;> simp

@[simp] theorem holders_admissionFrame (f : InFrame) : (admissionFrame l f m).holders = m.holders := by
  simp [admissionFrame]

@[simp] theorem holders_deferEdge (before after : Nat) : (deferEdge l before after m).holders = m.holders := by
  simp [deferEdge]

end

/-! ### The rings of the host port -/

section
variable (l : LaneId) (code len r : Nat) (m : Module)

@[simp] theorem holders_updHst (f : Hst → Hst) : (updHst l f m).holders = m.holders := by simp [updHst]

@[simp] theorem holders_updRing (f : Ring → Ring) : (updRing l r f m).holders = m.holders := by simp [updRing]

@[simp] theorem holders_ringMsg : (ringMsg l r m).holders = m.holders := by simp [ringMsg]

@[simp] theorem holders_ringWrites (g : Ring) (d : Desc) : (ringWrites g d code len m).holders = m.holders := by
  simp [ringWrites]

@[simp] theorem holders_ringError : (ringError l r code m).holders = m.holders := by simp [ringError]

@[simp] theorem holders_ringEnd : (ringEnd l r code len m).holders = m.holders := by
  simp only [ringEnd]; split <;> simp

@[simp] theorem holders_ringDone (out : Bytes) : (ringDone l r code len out m).holders = m.holders := by
  simp [ringDone]

@[simp] theorem holders_readoutGive : (readoutGive l m).holders = m.holders := by
  simp only [readoutGive]; split <;> simp

@[simp] theorem holders_abortRings : (abortRings l m).holders = m.holders := by simp [abortRings]

@[simp] theorem holders_dropRings : (dropRings l m).holders = m.holders := by simp [dropRings]

@[simp] theorem holders_hostActive : (hostActive l m).holders = m.holders := by simp [hostActive]

@[simp] theorem holders_ringDrop (n : Nat) : (ringDrop l r n m).holders = m.holders := by simp [ringDrop]

end

/-! ### Steering and ports of network time -/

section
variable (l : LaneId) (k port : Nat) (m : Module)

@[simp] theorem holders_updPtp (f : Ptp → Ptp) : (updPtp l f m).holders = m.holders := by simp [updPtp]

@[simp] theorem holders_updSlot (f : PtpSlot → PtpSlot) : (updSlot l k f m).holders = m.holders := by simp [updSlot]

@[simp] theorem holders_slotChanges (was : List SlotState) : (slotChanges l was m).holders = m.holders :=
  holders_of_blank (blank_slotChanges ..)

@[simp] theorem holders_setSlotState (s : SlotState) : (setSlotState l k s m).holders = m.holders := by
  simp [setSlotState]

@[simp] theorem holders_steering (f : Ptp → Ptp) : (steering l f m).holders = m.holders := by simp [steering]

@[simp] theorem holders_stopSlew : (stopSlew l m).holders = m.holders := by simp [stopSlew]

@[simp] theorem holders_slew (delta : Int) : (slew l delta m).holders = m.holders := by simp [slew]

@[simp] theorem holders_stepTime (step : Int) (cause slot : Nat) :
    (stepTime l step cause slot m).holders = m.holders := by simp [stepTime]

@[simp] theorem holders_firstLock : (firstLock l k m).holders = m.holders := by simp [firstLock]

@[simp] theorem holders_switchTo (command : Bool) : (switchTo l k command m).holders = m.holders := by simp [switchTo]

@[simp] theorem holders_holdover : (holdover l m).holders = m.holders := by simp [holdover]

@[simp] theorem holders_steerAfter (was : SlotState) : (steerAfter l k was m).holders = m.holders := by
  simp [steerAfter]

@[simp] theorem holders_slotRestart : (slotRestart l k m).holders = m.holders := by simp [slotRestart]

@[simp] theorem holders_sendFrame (kind : Nat) (fields : List Int) :
    (sendFrame l port kind fields m).holders = m.holders := funext fun _ => rfl

@[simp] theorem holders_discardFrame (fcs : Bool) : (discardFrame l port fcs m).holders = m.holders := by
  simp [discardFrame]

@[simp] theorem holders_setLink (up gig : Bool) : (setLink l port up gig m).holders = m.holders := by simp [setLink]

end

/-! ### CAN ports and records -/

section
variable (l : LaneId) (v : View) (d p port : Nat) (e : CapEntry) (m : Module)

@[simp] theorem holders_updCan (f : CanPort → CanPort) : (m.updCan d p f).holders = m.holders := funext fun _ => rfl

@[simp] theorem holders_raiseCan (bits : Nat) : (raiseCan d bits m).holders = m.holders := by simp [raiseCan]

@[simp] theorem holders_canDrop (n cause : Nat) : (canDrop d p n cause m).holders = m.holders := by simp [canDrop]

@[simp] theorem holders_canCapture : (canCapture d p e m).holders = m.holders := by simp [canCapture]

@[simp] theorem holders_canFilter (isRec : Bool) : (canFilter d p e isRec m).2.holders = m.holders := by
  simp [canFilter]

@[simp] theorem holders_canKeep : (canKeep d p e m).holders = m.holders := by simp [canKeep]

@[simp] theorem holders_canState (s : Nat) : (canState d p s m).holders = m.holders := by simp [canState]

@[simp] theorem holders_canConfine : (canConfine d p m).holders = m.holders := by simp [canConfine]

@[simp] theorem holders_canError (e : CanErr) (seen : Option CanFrame) :
    (canError d p e seen m).holders = m.holders := by
  simp [canError]

@[simp] theorem holders_canFrameReceivedBody (frame : CanFrame) (st : Store) :
    (canFrameReceivedBody d port frame st m).holders = m.holders := by simp [canFrameReceivedBody]

@[simp] theorem holders_canFrameTransmittedBody (mtq : Nat) (st : Store) :
    (canFrameTransmittedBody d port mtq st m).holders = m.holders := by
  simp only [canFrameTransmittedBody]; split <;> simp

@[simp] theorem holders_canFrameErrorBody (err : CanErr) (st : Store) :
    (canFrameErrorBody d port err st m).holders = m.holders := by simp [canFrameErrorBody]

@[simp] theorem holders_busOffRecoveryCompleteBody (st : Store) :
    (busOffRecoveryCompleteBody d port st m).holders = m.holders := by simp [busOffRecoveryCompleteBody]

@[simp] theorem holders_canQueue (claim : Nat) (fs : List TxFrame) :
    (canQueue d p claim fs m).holders = m.holders := by
  simp [canQueue]

@[simp] theorem holders_canRestrict : (canRestrict d p m).holders = m.holders := by simp [canRestrict]

@[simp] theorem holders_canClaim (claim : Nat) : (canClaim d p claim m).holders = m.holders := by simp [canClaim]

@[simp] theorem holders_dominantTimeoutBody (st : Store) : (dominantTimeoutBody d port st m).holders = m.holders := by
  simp [dominantTimeoutBody]

@[simp] theorem holders_canBusIdleBody (st : Store) : (canBusIdleBody d port st m).holders = m.holders := by
  simp [canBusIdleBody]

@[simp] theorem holders_updEng (r : Nat) (f : RecEng → RecEng) : (updEng l r f m).holders = m.holders := by
  simp [updEng]

@[simp] theorem holders_recDiscard (r cause seq : Nat) : (recDiscard l r cause seq m).holders = m.holders := by
  simp [recDiscard]

@[simp] theorem holders_recMessage (s : SubCfg) (epoch : Nat) (msg : Bytes) (lenOk : Nat → Bool) (rxTb : Nat) :
    (recMessage l s epoch msg lenOk rxTb m).holders = m.holders := by simp [recMessage]

@[simp] theorem holders_recSegment (s : SubCfg) : (recSegment l s e m).holders = m.holders := by
  unfold recSegment
  extract_lets at_ r m1 b0 idx tog first last epoch body finish
  have late : m1.holders = m.holders := by simp only [m1]; split <;> simp
  have ends (a : Assembly) (m : Module) : (finish a m).holders = m.holders := by simp only [finish]; split <;> simp
  split <;> simp [ends, late]

@[simp] theorem holders_hostCapture : (hostCapture l e m).holders = m.holders := by
  simp only [hostCapture]
  split
  · simp
  · split <;> simp

@[simp] theorem holders_captureEntryBody (full : Bool) (st : Store) :
    (captureEntryBody l d port full st m).holders = m.holders := by
  simp only [captureEntryBody]
  split
  · rfl
  · simp only [holders_ite]
    split
    · rfl
    · split
      · simp
      · split
        · simp
        · simp only [holders_ite]
          split
          · simp
          · split <;> simp

@[simp] theorem holders_recordAssemblyTimeoutBody (rec : Nat) (st : Store) :
    (recordAssemblyTimeoutBody l rec st m).holders = m.holders := by
  unfold recordAssemblyTimeoutBody; split <;> simp

@[simp] theorem holders_udpRecords (nw : NetworkCfg) (srcIp : Nat) (bs : Bytes) (n off : Nat) (m : Module) :
    (udpRecords l nw srcIp bs n off m).holders = m.holders := by
  induction n generalizing off m with
  | zero => rfl
  | succ n ih =>
    simp only [udpRecords, holders_ite, ih]
    split
    · rfl
    · split
      · split <;> simp
      · simp

@[simp] theorem holders_udpRecordDatagramBody (datagram : UdpDatagram) (st : Store) :
    (udpRecordDatagramBody l port datagram st m).holders = m.holders := by
  simp only [udpRecordDatagramBody]
  split
  · simp
  · split <;> simp

@[simp] theorem holders_latchEntry (bs : Bytes) : (latchEntry l v bs m).holders = m.holders := by simp [latchEntry]

@[simp] theorem holders_canFiltBufReadBody (index : Nat) (st : Store) :
    (canFiltBufReadBody l v index st m).holders = m.holders := by simp [canFiltBufReadBody]

@[simp] theorem holders_canRecErrorsReadBody (st : Store) : (canRecErrorsReadBody l v st m).holders = m.holders := by
  simp [canRecErrorsReadBody]

end

/-! ### The non-volatile store -/

section
variable (l : LaneId) (a type : Nat) (w : Writer) (m : Module) (st : Store)

@[simp] theorem holders_nvmRefuse : (nvmRefuse l a w m).holders = m.holders := holders_of_core (core_nvmRefuse ..)

@[simp] theorem holders_nvmRead (len : Nat) : (nvmRead l a len m).holders = m.holders :=
  holders_of_core (core_nvmRead ..)

@[simp] theorem holders_mergeRead (n : Nat) : (mergeRead l a n m).holders = m.holders :=
  holders_of_core (core_mergeRead ..)

@[simp] theorem holders_mramWrite (bs : Bytes) : (mramWrite w st l a bs m).holders = m.holders :=
  holders_of_core (core_mramWrite ..)

@[simp] theorem holders_seqCheck (b size : Nat) : (seqCheck st l a b size type m).holders = m.holders :=
  holders_of_core (core_seqCheck ..)

@[simp] theorem holders_writeBlock (base : Nat) (body : Bytes) :
    (writeBlock w st l base type body m).holders = m.holders := holders_of_core (core_writeBlock ..)

@[simp] theorem holders_counterIncrement (base tally cells : Nat) :
    (counterIncrement st l base type tally cells m).holders = m.holders := by simp [counterIncrement]

@[simp] theorem holders_shadowAccepted : (shadowAccepted l m).holders = m.holders := by simp [shadowAccepted]

@[simp] theorem holders_shadowRejected (source : Nat) : (shadowRejected l source m).holders = m.holders := by
  simp [shadowRejected]

@[simp] theorem holders_peerShadowWrite (prov image : Bytes) :
    (peerShadowWrite st l prov image m).holders = m.holders := by simp [peerShadowWrite]

@[simp] theorem holders_clearProvenance : (clearProvenance st l m).holders = m.holders :=
  holders_of_core (core_clearProvenance ..)

@[simp] theorem holders_nvmProgramBody (v : View) (value : Word) :
    (nvmProgramBody l v value st m).holders = m.holders := by simp [nvmProgramBody]

@[simp] theorem holders_pageProgramCompleteBody : (pageProgramCompleteBody l st m).holders = m.holders := by
  unfold pageProgramCompleteBody; split <;> simp

@[simp] theorem holders_nvmWinLoReadBody (v : View) : (nvmWinLoReadBody l v st m).holders = m.holders := by
  simp [nvmWinLoReadBody]

end

/-! ### The key store -/

section
variable (l : LaneId) (v : View) (code slot user : Nat) (fault : Bool) (value : Word) (m : Module)

@[simp] theorem holders_setSlot (n : Nat) (s : KeySlot) : (setSlot l n s m).holders = m.holders :=
  holders_of_core (core_setSlot ..)

@[simp] theorem holders_refuseUseAs : (refuseUseAs user l slot code m).holders = m.holders :=
  holders_of_core (core_refuseUseAs ..)

@[simp] theorem holders_useSlotAs (bit : Nat) : (useSlotAs user l slot bit fault m).2.holders = m.holders :=
  holders_of_core (core_useSlotAs ..)

@[simp] theorem holders_refuseUse : (refuseUse l slot code m).holders = m.holders := by simp [refuseUse]

@[simp] theorem holders_useSlot (bit : Nat) : (useSlot l slot bit fault m).2.holders = m.holders := by simp [useSlot]

@[simp] theorem holders_spend (uses : List (Nat × Nat)) : (spend user l uses m).holders = m.holders :=
  holders_of_core (core_spend ..)

@[simp] theorem holders_applySecurity (checked : Bool) (es : List SecEntry) :
    (applySecurity checked l es m).holders = m.holders := holders_of_core (core_applySecurity ..)

@[simp] theorem holders_reapplySecurity : (reapplySecurity l m).holders = m.holders := by simp [reapplySecurity]

@[simp] theorem holders_expireSlots : (expireSlots l m).holders = m.holders := holders_of_core (core_expireSlots ..)

@[simp] theorem holders_keyEnd (state result : Nat) : (keyEnd l state result m).holders = m.holders := by simp [keyEnd]

@[simp] theorem holders_keyRefuse : (keyRefuse l code m).holders = m.holders := by simp [keyRefuse]

@[simp] theorem holders_keyCommand (modeOk : Mode → Bool) {f : Module → Module} (h : ∀ m, (f m).holders = m.holders) :
    (keyCommand l v modeOk f m).holders = m.holders := by simp [keyCommand, h]

@[simp] theorem holders_putKeyBuf (off : Nat) (bs : Bytes) : (putKeyBuf l off bs m).holders = m.holders := by
  simp [putKeyBuf]

@[simp] theorem holders_keyImportBody (st : Store) : (keyImportBody l v value fault st m).holders = m.holders := by
  refine holders_keyCommand _ _ _ _ fun m => ?_
  extract_lets bs e both wrapped use1 peer use2
  have used1 : use1.2.holders = m.holders := by simp [use1]
  have used2 : use2.2.holders = m.holders := by simp only [use2]; split <;> simp
  split
  · simp only [holders_ite]
    split
    · simp
    · split
      · simp
      · split <;> simp [used1]
  · rw [holders_ite]
    split
    · simp
    · split
      · simp
      · extract_lets m1 m2 m3 m4
        have set1 : m1.holders = m.holders := by simp [m1, used2]
        have set2 : m2.holders = m.holders := by simp [m2, set1, ite_self]
        have set3 : m3.holders = m.holders := by simp [m3, set2, set1, ite_self]
        have set4 : m4.holders = m.holders := by simp [m4, set3, ite_self]
        split <;> simp [used2, set4]

@[simp] theorem holders_keyDeriveBody (st : Store) : (keyDeriveBody l v value fault st m).holders = m.holders := by
  refine holders_keyCommand _ _ _ _ fun m => ?_
  dsimp only
  split
  · simp
  · split
    · simp
    · split
      · simp
      · split <;> simp

@[simp] theorem holders_keyEraseBody (st : Store) : (keyEraseBody l v value st m).holders = m.holders := by
  simp [keyEraseBody]

@[simp] theorem holders_keyChallengeBody (st : Store) :
    (keyChallengeBody l v value fault st m).holders = m.holders := by
  refine holders_keyCommand _ _ _ _ fun m => ?_
  dsimp only
  split
  · simp
  · split <;> simp

@[simp] theorem holders_keyMacBody (st : Store) : (keyMacBody l v value fault st m).holders = m.holders := by
  refine holders_keyCommand _ _ _ _ fun m => ?_
  dsimp only
  split
  · simp
  · split <;> simp

@[simp] theorem holders_keyVerifyBody (st : Store) : (keyVerifyBody l v value fault st m).holders = m.holders := by
  refine holders_keyCommand _ _ _ _ fun m => ?_
  dsimp only
  split
  · simp
  · split
    · simp
    · split <;> simp

end

/-! ### Power domains -/

section
variable (l p : LaneId) (die i : Nat) (m : Module)

@[simp] theorem holders_updDom (f : Dom → Dom) : (updDom die i f m).holders = m.holders :=
  holders_of_blank (blank_updDom ..)

@[simp] theorem holders_keepLast (code : Nat) (superseded : Bool) :
    (keepLast l die i code superseded m).holders = m.holders := by simp [keepLast]

@[simp] theorem holders_domRequest (t : DomState) : (domRequest l die i t m).holders = m.holders :=
  holders_of_blank (blank_domRequest ..)

@[simp] theorem holders_domRequests (is : List Nat) (t : DomState) : (domRequests l die is t m).holders = m.holders :=
  holders_of_blank (blank_domRequests ..)

@[simp] theorem holders_domAdvance : (domAdvance die m).holders = m.holders := by
  refine holders_forEach _ (fun i m => ?_) m
  dsimp only
  split <;> simp

@[simp] theorem holders_domArrive : (domArrive die i m).holders = m.holders := by simp [domArrive]

@[simp] theorem holders_domSettle (is : List Nat) : (domSettle die is m).holders = m.holders :=
  holders_of_blank (blank_domSettle ..)

@[simp] theorem holders_peerWake (byte : Nat) : (peerWake p byte m).holders = m.holders := by simp [peerWake]

@[simp] theorem holders_wakeReceiver : (wakeReceiver p m).holders = m.holders :=
  holders_of_blank (blank_wakeReceiver ..)

@[simp] theorem holders_receiverDone : (receiverDone p m).holders = m.holders :=
  holders_of_blank (blank_receiverDone ..)

@[simp] theorem holders_onPeerPath {f : Module → Module} (h : ∀ m, (f m).holders = m.holders) :
    (onPeerPath p f m).holders = m.holders := by simp [onPeerPath, h]

@[simp] theorem holders_domsOff : (domsOff die m).holders = m.holders := holders_of_blank (blank_domsOff ..)

end

/-! ### Solver jobs -/

section
variable (l : LaneId) (v : View) (sd seq : Nat) (e : JobEnd) (r : SlvRun) (m : Module)

@[simp] theorem holders_slvClocks : (slvClocks m).holders = m.holders := holders_of_blank (blank_slvClocks ..)

@[simp] theorem holders_askBanks : (askBanks sd m).holders = m.holders := holders_of_blank (blank_askBanks ..)

@[simp] theorem holders_slvWatch : (slvWatch m).holders = m.holders := holders_of_blank (blank_slvWatch ..)

@[simp] theorem holders_updTpl (req : Nat) (f : TplView → TplView) : (updTpl l req f m).holders = m.holders := by
  simp [updTpl]

@[simp] theorem holders_closeJob : (closeJob l seq m).holders = m.holders := by simp [closeJob]

@[simp] theorem holders_viewEnd (req : Nat) : (viewEnd l req seq e m).holders = m.holders := by simp [viewEnd]

@[simp] theorem holders_sdFree : (sdFree sd m).holders = m.holders := by simp [sdFree]

@[simp] theorem holders_endRun : (endRun sd e m).holders = m.holders := by
  unfold endRun; split <;> simp

@[simp] theorem holders_endQueued (j : SlvJob) : (endQueued sd j e m).holders = m.holders := by simp [endQueued]

@[simp] theorem holders_sampled (abortable : Bool) {f : Module → Module} (h : ∀ m, (f m).holders = m.holders) :
    (sampled sd r abortable f m).holders = m.holders := by
  simp only [sampled]
  split
  · simp
  · split <;> simp [h]

@[simp] theorem holders_updRun (f : SlvRun → SlvRun) : (updRun sd f m).holders = m.holders := funext fun _ => rfl

@[simp] theorem holders_jobDescriptorBody (st : Store) : (jobDescriptorBody l sd st m).holders = m.holders := by
  unfold jobDescriptorBody; split <;> simp

@[simp] theorem holders_giveStart (set : Option WarmSet) : (giveStart sd set m).holders = m.holders := by
  simp only [giveStart]
  split
  · simp
  · split <;> simp

@[simp] theorem holders_takePayload : (takePayload sd m).holders = m.holders := by
  unfold takePayload
  split
  · rfl
  · split
    · rfl
    · extract_lets t m1
      have given : m1.holders = m.holders := by simp [m1]
      split
      · split <;> simp [given]
      · simp [given]

@[simp] theorem holders_startJob (j : SlvJob) : (startJob sd j m).holders = m.holders := by simp [startJob]

@[simp] theorem holders_jobStartBody (st : Store) : (jobStartBody sd st m).holders = m.holders := by
  simp only [jobStartBody]
  split
  · simp
  · split <;> simp

@[simp] theorem holders_payloadReceivedBody (st : Store) : (payloadReceivedBody l sd st m).holders = m.holders := by
  simp only [payloadReceivedBody]
  split
  · simp
  · split <;> simp

@[simp] theorem holders_assembleJob : (assembleJob sd r m).holders = m.holders := by
  simp only [assembleJob]; split <;> simp

@[simp] theorem holders_assemblyEndBody (st : Store) : (assemblyEndBody sd st m).holders = m.holders := by
  unfold assemblyEndBody; split <;> simp

@[simp] theorem holders_settleIter (e : IterEnd) : (settleIter sd r e m).holders = m.holders := by
  unfold settleIter; split <;> simp

@[simp] theorem holders_livePivots : (livePivots r m).holders = m.holders := by simp [livePivots]

@[simp] theorem holders_prepareJob : (prepareJob sd r m).holders = m.holders := by
  simp only [prepareJob]; split <;> simp

@[simp] theorem holders_preparationEndBody (st : Store) : (preparationEndBody sd st m).holders = m.holders := by
  unfold preparationEndBody; split <;> simp

@[simp] theorem holders_iterationBody (st : Store) : (iterationBody sd st m).holders = m.holders := by
  unfold iterationBody; split <;> simp

@[simp] theorem holders_markSuspect (es : List Nat) : (markSuspect sd es m).holders = m.holders := by
  simp [markSuspect]

@[simp] theorem holders_commitRun (status : Nat) (batch : List BatchRec) :
    (commitRun sd r status batch m).holders = m.holders := by simp [commitRun]

@[simp] theorem holders_postProblem (x : Nat × Nat) : (postProblem sd x m).holders = m.holders := by
  simp only [postProblem]
  split
  · rfl
  · split
    · rfl
    · simp only [holders_ite]
      split
      · rfl
      · split <;> simp

@[simp] theorem holders_takeProblem : (takeProblem sd m).holders = m.holders := by
  unfold takeProblem
  extract_lets s
  split
  · extract_lets low p t ps a o fails bits lost old kept first rec' m1 m2 m3 say m4 m5 es m6 m7
    have live : m3.holders = m.holders := by simp only [m3]; split <;> simp [m2, m1]
    have said : m5.holders = m.holders := by simp [m5, m4, say, live]
    simp only [m7]
    split <;> simp [say, m6, said]
  · rfl

@[simp] theorem holders_batchProblemCompleteBody (engines : List (Nat × Nat)) (st : Store) :
    (batchProblemCompleteBody sd engines st m).holders = m.holders := by
  unfold batchProblemCompleteBody; split <;> simp

@[simp] theorem holders_verifyBatch : (verifyBatch sd m).holders = m.holders := by
  have taken (xs : List Nat) (m : Module) : (forEach xs (fun _ => takeProblem sd) m).holders = m.holders :=
    holders_forEach _ (fun _ m => holders_takeProblem sd m) m
  unfold verifyBatch
  extract_lets m1
  split
  · simp [m1, taken]
  · dsimp only
    split <;> simp [m1, taken]

@[simp] theorem holders_verifyJob (faulty : Nat) : (verifyJob sd r faulty m).holders = m.holders := by simp [verifyJob]

@[simp] theorem holders_verificationEndBody (faulty : Nat) (st : Store) :
    (verificationEndBody sd faulty st m).holders = m.holders := by
  unfold verificationEndBody; split <;> simp

@[simp] theorem holders_resultCopyDoneBody (st : Store) : (resultCopyDoneBody l sd st m).holders = m.holders := by
  simp only [resultCopyDoneBody]
  split
  · simp
  · split <;> simp

@[simp] theorem holders_recallJob : (recallJob l seq m).holders = m.holders := funext fun _ => rfl

@[simp] theorem holders_deadlineExpiryBody (tmpl : Nat) (st : Store) :
    (deadlineExpiryBody l tmpl st m).holders = m.holders := by
  simp only [deadlineExpiryBody]
  split
  · simp
  · split <;> simp

@[simp] theorem holders_abortTemplate (src : AbortSrc) (tmpl : Nat) :
    (abortTemplate l src tmpl m).holders = m.holders := by
  unfold abortTemplate
  split
  · simp
  · extract_lets sd s mine running recalled
    rw [holders_ite]
    split
    · simp
    · split <;> simp [recalled]

@[simp] theorem holders_abortAll (src : AbortSrc) : (abortAll l src m).holders = m.holders := by simp [abortAll]

@[simp] theorem holders_slvAbortBody (value : Word) (st : Store) :
    (slvAbortBody l v value st m).holders = m.holders := by
  simp [slvAbortBody]

@[simp] theorem holders_slvAbortAllBody (st : Store) : (slvAbortAllBody l v st m).holders = m.holders := by
  simp [slvAbortAllBody]

@[simp] theorem holders_sdWrite {f : Module → Module} (h : ∀ m, (f m).holders = m.holders) :
    (sdWrite l v sd f m).holders = m.holders := by simp [sdWrite, h]

@[simp] theorem holders_selftestRequestBody (st : Store) : (selftestRequestBody l v st m).holders = m.holders := by
  simp [selftestRequestBody]

@[simp] theorem holders_loseJobs : (loseJobs sd m).holders = m.holders := funext fun _ => rfl

@[simp] theorem holders_testedFree : (testedFree sd m).holders = m.holders := by simp [testedFree]

@[simp] theorem holders_fullSelfTest : (fullSelfTest l sd m).holders = m.holders := by simp [fullSelfTest]

@[simp] theorem holders_unpark : (unpark l m).holders = m.holders := by simp [unpark]

@[simp] theorem holders_retireEngine (e : Nat) : (retireEngine sd e m).holders = m.holders := by simp [retireEngine]

@[simp] theorem holders_selfTestEndBody (engine : Nat) (pass : Bool) (st : Store) :
    (selfTestEndBody sd engine pass st m).holders = m.holders := by simp [selfTestEndBody]

@[simp] theorem holders_stageLate : (stageLate sd m).holders = m.holders := by
  simp only [stageLate]; split <;> simp

@[simp] theorem holders_solverLink (up : Bool) : (solverLink l sd up m).holders = m.holders := by simp [solverLink]

@[simp] theorem holders_solverClaim (claim : Nat) : (solverClaim sd claim m).holders = m.holders := by
  simp only [solverClaim]
  split
  · simp
  · split <;> simp

end

/-! ### What a program works on -/

section
variable (l : LaneId) (t : Nat) (m : Module)

@[simp] theorem holders_updTask (f : Task → Task) : (updTask l t f m).holders = m.holders := by simp [updTask]

@[simp] theorem holders_updPrg (f : Prg → Prg) : (updPrg l f m).holders = m.holders := by simp [updPrg]

@[simp] theorem holders_recordDatagram (n : NetworkCfg) (s : SubCfg) (epoch : Nat) (msg : Bytes) :
    (recordDatagram l n s epoch msg m).holders = m.holders := by
  refine holders_forEach _ (fun p m => ?_) m
  split <;> simp

@[simp] theorem holders_releaseJob (task : Nat) (q : Nat × SlvPayload × Nat) :
    (releaseJob l task q m).holders = m.holders := by
  simp only [releaseJob]
  split
  · rfl
  · simp only [holders_ite]
    split
    · rfl
    · split <;> simp

@[simp] theorem holders_sendCmds (f : Nat → OutCmds) : (sendCmds l f m).holders = m.holders := by simp [sendCmds]

@[simp] theorem holders_sendSafe : (sendSafe l m).holders = m.holders := by simp [sendSafe]

@[simp] theorem holders_blkDoms (t : DomState) : (blkDoms l t m).holders = m.holders := by simp [blkDoms]

@[simp] theorem holders_dropForces (cause : Nat) (gone : Nat → ForceEntry → Bool) :
    (dropForces l cause gone m).holders = m.holders := by simp [dropForces]

@[simp] theorem holders_capturePart : (capturePart l t m).holders = m.holders := by
  refine holders_updLane _ _ fun L => ?_
  split <;> rfl

@[simp] theorem holders_instEnd (area : Bytes) : (instEnd l area m).holders = m.holders := by
  simp only [instEnd]; split <;> simp

@[simp] theorem holders_instPart : (instPart l t m).holders = m.holders := by
  simp only [instPart]; split <;> simp

end

/-! ### Loops -/

section
variable (d k slot : Nat) (m : Module)

@[simp] theorem holders_updLoop (f : LoopSlot → LoopSlot) : (m.updLoop d k f).holders = m.holders :=
  holders_of_hull (hull_updLoop ..)

@[simp] theorem holders_raisePlaus : (raisePlaus d k m).holders = m.holders := holders_of_hull (hull_raisePlaus ..)

@[simp] theorem holders_judgeInput (bad : Bool) : (judgeInput d k bad m).holders = m.holders := by simp [judgeInput]

@[simp] theorem holders_loopSat (f e mo : Bool) : (loopSat d k f e mo m).holders = m.holders := by simp [loopSat]

@[simp] theorem holders_loopEval (x amb : Int) : (loopEval d k x amb m).holders = m.holders := by simp [loopEval]

@[simp] theorem holders_loopReject (rec : Bytes) : (loopReject d k rec m).holders = m.holders :=
  holders_of_hull (hull_loopReject ..)

@[simp] theorem holders_loopAct (rec : Bytes) : (loopAct d k rec m).holders = m.holders :=
  holders_of_hull (hull_loopAct ..)

@[simp] theorem holders_loopTake (ok : Nat → Bool) : (loopTake d k ok m).holders = m.holders := by
  unfold loopTake; split <;> simp

@[simp] theorem holders_loopSampleBody (x amb : Int) (st : Store) :
    (loopSampleBody d slot x amb st m).holders = m.holders := by simp [loopSampleBody]

@[simp] theorem holders_loopPlausBody (st : Store) : (loopPlausBody d slot st m).holders = m.holders := by
  simp [loopPlausBody]

@[simp] theorem holders_loopSetBody (st : Store) : (loopSetBody d slot st m).holders = m.holders := by
  simp [loopSetBody]

@[simp] theorem holders_loopDisableBody (st : Store) : (loopDisableBody d slot st m).holders = m.holders := by
  simp [loopDisableBody]

@[simp] theorem holders_resetPlausBody (st : Store) : (resetPlausBody d slot st m).holders = m.holders := by
  simp [resetPlausBody]

@[simp] theorem holders_lpFlagsWrite (value : Word) : (lpFlagsWrite d k value m).holders = m.holders :=
  holders_of_hull (hull_lpFlagsWrite ..)

end

/-! ### The recorder -/

section
variable (l : LaneId) (v : View) (r : EvRec) (m : Module) (st : Store)

@[simp] theorem holders_mlogLose (n : Nat) : (mlogLose st l n m).holders = m.holders :=
  holders_of_core (core_mlogLose ..)

@[simp] theorem holders_mlogPut (seq : Nat) (bs : Bytes) : (mlogPut st l seq bs m).holders = m.holders :=
  holders_of_core (core_mlogPut ..)

@[simp] theorem holders_mlogWrite : (mlogWrite st l r m).holders = m.holders := holders_of_core (core_mlogWrite ..)

@[simp] theorem holders_ringWrite : (ringWrite st l r m).holders = m.holders := by simp [ringWrite]

@[simp] theorem holders_holdRecord : (holdRecord l r m).holders = m.holders := by simp [holdRecord]

@[simp] theorem holders_eventRecordWrittenBody : (eventRecordWrittenBody l st m).holders = m.holders := by
  simp only [eventRecordWrittenBody]
  split
  · simp
  · split <;> simp

@[simp] theorem holders_eventReportedBody (code source p0 p1 p2 : Nat) :
    (eventReportedBody l code source p0 p1 p2 st m).holders = m.holders := by simp [eventReportedBody]

@[simp] theorem holders_bucketRefillBody (code : Nat) : (bucketRefillBody l code st m).holders = m.holders := by
  simp [bucketRefillBody]

@[simp] theorem holders_evrFreezeSetBody : (evrFreezeSetBody l v st m).holders = m.holders := by
  simp [evrFreezeSetBody]

@[simp] theorem holders_thaw : (thaw l m).holders = m.holders := by
  simp only [thaw]
  split
  · simp
  · split <;> simp

@[simp] theorem holders_evrFreezeClearBody : (evrFreezeClearBody l v st m).holders = m.holders := by
  unfold evrFreezeClearBody; split <;> simp

@[simp] theorem holders_freezeTimeoutBody (bit : Nat) : (freezeTimeoutBody l bit st m).holders = m.holders := by
  have thawed (L : Lane) : (if bit = 0 then { L with evr := { L.evr with freezeHost := none } }
      else { L with evr := { L.evr with freezeFw := none } }).red.holds = L.red.holds := by split <;> rfl
  simp only [freezeTimeoutBody]
  split
  · rfl
  · simp only [holders_ite, holders_report, holders_raise, holders_thaw, holders_updLane _ _ thawed, holders_clockTo,
      ite_self]

@[simp] theorem holders_evrRdDataReadBody : (evrRdDataReadBody l v st m).holders = m.holders := by
  simp [evrRdDataReadBody]

@[simp] theorem holders_recorderStart : (recorderStart st l m).holders = m.holders := by simp [recorderStart]

end

/-! ### Samples -/

section
variable (m : Module)

@[simp] theorem holders_sampleDie (d : Nat) (x : FrameMeas) : (sampleDie d x m).holders = m.holders :=
  holders_of_hull (hull_sampleDie ..)

end

/-! ### Metering -/

section
variable (l : LaneId) (v : View) (d p point : Nat) (m : Module) (st : Store)

@[simp] theorem holders_updMp (f : MeterPoint → MeterPoint) : (m.updMp d p f).holders = m.holders :=
  holders_of_hull (hull_updMp ..)

@[simp] theorem holders_updHp (f : HeatPoint → HeatPoint) : (m.updHp d p f).holders = m.holders :=
  holders_of_hull (hull_updHp ..)

@[simp] theorem holders_addReg (thermal : Bool) (idx inc : Nat) : (addReg d thermal p idx inc m).holders = m.holders :=
  holders_of_hull (hull_addReg ..)

@[simp] theorem holders_judgeHeat : (judgeHeat d p m).holders = m.holders := holders_of_hull (hull_judgeHeat ..)

@[simp] theorem holders_updPulse (k : Nat) (f : PulseOut → PulseOut) : (m.updPulse d point k f).holders = m.holders :=
  holders_of_hull (hull_updPulse ..)

@[simp] theorem holders_judgePulse (k : Nat) : (judgePulse d point k m).holders = m.holders :=
  holders_of_hull (hull_judgePulse ..)

@[simp] theorem holders_judgePulses : (judgePulses d m).holders = m.holders := holders_of_hull (hull_judgePulses ..)

@[simp] theorem holders_blockEnd : (blockEnd d m).holders = m.holders := holders_of_husk (husk_blockEnd ..)

@[simp] theorem holders_meteringBlockEndBody (meas : FrameMeas) :
    (meteringBlockEndBody d meas st m).holders = m.holders := by simp [meteringBlockEndBody]

@[simp] theorem holders_blocksFirst (ds : List Nat) : (blocksFirst ds m).holders = m.holders :=
  holders_of_husk (husk_blocksFirst ..)

@[simp] theorem holders_settlingEndBody (mp : Nat) : (settlingEndBody d mp st m).holders = m.holders := by
  simp [settlingEndBody]

@[simp] theorem holders_flowPulseBody (hp : Nat) (reverse : Bool) :
    (flowPulseBody d hp reverse st m).holders = m.holders := by simp [flowPulseBody]

@[simp] theorem holders_clearMd : (clearMd d p m).holders = m.holders := holders_of_hull (hull_clearMd ..)

@[simp] theorem holders_lateMdResets : (lateMdResets d m).holders = m.holders := holders_of_hull (hull_lateMdResets ..)

@[simp] theorem holders_demandBoundaryBody : (demandBoundaryBody d st m).holders = m.holders := by
  simp [demandBoundaryBody]

@[simp] theorem holders_pulseStartBody (slot : Nat) : (pulseStartBody d point slot st m).holders = m.holders := by
  simp only [pulseStartBody]; split <;> simp

@[simp] theorem holders_pulseEndBody (slot : Nat) : (pulseEndBody d point slot st m).holders = m.holders := by
  simp only [pulseEndBody]; split <;> simp

@[simp] theorem holders_saveStart (kind : Nat) : (saveStart l kind m).holders = m.holders := by simp [saveStart]

@[simp] theorem holders_saveWrite (dst : LaneId) (recs : List (Nat × Bytes)) :
    (saveWrite st dst recs m).holders = m.holders := holders_of_core (core_saveWrite ..)

@[simp] theorem holders_periodicSaveBody : (periodicSaveBody l st m).holders = m.holders := by simp [periodicSaveBody]

@[simp] theorem holders_saveRecordsWrittenBody : (saveRecordsWrittenBody l st m).holders = m.holders := by
  unfold saveRecordsWrittenBody; split <;> simp

@[simp] theorem holders_mtrEnd (state reason : Nat) : (mtrEnd l state reason m).holders = m.holders := by simp [mtrEnd]

@[simp] theorem holders_readoutBody : (readoutBody l v st m).holders = m.holders := by simp [readoutBody]

@[simp] theorem holders_readoutLatchBody : (readoutLatchBody l st m).holders = m.holders := by
  unfold readoutLatchBody
  split
  · rfl
  · split
    · rfl
    · extract_lets m1 m2 slot bs u
      split <;> simp [u, m2, m1]

@[simp] theorem holders_readoutRingTimeoutBody : (readoutRingTimeoutBody l st m).holders = m.holders := by
  simp only [readoutRingTimeoutBody]; split <;> simp

@[simp] theorem holders_mdResetBody : (mdResetBody l v st m).holders = m.holders := by simp [mdResetBody]

@[simp] theorem holders_mtrRegLoReadBody : (mtrRegLoReadBody l v st m).holders = m.holders := by
  simp [mtrRegLoReadBody]

end

/-! ### Modes -/

section
variable (l : LaneId) (v : View) (cause : Nat) (value : Word) (m : Module)

@[simp] theorem holders_updSys (f : Sys → Sys) : (updSys l f m).holders = m.holders := by simp [updSys]

@[simp] theorem holders_updCfg (f : Cfg → Cfg) : (updCfg l f m).holders = m.holders := by simp [updCfg]

@[simp] theorem holders_endInjection : (endInjection l m).holders = m.holders := by simp [endInjection]

@[simp] theorem holders_cancelArm (die : Nat) : (cancelArm l die m).holders = m.holders := by simp [cancelArm]

@[simp] theorem holders_finishExchange : (finishExchange l m).holders = m.holders := by
  simp only [finishExchange]; split <;> simp

@[simp] theorem holders_programBegin (fresh : Bool) : (programBegin l fresh m).holders = m.holders := by
  simp [programBegin]

@[simp] theorem holders_programStart (fresh : Bool) : (programStart l fresh m).holders = m.holders := by
  simp [programStart]

@[simp] theorem holders_commandSafe : (commandSafe l m).holders = m.holders := by simp [commandSafe]

@[simp] theorem holders_programStop : (programStop l m).holders = m.holders := by simp [programStop]

@[simp] theorem holders_programAbort : (programAbort l m).holders = m.holders := by
  unfold programAbort; split <;> simp

@[simp] theorem holders_setMode (dest : Mode) : (setMode l dest cause m).holders = m.holders := by simp [setMode]

@[simp] theorem holders_enterMode (dest : Mode) : (enterMode l dest cause m).holders = m.holders := by simp [enterMode]

@[simp] theorem holders_followForces : (followForces l m).holders = m.holders := by simp [followForces]

@[simp] theorem holders_requestMode (target : Nat) : (requestMode l target cause m).holders = m.holders := by
  simp [requestMode]

@[simp] theorem holders_holdAgain : (holdAgain l cause m).holders = m.holders := by simp [holdAgain]

@[simp] theorem holders_autoHold : (autoHold l cause m).holders = m.holders := by
  simp only [autoHold]; split <;> simp

@[simp] theorem holders_autostart : (autostart l m).holders = m.holders := by simp [autostart]

@[simp] theorem holders_modeRequestBody (st : Store) : (modeRequestBody l v value st m).holders = m.holders := by
  simp [modeRequestBody]

@[simp] theorem holders_writeTest : (writeTest l value m).holders = m.holders := by simp [writeTest]

@[simp] theorem holders_testInjectionStartBody (st : Store) :
    (testInjectionStartBody l v value st m).holders = m.holders := by simp [testInjectionStartBody]

@[simp] theorem holders_testInjectionStopBody (st : Store) :
    (testInjectionStopBody l v value st m).holders = m.holders := by simp [testInjectionStopBody]

end

/-! ### Tasks, publishes and forces -/

section
variable (l : LaneId) (v : View) (d t : Nat) (old : Conf) (c : OutCmds) (m : Module)

@[simp] theorem holders_cycleClockRequestBody (st : Store) : (cycleClockRequestBody l t st m).holders = m.holders := by
  simp [cycleClockRequestBody]

@[simp] theorem holders_beginCycle (b : Nat) : (beginCycle l t b m).holders = m.holders := by simp [beginCycle]

@[simp] theorem holders_taskBoundaryBody (st : Store) : (taskBoundaryBody l t st m).holders = m.holders := by
  simp [taskBoundaryBody]

@[simp] theorem holders_overrunLimitBody (st : Store) : (overrunLimitBody l t st m).holders = m.holders := by
  simp [overrunLimitBody]

@[simp] theorem holders_executionEndBody (result : ExecResult) (st : Store) :
    (executionEndBody l t result st m).holders = m.holders := by simp [executionEndBody]

@[simp] theorem holders_exchDelayed : (exchDelayed l t m).holders = m.holders := by
  simp only [exchDelayed]; split <;> simp

@[simp] theorem holders_switchImages : (switchImages l t old m).holders = m.holders := by simp [switchImages]

@[simp] theorem holders_safeOnceStopped : (safeOnceStopped l m).holders = m.holders := by
  simp only [safeOnceStopped]
  split
  · simp
  · split <;> simp

@[simp] theorem holders_haltTask : (haltTask l t m).holders = m.holders := by simp [haltTask]

@[simp] theorem holders_endOldCycle : (endOldCycle l t old m).holders = m.holders := by simp [endOldCycle]

@[simp] theorem holders_watchdogBody (st : Store) : (watchdogBody l t st m).holders = m.holders := by
  simp [watchdogBody]

@[simp] theorem holders_dropRequests (new : Conf) (qs : List (Nat × SlvPayload × Nat)) :
    (dropRequests l t old new qs m).holders = m.holders := by simp [dropRequests]

@[simp] theorem holders_publishCommands : (publishCommands l t m).holders = m.holders := by
  simp only [publishCommands]; split <;> simp

@[simp] theorem holders_publishParts : (publishParts l t m).holders = m.holders := by simp [publishParts]

@[simp] theorem holders_endCycle (kept : List (Nat × SlvPayload × Nat)) :
    (endCycle l t kept m).holders = m.holders := by
  simp [endCycle]

@[simp] theorem holders_publishCompleteBody (st : Store) : (publishCompleteBody l t st m).holders = m.holders := by
  simp [publishCompleteBody]

@[simp] theorem holders_carryOverEndBody (st : Store) : (carryOverEndBody l st m).holders = m.holders := by
  simp only [carryOverEndBody]; split <;> simp

@[simp] theorem holders_outputCommandsReceivedBody (st : Store) :
    (outputCommandsReceivedBody l d st m).holders = m.holders := by
  unfold outputCommandsReceivedBody; split <;> simp

@[simp] theorem holders_tSafeExpire : (tSafeExpire d m).holders = m.holders := by
  simp only [tSafeExpire, holders_forEach, holders_canRestrict, holders_enterSafe, holders_updFd, implies_true]

@[simp] theorem holders_setComm (on : Bool) : (setComm d on m).holders = m.holders := by simp [setComm]

@[simp] theorem holders_applyAxis (c : Nat) (rec : Bytes) : (applyAxis d c rec m).holders = m.holders := by
  simp [applyAxis]

@[simp] theorem holders_applyLoop (k : Nat) (rec : Bytes) : (applyLoop d k rec m).holders = m.holders := by
  simp [applyLoop]

@[simp] theorem holders_seeStart : (seeStart d c m).holders = m.holders := by simp [seeStart]

@[simp] theorem holders_applyCmds : (applyCmds d c m).holders = m.holders := by simp [applyCmds]

@[simp] theorem holders_applyHeld : (applyHeld d c m).holders = m.holders := by simp [applyHeld]

@[simp] theorem holders_applyDue : (applyDue d m).holders = m.holders := by simp [applyDue]

@[simp] theorem holders_commandApplyBody (st : Store) : (commandApplyBody st m).holders = m.holders := by
  simp only [commandApplyBody]; split <;> simp

@[simp] theorem holders_forceEnd (target code : Nat) : (forceEnd l target code m).holders = m.holders := by
  simp [forceEnd]

@[simp] theorem holders_forceSetBody (st : Store) : (forceSetBody l v st m).holders = m.holders := by
  simp [forceSetBody]

@[simp] theorem holders_forceClearBody (st : Store) : (forceClearBody l v st m).holders = m.holders := by
  simp [forceClearBody]

@[simp] theorem holders_forceClearAllBody (st : Store) : (forceClearAllBody l v st m).holders = m.holders := by
  simp [forceClearAllBody]

end

/-! ### A configuration coming into force -/

section
variable (l : LaneId) (d : Nat) (new : Conf) (old : Option Conf) (m : Module) (st : Store)

@[simp] theorem holders_fieldDoms (c : Conf) : (fieldDoms d c m).holders = m.holders := by simp [fieldDoms]

@[simp] theorem holders_swapAxes (changed : List Nat) : (swapAxes d old new changed m).holders = m.holders :=
  funext fun _ => rfl

@[simp] theorem holders_swapLoops : (swapLoops d old new m).holders = m.holders := by simp [swapLoops]

@[simp] theorem holders_swapMetering : (swapMetering d old new m).holders = m.holders := funext fun _ => rfl

@[simp] theorem holders_swapCan : (swapCan d old new m).holders = m.holders := by simp [swapCan]

@[simp] theorem holders_swapSensors : (swapSensors d new m).holders = m.holders := funext fun _ => rfl

@[simp] theorem holders_loadField (counter : Nat) : (loadField d new counter m).holders = m.holders := by
  simp only [loadField, holders_refreshFd, holders_enterSafe, holders_maskChanged, holders_swapSensors,
    holders_swapCan, holders_swapMetering, holders_swapLoops, holders_fieldDoms, holders_swapAxes, holders_updFd,
    holders_forEach, holders_axisDrop, implies_true, holders_judgePulses]

@[simp] theorem holders_swapField : (swapField d m).holders = m.holders := by
  simp only [swapField]; split <;> simp

@[simp] theorem holders_swapSolver (sd : Nat) : (swapSolver sd m).holders = m.holders := by simp [swapSolver]

@[simp] theorem holders_stageDies (c : Conf) (dies : List Nat) : (stageDies l c dies m).holders = m.holders := by
  simp [stageDies]

@[simp] theorem holders_writeSlotSel : (writeSlotSel st l m).holders = m.holders := by simp [writeSlotSel]

@[simp] theorem holders_writeSeal (w : Writer) : (writeSeal w st l m).holders = m.holders := by simp [writeSeal]

@[simp] theorem holders_imageRegs : (imageRegs l old new m).holders = m.holders := by simp [imageRegs]

@[simp] theorem holders_dropViews : (dropViews l new m).holders = m.holders := by simp [dropViews]

@[simp] theorem holders_dropRecords : (dropRecords l old new m).holders = m.holders := by simp [dropRecords]

@[simp] theorem holders_swapProgram : (swapProgram l old new m).holders = m.holders := by
  have waits (L : Lane) : (if L.red.ckptWait = [] then L else { L with red := { L.red with
      ckpt := none, ckptWait := [], mirrorAt := none, mirrorDone := none, finalCkpt := false } }).red.holds =
      L.red.holds := by split <;> rfl
  simp only [swapProgram, holders_ite, holders_updPrg, holders_updLane _ _ waits, holders_dropForces, holders_forEach,
    holders_dropRequests, implies_true, ite_self]

end

/-! ### The configuration block -/

section
variable (l : LaneId) (v : View) (die : Nat) (new : Conf) (m : Module) (st : Store)

@[simp] theorem holders_cfgRefuse (code : Nat) : (cfgRefuse l code m).holders = m.holders := by simp [cfgRefuse]

@[simp] theorem holders_startCheck : (startCheck st l m).holders = m.holders := by
  simp only [startCheck]
  split
  · simp
  · split <;> simp

@[simp] theorem holders_cfgEnableBody : (cfgEnableBody l v st m).holders = m.holders := by simp [cfgEnableBody]

@[simp] theorem holders_checkPassed (mirrored : Bool) : (checkPassed l mirrored m).holders = m.holders := by
  simp [checkPassed]

@[simp] theorem holders_checkRefused (r : Reason) : (checkRefused l r m).holders = m.holders := by simp [checkRefused]

@[simp] theorem holders_storeComposed (delta : Bool) (shadow : Bytes) (bodies : Bodies) :
    (storeComposed st l delta shadow bodies m).holders = m.holders := holders_of_core (core_storeComposed ..)

@[simp] theorem holders_readSlot (mem : Mem) (slot : Nat) : (readSlot mem l slot m).holders = m.holders :=
  holders_of_core (core_readSlot ..)

@[simp] theorem holders_mirrorCheck : (mirrorCheck l m).holders = m.holders := by simp [mirrorCheck]

@[simp] theorem holders_consistencyCheckEndBody (checkUs : Nat) :
    (consistencyCheckEndBody l checkUs st m).holders = m.holders := by
  unfold consistencyCheckEndBody
  extract_lets L m1 st' shadow r m2 m3 m4 m5
  have read : m3.holders = m.holders := by simp [m3, m2, m1]
  rw [holders_ite, holders_ite]
  split
  · rfl
  · split
    · simp [m1]
    · split <;> simp [m5, m4, read]

@[simp] theorem holders_mirrorShadow : (mirrorShadow st l m).holders = m.holders := by simp [mirrorShadow]

@[simp] theorem holders_standbyDigestReportBody : (standbyDigestReportBody l st m).holders = m.holders := by
  simp [standbyDigestReportBody]

@[simp] theorem holders_mirrorTimeoutBody : (mirrorTimeoutBody l st m).holders = m.holders := by
  simp [mirrorTimeoutBody]

@[simp] theorem holders_arm : (arm l m).holders = m.holders := by
  simp only [arm, holders_ite]
  split
  · simp
  · split
    · simp
    · split <;> simp
    · simp

@[simp] theorem holders_applyArmBody : (applyArmBody l v st m).holders = m.holders := by simp [applyArmBody]

@[simp] theorem holders_abortShadowWrite : (abortShadowWrite l m).holders = m.holders := by simp [abortShadowWrite]

@[simp] theorem holders_abandon : (abandon l m).holders = m.holders := by
  simp only [abandon]; split <;> simp

@[simp] theorem holders_cfgAbandonBody : (cfgAbandonBody l v st m).holders = m.holders := by simp [cfgAbandonBody]

@[simp] theorem holders_writeCfgCtrl (value : Word) : (writeCfgCtrl st l value m).holders = m.holders := by
  simp [writeCfgCtrl]

@[simp] theorem holders_applyAnnounceBody : (applyAnnounceBody l st m).holders = m.holders := by
  simp [applyAnnounceBody]

@[simp] theorem holders_setDieApply (at_ : Option Nat) (ok : Bool) :
    (setDieApply die at_ ok m).holders = m.holders := by
  simp [setDieApply]

@[simp] theorem holders_applyMsgBody : (applyMsgBody die st m).holders = m.holders := by
  unfold applyMsgBody
  split
  · rfl
  · dsimp only
    split
    · rfl
    · rename_i taken
      refine Eq.trans ?_ (holders_takeFromLane taken)
      split <;> simp

@[simp] theorem holders_applyAckDeadlineBody : (applyAckDeadlineBody l st m).holders = m.holders := by
  simp only [applyAckDeadlineBody]
  split
  · simp
  · split <;> simp

@[simp] theorem holders_cancelMsgBody : (cancelMsgBody die st m).holders = m.holders := by
  unfold cancelMsgBody
  split
  · rfl
  · dsimp only
    split
    · rfl
    · rename_i taken
      refine Eq.trans ?_ (holders_takeFromLane taken)
      split <;> simp

@[simp] theorem holders_applyConfirmBody : (applyConfirmBody l st m).holders = m.holders := by
  simp only [applyConfirmBody]
  split
  · simp
  · split <;> simp

@[simp] theorem holders_confirmMsgBody : (confirmMsgBody die st m).holders = m.holders := by
  unfold confirmMsgBody
  split
  · rfl
  · dsimp only
    split
    · rfl
    · rename_i taken
      refine Eq.trans ?_ (holders_takeFromLane taken)
      split
      · rfl
      · split <;> simp

@[simp] theorem holders_bankSwapBody : (bankSwapBody die st m).holders = m.holders := by
  simp only [bankSwapBody]
  split
  · simp
  · split <;> simp

@[simp] theorem holders_keepProgram (old : Option Conf) : (keepProgram l old new m).holders = m.holders := by
  simp [keepProgram]

@[simp] theorem holders_recordChange : (recordChange l new m).holders = m.holders := by simp [recordChange]

@[simp] theorem holders_sealChange (ok : Bool) : (sealChange st l new ok m).holders = m.holders := by simp [sealChange]

@[simp] theorem holders_applyLane : (applyLane st l new m).holders = m.holders := by
  simp only [applyLane]; split <;> simp

@[simp] theorem holders_applyInstantBody : (applyInstantBody l st m).holders = m.holders := by
  simp only [applyInstantBody]; split <;> simp

end

/-! ### Claims on the dies' side -/

section
variable (l : LaneId) (d : Nat) (m : Module) (st : Store)

@[simp] theorem holders_sendHeartbeats : (sendHeartbeats l m).holders = m.holders := by simp [sendHeartbeats]

@[simp] theorem holders_toggleWire : (toggleWire l m).holders = m.holders := by simp [toggleWire]

@[simp] theorem holders_heartbeatTickBody : (heartbeatTickBody l st m).holders = m.holders := by
  simp [heartbeatTickBody]

@[simp] theorem holders_lateSwap (counter : Nat) : (lateSwap l d counter m).holders = m.holders := by
  simp only [lateSwap]; split <;> simp

@[simp] theorem holders_heartbeatReceivedBody : (heartbeatReceivedBody l d st m).holders = m.holders := by
  simp only [heartbeatReceivedBody]; split <;> simp

@[simp] theorem holders_vacate : (vacate d m).holders = m.holders := funext fun _ => rfl

@[simp] theorem holders_vacancyBody : (vacancyBody d st m).holders = m.holders := by simp [vacancyBody]

@[simp] theorem holders_tSafeExpiryBody : (tSafeExpiryBody d st m).holders = m.holders := by simp [tSafeExpiryBody]

@[simp] theorem holders_releaseMsgBody : (releaseMsgBody l d st m).holders = m.holders := by
  simp only [releaseMsgBody]; split <;> simp

@[simp] theorem holders_claimRequestBody : (claimRequestBody l d st m).holders = m.holders := by
  simp only [claimRequestBody]; split <;> simp

@[simp] theorem holders_deliverEvents : (deliverEvents st l d m).holders = m.holders := by simp [deliverEvents]

@[simp] theorem holders_latchField (c : Nat) : (latchField st l d c m).holders = m.holders := by
  simp only [latchField, holders_deliverEvents, holders_forEach, holders_canClaim, holders_updFd, implies_true]

@[simp] theorem holders_claimRaiseBody (die : Nat) : (claimRaiseBody l die st m).holders = m.holders := by
  simp only [claimRaiseBody]; split <;> simp

end

/-! ### The time keeper -/

section
variable (l : LaneId) (v : View) (m : Module) (st : Store)

@[simp] theorem holders_updRtc (f : Rtc → Rtc) : (updRtc l f m).holders = m.holders := by simp [updRtc]

@[simp] theorem holders_rtcEvent (code p0 p1 : Nat) : (rtcEvent l code p0 p1 m).holders = m.holders := by
  simp [rtcEvent]

@[simp] theorem holders_setOsf (cause : Nat) : (setOsf l cause m).holders = m.holders := by simp [setOsf]

@[simp] theorem holders_requestPower (source : Nat) : (requestPower l source m).holders = m.holders := by
  simp [requestPower]

@[simp] theorem holders_releasePower : (releasePower l m).holders = m.holders := by
  unfold releasePower; split <;> simp

@[simp] theorem holders_pwrOnReqTimeoutBody : (pwrOnReqTimeoutBody l st m).holders = m.holders := by
  simp only [pwrOnReqTimeoutBody]; split <;> simp

@[simp] theorem holders_alarm : (alarm l m).holders = m.holders := by simp [alarm]

@[simp] theorem holders_discardTick : (discardTick l m).holders = m.holders := by
  simp only [discardTick]; split <;> simp

@[simp] theorem holders_setCalendar (c : Cal) : (setCalendar l c m).holders = m.holders := by simp [setCalendar]

@[simp] theorem holders_rejectDate (view : Nat) : (rejectDate l view m).holders = m.holders := by simp [rejectDate]

@[simp] theorem holders_peerCalendar : (peerCalendar l m).holders = m.holders := by simp [peerCalendar]

@[simp] theorem holders_rtcSecondTickBody : (rtcSecondTickBody l st m).holders = m.holders := by
  simp [rtcSecondTickBody]

@[simp] theorem holders_rtcRead {f : Module → Module} (h : ∀ m, (f m).holders = m.holders) :
    (rtcRead l v f m).holders = m.holders := by simp [rtcRead, h]

@[simp] theorem holders_rtcWrite {f : Module → Module} (h : ∀ m, (f m).holders = m.holders) :
    (rtcWrite l v f m).holders = m.holders := by simp [rtcWrite, h]

@[simp] theorem holders_rtcSecReadBody : (rtcSecReadBody l v st m).holders = m.holders := by
  refine holders_rtcRead _ _ _ fun m => ?_
  dsimp only
  split <;> simp

@[simp] theorem holders_rtcYearReadBody : (rtcYearReadBody l v st m).holders = m.holders := by simp [rtcYearReadBody]

@[simp] theorem holders_rtcFreezeTimeoutBody : (rtcFreezeTimeoutBody l v st m).holders = m.holders := by
  unfold rtcFreezeTimeoutBody; split <;> simp

@[simp] theorem holders_rtcCommitBody (value : Word) : (rtcCommitBody l v value st m).holders = m.holders := by
  simp [rtcCommitBody]

@[simp] theorem holders_rtcAlarmWriteBody (addr : Nat) (value : Word) :
    (rtcAlarmWriteBody l v addr value st m).holders = m.holders := by simp [rtcAlarmWriteBody]

@[simp] theorem holders_oscillatorStopBody : (oscillatorStopBody l st m).holders = m.holders := by
  simp [oscillatorStopBody]

@[simp] theorem holders_cellMeasureBody (intMv extMv : Nat) :
    (cellMeasureBody l intMv extMv st m).holders = m.holders := by simp [cellMeasureBody]

@[simp] theorem holders_backupSourceLowBody : (backupSourceLowBody l st m).holders = m.holders := by
  simp [backupSourceLowBody]

@[simp] theorem holders_operatingTimeTickBody : (operatingTimeTickBody l st m).holders = m.holders := by
  simp [operatingTimeTickBody]

end

/-! ### Checkpoints -/

section
variable (l : LaneId) (m : Module) (st : Store)

@[simp] theorem holders_storeCkpt (dst : LaneId) (c : Checkpoint) : (storeCkpt st dst c m).holders = m.holders := by
  simp only [storeCkpt, holders_mramWrite, holders_seqCheck]

@[simp] theorem holders_carryRecords (dst : LaneId) (recs : List Bytes) :
    (carryRecords st dst recs m).holders = m.holders := by simp [carryRecords]

@[simp] theorem holders_standbyWatch : (standbyWatch l m).holders = m.holders := by simp [standbyWatch]

@[simp] theorem holders_mirrorFailed (cause : Nat) : (mirrorFailed l cause m).holders = m.holders := by
  simp [mirrorFailed]

@[simp] theorem holders_checkpointInstantBody : (checkpointInstantBody l st m).holders = m.holders := by
  simp [checkpointInstantBody]

@[simp] theorem holders_checkpointReceivedBody : (checkpointReceivedBody l st m).holders = m.holders := by
  simp only [checkpointReceivedBody]; split <;> simp

@[simp] theorem holders_calendarWatch : (calendarWatch l m).holders = m.holders := by simp [calendarWatch]

@[simp] theorem holders_releaseDies (c : Checkpoint) : (releaseDies l c m).holders = m.holders := by simp [releaseDies]

@[simp] theorem holders_checkpointConfirmedBody : (checkpointConfirmedBody l st m).holders = m.holders := by
  simp only [checkpointConfirmedBody]
  split
  · simp only [holders_ite]
    split
    · rfl
    · split
      · simp
      · split <;> simp
  · rfl

end

/-! ### The quorum exchange -/

section
variable (l : LaneId) (e : Exchange) (m : Module) (st : Store)

@[simp] theorem holders_wakeDoms : (wakeDoms l m).holders = m.holders := holders_of_blank (blank_wakeDoms ..)

@[simp] theorem holders_restDoms : (restDoms l m).holders = m.holders := by simp [restDoms]

@[simp] theorem holders_adoptImage (slot : Nat) (image : Option Conf) :
    (adoptImage l slot image m).holders = m.holders := by
  unfold adoptImage; split <;> simp

@[simp] theorem holders_adoptSlot (slot : Nat) : (adoptSlot st l slot m).holders = m.holders := by simp [adoptSlot]

@[simp] theorem holders_dropIntake : (dropIntake l m).holders = m.holders := by simp [dropIntake]

@[simp] theorem holders_sendRaise : (sendRaise l e m).holders = m.holders := by simp [sendRaise]

@[simp] theorem holders_sendRequests (c : Nat) : (sendRequests l c m).holders = m.holders := by simp [sendRequests]

@[simp] theorem holders_exchPhase (why : RaiseWhy) (p : LanePhase) : (exchPhase l why p m).holders = m.holders := by
  simp [exchPhase]

@[simp] theorem holders_claimRequestRepeatBody : (claimRequestRepeatBody l st m).holders = m.holders := by
  simp only [claimRequestRepeatBody]; split <;> simp

@[simp] theorem holders_recordSplit : (recordSplit l e m).holders = m.holders := by simp [recordSplit]

@[simp] theorem holders_inheritTime (dies : List Nat) : (inheritTime l dies m).holders = m.holders := by
  simp [inheritTime]

@[simp] theorem holders_establishSeal : (establishSeal st l m).holders = m.holders := by simp [establishSeal]

@[simp] theorem holders_keepSelector : (keepSelector st l m).holders = m.holders := by simp [keepSelector]

@[simp] theorem holders_takeResults : (takeResults l m).holders = m.holders := by simp [takeResults]

@[simp] theorem holders_takeUpProgram (cause : Nat) : (takeUpProgram st l cause m).holders = m.holders := by
  simp only [takeUpProgram]; split <;> simp

@[simp] theorem holders_raisedStart : (raisedStart st l m).holders = m.holders := by
  simp only [raisedStart]; split <;> simp

@[simp] theorem holders_raisedTakeover : (raisedTakeover st l e m).holders = m.holders := by simp [raisedTakeover]

@[simp] theorem holders_resumeFrom (c : Checkpoint) : (resumeFrom l c m).holders = m.holders := by simp [resumeFrom]

@[simp] theorem holders_raisedRevert : (raisedRevert st l e m).holders = m.holders := by
  simp only [raisedRevert]; split <;> simp

end

/-! ### Starts -/

section
variable (l : LaneId) (m : Module) (st : Store)

@[simp] theorem holders_dropMail (die : Nat) : (dropMail die m).holders = m.holders := funext fun _ => rfl

@[simp] theorem holders_laneKeys : (laneKeys l m).holders = m.holders := holders_of_core (core_laneKeys ..)

@[simp] theorem holders_powerUpDies : (powerUpDies m).holders = m.holders := by
  unfold powerUpDies
  extract_lets fresh m1 m2 linked m3
  have up : m2.holders = m.holders := (holders_forEach _ (fun k n => by simp) m1).trans rfl
  exact (holders_forEach _ (fun k n => by simp) m3).trans up

@[simp] theorem holders_seqChecks : (seqChecks st l m).holders = m.holders := by simp [seqChecks]

@[simp] theorem holders_recordShutdown : (recordShutdown st l m).holders = m.holders := by
  simp only [recordShutdown]; split <;> simp

@[simp] theorem holders_recordForces : (recordForces st l m).holders = m.holders := by
  unfold recordForces; split <;> simp

@[simp] theorem holders_readStore : (readStore st l m).holders = m.holders := by
  simp only [readStore]
  split
  · split <;> simp
  · split <;> simp

@[simp] theorem holders_startTime : (startTime l m).holders = m.holders := by simp [startTime]

@[simp] theorem holders_recordKept : (recordKept l m).holders = m.holders := by simp [recordKept]

@[simp] theorem holders_loadStore : (loadStore st l m).holders = m.holders := by simp [loadStore]

@[simp] theorem holders_electionRead : (electionRead st l m).holders = m.holders := by simp [electionRead]

@[simp] theorem holders_aoSupply : (aoSupply st l m).holders = m.holders := by simp [aoSupply]

@[simp] theorem holders_beginStart : (beginStart m).holders = m.holders := by simp [beginStart]

@[simp] theorem holders_supplyGoodBody (vinMv : Nat) : (supplyGoodBody vinMv st m).holders = m.holders := by
  unfold supplyGoodBody
  split
  · rfl
  · extract_lets m1 m2
    have supplied : m2.holders = m.holders := by
      refine (holders_forEach _ (fun k n => by simp) _).trans ((holders_forEach _ (fun k n => ?_) m1).trans rfl)
      exact holders_aoSupply ..
    simp [supplied]

@[simp] theorem holders_countCycle : (countCycle st l m).holders = m.holders := by simp [countCycle]

@[simp] theorem holders_armHoldup (vHoldMv : Nat) : (armHoldup vHoldMv m).holders = m.holders := by simp [armHoldup]

@[simp] theorem holders_joinStandby (cause : Nat) : (joinStandby l cause m).holders = m.holders := by
  simp [joinStandby]

@[simp] theorem holders_swapAtStart : (swapAtStart l m).holders = m.holders := by
  have swaps (k : Nat) (m : Module) :
      ((if k < 2 then id else if k < 4 then swapSolver (k - 2) else swapField (k - 4)) m : Module).holders =
        m.holders := by split <;> [rfl; split] <;> simp
  simp only [swapAtStart, holders_ite, holders_sendSafe, holders_setMode, holders_blkDoms, holders_updSys,
    holders_updCfg, holders_forEach, swaps, implies_true, ite_self]

@[simp] theorem holders_joinPeer : (joinPeer st l m).holders = m.holders := by simp [joinPeer]

@[simp] theorem holders_startSwapBody : (startSwapBody l st m).holders = m.holders := by simp [startSwapBody]

@[simp] theorem holders_restoreDie (d : Nat) : (restoreDie st l d m).holders = m.holders := by
  simp only [restoreDie]; split <;> simp

@[simp] theorem holders_missingChange : (missingChange st l m).holders = m.holders := by
  unfold missingChange; split <;> simp

@[simp] theorem holders_adoptSaveSeq : (adoptSaveSeq st l m).holders = m.holders := by simp [adoptSaveSeq]

@[simp] theorem holders_restoreReached : (restoreReached st l m).holders = m.holders := by simp [restoreReached]

@[simp] theorem holders_accumulatorRestoreCompleteBody :
    (accumulatorRestoreCompleteBody l st m).holders = m.holders := by
  simp [accumulatorRestoreCompleteBody]

@[simp] theorem holders_startTriggerArmBody : (startTriggerArmBody l st m).holders = m.holders := by
  simp [startTriggerArmBody]

@[simp] theorem holders_rejoin : (rejoin st l m).holders = m.holders := by simp [rejoin]

@[simp] theorem holders_trngHealthFailureBody (test : Nat) :
    (trngHealthFailureBody l test st m).holders = m.holders := by
  simp [trngHealthFailureBody]

end

/-! ### Failover -/

section
variable (l : LaneId) (m : Module) (st : Store)

@[simp] theorem holders_triggerRearmBody : (triggerRearmBody l st m).holders = m.holders := by
  simp only [triggerRearmBody]
  split
  · rfl
  · simp only [holders_ite, holders_updRed, holders_clockTo, implies_true, ite_self]

@[simp] theorem holders_readCheckpoint : (readCheckpoint st l m).holders = m.holders := by
  simp only [readCheckpoint]; split <;> simp

@[simp] theorem holders_switchoverBody (v : View) : (switchoverBody l v st m).holders = m.holders := by
  simp [switchoverBody]

@[simp] theorem holders_abortSwitch (reason : Nat) : (abortSwitch l reason m).holders = m.holders := by
  simp [abortSwitch]

@[simp] theorem holders_switchoverReadyBody : (switchoverReadyBody l st m).holders = m.holders := by
  simp only [switchoverReadyBody]; split <;> simp

@[simp] theorem holders_switchoverReadyTimeoutBody : (switchoverReadyTimeoutBody l st m).holders = m.holders := by
  simp only [switchoverReadyTimeoutBody]; split <;> simp

@[simp] theorem holders_takeLaneBody (v : View) : (takeLaneBody l v st m).holders = m.holders := by simp [takeLaneBody]

@[simp] theorem holders_adoptPeerImage (a : LaneId) : (adoptPeerImage st a l m).holders = m.holders := by
  simp [adoptPeerImage]

@[simp] theorem holders_carryNewer (a : LaneId) : (carryNewer st a l m).holders = m.holders := by simp [carryNewer]

@[simp] theorem holders_resyncCompleteBody : (resyncCompleteBody l st m).holders = m.holders := by
  simp [resyncCompleteBody]

@[simp] theorem holders_cutMail (a b : Nat) : (cutMail a b m).holders = m.holders := funext fun _ => rfl

@[simp] theorem holders_laneLinkChangeBody (link : Nat) (up : Bool) :
    (laneLinkChangeBody link up st m).holders = m.holders := by
  unfold laneLinkChangeBody
  split
  · rfl
  · exact (holders_forEach _ (fun k n => by simp [ite_self]) _).trans rfl

@[simp] theorem holders_loseIsland (n : Nat) : (loseIsland n m).holders = m.holders := by
  have gone : (domsOff (sdId n) ((loseJobs n { m with islands := upd m.islands n fun _ => false }).updSd n
      fun s => { s with powered := false, results := [] })).holders = m.holders := by
    rw [holders_domsOff, holders_updSd, holders_loseJobs]; rfl
  simp only [loseIsland, holders_ite, holders_refreshAll, holders_forEach, holders_updFd, holders_dropMail,
    holders_domsOff, implies_true, gone, ite_self]

end

/-! ### Input frames -/

section
variable (d : Nat) (m : Module)

@[simp] theorem holders_frameChan (c : Nat) (x : Option ChanMeas) : (frameChan d c x m).holders = m.holders :=
  holders_of_hull (hull_frameChan ..)

@[simp] theorem holders_frameDie (x : FrameMeas) : (frameDie d x m).holders = m.holders := funext fun _ => rfl

@[simp] theorem holders_inputFrameTickBody (meas : FrameMeas) (st : Store) :
    (inputFrameTickBody d meas st m).holders = m.holders := by simp [inputFrameTickBody]

end

/-! ### Power -/

section
variable (l : LaneId) (die i : Nat) (peer : Bool) (m : Module)

@[simp] theorem holders_updPwr (f : Pwr → Pwr) : (updPwr l f m).holders = m.holders := by simp [updPwr]

@[simp] theorem holders_lowerWatch : (lowerWatch l m).holders = m.holders := by simp [lowerWatch]

@[simp] theorem holders_holdSupplies (on : Bool) : (holdSupplies l on m).holders = m.holders := by simp [holdSupplies]

@[simp] theorem holders_parkOne : (parkOne l m).holders = m.holders := by simp [parkOne]

@[simp] theorem holders_setStep (new : Nat) : (setStep l new m).holders = m.holders := by simp [setStep]

@[simp] theorem holders_governorTickBody (vinMv iinMa pinDw vHoldMv : Nat) (limit : Bool) (st : Store) :
    (governorTickBody l vinMv iinMa pinDw vHoldMv limit st m).holders = m.holders := by simp [governorTickBody]

@[simp] theorem holders_governorStepDownBody (st : Store) : (governorStepDownBody l st m).holders = m.holders := by
  simp only [governorStepDownBody]; split <;> simp

@[simp] theorem holders_domRefuse (code : Nat) : (domRefuse l die i code m).holders = m.holders := by simp [domRefuse]

@[simp] theorem holders_pwrDomRequestBody (v : View) (value : Word) (st : Store) :
    (pwrDomRequestBody l v value st m).holders = m.holders := by simp [pwrDomRequestBody]

@[simp] theorem holders_retReaction : (retReaction l die i m).holders = m.holders := by simp [retReaction]

@[simp] theorem holders_contentLost : (contentLost l i m).holders = m.holders := by simp [contentLost]

@[simp] theorem holders_domEffect : (domEffect die i m).holders = m.holders := by simp [domEffect]

@[simp] theorem holders_domainTransitionCompleteBody (domain : Nat) (crcOk canaryOk : Bool) (st : Store) :
    (domainTransitionCompleteBody l die domain crcOk canaryOk st m).holders = m.holders := by
  simp [domainTransitionCompleteBody]

@[simp] theorem holders_wakeCommand (byte : Nat) {f : Module → Module} (h : ∀ m, (f m).holders = m.holders) :
    (wakeCommand l byte peer f m).holders = m.holders := by simp [wakeCommand, h]

@[simp] theorem holders_rxPathOnBody (st : Store) : (rxPathOnBody l peer st m).holders = m.holders := by
  simp [rxPathOnBody]

@[simp] theorem holders_rxPathOffBody (st : Store) : (rxPathOffBody l peer st m).holders = m.holders := by
  simp [rxPathOffBody]

@[simp] theorem holders_laneUpBody (st : Store) : (laneUpBody l peer st m).holders = m.holders := by simp [laneUpBody]

@[simp] theorem holders_laneDownBody (st : Store) : (laneDownBody l peer st m).holders = m.holders := by
  simp [laneDownBody]

@[simp] theorem holders_wakeStatusReadBody (st : Store) : (wakeStatusReadBody l st m).holders = m.holders := by
  simp [wakeStatusReadBody]

@[simp] theorem holders_wakeBusTimeoutBody (st : Store) : (wakeBusTimeoutBody l st m).holders = m.holders :=
  funext fun _ => rfl

end

/-! ### Network time -/

section
variable (l : LaneId) (v : View) (k kind port : Nat) (ip : BitVec 32) (msg : PtpMsg) (m : Module) (st : Store)

@[simp] theorem holders_stampPort (t : Int) : (stampPort l port t m).holders = m.holders := by simp [stampPort]

@[simp] theorem holders_fitLine (ss : List (Int × Int)) (limit : Nat) :
    (fitLine ss limit m).2.holders = m.holders := by
  simp only [fitLine]; split <;> simp

@[simp] theorem holders_addSample (t1 t2 corr : Int) : (addSample l k port t1 t2 corr m).holders = m.holders := by
  simp [addSample]

@[simp] theorem holders_decidePorts : (decidePorts l k m).holders = m.holders := by simp [decidePorts]

@[simp] theorem holders_ptpSyncBody : (ptpSyncBody l port msg st m).holders = m.holders := by
  simp only [ptpSyncBody]; split <;> simp

@[simp] theorem holders_ptpFollowUpBody : (ptpFollowUpBody l port msg st m).holders = m.holders := by
  simp only [ptpFollowUpBody]
  split
  · simp
  · split <;> simp

@[simp] theorem holders_utcFollow (off : Option Nat) : (utcFollow st l k off m).holders = m.holders := by
  unfold utcFollow; split <;> simp

@[simp] theorem holders_ptpAnnounceBody : (ptpAnnounceBody l port msg st m).holders = m.holders := by
  unfold ptpAnnounceBody
  split
  · rfl
  · split
    · rfl
    · extract_lets old heard f m1 m2
      have decided : m2.holders = m.holders := by simp [m2, m1]
      split <;> simp [decided]

@[simp] theorem holders_sendPtp (c : DomCfg) (seq : Nat) (times : List Int) :
    (sendPtp l port kind c seq times m).holders = m.holders := funext fun _ => rfl

@[simp] theorem holders_setPath (d : Int) : (setPath l k port d m).holders = m.holders := by simp [setPath]

@[simp] theorem holders_ptpDelayMessageBody : (ptpDelayMessageBody l port msg st m).holders = m.holders := by
  unfold ptpDelayMessageBody
  extract_lets rx m1 L i carried t3
  have stamped : m1.holders = m.holders := by simp [m1]
  split
  · exact stamped
  · simp only [holders_ite]
    split
    · simp [stamped]
    · split
      · exact stamped
      · split
        · split <;> simp [stamped]
        · simp only [holders_ite]
          split
          · exact stamped
          · split
            · simp [stamped]
            · split <;> simp [stamped]

@[simp] theorem holders_ptpDelayReqReceivedBody : (ptpDelayReqReceivedBody l port msg st m).holders = m.holders := by
  simp only [ptpDelayReqReceivedBody]; split <;> simp

@[simp] theorem holders_ptpManagementGetBody : (ptpManagementGetBody l port msg st m).holders = m.holders := by
  unfold ptpManagementGetBody; split <;> simp

@[simp] theorem holders_ptpMessageIntervalBody (slot : Nat) :
    (ptpMessageIntervalBody l port slot kind st m).holders = m.holders := by simp [ptpMessageIntervalBody]

@[simp] theorem holders_listenIfMaster : (listenIfMaster l k m).holders = m.holders := by simp [listenIfMaster]

@[simp] theorem holders_slotLostBody (slot : Nat) : (slotLostBody l slot st m).holders = m.holders := by
  simp only [slotLostBody]
  split
  · simp
  · split <;> simp

@[simp] theorem holders_slewEndBody : (slewEndBody l st m).holders = m.holders := by simp [slewEndBody]

@[simp] theorem holders_timeEnd (state reason : Nat) : (timeEnd l state reason m).holders = m.holders := by
  simp [timeEnd]

@[simp] theorem holders_ptpSwitchBody : (ptpSwitchBody l v st m).holders = m.holders := by simp [ptpSwitchBody]

@[simp] theorem holders_setRtcBody : (setRtcBody l v st m).holders = m.holders := by simp [setRtcBody]

@[simp] theorem holders_setRtcCommitBody : (setRtcCommitBody l st m).holders = m.holders := by
  simp only [setRtcCommitBody]; split <;> simp

@[simp] theorem holders_linkChangeBody (up gig : Bool) : (linkChangeBody l port up gig st m).holders = m.holders := by
  simp [linkChangeBody]

@[simp] theorem holders_answerFrame : (answerFrame l port ip kind m).holders = m.holders := by simp [answerFrame]

@[simp] theorem holders_arpRequestBody : (arpRequestBody l port ip st m).holders = m.holders := by
  simp [arpRequestBody]

@[simp] theorem holders_icmpEchoRequestBody : (icmpEchoRequestBody l port ip st m).holders = m.holders := by
  simp [icmpEchoRequestBody]

@[simp] theorem holders_foreignFrameBody (fcsBad : Bool) :
    (foreignFrameBody l port fcsBad st m).holders = m.holders := by
  simp [foreignFrameBody]

@[simp] theorem holders_ptpPortErrorsReadBody : (ptpPortErrorsReadBody l v st m).holders = m.holders := by
  simp [ptpPortErrorsReadBody]

@[simp] theorem holders_ptpTimeNsReadBody : (ptpTimeNsReadBody l v st m).holders = m.holders := by
  simp [ptpTimeNsReadBody]

end

/-! ### The host port -/

section
variable (l : LaneId) (v : View) (r ring : Nat) (desc : HostDesc) (value : Word) (m : Module) (st : Store)

@[simp] theorem holders_doorbellBody : (doorbellBody l ring value st m).holders = m.holders := by simp [doorbellBody]

@[simp] theorem holders_startDesc (op : Nat) (others : List Nat) (d : HostDesc) {f : Module → Module} (h : ∀ m,
    (f m).holders = m.holders) :
    (startDesc l r op others d f m).holders = m.holders := by simp [startDesc, h]

@[simp] theorem holders_sendOut (bs : Bytes) : (sendOut l r bs m).holders = m.holders := by simp [sendOut]

@[simp] theorem holders_shadowWriteBody : (shadowWriteBody l desc st m).holders = m.holders := by
  simp [shadowWriteBody]

@[simp] theorem holders_activeReadBody : (activeReadBody l desc st m).holders = m.holders := by simp [activeReadBody]

@[simp] theorem holders_ringReadBody : (ringReadBody l desc st m).holders = m.holders := by simp [ringReadBody]

@[simp] theorem holders_mlogReadBody : (mlogReadBody l desc st m).holders = m.holders := by simp [mlogReadBody]

@[simp] theorem holders_warmInBody : (warmInBody l desc st m).holders = m.holders := by
  refine holders_startDesc _ _ _ _ _ _ fun m => ?_
  dsimp only
  split
  · simp
  · split <;> simp

@[simp] theorem holders_resultOutBody : (resultOutBody l desc st m).holders = m.holders := by
  refine holders_startDesc _ _ _ _ _ _ fun m => ?_
  dsimp only
  split
  · simp
  · split <;> simp

@[simp] theorem holders_readoutDescriptorBody : (readoutDescriptorBody l desc st m).holders = m.holders := by
  simp [readoutDescriptorBody]

@[simp] theorem holders_tableOutBody : (tableOutBody l desc st m).holders = m.holders := by simp [tableOutBody]

@[simp] theorem holders_instanceReadBody : (instanceReadBody l desc st m).holders = m.holders := by
  simp [instanceReadBody]

@[simp] theorem holders_captureBody : (captureBody l desc st m).holders = m.holders := by simp [captureBody]

@[simp] theorem holders_captureBufferTimeoutBody : (captureBufferTimeoutBody l st m).holders = m.holders := by
  simp only [captureBufferTimeoutBody]; split <;> simp

@[simp] theorem holders_telemetryBody : (telemetryBody l desc st m).holders = m.holders := by simp [telemetryBody]

@[simp] theorem holders_telemetryTickBody : (telemetryTickBody l st m).holders = m.holders := by
  simp [telemetryTickBody]

@[simp] theorem holders_toFirmwareBody : (toFirmwareBody l desc st m).holders = m.holders := by simp [toFirmwareBody]

@[simp] theorem holders_fromFirmwareBody : (fromFirmwareBody l desc st m).holders = m.holders := by
  simp [fromFirmwareBody]

@[simp] theorem holders_doneEffect (op code : Nat) : (doneEffect l r op code m).holders = m.holders := by
  simp only [doneEffect]
  split
  · split <;> simp
  · simp

@[simp] theorem holders_descriptorCompleteBody : (descriptorCompleteBody l ring st m).holders = m.holders := by
  simp only [descriptorCompleteBody]; split <;> simp

@[simp] theorem holders_pcieCompletionTimeoutBody : (pcieCompletionTimeoutBody l ring st m).holders = m.holders := by
  simp only [pcieCompletionTimeoutBody]
  split
  · simp
  · split <;> simp

@[simp] theorem holders_msixHoldoffEndBody : (msixHoldoffEndBody l ring st m).holders = m.holders := by
  simp only [msixHoldoffEndBody]; split <;> simp

@[simp] theorem holders_ringRun : (ringRun l r value m).holders = m.holders := by simp [ringRun]

@[simp] theorem holders_endWaiting : (endWaiting l r m).holders = m.holders := by simp [endWaiting]

@[simp] theorem holders_ringStop : (ringStop l r value m).holders = m.holders := by simp [ringStop]

@[simp] theorem holders_ringRunBody : (ringRunBody l v value st m).holders = m.holders := by simp [ringRunBody]

@[simp] theorem holders_ringStopBody : (ringStopBody l v value st m).holders = m.holders := by simp [ringStopBody]

@[simp] theorem holders_ringSize : (ringSize l r value m).holders = m.holders := by simp [ringSize]

@[simp] theorem holders_hstRingSizeWriteBody : (hstRingSizeWriteBody l v value st m).holders = m.holders := by
  simp [hstRingSizeWriteBody]

@[simp] theorem holders_flrReset (running : Nat) : (flrReset l running m).holders = m.holders := by simp [flrReset]

@[simp] theorem holders_functionLevelResetBody : (functionLevelResetBody l st m).holders = m.holders := by
  simp [functionLevelResetBody]

@[simp] theorem holders_linkDown : (linkDown l m).holders = m.holders := by simp [linkDown]

@[simp] theorem holders_pcieLinkDownBody : (pcieLinkDownBody l st m).holders = m.holders := by simp [pcieLinkDownBody]

@[simp] theorem holders_perstAssertBody : (perstAssertBody l st m).holders = m.holders := by simp [perstAssertBody]

@[simp] theorem holders_pcieLinkUpBody (speed width : Nat) :
    (pcieLinkUpBody l speed width st m).holders = m.holders := by
  simp [pcieLinkUpBody]

@[simp] theorem holders_releaseMsi : (releaseMsi l m).holders = m.holders := by simp [releaseMsi]

@[simp] theorem holders_pcieConfigWriteBody (bme msix fmask : Bool) :
    (pcieConfigWriteBody l bme msix fmask st m).holders = m.holders := by simp [pcieConfigWriteBody]

@[simp] theorem holders_msixVectorUnmaskBody (vec : Nat) : (msixVectorUnmaskBody l vec st m).holders = m.holders := by
  simp [msixVectorUnmaskBody]

end

/-! ### Register writes -/

section
variable (l : LaneId) (v : View) (off : Nat) (value : Word) (m : Module) (st : Store)

@[simp] theorem holders_irqWrite (block : Nat) : (irqWrite l block off value m).holders = m.holders := by
  simp only [irqWrite]
  split
  · rfl
  · simp [holds_setIrq, holds_setIrqEn]

@[simp] theorem holders_autostartWrite (n : Nat) : (autostartWrite st l n m).holders = m.holders := by
  simp [autostartWrite]

@[simp] theorem holders_cfgRegWrite : (cfgRegWrite st l off value m).holders = m.holders := by
  unfold cfgRegWrite; split <;> simp

@[simp] theorem holders_pwrRegWrite : (pwrRegWrite st l v off value m).holders = m.holders := by
  unfold pwrRegWrite; split <;> simp

@[simp] theorem holders_clkRegWrite : (clkRegWrite l off value m).holders = m.holders := by
  unfold clkRegWrite; split <;> simp

@[simp] theorem holders_slvRegWrite : (slvRegWrite st l v off value m).holders = m.holders := by
  simp only [slvRegWrite]
  split
  · simp
  · split <;> simp

@[simp] theorem holders_prgRegWrite : (prgRegWrite st l v off value m).holders = m.holders := by
  simp only [prgRegWrite]
  split
  case h_6 => split <;> simp
  all_goals simp

@[simp] theorem holders_redRegWrite : (redRegWrite st l v off value m).holders = m.holders := by simp [redRegWrite]

@[simp] theorem holders_ptpRegWrite : (ptpRegWrite st l v off value m).holders = m.holders := by
  unfold ptpRegWrite; split <;> simp

@[simp] theorem holders_nvmRegWrite : (nvmRegWrite st l v off value m).holders = m.holders := by
  simp only [nvmRegWrite]; split <;> simp

@[simp] theorem holders_evrRegWrite : (evrRegWrite st l v off value m).holders = m.holders := by
  unfold evrRegWrite; split <;> simp

@[simp] theorem holders_rtcRegWrite : (rtcRegWrite st l v off value m).holders = m.holders := by
  simp only [rtcRegWrite]
  split
  · simp
  · split <;> simp

@[simp] theorem holders_keyRegWrite : (keyRegWrite st l v off value m).holders = m.holders := by
  simp only [keyRegWrite]
  split
  · simp
  · split <;> simp
  · simp

@[simp] theorem holders_hstRegWrite : (hstRegWrite l v off value m).holders = m.holders := by
  unfold hstRegWrite; split <;> simp

@[simp] theorem holders_partialWrite : (partialWrite l v m).holders = m.holders := by
  unfold partialWrite; split <;> simp

@[simp] theorem holders_sysAccessErrReadBody : (sysAccessErrReadBody l v st m).holders = m.holders := by
  simp [sysAccessErrReadBody]

@[simp] theorem holders_slvCollectMaxReadBody : (slvCollectMaxReadBody l v st m).holders = m.holders := by
  simp [slvCollectMaxReadBody]

@[simp] theorem holders_prgTaskMaxReadBody : (prgTaskMaxReadBody l v st m).holders = m.holders := by
  simp [prgTaskMaxReadBody]

@[simp] theorem holders_motAdmitPeakReadBody : (motAdmitPeakReadBody l v st m).holders = m.holders := by
  simp [motAdmitPeakReadBody]

@[simp] theorem holders_motWaitMaxReadBody : (motWaitMaxReadBody l v st m).holders = m.holders := by
  simp [motWaitMaxReadBody]

@[simp] theorem holders_pwrGovReadBody : (pwrGovReadBody l v st m).holders = m.holders := by simp [pwrGovReadBody]

end

/-! ### The supply -/

section
variable (l : LaneId) (m : Module)

@[simp] theorem holders_brokenGroup (g : Nat) : (brokenGroup l g m).holders = m.holders := by simp [brokenGroup]

@[simp] theorem holders_tornProgram (p : PageProg) (done outcome : Nat) :
    (tornProgram l p done outcome m).holders = m.holders := by
  simp only [tornProgram]; split <;> simp

@[simp] theorem holders_takeBack (f : Transfer) (gs : List Nat) : (takeBack l f gs m).holders = m.holders := by
  simp [takeBack]

@[simp] theorem holders_tornTransfers (done outcome : Nat) : (tornTransfers l done outcome m).holders = m.holders := by
  simp only [tornTransfers]
  split
  · simp
  · split <;> simp

@[simp] theorem holders_tornLane (torn : List (Nat × Nat × Nat)) : (tornLane torn l m).holders = m.holders := by
  simp only [tornLane]; split <;> simp

@[simp] theorem holders_dropWork : (dropWork l m).holders = m.holders := by simp [dropWork]

@[simp] theorem holders_failLane : (failLane l m).holders = m.holders := by simp [failLane]

@[simp] theorem holders_shed : (shed m).holders = m.holders := by simp [shed]

@[simp] theorem holders_supplyFailureBody (vinMv : Nat) (torn : List (Nat × Nat × Nat)) (st : Store) :
    (supplyFailureBody vinMv torn st m).holders = m.holders := by
  unfold supplyFailureBody
  split
  · rfl
  · refine (holders_shed _).trans ((holders_forEach _ (fun k n => ?_) _).trans rfl)
    rw [holders_failLane]
    split <;> simp

@[simp] theorem holders_finalSaveMsgBody (d : Nat) (meas : FrameMeas) (st : Store) :
    (finalSaveMsgBody l d meas st m).holders = m.holders := by
  unfold finalSaveMsgBody; split <;> simp

@[simp] theorem holders_vHoldLockoutBody (vHoldMv : Nat) (st : Store) :
    (vHoldLockoutBody vHoldMv st m).holders = m.holders := by simp [vHoldLockoutBody]

end

end Sys2Proof.Machine
end

section
/-! The operations that can end a claim, and those that only call such ones: none of them begins one. -/

namespace Sys2Proof.Machine

/-! ### Operations that can end a claim

Each rule bounds the holders after an operation by any bound of the holders before it, so that `simp` chains the rules
from the last operation back to the first. -/

section
variable {m : Module} {n : LaneId → Bool}

@[simp] theorem updLane_holders_le {l : LaneId} {f : Lane → Lane} (h : ∀ L, (f L).red.holds ≤ L.red.holds)
    (le : m.holders ≤ n) : (m.updLane l f).holders ≤ n := by
  refine le_trans (fun k => ?_) le
  cases l <;> cases k <;> simp [Module.holders, Module.updLane, Module.lane, h]

@[simp] theorem ite_holders_le {c : Prop} [Decidable c] {x y : LaneId → Bool} :
    (if c then x else y) ≤ n ↔ (c → x ≤ n) ∧ (¬ c → y ≤ n) := by
  split <;> simp [*]

@[simp] theorem forEach_holders_le {α : Type} {xs : List α} {f : α → Module → Module}
    (h : ∀ x m, (f x m).holders ≤ m.holders) (le : m.holders ≤ n) : (forEach xs f m).holders ≤ n := by
  induction xs generalizing m with
  | nil => exact le
  | cons x xs ih => exact ih ((h x m).trans le)

end

section
variable {m : Module} {n : LaneId → Bool} (l k : LaneId) (v : View) (st : Store) (le : m.holders ≤ n)
include le

@[simp] theorem leaveActive_holders_le (cause : Nat) : (leaveActive l cause m).holders ≤ n := by
  simp [leaveActive, le]

@[simp] theorem demote_holders_le (claim die : Nat) : (demote l claim die m).holders ≤ n := by
  simp [demote, le]

@[simp] theorem claimSeen_holders_le (d claim : Nat) : (claimSeen l d claim m).holders ≤ n := by
  unfold claimSeen
  split <;> simp [le]

@[simp] theorem exchangeFails_holders_le (why : RaiseWhy) (result : Nat) :
    (exchangeFails l why result m).holders ≤ n := by
  unfold exchangeFails
  cases why <;> simp [le]

@[simp] theorem openExchange_holders_le (why : RaiseWhy) : (openExchange st l why m).holders ≤ n := by
  unfold openExchange
  simp [le]

@[simp] theorem decideRaise_holders_le (e : Exchange) : (decideRaise st l e m).holders ≤ n := by
  unfold decideRaise
  simp [le]

@[simp] theorem claimReplyBody_holders_le (d : Nat) : (claimReplyBody l d st m).holders ≤ n := by
  unfold claimReplyBody
  dsimp only
  split
  · exact le
  · split <;> simp [le]

@[simp] theorem quorumWindowExpiryBody_holders_le : (quorumWindowExpiryBody l st m).holders ≤ n := by
  unfold quorumWindowExpiryBody
  dsimp only
  split <;> simp [le]

@[simp] theorem resetLane_holders_le (phase : LanePhase) (keep : Bool) : (resetLane l phase keep m).holders ≤ n := by
  simp [resetLane, le]

@[simp] theorem haltLane_holders_le (cause : Nat) : (haltLane l cause m).holders ≤ n := by
  simp [haltLane, le]

@[simp] theorem bootLane_holders_le : (bootLane l m).holders ≤ n := by
  simp [bootLane, le]

@[simp] theorem startLane_holders_le : (startLane st l m).holders ≤ n := by
  simp [startLane, le]

@[simp] theorem elect_holders_le : (elect st m).holders ≤ n := by
  unfold elect
  extract_lets m1 reach m2 a b k m3 m4 s m5 m6
  have read : m2.holders ≤ n := by
    have peers (m : Module) : (onPeerPath .B (electionRead st .B) m).holders = m.holders := by simp
    simp [m2, m1, peers, le]
  have elected : m4.holders ≤ n := by simp [m4, m3, read]
  simp [m6, m5, elected]

@[simp] theorem startFresh_holders_le (fresh : List LaneId) : (startFresh st fresh m).holders ≤ n := by
  unfold startFresh
  extract_lets m1 m2 m3 st
  have booted : m3.holders ≤ n :=
    forEach_holders_le (fun k m => by simp) (by simpa [m2] using forEach_holders_le (fun k m => by simp) le)
  simp [booted]

@[simp] theorem holdupOkSetBody_holders_le (vHoldMv : Nat) : (holdupOkSetBody vHoldMv st m).holders ≤ n := by
  simp [holdupOkSetBody, le]

@[simp] theorem lockstepMismatchBody_holders_le (cause : Nat) : (lockstepMismatchBody l cause st m).holders ≤ n := by
  simp [lockstepMismatchBody, le]

@[simp] theorem restartBoot_holders_le : (restartBoot l m).holders ≤ n := by
  simp [restartBoot, le]

@[simp] theorem laneRestartBody_holders_le : (laneRestartBody l st m).holders ≤ n := by
  simp [laneRestartBody, le]

@[simp] theorem declareLoss_holders_le (trigger : Nat) : (declareLoss st l trigger m).holders ≤ n := by
  simp [declareLoss, le]

@[simp] theorem laneWireLossBody_holders_le : (laneWireLossBody l st m).holders ≤ n := by
  simp [laneWireLossBody, le]

@[simp] theorem vacancyPatternWakeBody_holders_le : (vacancyPatternWakeBody l st m).holders ≤ n := by
  simp [vacancyPatternWakeBody, le]

@[simp] theorem takeoverLoadCompleteBody_holders_le : (takeoverLoadCompleteBody l st m).holders ≤ n := by
  unfold takeoverLoadCompleteBody
  dsimp only
  split <;> simp [le]

@[simp] theorem selfFenceBody_holders_le : (selfFenceBody l st m).holders ≤ n := by
  simp [selfFenceBody, le]

@[simp] theorem inputFrameReceivedBody_holders_le (d : Nat) : (inputFrameReceivedBody l d st m).holders ≤ n := by
  unfold inputFrameReceivedBody
  extract_lets pick
  split
  · exact le
  · extract_lets m1 L fresh m2 m3
    have taken : m1.holders ≤ n := le
    have kept : m3.holders ≤ n := by simp [m3, m2, taken]
    rw [holders_ite, ite_holders_le]
    refine ⟨fun _ => taken, fun _ => ?_⟩
    rw [holders_ite, ite_holders_le]
    refine ⟨fun _ => by simp [taken], fun _ => ?_⟩
    split
    · exact kept
    · simp [kept]

@[simp] theorem switchoverRevertTimeoutBody_holders_le : (switchoverRevertTimeoutBody l st m).holders ≤ n := by
  unfold switchoverRevertTimeoutBody
  dsimp only
  split <;> simp [le]

@[simp] theorem fieldLinkChangeBody_holders_le (d : Nat) (up : Bool) :
    (fieldLinkChangeBody l d up st m).holders ≤ n := by
  simp [fieldLinkChangeBody, le]

@[simp] theorem solverLinkChangeBody_holders_le (sd : Nat) (up : Bool) :
    (solverLinkChangeBody l sd up st m).holders ≤ n := by
  simp [solverLinkChangeBody, le]

@[simp] theorem loseLane_holders_le : (loseLane l m).holders ≤ n := by
  unfold loseLane
  split
  · exact le
  · exact updLane_holders_le (fun L => Bool.false_le _) (by simp [le])

@[simp] theorem islandFailureBody_holders_le (controlOnly : Bool) :
    (islandFailureBody l controlOnly st m).holders ≤ n := by
  simp [islandFailureBody, le]

@[simp] theorem clockFailBody_holders_le (die ppm : Nat) : (clockFailBody die ppm st m).holders ≤ n := by
  unfold clockFailBody
  extract_lets on k m1 m2 m3
  have told : m2.holders ≤ n := by simp [m2, m1, le]
  have jammed : m3.holders ≤ n := by simp [m3, told]
  simp only [holders_ite, ite_holders_le]
  exact ⟨fun _ => le, fun _ => ⟨fun _ => by simp [told], fun _ => ⟨fun _ => by simp [told],
    fun _ => by simp [jammed]⟩⟩⟩

@[simp] theorem endShutdown_holders_le : (endShutdown l m).holders ≤ n := by
  simp [endShutdown, le]

@[simp] theorem finalSaveCompleteBody_holders_le : (finalSaveCompleteBody l st m).holders ≤ n := by
  unfold finalSaveCompleteBody
  split <;> simp [le]

@[simp] theorem regulatorsStop_holders_le : (regulatorsStop m).holders ≤ n := by
  simp only [regulatorsStop, holders_refreshAll]
  refine forEach_holders_le (fun k m => by simp) ?_
  simp [le]

@[simp] theorem switchToBackupBody_holders_le (extMv : Nat) : (switchToBackupBody l extMv st m).holders ≤ n := by
  simp [switchToBackupBody, le]

/-! ### Register accesses that can end a claim -/

variable {f : Module → Module} (h : ∀ m, (f m).holders ≤ m.holders)

include h in
theorem guardWrite_holders_le : (guardWrite l v f m).holders ≤ n := by
  unfold guardWrite
  split
  · exact (h m).trans le
  · simp [le]

include h in
theorem wakeCommand_holders_le (code : Nat) (peer : Bool) : (wakeCommand l code peer f m).holders ≤ n := by
  unfold wakeCommand
  simp only [holders_ite, ite_holders_le]
  exact ⟨fun _ => le, fun _ => ⟨fun _ => (h _).trans (by simp [le]), fun _ => ⟨fun _ => by simp [le],
    fun _ => by simp [le]⟩⟩⟩

@[simp] theorem dieWrite_holders_le {f : Module → Module} (h : ∀ m, (f m).holders = m.holders) (d : Nat) :
    (dieWrite l v d f m).holders ≤ n := by
  simp [dieWrite, h, le]

@[simp] theorem laneResetBody_holders_le (value : Word) : (laneResetBody l v value st m).holders ≤ n :=
  guardWrite_holders_le l v le fun m => by simp

@[simp] theorem laneStartBody_holders_le (peer : Bool) : (laneStartBody l peer st m).holders ≤ n := by
  unfold laneStartBody
  rw [holders_ite, ite_holders_le]
  refine ⟨fun _ => ?_, fun _ => wakeCommand_holders_le l le (fun m => ?_) 5 peer⟩
  · split <;> simp [le]
  · simp

@[simp] theorem fldChFaultClearBody_holders_le (value : Word) : (fldChFaultClearBody l v value st m).holders ≤ n := by
  simp [fldChFaultClearBody, le]

@[simp] theorem motFaultClearBody_holders_le (value : Word) : (motFaultClearBody l v value st m).holders ≤ n := by
  simp [motFaultClearBody, le]

@[simp] theorem lpFlagsPlausClearBody_holders_le (value : Word) :
    (lpFlagsPlausClearBody l v value st m).holders ≤ n := by
  simp [lpFlagsPlausClearBody, le]

@[simp] theorem canRecoverBody_holders_le (value : Word) : (canRecoverBody l v value st m).holders ≤ n := by
  simp [canRecoverBody, le]

@[simp] theorem canRawTxBody_holders_le (value : Word) : (canRawTxBody l v value st m).holders ≤ n := by
  simp [canRawTxBody, le]

@[simp] theorem sysRegWrite_holders_le (off : Nat) (value : Word) : (sysRegWrite st l v off value m).holders ≤ n := by
  unfold sysRegWrite
  split <;> simp [le]

@[simp] theorem fldRegWrite_holders_le (off : Nat) (value : Word) : (fldRegWrite st l v off value m).holders ≤ n := by
  unfold fldRegWrite
  dsimp only
  split <;> simp [le]

@[simp] theorem motRegWrite_holders_le (off : Nat) (value : Word) : (motRegWrite st l v off value m).holders ≤ n := by
  unfold motRegWrite
  split <;> simp [le]

@[simp] theorem lpRegWrite_holders_le (off : Nat) (value : Word) : (lpRegWrite st l v off value m).holders ≤ n := by
  unfold lpRegWrite
  dsimp only
  split <;> simp [le]

@[simp] theorem mtrRegWrite_holders_le (off : Nat) (value : Word) : (mtrRegWrite st l v off value m).holders ≤ n := by
  unfold mtrRegWrite
  split
  case h_4 => split <;> simp [le]
  all_goals simp [le]

@[simp] theorem canRegWrite_holders_le (off : Nat) (value : Word) : (canRegWrite st l v off value m).holders ≤ n := by
  unfold canRegWrite
  dsimp only
  split
  case h_6 =>
    simp only [holders_ite, ite_holders_le]
    refine ⟨fun _ => le, fun _ => ⟨fun _ => by simp [le], fun _ => ⟨fun _ => by simp [le],
      fun _ => ⟨fun _ => le, fun _ => ?_⟩⟩⟩⟩
    split <;> simp [le]
  all_goals simp [le]

@[simp] theorem regWrite_holders_le (addr : Nat) (value : Word) : (regWrite st l v addr value m).holders ≤ n := by
  unfold regWrite
  dsimp only
  split <;> simp [le]

@[simp] theorem registerWriteBody_holders_le (addr : Nat) (value : Word) (be : BitVec 4) :
    (registerWriteBody l v addr value be st m).holders ≤ n :=
  guardWrite_holders_le l v le fun m => by simp

@[simp] theorem wordRead_holders_le (addr : Nat) : (wordRead l v addr st m).holders ≤ n := by
  unfold wordRead
  split <;> simp [le]

@[simp] theorem lowWordReadBody_holders_le (addr : Nat) : (lowWordReadBody l v addr st m).holders ≤ n := by
  simp [lowWordReadBody, le]

end

end Sys2Proof.Machine
end

section
/-! Only the acknowledgements of a raise begin a claim (R280, R295). -/

namespace Sys2Proof.Machine

/-! ### The acknowledgements of a raise -/

section
variable {m : Module} {l k : LaneId} (st : Store) (e : Exchange)

theorem holders_updLane_other (other : k ≠ l) (f : Lane → Lane) : (m.updLane l f).holders k = m.holders k := by
  cases l <;> cases k <;> simp_all [Module.holders, Module.updLane, Module.lane]

theorem raisedCommon_holders_other (other : k ≠ l) : (raisedCommon st l e m).holders k = m.holders k := by
  simp [raisedCommon, updRed, holders_updLane_other other]

theorem raised_holders_other (other : k ≠ l) : (raised st l e m).holders k = m.holders k := by
  unfold raised
  dsimp only
  split <;> simp [raisedCommon_holders_other st e other]

/-- A new holder after the acknowledgements were taken is the raising lane, with a quorum of them. -/
theorem claimLatchAckBody_new_holder (was : m.holders k = false) (is : (claimLatchAckBody l st m).holders k = true) :
    ∃ e, k = l ∧ (m.lane l).red.exch = some e ∧ e.raised = true ∧ e.why ≠ .join ∧
      m.variant.quorum ≤ (e.latched ++ (takeAcks l e.proposed m.mail).1).dedup.length := by
  unfold claimLatchAckBody at is
  extract_lets r c a m1 m2 at is
  have same : m2.holders k = false := by simpa [m2, m1] using was
  split at is
  · simp [same] at is
  · rename_i e opened
    rw [holders_ite] at is
    split at is
    · simp [same] at is
    · rename_i raise
      extract_lets e' at is
      rw [holders_ite] at is
      split at is
      · simp [same] at is
      · rename_i joins
        rw [holders_ite] at is
        split at is
        · rename_i quorum
          have own : k = l := by
            by_contra other
            rw [raised_holders_other st e' other, same] at is
            cases is
          have named : c = e.proposed := by simp only [c, r, opened]; rfl
          refine ⟨e, own, opened, by simpa using raise, by simpa [e'] using joins, ?_⟩
          rw [← named]
          have size : m2.variant = m.variant := by cases l <;> rfl
          rwa [size] at quorum
        · simp [same] at is

end

/-! ### Every command -/

/-- A lane holds a claim after a command whose effect raises none, only if it held one before. -/
theorem holders_le_of_effect {i : Instr} {s t : State} {b : Store → Module → Module}
    (runs : exec i s = .next (commit s b)) (h : ∀ st m, (b st m).holders ≤ m.holders) (step : exec i s = .next t) :
    t.m.holders ≤ s.m.holders := by
  rw [runs] at step
  cases step
  simpa using h s.mem s.m.fresh

/-- Only the acknowledgements of a raise make a holder. -/
theorem holders_le_of_ne_claimLatchAck {i : Instr} {s t : State} (other : ∀ l, i ≠ .claimLatchAck l)
    (step : exec i s = .next t) : t.m.holders ≤ s.m.holders := by
  cases i
  case claimLatchAck l => exact absurd rfl (other l)
  all_goals exact holders_le_of_effect rfl (fun st m => by simp) step

/-- Settles O59: every other command leaves at most the claims there were, by one rule per operation of the model. -/
theorem onlyAQuorumMakesALaneActive : Obligations.OnlyAQuorumMakesALaneActive := by
  intro s t i l step was is
  have new : ¬ t.m.holders ≤ s.m.holders := fun le => by
    have kept : true ≤ false := by simpa only [Module.holders, was, is] using le l
    exact absurd kept (by decide)
  by_cases acks : ∃ k, i = .claimLatchAck k
  · obtain ⟨k, rfl⟩ := acks
    have ran : exec (.claimLatchAck k) s = .next (commit s (claimLatchAckBody k)) := rfl
    rw [ran] at step
    cases step
    obtain ⟨e, rfl, found⟩ := claimLatchAckBody_new_holder (k := l) (m := s.m.fresh) s.mem
      (by simpa [Module.holders] using was) (by simpa [Module.holders] using is)
    exact ⟨e, rfl, found⟩
  · exact absurd (holders_le_of_ne_claimLatchAck (fun k eq => acks ⟨k, eq⟩) step) new

end Sys2Proof.Machine
end

section
/-! What a lane is among the two: its mode, its phase and its redundancy block, and the operations that leave these as
they are. -/

namespace Sys2Proof.Machine

/-- What a lane is among the two: its mode, its phase and its redundancy block but for the block's interrupt word. -/
structure Duty where
  mode : Mode
  phase : LanePhase
  red : Red

/-- A redundancy block with its interrupt word at 0. -/
def Red.quiet (r : Red) : Red := { r with irq := 0 }

def Lane.duty (L : Lane) : Duty := ⟨L.sys.mode, L.sys.phase, L.red.quiet⟩

def Module.duty (m : Module) (l : LaneId) : Duty := (m.lane l).duty

theorem duty_of_blank {m n : Module} (h : m.blank = n.blank) : m.duty = n.duty :=
  funext fun l => (congrArg Lane.duty (lane_of_blank h l) :)

theorem duty_of_core {m n : Module} (h : m.core = n.core) : m.duty = n.duty :=
  funext fun l => (congrArg Lane.duty (lane_of_core h l) :)

section
variable (l k : LaneId) (m : Module)

@[simp] theorem duty_fresh : m.fresh.duty = m.duty := funext fun _ => rfl

@[simp] theorem duty_closed : m.closed.duty = m.duty := funext fun _ => rfl

@[simp] theorem duty_ite (c : Prop) [Decidable c] (n : Module) :
    (if c then m else n).duty = if c then m.duty else n.duty := apply_ite ..

@[simp] theorem duty_updLane {f : Lane → Lane} (h : ∀ L, (f L).duty = L.duty) : (m.updLane l f).duty = m.duty := by
  funext k
  cases l <;> cases k <;> simp [Module.duty, Module.updLane, Module.lane, h]

@[simp] theorem duty_forEach {α : Type} (xs : List α) {f : α → Module → Module} (h : ∀ x m, (f x m).duty = m.duty) :
    (forEach xs f m).duty = m.duty := forEach_part _ _ _ h _

/-! ### Operations that leave it -/

@[simp] theorem duty_withMail (xs : List Mail) : (m.withMail xs).duty = m.duty := funext fun _ => rfl

@[simp] theorem duty_clockTo (t : Nat) : (clockTo t m).duty = m.duty := funext fun _ => rfl

@[simp] theorem duty_updSd (d : Nat) (f : SolverDie → SolverDie) : (m.updSd d f).duty = m.duty := funext fun _ => rfl

@[simp] theorem duty_send (src dst : Nat) (msg : Msg) : (send src dst msg m).duty = m.duty := funext fun _ => rfl

@[simp] theorem duty_programRaw (t a : Nat) (bs : Bytes) : (programRaw t a bs m).duty = m.duty := funext fun _ => rfl

@[simp] theorem duty_report (b c x y z : Nat) : (report l b c x y z m).duty = m.duty := duty_of_blank (blank_report ..)

@[simp] theorem duty_reportSd (d b c x y z : Nat) : (reportSd d b c x y z m).duty = m.duty :=
  duty_of_blank (blank_reportAs ..)

@[simp] theorem duty_raise (b bits : Nat) : (raise l b bits m).duty = m.duty := duty_of_blank (blank_raise ..)

@[simp] theorem duty_sendMsi (vec : Nat) : (sendMsi l vec m).duty = m.duty := duty_of_blank (blank_sendMsi ..)

@[simp] theorem duty_domRequest (die i : Nat) (t : DomState) : (domRequest l die i t m).duty = m.duty :=
  duty_of_blank (blank_domRequest ..)

@[simp] theorem duty_domRequests (die : Nat) (is : List Nat) (t : DomState) : (domRequests l die is t m).duty = m.duty :=
  duty_of_blank (blank_domRequests ..)

@[simp] theorem duty_wakeDoms : (wakeDoms l m).duty = m.duty := duty_domRequests ..

@[simp] theorem duty_restDoms : (restDoms l m).duty = m.duty := duty_domRequests ..

@[simp] theorem duty_domSettle (die : Nat) (is : List Nat) : (domSettle die is m).duty = m.duty :=
  duty_of_blank (blank_domSettle ..)

@[simp] theorem duty_slotChanges (was : List SlotState) : (slotChanges l was m).duty = m.duty :=
  duty_of_blank (blank_slotChanges ..)

@[simp] theorem duty_dropIntake : (dropIntake l m).duty = m.duty := duty_updLane _ _ fun _ => rfl

@[simp] theorem duty_updCfg (f : Cfg → Cfg) : (updCfg l f m).duty = m.duty := duty_updLane _ _ fun _ => rfl

@[simp] theorem duty_updPtp (f : Ptp → Ptp) : (updPtp l f m).duty = m.duty := duty_updLane _ _ fun _ => rfl

@[simp] theorem duty_holdover : (holdover l m).duty = m.duty := by simp [holdover]

/-! ### The rings and the solver's jobs, which a lane gives up with its claim -/

@[simp] theorem duty_updHst (f : Hst → Hst) : (updHst l f m).duty = m.duty := duty_updLane _ _ fun _ => rfl

@[simp] theorem duty_updRing (r : Nat) (f : Ring → Ring) : (updRing l r f m).duty = m.duty := duty_updHst ..

@[simp] theorem duty_ringMsg (r : Nat) : (ringMsg l r m).duty = m.duty := by simp [ringMsg]

@[simp] theorem duty_ringError (r code : Nat) : (ringError l r code m).duty = m.duty := by simp [ringError]

@[simp] theorem duty_ringWrites (g : Ring) (d : Desc) (code len : Nat) : (ringWrites g d code len m).duty = m.duty := by
  simp [ringWrites]

@[simp] theorem duty_ringEnd (r code len : Nat) : (ringEnd l r code len m).duty = m.duty := by
  unfold ringEnd
  dsimp only
  split <;> simp

@[simp] theorem duty_abortRings : (abortRings l m).duty = m.duty := by simp [abortRings]

@[simp] theorem duty_updRun (d : Nat) (f : SlvRun → SlvRun) : (updRun d f m).duty = m.duty := duty_updSd ..

@[simp] theorem duty_recallJob (seq : Nat) : (recallJob l seq m).duty = m.duty := funext fun _ => rfl

@[simp] theorem duty_updTpl (req : Nat) (f : TplView → TplView) : (updTpl l req f m).duty = m.duty :=
  duty_updLane _ _ fun _ => rfl

@[simp] theorem duty_closeJob (seq : Nat) : (closeJob l seq m).duty = m.duty := duty_updLane _ _ fun _ => rfl

@[simp] theorem duty_viewEnd (req seq : Nat) (e : JobEnd) : (viewEnd l req seq e m).duty = m.duty := by
  simp [viewEnd]

@[simp] theorem duty_slvWatch : (slvWatch m).duty = m.duty := duty_of_blank (blank_slvWatch ..)

@[simp] theorem duty_askBanks (d : Nat) : (askBanks d m).duty = m.duty := duty_of_blank (blank_askBanks ..)

@[simp] theorem duty_sdFree (d : Nat) : (sdFree d m).duty = m.duty := by
  simp [sdFree]

@[simp] theorem duty_endQueued (d : Nat) (j : SlvJob) (e : JobEnd) : (endQueued d j e m).duty = m.duty := by
  simp [endQueued]

@[simp] theorem duty_abortTemplate (src : AbortSrc) (tmpl : Nat) : (abortTemplate l src tmpl m).duty = m.duty := by
  unfold abortTemplate
  split
  · simp
  · extract_lets sd s mine running recalled
    rw [duty_ite]
    split
    · simp
    · split <;> simp [recalled]

@[simp] theorem duty_abortAll (src : AbortSrc) : (abortAll l src m).duty = m.duty := by simp [abortAll]

@[simp] theorem duty_instEnd (area : Bytes) : (instEnd l area m).duty = m.duty := by
  unfold instEnd
  dsimp only
  split <;> simp [ringDone]

@[simp] theorem duty_programAbort : (programAbort l m).duty = m.duty := by
  unfold programAbort
  extract_lets m1
  have ended : m1.duty = m.duty := by
    simp only [m1]
    split <;> simp
  refine (duty_updLane l m1 ?_).trans ended
  exact fun _ => rfl

/-! ### Reading a slot -/

@[simp] theorem duty_slvClocks : (slvClocks m).duty = m.duty := duty_of_blank (blank_slvClocks ..)

@[simp] theorem duty_imageRegs (old : Option Conf) (new : Conf) : (imageRegs l old new m).duty = m.duty := by
  unfold imageRegs
  extract_lets n p before vblk m1 m2 m3
  have kept : m1.duty = m.duty := duty_updLane _ _ fun _ => rfl
  simp [m3, m2, kept]

@[simp] theorem duty_adoptSlot (st : Store) (slot : Nat) : (adoptSlot st l slot m).duty = m.duty := by
  have read : (spend 1 l (slotUses (m.lane l) (st.mram l) slot) (nvmRead l (provBase slot) 1024
      (nvmRead l (imageBase slot) (slotBytes (st.mram l) slot).length m))).duty = m.duty :=
    duty_of_core (by simp)
  unfold adoptSlot adoptImage
  dsimp only
  split <;> simp [read]

end

/-! ### Operations that change it -/

section
variable {l : LaneId} {m : Module}

/-- A change of the redundancy block that does not look at its interrupt word. -/
theorem duty_updRed_same (f : Red → Red) (h : ∀ r, (f r).quiet = f r.quiet) :
    (updRed l f m).duty l = { m.duty l with red := f (m.duty l).red } := by
  cases l <;> exact congrArg (Duty.mk _ _) (h _)

theorem duty_updLane_other {k : LaneId} (other : k ≠ l) (f : Lane → Lane) : (m.updLane l f).duty k = m.duty k := by
  cases l <;> cases k <;> simp_all [Module.duty, Module.updLane, Module.lane]

theorem duty_updPhase (p : LanePhase) :
    (updSys l (fun s => { s with phase := p }) m).duty l = { m.duty l with phase := p } := by
  cases l <;> rfl

theorem duty_recordSplit (e : Exchange) : (recordSplit l e m).duty l =
    { m.duty l with red := { (m.duty l).red with splitCount := sat max32 ((m.duty l).red.splitCount + 1) } } := by
  unfold recordSplit
  dsimp only
  rw [duty_ite, duty_report, ite_self, duty_raise, duty_updRed_same, duty_report]
  exact fun _ => rfl

/-- The redundancy block of a lane in a mode, after its takeover found no quorum (R280). -/
def Red.takeoverFailed (r : Red) (mode : Mode) (result : Nat) : Red := { r with
  exch := none, restored := none, quorumResult := result
  role := if mode == .resync then .resync else .standby, wireArmed := false, prepare := false }

theorem duty_exchangeFails_takeover (result : Nat) : (exchangeFails l .takeover result m).duty l =
    ⟨(m.duty l).mode, .up, (m.duty l).red.takeoverFailed (m.duty l).mode result⟩ := by
  unfold exchangeFails
  extract_lets m1 _ m2 m3 rest take
  have ends : m2.duty l =
      ⟨(m.duty l).mode, .up, { (m.duty l).red with exch := none, restored := none, quorumResult := result }⟩ := by
    simp only [m2, duty_updPhase, m1]
    rw [duty_updRed_same]
    · rfl
    · exact fun _ => rfl
  have mode : (m3.lane l).sys.mode = (m.duty l).mode := congrArg Duty.mode ends
  rw [duty_restDoms, duty_updRed_same]
  · rw [show m3 = m2 from rfl, ends]
    simp [rest, mode, take, Red.takeoverFailed]
  · exact fun _ => rfl

end

end Sys2Proof.Machine
end

section
/-! Claims at the dies and the quorum exchange of a lane (R278 to R280). -/

namespace Sys2Proof.Machine

/-! ### A die's side (R278, R279) -/

/-- The reply of a field die to a request for a claim (R278). -/
def FieldDie.replyTo (x : FieldDie) (d c now : Nat) : ClaimReply :=
  let res := if x.vacant then 0 else if x.claim = c then 1 else 2
  let r : ClaimReply := {
    die := fdId d, result := res, claim := x.claim, proposed := c, vacantSince := if res = 0 then x.vacantTb / 1000 else 0
    replyTb := x.tbUs now, imageCounter := x.bankCounter }
  { r with mac := r.macBy x.kTok }

theorem vacantSince_replyTo (x : FieldDie) (d c now : Nat) :
    (x.replyTo d c now).vacantSince = if x.vacant = true then x.vacantTb / 1000 else 0 := by
  unfold FieldDie.replyTo
  cases x.vacant
  · by_cases own : x.claim = c <;> simp [own]
  · simp

section
variable {s : State} {l : LaneId} {d c : Nat} {rest : List Mail}

section
variable (hmail : s.m.mail = ⟨l.num, 4 + d, .claimRequest c⟩ :: rest) (reach : s.m.fdReach l d = true)
include hmail reach

theorem does_claimRequest : Does (.claimRequest l d) s fun _ m =>
    send (4 + d) l.num (.claimReply ((m.fd d).replyTo d c m.now)) (m.withMail rest) := by
  have b : Does (.claimRequest l d) s (claimRequestBody l d) := rfl
  refine b.congr ?_
  simp only [claimRequestBody, fresh_mail, hmail, fdId]
  rw [takeMail_front (a := c) rfl]
  exact if_neg (show ¬ (!(s.m.fresh.withMail rest).fdReach l d) = true by simp [reach])

theorem ends_claimRequest : Ends (.claimRequest l d) s fun t => SameStores s t ∧ t.m.fds = s.m.fds ∧ ∃ r : ClaimReply,
    t.m.mail = rest ++ [⟨4 + d, l.num, .claimReply r⟩] ∧ r.die = 4 + d ∧ r.proposed = c ∧ r.claim = (s.m.fd d).claim ∧
    r.imageCounter = (s.m.fd d).bankCounter ∧ r.replyTb = (s.m.fd d).tbUs s.m.now ∧
    r.vacantSince = (if (s.m.fd d).vacant = true then (s.m.fd d).vacantTb / 1000 else 0) ∧
    r.result = (if (s.m.fd d).vacant = true then 0 else if (s.m.fd d).claim = c then 1 else 2) :=
  (does_claimRequest hmail reach).ends ⟨⟨commit_mem_of_quiet _ _ (by simp), rfl⟩, rfl,
    (s.m.fd d).replyTo d c s.m.now, rfl, rfl, rfl, rfl, rfl, rfl, vacantSince_replyTo .., rfl⟩

end

section
variable {ev : List ClaimReply}

section
variable (hmail : s.m.mail = ⟨l.num, 4 + d, .claimRaise c ev⟩ :: rest) (reach : s.m.fdReach l d = true)
include hmail reach

/-- A raise that reaches a field die, by whether the die accepts it (R279). -/
theorem does_claimRaise_field : Does (.claimRaise l (4 + d)) s fun st m =>
    let fd := m.fd d
    if raiseAccepted m.variant.quorum fd.claim fd.kTok (fd.tb m.now).toNat c ev && claimLane c == l then
      send (4 + d) l.num (.claimAck c) (latchField st l d c (m.withMail rest))
    else reportFd d 10 0x6006 (4 + d) c 1 ((m.withMail rest).updFd d fun fd =>
      { fd with claimRejected := sat max32 (fd.claimRejected + 1) }) := by
  have b : Does (.claimRaise l (4 + d)) s (claimRaiseBody l (4 + d)) := rfl
  refine b.congr ?_
  have die : 4 + d - 4 = d := Nat.add_sub_cancel_left ..
  simp only [claimRaiseBody, fresh_mail, hmail, if_pos (show 2 ≤ 4 + d by omega), die]
  rw [takeMail_front (a := (c, ev)) rfl]
  refine (if_neg (show ¬ 4 + d < 4 by omega)).trans ?_
  exact if_neg (show ¬ (!(s.m.fresh.withMail rest).fdReach l d) = true by simp [reach])

theorem does_claimRaise_latched (own : claimLane c = l) (accepted : raiseAccepted s.m.variant.quorum (s.m.fd d).claim
    (s.m.fd d).kTok ((s.m.fd d).tb s.m.now).toNat c ev = true) : Does (.claimRaise l (4 + d)) s fun st m =>
      send (4 + d) l.num (.claimAck c) (latchField st l d c (m.withMail rest)) :=
  (does_claimRaise_field hmail reach).congr (if_pos (by simp [accepted, own]))

theorem ends_claimRaise_rejected (rejected : raiseAccepted s.m.variant.quorum (s.m.fd d).claim
    (s.m.fd d).kTok ((s.m.fd d).tb s.m.now).toNat c ev = false) : Ends (.claimRaise l (4 + d)) s fun t =>
      SameStores s t ∧ t.m.mail = rest ∧ (t.m.fd d).claim = (s.m.fd d).claim ∧
      (t.m.fd d).claimRejected = sat max32 ((s.m.fd d).claimRejected + 1) := by
  have does := (does_claimRaise_field hmail reach).congr (g := fun _ m => reportFd d 10 0x6006 (4 + d) c 1
    ((m.withMail rest).updFd d fun fd => { fd with claimRejected := sat max32 (fd.claimRejected + 1) }))
    (if_neg (by simp [rejected]))
  have told := blank_reportFd d 10 0x6006 (4 + d) c 1 ((s.m.fresh.withMail rest).updFd d fun fd =>
    { fd with claimRejected := sat max32 (fd.claimRejected + 1) })
  have die := fd_updFd (s.m.fresh.withMail rest) d
    (fun fd => { fd with claimRejected := sat max32 (fd.claimRejected + 1) }) (lt_of_fdReach reach)
  refine does.ends ⟨⟨commit_mem_of_quiet _ _ ?_, rfl⟩, ?_, ?_, ?_⟩
  · rw [nvmOut_of_blank told]
    simp
  · exact mail_of_blank told
  · rw [commit_m, closed_fd, claim_of_blank (fd_of_blank told d), die, withMail_fd, fresh_fd]
  · rw [commit_m, closed_fd, claimRejected_of_blank (fd_of_blank told d), die, withMail_fd, fresh_fd]

end

section
variable (small : d < 2) (hmail : s.m.mail = ⟨l.num, 2 + d, .claimRaise c ev⟩ :: rest) (reach : s.m.sdReach l d = true)
include small hmail reach

/-- A raise that reaches a solver die, by whether the die accepts it (R279). -/
theorem does_claimRaise_solver : Does (.claimRaise l (2 + d)) s fun _ m =>
    if raiseAccepted m.variant.quorum (m.sd d).claim (m.sd d).kTok m.now c ev && claimLane c == l then
      solverClaim d c (m.withMail rest)
    else reportSd d 10 0x6006 (2 + d) c 1 (m.withMail rest) := by
  have b : Does (.claimRaise l (2 + d)) s (claimRaiseBody l (2 + d)) := rfl
  refine b.congr ?_
  have die : 2 + d - 2 = d := Nat.add_sub_cancel_left ..
  have reached : (s.m.fresh.withMail rest).sdReach l d = true := (fresh_sdReach s.m l d).trans reach
  simp only [claimRaiseBody, fresh_mail, hmail, if_pos (show 2 ≤ 2 + d by omega), die]
  rw [takeMail_front (a := (c, ev)) rfl]
  refine (if_pos (show 2 + d < 4 by omega)).trans ?_
  exact if_neg (show ¬ (!(s.m.fresh.withMail rest).sdReach l d) = true by simp [reached])

theorem does_claimRaise_solver_latched (own : claimLane c = l)
    (accepted : raiseAccepted s.m.variant.quorum (s.m.sd d).claim (s.m.sd d).kTok s.m.now c ev = true) :
    Does (.claimRaise l (2 + d)) s fun _ m => solverClaim d c (m.withMail rest) :=
  (does_claimRaise_solver small hmail reach).congr (if_pos (by simp [accepted, own]))

theorem does_claimRaise_solver_rejected (rejected : claimLane c ≠ l ∨
    raiseAccepted s.m.variant.quorum (s.m.sd d).claim (s.m.sd d).kTok s.m.now c ev = false) :
    Does (.claimRaise l (2 + d)) s fun _ m => reportSd d 10 0x6006 (2 + d) c 1 (m.withMail rest) :=
  (does_claimRaise_solver small hmail reach).congr (if_neg (by obtain h | h := rejected <;> simp [h]))

end

end

end

/-! ### A lane's side: requests and replies (R278, R280) -/

@[simp] theorem fdsOf_updRed (l k : LaneId) (f : Red → Red) (m : Module) : (updRed l f m).fdsOf k = m.fdsOf k :=
  fdsOf_congr (by simp [updRed]) (by simp [updRed]) (by cases l <;> cases k <;> rfl)

@[simp] theorem fdsOf_clockTo (t : Nat) (k : LaneId) (m : Module) : (clockTo t m).fdsOf k = m.fdsOf k := by
  cases k <;> rfl

section
variable {s : State} {l : LaneId} {e : Exchange} (opened : (s.m.lane l).red.exch = some e)
include opened

section
variable (open_ : e.raised = false) (awake : (s.m.lane l).sys.phase ≠ .waking)
  (due : max s.m.now (e.requestAt + 1000000) ≤ e.openedAt + (s.m.lane l).tVacantNs + 50000000)
include open_ awake due

theorem does_claimRequestRepeat : Does (.claimRequestRepeat l) s fun _ m =>
    let t := max m.now (e.requestAt + 1000000)
    sendRequests l e.proposed (updRed l (fun r => { r with exch := r.exch.map fun e => { e with requestAt := t } })
      (clockTo t m)) := by
  have b : Does (.claimRequestRepeat l) s (claimRequestRepeatBody l) := rfl
  refine b.congr ?_
  have asks : ¬ (e.raised || (s.m.lane l).sys.phase == .waking ||
      decide (e.openedAt + (s.m.lane l).tVacantNs + 50000000 < max s.m.now (e.requestAt + 1000000))) = true := by
    simp [open_, awake, Nat.not_lt.mpr due]
  simp only [claimRequestRepeatBody, fresh_lane, fresh_now, opened, if_neg asks]

theorem ends_claimRequestRepeat : Ends (.claimRequestRepeat l) s fun t => SameStores s t ∧
    t.m.now = max s.m.now (e.requestAt + 1000000) ∧
    (t.m.lane l).red = { (s.m.lane l).red with exch := some { e with requestAt := t.m.now } } ∧
    t.m.mail = s.m.mail ++ (s.m.fdsOf l).map fun d => (⟨l.num, 4 + d, .claimRequest e.proposed⟩ : Mail) := by
  refine (does_claimRequestRepeat opened open_ awake due).ends ⟨⟨commit_mem_of_quiet _ _ ?_, rfl⟩, ?_, ?_, ?_⟩
  · simp [sendRequests, updRed]
  · simp [sendRequests, updRed]
  · simp [sendRequests, updRed, opened]
  · rw [commit_m, closed_mail, sendRequests, mail_sends, fdsOf_updRed, fdsOf_clockTo, fresh_fdsOf]
    simp [updRed, fdId]

end

/-- The exchange with a reply kept, in place of the die's older one (R278). -/
def Exchange.keep (e : Exchange) (r : ClaimReply) : Exchange :=
  { e with replies := e.replies.filter (·.die != r.die) ++ [r] }

/-- The field dies whose replies are evidence for the claim that the exchange proposes (R279). -/
def Exchange.evidence (e : Exchange) : List Nat := (e.replies.filter (·.evidence e.proposed)).map fun x => x.die - 4

/-- The field dies that replied that they are vacant. -/
def Exchange.vacant (e : Exchange) : List Nat := (e.replies.filter (·.result == 0)).map fun x => x.die - 4

section
variable {d : Nat} {r : ClaimReply} {rest : List Mail} (hmail : s.m.mail = ⟨4 + d, l.num, .claimReply r⟩ :: rest)
  (reach : s.m.fdReach l d = true) (awake : (s.m.lane l).sys.phase ≠ .waking) (sealed : r.mac = r.macBy keyTok)
  (asked : r.proposed = e.proposed)
include hmail reach awake sealed asked

/-- A valid reply in an exchange, by what the exchange waits for (R278). -/
theorem does_claimReply : Does (.claimReply l d) s fun st m =>
    let m := m.withMail rest
    if e.raised then updRed l (fun x => { x with exch := some (e.keep r) }) m
    else if e.why != .join && r.result != 1 && decide (claimEpoch e.proposed ≤ claimEpoch r.claim) then
      openExchange st l e.why (updRed l (fun x => { x with claim := mkClaim (claimEpoch r.claim) l }) m)
    else
      let m := updRed l (fun x => { x with
        exch := some (e.keep r)
        evidence := if e.why == .join then x.evidence else dieFlags (e.keep r).evidence
        vacant := if e.why == .join then x.vacant else dieFlags (e.keep r).vacant }) m
      if m.variant.quorum ≤ (e.keep r).evidence.dedup.length then decideRaise st l (e.keep r) m else m := by
  have b : Does (.claimReply l d) s (claimReplyBody l d) := rfl
  refine b.congr ?_
  simp only [claimReplyBody, fresh_mail, hmail, fdId]
  rw [takeMail_front (a := r) rfl]
  have heard : ¬ (!(s.m.fresh.withMail rest).fdReach l d || (s.m.lane l).sys.phase == .waking ||
      r.mac != r.macBy keyTok || r.proposed != e.proposed) = true := by
    simp [reach, awake, ← sealed, asked]
  have lane : ({ s.m.fresh with mail := rest } : Module).lane l = s.m.lane l := by cases l <;> rfl
  simp only [lane, opened]
  exact if_neg heard

theorem does_claimReply_raised (raised : e.raised = true) : Does (.claimReply l d) s fun _ m =>
    updRed l (fun x => { x with exch := some (e.keep r) }) (m.withMail rest) :=
  (does_claimReply opened hmail reach awake sealed asked).congr (if_pos raised)

section
variable (asking : e.raised = false) (why : e.why ≠ .join)
include asking why

theorem does_claimReply_restart (stands : r.result ≠ 1) (high : claimEpoch e.proposed ≤ claimEpoch r.claim) :
    Does (.claimReply l d) s fun st m => openExchange st l e.why
      (updRed l (fun x => { x with claim := mkClaim (claimEpoch r.claim) l }) (m.withMail rest)) :=
  (does_claimReply opened hmail reach awake sealed asked).congr
    ((if_neg (by simp [asking])).trans (if_pos (by simp [why, stands, high])))

/-- A reply that stands for no higher claim is kept, and with a quorum of evidence the raise is decided. -/
theorem does_claimReply_kept (low : r.result = 1 ∨ claimEpoch r.claim < claimEpoch e.proposed) :
    Does (.claimReply l d) s fun st m =>
      let m := updRed l (fun x => { x with
        exch := some (e.keep r), evidence := dieFlags (e.keep r).evidence, vacant := dieFlags (e.keep r).vacant })
        (m.withMail rest)
      if s.m.variant.quorum ≤ (e.keep r).evidence.dedup.length then decideRaise st l (e.keep r) m else m := by
  refine (does_claimReply opened hmail reach awake sealed asked).congr
    ((if_neg (by simp [asking])).trans ((if_neg ?_).trans ?_))
  · obtain own | low := low
    · simp [own]
    · simp [Nat.not_le.mpr low]
  · simp [why, updRed, Module.withMail]

theorem does_claimReply_decided (low : r.result = 1 ∨ claimEpoch r.claim < claimEpoch e.proposed)
    (quorum : s.m.variant.quorum ≤ (e.keep r).evidence.dedup.length) :
    Does (.claimReply l d) s fun st m => decideRaise st l (e.keep r) (updRed l (fun x => { x with
      exch := some (e.keep r), evidence := dieFlags (e.keep r).evidence, vacant := dieFlags (e.keep r).vacant })
      (m.withMail rest)) :=
  (does_claimReply_kept opened hmail reach awake sealed asked asking why low).congr (if_pos quorum)

theorem ends_claimReply_kept (low : claimEpoch r.claim < claimEpoch e.proposed)
    (few : (e.keep r).evidence.dedup.length < s.m.variant.quorum) :
    Ends (.claimReply l d) s fun t => SameStores s t ∧ t.m.mail = rest ∧
      (t.m.lane l).red.exch = some (e.keep r) ∧ (t.m.lane l).red.holds = (s.m.lane l).red.holds := by
  refine ((does_claimReply_kept opened hmail reach awake sealed asked asking why (.inr low)).congr
    (g := fun _ m => updRed l (fun x => { x with
      exch := some (e.keep r), evidence := dieFlags (e.keep r).evidence, vacant := dieFlags (e.keep r).vacant })
      (m.withMail rest)) (if_neg (Nat.not_le.mpr few))).ends ⟨⟨commit_mem_of_quiet _ _ ?_, rfl⟩, ?_, ?_, ?_⟩
  all_goals simp [updRed]

end

end

/-! ### The end of the window -/

section
variable (awake : (s.m.lane l).sys.phase ≠ .waking)
include awake

theorem does_quorumWindowExpiry (short : ¬(e.raised = true ∧ s.m.variant.quorum ≤ e.latched.length)) :
    Does (.quorumWindowExpiry l) s fun _ m =>
      let m := clockTo (e.openedAt + (m.lane l).tVacantNs + 50000000) m
      if e.why == .join then exchangeFails l .join 2 m else exchangeFails l e.why 2 (recordSplit l e m) := by
  have b : Does (.quorumWindowExpiry l) s (quorumWindowExpiryBody l) := rfl
  refine b.congr ?_
  have open_ : (if (s.m.lane l).sys.phase == .waking then none else (s.m.lane l).red.exch) = some e := by
    simp [awake, opened]
  have lasts : ¬ (e.raised && decide (s.m.variant.quorum ≤ e.latched.length)) = true := by simpa using short
  simp only [quorumWindowExpiryBody, fresh_lane, fresh_variant, open_, if_neg lasts]

theorem does_quorumWindowExpiry_join (short : ¬(e.raised = true ∧ s.m.variant.quorum ≤ e.latched.length))
    (why : e.why = .join) : Does (.quorumWindowExpiry l) s fun _ m =>
      exchangeFails l .join 2 (clockTo (e.openedAt + (m.lane l).tVacantNs + 50000000) m) :=
  (does_quorumWindowExpiry opened awake short).congr (if_pos (by simp [why]))

theorem does_quorumWindowExpiry_split (short : ¬(e.raised = true ∧ s.m.variant.quorum ≤ e.latched.length))
    (why : e.why ≠ .join) : Does (.quorumWindowExpiry l) s fun _ m =>
      exchangeFails l e.why 2 (recordSplit l e (clockTo (e.openedAt + (m.lane l).tVacantNs + 50000000) m)) :=
  (does_quorumWindowExpiry opened awake short).congr (if_neg (by simp [why]))

/-- A takeover that finds no quorum: the lane stays a passive one, and the split is counted (R280). -/
theorem ends_quorumWindowExpiry_takeover (why : e.why = .takeover) (asking : e.raised = false)
    (apart : (s.m.lane l).sys.mode ≠ .resync) : Ends (.quorumWindowExpiry l) s fun t =>
      (t.m.lane l).red.exch = none ∧ (t.m.lane l).red.quorumResult = 2 ∧
      (t.m.lane l).red.splitCount = sat max32 ((s.m.lane l).red.splitCount + 1) ∧
      (t.m.lane l).red.role = .standby ∧ (t.m.lane l).sys.phase = .up ∧
      (t.m.lane l).red.holds = (s.m.lane l).red.holds := by
  have does := does_quorumWindowExpiry_split opened awake (by simp [asking]) (by simp [why])
  simp only [why] at does
  let m := clockTo (e.openedAt + (s.m.fresh.lane l).tVacantNs + 50000000) s.m.fresh
  have duty : (exchangeFails l .takeover 2 (recordSplit l e m)).duty l = ⟨(s.m.lane l).sys.mode, .up,
      { (s.m.duty l).red with
        splitCount := sat max32 ((s.m.lane l).red.splitCount + 1) }.takeoverFailed (s.m.lane l).sys.mode 2⟩ := by
    rw [duty_exchangeFails_takeover, duty_recordSplit, duty_clockTo, duty_fresh]
    rfl
  have red := congrArg Duty.red duty
  refine does.ends ?_
  rw [commit_m, closed_lane]
  exact ⟨congrArg Red.exch red, congrArg Red.quorumResult red, congrArg Red.splitCount red,
    (congrArg Red.role red).trans (if_neg (by simpa using apart)), congrArg Duty.phase duty, (congrArg Red.holds red :)⟩

end

/-! ### The acknowledgements of a raise (R280) -/

/-- The field dies whose acknowledgements wait, noted in the lane's redundancy block. -/
def noteAcks (l : LaneId) (acks : List Nat) (m : Module) : Module :=
  updRed l (fun r => { r with latched := (List.range 4).map fun d => at? r.latched d false || acks.contains d }) m

section
variable (raised_ : e.raised = true)
include raised_

/-- The exchange with the acknowledgements that wait for its lane counted (R280). -/
theorem does_claimLatchAck : Does (.claimLatchAck l) s fun st m =>
    let acks := (takeAcks l e.proposed s.m.mail).1
    let m := noteAcks l acks (m.withMail (takeAcks l e.proposed s.m.mail).2)
    if e.why == .join then updRed l (fun r => { r with exch := none }) m
    else if s.m.variant.quorum ≤ (e.latched ++ acks).dedup.length then
      raised st l { e with latched := (e.latched ++ acks).dedup } m
    else updRed l (fun r => { r with exch := some { e with latched := (e.latched ++ acks).dedup } }) m := by
  have b : Does (.claimLatchAck l) s (claimLatchAckBody l) := rfl
  refine b.congr ?_
  have named : ((some e).map Exchange.proposed).getD (s.m.lane l).red.claim = e.proposed := rfl
  simp only [claimLatchAckBody, fresh_lane, fresh_mail, opened, named]
  refine (if_neg (by simp [raised_])).trans ?_
  simp only [noteAcks, updRed, updLane_variant]
  rfl

theorem does_claimLatchAck_quorum (why : e.why ≠ .join)
    (quorum : s.m.variant.quorum ≤ (e.latched ++ (takeAcks l e.proposed s.m.mail).1).dedup.length) :
    Does (.claimLatchAck l) s fun st m =>
      let acks := (takeAcks l e.proposed s.m.mail).1
      raised st l { e with latched := (e.latched ++ acks).dedup }
        (noteAcks l acks (m.withMail (takeAcks l e.proposed s.m.mail).2)) :=
  (does_claimLatchAck opened raised_).congr ((if_neg (by simp [why])).trans (if_pos quorum))

theorem ends_claimLatchAck_join (why : e.why = .join) : Ends (.claimLatchAck l) s fun t => SameStores s t ∧
    t.m.mail = (takeAcks l e.proposed s.m.mail).2 ∧ (t.m.lane l).red.exch = none ∧
    (t.m.lane l).red.holds = (s.m.lane l).red.holds ∧ (t.m.lane l).red.claim = (s.m.lane l).red.claim := by
  refine ((does_claimLatchAck opened raised_).congr (g := fun _ m => updRed l (fun r => { r with exch := none })
    (noteAcks l (takeAcks l e.proposed s.m.mail).1 (m.withMail (takeAcks l e.proposed s.m.mail).2)))
    (if_pos (by simp [why]))).ends
    ⟨⟨commit_mem_of_quiet _ _ ?_, rfl⟩, ?_, ?_, ?_, ?_⟩
  all_goals simp [updRed, noteAcks]

theorem ends_claimLatchAck_waits (why : e.why ≠ .join)
    (few : (e.latched ++ (takeAcks l e.proposed s.m.mail).1).dedup.length < s.m.variant.quorum) :
    Ends (.claimLatchAck l) s fun t => OnlyLane l { s with m := { s.m with mail := t.m.mail } } t ∧
      t.m.mail = (takeAcks l e.proposed s.m.mail).2 ∧ (t.m.lane l).red.holds = (s.m.lane l).red.holds ∧
      (t.m.lane l).red.exch = some { e with latched := (e.latched ++ (takeAcks l e.proposed s.m.mail).1).dedup } := by
  refine ((does_claimLatchAck opened raised_).congr (g := fun _ m => updRed l (fun r => { r with
      exch := some { e with latched := (e.latched ++ (takeAcks l e.proposed s.m.mail).1).dedup } })
    (noteAcks l (takeAcks l e.proposed s.m.mail).1 (m.withMail (takeAcks l e.proposed s.m.mail).2)))
    ((if_neg (by simp [why])).trans (if_neg (Nat.not_le.mpr few)))).ends ⟨?_, ?_, ?_, ?_⟩
  · refine ⟨commit_mem_of_quiet _ _ ?_, rfl, ?_⟩
    · simp [updRed, noteAcks]
    · cases l <;> exact ⟨rfl, rfl, rfl, rfl, rfl, rfl, rfl⟩
  all_goals simp [updRed, noteAcks]

end

end

/-- Settles O14: a die's answer by what it holds, a lane's reply by what its exchange waits for, and the window's end. -/
theorem claimsAreDecidedByEvidence : Obligations.ClaimsAreDecidedByEvidence := by
  refine ⟨fun s l d => ⟨fun c rest hmail reach => ⟨ends_claimRequest hmail reach, does_claimRequest hmail reach⟩,
      fun c ev rest hmail reach own accepted => does_claimRaise_latched hmail reach own accepted,
      fun c ev rest hmail reach rejected => ends_claimRaise_rejected hmail reach rejected,
      fun c ev rest small hmail reach =>
        ⟨fun own accepted => does_claimRaise_solver_latched small hmail reach own accepted,
          fun rejected => does_claimRaise_solver_rejected small hmail reach rejected⟩⟩,
    fun s l e opened => ⟨fun asking awake due => ⟨ends_claimRequestRepeat opened asking awake due,
        does_claimRequestRepeat opened asking awake due⟩,
      fun d r rest hmail reach asking awake sealed asked low why few =>
        ends_claimReply_kept opened hmail reach awake sealed asked asking why low few,
      fun d r rest hmail reach awake sealed asked =>
        ⟨fun raised => does_claimReply_raised opened hmail reach awake sealed asked raised,
          does_claimReply_restart opened hmail reach awake sealed asked,
          does_claimReply_decided opened hmail reach awake sealed asked⟩,
      fun awake short => ⟨fun why => does_quorumWindowExpiry_join opened awake short why,
        fun why => does_quorumWindowExpiry_split opened awake short why⟩,
      fun why asking awake apart => ends_quorumWindowExpiry_takeover opened awake why asking apart,
      fun raised why quorum => does_claimLatchAck_quorum opened raised why quorum,
      fun raised why => ends_claimLatchAck_join opened raised why,
      fun raised why few => ends_claimLatchAck_waits opened raised why few⟩⟩

end Sys2Proof.Machine
end

section
/-! The loss of the active lane: the wake of its standby, its own fence and what a frame tells it (R277, R281 to R284). -/

namespace Sys2Proof.Machine

/-! ### The wake of a standby (R282) -/

section
variable {l : LaneId} {m : Module} (st : Store) (trigger : Nat)

/-- The redundancy block of a lane that is woken for a takeover (R282). -/
def Red.woken (r : Red) : Red := { r with role := .takeover, exch := some { why := .takeover } }

theorem duty_declareLoss (up : (m.lane l).sys.phase ≠ .starting) :
    (declareLoss st l trigger m).duty l = ⟨(m.duty l).mode, .waking, (m.duty l).red.woken⟩ := by
  have phase : ((report l 10 0x6001 trigger (dieBits (m.patterns l)) 0 m).lane l).sys.phase = (m.lane l).sys.phase :=
    phase_of_blank (blank_report ..) l
  simp only [declareLoss, phase]
  rw [if_neg (by simpa using up), duty_wakeDoms, duty_updPhase, duty_updRed_same, duty_report]
  · rfl
  · exact fun _ => rfl

theorem declareLoss_fds (up : (m.lane l).sys.phase ≠ .starting) : (declareLoss st l trigger m).fds = m.fds := by
  have phase : ((report l 10 0x6001 trigger (dieBits (m.patterns l)) 0 m).lane l).sys.phase = (m.lane l).sys.phase :=
    phase_of_blank (blank_report ..) l
  simp only [declareLoss, phase]
  rw [if_neg (by simpa using up), wakeDoms, domRequests_num_fds]
  simp [updSys, updRed]

end

section
variable {s : State} {l : LaneId} (two : s.m.variant.nLane = 2) (good : s.m.supplyGood = true)
  (wakeable : (s.m.lane l).wakeable = true)
include two good wakeable

theorem does_laneWireLoss (armed : (s.m.lane l).red.wireArmed = true) : Does (.laneWireLoss l) s fun st m =>
    declareLoss st l 0 (updRed l (fun r => { r with wireLost := true, wireSince := none })
      (clockTo ((m.lane l.other).red.wireAt + 3000000) m)) := by
  have b : Does (.laneWireLoss l) s (laneWireLossBody l) := rfl
  exact b.congr (if_neg (by simp [two, good, wakeable, armed]))

theorem does_vacancyPatternWake (armed : (s.m.lane l).red.patArmed = true)
    (quorum : s.m.variant.quorum ≤ (s.m.patterns l).length) :
    Does (.vacancyPatternWake l) s fun st m => declareLoss st l 1 m := by
  have b : Does (.vacancyPatternWake l) s (vacancyPatternWakeBody l) := rfl
  have seen : (s.m.fresh.patterns l).length = (s.m.patterns l).length := by cases l <;> rfl
  exact b.congr (if_neg (by simp [two, good, wakeable, armed, seen, Nat.not_lt.mpr quorum]))

end

section
variable {s : State} {l : LaneId} (nfj8 : s.m.variant = .nfj8) (good : s.m.supplyGood = true)
  (mode : (s.m.lane l).sys.mode = .standby) (up : (s.m.lane l).sys.phase = .up)
  (works : (s.m.lane l).sys.failed = false) (held : (s.m.lane l).sys.holdupOk = true)
include nfj8 good mode up works held

theorem ends_laneWireLoss (armed : (s.m.lane l).red.wireArmed = true) : Ends (.laneWireLoss l) s fun t =>
    t.pending = s.pending ∧ (t.m.lane l).sys.phase = .waking ∧ (t.m.lane l).red.role = .takeover ∧
    (t.m.lane l).red.wireLost = true ∧ (t.m.lane l).red.exch = some { why := .takeover } ∧ t.m.fds = s.m.fds := by
  let m := updRed l (fun r => { r with wireLost := true, wireSince := none })
    (clockTo ((s.m.fresh.lane l.other).red.wireAt + 3000000) s.m.fresh)
  have phase : (m.lane l).sys.phase ≠ .starting := by simp [m, updRed, up]
  have duty := duty_declareLoss s.mem 0 phase
  have red := congrArg Duty.red duty
  have lost : (m.duty l).red.wireLost = true := by simp [m, updRed, Module.duty, Lane.duty, Red.quiet]
  refine (does_laneWireLoss (by simp [nfj8, Variant.nLane]) good (by simp [Lane.wakeable, mode, up, works, held])
    armed).ends ⟨rfl, ?_⟩
  rw [commit_m, closed_lane, closed_fds, declareLoss_fds _ _ phase]
  exact ⟨congrArg Duty.phase duty, congrArg Red.role red, (congrArg Red.wireLost red).trans lost, congrArg Red.exch red,
    by simp [m, updRed]⟩

theorem ends_vacancyPatternWake (armed : (s.m.lane l).red.patArmed = true)
    (quorum : s.m.variant.quorum ≤ (s.m.patterns l).length) : Ends (.vacancyPatternWake l) s fun t =>
      t.pending = s.pending ∧ (t.m.lane l).sys.phase = .waking ∧ (t.m.lane l).red.role = .takeover ∧
      (t.m.lane l).red.exch = some { why := .takeover } ∧ t.m.fds = s.m.fds := by
  have phase : (s.m.fresh.lane l).sys.phase ≠ .starting := by simp [up]
  have duty := duty_declareLoss s.mem 1 phase
  have red := congrArg Duty.red duty
  refine (does_vacancyPatternWake (by simp [nfj8, Variant.nLane]) good
    (by simp [Lane.wakeable, mode, up, works, held]) armed quorum).ends ⟨rfl, ?_⟩
  rw [commit_m, closed_lane, closed_fds, declareLoss_fds _ _ phase]
  exact ⟨congrArg Duty.phase duty, congrArg Red.role red, congrArg Red.exch red, fresh_fds ..⟩

end

/-! ### The trigger of the wire and the loads of a waking lane (R282, R284) -/

section
variable {s : State} {l : LaneId}

section
variable {a : Nat} (two : s.m.variant.nLane = 2) (armed : (s.m.lane l).red.patArmed = true)
  (steady : (s.m.lane l).red.wireSince = some a)
  (toggles : max s.m.now (a + 100000000) < (s.m.lane l.other).red.wireAt + 3000000)
include two armed steady toggles

theorem does_triggerRearm : Does (.triggerRearm l) s fun _ m =>
    updRed l (fun r => { r with wireArmed := true, wireLost := false }) (clockTo (max m.now (a + 100000000)) m) := by
  have b : Does (.triggerRearm l) s (triggerRearmBody l) := rfl
  have rearms : ¬ (decide (s.m.variant.nLane = 1) || !(s.m.lane l).red.patArmed ||
      decide ((s.m.lane l.other).red.wireAt + 3000000 ≤ max s.m.now (a + 100000000))) = true := by
    simp [two, armed, Nat.not_le.mpr toggles]
  refine b.congr ?_
  simp only [triggerRearmBody, fresh_lane, fresh_variant, fresh_now, steady, if_neg rearms]

theorem ends_triggerRearm : Ends (.triggerRearm l) s fun t =>
    OnlyLane l { s with m := { s.m with now := t.m.now } } t ∧ t.m.now = max s.m.now (a + 100000000) ∧
    (t.m.lane l).red = { (s.m.lane l).red with wireArmed := true, wireLost := false } := by
  refine (does_triggerRearm two armed steady toggles).ends ⟨⟨commit_mem_of_quiet _ _ ?_, rfl, ?_⟩, ?_, ?_⟩
  · simp [updRed]
  · cases l <;> exact ⟨rfl, rfl, rfl, rfl, rfl, rfl, rfl⟩
  · simp [updRed]
  · simp [updRed]

end

section
variable {e : Exchange} (waking : (s.m.lane l).sys.phase = .waking) (opened : (s.m.lane l).red.exch = some e)
include waking opened

theorem does_takeoverLoadComplete : Does (.takeoverLoadComplete l) s fun st m =>
    let L := s.m.lane l
    let m := domSettle l.num [1, 6, 7, 8, 9, 10, 11, 13, 15, 16] m
    if e.second then
      let m := adoptSlot st l L.cfg.shadowSlot m
      openExchange st l e.why (report l 10 0x6011 ((m.lane l).cfg.activeCounter % 2 ^ 32) L.cfg.shadowSlot 0 m)
    else openExchange st l e.why (readCheckpoint st l (adoptSlot st l L.cfg.activeSlot m)) := by
  have b : Does (.takeoverLoadComplete l) s (takeoverLoadCompleteBody l) := rfl
  refine b.congr ?_
  have wakes : (if (s.m.lane l).sys.phase == .waking then (s.m.lane l).red.exch else none) = some e := by
    simp [waking, opened]
  simp only [takeoverLoadCompleteBody, fresh_lane, wakes]

theorem does_takeoverLoadComplete_second (second : e.second = true) :
    Does (.takeoverLoadComplete l) s fun st m =>
      let m := domSettle l.num [1, 6, 7, 8, 9, 10, 11, 13, 15, 16] m
      let m := adoptSlot st l (s.m.lane l).cfg.shadowSlot m
      openExchange st l e.why
        (report l 10 0x6011 ((m.lane l).cfg.activeCounter % 2 ^ 32) (s.m.lane l).cfg.shadowSlot 0 m) :=
  (does_takeoverLoadComplete waking opened).congr (if_pos second)

theorem does_takeoverLoadComplete_first (first : e.second = false) :
    Does (.takeoverLoadComplete l) s fun st m =>
      let m := domSettle l.num [1, 6, 7, 8, 9, 10, 11, 13, 15, 16] m
      openExchange st l e.why (readCheckpoint st l (adoptSlot st l (s.m.lane l).cfg.activeSlot m)) :=
  (does_takeoverLoadComplete waking opened).congr (if_neg (by simp [first]))

end

/-! ### A lane that stops being active (R277, R281) -/

section
variable {m : Module} (l : LaneId)

@[simp] theorem duty_endInjection : (endInjection l m).duty = m.duty := by
  have ended : (updSys l (fun s => { s with testEnable := false }) m).duty = m.duty := duty_updLane _ _ fun _ => rfl
  simp [endInjection, ended]

@[simp] theorem duty_cancelArm (die : Nat) : (cancelArm l die m).duty = m.duty := by
  simp [cancelArm]

theorem duty_updLane_same {f : Lane → Lane} {g : Duty → Duty} (h : ∀ L, (f L).duty = g L.duty) :
    (m.updLane l f).duty l = g (m.duty l) := by
  cases l <;> exact h _

theorem frozen_of_duty {n : Module} (h : m.duty = n.duty) : m.frozen l = n.frozen l :=
  (congrArg (fun d => (d l).phase == .saving || (d l).phase == .stopped) h :)

/-- The mode of a lane that is not frozen is the one set; a frozen lane keeps its own (R316). -/
theorem duty_setMode (dest : Mode) (cause : Nat) : (setMode l dest cause m).duty l =
    ⟨if m.frozen l then (m.duty l).mode else dest, (m.duty l).phase, (m.duty l).red⟩ := by
  unfold setMode
  extract_lets was m1 m2 m3
  have kept : m1.duty = m.duty := by simp [m1]
  have set : m2.duty l = ⟨dest, (m.duty l).phase, (m.duty l).red⟩ := by
    rw [← kept]
    exact duty_updLane_same (g := fun d => ⟨dest, d.phase, d.red⟩) l fun _ => rfl
  rw [duty_ite, ite_apply, duty_ite, duty_cancelArm, ite_self]
  split
  · rfl
  · simp only [m3, duty_report, duty_raise, set]

/-- The redundancy block of a lane that stops being active. -/
def Red.left (r : Red) : Red := { r with
  role := .resync, holds := false, exch := none, ckpt := none, ckptWait := [], mirrorAt := none, mirrorDone := none
  switchAt := none, switchReady := false, finalCkpt := false, releaseAt := none, restored := none }

theorem duty_leaveActive (cause : Nat) : (leaveActive l cause m).duty l =
    ⟨if m.frozen l then (m.duty l).mode else .resync, (m.duty l).phase, (m.duty l).red.left⟩ := by
  unfold leaveActive
  extract_lets slots m1 m2 m3 m4 m5 m6
  have ended : m1.duty = m.duty := by simp [m1]
  have mode : m2.duty l = ⟨if m.frozen l then (m.duty l).mode else .resync, (m.duty l).phase, (m.duty l).red⟩ := by
    rw [duty_setMode, frozen_of_duty l ended, ended]
  have left : m3.duty l = ⟨(m2.duty l).mode, (m2.duty l).phase, (m2.duty l).red.left⟩ :=
    duty_updLane_same (g := fun d => ⟨d.mode, d.phase, d.red.left⟩) l fun _ => rfl
  have told : m5.duty = m3.duty := by simp [m5, m4]
  have peer : m6.duty l = m5.duty l := duty_updLane_other (LaneId.other_ne l).symm _
  rw [duty_domRequests, peer, told, left, mode]

/-- The redundancy block of a lane that finds a die under a higher claim (R281). -/
def Red.demoted (r : Red) (l : LaneId) (claim : Nat) (done : Bool) : Red := { r.left with
  claim := mkClaim (claimEpoch claim) l, ctrlState := if done then 2 else r.ctrlState
  ctrlReason := if done then 0 else r.ctrlReason }

theorem red_demote (claim die : Nat) : ((demote l claim die m).duty l).red =
    (m.duty l).red.demoted l claim (m.lane l).red.releaseAt.isSome := by
  unfold demote
  extract_lets r done m1 m2 m3
  have left : (m2.duty l).red = (m.duty l).red.left := by simp [m2, m1, duty_leaveActive]
  rw [duty_raise, duty_updRed_same, left]
  · rfl
  · exact fun _ => rfl

end

theorem does_selfFence (holds : (s.m.lane l).red.holds = true) (two : s.m.variant.nLane = 2) :
    Does (.selfFence l) s fun _ m =>
      let L := m.lane l
      let m := clockTo (secondNewest (L.red.frameAt.map fun a => a.getD L.sys.raisedAt) + 1000000 + L.tVacantNs) m
      let m := leaveActive l (if L.red.releaseAt.isSome then 8 else 7)
        (report l 10 0x6004 L.red.claim (m.reachBits l) 0 (dropIntake l m))
      raise l 10 4 (updRed l (fun r => { r with selfFenced := true }) m) := by
  have b : Does (.selfFence l) s (selfFenceBody l) := rfl
  exact b.congr (if_neg (by simp [holds, two]))

theorem ends_selfFence (holds : (s.m.lane l).red.holds = true) (two : s.m.variant.nLane = 2)
    (runs : s.m.frozen l = false) : Ends (.selfFence l) s fun t => t.pending = s.pending ∧
      (t.m.lane l).red.holds = false ∧ (t.m.lane l).red.selfFenced = true ∧ (t.m.lane l).red.role = .resync ∧
      (t.m.lane l).sys.mode = .resync := by
  let m := clockTo (secondNewest ((s.m.fresh.lane l).red.frameAt.map fun a => a.getD (s.m.fresh.lane l).sys.raisedAt) +
    1000000 + (s.m.fresh.lane l).tVacantNs) s.m.fresh
  let told := report l 10 0x6004 (s.m.fresh.lane l).red.claim (m.reachBits l) 0 (dropIntake l m)
  have kept : told.duty = s.m.duty := by simp [told, m]
  have duty : (raise l 10 4 (updRed l (fun r => { r with selfFenced := true })
      (leaveActive l (if (s.m.fresh.lane l).red.releaseAt.isSome then 8 else 7) told))).duty l =
      ⟨.resync, (s.m.duty l).phase, { (s.m.duty l).red.left with selfFenced := true }⟩ := by
    rw [duty_raise, duty_updRed_same, duty_leaveActive, frozen_of_duty l kept, runs, kept]
    · rfl
    · exact fun _ => rfl
  have red := congrArg Duty.red duty
  refine (does_selfFence holds two).ends ⟨rfl, ?_⟩
  rw [commit_m, closed_lane]
  exact ⟨congrArg Red.holds red, congrArg Red.selfFenced red, congrArg Red.role red, congrArg Duty.mode duty⟩

/-! ### Frames from the dies (R281) -/

/-- A lane with a frame of a field die taken in: the frame kept, and what its axes mean to the governor. -/
def frameTaken (l : LaneId) (d : Nat) (f : InFrame) (m : Module) : Module :=
  let fresh := decide ((m.lane l).cfg.applyInstant ≤ f.tick)
  admissionFrame l f (m.updLane l fun L => { L with
    frames := upd L.frames d fun _ => some f, heard := upd L.heard d fun _ => true
    red := { L.red with frameAt := upd L.red.frameAt d fun _ => some m.now }
    prg := { L.prg with nyv := if fresh then L.prg.nyv.filter (fun c => c / 64 != d) else L.prg.nyv } })

/-- A lane that waits after its takeover for the frames of the dies `w`; with the last of them its save begins. -/
def framesAwaited (l : LaneId) (w : List Nat) (m : Module) : Module :=
  let m := m.updLane l fun L => { L with mtr := { L.mtr with takeoverWait := if w.isEmpty then none else some w } }
  if w.isEmpty then saveStart l 3 m else m

/-- A lane that takes a frame in, and one die the fewer whose frame it waits for. -/
def frameHeard (l : LaneId) (d : Nat) (f : InFrame) (m : Module) : Module :=
  let m := frameTaken l d f m
  match (m.lane l).mtr.takeoverWait with
  | none => m
  | some w => framesAwaited l (w.filter (· != d)) m

/-- What a lane keeps of the frames, as it stands in the lane and in the redundancy block. -/
structure Framed where
  frames : List (Option InFrame)
  heard : List Bool
  wait : Option (List Nat)
  red : Red

def Lane.framed (L : Lane) : Framed := ⟨L.frames, L.heard, L.mtr.takeoverWait, L.red⟩

section
variable (m : Module)

/-- An interrupt of the metering block leaves the redundancy block as it is. -/
theorem red_raiseMtr (n : Nat) : ((raise l 9 n m).lane l).red = (m.lane l).red := by
  have set : ((m.updLane l fun L => L.setIrq 9 (((m.lane l).irqOf 9).1 ||| word n)).lane l).red = (m.lane l).red := by
    rw [lane_updLane]
    rfl
  simp only [raise]
  split
  · exact set
  · rw [sendMsi_lane_red, set]

theorem red_saveStart : ((saveStart l 3 m).lane l).red = (m.lane l).red := by
  have told (xs : List Nat) (seq : Nat) (m : Module) : ((forEach xs (fun d m =>
      report l 9 0x5003 (fdId d) seq 0 (raise l 9 2 m)) m).lane l).red = (m.lane l).red :=
    forEach_part (fun m => (m.lane l).red) _ _ (fun d m => by rw [report_lane_red, red_raiseMtr]) m
  simp [saveStart, told]

theorem framed_saveStart : ((saveStart l 3 m).lane l).framed = (m.lane l).framed := by
  have begun := lane_of_blank (blank_saveStart l m 3) l
  have same : ((saveBegun l 3 m).lane l).framed = (m.lane l).framed := by
    simp [saveBegun, saveNumbered, Lane.framed]
  rw [← same]
  simp only [Lane.framed, Framed.mk.injEq, red_saveStart]
  exact ⟨(congrArg Lane.frames begun :), (congrArg Lane.heard begun :), (congrArg (·.mtr.takeoverWait) begun :),
    (congrArg Framed.red same).symm⟩

theorem framed_frameTaken (d : Nat) (f : InFrame) : ((frameTaken l d f m).lane l).framed =
    ⟨upd (m.lane l).frames d fun _ => some f, upd (m.lane l).heard d fun _ => true, (m.lane l).mtr.takeoverWait,
      { (m.lane l).red with frameAt := upd (m.lane l).red.frameAt d fun _ => some m.now }⟩ := by
  simp [frameTaken, admissionFrame, Lane.framed]

theorem framed_framesAwaited (w : List Nat) : ((framesAwaited l w m).lane l).framed =
    ⟨(m.lane l).frames, (m.lane l).heard, (some w).filter (· ≠ []), (m.lane l).red⟩ := by
  cases w with
  | nil =>
    refine (framed_saveStart _).trans ?_
    rw [lane_updLane]
    rfl
  | cons d w =>
    rw [framesAwaited, if_neg (by simp), lane_updLane]
    rfl

theorem framed_frameHeard (d : Nat) (f : InFrame) : ((frameHeard l d f m).lane l).framed =
    ⟨upd (m.lane l).frames d fun _ => some f, upd (m.lane l).heard d fun _ => true,
      ((m.lane l).mtr.takeoverWait.map (·.filter (· != d))).filter (· ≠ []),
      { (m.lane l).red with frameAt := upd (m.lane l).red.frameAt d fun _ => some m.now }⟩ := by
  have taken := framed_frameTaken (l := l) m d f
  have wait : ((frameTaken l d f m).lane l).mtr.takeoverWait = (m.lane l).mtr.takeoverWait := congrArg Framed.wait taken
  unfold frameHeard
  dsimp only
  split
  next none =>
    rw [taken, ← wait, none]
    rfl
  next w some =>
    rw [framed_framesAwaited, ← wait, some]
    exact congrArg (fun x => (⟨x.frames, x.heard, _, x.red⟩ : Framed)) taken

theorem mail_saveStart : (saveStart l 3 m).mail = m.mail := by
  rw [mail_of_blank (blank_saveStart ..)]
  simp [saveBegun, saveNumbered]

theorem nvmOut_saveStart : (saveStart l 3 m).nvmOut = m.nvmOut := by
  rw [nvmOut_of_blank (blank_saveStart ..), nvmOut_saveBegun]

/-- A frame that is taken in sends nothing and stores nothing. -/
theorem frameHeard_quiet (d : Nat) (f : InFrame) :
    (frameHeard l d f m).mail = m.mail ∧ (frameHeard l d f m).nvmOut = m.nvmOut := by
  have taken : (frameTaken l d f m).mail = m.mail ∧ (frameTaken l d f m).nvmOut = m.nvmOut := by
    simp [frameTaken, admissionFrame]
  unfold frameHeard
  dsimp only
  split
  · exact taken
  · unfold framesAwaited
    dsimp only
    split <;> simp [mail_saveStart, nvmOut_saveStart, taken]

end

section
variable {d : Nat} {f : InFrame} {rest : List Mail} (hmail : s.m.mail = ⟨4 + d, l.num, .frame f⟩ :: rest)
  (holds : (s.m.lane l).red.holds = true) (reach : s.m.fdReach l d = true)
include hmail holds reach

/-- A frame that reaches the lane that holds the claim, by the claim that the die obeys (R281). -/
theorem does_inputFrameReceived : Does (.inputFrameReceived l d) s fun _ m =>
    if (m.lane l).red.claim < f.claim then demote l f.claim (4 + d) (m.withMail rest)
    else frameHeard l d f (m.withMail rest) := by
  have b : Does (.inputFrameReceived l d) s (inputFrameReceivedBody l d) := rfl
  refine b.congr ?_
  simp only [inputFrameReceivedBody, fresh_mail, hmail, fdId]
  rw [takeMail_front (a := f) rfl]
  have meant : ¬ (!((s.m.fresh.withMail rest).lane l).red.holds || !(s.m.fresh.withMail rest).fdReach l d) = true := by
    simp [holds, reach]
  refine (if_neg meant).trans ?_
  cases l <;> rfl

theorem does_inputFrameReceived_higher (higher : (s.m.lane l).red.claim < f.claim) : Does (.inputFrameReceived l d) s
    fun _ m => demote l f.claim (4 + d) (m.withMail rest) :=
  (does_inputFrameReceived hmail holds reach).congr (if_pos (by simpa using higher))

theorem ends_inputFrameReceived_higher (higher : (s.m.lane l).red.claim < f.claim) :
    Ends (.inputFrameReceived l d) s fun t => (t.m.lane l).red.holds = false ∧ (t.m.lane l).red.role = .resync ∧
      (t.m.lane l).red.claim = mkClaim (claimEpoch f.claim) l := by
  have red := red_demote (m := s.m.fresh.withMail rest) l f.claim (4 + d)
  refine (does_inputFrameReceived_higher hmail holds reach higher).ends ?_
  rw [commit_m, closed_lane]
  exact ⟨congrArg Red.holds red, congrArg Red.role red, congrArg Red.claim red⟩

theorem does_inputFrameReceived_taken (obeyed : f.claim ≤ (s.m.lane l).red.claim) : Does (.inputFrameReceived l d) s
    fun _ m => frameHeard l d f (m.withMail rest) :=
  (does_inputFrameReceived hmail holds reach).congr (if_neg (by simpa using obeyed))

theorem ends_inputFrameReceived_taken (obeyed : f.claim ≤ (s.m.lane l).red.claim) :
    Ends (.inputFrameReceived l d) s fun t => SameStores s t ∧ t.m.mail = rest ∧
      (t.m.lane l).frames = upd (s.m.lane l).frames d (fun _ => some f) ∧
      (t.m.lane l).heard = upd (s.m.lane l).heard d (fun _ => true) ∧
      (t.m.lane l).mtr.takeoverWait = ((s.m.lane l).mtr.takeoverWait.map (·.filter (· != d))).filter (· ≠ []) ∧
      (t.m.lane l).red = { (s.m.lane l).red with frameAt := upd (s.m.lane l).red.frameAt d fun _ => some s.m.now } := by
  obtain ⟨mail, quiet⟩ := frameHeard_quiet (l := l) (s.m.fresh.withMail rest) d f
  have framed := framed_frameHeard (l := l) (s.m.fresh.withMail rest) d f
  simp only [withMail_lane, fresh_lane] at framed
  refine (does_inputFrameReceived_taken hmail holds reach obeyed).ends ⟨⟨commit_mem_of_quiet _ _ quiet, rfl⟩, mail, ?_⟩
  rw [commit_m, closed_lane]
  exact ⟨congrArg Framed.frames framed, congrArg Framed.heard framed, congrArg Framed.wait framed,
    congrArg Framed.red framed⟩

end

end

/-- Settles O15: a wake by what the lane finds armed, a load by which image it reads, and a frame by the claim in it. -/
theorem lossOfALaneActs : Obligations.LossOfALaneActs := by
  intro s l
  exact ⟨fun nfj8 good armed mode up works held => ends_laneWireLoss nfj8 good mode up works held armed,
    fun nfj8 good armed mode up works held quorum =>
      ends_vacancyPatternWake nfj8 good mode up works held armed quorum,
    fun two good wakeable => ⟨does_laneWireLoss two good wakeable, does_vacancyPatternWake two good wakeable⟩,
    fun a two armed steady toggles => ⟨ends_triggerRearm two armed steady toggles,
      does_triggerRearm two armed steady toggles⟩,
    fun e waking opened second => does_takeoverLoadComplete_second waking opened second,
    does_selfFence,
    fun e waking opened first => does_takeoverLoadComplete_first waking opened first,
    ends_selfFence,
    fun d f rest hmail holds reach obeyed => ⟨ends_inputFrameReceived_taken hmail holds reach obeyed,
      does_inputFrameReceived_taken hmail holds reach obeyed⟩,
    fun d f rest hmail holds reach higher => ⟨ends_inputFrameReceived_higher hmail holds reach higher,
      does_inputFrameReceived_higher hmail holds reach higher⟩⟩

end Sys2Proof.Machine
end

section
/-! The switchover of the lanes and TAKE (R296, R297). -/

namespace Sys2Proof.Machine

/-! ### An order for a switchover (R296 step 1) -/

/-- A switchover that starts: the lane is switching, and its peer prepares. -/
def switchStarted (l : LaneId) (m : Module) : Module :=
  let m := updRed l (fun r => { r with
    ctrlState := 1, ctrlReason := 0, switchAt := some m.now, switchReady := false, role := .switching }) m
  let m := report l 10 0x600E (m.lane l).red.claim 0 0 m
  wakeDoms l.other (updRed l.other (fun r => { r with prepare := true }) m)

theorem duty_switchStarted (l : LaneId) (m : Module) : ((switchStarted l m).duty l).red =
    { (m.duty l).red with
      ctrlState := 1, ctrlReason := 0, switchAt := some m.now, switchReady := false, role := .switching } := by
  unfold switchStarted
  dsimp only
  rw [duty_wakeDoms, updRed, duty_updLane_other (LaneId.other_ne l).symm, duty_report, duty_updRed_same]
  exact fun _ => rfl

theorem duty_switchStarted_other (l : LaneId) (m : Module) : ((switchStarted l m).duty l.other).red.prepare = true := by
  unfold switchStarted
  dsimp only
  rw [duty_wakeDoms, duty_updRed_same]
  exact fun _ => rfl

theorem fresh_switchRefusal (m : Module) (l : LaneId) : switchRefusal m.fresh l = switchRefusal m l := by
  cases l <;> rfl

section
variable {s : State} {l : LaneId} {v : View} (heard : Heard s l v) (nfj8 : s.m.variant = .nfj8)
  (idle : (s.m.lane l).red.ctrlState ≠ 1)
include heard nfj8 idle

theorem does_switchover : Does (.switchover l v) s fun _ m =>
    if switchRefusal s.m l ≠ 0 then
      updRed l (fun r => { r with ctrlState := 3, ctrlReason := switchRefusal s.m l }) m
    else switchStarted l m := by
  have b : Does (.switchover l v) s (switchoverBody l v) := rfl
  refine b.congr ((guardWrite_heard heard _).trans ((if_neg ?_).trans ?_))
  · simp [nfj8, Variant.nLane, idle]
  · rw [fresh_switchRefusal]
    rfl

theorem does_switchover_refused (refused : switchRefusal s.m l ≠ 0) : Does (.switchover l v) s fun _ m =>
    updRed l (fun r => { r with ctrlState := 3, ctrlReason := switchRefusal s.m l }) m :=
  (does_switchover heard nfj8 idle).congr (if_pos refused)

theorem ends_switchover_refused (refused : switchRefusal s.m l ≠ 0) : Ends (.switchover l v) s fun t => OnlyLane l s t ∧
    (t.m.lane l).red = { (s.m.lane l).red with ctrlState := 3, ctrlReason := switchRefusal s.m l } := by
  obtain ⟨t, next, only, lane⟩ := (does_switchover_refused heard nfj8 idle refused).ends_laneWrite rfl
  exact ⟨t, next, only, congrArg Lane.red lane⟩

theorem does_switchover_started (free : switchRefusal s.m l = 0) :
    Does (.switchover l v) s fun _ m => switchStarted l m :=
  (does_switchover heard nfj8 idle).congr (if_neg (by simp [free]))

theorem ends_switchover_started (free : switchRefusal s.m l = 0) : Ends (.switchover l v) s fun t =>
    t.pending = s.pending ∧ (t.m.lane l).red.ctrlState = 1 ∧ (t.m.lane l).red.role = .switching ∧
    (t.m.lane l).red.switchAt = some s.m.now ∧ (t.m.lane l.other).red.prepare = true := by
  have red := duty_switchStarted l s.m.fresh
  refine (does_switchover_started heard nfj8 idle free).ends ⟨rfl, ?_⟩
  rw [commit_m, closed_lane, closed_lane]
  exact ⟨congrArg Red.ctrlState red, congrArg Red.role red, congrArg Red.switchAt red,
    duty_switchStarted_other l s.m.fresh⟩

end

/-! ### READY and its absence (R296 steps 2 and 5) -/

/-- A peer that reads its slot leaves the configuration block of a lane as it is. -/
theorem cfg_adoptSlot_peer (st : Store) (l : LaneId) (slot : Nat) (m : Module) :
    ((adoptSlot st l.other slot m).lane l).cfg = (m.lane l).cfg := by
  have peer (f : Cfg → Cfg) (m : Module) : ((updCfg l.other f m).lane l).cfg = (m.lane l).cfg := by cases l <;> rfl
  have read : ((spend 1 l.other (slotUses (m.lane l.other) (st.mram l.other) slot) (nvmRead l.other (provBase slot) 1024
      (nvmRead l.other (imageBase slot) (slotBytes (st.mram l.other) slot).length m))).lane l).cfg = (m.lane l).cfg :=
    cfg_of_core (by simp) l
  unfold adoptSlot adoptImage
  dsimp only
  split
  · rw [cfg_imageRegs, peer, read]
  · rw [peer, read]

/-- The peer with its domains up and its active slot read. -/
def peerPrepared (st : Store) (l : LaneId) (m : Module) : Module :=
  adoptSlot st l.other (m.lane l.other).cfg.activeSlot
    (domSettle l.other.num [1, 6, 7, 8, 9, 10, 11, 13, 15, 16] m)

section
variable {s : State} {l : LaneId} {at_ : Nat} (ordered : (s.m.lane l).red.switchAt = some at_)
  (under : (s.m.lane l).red.ctrlState = 1) (waits : (s.m.lane l).red.switchReady = false)
include ordered under waits

section
variable (prepares : (s.m.lane l.other).red.prepare = true) (stands : s.m.peerAt l .standby = true)
  (intime : s.m.now ≤ at_ + 250000000)
include prepares stands intime

theorem does_switchoverReady : Does (.switchoverReady l) s fun st m =>
    let m := peerPrepared st l m
    if (m.lane l.other).cfg.activeDigest = (m.lane l).cfg.activeDigest then
      updRed l (fun r => { r with switchReady := true }) m
    else m := by
  have b : Does (.switchoverReady l) s (switchoverReadyBody l) := rfl
  have peer : s.m.fresh.peerAt l .standby = true := (by cases l <;> exact stands)
  have judged : ¬ (decide ((s.m.lane l).red.ctrlState ≠ 1) || (s.m.lane l).red.switchReady ||
      !(s.m.lane l.other).red.prepare || !s.m.fresh.peerAt l .standby || decide (at_ + 250000000 < s.m.now)) = true := by
    simp [under, waits, prepares, peer, Nat.not_lt.mpr intime]
  have settled : ((domSettle l.other.num [1, 6, 7, 8, 9, 10, 11, 13, 15, 16] s.m.fresh).lane l.other).cfg =
      (s.m.lane l.other).cfg := by rw [cfg_of_blank (blank_domSettle ..), fresh_lane]
  refine b.congr ?_
  simp only [switchoverReadyBody, fresh_lane, fresh_now, ordered, if_neg judged, beq_iff_eq, peerPrepared, settled]

theorem ends_switchoverReady : Ends (.switchoverReady l) s fun t => t.pending = s.pending ∧
    (t.m.lane l).red.switchReady =
      decide ((t.m.lane l.other).cfg.activeDigest = (s.m.lane l).cfg.activeDigest) := by
  let m := peerPrepared s.mem l s.m.fresh
  have own : (m.lane l).cfg = (s.m.lane l).cfg := by
    simp only [m, peerPrepared, cfg_adoptSlot_peer]
    rw [cfg_of_blank (blank_domSettle ..), fresh_lane]
  have kept : (m.lane l).red.switchReady = false := by
    have duty : m.duty = s.m.duty := by simp [m, peerPrepared]
    exact (congrArg (fun d => (d l).red.switchReady) duty).trans waits
  refine (does_switchoverReady ordered under waits prepares stands intime).ends ⟨rfl, ?_⟩
  rw [commit_m, closed_lane, closed_lane, ← own]
  by_cases same : (m.lane l.other).cfg.activeDigest = (m.lane l).cfg.activeDigest
  · dsimp only
    rw [if_pos same]
    simpa [updRed] using same
  · dsimp only
    rw [if_neg same, kept]
    simpa using same

end

theorem does_switchoverReadyTimeout : Does (.switchoverReadyTimeout l) s fun _ m =>
    abortSwitch l 7 (clockTo (at_ + 250000000) m) := by
  have b : Does (.switchoverReadyTimeout l) s (switchoverReadyTimeoutBody l) := rfl
  refine b.congr ?_
  simp only [switchoverReadyTimeoutBody, fresh_lane, ordered]
  exact if_neg (by simp [under, waits])

end

/-- The redundancy block of a lane whose switchover is given up for a reason. -/
def Red.switchAborted (r : Red) (reason : Nat) : Red := { r with
  ctrlState := 3, ctrlReason := reason, switchAt := none, switchReady := false, finalCkpt := false, role := .active }

section
variable (l : LaneId) (reason : Nat) (m : Module)

theorem abortSwitch_eq : ∃ n : Module, n.blank = (updRed l (Red.switchAborted · reason) m).blank ∧
    (abortSwitch l reason m).blank = (updRed l.other (fun r => { r with prepare := false }) n).blank := by
  refine ⟨report l 10 0x600F reason 0 0 (raise l 10 16 (updRed l (Red.switchAborted · reason) m)), by simp, ?_⟩
  unfold abortSwitch
  dsimp only
  split
  · exact blank_domRequests ..
  · rfl

theorem duty_abortSwitch : ((abortSwitch l reason m).duty l).red = (m.duty l).red.switchAborted reason := by
  obtain ⟨n, told, rests⟩ := abortSwitch_eq l reason m
  rw [duty_of_blank rests, updRed, duty_updLane_other (LaneId.other_ne l).symm, duty_of_blank told, duty_updRed_same]
  exact fun _ => rfl

theorem duty_abortSwitch_other : ((abortSwitch l reason m).duty l.other).red.prepare = false := by
  obtain ⟨n, -, rests⟩ := abortSwitch_eq l reason m
  rw [duty_of_blank rests, duty_updRed_same]
  exact fun _ => rfl

theorem now_abortSwitch : (abortSwitch l reason m).now = m.now := by
  obtain ⟨n, told, rests⟩ := abortSwitch_eq l reason m
  rw [now_of_blank rests, updRed, updLane_now, now_of_blank told, updRed, updLane_now]

end

theorem ends_switchoverReadyTimeout {s : State} {l : LaneId} {at_ : Nat} (ordered : (s.m.lane l).red.switchAt = some at_)
    (under : (s.m.lane l).red.ctrlState = 1) (waits : (s.m.lane l).red.switchReady = false) :
    Ends (.switchoverReadyTimeout l) s fun t => t.m.now = max s.m.now (at_ + 250000000) ∧
      (t.m.lane l).red.ctrlState = 3 ∧ (t.m.lane l).red.ctrlReason = 7 ∧ (t.m.lane l).red.role = .active ∧
      (t.m.lane l).red.switchAt = none ∧ (t.m.lane l.other).red.prepare = false := by
  have red := duty_abortSwitch l 7 (clockTo (at_ + 250000000) s.m.fresh)
  refine (does_switchoverReadyTimeout ordered under waits).ends ?_
  rw [commit_m, closed_now, closed_lane, closed_lane, now_abortSwitch]
  exact ⟨by simp, congrArg Red.ctrlState red, congrArg Red.ctrlReason red, congrArg Red.role red,
    congrArg Red.switchAt red, duty_abortSwitch_other ..⟩

/-- A switchover that is not taken up is taken back (R296 step 6). -/
theorem does_switchoverRevertTimeout {s : State} {l : LaneId} {at_ : Nat}
    (released : (s.m.lane l).red.releaseAt = some at_) (holds : (s.m.lane l).red.holds = true)
    (shut : (s.m.lane l).red.exch = none) :
    Does (.switchoverRevertTimeout l) s fun st m => openExchange st l .revert (clockTo (at_ + 250000000) m) := by
  have b : Does (.switchoverRevertTimeout l) s (switchoverRevertTimeoutBody l) := rfl
  refine b.congr ?_
  simp only [switchoverRevertTimeoutBody, fresh_lane, released]
  exact if_neg (by simp [holds, shut])

/-! ### TAKE (R297) -/

/-- A lane that TAKE wakes. -/
def takeStarted (l : LaneId) (m : Module) : Module :=
  let m := updRed l (fun r => { r with
    ctrlState := 1, ctrlReason := 0, role := .takeover, exch := some { why := .take } }) m
  wakeDoms l (updSys l (fun x => { x with phase := .waking }) m)

theorem duty_takeStarted (l : LaneId) (m : Module) : (takeStarted l m).duty l = ⟨(m.duty l).mode, .waking,
    { (m.duty l).red with ctrlState := 1, ctrlReason := 0, role := .takeover, exch := some { why := .take } }⟩ := by
  unfold takeStarted
  dsimp only
  rw [duty_wakeDoms, duty_updPhase, duty_updRed_same]
  exact fun _ => rfl

theorem rests_iff {mode : Mode} : mode.rests = true ↔ mode ∈ [.standby, .resync] := by
  cases mode <;> decide

section
variable {s : State} {l : LaneId} {v : View} (heard : Heard s l v) (nfj8 : s.m.variant = .nfj8)
  (idle : (s.m.lane l).red.ctrlState ≠ 1)
include heard nfj8 idle

theorem does_takeLane : Does (.takeLane l v) s fun _ m =>
    let L := s.m.lane l
    if !L.sys.mode.rests || L.sys.phase != .up then updRed l (fun r => { r with ctrlState := 3, ctrlReason := 3 }) m
    else if s.m.peerCode l = 1 then updRed l (fun r => { r with ctrlState := 3, ctrlReason := 5 }) m
    else takeStarted l m := by
  have b : Does (.takeLane l v) s (takeLaneBody l v) := rfl
  have code : s.m.fresh.peerCode l = s.m.peerCode l := by cases l <;> rfl
  refine b.congr ((guardWrite_heard heard _).trans ((if_neg ?_).trans ?_))
  · simp [nfj8, Variant.nLane, idle]
  · rw [code, fresh_lane]
    rfl

theorem does_takeLane_elsewhere (mode : (s.m.lane l).sys.mode ∉ [.standby, .resync]) : Does (.takeLane l v) s fun _ m =>
    updRed l (fun r => { r with ctrlState := 3, ctrlReason := 3 }) m :=
  (does_takeLane heard nfj8 idle).congr (if_pos (by simp [eq_false_of_ne_true (mt rests_iff.mp mode)]))

theorem ends_takeLane_elsewhere (mode : (s.m.lane l).sys.mode ∉ [.standby, .resync]) : Ends (.takeLane l v) s fun t =>
    OnlyLane l s t ∧ (t.m.lane l).red = { (s.m.lane l).red with ctrlState := 3, ctrlReason := 3 } := by
  obtain ⟨t, next, only, lane⟩ := (does_takeLane_elsewhere heard nfj8 idle mode).ends_laneWrite rfl
  exact ⟨t, next, only, congrArg Lane.red lane⟩

section
variable (mode : (s.m.lane l).sys.mode ∈ [.standby, .resync]) (up : (s.m.lane l).sys.phase = .up)
include mode up

theorem does_takeLane_refused (works : s.m.peerCode l = 1) : Does (.takeLane l v) s fun _ m =>
    updRed l (fun r => { r with ctrlState := 3, ctrlReason := 5 }) m :=
  (does_takeLane heard nfj8 idle).congr ((if_neg (by simp [rests_iff.mpr mode, up])).trans (if_pos works))

theorem ends_takeLane_refused (works : s.m.peerCode l = 1) : Ends (.takeLane l v) s fun t =>
    OnlyLane l s t ∧ (t.m.lane l).red = { (s.m.lane l).red with ctrlState := 3, ctrlReason := 5 } := by
  obtain ⟨t, next, only, lane⟩ := (does_takeLane_refused heard nfj8 idle mode up works).ends_laneWrite rfl
  exact ⟨t, next, only, congrArg Lane.red lane⟩

theorem does_takeLane_started (gone : s.m.peerCode l ≠ 1) : Does (.takeLane l v) s fun _ m => takeStarted l m :=
  (does_takeLane heard nfj8 idle).congr ((if_neg (by simp [rests_iff.mpr mode, up])).trans (if_neg gone))

theorem ends_takeLane_started (gone : s.m.peerCode l ≠ 1) : Ends (.takeLane l v) s fun t => t.pending = s.pending ∧
    (t.m.lane l).sys.phase = .waking ∧ (t.m.lane l).red.role = .takeover ∧ (t.m.lane l).red.ctrlState = 1 ∧
    (t.m.lane l).red.exch = some { why := .take } := by
  have duty := duty_takeStarted l s.m.fresh
  have red := congrArg Duty.red duty
  refine (does_takeLane_started heard nfj8 idle mode up gone).ends ⟨rfl, ?_⟩
  rw [commit_m, closed_lane]
  exact ⟨congrArg Duty.phase duty, congrArg Red.role red, congrArg Red.ctrlState red, congrArg Red.exch red⟩

end

end

/-- Settles O16: an order by what refuses it, READY by the peer's image, and a TAKE by the lane's mode and its peer. -/
theorem switchoverAndTakeAct : Obligations.SwitchoverAndTakeAct := by
  intro s l v
  exact ⟨fun heard nfj8 idle refused => ⟨ends_switchover_refused heard nfj8 idle refused,
      does_switchover_refused heard nfj8 idle refused⟩,
    fun heard nfj8 idle free => ⟨ends_switchover_started heard nfj8 idle free,
      does_switchover_started heard nfj8 idle free⟩,
    fun at_ ordered under waits prepares stands intime =>
      ⟨ends_switchoverReady ordered under waits prepares stands intime,
        does_switchoverReady ordered under waits prepares stands intime⟩,
    fun at_ ordered under waits => ⟨ends_switchoverReadyTimeout ordered under waits,
      does_switchoverReadyTimeout ordered under waits⟩,
    fun at_ released holds shut => does_switchoverRevertTimeout released holds shut,
    fun heard nfj8 idle mode up gone => ⟨ends_takeLane_started heard nfj8 idle mode up gone,
      does_takeLane_started heard nfj8 idle mode up gone⟩,
    fun heard nfj8 idle mode up works => ⟨ends_takeLane_refused heard nfj8 idle mode up works,
      does_takeLane_refused heard nfj8 idle mode up works⟩,
    fun heard nfj8 idle mode => ⟨ends_takeLane_elsewhere heard nfj8 idle mode,
      does_takeLane_elsewhere heard nfj8 idle mode⟩⟩

end Sys2Proof.Machine
end

section
/-! The shape of a step: every command is a commit of one body, a commit keeps the queue and the canonical stores
(chapter 14, chapter 19; log entries 1 and 2). -/

namespace Sys2Proof.Machine

/-- Every command answers a next state, the commit of what the command does. -/
theorem exec_commits (i : Instr) (s : State) : ∃ body, exec i s = .next (commit s body) := by
  cases i
  all_goals exact ⟨_, rfl⟩

/-- What is put out for a store enters it byte by byte, which keeps every store canonical. -/
theorem wf_program (st : Store) (ps : List (Nat × Nat × Bytes)) (sound : st.wf = true) :
    (Store.program st ps).wf = true := by
  induction ps generalizing st with
  | nil => exact sound
  | cons p ps ih =>
    obtain ⟨k, a, bs⟩ := p
    simp only [Store.wf, Bool.and_eq_true] at sound
    obtain ⟨⟨wfA, wfB⟩, wfHost⟩ := sound
    apply ih
    split_ifs <;> simp [Store.wf, wfA, wfB, wfHost, wf_writes]

theorem inv_commit {s : State} (body : Store → Module → Module) (sound : s.Inv) : (commit s body).Inv :=
  wf_program s.mem _ sound

theorem inv_of_exec {s t : State} {i : Instr} (sound : s.Inv) (next : exec i s = .next t) : t.Inv := by
  obtain ⟨body, eq⟩ := exec_commits i s
  rw [eq] at next
  cases next
  exact inv_commit body sound

theorem step_of_pending {s : State} {c : Instr} {rest : List Instr} (queue : s.pending = c :: rest) :
    step s = exec c { s with pending := rest } := by
  simp only [step, queue]

theorem step_of_idle {s : State} (queue : s.pending = []) : step s = .next s.idle := by
  simp only [step, queue]

/-- Settles O57: a step idles or commits a command's body, and a commit only writes bytes into the stores. -/
theorem stepKeepsTheStoresCanonical : Obligations.StepKeepsTheStoresCanonical := by
  intro s t sound next
  cases queue : s.pending with
  | nil =>
    rw [step_of_idle queue] at next
    cases next
    exact sound
  | cons c rest =>
    rw [step_of_pending queue] at next
    exact inv_of_exec (s := { s with pending := rest }) sound next

/-- Settles O55: by the queue's front. -/
theorem stepRunsTheFront : Obligations.StepRunsTheFront :=
  fun _ _ => ⟨step_of_pending rfl, fun _ => step_of_pending⟩

/-- Settles O56: an empty queue idles, and a command's commit keeps the queue and closes what it put out. -/
theorem everyCommandAnswers : Obligations.EveryCommandAnswers := by
  refine ⟨fun _ => step_of_idle, fun i s => ?_⟩
  obtain ⟨body, next⟩ := exec_commits i s
  exact ⟨commit s body, next, commit_pending s body, closed_nvmOut _⟩

end Sys2Proof.Machine
end

section
/-! A refill of a bucket whose summary finds the intake queue full (R392, R394). -/

namespace Sys2Proof.Machine

/-- A record of code 1 in a queue. -/
def waitingRecord : EvRec := { code := 1 }

/-- Lane A with its SYS domain ON, a list of records in the intake queue and one record suppressed against code 1. -/
def floodedLane (queue : List EvRec) : State := { m := {
  laneA := { pwr := { doms := [{}, { state := .on }] }
             evr := { intake := queue, buckets := [{ code := 1, tokens := 0, suppressed := 1 }] } } } }

/-- A record that finds 1 024 others in the intake queue is suppressed (R394). -/
theorem intake_enqueue_full {e : Evr} (r : EvRec) (full : e.intake.length = 1024) :
    (e.enqueue false r).intake = e.intake := by
  simp [Evr.enqueue, full, Evr.suppress, Evr.setBucket]

theorem intake_setBucket (e : Evr) (b : Bucket) : (e.setBucket b).intake = e.intake := rfl

/-- The summary of a refill that finds the queue full is suppressed in its turn (R392, R394). -/
theorem intake_bucketRefill_full {l : LaneId} {code : Nat} {st : Store} {m : Module}
    (known : (m.lane l).evr.buckets.any (·.code == code) = true) (left : ((m.lane l).evr.bucket code).suppressed ≠ 0)
    (on : (m.lane l).sysOn = true) (full : (m.lane l).evr.intake.length = 1024) :
    ((bucketRefillBody l code st m).lane l).evr.intake = (m.lane l).evr.intake := by
  simp only [bucketRefillBody, known, Bool.not_true, Bool.false_eq_true, if_false, left, lane_updLane, clockTo_lane]
  change (Evr.enqueue _ (!(m.lane l).sysOn) _).intake = _
  rw [on, Bool.not_true, intake_enqueue_full _ (by exact full), intake_setBucket]

theorem floodedLane_intake {queue : List EvRec} (full : queue.length = 1024) :
    ((commit (floodedLane queue) (bucketRefillBody .A 1)).m.lane .A).evr.intake = queue := by
  rw [commit_m, closed_lane]
  exact intake_bucketRefill_full rfl Nat.one_ne_zero rfl full

/-- Refutes O43: the statement has the summary of a refill enter the intake queue whatever stands there, but at
`floodedLane` of 1 024 records the queue is full and the summary is suppressed. -/
theorem not_recorderCommandsAct : ¬ Obligations.RecorderCommandsAct := by
  unfold Obligations.RecorderCommandsAct
  intro h
  have full : (List.replicate 1024 waitingRecord).length = 1024 := List.length_replicate
  generalize List.replicate 1024 waitingRecord = queue at full
  obtain ⟨-, -, refills, -⟩ := h (floodedLane queue) .A
  obtain ⟨t, ends, -, -, r, -, -, -, -, intake⟩ := refills 1 rfl Nat.one_pos rfl
  cases ends
  have longer : queue = queue ++ [r] := (floodedLane_intake full).symm.trans intake
  simp at longer

end Sys2Proof.Machine
end

section
/-! What the recorder writes next (R302, R385, R386, R389, R394, R396, R397). -/

namespace Sys2Proof.Machine

/-! ### A lane whose contents are known -/

theorem updLane_eq_of_lane {m : Module} {l : LaneId} {f g : Lane → Lane} (same : f (m.lane l) = g (m.lane l)) :
    m.updLane l f = m.updLane l g := by
  cases l <;> simp_all [Module.updLane, Module.lane]

/-! ### Whether the recorder can program -/

@[simp] theorem fresh_canRecord (m : Module) (l : LaneId) : m.fresh.canRecord l = m.canRecord l := by cases l <;> rfl

theorem canRecord_iff (m : Module) (l : LaneId) : m.canRecord l = true ↔
    (m.lane l).evr.known = true ∧ (m.lane l).nvmOn = true ∧ (m.lane l).sys.holdupOk = true ∧ m.supplyGood = true ∧
    (m.lane l).sys.phase ≠ .stopped ∧ (m.lane l).sys.phase ≠ .off ∧ ∀ k ∈ m.laneList, (m.lane k).sys.phase ≠ .saving := by
  simp [Module.canRecord, and_assoc]

/-! ### The next record -/

section
variable {s : State} {l : LaneId} {r : EvRec} {rest : List EvRec}

theorem does_eventRecordWritten_held (may : s.m.canRecord l = true) (up : (s.m.lane l).sys.phase ≠ .saving)
    (thawed : (s.m.lane l).evr.frozen = false) (held : (s.m.lane l).evr.held = r :: rest) :
    Does (.eventRecordWritten l) s fun st m =>
      ringWrite st l r (m.updLane l fun L => { L with evr := { L.evr with held := rest } }) := by
  have b : Does (.eventRecordWritten l) s (eventRecordWrittenBody l) := rfl
  refine b.congr ?_
  simp [eventRecordWrittenBody, may, up, thawed, held]

/-- The lane's recorder with the front of its queue taken. -/
def recordTaken (s : State) (l : LaneId) (m : Module) : Module :=
  m.updLane l fun L => { L with evr := (s.m.lane l).evr.next }

theorem recordTaken_fresh (s : State) (l : LaneId) : recordTaken s l s.m.fresh =
    s.m.fresh.updLane l fun L => { L with evr := L.evr.next } :=
  updLane_eq_of_lane (by rw [fresh_lane])

section
variable (may : s.m.canRecord l = true ∨ (s.m.lane l).sys.phase = .saving)
  (first : (s.m.lane l).evr.frozen = true ∨ (s.m.lane l).sys.phase = .saving ∨ (s.m.lane l).evr.held = [])
  (queue : (s.m.lane l).evr.queue = r :: rest)
include may first queue

/-- A waiting record, where no held one comes before it, goes by its class and by what keeps it from the ring. -/
theorem does_eventRecordWritten_waiting : Does (.eventRecordWritten l) s fun st m =>
    if isMetrology r.code then (if (s.m.lane l).red.holds then mlogWrite st l r (recordTaken s l m) else m)
    else if (s.m.lane l).sys.phase = .saving then recordTaken s l m
    else if (s.m.lane l).evr.frozen then holdRecord l r (recordTaken s l m)
    else ringWrite st l r (recordTaken s l m) := by
  have b : Does (.eventRecordWritten l) s (eventRecordWrittenBody l) := rfl
  have goes : ¬ (!(s.m.canRecord l || (s.m.lane l).sys.phase == .saving)) = true := by
    rcases may with can | down
    · simp [can]
    · simp [down]
  have noneHeld : (if (s.m.lane l).evr.frozen || (s.m.lane l).sys.phase == .saving then [] else (s.m.lane l).evr.held)
      = [] := by
    rcases first with frozen | down | empty
    · simp [frozen]
    · simp [down]
    · simp [empty]
  refine b.congr ?_
  simp only [eventRecordWrittenBody, fresh_canRecord, fresh_lane, if_neg goes, noneHeld, queue, recordTaken_fresh,
    beq_iff_eq]

theorem does_eventRecordWritten_metrology (metrology : isMetrology r.code = true)
    (holds : (s.m.lane l).red.holds = true) :
    Does (.eventRecordWritten l) s fun st m => mlogWrite st l r (recordTaken s l m) :=
  (does_eventRecordWritten_waiting may first queue).congr ((if_pos metrology).trans (if_pos holds))

section
variable (general : isMetrology r.code = false)
include general

theorem does_eventRecordWritten_dropped (down : (s.m.lane l).sys.phase = .saving) :
    Does (.eventRecordWritten l) s fun _ m => recordTaken s l m :=
  (does_eventRecordWritten_waiting may first queue).congr ((if_neg (by simp [general])).trans (if_pos down))

variable (up : (s.m.lane l).sys.phase ≠ .saving)
include up

theorem does_eventRecordWritten_frozen (frozen : (s.m.lane l).evr.frozen = true) :
    Does (.eventRecordWritten l) s fun _ m => holdRecord l r (recordTaken s l m) :=
  (does_eventRecordWritten_waiting may first queue).congr
    ((if_neg (by simp [general])).trans ((if_neg up).trans (if_pos frozen)))

theorem does_eventRecordWritten_ring (thawed : (s.m.lane l).evr.frozen = false) :
    Does (.eventRecordWritten l) s fun st m => ringWrite st l r (recordTaken s l m) :=
  (does_eventRecordWritten_waiting may first queue).congr
    ((if_neg (by simp [general])).trans ((if_neg up).trans (if_neg (by simp [thawed]))))

end

end

theorem does_eventRecordWritten_not (unable : s.m.canRecord l = false) (up : (s.m.lane l).sys.phase ≠ .saving) :
    Does (.eventRecordWritten l) s fun _ m => m := by
  have b : Does (.eventRecordWritten l) s (eventRecordWrittenBody l) := rfl
  exact b.congr (if_pos (by simp [unable, up]))

end

/-- Settles O42: held records first, then the queue's front by its class, the freeze and the shutdown. -/
theorem recorderWritesInOrder : Obligations.RecorderWritesInOrder := by
  intro s l r rest e able down next
  have records (h : able) : s.m.canRecord l = true := by
    obtain ⟨known, on, holdup, supply, stopped, off, -, saving⟩ := h
    exact (canRecord_iff ..).mpr ⟨known, on, holdup, supply, stopped, off, saving⟩
  have up (h : able) : (s.m.lane l).sys.phase ≠ .saving := by
    obtain ⟨-, -, -, -, -, -, up, -⟩ := h
    exact up
  refine ⟨fun h thawed held => does_eventRecordWritten_held (records h) (up h) thawed held,
    fun h first queue metrology holds => does_eventRecordWritten_metrology (h.imp_left records) first queue metrology holds,
    fun h frozen queue general =>
      does_eventRecordWritten_frozen (.inl (records h)) (.inl frozen) queue general (up h) frozen,
    fun h thawed empty queue general =>
      does_eventRecordWritten_ring (.inl (records h)) (.inr (.inr empty)) queue general (up h) thawed,
    fun saving queue general => does_eventRecordWritten_dropped (.inr saving) (.inr (.inl saving)) queue general saving,
    fun missing saving => does_eventRecordWritten_not (Bool.eq_false_iff.mpr fun can => ?_) saving⟩
  obtain ⟨known, on, holdup, supply, -⟩ := (canRecord_iff ..).mp can
  simp [e, known, on, holdup, supply] at missing

end Sys2Proof.Machine
end

section
/-! The time keeper's registers: the calendar's shadow of each view and the lockout (R405, R412). -/

namespace Sys2Proof.Machine

/-! ### Accesses to the time keeper -/

section
variable {i : Instr} {s : State} {l : LaneId} {v : View} {f : Store → Module → Module}
  (heard : Heard s l v) (unlocked : (s.m.lane l).rtc.lockout = false)
include heard unlocked

/-- A read of the time keeper that is heard, out of the lockout, has the effect of its register (R412). -/
theorem does_of_rtcRead (d : Does i s fun st m => rtcRead l v (f st) m) : Does i s f :=
  (does_of_guardRead heard d).congr (if_neg (by simp [unlocked]))

/-- A write to the time keeper that is heard, out of the lockout, has the effect of its register (R412). -/
theorem does_of_rtcWrite (d : Does i s fun st m => rtcWrite l v (f st) m) : Does i s f :=
  (does_of_guardWrite heard d).congr (if_neg (by simp [unlocked]))

end

/-! ### A view's shadow -/

/-- The time keeper once a view's freeze has ended. -/
def Rtc.thawed (r : Rtc) (v : View) : Rtc := { r with shadow := upd r.shadow (viewIdx v) fun _ => none }

theorem frozen_thawed (r : Rtc) (v : View) : (r.thawed v).frozen v = none := by
  by_cases fits : viewIdx v < r.shadow.length
  · simp [Rtc.thawed, Rtc.frozen, fits]
  · simp [Rtc.thawed, Rtc.frozen, at?, upd, fits]

theorem viewIdx_injective : Function.Injective viewIdx := by
  intro u v
  cases u <;> cases v <;> decide

theorem frozen_thawed_other (r : Rtc) {u v : View} (differs : u ≠ v) : (r.thawed v).frozen u = r.frozen u :=
  at?_upd_ne _ _ _ _ _ fun same => differs (viewIdx_injective same).symm

/-- The calendar's registers in a view: the copy where a freeze stands, and the running calendar elsewhere (R405). -/
theorem shown_eq (r : Rtc) (v : View) : r.shown v = ((r.frozen v).map (·.1)).getD r.cal := rfl

/-! ### The commands -/

section
variable {s : State} {l : LaneId} {v : View}

section
variable (heard : Heard s l v) (unlocked : (s.m.lane l).rtc.lockout = false)
include heard unlocked

theorem does_rtcSecRead (running : (s.m.lane l).rtc.frozen v = none) : Does (.rtcSecRead l v) s fun _ m =>
    onBus (word (m.lane l).rtc.cal.sec) (updRtc l (fun r => { r with
      shadow := upd r.shadow (viewIdx v) fun _ => some (r.cal, m.now) }) m) := by
  have b : Does (.rtcSecRead l v) s (rtcSecReadBody l v) := rfl
  exact (does_of_rtcRead heard unlocked b).congr (by simp only [fresh_lane, running])

theorem does_rtcSecRead_frozen {c : Cal × Nat} (frozen : (s.m.lane l).rtc.frozen v = some c) :
    Does (.rtcSecRead l v) s fun _ m => onBus (word c.1.sec) m := by
  have b : Does (.rtcSecRead l v) s (rtcSecReadBody l v) := rfl
  exact (does_of_rtcRead heard unlocked b).congr (by simp only [fresh_lane, frozen])

/-- The read of the year answers what the view shows and ends its freeze (R405). -/
theorem does_rtcYearRead : Does (.rtcYearRead l v) s fun _ m =>
    onBus (word ((s.m.lane l).rtc.shown v).year) (updRtc l (·.thawed v) m) := by
  have b : Does (.rtcYearRead l v) s (rtcYearReadBody l v) := rfl
  refine (does_of_rtcRead heard unlocked b).congr ?_
  rw [shown_eq]
  cases frozen : (s.m.lane l).rtc.frozen v <;>
  simp only [fresh_lane, frozen, Option.map_some, Option.map_none, Option.getD_some, Option.getD_none, Rtc.thawed]

theorem ends_rtcYearRead : Ends (.rtcYearRead l v) s fun t => OnlyLane l s t ∧
    t.m.bus = word ((s.m.lane l).rtc.shown v).year ∧ t.m.lane l = { s.m.lane l with rtc := (s.m.lane l).rtc.thawed v } :=
  (does_rtcYearRead heard unlocked).ends_laneRead (w := fun _ => word ((s.m.lane l).rtc.shown v).year)
    (F := fun _ L => { L with rtc := L.rtc.thawed v })

end

theorem does_rtcFreezeTimeout {c : Cal × Nat} (frozen : (s.m.lane l).rtc.frozen v = some c) :
    Does (.rtcFreezeTimeout l v) s fun _ m => updRtc l (·.thawed v) (clockTo (c.2 + 1000000000) m) := by
  have b : Does (.rtcFreezeTimeout l v) s (rtcFreezeTimeoutBody l v) := rfl
  refine b.congr ?_
  simp only [rtcFreezeTimeoutBody, fresh_lane, frozen, Rtc.thawed]

theorem regRead_calendar (unlocked : (s.m.lane l).rtc.lockout = false) :
    let c := (s.m.lane l).rtc.shown v
    s.m.regRead l v 0xF0000 = c.sec ∧ s.m.regRead l v 0xF0004 = c.min ∧ s.m.regRead l v 0xF0008 = c.hour ∧
    s.m.regRead l v 0xF000C = c.wday ∧ s.m.regRead l v 0xF0010 = c.day ∧ s.m.regRead l v 0xF0014 = c.mon ∧
    s.m.regRead l v 0xF0018 = c.year := by
  have word (k : Nat) : s.m.regRead l v (0xF0000 + 4 * k) = s.m.readBlock l v ((0xF0000 + 4 * k) / 65536)
      ((0xF0000 + 4 * k) % 65536) := if_pos (by omega)
  refine ⟨(word 0).trans ?_, (word 1).trans ?_, (word 2).trans ?_, (word 3).trans ?_, (word 4).trans ?_,
    (word 5).trans ?_, (word 6).trans ?_⟩ <;>
  simp [Module.readBlock, Module.readRtc, unlocked]

end

/-- Settles O3: by what each read does while the view's shadow stands and while it does not. -/
theorem calendarReadsFromItsShadow : Obligations.CalendarReadsFromItsShadow := by
  intro s l v unlocked
  refine ⟨fun heard running => ⟨?_, does_rtcSecRead heard unlocked running, ?_, ?_⟩, fun c heard frozen => ⟨?_, ?_, ?_⟩,
    fun c frozen => ⟨?_, does_rtcFreezeTimeout frozen⟩, ?_⟩
  · exact (does_rtcSecRead heard unlocked running).ends ⟨onlyLane_commit _ _ rfl, by simp, by simp [updRtc], by simp [updRtc]⟩
  · obtain ⟨t, next, only, bus, -⟩ := ends_rtcYearRead heard unlocked
    rw [shown_eq, running] at bus
    exact ⟨t, next, only, bus⟩
  · have d := does_rtcYearRead heard unlocked
    rw [shown_eq, running] at d
    exact d.congr (by simp only [fresh_lane]; rfl)
  · exact (does_rtcSecRead_frozen heard unlocked frozen).ends
      ⟨onlyLane_commit _ (fun L => L) (by rw [updLane_id]), by simp, by simp⟩
  · obtain ⟨t, next, only, bus, lane⟩ := ends_rtcYearRead heard unlocked
    have rtc : (t.m.lane l).rtc = (s.m.lane l).rtc.thawed v := congrArg Lane.rtc lane
    rw [shown_eq, frozen] at bus
    refine ⟨t, next, only, bus, ?_⟩
    rw [rtc]
    exact ⟨frozen_thawed .., fun u differs => frozen_thawed_other _ differs⟩
  · have d := does_rtcYearRead heard unlocked
    rw [shown_eq, frozen] at d
    exact d
  · exact (does_rtcFreezeTimeout frozen).ends ⟨sameStores_commit (by simp [updRtc]), by simp [updRtc],
      by simp [updRtc, frozen_thawed]⟩
  · rw [← shown_eq]
    exact regRead_calendar unlocked

end Sys2Proof.Machine
end

section
/-! The wake port (R453, R454, R456). -/

namespace Sys2Proof.Machine

/-! ### What an interrupt leaves of a lane -/

/-- A part of a lane in which neither a block's interrupt word nor a message kept back stands is the same after an
interrupt of that block (R469). -/
theorem part_raise {β : Type} (g : Lane → β) {b : Nat} (irq : ∀ L w, g (L.setIrq b w) = g L)
    (pend : ∀ (L : Lane) w, g { L with hst := { L.hst with vpend := w } } = g L) (l k : LaneId) (bits : Nat) (m : Module) :
    g ((raise l b bits m).lane k) = g (m.lane k) := by
  have written (w : Word) : g ((m.updLane l fun L => L.setIrq b w).lane k) = g (m.lane k) := by
    cases l <;> cases k <;> simp only [Module.updLane, Module.lane, irq]
  have told (n : Module) : g ((sendMsi l b n).lane k) = g (n.lane k) := by
    unfold sendMsi
    dsimp only
    split_ifs
    · rfl
    · rw [put_lane]
    · cases l <;> cases k <;> simp only [Module.updLane, Module.lane, pend]
  unfold raise
  dsimp only
  split_ifs
  · exact written _
  · exact (told _).trans (written _)

@[simp] theorem sys_raisePwr (l k : LaneId) (bits : Nat) (m : Module) :
    ((raise l 2 bits m).lane k).sys = (m.lane k).sys :=
  part_raise Lane.sys (fun _ _ => rfl) (fun _ _ => rfl) ..

/-! ### A command byte that is heard -/

/-- A command byte acknowledged at a lane's wake port and recorded (R453, R454). -/
def wakeHeard (l : LaneId) (peer : Bool) (byte : Nat) (m : Module) : Module :=
  report l 2 0x8005 byte (b2n peer) 0 (raise l 2 16 (put (.wakeAck l.num true) m))

theorem blank_wakeHeard (l : LaneId) (peer : Bool) (byte : Nat) (m : Module) :
    (wakeHeard l peer byte m).blank = m.blank :=
  (blank_report ..).trans ((blank_raise ..).trans (blank_put ..))

@[simp] theorem sys_wakeHeard (l : LaneId) (peer : Bool) (byte : Nat) (m : Module) (k : LaneId) :
    ((wakeHeard l peer byte m).lane k).sys = (m.lane k).sys := by simp [wakeHeard]

theorem supplyGood_wakeHeard (l : LaneId) (peer : Bool) (byte : Nat) (m : Module) :
    (wakeHeard l peer byte m).supplyGood = m.supplyGood := by simp [wakeHeard, put]

section
variable {s : State} {l : LaneId} {peer : Bool} (alive : (s.m.lane l).rtc.alive = true)
  (fitted : s.m.variant.nLane = 2 ∨ l = .A)

section
include alive fitted

/-- A command byte that the port hears goes on while the supply is good, and is a wake without it (R415, R453). -/
theorem wakeCommand_eq (byte : Nat) (f : Module → Module) : wakeCommand l byte peer f s.m.fresh =
    if s.m.supplyGood then f (wakeHeard l peer byte s.m.fresh)
    else if (s.m.lane l).rtc.wakeEn then requestPower l 1 (wakeHeard l peer byte s.m.fresh)
    else wakeHeard l peer byte s.m.fresh := by
  refine (if_neg ?_).trans ?_
  · rcases fitted with two | rfl
    · simp [alive, two]
    · simp [alive]
  · rw [← wakeHeard, supplyGood_wakeHeard, fresh_supplyGood, fresh_lane]

theorem does_of_wakeCommand {i : Instr} {byte : Nat} {f : Store → Module → Module} (good : s.m.supplyGood = true)
    (d : Does i s fun st m => wakeCommand l byte peer (f st) m) :
    Does i s fun st m => f st (wakeHeard l peer byte m) :=
  d.congr ((wakeCommand_eq alive fitted ..).trans (if_pos good))

section
variable (good : s.m.supplyGood = true)
include good

theorem does_rxPathOn : Does (.rxPathOn l peer) s fun _ m => domRequests l l.num rxDoms .on (wakeHeard l peer 1 m) :=
  does_of_wakeCommand alive fitted good rfl

theorem does_rxPathOff : Does (.rxPathOff l peer) s fun _ m =>
    if s.m.active l then wakeHeard l peer 2 m else domRequests l l.num [16, 1] .off (wakeHeard l peer 2 m) := by
  have b : Does (.rxPathOff l peer) s (rxPathOffBody l peer) := rfl
  have active : (wakeHeard l peer 2 s.m.fresh).active l = s.m.active l :=
    (holds_of_blank (blank_wakeHeard ..) l).trans (fresh_active s.m l)
  exact (does_of_wakeCommand alive fitted good b).congr (by simp only [active])

theorem does_laneUp : Does (.laneUp l peer) s fun _ m => wakeDoms l (wakeHeard l peer 3 m) :=
  does_of_wakeCommand alive fitted good rfl

theorem does_laneDown : Does (.laneDown l peer) s fun _ m =>
    if (s.m.lane l).sys.mode.rests then restDoms l (wakeHeard l peer 4 m) else wakeHeard l peer 4 m := by
  have b : Does (.laneDown l peer) s (laneDownBody l peer) := rfl
  exact (does_of_wakeCommand alive fitted good b).congr (by simp only [sys_wakeHeard, fresh_lane])

theorem does_laneStart (mate : peer = true) (two : s.m.variant.nLane = 2) (starting : (s.m.lane l).sys.phase = .starting)
    (holdup : (s.m.lane l).sys.holdupOk = true) (sound : (s.m.lane l).sys.failed = false) :
    Does (.laneStart l peer) s fun st m =>
      startLane st l (updSys l (fun x => { x with elected := l }) (wakeHeard l peer 5 m)) := by
  have b : Does (.laneStart l peer) s (laneStartBody l peer) := rfl
  refine b.congr ((if_neg (by simp [mate, two])).trans ((wakeCommand_eq alive fitted 5 _).trans ((if_pos good).trans ?_)))
  exact if_pos (by simp [starting, holdup, sound])

end

theorem does_laneUp_asleep (bad : s.m.supplyGood = false) (wakes : (s.m.lane l).rtc.wakeEn = true) :
    Does (.laneUp l peer) s fun _ m => requestPower l 1 (wakeHeard l peer 3 m) := by
  have b : Does (.laneUp l peer) s (laneUpBody l peer) := rfl
  exact b.congr ((wakeCommand_eq alive fitted 3 _).trans ((if_neg (by simp [bad])).trans (if_pos wakes)))

theorem ends_wakeStatusRead : Ends (.wakeStatusRead l) s fun t => OnlyLane l s t ∧ t.m.lane l = s.m.lane l ∧
    t.m.out = [.wakeByte l.num
      ((s.m.lane l).sys.mode.code + 8 * b2n (s.m.lane l).rtc.osf + 16 * b2n s.m.supplyGood +
        32 * b2n (s.m.lane l).sysOn)] := by
  have b : Does (.wakeStatusRead l) s (wakeStatusReadBody l) := rfl
  have d : Does (.wakeStatusRead l) s fun _ m => put (.wakeByte l.num ((s.m.lane l).sys.mode.code +
      8 * b2n (s.m.lane l).rtc.osf + 16 * b2n s.m.supplyGood + 32 * b2n (s.m.lane l).sysOn)) m := by
    refine b.congr ((if_neg ?_).trans (by simp only [fresh_lane, fresh_supplyGood]))
    rcases fitted with two | rfl
    · simp [alive, two]
    · simp [alive]
  exact d.ends (by simp [OnlyLane])

end

/-- On J13 a start is refused: the byte is not acknowledged (R454, R456). -/
theorem ends_laneStart_refused (alive : (s.m.lane l).rtc.alive = true) : Ends (.laneStart l false) s fun t =>
    OnlyLane l s t ∧ t.m.lane l = s.m.lane l ∧ t.m.out = [.wakeAck l.num false] := by
  have b : Does (.laneStart l false) s (laneStartBody l false) := rfl
  have d : Does (.laneStart l false) s fun _ m => put (.wakeAck l.num false) m :=
    b.congr ((if_pos rfl).trans (if_pos (by rw [fresh_lane, alive])))
  exact d.ends (by simp [OnlyLane])

end

/-- Settles O47: each byte is heard first, and acts by the supply, the claim, the mode and the path it comes over. -/
theorem wakePortAnswers : Obligations.WakePortAnswers := by
  intro s l peer alive fitted
  refine ⟨fun good => ⟨does_rxPathOn alive fitted good, fun rests => ?_, fun active => ?_, does_laneUp alive fitted good,
      fun rests => ?_, fun standby resync => ?_, fun mate two starting holdup sound =>
        does_laneStart alive fitted good mate two starting holdup sound⟩,
    fun bad wakes => does_laneUp_asleep alive fitted bad wakes, ends_laneStart_refused alive,
    ends_wakeStatusRead alive fitted, ⟨_, rfl, ⟨rfl, rfl⟩, rfl⟩⟩
  · exact (does_rxPathOff alive fitted good).congr (if_neg (by simp [rests]))
  · exact (does_rxPathOff alive fitted good).congr (if_pos active)
  · exact (does_laneDown alive fitted good).congr (if_pos (rests_iff.mpr (by simpa using rests)))
  · exact (does_laneDown alive fitted good).congr (if_neg (mt rests_iff.mp (by simp [standby, resync])))

end Sys2Proof.Machine
end

section
/-! The budget governor, the domain requests and the reference failures (R439 to R448, R452). -/

namespace Sys2Proof.Machine

/-! ### The governor (R440) -/

section
variable (l : LaneId) (vin iin pin vh : Nat) (lim : Bool) (m : Module)

/-- The governor's measurements kept at the next instant of its grid, with HOLDUP_OK and VIN_LOW (R438, R439). -/
def measured : Module :=
  let was := (m.lane l).pwr.vLow
  let m := clockTo (m.gridAfter 1000000 (m.lane l).pwr.tickAt) m
  let L := m.lane l
  let m := updPwr l (fun p => { p with
    tickAt := m.now, vIn := sat 65535 vin, iIn := sat 65535 iin, pIn := sat 65535 pin, vHold := sat 65535 vh,
    limit := lim, vLow := decide (vin < 10000), pAvail := L.available vin }) m
  let m := forEach m.laneList (fun k => updSys k fun x => { x with holdupOk := x.holdupOk && decide (7500 ≤ vh) }) m
  if decide (vin < 10000) != was then report l 2 0x8004 vin (b2n (decide (vin < 10000))) 0 (raise l 2 2 m) else m

/-- What the governor decides by. -/
structure GovInput where
  step : Nat
  raiseAt : Option Nat
  avail : Nat
  drawn : Nat

def Pwr.govInput (p : Pwr) : GovInput := ⟨p.step, p.raiseAt, p.pAvail, p.pIn⟩

/-- The step goes up where the input is over its share and none has gone up for 2 ms (R440). -/
def governed (l : LaneId) (p : GovInput) (m : Module) : Module :=
  let rest := match p.raiseAt with
    | some a => decide (a + 2000000 ≤ m.now)
    | none => true
  if p.step < 4 && rest && decide (95 * p.avail < 100 * p.drawn) then setStep l (p.step + 1) m else lowerWatch l m

theorem govInput_measured : ((measured l vin iin pin vh lim m).lane l).pwr.govInput =
    ⟨(m.lane l).pwr.step, (m.lane l).pwr.raiseAt, (m.lane l).available vin, sat 65535 pin⟩ := by
  have each (xs : List LaneId) (n : Module) : ((forEach xs (fun k => updSys k fun x =>
      { x with holdupOk := x.holdupOk && decide (7500 ≤ vh) }) n).lane l).pwr = (n.lane l).pwr :=
    forEach_part (fun n => (n.lane l).pwr) _ _ (fun k n => by cases k <;> cases l <;> rfl) n
  have told (n : Module) : ((report l 2 0x8004 vin (b2n (decide (vin < 10000))) 0 (raise l 2 2 n)).lane l).pwr.govInput =
      (n.lane l).pwr.govInput := by
    rw [report_lane_pwr]
    exact part_raise (fun L => L.pwr.govInput) (fun _ _ => rfl) (fun _ _ => rfl) ..
  unfold measured
  dsimp only
  split_ifs
  · rw [told, each]
    simp [updPwr, Pwr.govInput]
  · rw [each]
    simp [updPwr, Pwr.govInput]

end

section
variable {s : State} {l : LaneId} (holds : (s.m.lane l).red.holds = true) (up : (s.m.lane l).sys.phase = .up)
  (good : s.m.supplyGood = true)
include holds up good

theorem does_governorTick (vin iin pin vh : Nat) (lim : Bool) : Does (.governorTick l vin iin pin vh lim) s fun _ m =>
    governed l ⟨(m.lane l).pwr.step, (m.lane l).pwr.raiseAt, (m.lane l).available vin, sat 65535 pin⟩
      (measured l vin iin pin vh lim m) := by
  have b : Does (.governorTick l vin iin pin vh lim) s (governorTickBody l vin iin pin vh lim) := rfl
  refine b.congr ((if_neg (by simp [holds, up, good])).trans ?_)
  rw [← govInput_measured l vin iin pin vh lim]
  rfl

theorem does_governorStepDown {a : Nat} (low : (s.m.lane l).pwr.lowSince = some a) (raised : 0 < (s.m.lane l).pwr.step) :
    Does (.governorStepDown l) s fun _ m =>
      setStep l ((m.lane l).pwr.step - 1) (clockTo (max a (m.lane l).pwr.stepAt + 100000000) m) := by
  have b : Does (.governorStepDown l) s (governorStepDownBody l) := rfl
  refine b.congr ?_
  simp only [governorStepDownBody, fresh_lane, low]
  exact if_neg (by simp [holds, up, good, raised.ne'])

end

/-! ### Requests of the domains (R445) -/

section
variable {s : State} {l : LaneId} {v : View} {w : Word}

/-- The domain that a write of PWR_DOM_REQ names, selected in its view. -/
def domChosen (l : LaneId) (v : View) (w : Word) (m : Module) : Module :=
  updSel l v (fun x => { x with pwrDom := w &&& 0x31F07 }) m

theorem pwrFitted_domChosen (m : Module) (k : LaneId) (die : Nat) :
    (domChosen l v w m).pwrFitted k die = m.pwrFitted k die := by
  simp [domChosen, updSel, Module.pwrFitted]

theorem does_pwrDomRequest_host (heard : Heard s l .host) :
    Does (.pwrDomRequest l .host w) s fun _ m => domChosen l .host w m := by
  have b : Does (.pwrDomRequest l .host w) s (pwrDomRequestBody l .host w) := rfl
  exact b.congr ((guardWrite_heard heard _).trans (if_pos (by simp)))

/-- A request of firmware is judged: by the die, by the domain, by its target (R445). -/
theorem does_pwrDomRequest_fw (heard : Heard s l .fw) (go : bitOf w 31 = true) :
    Does (.pwrDomRequest l .fw w) s fun _ m =>
      let die := fld w 2 0
      let i := fld w 12 8
      if !s.m.pwrFitted l die then domRefuse l die i 6 (domChosen l .fw w m)
      else if die != l.num || i != 12 then domRefuse l die i 5 (domChosen l .fw w m)
      else if fld w 17 16 = 3 then domRefuse l die i 4 (domChosen l .fw w m)
      else domRequest l die i (domStateOf (fld w 17 16)) (domChosen l .fw w m) := by
  have b : Does (.pwrDomRequest l .fw w) s (pwrDomRequestBody l .fw w) := rfl
  refine b.congr ((guardWrite_heard heard _).trans ((if_neg (by simp [go])).trans ?_))
  rw [← domChosen, pwrFitted_domChosen]
  rfl

theorem pwrFitted_own (m : Module) (l : LaneId) : m.pwrFitted l l.num = true := by
  cases l <;> simp [Module.pwrFitted, LaneId.num]

end

@[simp] theorem fresh_pwrFitted (m : Module) (l : LaneId) (die : Nat) : m.fresh.pwrFitted l die = m.pwrFitted l die := rfl

/-! ### Arrivals of the domains (R447, R448) -/

@[simp] theorem fresh_dom (m : Module) (die i : Nat) : m.fresh.dom die i = m.dom die i := by
  unfold Module.dom Module.doms
  split <;> simp

section
variable {s : State} {l : LaneId} {die i : Nat} {c k : Bool}
  (fitted : s.m.pwrFitted (if die < 2 then laneOfDie die else l) die = true) (moves : (s.m.dom die i).moving = true)
include fitted moves

theorem does_domainTransitionComplete : Does (.domainTransitionComplete l die i c k) s fun _ m =>
    let own := if die < 2 then laneOfDie die else l
    let bad := (s.m.dom die i).state == .ret && (s.m.dom die i).target == .on && retCapable die i && !(c && k)
    let m := domArrive die i m
    domAdvance die (domEffect die i (if bad then
      retReaction own die i (report own 2 0x8003 die i (b2n c) (raise own 2 4 m)) else m)) := by
  have b : Does (.domainTransitionComplete l die i c k) s (domainTransitionCompleteBody l die i c k) := rfl
  have stays : ¬ (!(s.m.dom die i).moving || !s.m.fresh.pwrFitted (if die < 2 then laneOfDie die else l) die) = true := by
    simpa [moves] using fitted
  refine b.congr ?_
  simp only [domainTransitionCompleteBody, fresh_dom]
  exact if_neg stays

theorem does_domainTransitionComplete_sound (sound : (s.m.dom die i).state ≠ .ret ∨ (s.m.dom die i).target ≠ .on ∨
    retCapable die i = false ∨ (c = true ∧ k = true)) : Does (.domainTransitionComplete l die i c k) s fun _ m =>
      domAdvance die (domEffect die i (domArrive die i m)) := by
  refine (does_domainTransitionComplete fitted moves).congr ?_
  dsimp only
  rw [if_neg]
  rcases sound with state | target | capable | ⟨crc, canary⟩
  · simp [state]
  · simp [target]
  · simp [capable]
  · simp [crc, canary]

theorem does_domainTransitionComplete_lost (state : (s.m.dom die i).state = .ret) (target : (s.m.dom die i).target = .on)
    (capable : retCapable die i = true) (fails : ¬(c = true ∧ k = true)) :
    Does (.domainTransitionComplete l die i c k) s fun _ m =>
      let own := if die < 2 then laneOfDie die else l
      domAdvance die (domEffect die i (retReaction own die i
        (report own 2 0x8003 die i (b2n c) (raise own 2 4 (domArrive die i m))))) := by
  refine (does_domainTransitionComplete fitted moves).congr ?_
  dsimp only
  rw [if_pos]
  have fails' : (c && k) = false := by simpa using fails
  simp [state, target, capable, fails']

end

/-! ### References (R452) -/

section
variable {s : State} {ppm : Nat}

/-- A reference that has failed, kept and recorded in a lane (R452). -/
def clockRecorded (l : LaneId) (die ppm : Nat) (m : Module) : Module :=
  report l 3 0x8006 die ppm 0
    (m.updLane l fun L => { L with clk := { L.clk with fail := L.clk.fail ||| word (1 <<< die) } })

/-- The lane that records what a field or solver die fails: the active one (log entry 52). -/
def recordingLane (m : Module) : LaneId := if m.active .B then .B else .A

theorem does_clockFail_within {die : Nat} (near : ppm ≤ 1000) : Does (.clockFail die ppm) s fun _ m => m := by
  have b : Does (.clockFail die ppm) s (clockFailBody die ppm) := rfl
  exact b.congr (if_pos (by simp [near]))

variable (off : 1000 < ppm)
include off

theorem does_clockFail_lane {l : LaneId} (on : (s.m.lane l).sysOn = true) :
    Does (.clockFail l.num ppm) s fun _ m => haltLane l 0 (clockRecorded l l.num ppm m) := by
  have b : Does (.clockFail l.num ppm) s (clockFailBody l.num ppm) := rfl
  have small : l.num < 2 := by cases l <;> decide
  refine b.congr ?_
  simp only [clockFailBody, if_pos small, laneOfDie_num, fresh_lane]
  exact if_neg (by simp [on, off])

theorem does_clockFail_solver {d : Nat} (fitted : d < s.m.variant.nSd) (two : d < 2) (powered : (s.m.sd d).powered = true)
    (works : (s.m.sd d).clockFailed = false) : Does (.clockFail (2 + d) ppm) s fun _ m =>
      slvWatch (loseJobs d ((clockRecorded (recordingLane s.m) (2 + d) ppm m).updSd d fun x =>
        { x with state := .outOfService, clockFailed := true })) := by
  have b : Does (.clockFail (2 + d) ppm) s (clockFailBody (2 + d) ppm) := rfl
  have ctrl : ¬ 2 + d < 2 := by omega
  have solver : 2 + d < 4 := by omega
  refine b.congr ?_
  simp only [clockFailBody, if_neg ctrl, if_pos solver, Nat.add_sub_cancel_left, fresh_sd, fresh_variant, fresh_active]
  exact if_neg (by simp [off, powered, works, fitted])

theorem does_clockFail_field {d : Nat} (up : s.m.fdUp d = true) : Does (.clockFail (4 + d) ppm) s fun _ m =>
    let m := (clockRecorded (recordingLane s.m) (4 + d) ppm m).updFd d fun x => { x with clockFailed := true }
    refreshFd d { m with mail := m.mail.filter fun x => x.src != 4 + d } := by
  have b : Does (.clockFail (4 + d) ppm) s (clockFailBody (4 + d) ppm) := rfl
  have ctrl : ¬ 4 + d < 2 := by omega
  have solver : ¬ 4 + d < 4 := by omega
  refine b.congr ?_
  simp only [clockFailBody, if_neg ctrl, if_neg solver, Nat.add_sub_cancel_left, fresh_fdUp, fresh_active]
  exact if_neg (by simp [off, up])

end

/-- Settles O46: the governor by its measurements, a request by its judgement, an arrival by its check, a reference by the
die that it times. -/
theorem powerActs : Obligations.PowerActs := by
  refine ⟨fun s l => ⟨fun vin iin pin vh lim holds up good => does_governorTick holds up good vin iin pin vh lim,
      fun a low holds up good raised => does_governorStepDown holds up good low raised,
      fun w heard => does_pwrDomRequest_host heard, fun w heard go => ?_,
      fun die i c k fitted moves => ⟨does_domainTransitionComplete_sound fitted moves,
        does_domainTransitionComplete_lost fitted moves⟩⟩,
    fun s ppm => ⟨fun die => does_clockFail_within, fun off => ⟨fun l => does_clockFail_lane off,
      fun d => does_clockFail_solver off, fun d => does_clockFail_field off⟩⟩⟩
  have judged := does_pwrDomRequest_fw heard go
  refine ⟨fun unfitted => judged.congr (if_pos (by simp [unfitted])), fun fitted other => ?_,
    fun own index target => ?_, fun own index target => ?_⟩
  · exact judged.congr ((if_neg (by simp [fitted])).trans (if_pos (by simpa using other)))
  · exact judged.congr ((if_neg (by simp [own, pwrFitted_own])).trans ((if_neg (by simp [own, index])).trans (if_pos target)))
  · exact judged.congr ((if_neg (by simp [own, pwrFitted_own])).trans ((if_neg (by simp [own, index])).trans
      (if_neg (by omega))))

end Sys2Proof.Machine
end

section
/-! What ends a descriptor before its operation: an operation that its ring does not have, and an address or a length that
is none (R462, R463). -/

namespace Sys2Proof.Machine

section
variable {i : Instr} {s : State} {l : LaneId} {r op : Nat} {others : List Nat} {d : HostDesc}
  {f : Store → Module → Module} (b : Does i s fun st m => startDesc l r op others d (f st) m)
  (fetched : s.m.fetches l r d.fence = true)
include b fetched

theorem does_startDesc_unknown (own : d.op ≠ op) (other : d.op ∉ others) :
    Does i s fun _ m => ringDone l r 2 0 [] (inCourse l r d m) :=
  b.congr ((if_neg (by simp [fetched, other])).trans (if_pos (.inl own)))

theorem does_startDesc_unsound (own : d.op = op) (other : op ∉ others) (ring : ¬(r = 2 ∧ s.m.variant = .nfj2))
    (unsound : d.addr % 4 ≠ 0 ∨ d.len % 4 ≠ 0 ∨ d.len < 4 ∨ 4194304 < d.len) :
    Does i s fun _ m => ringDone l r 1 0 [] (inCourse l r d m) := by
  have judged : ¬(d.op ≠ op ∨ r = 2 ∧ (inCourse l r d s.m.fresh).variant = .nfj2) := by simpa [own] using ring
  exact b.congr ((if_neg (by simp [fetched, own, other])).trans ((if_neg judged).trans (if_pos unsound)))

end

/-- A command that starts a descriptor of a ring as an operation, beside at most one other of that ring. -/
def StartsAs (s : State) (d : HostDesc) (l : LaneId) (i : Instr) (r op other : Nat) : Prop :=
  ∃ (others : List Nat) (f : Store → Module → Module), Does i s (fun st m => startDesc l r op others d (f st) m) ∧
    op ∉ others ∧ others ⊆ [other]

/-- Settles O49: each of the commands starts its descriptor through the one judgement of the rings. -/
theorem descriptorsAreJudgedFirst : Obligations.DescriptorsAreJudgedFirst := by
  intro s l d c listed fetched
  have starts : StartsAs s d l c.1 c.2.1 c.2.2.1 c.2.2.2 := by
    revert c
    simp only [List.forall_mem_cons, List.not_mem_nil, false_implies, implies_true, and_true]
    refine ⟨?_, ?_, ?_, ?_, ?_, ?_, ?_, ?_, ?_, ?_, ?_, ?_, ?_⟩ <;> exact fun _ => ⟨_, _, rfl, by simp, by simp⟩
  obtain ⟨others, f, b, own, few⟩ := starts
  exact ⟨fun one two => does_startDesc_unknown b fetched one fun h => two (List.mem_singleton.mp (few h)),
    fun same ring unsound => does_startDesc_unsound b fetched same own ring unsound⟩

end Sys2Proof.Machine
end

section
/-! The endpoint: its resets, its link and its configuration space (R457, R459, R460, R468, R469, R492). -/

namespace Sys2Proof.Machine

section
variable {s : State} {l : LaneId}

/-! ### Function Level Reset and PERST# (R468, R492) -/

/-- The host block at reset, with the state of its link kept (R468). -/
def Hst.reset (h : Hst) : Hst := { h with
  rings := List.replicate 8 {}, bme := false, msix := false, fmask := false, vmask := 0xFFFFFFFF, vpend := 0, irq := 0
  irqEn := 1, telemMs := 100, instCap := none, warmPend := none }

theorem does_functionLevelReset (up : (s.m.lane l).hst.linkUp = true) :
    Does (.functionLevelReset l) s fun _ m => flrReset l (m.lane l).hst.running m := by
  have b : Does (.functionLevelReset l) s (functionLevelResetBody l) := rfl
  exact b.congr (if_pos (by simp [up]))

/-- The reset reaches the host block, the BAR0 view and its read windows, and is recorded; the lane works on (R468). -/
theorem ends_functionLevelReset (up : (s.m.lane l).hst.linkUp = true) : Ends (.functionLevelReset l) s fun t =>
    OnlyLane l s t ∧ (t.m.lane l).hst = (s.m.lane l).hst.reset ∧ (t.m.lane l).selHost = {} ∧
    (t.m.lane l).selFw = (s.m.lane l).selFw ∧ (t.m.lane l).sys = (s.m.lane l).sys ∧
    (t.m.lane l).cfg = (s.m.lane l).cfg ∧ (t.m.lane l).red = (s.m.lane l).red :=
  (does_functionLevelReset up).ends (by simp [flrReset, OnlyLane, Hst.reset])

section
variable (on : (at? (s.m.lane l).pwr.doms 15 {}).state = .on)
include on

theorem does_perstAssert : Does (.perstAssert l) s fun _ m =>
    flrReset l (m.lane l).hst.running (if (m.lane l).hst.linkUp then linkDown l m else m) := by
  have b : Does (.perstAssert l) s (perstAssertBody l) := rfl
  exact b.congr (if_neg (by simp [on]))

theorem does_perstAssert_up (up : (s.m.lane l).hst.linkUp = true) : Does (.perstAssert l) s fun _ m =>
    flrReset l (m.lane l).hst.running (linkDown l m) :=
  (does_perstAssert on).congr (by simp [up])

theorem does_perstAssert_down (down : (s.m.lane l).hst.linkUp = false) : Does (.perstAssert l) s fun _ m =>
    flrReset l (m.lane l).hst.running m :=
  (does_perstAssert on).congr (by simp [down])

/-! ### The link (R457) -/

theorem ends_pcieLinkUp {speed width : Nat} (slow : 1 ≤ speed) (fast : speed ≤ 3) (thin : 1 ≤ width) (wide : width ≤ 2) :
    Ends (.pcieLinkUp l speed width) s fun t => OnlyLane l s t ∧ t.m.out = [] ∧
      t.m.lane l = { s.m.lane l with hst := { (s.m.lane l).hst with linkUp := true, speed := speed, width := width } } := by
  have b : Does (.pcieLinkUp l speed width) s (pcieLinkUpBody l speed width) := rfl
  have d : Does (.pcieLinkUp l speed width) s fun _ m => m.updLane l fun L =>
      { L with hst := { L.hst with linkUp := true, speed := speed, width := width } } :=
    b.congr (if_pos (by simp [on, slow, fast, thin, wide]))
  exact d.ends (by simp [OnlyLane])

end

theorem does_pcieLinkDown (up : (s.m.lane l).hst.linkUp = true) : Does (.pcieLinkDown l) s fun _ m => linkDown l m := by
  have b : Does (.pcieLinkDown l) s (pcieLinkDownBody l) := rfl
  exact b.congr (if_pos (by simp [up]))

/-! ### The configuration space and the messages (R460, R469) -/

theorem does_pcieConfigWrite (b x f : Bool) (up : (s.m.lane l).hst.linkUp = true) :
    Does (.pcieConfigWrite l b x f) s fun _ m =>
      releaseMsi l (updHst l (fun h => { h with bme := b, msix := x, fmask := f }) m) := by
  have d : Does (.pcieConfigWrite l b x f) s (pcieConfigWriteBody l b x f) := rfl
  exact d.congr (if_pos (by simp [up]))

@[simp] theorem fresh_bar2 (m : Module) (l : LaneId) : m.fresh.bar2 l = m.bar2 l := by
  rw [Module.bar2, fresh_reach, fresh_mute]
  rfl

theorem does_msixVectorUnmask {n : Nat} (vector : n < 32) (heard : s.m.bar2 l = true) :
    Does (.msixVectorUnmask l n) s fun _ m =>
      releaseMsi l (updHst l (fun h => { h with vmask := h.vmask &&& ~~~(word (1 <<< n)) }) m) := by
  have d : Does (.msixVectorUnmask l n) s (msixVectorUnmaskBody l n) := rfl
  exact d.congr (if_pos (by simp [heard, vector]))

end

/-- Settles O51: by what each event finds of the endpoint's supply and link. -/
theorem endpointActs : Obligations.EndpointActs := by
  intro s l
  exact ⟨fun up => ⟨ends_functionLevelReset up, does_functionLevelReset up⟩,
    fun on => ⟨does_perstAssert_up on, does_perstAssert_down on, fun _ _ => ends_pcieLinkUp on⟩,
    does_pcieLinkDown, fun b x f => does_pcieConfigWrite b x f, fun _ => does_msixVectorUnmask⟩

end Sys2Proof.Machine
end

section
/-! A ring of the host port: its writes, its end, its messages and its state (R461, R463, R466 to R470). -/

namespace Sys2Proof.Machine

/-! ### A ring changed -/

section
variable (m : Module) (l : LaneId) (r : Nat) (f : Ring → Ring)

theorem ring_updRing (fits : r < (m.lane l).hst.rings.length) :
    ((updRing l r f m).lane l).ring r = f ((m.lane l).ring r) := by
  simp [Lane.ring, fits]

/-- A part of a ring that a change leaves alone is the same after it, whether or not the ring exists. -/
theorem part_updRing {β : Type} (g : Ring → β) (keeps : ∀ x, g (f x) = g x) :
    g (((updRing l r f m).lane l).ring r) = g ((m.lane l).ring r) := by
  by_cases fits : r < (m.lane l).hst.rings.length
  · rw [ring_updRing m l r f fits, keeps]
  · simp [Lane.ring, at?, upd, fits]

/-- Only what a change does of the ring that stands there counts. -/
theorem updRing_congr {f g : Ring → Ring} (same : f ((m.lane l).ring r) = g ((m.lane l).ring r)) :
    updRing l r f m = updRing l r g m := by
  unfold updRing updHst
  refine updLane_eq_of_lane ?_
  dsimp only
  rw [upd_eq_upd fun x there => ?_]
  have ring : (m.lane l).ring r = x := by simp [Lane.ring, at?, there]
  rwa [ring] at same

@[simp] theorem nvmOut_ringMsg : (ringMsg l r m).nvmOut = m.nvmOut := by
  unfold ringMsg
  dsimp only
  split_ifs
  · exact updRing_nvmOut ..
  · exact (sendMsi_nvmOut ..).trans (updRing_nvmOut ..)

/-- A message changes of a ring only when it last sent one and whether one waits (R469). -/
theorem part_ringMsg {β : Type} (g : Ring → β) (at_ : ∀ x a, g { x with msgAt := a } = g x)
    (waits : ∀ (x : Ring) w, g { x with msgWait := w } = g x) :
    g (((ringMsg l r m).lane l).ring r) = g ((m.lane l).ring r) := by
  have told (n : Nat) (m : Module) : ((sendMsi l n m).lane l).ring r = (m.lane l).ring r := by
    unfold sendMsi
    dsimp only
    split_ifs
    · rfl
    · rw [put_lane]
    · rw [lane_updLane]
      rfl
  unfold ringMsg
  dsimp only
  split_ifs
  · exact part_updRing _ _ _ _ g fun x => waits x true
  · rw [told]
    exact part_updRing _ _ _ _ g fun x => (waits { x with msgAt := some m.now } false).trans (at_ x _)

end

/-! ### The writes of a completion (R466) -/

section
variable (m : Module) (l : LaneId) (r code len : Nat) (d : Desc)

theorem nvmOut_ringWrites (g : Ring) : (ringWrites g d code len m).nvmOut = m.nvmOut ++
    (if g.outData = [] then [] else [(2, d.addr, g.outData.take len)]) ++
    [(2, g.slotAddr g.cons + 0x18, leBytes 4 len)] ++ [(2, g.slotAddr g.cons + 0x0E, leBytes 1 code)] ++
    [(2, g.slotAddr g.cons + 0x0D, leBytes 1 (1 + 2 * b2n d.irq + 4 * b2n d.fence))] := by
  unfold ringWrites
  dsimp only
  split_ifs <;> simp

theorem lane_ringWrites (g : Ring) (k : LaneId) : (ringWrites g d code len m).lane k = m.lane k := by
  unfold ringWrites
  dsimp only
  split_ifs <;> simp

/-- A ring past its descriptor. -/
def Ring.past (g : Ring) : Ring :=
  let next := (g.cons + 1) % 65536
  { g with
    cons := next, cur := none, ending := none, outData := [], firstAt := none
    posts := g.posts.filter fun p => p.2 != next, state := if g.state = 2 then 0 else g.state }

/-- The writes of a completion, with CONS at the writeback address (R466). -/
def posted (l : LaneId) (r code len : Nat) (d : Desc) (m : Module) : Module :=
  let g := (m.lane l).ring r
  let m := ringWrites g d code len m
  if g.wb = 0 then m else programRaw 2 g.wb (leBytes 4 ((g.cons + 1) % 65536)) m

theorem lane_posted (k : LaneId) : (posted l r code len d m).lane k = m.lane k := by
  unfold posted
  dsimp only
  split_ifs <;> simp [lane_ringWrites]

theorem nvmOut_posted : (posted l r code len d m).nvmOut =
    (ringWrites ((m.lane l).ring r) d code len m).nvmOut ++
      if ((m.lane l).ring r).wb = 0 then []
      else [(2, ((m.lane l).ring r).wb, leBytes 4 ((((m.lane l).ring r).cons + 1) % 65536))] := by
  unfold posted
  dsimp only
  split_ifs <;> simp

variable {m l r code d}

/-- The end of a descriptor that did not fail: its writes, then the ring past it, then the message (R463, R466). -/
theorem ringEnd_eq (busy : ((m.lane l).ring r).cur = some d) (ends : code ≠ 5) : ringEnd l r code len m =
    if d.irq then ringMsg l r (updRing l r Ring.past (posted l r code len d m))
    else updRing l r Ring.past (posted l r code len d m) := by
  have past : updRing l r (fun x => { x with
      cons := (((m.lane l).ring r).cons + 1) % 65536, cur := none, ending := none, outData := [], firstAt := none
      posts := x.posts.filter fun p => p.2 != (((m.lane l).ring r).cons + 1) % 65536
      state := if x.state = 2 then 0 else x.state }) (posted l r code len d m) =
      updRing l r Ring.past (posted l r code len d m) := updRing_congr _ _ _ (by rw [lane_posted]; rfl)
  rw [← past]
  simp only [ringEnd, busy, if_neg ends]
  rfl

/-- A part of the ring that no message writes is after the end of a descriptor that of the ring past it. -/
theorem part_ringEnd {β : Type} (g : Ring → β) (at_ : ∀ x a, g { x with msgAt := a } = g x)
    (waits : ∀ (x : Ring) w, g { x with msgWait := w } = g x) (fits : r < (m.lane l).hst.rings.length)
    (busy : ((m.lane l).ring r).cur = some d) (ends : code ≠ 5) :
    g (((ringEnd l r code len m).lane l).ring r) = g ((m.lane l).ring r).past := by
  have past : ((updRing l r Ring.past (posted l r code len d m)).lane l).ring r = ((m.lane l).ring r).past := by
    rw [ring_updRing _ _ _ _ (by rwa [lane_posted]), lane_posted]
  rw [ringEnd_eq len busy ends]
  split_ifs
  · rw [part_ringMsg _ _ _ g at_ waits, past]
  · rw [past]

theorem nvmOut_ringEnd (busy : ((m.lane l).ring r).cur = some d) (ends : code ≠ 5) :
    (ringEnd l r code len m).nvmOut = (posted l r code len d m).nvmOut := by
  rw [ringEnd_eq len busy ends]
  split_ifs
  · rw [nvmOut_ringMsg, updRing_nvmOut]
  · exact updRing_nvmOut ..

end

/-- Settles O52: a completion's writes in their order, then CONS, past which only the message goes. -/
theorem completionsAreWrittenInOrder : Obligations.CompletionsAreWrittenInOrder := by
  intro m l r code len d g fits busy ends t
  refine ⟨part_ringEnd len Ring.cons (fun _ _ => rfl) (fun _ _ => rfl) fits busy ends,
    part_ringEnd len Ring.cur (fun _ _ => rfl) (fun _ _ => rfl) fits busy ends, _, _, _, _, _,
    (nvmOut_ringEnd len busy ends).trans ((nvmOut_posted ..).trans (congrArg (· ++ _) (nvmOut_ringWrites ..))),
    fun data => if_neg data, fun none => if_pos none, rfl, rfl, rfl, fun wb => if_neg wb, fun none => if_pos none⟩

end Sys2Proof.Machine
end

section
/-! The commands of the rings (R461, R463, R466 to R470). -/

namespace Sys2Proof.Machine

section
variable {s : State} {l : LaneId} {r : Nat}

/-! ### Doorbells (R461, R467) -/

section
variable {w : Word} (small : r < 8) (heard : s.m.bar2 l = true) (fits : r < (s.m.lane l).hst.rings.length)

/-- PROD and the order of its arrival recorded (R461, R467). -/
def rung (s : State) (l : LaneId) (r : Nat) (w : Word) (m : Module) : Module :=
  let g := (s.m.lane l).ring r
  let n := (s.m.lane l).hst.bellSeq
  let post := if fld w 15 0 = g.prod then [] else [(n, fld w 15 0)]
  updRing l r (fun g => { g with prod := fld w 15 0, posts := g.posts ++ post })
    (updHst l (fun h => { h with bellSeq := n + 1 }) m)

include fits in
theorem waiting_rung : (((rung s l r w s.m.fresh).lane l).ring r).waiting =
    (fld w 15 0 + 65536 - ((s.m.lane l).ring r).cons) % 65536 := by
  have lane : (updHst l (fun h => { h with bellSeq := (s.m.lane l).hst.bellSeq + 1 }) s.m.fresh).lane l =
      { s.m.lane l with hst := { (s.m.lane l).hst with bellSeq := (s.m.lane l).hst.bellSeq + 1 } } := by simp [updHst]
  unfold rung
  dsimp only
  rw [ring_updRing _ _ _ _ (by rwa [lane]), lane]
  rfl

include small heard fits

theorem does_doorbell : Does (.doorbell l r w) s fun _ m =>
    if ((s.m.lane l).ring r).size < (fld w 15 0 + 65536 - ((s.m.lane l).ring r).cons) % 65536
    then ringError l r 1 (rung s l r w m) else rung s l r w m := by
  have b : Does (.doorbell l r w) s (doorbellBody l r w) := rfl
  refine b.congr ((if_neg (by simp [heard, small])).trans ?_)
  rw [← waiting_rung fits]
  simp only [fresh_lane]
  rfl

end

/-! ### RUN and the size (R461, R468, R470) -/

theorem ends_updRing {i : Instr} {f : Ring → Ring} (d : Does i s fun _ m => updRing l r f m) : Ends i s fun t =>
    OnlyLane l s t ∧ t.m.out = [] ∧
    t.m.lane l = { s.m.lane l with hst := { (s.m.lane l).hst with rings := upd (s.m.lane l).hst.rings r f } } :=
  d.ends (by simp [OnlyLane, updRing, updHst])

theorem ends_ring {i : Instr} {f : Ring → Ring} (fits : r < (s.m.lane l).hst.rings.length)
    (d : Does i s fun _ m => updRing l r f m) :
    Ends i s fun t => OnlyLane l s t ∧ (t.m.lane l).ring r = f ((s.m.lane l).ring r) := by
  obtain ⟨t, next, only, -, lane⟩ := ends_updRing d
  refine ⟨t, next, only, ?_⟩
  rw [lane]
  simp [Lane.ring, fits]

theorem updRing_updRing (f g : Ring → Ring) (m : Module) :
    updRing l r f (updRing l r g m) = updRing l r (fun x => f (g x)) m := by
  have twice (xs : List Ring) : upd (upd xs r g) r f = upd xs r fun x => f (g x) := by
    simp [upd, List.modify_modify_eq, Function.comp_def]
  simp [updRing, updHst, twice]

section
variable {v : View} {w : Word} (heard : Heard s l v) (sel : (s.m.sel l v).hstRing = r)

section
include heard sel

theorem does_ringRun (run : bitOf w 0 = true) : Does (.ringRun l v w) s fun _ m => ringRun l r w m := by
  have b : Does (.ringRun l v w) s (ringRunBody l v w) := rfl
  exact b.congr ((guardWrite_heard heard _).trans ((if_pos run).trans (by rw [fresh_sel, sel])))

theorem does_ringRun_starts (run : bitOf w 0 = true) (sound : ((s.m.lane l).ring r).state ≠ 3) :
    Does (.ringRun l v w) s fun _ m =>
      updRing l r (fun g => { g with holdoff := fld w 25 16, run := true, state := 1 }) m :=
  (does_ringRun heard sel run).congr (updRing_congr _ _ _ (if_neg (by simpa using sound)))

theorem does_ringRun_error (run : bitOf w 0 = true) (error : ((s.m.lane l).ring r).state = 3) :
    Does (.ringRun l v w) s fun _ m => updRing l r (fun g => { g with holdoff := fld w 25 16 }) m :=
  (does_ringRun heard sel run).congr (updRing_congr _ _ _ (if_pos (by simpa using error)))

theorem does_hstRingSizeWrite_stopped (stopped : ((s.m.lane l).ring r).state = 0)
    (sound : fld w 12 0 ∈ [16, 32, 64, 128, 256, 512, 1024, 2048, 4096]) :
    Does (.hstRingSizeWrite l v w) s fun _ m =>
      updRing l r (fun g => { g with size := fld w 12 0, prod := 0, cons := 0, posts := [] }) m := by
  have b : Does (.hstRingSizeWrite l v w) s (hstRingSizeWriteBody l v w) := rfl
  refine b.congr ((guardWrite_heard heard _).trans ?_)
  rw [fresh_sel, sel]
  exact if_pos ⟨by rwa [fresh_lane], sound⟩

theorem ends_hstRingSizeWrite_ignored (unsound : ((s.m.lane l).ring r).state ≠ 0 ∨
    fld w 12 0 ∉ [16, 32, 64, 128, 256, 512, 1024, 2048, 4096]) : Ends (.hstRingSizeWrite l v w) s fun t =>
      OnlyLane l s t ∧ t.m.out = [] ∧ t.m.lane l = s.m.lane l := by
  have b : Does (.hstRingSizeWrite l v w) s (hstRingSizeWriteBody l v w) := rfl
  have d : Does (.hstRingSizeWrite l v w) s fun _ m => m := by
    refine b.congr ((guardWrite_heard heard _).trans ?_)
    rw [fresh_sel, sel]
    refine if_neg fun h => ?_
    obtain ⟨stopped, sound⟩ := h
    rw [fresh_lane] at stopped
    exact unsound.elim (· stopped) (· sound)
  exact d.ends (by simp [OnlyLane])

end

/-- A ring that RUN 0 stops (R468, R470). -/
def Ring.stopping (w : Word) (g : Ring) : Ring :=
  { g with
    holdoff := fld w 25 16, run := false, err := if g.state = 3 then 0 else g.err
    state := if g.cur.isSome && (g.state == 1 || g.state == 2) then 2 else 0 }

section
variable (stop : bitOf w 0 = false)
include heard sel stop

theorem does_ringStop : Does (.ringStop l v w) s fun _ m => endWaiting l r (updRing l r (Ring.stopping w) m) := by
  have b : Does (.ringStop l v w) s (ringStopBody l v w) := rfl
  exact b.congr ((guardWrite_heard heard _).trans ((if_neg (by simp [stop])).trans (by rw [fresh_sel, sel]; rfl)))

/-- A ring without a descriptor in execution is STOPPED at once; one that streams nothing ends no buffer. -/
theorem does_ringStop_alone (alone : ((s.m.lane l).ring r).cur = none ∨ (r ≠ 3 ∧ r ≠ 5 ∧ r ≠ 6)) :
    Does (.ringStop l v w) s fun _ m => updRing l r (Ring.stopping w) m := by
  have cur : (((updRing l r (Ring.stopping w) s.m.fresh).lane l).ring r).cur = ((s.m.lane l).ring r).cur :=
    (part_updRing _ _ _ (Ring.stopping w) Ring.cur fun _ => rfl).trans (by rw [fresh_lane])
  refine (does_ringStop heard sel stop).congr (if_neg ?_)
  rcases alone with idle | ⟨readout, capture, telemetry⟩
  · simp [cur, idle]
  · simp [readout, capture, telemetry]

theorem does_ringStop_idle (idle : ((s.m.lane l).ring r).cur = none) : Does (.ringStop l v w) s fun _ m =>
    updRing l r (fun g => { g with
      holdoff := fld w 25 16, run := false, state := 0
      err := if ((s.m.lane l).ring r).state = 3 then 0 else g.err }) m :=
  (does_ringStop_alone heard sel stop (.inl idle)).congr (updRing_congr _ _ _ (by simp [Ring.stopping, idle]))

theorem does_ringStop_waiting (busy : ((s.m.lane l).ring r).cur.isSome = true)
    (takes : ((s.m.lane l).ring r).ending = none) (empty : ((s.m.lane l).ring r).firstAt = none)
    (streams : r = 3 ∨ r = 5 ∨ r = 6) : Does (.ringStop l v w) s fun _ m =>
      updRing l r (fun g => { g.stopping w with ending := some (4, 0), outData := [] }) m := by
  have part {β : Type} (g : Ring → β) (keeps : ∀ x : Ring, g (x.stopping w) = g x) :
      g (((updRing l r (Ring.stopping w) s.m.fresh).lane l).ring r) = g ((s.m.lane l).ring r) :=
    (part_updRing _ _ _ (Ring.stopping w) g keeps).trans (by rw [fresh_lane])
  refine (does_ringStop heard sel stop).congr ((if_pos ?_).trans (updRing_updRing ..))
  simp [part Ring.cur fun _ => rfl, part Ring.ending fun _ => rfl, part Ring.firstAt fun _ => rfl, busy, takes, empty,
    or_assoc, streams]

end

end

/-! ### Ends of transfers, failed reads and messages (R463, R466, R468, R469) -/

@[simp] theorem fresh_mayMaster (m : Module) (l : LaneId) : m.fresh.mayMaster l = m.mayMaster l := by cases l <;> rfl

theorem does_descriptorComplete {d : Desc} {e : Nat × Nat} (busy : ((s.m.lane l).ring r).cur = some d)
    (ended : ((s.m.lane l).ring r).ending = some e) (masters : s.m.mayMaster l = true) :
    Does (.descriptorComplete l r) s fun _ m => ringEnd l r e.1 e.2 (doneEffect l r d.op e.1 m) := by
  have b : Does (.descriptorComplete l r) s (descriptorCompleteBody l r) := rfl
  refine b.congr ?_
  simp only [descriptorCompleteBody, fresh_lane, busy, ended, fresh_mayMaster]
  exact if_pos masters

theorem does_pcieCompletionTimeout_data {d : Desc} {n : Nat} (busy : ((s.m.lane l).ring r).cur = some d)
    (ended : ((s.m.lane l).ring r).ending = some (0, n)) (reads : inOp r d.op = true) (masters : s.m.mayMaster l = true)
    (runs : ((s.m.lane l).ring r).state = 1 ∨ ((s.m.lane l).ring r).state = 2) :
    Does (.pcieCompletionTimeout l r) s fun _ m => ringEnd l r 5 0 (doneEffect l r d.op 5 m) := by
  have b : Does (.pcieCompletionTimeout l r) s (pcieCompletionTimeoutBody l r) := rfl
  refine b.congr ((if_neg ?_).trans ?_)
  · simpa [masters] using runs.resolve_left
  · simp only [fresh_lane, busy]
    exact if_pos (by simp [reads, ended])

theorem does_pcieCompletionTimeout_next (idle : ((s.m.lane l).ring r).cur = none)
    (runs : ((s.m.lane l).ring r).state = 1) (waits : ((s.m.lane l).ring r).waiting ≠ 0)
    (masters : s.m.mayMaster l = true) :
    Does (.pcieCompletionTimeout l r) s fun _ m => ringError l r 5 (ringMsg l r m) := by
  have b : Does (.pcieCompletionTimeout l r) s (pcieCompletionTimeoutBody l r) := rfl
  refine b.congr ((if_neg (by simp [masters, runs])).trans ?_)
  simp only [fresh_lane, idle]
  exact if_pos (by simp [runs, waits])

theorem does_msixHoldoffEnd {a : Nat} (waits : ((s.m.lane l).ring r).msgWait = true)
    (sent : ((s.m.lane l).ring r).msgAt = some a) : Does (.msixHoldoffEnd l r) s fun _ m =>
      let m := clockTo (a + ((m.lane l).ring r).holdoff * 1000) m
      sendMsi l (18 + r) (updRing l r (fun g => { g with msgAt := some m.now, msgWait := false }) m) := by
  have b : Does (.msixHoldoffEnd l r) s (msixHoldoffEndBody l r) := rfl
  refine b.congr ?_
  simp only [msixHoldoffEndBody, fresh_lane, waits, if_true, sent]

end

/-- Settles O48: each command by the state that it finds its ring in. -/
theorem ringsAct : Obligations.RingsAct := by
  refine ⟨fun s l => ⟨fun r w small heard fits => ?_, fun v w heard => ?_⟩, fun s l r => ⟨?_, ?_, ?_, ?_⟩⟩
  · exact ⟨fun near => (does_doorbell small heard fits).congr (if_neg near.not_gt),
      fun beyond => (does_doorbell small heard fits).congr (if_pos beyond)⟩
  · refine ⟨fun run sound => ends_updRing (does_ringRun_starts heard rfl run sound),
      fun run error => ends_updRing (does_ringRun_error heard rfl run error),
      fun stop idle sound => ends_updRing ((does_ringStop_idle heard rfl stop idle).congr (by simp only [if_neg sound])),
      fun stop idle error => ends_updRing ((does_ringStop_idle heard rfl stop idle).congr (by simp only [if_pos error])),
      fun stop busy takes empty runs streams fits => ?_, fun stop busy runs readout capture telemetry fits => ?_,
      fun stopped sound => ends_updRing (does_hstRingSizeWrite_stopped heard rfl stopped sound),
      fun unsound => ends_hstRingSizeWrite_ignored heard rfl unsound⟩
    · exact (ends_ring fits (does_ringStop_waiting heard rfl stop busy takes empty streams)).imp fun t ⟨next, only, ring⟩ =>
        ⟨next, only, ring.trans (by simp [Ring.stopping, busy, runs])⟩
    · exact (ends_ring fits (does_ringStop_alone heard rfl stop (.inr ⟨readout, capture, telemetry⟩))).imp
        fun t ⟨next, only, ring⟩ => ⟨next, only, ring.trans (by simp [Ring.stopping, busy, runs])⟩
  · exact fun d e busy ended masters => does_descriptorComplete busy ended masters
  · exact fun d n busy ended reads masters runs => does_pcieCompletionTimeout_data busy ended reads masters runs
  · exact fun idle runs waits masters => does_pcieCompletionTimeout_next idle runs waits masters
  · exact fun a waits sent => does_msixHoldoffEnd waits sent

end Sys2Proof.Machine
end

section
/-! The register commands of the key store (R426, R427, R430, R433, R434). -/

namespace Sys2Proof.Machine

@[simp] theorem fresh_keyBuf (m : Module) (l : LaneId) : m.fresh.keyBuf l = m.keyBuf l := by cases l <;> rfl

@[simp] theorem fresh_peerWrites (m : Module) (l : LaneId) : m.fresh.peerWrites l = m.peerWrites l := by cases l <;> rfl

section
variable {s : State} {l : LaneId} {v : View} {w : Word} {bad : Bool} (heard : Heard s l v)
  (active : s.m.active l = true) (idle : (s.m.lane l).key.cmdState ≠ 1)
include heard active idle

/-- A key command that is accepted has the effect of its operation (R433). -/
theorem does_of_keyCommand {i : Instr} {modeOk : Mode → Bool} {f g : Store → Module → Module}
    (b : Does i s fun st m => keyCommand l v modeOk (f st) m) (mode : modeOk (s.m.lane l).sys.mode = true)
    (same : f s.mem s.m.fresh = g s.mem s.m.fresh) : Does i s g := by
  refine (does_of_guardWrite heard b).congr ((if_neg (by simp [active])).trans ?_)
  rw [fresh_lane]
  exact (if_neg idle).trans ((if_neg (by simp [mode])).trans same)

/-! ### IMPORT (R427, R428, R430) -/

section
variable (mode : keyLoadMode (s.m.lane l).sys.mode = true)
include mode

section
variable {x : KeySlot} (judged : judgeEntry true (s.m.lane l).key.slots (secEntryOf (s.m.keyBuf l))
  (secEntryResv (s.m.keyBuf l)) = .ok x)
include judged

section
variable (alone : (bitOf w 24 && s.m.variant == .nfj8) = false)
include alone

theorem does_keyImport_plain (trng : (s.m.lane l).key.trngFailed = false) (op : (secEntryOf (s.m.keyBuf l)).op = 1)
    (plain : (secEntryOf (s.m.keyBuf l)).kekSlot = 0xFF) : Does (.keyImport l v ⟨w, bad⟩) s fun _ m =>
      keyEnd l 2 0 (putKeyBuf l 0 (List.replicate 128 0)
        (report l 16 0x9001 (secEntryOf (s.m.keyBuf l)).slot (secEntryOf (s.m.keyBuf l)).attr 0
          (setSlot l (secEntryOf (s.m.keyBuf l)).slot x m))) := by
  have b : Does (.keyImport l v ⟨w, bad⟩) s (keyImportBody l v w bad) := rfl
  refine does_of_keyCommand heard active idle b mode ?_
  simp [judged, alone, trng, op, plain]

theorem does_keyImport_wrapped {k : Bytes} (trng : (s.m.lane l).key.trngFailed = false)
    (op : (secEntryOf (s.m.keyBuf l)).op = 1) (kek : (secEntryOf (s.m.keyBuf l)).kekSlot ≠ 0xFF)
    (use : (useSlot l (secEntryOf (s.m.keyBuf l)).kekSlot 1 bad s.m.fresh).1 = .ok k) :
    Does (.keyImport l v ⟨w, bad⟩) s fun _ m =>
      keyEnd l 2 0 (putKeyBuf l 0 (List.replicate 128 0)
        (report l 16 0x9001 (secEntryOf (s.m.keyBuf l)).slot (secEntryOf (s.m.keyBuf l)).attr 0
          (setSlot l (secEntryOf (s.m.keyBuf l)).slot x (useSlot l (secEntryOf (s.m.keyBuf l)).kekSlot 1 bad m).2))) := by
  have b : Does (.keyImport l v ⟨w, bad⟩) s (keyImportBody l v w bad) := rfl
  refine does_of_keyCommand heard active idle b mode ?_
  simp [judged, alone, trng, op, kek, use]

theorem does_keyImport_attributes (op : (secEntryOf (s.m.keyBuf l)).op = 0) :
    Does (.keyImport l v ⟨w, bad⟩) s fun _ m =>
      keyEnd l 2 0 (report l 16 0x9001 (secEntryOf (s.m.keyBuf l)).slot (secEntryOf (s.m.keyBuf l)).attr 0
        (setSlot l (secEntryOf (s.m.keyBuf l)).slot x m)) := by
  have b : Does (.keyImport l v ⟨w, bad⟩) s (keyImportBody l v w bad) := rfl
  refine does_of_keyCommand heard active idle b mode ?_
  simp [judged, alone, op]

end

theorem does_keyImport_both {y : KeySlot} (both : (bitOf w 24 && s.m.variant == .nfj8) = true)
    (mate : s.m.peerWrites l = true) (peer : judgeEntry true (s.m.lane l.other).key.slots (secEntryOf (s.m.keyBuf l))
      (secEntryResv (s.m.keyBuf l)) = .ok y) (op : (secEntryOf (s.m.keyBuf l)).op = 0) :
    Does (.keyImport l v ⟨w, bad⟩) s fun _ m =>
      let e := secEntryOf (s.m.keyBuf l)
      keyEnd l 2 0 (report l.other 16 0x9001 e.slot e.attr 2 (setSlot l.other e.slot y
        (report l 16 0x9001 e.slot e.attr 0 (setSlot l e.slot x m)))) := by
  have b : Does (.keyImport l v ⟨w, bad⟩) s (keyImportBody l v w bad) := rfl
  refine does_of_keyCommand heard active idle b mode ?_
  simp [judged, both, mate, peer, op]

end

section
variable {c : Nat} (judged : judgeEntry true (s.m.lane l).key.slots (secEntryOf (s.m.keyBuf l))
  (secEntryResv (s.m.keyBuf l)) = .error c)
include judged

theorem does_keyImport_refused (tries : (secEntryOf (s.m.keyBuf l)).tries (secEntryResv (s.m.keyBuf l)) = false) :
    Does (.keyImport l v ⟨w, bad⟩) s fun _ m => keyRefuse l c m := by
  have b : Does (.keyImport l v ⟨w, bad⟩) s (keyImportBody l v w bad) := rfl
  refine does_of_keyCommand heard active idle b mode ?_
  simp only [fresh_keyBuf, fresh_lane, judged]
  exact if_pos (by simp [tries])

/-! An entry that is refused still uses the key-encryption slot that its judgement came to (R430). -/

variable (tries : (secEntryOf (s.m.keyBuf l)).tries (secEntryResv (s.m.keyBuf l)) = true)
include tries

theorem does_keyImport_unfit (code : c = keyAttr ∨ c = keyExhausted) : Does (.keyImport l v ⟨w, bad⟩) s fun _ m =>
    keyEnd l 3 c (refuseUse l (secEntryOf (s.m.keyBuf l)).kekSlot c m) := by
  have b : Does (.keyImport l v ⟨w, bad⟩) s (keyImportBody l v w bad) := rfl
  refine does_of_keyCommand heard active idle b mode ?_
  simp only [fresh_keyBuf, fresh_lane, judged]
  exact (if_neg (by simp [tries])).trans (if_pos code)

variable (code : ¬(c = keyAttr ∨ c = keyExhausted))
include code

theorem does_keyImport_useFails {d : Nat}
    (use : (useSlot l (secEntryOf (s.m.keyBuf l)).kekSlot 1 bad s.m.fresh).1 = .error d) :
    Does (.keyImport l v ⟨w, bad⟩) s fun _ m =>
      keyEnd l 3 d (useSlot l (secEntryOf (s.m.keyBuf l)).kekSlot 1 bad m).2 := by
  have b : Does (.keyImport l v ⟨w, bad⟩) s (keyImportBody l v w bad) := rfl
  refine does_of_keyCommand heard active idle b mode ?_
  simp only [fresh_keyBuf, fresh_lane, judged, use]
  exact (if_neg (by simp [tries])).trans (if_neg code)

theorem does_keyImport_usedInVain {k : Bytes}
    (use : (useSlot l (secEntryOf (s.m.keyBuf l)).kekSlot 1 bad s.m.fresh).1 = .ok k) :
    Does (.keyImport l v ⟨w, bad⟩) s fun _ m =>
      keyRefuse l c (useSlot l (secEntryOf (s.m.keyBuf l)).kekSlot 1 bad m).2 := by
  have b : Does (.keyImport l v ⟨w, bad⟩) s (keyImportBody l v w bad) := rfl
  refine does_of_keyCommand heard active idle b mode ?_
  simp only [fresh_keyBuf, fresh_lane, judged, use]
  exact (if_neg (by simp [tries])).trans (if_neg code)

end

/-! ### ERASE (R433) -/

theorem does_keyErase (own : 8 ≤ fld w 13 8) (free : ((s.m.lane l).key.slot (fld w 13 8)).locked = false)
    (full : ((s.m.lane l).key.slot (fld w 13 8)).key.isSome = true)
    (mate : (bitOf w 24 && s.m.variant == .nfj8) = true →
      s.m.peerWrites l = true ∧ ((s.m.lane l.other).key.slot (fld w 13 8)).locked = false) :
    Does (.keyErase l v w) s fun _ m =>
      let m := report l 16 0x9003 (fld w 13 8) 0 0 (setSlot l (fld w 13 8) {} m)
      keyEnd l 2 0 (if bitOf w 24 && s.m.variant == .nfj8 then
        report l.other 16 0x9003 (fld w 13 8) 2 0 (setSlot l.other (fld w 13 8) {} m) else m) := by
  have b : Does (.keyErase l v w) s (keyEraseBody l v w) := rfl
  have goes : ¬((bitOf w 24 && s.m.variant == .nfj8) = true ∧
      ((!s.m.peerWrites l) = true ∨ ((s.m.lane l.other).key.slot (fld w 13 8)).locked = true)) := fun h => by
    obtain ⟨writes, unlocked⟩ := mate h.1
    simp [writes, unlocked] at h
  have kept : ¬((s.m.lane l).key.slot (fld w 13 8)).key.isNone = true := by
    simpa [← Option.isSome_iff_ne_none] using full
  refine does_of_keyCommand heard active idle b mode ?_
  simp only [fresh_lane, fresh_variant, fresh_peerWrites, if_neg own.not_gt, free, Bool.false_eq_true, if_false,
    if_neg kept, if_neg goes]

end

/-! ### Uses of a slot (R426, R430, R433, R434) -/

section
variable (mode : keyUseMode (s.m.lane l).sys.mode = true)
include mode

section
variable (fits : leAt (s.m.keyBuf l) 0 1 ≤ 96)
include fits

theorem does_keyMac {k : Bytes} (use : (useSlot l (fld w 13 8) 0 bad s.m.fresh).1 = .ok k) :
    Does (.keyMac l v ⟨w, bad⟩) s fun _ m => keyEnd l 2 0 (putKeyBuf l 0x60
      (hmac k (slice (s.m.keyBuf l) 1 (leAt (s.m.keyBuf l) 0 1))) (useSlot l (fld w 13 8) 0 bad m).2) := by
  have b : Does (.keyMac l v ⟨w, bad⟩) s (keyMacBody l v w bad) := rfl
  refine does_of_keyCommand heard active idle b mode ?_
  simp only [fresh_keyBuf, gt_iff_lt, if_neg fits.not_gt, use]

theorem does_keyMac_useFails {c : Nat} (use : (useSlot l (fld w 13 8) 0 bad s.m.fresh).1 = .error c) :
    Does (.keyMac l v ⟨w, bad⟩) s fun _ m => keyEnd l 3 c (useSlot l (fld w 13 8) 0 bad m).2 := by
  have b : Does (.keyMac l v ⟨w, bad⟩) s (keyMacBody l v w bad) := rfl
  refine does_of_keyCommand heard active idle b mode ?_
  simp only [fresh_keyBuf, gt_iff_lt, if_neg fits.not_gt, use]

end

theorem does_keyVerify {qx : Bytes} (typeX : attrType ((s.m.lane l).key.slot (fld w 13 8)).attr = 3)
    (typeY : attrType ((s.m.lane l).key.slot (fld w 13 8 + 1)).shown = 4)
    (may : nbit ((s.m.lane l).key.slot (fld w 13 8 + 1)).shown 3 = true)
    (alive : ((s.m.lane l).key.slot (fld w 13 8 + 1)).isDead = false)
    (use : (useSlot l (fld w 13 8) 3 bad s.m.fresh).1 = .ok qx) : Does (.keyVerify l v ⟨w, bad⟩) s fun _ m =>
      let bs := s.m.keyBuf l
      keyEnd l 2 (if ecdsaVerify (slice bs 0 32) (slice bs 32 32) (slice bs 64 32) qx
          (((s.m.lane l).key.slot (fld w 13 8 + 1)).key.getD []) then 0 else keySignature)
        (spend 16 l [(fld w 13 8 + 1, 3)] (useSlot l (fld w 13 8) 3 bad m).2) := by
  have b : Does (.keyVerify l v ⟨w, bad⟩) s (keyVerifyBody l v w bad) := rfl
  refine does_of_keyCommand heard active idle b mode ?_
  simp [typeX, typeY, may, alive, use]

theorem does_keyVerify_dead (full : ((s.m.lane l).key.slot (fld w 13 8)).key.isSome = true)
    (typeX : attrType ((s.m.lane l).key.slot (fld w 13 8)).attr = 3)
    (typeY : attrType ((s.m.lane l).key.slot (fld w 13 8 + 1)).shown = 4)
    (may : nbit ((s.m.lane l).key.slot (fld w 13 8 + 1)).shown 3 = true)
    (dead : ((s.m.lane l).key.slot (fld w 13 8 + 1)).isDead = true) : Does (.keyVerify l v ⟨w, bad⟩) s fun _ m =>
      keyEnd l 3 keyExhausted (refuseUse l (fld w 13 8 + 1) keyExhausted m) := by
  have b : Does (.keyVerify l v ⟨w, bad⟩) s (keyVerifyBody l v w bad) := rfl
  refine does_of_keyCommand heard active idle b mode ?_
  simp [full, typeX, typeY, may, dead]

theorem does_keyChallenge {cfg : Conf} {k : Bytes} (image : (s.m.lane l).cfg.active = some cfg)
    (may : nbit ((s.m.lane l).key.slot cfg.challengeSlot).shown 4 = true)
    (use : (useSlot l cfg.challengeSlot 4 bad s.m.fresh).1 = .ok k) : Does (.keyChallenge l v ⟨w, bad⟩) s fun _ m =>
      let msg := slice (s.m.keyBuf l) 0 16 ++ fitTo 16 Config.serial ++ leBytes 1 l.num ++ leBytes 3 0 ++
        leBytes 4 (s.m.lane l).mtr.sealWord ++ fitTo 32 (s.m.lane l).cfg.activeDigest
      keyEnd l 2 0 (report l 16 0x9006 cfg.challengeSlot (s.m.lane l).mtr.sealWord
        (leAt (s.m.lane l).cfg.activeDigest 0 4)
        (putKeyBuf l 0 (msg ++ hmac k msg) (useSlot l cfg.challengeSlot 4 bad m).2)) := by
  have b : Does (.keyChallenge l v ⟨w, bad⟩) s (keyChallengeBody l v w bad) := rfl
  refine does_of_keyCommand heard active idle b mode ?_
  simp [image, may, use]

/-- The ATTR word that a derivation gives its target: what the buffer asks for, as a symmetric key (R426). -/
def derivedAttr (bs : Bytes) : Nat := leAt bs 0x70 4 - attrType (leAt bs 0x70 4) * 512 + 512

theorem does_keyDerive {k : Bytes} (own : 8 ≤ fld w 13 8) (labelled : 1 ≤ leAt (s.m.keyBuf l) 0 1)
    (label : leAt (s.m.keyBuf l) 0 1 ≤ 32) (context : leAt (s.m.keyBuf l) 1 1 ≤ 64)
    (count : leAt (s.m.keyBuf l) 0x74 4 < 2 ^ 24)
    (allowed : attrForbidden (derivedAttr (s.m.keyBuf l)) (leAt (s.m.keyBuf l) 0x74 4) = false)
    (image : nbit (derivedAttr (s.m.keyBuf l)) 6 = false) (free : ((s.m.lane l).key.slot (fld w 13 8)).locked = false)
    (target : nbit ((s.m.lane l).key.slot (fld w 13 8)).attr 6 = false)
    (use : (useSlot l (fld w 21 16) 2 bad s.m.fresh).1 = .ok k) : Does (.keyDerive l v ⟨w, bad⟩) s fun _ m =>
      let bs := s.m.keyBuf l
      let out := kdf k (slice bs 2 (leAt bs 0 1)) (slice bs (2 + leAt bs 0 1) (leAt bs 1 1))
      keyEnd l 2 0 (report l 16 0x9002 (fld w 21 16) (fld w 13 8) (derivedAttr bs) (setSlot l (fld w 13 8)
        ⟨some out, derivedAttr bs, if nbit (derivedAttr bs) 8 then leAt bs 0x74 4 else 0, []⟩
        (useSlot l (fld w 21 16) 2 bad m).2)) := by
  have b : Does (.keyDerive l v ⟨w, bad⟩) s (keyDeriveBody l v w bad) := rfl
  refine does_of_keyCommand heard active idle b mode ?_
  have attr : leAt (s.m.keyBuf l) 0x70 4 - attrType (leAt (s.m.keyBuf l) 0x70 4) * 512 + 512 =
      derivedAttr (s.m.keyBuf l) := rfl
  simp only [fresh_keyBuf, fresh_lane, attr, if_neg own.not_gt]
  refine (if_neg ?_).trans ((if_neg (by simp [free])).trans ?_)
  · simp only [allowed, image, target, Bool.false_eq_true, false_and, or_false]
    omega
  · simp only [use]

end

end

/-- Settles O44: each command past its guard, by what its judgement and its use of a slot answer. -/
theorem keyCommandsAct : Obligations.KeyCommandsAct := by
  intro s l v w bad heard active idle bs slot both
  have alone (not : ¬both) : (bitOf w 24 && s.m.variant == .nfj8) = false := by simpa [both] using not
  have mated (h : both) : (bitOf w 24 && s.m.variant == .nfj8) = true := by simpa [both] using h
  refine ⟨fun mode => ⟨fun x judged trng not op plain =>
        does_keyImport_plain heard active idle mode judged (alone not) trng op plain,
      fun x k judged trng not op kek use =>
        does_keyImport_wrapped heard active idle mode judged (alone not) trng op kek use,
      fun x judged not op => does_keyImport_attributes heard active idle mode judged (alone not) op,
      fun x y judged h mate peer op => does_keyImport_both heard active idle mode judged (mated h) mate peer op,
      fun c judged => ?_, fun own free full not => ?_, fun own free full h mate unlocked => ?_⟩,
    fun mode => ⟨fun k fits use => does_keyMac heard active idle mode fits use,
      fun c fits use => does_keyMac_useFails heard active idle mode fits use,
      fun qx typeX typeY may alive use => does_keyVerify heard active idle mode typeX typeY may alive use,
      fun full typeX typeY may dead => does_keyVerify_dead heard active idle mode full typeX typeY may dead,
      fun cfg k image may use => does_keyChallenge heard active idle mode image may use,
      fun k own labelled label context count allowed image free target use =>
        does_keyDerive heard active idle mode own labelled label context count allowed image free target use⟩⟩
  · exact ⟨fun tries => does_keyImport_refused heard active idle mode judged tries,
      fun tries code => does_keyImport_unfit heard active idle mode judged tries code,
      fun d tries attr dead use => does_keyImport_useFails heard active idle mode judged tries (by simp [attr, dead]) use,
      fun k tries attr dead use =>
        does_keyImport_usedInVain heard active idle mode judged tries (by simp [attr, dead]) use⟩
  · exact (does_keyErase heard active idle mode own free full fun h => by simp [alone not] at h).congr
      (by simp only [alone not]; rfl)
  · exact (does_keyErase heard active idle mode own free full fun _ => ⟨mate, unlocked⟩).congr
      (by simp only [mated h]; rfl)

end Sys2Proof.Machine
end

section
/-! What a locked slot keeps (R421, R427, R432, R433): the parts of a lane's key store that hold its keys, and what a use, a
load and a judgement leave of them. -/

namespace Sys2Proof.Machine

/-! ### The vault of a lane -/

/-- The parts of a lane's key store that hold its keys: the working store, the array, and the slots found faulty. -/
structure Vault where
  slots : List KeySlot
  array : List (List KeyCopy)
  faulty : List Nat

def Lane.vault (L : Lane) : Vault := ⟨L.key.slots, L.key.array, L.key.faulty⟩

def Module.vault (m : Module) (k : LaneId) : Vault := (m.lane k).vault

def Vault.slot (V : Vault) (q : Nat) : KeySlot := at? V.slots q {}

/-- What a slot holds for its users: its key and its ATTR word. -/
def KeySlot.content (x : KeySlot) : Option Bytes × Nat := (x.key, x.attr)

/-- The array gives back, for a slot found faulty, the key that the slot holds (R432). -/
def Vault.Sound (V : Vault) (k : LaneId) (q : Nat) (x : Bytes) : Prop := V.faulty.contains q = true →
  (newestCopy (at? V.array q [])).bind (fun c => kwUnwrap (fitTo 32 (Config.deviceKey k.num)) c.wrapped) ∈ [none, some x]

/-- Two vaults differ at one slot at most. -/
def Vault.Elsewhere (p : Nat) (V W : Vault) : Prop := ∀ q, q ≠ p → W.slot q = V.slot q ∧
  at? W.array q [] = at? V.array q [] ∧ W.faulty.contains q = V.faulty.contains q

/-- Nothing but one slot of one lane's vault differs. -/
def KeepsElsewhere (j : LaneId) (p : Nat) (m n : Module) : Prop :=
  (∀ k, k ≠ j → n.vault k = m.vault k) ∧ (m.vault j).Elsewhere p (n.vault j)

section
variable {j k : LaneId} {p q : Nat} {m n o : Module}

theorem KeepsElsewhere.of_vault (same : n.vault = m.vault) : KeepsElsewhere j p m n :=
  ⟨fun _ _ => congrFun same _, fun _ _ => by rw [same]; exact ⟨rfl, rfl, rfl⟩⟩

theorem KeepsElsewhere.trans (first : KeepsElsewhere j p m n) (second : KeepsElsewhere j p n o) :
    KeepsElsewhere j p m o := by
  obtain ⟨lanes, slots⟩ := first
  obtain ⟨lanes', slots'⟩ := second
  refine ⟨fun k differs => (lanes' k differs).trans (lanes k differs), fun q differs => ?_⟩
  obtain ⟨slot, copies, faulty⟩ := slots q differs
  obtain ⟨slot', copies', faulty'⟩ := slots' q differs
  exact ⟨slot'.trans slot, copies'.trans copies, faulty'.trans faulty⟩

theorem KeepsElsewhere.slot (keeps : KeepsElsewhere j p m n) (differs : k = j → q ≠ p) :
    (n.vault k).slot q = (m.vault k).slot q := by
  obtain ⟨lanes, slots⟩ := keeps
  by_cases same : k = j
  · subst same
    obtain ⟨slot, -, -⟩ := slots q (differs rfl)
    exact slot
  · rw [lanes k same]

theorem KeepsElsewhere.sound {x : Bytes} (keeps : KeepsElsewhere j p m n) (differs : k = j → q ≠ p)
    (sound : (m.vault k).Sound k q x) : (n.vault k).Sound k q x := by
  obtain ⟨lanes, slots⟩ := keeps
  by_cases same : k = j
  · subst same
    obtain ⟨-, copies, faulty⟩ := slots q (differs rfl)
    unfold Vault.Sound
    rwa [copies, faulty]
  · rwa [lanes k same]

end

/-! ### What leaves every vault as it was -/

section
variable (j : LaneId) (m : Module)

@[simp] theorem vault_report (b c x y z : Nat) : (report j b c x y z m).vault = m.vault := by
  funext k
  simp [Module.vault, Lane.vault]

@[simp] theorem vault_raise (b bits : Nat) : (raise j b bits m).vault = m.vault := by
  funext k
  refine part_raise Lane.vault (fun L w => ?_) (fun _ _ => rfl) ..
  unfold Lane.setIrq
  split <;> rfl

theorem vault_updLane {f : Lane → Lane} (keeps : ∀ L, (f L).vault = L.vault) : (m.updLane j f).vault = m.vault := by
  funext k
  cases j <;> cases k <;> simp only [Module.vault, Module.updLane, Module.lane, keeps]

@[simp] theorem vault_keyEnd (state result : Nat) : (keyEnd j state result m).vault = m.vault :=
  (vault_raise ..).trans (vault_updLane _ _ fun _ => rfl)

@[simp] theorem vault_keyRefuse (code : Nat) : (keyRefuse j code m).vault = m.vault :=
  (vault_keyEnd ..).trans (vault_updLane _ _ fun _ => rfl)

@[simp] theorem vault_putKeyBuf (off : Nat) (bs : Bytes) : (putKeyBuf j off bs m).vault = m.vault :=
  vault_updLane _ _ fun _ => rfl

@[simp] theorem vault_refuseUseAs (user slot code : Nat) : (refuseUseAs user j slot code m).vault = m.vault := by
  unfold refuseUseAs
  dsimp only
  split_ifs
  · exact (vault_report ..).trans (vault_updLane _ _ fun _ => rfl)
  · exact vault_updLane _ _ fun _ => rfl

@[simp] theorem vault_refuseUse (slot code : Nat) : (refuseUse j slot code m).vault = m.vault := vault_refuseUseAs ..

/-! ### What changes one slot -/

theorem keepsElsewhere_updLane {p : Nat} {f : Lane → Lane} (keeps : ∀ L : Lane, L.vault.Elsewhere p (f L).vault) :
    KeepsElsewhere j p m (m.updLane j f) := by
  refine ⟨fun k differs => ?_, ?_⟩
  · cases j <;> cases k <;> simp_all [Module.vault, Module.updLane, Module.lane]
  · rw [Module.vault, Module.vault, lane_updLane]
    exact keeps _

theorem keepsElsewhere_setSlot (p : Nat) (s : KeySlot) : KeepsElsewhere j p m (setSlot j p s m) :=
  KeepsElsewhere.trans (n := m.randomised) (.of_vault (by funext k; cases k <;> rfl))
    (keepsElsewhere_updLane _ _ fun _ _ differs =>
      ⟨at?_upd_ne _ _ _ _ _ differs.symm, at?_upd_ne _ _ _ _ _ differs.symm, rfl⟩)

theorem keepsElsewhere_unfault (p : Nat) : KeepsElsewhere j p m (m.updLane j fun L =>
    { L with key := { L.key with faulty := L.key.faulty.filter (· != p) } }) :=
  keepsElsewhere_updLane _ _ fun L q differs => ⟨rfl, rfl, by simp [Lane.vault, differs]⟩

theorem keepsElsewhere_fault (p : Nat) : KeepsElsewhere j p m (m.updLane j fun L =>
    { L with key := { L.key with faulty := p :: L.key.faulty.filter (· != p) } }) :=
  keepsElsewhere_updLane _ _ fun L q differs => ⟨rfl, rfl, by simp [Lane.vault, differs]⟩

theorem vault_randomised : m.randomised.vault = m.vault := by
  funext k
  cases k <;> rfl

/-- A slot used: its fault is over, it holds the key that the use has given, and a LIMITED one has a count less (R430,
R432). -/
def slotUsed (p : Nat) (key : Bytes) : Module :=
  let s := (m.lane j).key.slot p
  let m := m.updLane j fun L => { L with key := { L.key with faulty := L.key.faulty.filter (· != p) } }
  if !nbit s.attr 8 then
    let r := m.random
    m.randomised.updLane j fun L => { L with key := { L.key with
      slots := upd L.key.slots p fun s => { s with key := some key, mask := r } } }
  else
    let m := setSlot j p { s with key := some key, count := s.count - 1 } m
    if s.count = 1 then report j 16 0x9005 p 0 0 (raise j 16 2 m) else m

/-- The key that a use gives: of a slot found faulty, that of the array (R432). -/
def Vault.reloaded (V : Vault) (k : LaneId) (p : Nat) (held : Bytes) : Bytes :=
  if V.faulty.contains p then ((newestCopy (at? V.array p [])).bind
    (fun c => kwUnwrap (fitTo 32 (Config.deviceKey k.num)) c.wrapped)).getD held else held

/-- A use is refused, finds a fault, or gives the slot's key (R421, R430, R432). -/
theorem useSlotAs_cases (user p bit : Nat) (fault : Bool) :
    (useSlotAs user j p bit fault m).2.vault = m.vault ∨
    (useSlotAs user j p bit fault m).2.vault = (m.updLane j fun L =>
      { L with key := { L.key with faulty := p :: L.key.faulty.filter (· != p) } }).vault ∨
    ∃ held, ((m.vault j).slot p).key = some held ∧
      (useSlotAs user j p bit fault m).2 = slotUsed j m p ((m.vault j).reloaded j p held) := by
  have refused (code : Nat) : (refuseUseAs user j p code m).vault = m.vault := vault_refuseUseAs ..
  unfold useSlotAs
  dsimp only
  split
  case h_1 => exact .inl (refused _)
  case h_2 held holds =>
    by_cases may : nbit ((m.lane j).key.slot p).attr bit = true
    · rw [if_neg (by simp [may])]
      by_cases dead : ((m.lane j).key.slot p).isDead = true
      · rw [if_pos dead]
        exact .inl (refused _)
      · rw [if_neg dead]
        by_cases trng : (m.lane j).key.trngFailed = true
        · rw [if_pos trng]
          exact .inl (refused _)
        · rw [if_neg trng]
          by_cases bad : fault = true
          · rw [if_pos bad]
            exact .inr (.inl (by simp))
          · rw [if_neg bad]
            refine .inr (.inr ⟨held, holds, ?_⟩)
            exact apply_ite Prod.snd ..
    · rw [if_pos (by simp [may])]
      exact .inl (refused _)

theorem keepsElsewhere_slotUsed (p : Nat) (key : Bytes) : KeepsElsewhere j p m (slotUsed j m p key) := by
  unfold slotUsed
  dsimp only
  split_ifs
  · exact (keepsElsewhere_unfault j m p).trans (.trans (.of_vault (vault_randomised _))
      (keepsElsewhere_updLane _ _ fun _ _ differs => ⟨at?_upd_ne _ _ _ _ _ differs.symm, rfl, rfl⟩))
  · exact (keepsElsewhere_unfault j m p).trans ((keepsElsewhere_setSlot ..).trans
      (.of_vault ((vault_report ..).trans (vault_raise ..))))
  · exact (keepsElsewhere_unfault j m p).trans (keepsElsewhere_setSlot ..)

/-- A use changes nothing but its slot (R430, R432). -/
theorem keepsElsewhere_useSlotAs (user p bit : Nat) (fault : Bool) :
    KeepsElsewhere j p m (useSlotAs user j p bit fault m).2 := by
  rcases useSlotAs_cases j m user p bit fault with same | faulty | ⟨held, -, used⟩
  · exact .of_vault same
  · exact (keepsElsewhere_fault j m p).trans (.of_vault faulty)
  · rw [used]
    exact keepsElsewhere_slotUsed ..

/-- A slot that holds a key is one of the store's. -/
theorem lt_of_holds {V : Vault} {p : Nat} {x : Bytes} (holds : (V.slot p).key = some x) : p < V.slots.length := by
  by_contra outside
  simp [Vault.slot, at?, outside] at holds

/-- A slot changed in the working store holds what the change makes of it. -/
theorem content_updSlot {p : Nat} {x : Bytes} (holds : ((m.vault j).slot p).key = some x) (f : KeySlot → KeySlot)
    {F : Lane → Lane} (slots : ∀ L, (F L).key.slots = upd L.key.slots p f) :
    (((m.updLane j F).vault j).slot p).content = (f ((m.vault j).slot p)).content := by
  have changed : ((m.updLane j F).vault j).slot p = at? (upd (m.vault j).slots p f) p {} := by
    rw [Module.vault, lane_updLane]
    exact congrArg (at? · p {}) (slots _)
  rw [changed, at?_upd _ _ _ _ (lt_of_holds holds)]
  rfl

/-- A slot set holds what it is given. -/
theorem content_setSlot {p : Nat} {x : Bytes} (holds : ((m.vault j).slot p).key = some x) (s : KeySlot) :
    (((setSlot j p s m).vault j).slot p).content = s.content :=
  content_updSlot j m.randomised (x := x) (by rwa [vault_randomised]) (fun _ => { s with mask := m.random }) fun _ => rfl

end

theorem reloaded_of_sound {V : Vault} {k : LaneId} {p : Nat} {x : Bytes} (sound : V.Sound k p x) :
    V.reloaded k p x = x := by
  unfold Vault.reloaded
  split_ifs with faulty
  · rcases List.mem_pair.mp (sound faulty) with none_ | some_
    · rw [none_, Option.getD_none]
    · rw [some_, Option.getD_some]
  · rfl

theorem content_slotUsed {j : LaneId} {m : Module} {p : Nat} {x : Bytes} (holds : ((m.vault j).slot p).key = some x) :
    (((slotUsed j m p x).vault j).slot p).content = ((m.vault j).slot p).content := by
  have content : ((m.vault j).slot p).content = (some x, ((m.vault j).slot p).attr) := by rw [KeySlot.content, holds]
  have unfaulted : (((m.updLane j fun L => { L with key := { L.key with
      faulty := L.key.faulty.filter (· != p) } }).vault j).slot p) = (m.vault j).slot p := by
    rw [Module.vault, lane_updLane]
    rfl
  rw [content]
  unfold slotUsed
  dsimp only
  split_ifs
  · rw [content_updSlot j _ (x := x) (by rw [vault_randomised, unfaulted, holds])
      (fun s => { s with key := some x, mask := _ }) fun _ => rfl, vault_randomised, unfaulted]
    rfl
  · rw [vault_report, vault_raise, content_setSlot j _ (x := x) (by rw [unfaulted, holds])]
    rfl
  · rw [content_setSlot j _ (x := x) (by rw [unfaulted, holds])]
    rfl

/-- A use of a slot, faulty or not, leaves what it holds, where the array gives a faulty one its own key back (R432). -/
theorem content_useSlotAs {j : LaneId} {m : Module} {user p bit : Nat} {fault : Bool} {x : Bytes}
    (holds : ((m.vault j).slot p).key = some x) (sound : (m.vault j).Sound j p x) :
    (((useSlotAs user j p bit fault m).2.vault j).slot p).content = ((m.vault j).slot p).content := by
  rcases useSlotAs_cases j m user p bit fault with same | faulty | ⟨held, held_, used⟩
  · rw [same]
  · rw [faulty, Module.vault, lane_updLane]
    rfl
  · obtain rfl : x = held := Option.some.inj (holds.symm.trans held_)
    rw [used, reloaded_of_sound sound]
    exact content_slotUsed holds

/-! ### A slot kept through a command -/

/-- A slot of a lane that holds a key and its ATTR word. -/
def Holds (k : LaneId) (n : Nat) (c : Option Bytes × Nat) (m : Module) : Prop := ((m.vault k).slot n).content = c

section
variable {k : LaneId} {n : Nat} {x : Bytes} {a : Nat} {m o : Module}

theorem Holds.of_vault {c : Option Bytes × Nat} (holds : Holds k n c m) (same : o.vault = m.vault) : Holds k n c o := by
  rwa [Holds, same]

theorem Holds.of_elsewhere {c : Option Bytes × Nat} {j : LaneId} {p : Nat} (holds : Holds k n c m)
    (keeps : KeepsElsewhere j p m o) (differs : k = j → n ≠ p) : Holds k n c o := by
  rwa [Holds, keeps.slot differs]

theorem Holds.keyEnd {c : Option Bytes × Nat} {l : LaneId} {state result : Nat} (holds : Holds k n c m) :
    Holds k n c (keyEnd l state result m) := holds.of_vault (vault_keyEnd ..)

theorem Holds.ite {c : Option Bytes × Nat} {b : Prop} [Decidable b] {f : Module → Module}
    (keeps : ∀ o, Holds k n c o → Holds k n c (f o)) (holds : Holds k n c m) : Holds k n c (if b then f m else m) := by
  split_ifs
  · exact keeps m holds
  · exact holds

theorem Holds.key (holds : Holds k n (some x, a) m) : ((m.vault k).slot n).key = some x := congrArg Prod.fst holds

variable (holds : Holds k n (some x, a) m)
include holds

theorem Holds.useSlotAs (sound : (m.vault k).Sound k n x) (user : Nat) (j : LaneId) (p bit : Nat) (fault : Bool) :
    Holds k n (some x, a) (useSlotAs user j p bit fault m).2 := by
  by_cases same : k = j ∧ n = p
  · obtain ⟨rfl, rfl⟩ := same
    exact (content_useSlotAs holds.key sound).trans holds
  · exact holds.of_elsewhere (keepsElsewhere_useSlotAs ..) fun lane slot => same ⟨lane, slot⟩

theorem Holds.setSlot {j : LaneId} {p : Nat} {s : KeySlot} (own : k = j → n = p → s.content = (some x, a)) :
    Holds k n (some x, a) (setSlot j p s m) := by
  by_cases same : k = j ∧ n = p
  · obtain ⟨rfl, rfl⟩ := same
    exact (content_setSlot k m holds.key s).trans (own rfl rfl)
  · exact holds.of_elsewhere (keepsElsewhere_setSlot ..) fun lane slot => same ⟨lane, slot⟩

/-- A command of the key store keeps a slot that its operation keeps. -/
theorem Holds.keyCommand {l : LaneId} {v : View} {modeOk : Mode → Bool} {f : Module → Module}
    (kept : Holds k n (some x, a) (f m)) : Holds k n (some x, a) (keyCommand l v modeOk f m) := by
  unfold Machine.keyCommand guardWrite
  dsimp only
  split_ifs
  · exact holds.of_vault (vault_keyRefuse ..)
  · exact holds.of_vault (vault_keyRefuse ..)
  · exact holds.of_vault (vault_keyRefuse ..)
  · exact kept
  · exact holds

end

/-! ### The judgement of an entry on a locked slot (R421, R427) -/

section
variable {c : Prop} [Decidable c] {code : Nat} {y : KeySlot}

theorem ok_of_refusal {r : Except Nat KeySlot} (ok : (if c then .error code else r) = .ok y) : r = .ok y := by
  split_ifs at ok
  exact ok

theorem eq_of_kept {x : KeySlot} (ok : (if c then .ok x else .error code) = Except.ok y) : y = x := by
  split_ifs at ok
  exact (Except.ok.inj ok).symm

end

/-- An import that a locked slot with a key takes leaves the slot as it is. -/
theorem judgeEntry_locked {slots : List KeySlot} {e : SecEntry} {resv : Bool} {y : KeySlot}
    (locked : (at? slots e.slot {}).locked = true) (full : (at? slots e.slot {}).key.isSome = true)
    (judged : judgeEntry true slots e resv = .ok y) : y = at? slots e.slot {} := by
  simp only [judgeEntry, locked, full, Bool.true_or, Bool.not_true, Bool.false_eq_true, true_and, false_or, if_true] at judged
  replace judged := ok_of_refusal (ok_of_refusal (ok_of_refusal (ok_of_refusal (ok_of_refusal judged))))
  by_cases attributes : e.op = 0
  · rw [if_pos attributes] at judged
    exact eq_of_kept (ok_of_refusal judged)
  · rw [if_neg attributes] at judged
    split at judged
    · cases judged
    · exact eq_of_kept judged

/-- The write of an import to the standby lane, after that to its own (R433). -/
theorem holds_mate {k l : LaneId} {n : Nat} {x : Bytes} {a : Nat} {o : Module} {wrapped : Prop} [Decidable wrapped] {p q : Nat} {y : KeySlot}
    (stored : Holds k n (some x, a) o) (mateSound : k ≠ l → (o.vault k).Sound k n x)
    (own : k = l.other → n = q → y.content = (some x, a)) : Holds k n (some x, a)
      (setSlot l.other q y (if wrapped then spend 16 l.other [(p, 1)] o else o)) := by
  refine Holds.setSlot ?_ own
  split_ifs
  · by_cases mate : k = l
    · exact stored.of_elsewhere (keepsElsewhere_useSlotAs ..) fun lane => absurd (mate ▸ lane) (LaneId.other_ne l).symm
    · exact stored.useSlotAs (mateSound mate) ..
  · exact stored

section
variable {k l : LaneId} {n : Nat} {x : Bytes} {a : Nat} {v : View} {w : Word} {bad : Bool} {st : Store} {m : Module}
  (locked : ((m.vault k).slot n).locked = true) (holds : Holds k n (some x, a) m) (sound : (m.vault k).Sound k n x)

section
include holds sound

theorem holds_keyMacBody : Holds k n (some x, a) (keyMacBody l v w bad st m) := by
  refine holds.keyCommand ?_
  dsimp only
  have used := holds.useSlotAs sound 16 l (fld w 13 8) 0 bad
  split_ifs
  · exact holds.of_vault (vault_keyRefuse ..)
  · split
    · exact used.of_vault (vault_keyEnd ..)
    · exact used.of_vault ((vault_keyEnd ..).trans (vault_putKeyBuf ..))

theorem holds_keyChallengeBody : Holds k n (some x, a) (keyChallengeBody l v w bad st m) := by
  refine holds.keyCommand ?_
  dsimp only
  split_ifs
  · exact holds.of_vault ((vault_keyEnd ..).trans (vault_refuseUse ..))
  · have used := holds.useSlotAs sound 16 l (((m.lane l).cfg.active.map (·.challengeSlot)).getD 0) 4 bad
    split
    · exact used.of_vault (vault_keyEnd ..)
    · exact used.of_vault ((vault_keyEnd ..).trans ((vault_report ..).trans (vault_putKeyBuf ..)))

theorem holds_keyVerifyBody : Holds k n (some x, a) (keyVerifyBody l v w bad st m) := by
  refine holds.keyCommand ?_
  dsimp only
  have used := holds.useSlotAs sound 16 l (fld w 13 8) 3 bad
  split_ifs
  · exact holds.of_vault ((vault_keyEnd ..).trans (vault_refuseUse ..))
  · exact holds.of_vault ((vault_keyEnd ..).trans (vault_refuseUse ..))
  · split
    · exact used.of_vault (vault_keyEnd ..)
    · refine Holds.of_vault ?_ (vault_keyEnd ..)
      by_cases second : k = l → n ≠ fld w 13 8 + 1
      · exact used.of_elsewhere (keepsElsewhere_useSlotAs ..) second
      · have differs : k = l → n ≠ fld w 13 8 := by grind
        exact used.useSlotAs (KeepsElsewhere.sound (keepsElsewhere_useSlotAs ..) differs sound) ..

end

include locked

/-- A slot that an operation has found unlocked is another than the locked one. -/
theorem differs_of_unlocked {j : LaneId} {p : Nat} (free : ¬((m.lane j).key.slot p).locked = true) (lane : k = j) :
    n ≠ p := by
  rintro rfl
  subst lane
  exact free locked

include holds

theorem holds_keyEraseBody : Holds k n (some x, a) (keyEraseBody l v w st m) := by
  refine holds.keyCommand ?_
  dsimp only
  have emptied {j : LaneId} {o : Module} (h : Holds k n (some x, a) o)
      (free : ¬((m.lane j).key.slot (fld w 13 8)).locked = true) :
      Holds k n (some x, a) (setSlot j (fld w 13 8) {} o) :=
    h.setSlot fun lane slot => absurd slot (differs_of_unlocked locked free lane)
  split_ifs with low own empty peer both
  · exact holds.of_vault (vault_keyRefuse ..)
  · exact holds.of_vault (vault_keyRefuse ..)
  · exact holds.of_vault (vault_keyRefuse ..)
  · exact holds.of_vault (vault_keyRefuse ..)
  · have free : ¬((m.lane l.other).key.slot (fld w 13 8)).locked = true := fun h => peer ⟨both, .inr h⟩
    have first := (emptied holds own).of_vault (vault_report l _ 16 0x9003 (fld w 13 8) 0 0)
    exact (emptied first free).of_vault ((vault_keyEnd ..).trans (vault_report ..))
  · exact (emptied holds own).of_vault ((vault_keyEnd ..).trans (vault_report ..))

include sound

theorem holds_keyDeriveBody : Holds k n (some x, a) (keyDeriveBody l v w bad st m) := by
  refine holds.keyCommand ?_
  dsimp only
  split
  · exact holds.of_vault (vault_keyRefuse ..)
  split
  · exact holds.of_vault (vault_keyRefuse ..)
  split
  · exact holds.of_vault (vault_keyRefuse ..)
  next lockedTarget =>
    have used := holds.useSlotAs sound 16 l (fld w 21 16) 2 bad
    split
    · exact used.of_vault (vault_keyEnd ..)
    · refine Holds.of_vault (used.setSlot fun lane slot => ?_) ((vault_keyEnd ..).trans (vault_report ..))
      subst lane
      have full : ((m.lane k).key.slot n).key.isSome = true := by
        have key : ((m.lane k).key.slot n).key = some x := holds.key
        rw [key, Option.isSome_some]
      rw [← slot] at lockedTarget
      exact absurd ⟨locked, .inl full⟩ lockedTarget

theorem holds_keyImportBody : Holds k n (some x, a) (keyImportBody l v w bad st m) := by
  refine holds.keyCommand ?_
  dsimp only
  have kept {j : LaneId} {y : KeySlot} (lane : k = j) (slot : n = (secEntryOf (m.keyBuf l)).slot)
      (judged : judgeEntry true (m.lane j).key.slots (secEntryOf (m.keyBuf l)) (secEntryResv (m.keyBuf l)) = .ok y) :
      y.content = (some x, a) := by
    subst lane
    have own : at? (m.lane k).key.slots (secEntryOf (m.keyBuf l)).slot {} = (m.vault k).slot n := by rw [← slot]; rfl
    have full : ((m.vault k).slot n).key.isSome = true := by rw [holds.key, Option.isSome_some]
    rw [judgeEntry_locked (by rw [own, locked]) (by rw [own, full]) judged, own]
    exact holds
  have used := holds.useSlotAs sound 16 l (secEntryOf (m.keyBuf l)).kekSlot 1 bad
  split
  case h_1 c refused =>
    split_ifs
    · exact holds.of_vault (vault_keyRefuse ..)
    · exact holds.of_vault ((vault_keyEnd ..).trans (vault_refuseUse ..))
    · split
      · exact used.of_vault (vault_keyEnd ..)
      · exact used.of_vault (vault_keyRefuse ..)
  case h_2 y judged =>
    split
    · exact holds.of_vault (vault_keyRefuse ..)
    split
    · exact holds.of_vault (vault_keyRefuse ..)
    next y' peer =>
      generalize use_ : (if (secEntryOf (m.keyBuf l)).op = 1 ∧ (secEntryOf (m.keyBuf l)).kekSlot ≠ 255 then
        useSlot l (secEntryOf (m.keyBuf l)).kekSlot 1 bad m else (.ok [], m)) = use
      have kept_ : Holds k n (some x, a) use.2 := by
        rw [← use_]
        split_ifs
        · exact used
        · exact holds
      have soundUse (mate : k ≠ l) : (use.2.vault k).Sound k n x := by
        rw [← use_]
        split_ifs
        · exact KeepsElsewhere.sound (keepsElsewhere_useSlotAs ..) (fun lane => absurd lane mate) sound
        · exact sound
      split
      · exact kept_.of_vault (vault_keyEnd ..)
      have own := (kept_.setSlot (j := l) (s := y) fun lane slot => kept lane slot judged).of_vault
        (vault_report l _ 16 0x9001 (secEntryOf (m.keyBuf l)).slot (secEntryOf (m.keyBuf l)).attr 0)
      have soundOwn (mate : k ≠ l) := KeepsElsewhere.sound
        ((keepsElsewhere_setSlot l use.2 (secEntryOf (m.keyBuf l)).slot y).trans (.of_vault
          (vault_report l _ 16 0x9001 (secEntryOf (m.keyBuf l)).slot (secEntryOf (m.keyBuf l)).attr 0)))
        (fun lane => absurd lane mate) (soundUse mate)
      refine Holds.keyEnd (Holds.ite (f := putKeyBuf l 0 (List.replicate 128 0)) (fun o h => h.of_vault (vault_putKeyBuf ..)) ?_)
      by_cases both : (bitOf w 24 && m.variant == .nfj8) = true
      · rw [if_pos both]
        rw [if_pos both] at peer
        have other : judgeEntry true (m.lane l.other).key.slots (secEntryOf (m.keyBuf l)) (secEntryResv (m.keyBuf l)) =
            .ok y' := by
          split_ifs at peer
          exact peer
        exact (holds_mate own soundOwn fun lane slot => kept lane slot other).of_vault (vault_report ..)
      · rw [if_neg both]
        exact own

end

/-- Settles O45: no operation of the key store changes what a locked slot holds; the judgements keep it from every load, and a
use gives it back its own key. -/
theorem lockedSlotsKeepTheirKeys : Obligations.LockedSlotsKeepTheirKeys := by
  intro s t l k v w bad n x i command next locked key array
  have vault : s.m.fresh.vault = s.m.vault := by
    funext j
    rw [Module.vault, fresh_lane]
    rfl
  have holds : Holds k n (some x, ((s.m.lane k).key.slot n).attr) s.m.fresh := by
    rw [Holds, vault]
    exact congrArg (·, ((s.m.lane k).key.slot n).attr) key
  have sound : (s.m.fresh.vault k).Sound k n x := by
    rw [vault]
    exact fun faulty => List.mem_pair.mpr (array faulty)
  have lock : ((s.m.fresh.vault k).slot n).locked = true := by rwa [vault]
  have kept (body : Store → Module → Module) (ends : t = commit s body)
      (holds : Holds k n (some x, ((s.m.lane k).key.slot n).attr) (body s.mem s.m.fresh)) :
      ((t.m.lane k).key.slot n).key = some x ∧ ((t.m.lane k).key.slot n).attr = ((s.m.lane k).key.slot n).attr := by
    rw [ends, commit_m, closed_lane]
    exact Prod.mk.inj holds
  rcases command with rfl | rfl | rfl | rfl | rfl | rfl
  · exact kept (keyImportBody l v w bad) (Host.Outcome.next.inj next).symm (holds_keyImportBody lock holds sound)
  · exact kept (keyDeriveBody l v w bad) (Host.Outcome.next.inj next).symm (holds_keyDeriveBody lock holds sound)
  · exact kept (keyEraseBody l v w) (Host.Outcome.next.inj next).symm (holds_keyEraseBody lock holds)
  · exact kept (keyChallengeBody l v w bad) (Host.Outcome.next.inj next).symm (holds_keyChallengeBody holds sound)
  · exact kept (keyMacBody l v w bad) (Host.Outcome.next.inj next).symm (holds_keyMacBody holds sound)
  · exact kept (keyVerifyBody l v w bad) (Host.Outcome.next.inj next).symm (holds_keyVerifyBody holds sound)

end Sys2Proof.Machine
end

section
/-! Frames of a CAN port and its transmit queue (R321, R324, R326, R327). -/

namespace Sys2Proof.Machine

/-! ### A port changed -/

section
variable (d p : Nat) (m : Module)

/-- Only what a change does of the port that stands there counts. -/
theorem updCan_congr {f g : CanPort → CanPort} (same : f (m.canPort d p) = g (m.canPort d p)) :
    m.updCan d p f = m.updCan d p g := by
  have can (x : FieldDie) (there : m.fds[d]? = some x) : upd x.can p f = upd x.can p g := by
    refine upd_eq_upd fun c port => ?_
    have own : m.canPort d p = c := by simp [Module.canPort, Module.fd, at?, there, port]
    rwa [own] at same
  unfold Module.updCan Module.updFd
  rw [upd_eq_upd fun x there => by rw [can x there]]

theorem canPort_updCan_or (f : CanPort → CanPort) : (m.updCan d p f).canPort d p = f (m.canPort d p) ∨
    (m.updCan d p f).canPort d p = m.canPort d p := by
  by_cases die : d < m.fds.length
  · by_cases port : p < (m.fd d).can.length
    · exact .inl (by simp [Module.canPort, Module.updCan, die, port])
    · exact .inr (by simp [Module.canPort, Module.updCan, die, at?, upd, port])
  · exact .inr (by simp [Module.canPort, Module.updCan, Module.updFd, Module.fd, at?, upd, die])

theorem canPort_of_blank {n : Module} (same : n.blank = m.blank) : n.canPort d p = m.canPort d p :=
  (congrArg (fun x : FieldDie => at? x.can p {}) (fd_of_blank same d) :)

@[simp] theorem canPort_reportFd (b c x y z : Nat) : (reportFd d b c x y z m).canPort d p = m.canPort d p :=
  canPort_of_blank _ _ _ (blank_reportFd ..)

@[simp] theorem fresh_canOn : m.fresh.canOn d p = m.canOn d p := by simp [Module.canOn]

end

/-! ### Frames on the bus (R321, R324, R327) -/

/-- Whether a frame belongs to a record of the die's active image (R329). -/
def Module.takesRecord (m : Module) (d p : Nat) (e : CapEntry) : Bool :=
  (((m.fd d).bank.bind (·.network)).bind fun n => recordEntry n (4 * d + p) e).isSome

/-- A port that has received a frame, with its receive error counter moved (R324, R327). -/
def CanPort.received (c : CanPort) (known : Bool) (count : Nat) : CanPort := { c with
  rxCount := (c.rxCount + 1) % 2 ^ 32, recCnt := count
  strangers := if known then c.strangers else sat max32 (c.strangers + 1) }

/-- A frame received, of a record that the image knows or of none: the receive error counter falls by one, or from above 127
to a value that the rules leave open (R324, R327). -/
def receiveAs (d p : Nat) (f : CanFrame) (known : Bool) (m : Module) : Module :=
  let high := 127 < (m.canPort d p).recCnt
  let n := (if high then m.drawn else m).updCan d p fun c =>
    c.received known (if 127 < c.recCnt then 119 + m.draw.toNat % 9 else c.recCnt - 1)
  (canConfine d p (canKeep d p (capEntry m d p f false) n)).updCan d p (CanPort.yield_ ((n.fd d).canCfg d p))

section
variable (d p : Nat) (f : CanFrame) (known : Bool) (m : Module)

theorem receiveAs_low (low : (m.canPort d p).recCnt ≤ 127) : receiveAs d p f known m =
    (canConfine d p (canKeep d p (capEntry m d p f false) (m.updCan d p fun c => c.received known (c.recCnt - 1)))).updCan
      d p (CanPort.yield_ ((m.fd d).canCfg d p)) := by
  have counted : m.updCan d p (fun c => c.received known (if 127 < c.recCnt then 119 + m.draw.toNat % 9 else c.recCnt - 1)) =
      m.updCan d p fun c => c.received known (c.recCnt - 1) := updCan_congr _ _ _ (by rw [if_neg low.not_gt])
  simp only [receiveAs, if_neg low.not_gt, counted, canCfg_updCan]

theorem receiveAs_high (high : 127 < (m.canPort d p).recCnt) : receiveAs d p f known m =
    (canConfine d p (canKeep d p (capEntry m d p f false) (m.drawn.updCan d p fun c =>
      c.received known (119 + m.draw.toNat % 9)))).updCan d p (CanPort.yield_ ((m.fd d).canCfg d p)) := by
  have counted : m.drawn.updCan d p
        (fun c => c.received known (if 127 < c.recCnt then 119 + m.draw.toNat % 9 else c.recCnt - 1)) =
      m.drawn.updCan d p fun c => c.received known (119 + m.draw.toNat % 9) :=
    updCan_congr _ _ _ (by rw [if_pos (show 127 < (m.drawn.canPort d p).recCnt from high)])
  simp only [receiveAs, if_pos high, counted, canCfg_updCan]
  rfl

end

section
variable {s : State} {d p : Nat} (on : s.m.canOn d p = true)
include on

section
variable {f : CanFrame}

theorem does_canFrameReceived_fd (fd : f.fdf = true) (classic : ((s.m.fd d).canCfg d p).mode = 1) :
    Does (.canFrameReceived d p f) s fun _ m => canError d p { code := 2 } (some f) m := by
  have b : Does (.canFrameReceived d p f) s (canFrameReceivedBody d p f) := rfl
  exact b.congr ((if_neg (by simp [on])).trans (if_pos (by simp [fd, classic])))

theorem does_canFrameReceived (fits : f.fdf = false ∨ ((s.m.fd d).canCfg d p).mode ≠ 1) :
    Does (.canFrameReceived d p f) s fun _ m => receiveAs d p f (m.takesRecord d p (capEntry m d p f false)) m := by
  have b : Does (.canFrameReceived d p f) s (canFrameReceivedBody d p f) := rfl
  have bus : ¬(f.fdf && ((s.m.fresh.fd d).canCfg d p).mode == 1) = true := by
    rcases fits with short | mode
    · simp [short]
    · simp [mode]
  refine b.congr ((if_neg (by simp [on])).trans ((if_neg bus).trans
    (congrArg (fun known => receiveAs d p f known s.m.fresh) ?_)))
  unfold Module.takesRecord
  cases (s.m.fresh.fd d).bank with
  | none => rfl
  | some b => cases hn : b.network <;> simp only [hn, Option.bind_some, Option.bind_none] <;> rfl

end

/-- The frame on offer has been sent (R326, R327). -/
theorem does_canFrameTransmitted {f : TxFrame} {mtq : Nat} (offer : offered (s.m.canPort d p).txq = some f)
    (may : (s.m.canPort d p).maySend ((s.m.fd d).canCfg d p) = true ∨ f.started = true) :
    Does (.canFrameTransmitted d ⟨p, mtq⟩) s fun _ m =>
      (canConfine d p (canKeep d p (capEntry m d p (f.frame ((m.canPort d p).state == 1)) true) (m.updCan d p fun c =>
        { c.delay ((m.fd d).canCfg d p) f.fdf mtq with
          txCount := (c.txCount + 1) % 2 ^ 32, tecCnt := c.tecCnt - 1,
          txq := c.txq.filter fun g => g.order != f.order }))).updCan d p (CanPort.begin ((m.fd d).canCfg d p)) := by
  have b : Does (.canFrameTransmitted d ⟨p, mtq⟩) s (canFrameTransmittedBody d p mtq) := rfl
  have sends : ¬(!s.m.canOn d p || !((s.m.canPort d p).maySend ((s.m.fd d).canCfg d p) || f.started)) = true := by
    rcases may with may | started
    · simp [on, may]
    · simp [on, started]
  refine b.congr ?_
  simp only [canFrameTransmittedBody, fresh_canPort, offer, fresh_canOn, fresh_fd]
  exact if_neg sends

theorem does_canFrameError {e : CanErr} : Does (.canFrameError d p e) s fun _ m => canError d p e none m := by
  have b : Does (.canFrameError d p e) s (canFrameErrorBody d p e) := rfl
  exact b.congr (if_pos (by simp [on]))

theorem does_dominantTimeout (started : (s.m.canPort d p).txq.any (·.started) = true) :
    Does (.dominantTimeout d p) s fun _ m => canError d p { code := 5, tx := true } none m := by
  have b : Does (.dominantTimeout d p) s (dominantTimeoutBody d p) := rfl
  refine b.congr (if_pos ?_)
  rw [fresh_canOn, fresh_canPort, on, started]
  rfl

end

/-- Settles O35: a frame received by its format and the counter it finds, one sent by the offer, an error as it comes. -/
theorem canFramesAct : Obligations.CanFramesAct := by
  intro s d p on
  refine ⟨fun f fits low => (does_canFrameReceived on fits).congr (receiveAs_low _ _ _ _ _ (by simpa using low)),
    fun f fits high => ⟨119 + s.m.fresh.draw.toNat % 9, by omega, by omega,
      (does_canFrameReceived on fits).congr (receiveAs_high _ _ _ _ _ (by simpa using high))⟩,
    fun f fd classic => does_canFrameReceived_fd on fd classic,
    fun f offer may mtq => does_canFrameTransmitted on offer may,
    fun e => does_canFrameError on, does_dominantTimeout on⟩

/-! ### The frame on offer (R326) -/

/-- The better of two frames for the bus: the lower identifier, and the first among equals (R326). -/
def offerStep (best : Option TxFrame) (f : TxFrame) : Option TxFrame :=
  match best with
  | none => some f
  | some b => if f.ident < b.ident then some f else some b

/-- A frame of a queue wins where each before it has a higher identifier and none after it a lower one. -/
def Wins (f : TxFrame) (q : List TxFrame) : Prop := ∃ pre post, q = pre ++ f :: post ∧ (∀ g ∈ pre, f.ident < g.ident) ∧
  ∀ g ∈ post, f.ident ≤ g.ident

theorem offerStep_wins (q : List TxFrame) (some_ : q ≠ []) : ∃ f, q.foldl offerStep none = some f ∧ Wins f q := by
  induction q using List.reverseRecOn with
  | nil => exact absurd rfl some_
  | append_singleton q x ih =>
    rw [List.foldl_concat]
    by_cases empty : q = []
    · subst empty
      exact ⟨x, rfl, [], [], rfl, by simp, by simp⟩
    · obtain ⟨f, best, pre, post, rfl, lower, later⟩ := ih empty
      rw [best]
      by_cases lowest : x.ident < f.ident
      · refine ⟨x, if_pos lowest, pre ++ f :: post, [], rfl, fun g listed => ?_, by simp⟩
        rcases List.mem_append.mp listed with before | after
        · exact lowest.trans (lower g before)
        · rcases List.mem_cons.mp after with rfl | after
          · exact lowest
          · exact lowest.trans_le (later g after)
      · refine ⟨f, if_neg lowest, pre, post ++ [x], by simp, lower, fun g listed => ?_⟩
        rcases List.mem_append.mp listed with before | after
        · exact later g before
        · rw [List.mem_singleton.mp after]
          exact Nat.not_lt.mp lowest

theorem offered_of_fresh {q : List TxFrame} (fresh : ∀ g ∈ q, g.started = false) :
    offered q = q.foldl offerStep none := by
  have none_ : q.find? (·.started) = none := List.find?_eq_none.mpr fun g listed => by simp [fresh g listed]
  unfold offered
  rw [none_]
  rfl

/-! ### Room in the queue (R326) -/

section
variable (d p : Nat) (m : Module)

/-- How many frames a port has queued. -/
def Module.queued (m : Module) (d p : Nat) : Nat := (m.canPort d p).txq.length

theorem queued_updCan_le {f : CanPort → CanPort} {k : Nat} (own : (f (m.canPort d p)).txq.length ≤ k)
    (before : m.queued d p ≤ k) : (m.updCan d p f).queued d p ≤ k := by
  rcases canPort_updCan_or d p m f with changed | kept
  · rwa [Module.queued, changed]
  · rwa [Module.queued, kept]

theorem queued_reportFd (b c x y z : Nat) : (reportFd d b c x y z m).queued d p = m.queued d p := by
  rw [Module.queued, canPort_reportFd]
  rfl

theorem queued_canDrop (n cause : Nat) : (canDrop d p n cause m).queued d p = m.queued d p := by
  have kept (f : CanPort → CanPort) (h : ∀ c, (f c).txq = c.txq) : (m.updCan d p f).queued d p = m.queued d p :=
    congrArg List.length (part_updCan d p m CanPort.txq h)
  unfold canDrop
  dsimp only
  split_ifs
  · rfl
  · exact (queued_reportFd ..).trans (kept _ fun _ => rfl)
  · exact kept _ fun _ => rfl

theorem length_begin (i : CanPortCfg) (c : CanPort) : (c.begin i).txq.length = c.txq.length := by
  unfold CanPort.begin
  split_ifs
  · cases offered c.txq <;> simp
  · rfl

theorem queued_canQueue_le (claim : Nat) (fs : List TxFrame) (room : m.queued d p ≤ 32) :
    (canQueue d p claim fs m).queued d p ≤ 32 := by
  unfold canQueue
  extract_lets i m1 recNo m2 c
  have first : m1.queued d p ≤ 32 := by
    simp only [m1]
    split_ifs
    · rw [queued_reportFd]
      exact queued_updCan_le _ _ _ room room
    · exact room
  have cleared : m2.queued d p ≤ 32 := by
    simp only [m2]
    split_ifs
    · exact first
    · exact queued_updCan_le _ _ _ ((List.length_filter_le ..).trans first) first
  split_ifs with off full
  · rwa [queued_canDrop]
  · rwa [queued_canDrop]
  · refine queued_updCan_le _ _ _ ?_ cleared
    rw [length_begin]
    simpa using Nat.not_lt.mp full

end

/-- Settles O37: by the queue's frames from first to last, and by the room that each step of the queueing leaves. -/
theorem transmitQueuesAreOrdered : Obligations.TransmitQueuesAreOrdered := by
  refine ⟨fun q fresh some_ => ?_, fun m d p claim fs => queued_canQueue_le d p m claim fs⟩
  obtain ⟨f, best, pre, post, parts, lower, later⟩ := offerStep_wins q some_
  exact ⟨f, pre, post, (offered_of_fresh fresh).trans best, parts, lower, later⟩

end Sys2Proof.Machine
end

section
/-! PTP messages (R346 to R349): what a stamp leaves, and what each message of a slot does. -/

namespace Sys2Proof.Machine

/-! ### The stamp of a port's event message (R347) -/

section
variable {l : LaneId} {port k : Nat} {t : Int} {m : Module} {msg : PtpMsg}

theorem portUp_of_slotFor (here : m.slotFor l port msg = some k) : (m.lane l).portUp port = true := by
  by_contra down
  simp [Module.slotFor, down] at here

theorem stampPort_of_up (up : (m.lane l).portUp port = true) : stampPort l port t m =
    updPtp l (fun p => { p with
      ports := upd p.ports port fun e => { e with stamp := some (m.timeStamp l t) } }) m := if_pos up

/-- A part of a port that a stamp is no part of is the same after it. -/
theorem port_stampPort {β : Type} (g : EthPort → β) (keeps : ∀ e s, g { e with stamp := s } = g e) (q : Nat) :
    g (at? ((stampPort l port t m).lane l).ptp.ports q {}) = g (at? (m.lane l).ptp.ports q {}) := by
  unfold stampPort
  split_ifs
  · simp only [updPtp, lane_updLane, upd, at?, List.getElem?_modify]
    cases (m.lane l).ptp.ports[q]? with
    | none => rfl
    | some e => by_cases same : port = q <;> simp [same, keeps]
  · rfl

/-- A part of a lane that the ports are no part of is the same after a stamp. -/
theorem part_stampPort {β : Type} (g : Lane → β)
    (keeps : ∀ (L : Lane) ps, g { L with ptp := { L.ptp with ports := ps } } = g L) :
    g ((stampPort l port t m).lane l) = g (m.lane l) := by
  unfold stampPort
  split_ifs
  · rw [updPtp, lane_updLane, keeps]
  · rfl

@[simp] theorem now_stampPort : (stampPort l port t m).now = m.now := by
  unfold stampPort
  split_ifs <;> simp [updPtp]

@[simp] theorem nvmOut_stampPort : (stampPort l port t m).nvmOut = m.nvmOut := by
  unfold stampPort
  split_ifs <;> simp [updPtp]

@[simp] theorem slot_stampPort : ((stampPort l port t m).lane l).slot k = (m.lane l).slot k :=
  part_stampPort (·.slot k) fun _ _ => rfl

@[simp] theorem slotState_stampPort : ((stampPort l port t m).lane l).slotState k = (m.lane l).slotState k :=
  part_stampPort (·.slotState k) fun _ _ => rfl

@[simp] theorem slotCfg_stampPort : ((stampPort l port t m).lane l).slotCfg k = (m.lane l).slotCfg k :=
  part_stampPort (·.slotCfg k) fun _ _ => rfl

@[simp] theorem portCfg_stampPort (q : Nat) : ((stampPort l port t m).lane l).portCfg l q = (m.lane l).portCfg l q :=
  part_stampPort (·.portCfg l q) fun _ _ => rfl

@[simp] theorem modNs_stampPort : (stampPort l port t m).modNs l = m.modNs l := by
  have offset : ((stampPort l port t m).lane l).prg = (m.lane l).prg := part_stampPort (·.prg) fun _ _ => rfl
  rw [Module.modNs, now_stampPort, offset, Module.modNs]

@[simp] theorem originOf_stampPort : (stampPort l port t m).originOf l msg = m.originOf l msg := by
  simp [Module.originOf]

@[simp] theorem txStamp_stampPort (q : Nat) : (stampPort l port t m).txStamp l q = m.txStamp l q := by
  rw [Module.txStamp, modNs_stampPort, port_stampPort (·.gig) fun _ _ => rfl, Module.txStamp]

@[simp] theorem slotFor_stampPort (q : Nat) : (stampPort l port t m).slotFor l q msg = m.slotFor l q msg := by
  have holds : ((stampPort l port t m).lane l).red = (m.lane l).red := part_stampPort (·.red) fun _ _ => rfl
  have slotOn (k : Nat) : ((stampPort l port t m).lane l).slotOn l k q = (m.lane l).slotOn l k q :=
    part_stampPort (·.slotOn l k q) fun _ _ => rfl
  have link : ((stampPort l port t m).lane l).linkUp q = (m.lane l).linkUp q := by
    rw [Lane.linkUp, port_stampPort (·.up) fun _ _ => rfl, Lane.linkUp]
  simp [Module.slotFor, Lane.portUp, holds, slotOn, link]

/-- A stamp and a change of a slot do not meet. -/
theorem stampPort_updSlot (f : PtpSlot → PtpSlot) :
    stampPort l port t (updSlot l k f m) = updSlot l k f (stampPort l port t m) := by
  have portUp : ((updSlot l k f m).lane l).portUp port = (m.lane l).portUp port := by simp [updSlot, updPtp, Lane.portUp, Lane.linkUp]
  by_cases up : (m.lane l).portUp port = true
  · rw [stampPort_of_up up, stampPort_of_up (portUp.trans up)]
    cases l <;> rfl
  · simp [stampPort, portUp, up]

end

/-! ### What each message does -/

section
variable (st : Store) {l : LaneId} {port k : Nat} {msg : PtpMsg} {m : Module}

theorem ptpSyncBody_of_heard (here : m.slotFor l port msg = some k)
    (slave : at? ((m.lane l).slot k).portState port 0 = 9) (kept : (m.lane l).slotState k ≠ .lost) :
    ptpSyncBody l port msg st m =
      let n := stampPort l port (m.rxStamp l port msg) (updSlot l k (fun x => { x with syncAt := some m.now }) m)
      if msg.twoStep then updSlot l k (fun x => { x with
        waitFu := some (port, msg.seq, m.rxStamp l port msg, msg.correction) }) n
      else addSample l k port (m.originOf l msg) (m.rxStamp l port msg) msg.correction n := by
  have origin (f : PtpSlot → PtpSlot) (n : Module) : (updSlot l k f n).originOf l msg = n.originOf l msg := by
    cases l <;> rfl
  simp [ptpSyncBody, here, slave, kept, stampPort_updSlot, origin]

theorem ptpSyncBody_of_lost (here : m.slotFor l port msg = some k)
    (slave : at? ((m.lane l).slot k).portState port 0 = 9) (lost : (m.lane l).slotState k = .lost) :
    ptpSyncBody l port msg st m =
      let n := slotRestart l k (stampPort l port (m.rxStamp l port msg) m)
      let n := updSlot l k (fun x => { x with syncAt := some n.now }) n
      if msg.twoStep then updSlot l k (fun x => { x with
        waitFu := some (port, msg.seq, m.rxStamp l port msg, msg.correction) }) n
      else addSample l k port (n.originOf l msg) (m.rxStamp l port msg) msg.correction n := by
  simp [ptpSyncBody, here, slave, lost]

theorem ptpFollowUpBody_of_awaited (here : m.slotFor l port msg = some k) {t2 corr : Int}
    (waits : ((m.lane l).slot k).waitFu = some (port, msg.seq, t2, corr)) :
    ptpFollowUpBody l port msg st m = addSample l k port (m.originOf l msg) t2 (corr + msg.correction)
      (updSlot l k (fun x => { x with waitFu := none }) m) := by
  simp [ptpFollowUpBody, here, waits]

/-- The module's own Announce counts for nothing (R346). -/
theorem ptpAnnounceBody_of_own (here : m.slotFor l port msg = some k)
    (own : msg.source = Config.clockIdentity l.num) : ptpAnnounceBody l port msg st m = m := by
  simp [ptpAnnounceBody, here, own]

/-- The data set of an Announce, with when this and the one before it were heard (R346). -/
def foreignOf (msg : PtpMsg) (port now : Nat) (old : Option Foreign) : Foreign :=
  ⟨port, msg.source, msg.gm, (List.range 5).map (at? msg.rank · 0), msg.steps, now :: ((old.map (·.heard)).getD []).take 1⟩

/-- A slot that keeps an Announce as its sender's data set, its ports having decided (R346). -/
def announceKept (l : LaneId) (k port : Nat) (msg : PtpMsg) (m : Module) : Module :=
  let old := ((m.lane l).slot k).foreign.find? fun f => f.port == port && f.sender == msg.source
  decidePorts l k (updSlot l k (fun x => { x with
    foreign := (x.foreign.filter fun g => !(g.port == port && g.sender == msg.source)) ++ [foreignOf msg port m.now old] }) m)

/-- The slot follows the sender of an Announce on the port it came by. -/
def Module.Follows (m : Module) (l : LaneId) (k port : Nat) (msg : PtpMsg) : Prop :=
  ∃ g, (m.lane l).parent k m.now = some g ∧ g.port = port ∧ g.sender = msg.source ∧
    at? ((m.lane l).slot k).portState port 0 = 9

theorem follows_iff {n : Module} {g : Foreign} : (g.port == port && g.sender == msg.source &&
    at? ((n.lane l).slot k).portState port 0 == 9) = true ↔
    g.port = port ∧ g.sender = msg.source ∧ at? ((n.lane l).slot k).portState port 0 = 9 := by
  simp [and_assoc]

theorem ptpAnnounceBody_of_followed (here : m.slotFor l port msg = some k)
    (other : msg.source ≠ Config.clockIdentity l.num) (follows : (announceKept l k port msg m).Follows l k port msg) :
    ptpAnnounceBody l port msg st m = utcFollow st l k msg.utcOffset
      (updSlot l k (fun x => { x with annAt := some (announceKept l k port msg m).now }) (announceKept l k port msg m)) := by
  obtain ⟨g, parent, port', sender, slave⟩ := follows
  simp only [ptpAnnounceBody, here, if_neg other]
  split
  next g' found =>
    have same : g' = g := Option.some.inj (found.symm.trans parent)
    exact if_pos (same ▸ follows_iff.2 ⟨port', sender, slave⟩)
  next none => exact absurd (none.symm.trans parent) nofun

theorem ptpAnnounceBody_of_unfollowed (here : m.slotFor l port msg = some k)
    (other : msg.source ≠ Config.clockIdentity l.num) (unfollowed : ¬(announceKept l k port msg m).Follows l k port msg) :
    ptpAnnounceBody l port msg st m = announceKept l k port msg m := by
  simp only [ptpAnnounceBody, here, if_neg other]
  split
  next g parent =>
    exact if_neg fun follows => unfollowed ⟨g, parent, follows_iff.1 follows⟩
  next => rfl

/-- A peer-delay request is answered by a port of the peer-delay mechanism (R346, R348). -/
theorem ptpDelayMessageBody_request (here : m.slotFor l port msg = some k) (kind : msg.kind = 2)
    (peer : nbit ((m.lane l).portCfg l port).ptp 1 = true) : ptpDelayMessageBody l port msg st m =
      let rx := m.rxStamp l port msg
      let tx := m.txStamp l port
      let c := (m.lane l).slotCfg k
      let n := stampPort l port tx (stampPort l port rx m)
      if nbit ((m.lane l).portCfg l port).ptp 2 then
        sendPtp l port 10 c msg.seq [tx, msg.correction] (sendPtp l port 3 c msg.seq [rx] n)
      else sendPtp l port 3 c msg.seq [0, tx - rx + msg.correction] n := by
  simp [ptpDelayMessageBody, here, kind, peer]

section
variable {q : DelayReq} (here : m.slotFor l port msg = some k)
  (asked : at? ((m.lane l).slot k).delayReq port none = some q) (same : q.seq = msg.seq)
include here asked same

theorem ptpDelayMessageBody_response (kind : msg.kind = 9) {ms : Int}
    (measured : ((m.lane l).slot k).msDiff = some (port, ms)) (endToEnd : nbit ((m.lane l).portCfg l port).ptp 1 = false)
    (target : msg.target = Config.clockIdentity l.num) : ptpDelayMessageBody l port msg st m =
      setPath l k port (fdiv (ms + (m.originOf l msg - q.sent - msg.correction + ((m.lane l).portCfg l port).asymNs)) 2) m := by
  simp [ptpDelayMessageBody, here, asked, same, Option.filter_some, kind, measured, endToEnd, target]

theorem ptpDelayMessageBody_peer (peer : nbit ((m.lane l).portCfg l port).ptp 1 = true) (kind : msg.kind = 3) :
    ptpDelayMessageBody l port msg st m =
      let rx := m.rxStamp l port msg
      let q' := some { q with resp := some (rx, m.originOf l msg + msg.correction) }
      if msg.twoStep then
        updSlot l k (fun x => { x with delayReq := upd x.delayReq port fun _ => q' }) (stampPort l port rx m)
      else setPath l k port (fdiv (rx - q.sent - msg.correction) 2) (stampPort l port rx m) := by
  simp [ptpDelayMessageBody, here, asked, same, Option.filter_some, kind, peer]

theorem ptpDelayMessageBody_followUp (peer : nbit ((m.lane l).portCfg l port).ptp 1 = true) {t4 t2 : Int}
    (kind : msg.kind = 10) (answered : q.resp = some (t4, t2)) : ptpDelayMessageBody l port msg st m =
      setPath l k port (fdiv (t4 - q.sent - (m.originOf l msg + msg.correction - t2)) 2) m := by
  simp [ptpDelayMessageBody, here, asked, same, Option.filter_some, kind, peer, answered]

end

theorem ptpDelayReqReceivedBody_of_master (here : m.slotFor l port msg = some k)
    (master : at? ((m.lane l).slot k).portState port 0 = 6) : ptpDelayReqReceivedBody l port msg st m =
      sendPtp l port 9 ((m.lane l).slotCfg k) msg.seq [m.rxStamp l port msg, msg.correction, (msg.source : Int)]
        (stampPort l port (m.rxStamp l port msg) m) := by
  simp [ptpDelayReqReceivedBody, here, master]

theorem ptpManagementGetBody_of_get (here : m.slotFor l port msg = some k) (get : msg.kind = 0) :
    ptpManagementGetBody l port msg st m = sendFrame l port 6
      ([(msg.domain : Int), msg.sdoId, msg.seq, msg.source] ++ m.dataSets l k port) m := by
  simp [ptpManagementGetBody, here, get]

end

/-! ### The obligation -/

section
variable (m : Module) (l : LaneId)

@[simp] theorem fresh_slotFor (port : Nat) (msg : PtpMsg) : m.fresh.slotFor l port msg = m.slotFor l port msg := by
  cases l <;> rfl

@[simp] theorem fresh_rxStamp (port : Nat) (msg : PtpMsg) : m.fresh.rxStamp l port msg = m.rxStamp l port msg := by
  cases l <;> rfl

@[simp] theorem fresh_txStamp (port : Nat) : m.fresh.txStamp l port = m.txStamp l port := by cases l <;> rfl

@[simp] theorem fresh_originOf (msg : PtpMsg) : m.fresh.originOf l msg = m.originOf l msg := by cases l <;> rfl

@[simp] theorem fresh_dataSets (k port : Nat) : m.fresh.dataSets l k port = m.dataSets l k port := by cases l <;> rfl

end

section
variable {s : State} {l : LaneId} {port k : Nat} {msg : PtpMsg} (here : s.m.slotFor l port msg = some k)
include here

/-- A Sync of a two-step master: stamped, noted, and its Follow_Up awaited (R347, R348). -/
theorem ends_ptpSync_twoStep (slave : at? ((s.m.lane l).slot k).portState port 0 = 9)
    (kept : (s.m.lane l).slotState k ≠ .lost) (two : msg.twoStep = true) : Ends (.ptpSync l port msg) s fun t =>
      OnlyLane l s t ∧ t.m.out = [] ∧ t.m.lane l = { s.m.lane l with ptp := { (s.m.lane l).ptp with
        ports := upd (s.m.lane l).ptp.ports port fun e => { e with stamp := some (s.m.timeStamp l (s.m.rxStamp l port msg)) }
        slots := upd (s.m.lane l).ptp.slots k fun x =>
          { x with syncAt := some s.m.now, waitFu := some (port, msg.seq, s.m.rxStamp l port msg, msg.correction) } } } := by
  have does : Does (.ptpSync l port msg) s (ptpSyncBody l port msg) := rfl
  have body : ptpSyncBody l port msg s.mem s.m.fresh = s.m.fresh.updLane l fun L => { L with ptp := { L.ptp with
      ports := upd L.ptp.ports port fun e => { e with stamp := some (s.m.timeStamp l (s.m.rxStamp l port msg)) }
      slots := upd L.ptp.slots k fun x =>
        { x with syncAt := some s.m.now, waitFu := some (port, msg.seq, s.m.rxStamp l port msg, msg.correction) } } } := by
    rw [ptpSyncBody_of_heard _ (by simpa) (by simpa) (by simpa)]
    simp only [two, if_true, stampPort_updSlot, stampPort_of_up (portUp_of_slotFor ((fresh_slotFor ..).trans here))]
    simp only [updSlot, updPtp, updLane_updLane, upd, List.modify_modify_eq]
    cases l <;> rfl
  exact does.ends ⟨by simp [OnlyLane, body], by simp [body], by simp [body]⟩

end

/-- Settles O38: each message of a slot, by the equation of its body. -/
theorem ptpMessagesAct : Obligations.PtpMessagesAct := by
  unfold Obligations.PtpMessagesAct
  intro s l port k msg here
  have here' : s.m.fresh.slotFor l port msg = some k := (fresh_slotFor ..).trans here
  have sync : Does (.ptpSync l port msg) s (ptpSyncBody l port msg) := rfl
  have followUp : Does (.ptpFollowUp l port msg) s (ptpFollowUpBody l port msg) := rfl
  have announce : Does (.ptpAnnounce l port msg) s (ptpAnnounceBody l port msg) := rfl
  have delay : Does (.ptpDelayMessage l port msg) s (ptpDelayMessageBody l port msg) := rfl
  have delayReq : Does (.ptpDelayReqReceived l port msg) s (ptpDelayReqReceivedBody l port msg) := rfl
  have get : Does (.ptpManagementGet l port msg) s (ptpManagementGetBody l port msg) := rfl
  refine ⟨fun slave => ⟨fun kept one => ?_, fun kept two => ends_ptpSync_twoStep here slave kept two, fun lost => ?_⟩,
    fun t2 corr waits => ?_, ⟨fun own => ?_, fun other unfollowed => ?_, fun other follows => ?_⟩,
    fun kind q ms asked same measured endToEnd target => ?_, fun kind peer one => ?_, fun kind peer two => ?_,
    fun q asked same peer => ⟨fun kind one => ?_, fun kind two => ?_, fun t4 t2 kind answered => ?_⟩,
    fun master => ?_, fun kind => ?_⟩
  · refine sync.congr ((ptpSyncBody_of_heard _ here' (by simpa) (by simpa)).trans ?_)
    simp [one]
  · refine sync.congr ((ptpSyncBody_of_lost _ here' (by simpa) (by simpa)).trans ?_)
    simp
  · refine followUp.congr ((ptpFollowUpBody_of_awaited _ here' (by simpa using waits)).trans ?_)
    simp
  · exact announce.congr (ptpAnnounceBody_of_own _ here' own)
  · exact announce.congr (ptpAnnounceBody_of_unfollowed _ here' other unfollowed)
  · exact announce.congr (ptpAnnounceBody_of_followed _ here' other follows)
  · refine delay.congr ((ptpDelayMessageBody_response _ here' (by simpa using asked) same kind (by simpa using measured)
      (by simpa) target).trans ?_)
    simp
  · refine delay.congr ((ptpDelayMessageBody_request _ here' kind (by simpa)).trans ?_)
    simp [one]
  · refine delay.congr ((ptpDelayMessageBody_request _ here' kind (by simpa)).trans ?_)
    simp [two]
  · refine delay.congr ((ptpDelayMessageBody_peer _ here' (by simpa using asked) same (by simpa) kind).trans ?_)
    simp [one]
  · refine delay.congr ((ptpDelayMessageBody_peer _ here' (by simpa using asked) same (by simpa) kind).trans ?_)
    simp [two]
  · refine delay.congr ((ptpDelayMessageBody_followUp _ here' (by simpa using asked) same (by simpa) kind answered).trans ?_)
    simp
  · refine delayReq.congr ((ptpDelayReqReceivedBody_of_master _ here' (by simpa)).trans ?_)
    simp
  · refine get.ends ?_
    simp [OnlyLane, ptpManagementGetBody_of_get _ here' kind, sendFrame]

end Sys2Proof.Machine
end

section
/-! Network time by its timers and commands (R346, R349, R355, R356, R358, R412). -/

namespace Sys2Proof.Machine

/-! ### What a port sends of itself (R346) -/

section
variable (st : Store) {l : LaneId} {port k : Nat} {m : Module} (real : k ≤ 1) (up : (m.lane l).portUp port = true)
  (on : (m.lane l).slotOn l k port = true)
include real up on

/-- A slot whose next message of a kind takes the next number (R346). -/
def PtpSlot.counted (n : Nat) (x : PtpSlot) : PtpSlot := { x with seqs := upd x.seqs n fun q => (q + 1) % 65536 }

theorem ptpMessageIntervalBody_sync (master : at? ((m.lane l).slot k).portState port 0 = 6) :
    ptpMessageIntervalBody l port k 0 st m =
      let c := (m.lane l).slotCfg k
      let seq := at? ((m.lane l).slot k).seqs 0 0
      let n := updSlot l k (PtpSlot.counted 0) (stampPort l port (m.txStamp l port) m)
      if nbit ((m.lane l).portCfg l port).ptp 2 then
        sendPtp l port 8 c seq [m.txStamp l port] (sendPtp l port 0 c seq [] n)
      else sendPtp l port 0 c seq [m.txStamp l port] n := by
  simp [ptpMessageIntervalBody, up, on, master, Nat.not_lt.2 real]
  rfl

/-- A delay measurement asked for (R348). -/
def asksDelay (l : LaneId) (port k kind : Nat) (m : Module) : Module :=
  let tx := m.txStamp l port
  let seq := at? ((m.lane l).slot k).seqs kind 0
  sendPtp l port kind ((m.lane l).slotCfg k) seq [tx] (updSlot l k (fun x => { x.counted kind with
    delayReq := upd x.delayReq port fun _ => some { seq := seq, sent := tx } }) (stampPort l port tx m))

theorem ptpMessageIntervalBody_delayReq (slave : at? ((m.lane l).slot k).portState port 0 = 9)
    (endToEnd : nbit ((m.lane l).portCfg l port).ptp 1 = false) :
    ptpMessageIntervalBody l port k 1 st m = asksDelay l port k 1 m := by
  simp [ptpMessageIntervalBody, up, on, slave, endToEnd, asksDelay, PtpSlot.counted, Nat.not_lt.2 real]

theorem ptpMessageIntervalBody_pdelayReq (peer : nbit ((m.lane l).portCfg l port).ptp 1 = true) :
    ptpMessageIntervalBody l port k 2 st m = asksDelay l port k 2 m := by
  simp [ptpMessageIntervalBody, up, on, peer, asksDelay, PtpSlot.counted, Nat.not_lt.2 real]

theorem ptpMessageIntervalBody_announce (master : at? ((m.lane l).slot k).portState port 0 = 6) :
    ptpMessageIntervalBody l port k 11 st m =
      let a := (m.lane l).announced l k m.now
      sendPtp l port 11 ((m.lane l).slotCfg k) (at? ((m.lane l).slot k).seqs 3 0)
        ([(a.gm : Int)] ++ a.rank.map (fun (x : Nat) => (x : Int)) ++ [(a.steps : Int), ((m.lane l).ptp.utcOffset : Int)])
        (updSlot l k (PtpSlot.counted 3) m) := by
  have now (f : PtpSlot → PtpSlot) : (updSlot l k f m).now = m.now := by simp [updSlot, updPtp]
  simp [ptpMessageIntervalBody, up, on, master, now, Nat.not_lt.2 real]
  rfl

end

/-! ### A slot lost (R349) -/

section
variable (st : Store) {l : LaneId} {k : Nat} {m : Module} (real : k ≤ 1)
include real

theorem slotLostBody_of_sync {a : Nat} (steers : (m.lane l).slotSteers k = true)
    (synced : ((m.lane l).slot k).syncAt = some a) (unannounced : ((m.lane l).slot k).annAt = none) :
    slotLostBody l k st m = listenIfMaster l k (steerAfter l k ((m.lane l).slot k).state
      (setSlotState l k .lost (clockTo (a + ((m.lane l).slotCfg k).lossMs * 1000000) m))) := by
  have enabled : (m.lane l).slotState k ≠ .disabled := fun off => by simp [Lane.slotSteers, off] at steers
  simp [slotLostBody, steers, synced, unannounced, enabled, Nat.not_lt.2 real]

theorem slotLostBody_of_announce {b : Nat} (idle : (m.lane l).slotSteers k = false)
    (enabled : (m.lane l).slotState k ≠ .disabled) (announced : ((m.lane l).slot k).annAt = some b) :
    slotLostBody l k st m =
      let leave := fun (x : Nat × Nat) => if x.1 = 9 then (if (m.lane l).mayLead l k x.2 then 6 else 4) else x.1
      let gone := updSlot l k (fun x => { x with
          annAt := none, foreign := [], portState := x.portState.zipIdx.map leave })
        (clockTo (b + ((m.lane l).slotCfg k).announceTimeout * ((m.lane l).slotCfg k).announceNs) m)
      if (m.lane l).slotState k = .listening then updSlot l k (fun x => { x with samples := [], q := none }) gone
      else listenIfMaster l k gone := by
  simp [slotLostBody, idle, announced, enabled, clockTo, Nat.not_lt.2 real]

end

/-! ### The end of a slew (R355) -/

/-- Within its limits a field die's counter reads the same once it runs on at another rate (R28). -/
theorem tb_settled (fd : FieldDie) (now : Nat) (ppb : Int) :
    { fd with tbBase := fd.tb now, tbSetAt := now, refPpb := ppb }.tb now = fd.tb now := by
  have held : fd.tbHold ≤ fd.tb now := le_max_left ..
  change max fd.tbHold (fd.tb now + ((now - now : Nat) : Int) + fdiv (((now - now : Nat) : Int) * (ppb + fd.tbRate)) 1000000000) = _
  simp [fdiv, held]

section
variable (ppb : Int) (m : Module)

theorem lane_retime (k : LaneId) : (retime ppb m).lane k =
    { m.lane k with ptp := { (m.lane k).ptp with refPpb := (m.lane k).ptp.refPpb - ppb } } := by
  unfold retime
  split_ifs with same
  · rw [same, Int.sub_zero]
  · cases k <;> rfl

theorem refPpb_retime : (retime ppb m).fds.map (·.refPpb) = m.fds.map (·.refPpb - ppb) := by
  unfold retime
  split_ifs with same
  · simp [same]
  · simp

theorem tb_retime : (retime ppb m).fds.map (·.tb m.now) = m.fds.map (·.tb m.now) := by
  unfold retime
  split_ifs
  · rfl
  · simp [tb_settled]

@[simp] theorem now_retime : (retime ppb m).now = m.now := by
  unfold retime
  split_ifs <;> rfl

@[simp] theorem sds_retime : (retime ppb m).sds = m.sds := by
  unfold retime
  split_ifs <;> rfl

@[simp] theorem mail_retime : (retime ppb m).mail = m.mail := by
  unfold retime
  split_ifs <;> rfl

@[simp] theorem nvmOut_retime : (retime ppb m).nvmOut = m.nvmOut := by
  unfold retime
  split_ifs <;> rfl

end

section
variable {l : LaneId} {m : Module} (holds : (m.lane l).red.holds = true)

include holds in
/-- A slew stopped: every reference runs at the slot's rate again (R355). -/
theorem stopSlew_eq : stopSlew l m =
    retime (ppmLimit (m.lane l).ptp.rate - (m.lane l).ptp.speed)
      (updPtp l (fun p => { p with slewing := false, slewLeft := 0 }) m) := by
  have active : (updPtp l (fun p => { p with slewing := false, slewLeft := 0 }) m).active l = true := by
    simpa [Module.active, updPtp] using holds
  rw [stopSlew, steering, if_pos active]
  simp [updPtp, Ptp.speed]

end

section
variable {s : State} {l : LaneId} (holds : (s.m.lane l).red.holds = true) (slewing : (s.m.lane l).ptp.slewing = true)

include slewing in
theorem does_slewEnd : Does (.slewEnd l) s fun _ m => stopSlew l (clockTo (m.lane l).ptp.slewEnd m) := by
  have does : Does (.slewEnd l) s (slewEndBody l) := rfl
  exact does.congr (by simp [slewEndBody, slewing])

include holds slewing in
/-- What a slew leaves: the references run apart by its rate no longer, and no counter jumps (R28, R355). -/
theorem ends_slewEnd : Ends (.slewEnd l) s fun t => SameStores s t ∧
    let gain := ppmLimit (s.m.lane l).ptp.rate - (s.m.lane l).ptp.speed
    let other := s.m.lane l.other
    t.m.now = max s.m.now (s.m.lane l).ptp.slewEnd ∧ t.m.sds = s.m.sds ∧ t.m.mail = s.m.mail ∧
    t.m.lane l = { s.m.lane l with ptp := { (s.m.lane l).ptp with
      slewing := false, slewLeft := 0, refPpb := (s.m.lane l).ptp.refPpb - gain } } ∧
    t.m.lane l.other = { other with ptp := { other.ptp with refPpb := other.ptp.refPpb - gain } } ∧
    t.m.fds.map (·.refPpb) = s.m.fds.map (·.refPpb - gain) ∧
    t.m.fds.map (·.tb t.m.now) = s.m.fds.map (·.tb t.m.now) := by
  have does : Does (.slewEnd l) s fun _ m => retime (ppmLimit (s.m.lane l).ptp.rate - (s.m.lane l).ptp.speed)
      (updPtp l (fun p => { p with slewing := false, slewLeft := 0 }) (clockTo (s.m.lane l).ptp.slewEnd m)) :=
    (does_slewEnd slewing).congr (by rw [stopSlew_eq (by simpa)]; simp)
  refine does.ends ⟨⟨by simp [updPtp], rfl⟩, by simp [updPtp], by simp [updPtp], by simp [updPtp], ?_, ?_, ?_, ?_⟩
  · exact (lane_retime ..).trans (by simp [updPtp])
  · exact (lane_retime ..).trans (by simp [updPtp])
  · exact (refPpb_retime ..).trans (by simp [updPtp])
  · have counters := tb_retime (ppmLimit (s.m.lane l).ptp.rate - (s.m.lane l).ptp.speed)
      (updPtp l (fun p => { p with slewing := false, slewLeft := 0 }) (clockTo (s.m.lane l).ptp.slewEnd s.m.fresh))
    simpa [updPtp] using counters

end


/-! ### The commands (R356, R358) -/

section
variable (st : Store) {s : State} {l : LaneId} {v : View} (holds : (s.m.lane l).red.holds = true)
include holds

/-- A SWITCH, its slot to be one that can steer (R355, R356). -/
theorem does_ptpSwitch (heard : Heard s l v) : Does (.ptpSwitch l v) s fun _ m =>
    let L := m.lane l
    if !L.slotSteers (1 - L.ptp.steer) then timeEnd l 3 1 m
    else timeEnd l 2 0 (switchTo l (1 - L.ptp.steer) true
      (if L.ptp.steerState = 2 then report l 12 0x7104 L.ptp.steer 0 0 m else m)) := by
  have does : Does (.ptpSwitch l v) s (ptpSwitchBody l v) := rfl
  exact does.congr ((guardWrite_heard heard _).trans (by simp [holds]))

/-- SET_RTC, module time to be LOCKED (R358, R412). -/
theorem does_setRtc (heard : Heard s l v) : Does (.setRtc l v) s fun _ m =>
    let L := m.lane l
    let sec := (fdiv (m.modNs l) 1000000000).toNat + 1
    if L.ptp.steerState ≠ 1 then timeEnd l 3 1 m
    else timeEnd l 1 0 (updPtp l (fun p => { p with setRtc := some sec })
      (if L.rtc.lockout then m else updRtc l (stageSecond (sec - L.ptp.utcOffset - 946684800)) m)) := by
  have does : Does (.setRtc l v) s (setRtcBody l v) := rfl
  exact does.congr ((guardWrite_heard heard _).trans (by simp [holds]))

/-- The commit of SET_RTC at its second (R358, R407, R412). -/
theorem does_setRtcCommit {sec : Nat} (set : (s.m.lane l).ptp.setRtc = some sec) : Does (.setRtcCommit l) s fun _ m =>
    let L := m.lane l
    let n := updPtp l (fun p => { p with setRtc := none })
      (clockTo (1000 * (1000000 * (sec : Int) - L.prg.tbOffset)).toNat m)
    if L.rtc.lockout then timeEnd l 3 3 n
    else if !L.rtc.stagedOk then timeEnd l 2 0 (rejectDate l 1 n)
    else timeEnd l 2 0 (report l 12 0x7107 sec L.ptp.utcOffset L.ptp.steer (setCalendar l L.rtc.staged n)) := by
  have does : Does (.setRtcCommit l) s (setRtcCommitBody l) := rfl
  exact does.congr (by simp [setRtcCommitBody, set, holds, updPtp])

end

/-- Settles O39: each timer and command, by the equation of its body. -/
theorem timeActs : Obligations.TimeActs := by
  unfold Obligations.TimeActs
  intro s l port k holds
  refine ⟨fun real up on => ?_, fun a real steers synced unannounced => ?_, fun b real idle enabled announced => ?_,
    does_slewEnd, ends_slewEnd holds, fun v heard => ⟨?_, ?_, ?_, ?_, ?_, ?_⟩, fun sec set locked => ?_,
    fun sec set unlocked sound => ?_⟩
  · have sends (kind : Nat) : Does (.ptpMessageInterval l port k kind) s (ptpMessageIntervalBody l port k kind) := rfl
    have up' : (s.m.fresh.lane l).portUp port = true := by simpa
    have on' : (s.m.fresh.lane l).slotOn l k port = true := by simpa
    refine ⟨fun master one => ?_, fun master two => ?_, fun slave endToEnd => ?_, fun peer => ?_, fun master => ?_⟩
    · refine (sends 0).congr ((ptpMessageIntervalBody_sync _ real up' on' (by simpa)).trans ?_)
      simp [one]
      rfl
    · refine (sends 0).congr ((ptpMessageIntervalBody_sync _ real up' on' (by simpa)).trans ?_)
      simp [two]
      rfl
    · refine (sends 1).congr ((ptpMessageIntervalBody_delayReq _ real up' on' (by simpa) (by simpa)).trans ?_)
      simp [asksDelay, PtpSlot.counted]
    · refine (sends 2).congr ((ptpMessageIntervalBody_pdelayReq _ real up' on' (by simpa)).trans ?_)
      simp [asksDelay, PtpSlot.counted]
    · exact (sends 11).congr (ptpMessageIntervalBody_announce _ real up' on' (by simpa))
  · have lost : Does (.slotLost l k) s (slotLostBody l k) := rfl
    exact lost.congr ((slotLostBody_of_sync _ real (by simpa) (by simpa using synced) (by simpa)).trans (by simp))
  · have lost : Does (.slotLost l k) s (slotLostBody l k) := rfl
    exact lost.congr ((slotLostBody_of_announce _ real (by simpa) (by simpa) (by simpa using announced)).trans (by simp))
  · exact fun steers ahead => (does_ptpSwitch holds heard).congr (by simp [steers, ahead])
  · exact fun steers held => (does_ptpSwitch holds heard).congr (by simp [steers, held])
  · exact fun idle => (does_ptpSwitch holds heard).congr (by simp [idle])
  · exact fun locked lockout => (does_setRtc holds heard).congr (by simp [locked, lockout])
  · exact fun locked lockout => (does_setRtc holds heard).congr (by simp [locked, lockout])
  · exact fun unlocked => (does_setRtc holds heard).congr (by simp [unlocked])
  · exact (does_setRtcCommit holds set).congr (by simp [locked])
  · exact (does_setRtcCommit holds set).congr (by simp [unlocked, sound, updPtp])

end Sys2Proof.Machine
end

section
/-! The Ethernet ports (R340, R341, R343): a link that changes, and the frames that a port answers or discards. -/

namespace Sys2Proof.Machine

/-! ### Network time changes nothing of the configuration -/

section
variable (l : LaneId) (k port : Nat) (m : Module) (j : LaneId)

@[simp] theorem cfg_report (block code p0 p1 p2 : Nat) : ((report l block code p0 p1 p2 m).lane j).cfg = (m.lane j).cfg :=
  cfg_of_blank (blank_report ..) j

@[simp] theorem cfg_raise (b bits : Nat) : ((raise l b bits m).lane j).cfg = (m.lane j).cfg := cfg_of_blank (blank_raise ..) j

@[simp] theorem cfg_updSlot (f : PtpSlot → PtpSlot) : ((updSlot l k f m).lane j).cfg = (m.lane j).cfg := cfg_updPtp ..

@[simp] theorem cfg_setSlotState (x : SlotState) : ((setSlotState l k x m).lane j).cfg = (m.lane j).cfg :=
  (cfg_of_blank (blank_slotChanges ..) j).trans (cfg_updSlot ..)

@[simp] theorem cfg_steering (f : Ptp → Ptp) : ((steering l f m).lane j).cfg = (m.lane j).cfg := by
  unfold steering
  dsimp only
  split_ifs
  · exact (congrArg Lane.cfg (lane_retime ..)).trans (cfg_updPtp ..)
  · exact cfg_updPtp ..

@[simp] theorem cfg_slew (delta : Int) : ((slew l delta m).lane j).cfg = (m.lane j).cfg := cfg_steering ..

@[simp] theorem cfg_stopSlew : ((stopSlew l m).lane j).cfg = (m.lane j).cfg := cfg_steering ..

@[simp] theorem cfg_stepTime (step : Int) (cause slot : Nat) :
    ((stepTime l step cause slot m).lane j).cfg = (m.lane j).cfg := by
  simp only [stepTime, cfg_report, cfg_raise, cfg_slew]
  cases l <;> cases j <;> rfl

@[simp] theorem cfg_firstLock : ((firstLock l k m).lane j).cfg = (m.lane j).cfg := by simp [firstLock]

@[simp] theorem cfg_switchTo (command : Bool) : ((switchTo l k command m).lane j).cfg = (m.lane j).cfg := by
  unfold switchTo
  dsimp only
  split_ifs <;> simp

@[simp] theorem cfg_steerAfter (was : SlotState) : ((steerAfter l k was m).lane j).cfg = (m.lane j).cfg := by
  unfold steerAfter
  dsimp only
  split_ifs <;> simp [cfg_holdover]

@[simp] theorem cfg_slotRestart : ((slotRestart l k m).lane j).cfg = (m.lane j).cfg := by simp [slotRestart]

@[simp] theorem cfg_setLink (up gig : Bool) : ((setLink l port up gig m).lane j).cfg = (m.lane j).cfg := by
  have each (k : Nat) (f : PtpSlot → PtpSlot) (p : Prop) [Decidable p] (n : Module) :
      ((if p then slotRestart l k (updSlot l k f n) else updSlot l k f n).lane j).cfg = (n.lane j).cfg := by
    split_ifs <;> simp
  simp [setLink, forEach, each]

theorem portCfg_setLink (up gig : Bool) (q : Nat) : ((setLink l port up gig m).lane l).portCfg l q = (m.lane l).portCfg l q := by
  simp only [Lane.portCfg, Lane.net, Lane.conf, cfg_setLink]

end

/-! ### The frames of a port (R341) -/

section
variable {l : LaneId} {port : Nat} {m : Module} (up : (m.lane l).portUp port = true)
include up

theorem answerFrame_of_own {ip : BitVec 32} (kind : Nat) (real : ip ≠ 0) (own : ip.toNat = ((m.lane l).portCfg l port).ipv4) :
    answerFrame l port ip kind m = put (.eth l.num port kind [((m.lane l).portCfg l port).tag, ip.toNat]) m := by
  have set : ((m.lane l).portCfg l port).ipv4 ≠ 0 := fun zero => real (BitVec.eq_of_toNat_eq (own.trans zero))
  simp [answerFrame, sendFrame, up, own, set]

theorem answerFrame_of_other {ip : BitVec 32} (kind : Nat) (other : ip.toNat ≠ ((m.lane l).portCfg l port).ipv4) :
    answerFrame l port ip kind m = discardFrame l port false m := by
  simp [answerFrame, up, other.symm]

end

/-- A link that changes to what its entry allows (R340, R343). -/
theorem linkChangeBody_of_changed {l : LaneId} {port : Nat} {m : Module} (st : Store) (up gig : Bool) (real : port ≤ 1)
    (changed : (m.lane l).linkUp port = !up)
    (able : up = true → (m.lane l).red.holds = true ∧ (((m.lane l).portCfg l port).mode = 1 ∨
      (((m.lane l).portCfg l port).mode = 2 ∧ gig = true) ∨ (((m.lane l).portCfg l port).mode = 3 ∧ gig = false))) :
    linkChangeBody l port up gig st m =
      let e := (m.lane l).portCfg l port
      let n := setLink l port up gig m
      if up && e.ipv4 != 0 then put (.eth l.num port 1 [e.tag, e.ipv4]) n else n := by
  have two : ¬port > 1 := Nat.not_lt.2 real
  cases up with
  | false => simp [linkChangeBody, two, changed]
  | true =>
    obtain ⟨holds, mode⟩ := able rfl
    have allowed : (((m.lane l).portCfg l port).mode == 1 || (((m.lane l).portCfg l port).mode == 2 && gig) ||
        (((m.lane l).portCfg l port).mode == 3 && !gig)) = true := by simpa [or_assoc] using mode
    simp only [linkChangeBody, two, changed, holds, allowed]
    simp [sendFrame, portCfg_setLink]

/-- Settles O40: a link's change and each frame, by the equation of its body. -/
theorem ethernetPortsAct : Obligations.EthernetPortsAct := by
  unfold Obligations.EthernetPortsAct
  intro s l port real
  refine ⟨fun up gig changed able => ?_, fun up => ⟨fun ip real own => ⟨?_, ?_⟩, fun ip other => ⟨?_, ?_⟩, fun bad => ?_⟩⟩
  · have does : Does (.linkChange l port up gig) s (linkChangeBody l port up gig) := rfl
    refine does.congr ((linkChangeBody_of_changed _ up gig real (by simpa) (by simpa)).trans ?_)
    rw [fresh_lane]
    rfl
  · have does : Does (.arpRequest l port ip) s fun _ m => answerFrame l port ip 2 m := rfl
    exact does.ends (by simp [OnlyLane, answerFrame_of_own (m := s.m.fresh) (by simpa) 2 real (by simpa)])
  · have does : Does (.icmpEchoRequest l port ip) s fun _ m => answerFrame l port ip 3 m := rfl
    exact does.ends (by simp [OnlyLane, answerFrame_of_own (m := s.m.fresh) (by simpa) 3 real (by simpa)])
  · have does : Does (.arpRequest l port ip) s fun _ m => answerFrame l port ip 2 m := rfl
    exact does.congr (answerFrame_of_other (by simpa) 2 (by simpa))
  · have does : Does (.icmpEchoRequest l port ip) s fun _ m => answerFrame l port ip 3 m := rfl
    exact does.congr (answerFrame_of_other (by simpa) 3 (by simpa))
  · have does : Does (.foreignFrame l port bad) s (foreignFrameBody l port bad) := rfl
    have body : foreignFrameBody l port bad s.mem s.m.fresh = discardFrame l port bad s.m.fresh := by
      simp [foreignFrameBody, up]
    exact does.ends (by simp [OnlyLane, body, discardFrame, updPtp])

end Sys2Proof.Machine
end

section
/-! A metrology record that finds the next slot of the metrology log taken (R365, R393). -/

namespace Sys2Proof.Machine

/-- A metrology record as it waits for its number. -/
def meteredRecord : EvRec := { code := 0x5800 }

/-- An active lane A that can program, with a metrology record waiting alone and the first slot of its empty metrology log
not 0. -/
def takenLog : State := {
  mem := { mramA := [(0x2600000, 1)] }
  m := {
    supplyGood := true
    laneA := {
      pwr := { doms := [{}, { state := .on }] }
      sys := { phase := .up, holdupOk := true }
      red := { holds := true }
      evr := { known := true, intake := [meteredRecord] } } } }

/-- The refused write is an event of its own, and it enters the intake queue behind what waits there (R364, R394). -/
theorem takenLog_intake : ((commit takenLog fun st m => mlogWrite st .A meteredRecord (recordTaken takenLog .A m)).m.lane .A).evr.intake.map
    (·.code) = [0x8102] := by
  decide

/-- Refutes O53: the statement leaves the intake queue with the rest alone wherever the slot may stand, but at `takenLog`
the slot is taken, the write is refused, and the refusal is recorded. -/
theorem not_metrologyRecordsAreNeverDropped : ¬ Obligations.MetrologyRecordsAreNeverDropped := by
  unfold Obligations.MetrologyRecordsAreNeverDropped
  intro h
  obtain ⟨-, writes⟩ := h takenLog .A meteredRecord rfl
  obtain ⟨t, runs, -, intake, -⟩ := writes [] rfl rfl rfl (.inr (.inl rfl)) (.inl (by decide))
  have does := does_eventRecordWritten_metrology (s := takenLog) (l := .A) (r := meteredRecord) (rest := [])
    (.inl (by decide)) (.inr (.inr rfl)) rfl rfl rfl
  have same : t = commit takenLog _ := Host.Outcome.next.inj (runs.symm.trans does)
  have refusal := takenLog_intake
  rw [same] at intake
  rw [intake] at refusal
  exact absurd refusal (by decide)

end Sys2Proof.Machine
end

section
/-! The time keeper at work (R403, R407, R408, R413 to R415): its tick, its cells, its commits and its alarm. -/

namespace Sys2Proof.Machine

/-! ### What the time keeper's operations leave -/

/-- The time keeper but for its interrupt word, its kept events, the power-on request and what a discarded tick would give
back. -/
def Rtc.face (r : Rtc) : Rtc :=
  { r with irq := 0, kept := [], pwron := false, pwrOnAt := none, undo := none, peerSet := false }

def Module.rtcFace (m : Module) (l : LaneId) : Rtc := (m.lane l).rtc.face

/-- What a module has programmed, and its clock. -/
def Module.mark (m : Module) : List (Nat × Nat × Bytes) × Nat := (m.nvmOut, m.now)

section
variable (l : LaneId) (m : Module)

theorem rtcFace_of_blank {m n : Module} (h : m.blank = n.blank) : m.rtcFace l = n.rtcFace l :=
  (congrArg (fun L : Lane => L.rtc.face) (lane_of_blank h l) :)

@[simp] theorem rtcFace_report (k : LaneId) (b c x y z : Nat) : (report k b c x y z m).rtcFace l = m.rtcFace l :=
  rtcFace_of_blank l (blank_report ..)

@[simp] theorem rtcFace_raise (k : LaneId) (b bits : Nat) : (raise k b bits m).rtcFace l = m.rtcFace l :=
  rtcFace_of_blank l (blank_raise ..)

theorem rtcFace_updRtc (f : Rtc → Rtc) : (updRtc l f m).rtcFace l = (f (m.lane l).rtc).face := by
  simp [Module.rtcFace, updRtc]

@[simp] theorem rtcFace_rtcEvent (code p0 p1 : Nat) : (rtcEvent l code p0 p1 m).rtcFace l = m.rtcFace l := by
  unfold rtcEvent
  split_ifs
  · exact rtcFace_report ..
  · exact rtcFace_updRtc ..

theorem rtcFace_setOsf (cause : Nat) : (setOsf l cause m).rtcFace l = { m.rtcFace l with osf := true, osfCause := cause } := by
  rw [setOsf, rtcFace_rtcEvent, rtcFace_raise, rtcFace_updRtc]
  rfl

@[simp] theorem rtcFace_requestPower (source : Nat) : (requestPower l source m).rtcFace l = m.rtcFace l := by
  unfold requestPower
  split_ifs
  · rfl
  · exact rtcFace_updRtc ..

theorem rtcFace_alarm : (alarm l m).rtcFace l = { m.rtcFace l with alarm := true } := by
  unfold alarm
  dsimp only
  split_ifs
  · rw [rtcFace_requestPower, rtcFace_rtcEvent, rtcFace_raise, rtcFace_updRtc]
    rfl
  · rw [rtcFace_rtcEvent, rtcFace_raise, rtcFace_updRtc]
    rfl

/-- What is done to the other lane's time keeper leaves this one's. -/
theorem rtcFace_updRtc_other (f : Rtc → Rtc) : (updRtc l.other f m).rtcFace l = m.rtcFace l := by
  cases l <;> rfl

theorem rtcFace_discardTick_other : (discardTick l.other m).rtcFace l = m.rtcFace l := by
  unfold discardTick
  dsimp only
  cases (m.lane l.other).rtc.undo with
  | none => rfl
  | some u =>
    dsimp only
    split_ifs
    · rfl
    · cases l <;> rfl

/-- The commit into the standby leaves the active lane's time keeper (R409). -/
@[simp] theorem rtcFace_peerCalendar : (peerCalendar l m).rtcFace l = m.rtcFace l := by
  have unset : (updRtc l (fun r => { r with peerSet := false }) m).rtcFace l = m.rtcFace l := rtcFace_updRtc ..
  unfold peerCalendar
  dsimp only
  split_ifs
  · exact unset
  · rw [rejectDate, rtcFace_report, rtcFace_raise, rtcFace_updRtc_other, unset]
  · rw [rtcFace_report, setCalendar, rtcFace_updRtc_other, rtcFace_discardTick_other, unset]

@[simp] theorem mark_updRtc (f : Rtc → Rtc) : (updRtc l f m).mark = m.mark := by simp [Module.mark, updRtc]

@[simp] theorem mark_raise (b bits : Nat) : (raise l b bits m).mark = m.mark := by simp [Module.mark]

@[simp] theorem mark_report (b c x y z : Nat) : (report l b c x y z m).mark = m.mark := by simp [Module.mark]

@[simp] theorem mark_rtcEvent (code p0 p1 : Nat) : (rtcEvent l code p0 p1 m).mark = m.mark := by
  unfold rtcEvent
  split_ifs <;> simp

@[simp] theorem mark_setOsf (cause : Nat) : (setOsf l cause m).mark = m.mark := by simp [setOsf]

@[simp] theorem mark_requestPower (source : Nat) : (requestPower l source m).mark = m.mark := by
  unfold requestPower
  split_ifs <;> simp

@[simp] theorem mark_alarm : (alarm l m).mark = m.mark := by
  unfold alarm
  dsimp only
  split_ifs <;> simp

@[simp] theorem mark_rejectDate (view : Nat) : (rejectDate l view m).mark = m.mark := by simp [rejectDate]

@[simp] theorem mark_discardTick : (discardTick l m).mark = m.mark := by
  unfold discardTick
  dsimp only
  cases (m.lane l).rtc.undo with
  | none => rfl
  | some u =>
    dsimp only
    split_ifs
    · rfl
    · simp [Module.mark]

@[simp] theorem mark_setCalendar (c : Cal) : (setCalendar l c m).mark = m.mark := by simp [setCalendar]

@[simp] theorem mark_peerCalendar : (peerCalendar l m).mark = m.mark := by
  unfold peerCalendar
  dsimp only
  split_ifs <;> simp

end

/-! ### The second tick (R403, R408, R414) -/

section
variable {s : State} {l : LaneId} (alive : (s.m.lane l).rtc.alive = true)
include alive

theorem does_rtcSecondTick : Does (.rtcSecondTick l) s fun _ m =>
    let r := (m.lane l).rtc
    let m := clockTo (r.secAt + 1000000000) m
    let wrap := r.cal.year == 2399 && r.cal.next.year == 2000
    let hit := r.alarmHit r.cal.next
    let undo : TickUndo := {
      osf := r.osf, osfCause := r.osfCause, alarm := r.alarm, pwron := r.pwron, pwrOnAt := r.pwrOnAt,
      irq := r.irq, kept := r.kept }
    let m := updRtc l (fun r => { r with
      cal := r.cal.next, secAt := m.now, undo := if wrap || hit then some undo else none }) m
    let m := if wrap then setOsf l 3 m else m
    let m := if hit then alarm l m else m
    if r.peerSet then peerCalendar l m else m := by
  have does : Does (.rtcSecondTick l) s (rtcSecondTickBody l) := rfl
  exact does.congr (if_neg (by simp [alive]))

end

section
variable {l : LaneId} (st : Store) {m : Module} (alive : (m.lane l).rtc.alive = true)
include alive

/-- What the tick leaves of the time keeper. -/
theorem rtcFace_rtcSecondTick :
    let r := (m.lane l).rtc
    let wrap := r.cal.year == 2399 && r.cal.next.year == 2000
    (rtcSecondTickBody l st m).rtcFace l = { r.face with
      cal := r.cal.next, secAt := max m.now (r.secAt + 1000000000), osf := r.osf || wrap
      osfCause := if wrap then 3 else r.osfCause, alarm := r.alarm || r.alarmHit r.cal.next } := by
  dsimp only
  unfold rtcSecondTickBody
  simp only [alive, Bool.not_true, Bool.false_eq_true, if_false]
  generalize ((m.lane l).rtc.cal.year == 2399 && (m.lane l).rtc.cal.next.year == 2000) = wrap
  generalize (m.lane l).rtc.alarmHit (m.lane l).rtc.cal.next = hit
  generalize (m.lane l).rtc.peerSet = peer
  cases wrap <;> cases hit <;> cases peer <;>
    simp [rtcFace_setOsf, rtcFace_alarm, rtcFace_updRtc, Rtc.face]

theorem mark_rtcSecondTick :
    (rtcSecondTickBody l st m).mark = (m.nvmOut, max m.now ((m.lane l).rtc.secAt + 1000000000)) := by
  have ticked : (clockTo ((m.lane l).rtc.secAt + 1000000000) m).mark =
      (m.nvmOut, max m.now ((m.lane l).rtc.secAt + 1000000000)) := by simp [Module.mark]
  unfold rtcSecondTickBody
  simp only [alive, Bool.not_true, Bool.false_eq_true, if_false]
  split_ifs <;> simpa using ticked

end

theorem ends_rtcSecondTick {s : State} {l : LaneId} (alive : (s.m.lane l).rtc.alive = true) :
    Ends (.rtcSecondTick l) s fun t => SameStores s t ∧ (t.m.lane l).rtc.cal = (s.m.lane l).rtc.cal.next ∧
      t.m.now = max s.m.now ((s.m.lane l).rtc.secAt + 1000000000) ∧ (t.m.lane l).rtc.secAt = t.m.now ∧
      ((s.m.lane l).rtc.alarmHit (s.m.lane l).rtc.cal.next = true → (t.m.lane l).rtc.alarm = true) ∧
      ((s.m.lane l).rtc.cal.year = 2399 → (s.m.lane l).rtc.cal.next.year = 2000 →
        (t.m.lane l).rtc.osf = true ∧ (t.m.lane l).rtc.osfCause = 3) := by
  have does : Does (.rtcSecondTick l) s (rtcSecondTickBody l) := rfl
  have alive' : (s.m.fresh.lane l).rtc.alive = true := by simpa
  have face := rtcFace_rtcSecondTick s.mem alive'
  have mark := mark_rtcSecondTick s.mem alive'
  simp only [Module.rtcFace, Rtc.face, Rtc.mk.injEq, fresh_lane, fresh_now] at face
  simp only [Module.mark, fresh_nvmOut, fresh_now, fresh_lane, Prod.mk.injEq] at mark
  obtain ⟨programmed, now⟩ := mark
  refine does.ends ⟨sameStores_commit programmed, ?_, ?_, ?_, ?_, ?_⟩ <;> simp only [commit_m, closed_lane, closed_now]
  · simp [face]
  · exact now
  · simp [face, now]
  · simp +contextual [face]
  · simp +contextual [face]

/-! ### The cells (R413) -/

/-- A time keeper whose cells have been measured (R410, R411, R413). -/
def Rtc.measured (i e now : Nat) (supply : Bool) (r : Rtc) : Rtc :=
  let r : Rtc := { r with
    cellAt := now, intMv := i % 65536, extMv := e % 65536, cellLow := decide (i < 3300), extSelected := r.extern e }
  { r with charging := supply && r.charges }

section
variable {s : State} {l : LaneId} (i e : Nat) (alive : (s.m.lane l).rtc.alive = true)
include alive

theorem does_cellMeasure : Does (.cellMeasure l i e) s fun _ m =>
    let low := decide (i < 3300)
    let was := (m.lane l).rtc.cellLow
    let m := clockTo ((m.lane l).rtc.cellAt + 60000000000) m
    let m := updRtc l (fun r => let r : Rtc := { r with
      cellAt := m.now, intMv := i % 65536, extMv := e % 65536, cellLow := low, extSelected := r.extern e }
      { r with charging := m.supplyGood && r.charges }) m
    let said := if low then raise l 15 4 m else m
    if low = was then m else if m.supplyGood then report l 15 0x8206 i (b2n low) 0 said else said := by
  have does : Does (.cellMeasure l i e) s (cellMeasureBody l i e) := rfl
  refine does.congr ((if_neg (by simp [alive])).trans ?_)
  simp only [apply_ite Module.supplyGood, raise_supplyGood, ite_self]

theorem ends_cellMeasure : Ends (.cellMeasure l i e) s fun t => SameStores s t ∧ (t.m.lane l).rtc.intMv = i % 65536 ∧
    (t.m.lane l).rtc.extMv = e % 65536 ∧ (t.m.lane l).rtc.cellLow = decide (i < 3300) := by
  have does : Does (.cellMeasure l i e) s (cellMeasureBody l i e) := rfl
  have alive' : (s.m.fresh.lane l).rtc.alive = true := by simpa
  have mark : (cellMeasureBody l i e s.mem s.m.fresh).mark = ([], max s.m.now ((s.m.lane l).rtc.cellAt + 60000000000)) := by
    have measured : (clockTo ((s.m.lane l).rtc.cellAt + 60000000000) s.m.fresh).mark =
      ([], max s.m.now ((s.m.lane l).rtc.cellAt + 60000000000)) := by simp [Module.mark]
    unfold cellMeasureBody
    simp only [alive', Bool.not_true, Bool.false_eq_true, if_false]
    split_ifs <;> simpa using measured
  have face : (cellMeasureBody l i e s.mem s.m.fresh).rtcFace l =
      ((s.m.lane l).rtc.measured i e (max s.m.now ((s.m.lane l).rtc.cellAt + 60000000000)) s.m.supplyGood).face := by
    unfold cellMeasureBody
    simp only [alive', Bool.not_true, Bool.false_eq_true, if_false, apply_ite (Module.rtcFace · l), rtcFace_report,
      rtcFace_raise, ite_self]
    simp [rtcFace_updRtc, Rtc.measured]
  simp only [Module.rtcFace, Rtc.face, Rtc.measured, Rtc.mk.injEq] at face
  refine does.ends ⟨sameStores_commit (congrArg Prod.fst mark), ?_, ?_, ?_⟩ <;>
    simp [commit_m, closed_lane, face]

end

/-! ### Commits (R407) and the operating time (R378) -/

theorem core_counterIncrement (st : Store) (l : LaneId) (base type tally cells : Nat) (m : Module) :
    (counterIncrement st l base type tally cells m).core = m.core := by
  unfold counterIncrement
  dsimp only
  split_ifs <;> simp

theorem now_counterIncrement (st : Store) (l : LaneId) (base type tally cells : Nat) (m : Module) :
    (counterIncrement st l base type tally cells m).now = m.now := (congrArg Module.now (core_counterIncrement ..) :)

theorem cal_setCalendar (l : LaneId) (c : Cal) (m : Module) :
    ((setCalendar l c m).lane l).rtc.cal = { c with wday := weekday c.year c.mon c.day } := by
  simp [setCalendar, updRtc]

section
variable {s : State} {l : LaneId} {v : View} {w : Word} (heard : Heard s l v) (unlocked : (s.m.lane l).rtc.lockout = false)
  (go : bitOf w 0 = true)
include heard unlocked

theorem does_rtcCommit : Does (.rtcCommit l v w) s fun _ m =>
    let r := (m.lane l).rtc
    if !bitOf w 0 then m
    else if r.stagedOk then
      report l 15 0x8201 (dateParam r.stgYear r.stgMon r.stgDay) (timeParam r.stgHour r.stgMin r.stgSec) (viewIdx v)
        (setCalendar l r.staged m)
    else rejectDate l (viewIdx v) m := by
  have does : Does (.rtcCommit l v w) s (rtcCommitBody l v w) := rfl
  exact does_of_rtcWrite heard unlocked does

include go

/-- A staged set that is a time becomes the calendar, with the weekday of its date (R407). -/
theorem rtcCommit_of_sound (sound : (s.m.lane l).rtc.stagedOk = true) :
    Ends (.rtcCommit l v w) s (fun t => SameStores s t ∧ (t.m.lane l).rtc.cal =
      { sec := (s.m.lane l).rtc.stgSec, min := (s.m.lane l).rtc.stgMin, hour := (s.m.lane l).rtc.stgHour,
        day := (s.m.lane l).rtc.stgDay, mon := (s.m.lane l).rtc.stgMon, year := (s.m.lane l).rtc.stgYear,
        wday := weekday (s.m.lane l).rtc.stgYear (s.m.lane l).rtc.stgMon (s.m.lane l).rtc.stgDay }) ∧
    Does (.rtcCommit l v w) s fun _ m =>
      let r := (m.lane l).rtc
      report l 15 0x8201 (dateParam r.stgYear r.stgMon r.stgDay) (timeParam r.stgHour r.stgMin r.stgSec) (viewIdx v)
        (setCalendar l r.staged m) := by
  have does : Does (.rtcCommit l v w) s fun _ m =>
      let r := (m.lane l).rtc
      report l 15 0x8201 (dateParam r.stgYear r.stgMon r.stgDay) (timeParam r.stgHour r.stgMin r.stgSec) (viewIdx v)
        (setCalendar l r.staged m) := (does_rtcCommit heard unlocked).congr (by simp [go, sound])
  refine ⟨does.ends ⟨sameStores_commit ?_, ?_⟩, does⟩
  · have mark (date time : Nat) : (report l 15 0x8201 date time (viewIdx v)
        (setCalendar l (s.m.fresh.lane l).rtc.staged s.m.fresh)).mark = s.m.fresh.mark := by simp
    exact congrArg Prod.fst (mark _ _)
  · simp [commit_m, closed_lane, cal_setCalendar, Rtc.staged]

/-- A staged set that is no time is refused, and the calendar runs on (R407). -/
theorem rtcCommit_of_unsound (unsound : (s.m.lane l).rtc.stagedOk = false) :
    Ends (.rtcCommit l v w) s (fun t => SameStores s t ∧ (t.m.lane l).rtc.errDate = true ∧
      (t.m.lane l).rtc.cal = (s.m.lane l).rtc.cal) ∧
    Does (.rtcCommit l v w) s fun _ m => rejectDate l (viewIdx v) m := by
  have does : Does (.rtcCommit l v w) s fun _ m => rejectDate l (viewIdx v) m :=
    (does_rtcCommit heard unlocked).congr (by simp [go, unsound])
  have face : (rejectDate l (viewIdx v) s.m.fresh).rtcFace l = { (s.m.lane l).rtc.face with errDate := true } := by
    rw [rejectDate, rtcFace_report, rtcFace_raise, rtcFace_updRtc, fresh_lane]
    rfl
  simp only [Module.rtcFace, Rtc.face, Rtc.mk.injEq] at face
  refine ⟨does.ends ⟨sameStores_commit ?_, ?_, ?_⟩, does⟩
  · exact congrArg Prod.fst (mark_rejectDate l s.m.fresh (viewIdx v))
  · simp [commit_m, closed_lane, face]
  · simp [commit_m, closed_lane, face]

end

section
variable {s : State} {l : LaneId} (supplied : s.m.supplyGood = true) (held : (s.m.lane l).sys.holdupOk = true)
  (sound : (s.m.lane l).sys.failed = false) (unsaved : (s.m.lane l).sys.phase ≠ .saving)
  (runs : (s.m.lane l).sys.phase ≠ .stopped)
include supplied held sound unsaved runs

theorem does_operatingTimeTick : Does (.operatingTimeTick l) s fun st m =>
    let m := clockTo (m.gridFrom m.goodAt 1000000000 (max m.goodAt (m.lane l).rtc.opAt)) m
    counterIncrement st l optmBase optmType optmTally optmCells (m.updLane l fun L => { L with
      sys := { L.sys with opsec := sat max32 (L.sys.opsec + 1) }, rtc := { L.rtc with opAt := m.now } }) := by
  have does : Does (.operatingTimeTick l) s (operatingTimeTickBody l) := rfl
  exact does.congr (if_neg (by simp [supplied, held, sound, unsaved, runs]))

theorem ends_operatingTimeTick : Ends (.operatingTimeTick l) s fun t => t.pending = s.pending ∧
    (t.m.lane l).sys.opsec = sat max32 ((s.m.lane l).sys.opsec + 1) ∧ (t.m.lane l).rtc.opAt = t.m.now := by
  refine (does_operatingTimeTick supplied held sound unsaved runs).ends ⟨rfl, ?_, ?_⟩ <;>
    simp only [commit_m, closed_lane, closed_now]
  · exact (congrArg (fun L : Lane => L.sys.opsec) (lane_of_core (core_counterIncrement ..) l)).trans (by simp [Lane.core, Lane.blank])
  · rw [now_counterIncrement]
    exact (congrArg (fun L : Lane => L.rtc.opAt) (lane_of_core (core_counterIncrement ..) l)).trans (by simp [Lane.core, Lane.blank])

end

/-! ### The alarm (R414) -/

section
variable {s : State} {l : LaneId} {v : View} {w : Word} (heard : Heard s l v) (unlocked : (s.m.lane l).rtc.lockout = false)
include heard unlocked

theorem does_rtcAlarmWrite_refused {off : Nat} (there : off = 0x40 ∨ off = 0x44) (bad : alarmOk (off == 0x44) w = false) :
    Does (.rtcAlarmWrite l v off w) s fun _ m => updRtc l (fun r => { r with errAlarm := true }) m := by
  have does : Does (.rtcAlarmWrite l v off w) s (rtcAlarmWriteBody l v off w) := rfl
  refine (does_of_rtcWrite heard unlocked does).congr ?_
  rcases there with rfl | rfl <;> simp_all

theorem does_rtcAlarmWrite_time (ok : alarmOk false w = true) :
    Does (.rtcAlarmWrite l v 0x40 w) s fun _ m => updRtc l (fun r => { r with almTime := w &&& 0x001F3F3F }) m := by
  have does : Does (.rtcAlarmWrite l v 0x40 w) s (rtcAlarmWriteBody l v 0x40 w) := rfl
  exact (does_of_rtcWrite heard unlocked does).congr (by simp [ok])

theorem does_rtcAlarmWrite_date (ok : alarmOk true w = true) :
    Does (.rtcAlarmWrite l v 0x44 w) s fun _ m => updRtc l (fun r => { r with almDate := w &&& 0x0FFF0F1F }) m := by
  have does : Does (.rtcAlarmWrite l v 0x44 w) s (rtcAlarmWriteBody l v 0x44 w) := rfl
  exact (does_of_rtcWrite heard unlocked does).congr (by simp [ok])

end

/-- A change of a time keeper changes nothing else. -/
theorem ends_of_updRtc {i : Instr} {s : State} {l : LaneId} {f : Rtc → Rtc} (does : Does i s fun _ m => updRtc l f m) :
    Ends i s fun t => OnlyLane l s t ∧ (t.m.lane l).rtc = f (s.m.lane l).rtc :=
  does.ends ⟨by simp [OnlyLane, updRtc], by simp [updRtc]⟩

/-- Settles O7: each command of the time keeper, by what its operations leave of the time keeper. -/
theorem timeKeeperActs : Obligations.TimeKeeperActs := by
  unfold Obligations.TimeKeeperActs
  intro s l v
  refine ⟨fun alive => ⟨ends_rtcSecondTick alive, does_rtcSecondTick alive⟩, fun alive => ?_,
    fun i e alive => ⟨ends_cellMeasure i e alive, does_cellMeasure i e alive⟩, fun backed => ?_, fun a b asked => ?_,
    fun w heard unlocked go unsound => rtcCommit_of_unsound heard unlocked go unsound,
    fun w heard unlocked go sound => rtcCommit_of_sound heard unlocked go sound,
    fun w heard unlocked ok => ?_, fun w heard unlocked ok => ?_, fun w heard unlocked bad => ?_,
    fun w heard unlocked bad => ?_, fun supplied held sound unsaved runs => ?_, fun w heard idle => ?_,
    fun addr w heard locked => ?_⟩
  · have does : Does (.oscillatorStop l) s (oscillatorStopBody l) := rfl
    exact does.congr (if_pos (by simpa))
  · have does : Does (.backupSourceLow l) s (backupSourceLowBody l) := rfl
    have stops := does.congr (g := fun _ m => updRtc l (fun r => { r with
      stopped := true, pwrOnAt := none, shadow := [none, none] }) m) (if_pos (by simpa))
    exact ⟨ends_of_updRtc stops, stops⟩
  · have does : Does (.pwrOnReqTimeout l) s (pwrOnReqTimeoutBody l) := rfl
    exact does.congr (by simp [pwrOnReqTimeoutBody, asked])
  · exact ⟨ends_of_updRtc (does_rtcAlarmWrite_time heard unlocked ok), does_rtcAlarmWrite_time heard unlocked ok⟩
  · exact ⟨ends_of_updRtc (does_rtcAlarmWrite_date heard unlocked ok), does_rtcAlarmWrite_date heard unlocked ok⟩
  · have refused := does_rtcAlarmWrite_refused heard unlocked (.inl rfl) bad
    exact ⟨ends_of_updRtc refused, refused⟩
  · have refused := does_rtcAlarmWrite_refused heard unlocked (.inr rfl) bad
    exact ⟨ends_of_updRtc refused, refused⟩
  · exact ⟨ends_operatingTimeTick supplied held sound unsaved runs, does_operatingTimeTick supplied held sound unsaved runs⟩
  · have does : Does (.rtcCommit l v w) s (rtcCommitBody l v w) := rfl
    refine (does_of_guardWrite heard does).congr ?_
    rcases idle with locked | idle <;> simp_all
  · have does : Does (.rtcAlarmWrite l v addr w) s (rtcAlarmWriteBody l v addr w) := rfl
    exact (does_of_guardWrite heard does).congr (if_pos (by simpa))

end Sys2Proof.Machine
end

section
/-! The supply (R302, R303, R411, R412, R415, R439): what its coming, its failure and its decay leave of the lanes. -/

namespace Sys2Proof.Machine

/-! ### Repetition over the lanes -/

theorem laneList_eq_or (m : Module) : m.laneList = [.A] ∨ m.laneList = [.A, .B] := by
  unfold Module.laneList
  split_ifs
  · exact .inr rfl
  · exact .inl rfl

/-- What a repetition over the fitted lanes makes of a lane, where each step changes its own lane alone. -/
theorem lane_forEach_laneList {f : LaneId → Module → Module} {G : LaneId → Lane → Lane} {m : Module} {xs : List LaneId}
    (lanes : xs = [.A] ∨ xs = [.A, .B]) (own : ∀ k n, n.now = m.now → (f k n).lane k = G k (n.lane k))
    (other : ∀ k n, (f k n).lane k.other = n.lane k.other) (now : ∀ k n, (f k n).now = n.now) {l : LaneId}
    (fitted : l ∈ xs) : (forEach xs f m).lane l = G l (m.lane l) := by
  rcases lanes with rfl | rfl
  · obtain rfl := List.mem_singleton.1 fitted
    exact own .A m rfl
  · rw [forEach_cons, forEach_cons, forEach_nil]
    cases l with
    | A => exact (other .B _).trans (own .A m rfl)
    | B => rw [own .B _ (now ..)]; exact congrArg _ (other .A m)

/-- What a step over lanes brings about in its own lane stands after the repetition, whatever it does to the others. -/
theorem lane_forEach_brings {Q : Lane → Prop} {xs : List LaneId} {f : LaneId → Module → Module} {l : LaneId} (here : l ∈ xs)
    (brings : ∀ n, Q ((f l n).lane l)) (other : ∀ k n, (f k n).lane k.other = n.lane k.other) (m : Module) :
    Q ((forEach xs f m).lane l) := by
  refine forEach_reaches (P := fun _ => True) (Q := fun n => Q (n.lane l)) here (fun _ _ _ => trivial)
    (fun n _ => brings n) (fun k n _ q => ?_) m trivial
  by_cases same : k = l
  · subst same
    exact brings n
  · have differs : l = k.other := by cases k <;> cases l <;> simp_all [LaneId.other]
    rw [differs, other, ← differs]
    exact q

/-! ### The supply comes (R303, R411) -/

/-- A lane whose always-on domain is back on the supply: as it stood, or afresh where it had lost every source (R379, R403,
R408). -/
def Lane.supplied (L : Lane) (mem : Mem) (now : Nat) : Lane :=
  let v (base type tally cells : Nat) : Nat := counterValue L.nvm mem base type tally cells
  let cause := if L.rtc.stopped && !L.rtc.lostAll then 2 else 0
  let K := if L.rtc.alive then L else { L with
    rtc := { lostAll := false, osf := true, osfCause := cause, secAt := now, cellAt := now, irq := 2
             kept := [(0x8203, cause, 0)] }
    evr := { L.evr with aoStore := [] }
    sys := { L.sys with opsec := v optmBase optmType optmTally optmCells, pcc := v pcycBase pcycType pcycTally pcycCells } }
  { K with rtc := { K.rtc with onBackup := false, charging := K.rtc.charges, extSelected := false } }

theorem aoSupply_eq (st : Store) (l : LaneId) (m : Module) :
    aoSupply st l m = m.updLane l fun L => L.supplied (st.mram l) m.now := by
  by_cases alive : (m.lane l).rtc.alive = true
  · simp only [aoSupply, if_pos alive, updRtc]
    exact updLane_eq_of_lane (by simp only [Lane.supplied, if_pos alive])
  · simp only [aoSupply, if_neg alive, updRtc, updLane_updLane]
    exact updLane_eq_of_lane (by simp only [Lane.supplied, if_neg alive])

section
variable (L : Lane) (mem : Mem) (now : Nat)

theorem alive_supplied : (L.supplied mem now).rtc.alive = true := by
  by_cases alive : L.rtc.alive = true
  · simp only [Lane.supplied, if_pos alive]
    exact alive
  · simp only [Lane.supplied, if_neg alive]
    rfl

theorem rtc_supplied : (L.supplied mem now).rtc.onBackup = false ∧
    (L.supplied mem now).rtc.charging = (L.supplied mem now).rtc.charges := ⟨rfl, rfl⟩

theorem sys_supplied : (L.supplied mem now).sys.phase = L.sys.phase ∧ (L.supplied mem now).sys.failed = L.sys.failed := by
  unfold Lane.supplied
  dsimp only
  split_ifs <;> exact ⟨rfl, rfl⟩

end

/-- A lane that measures a supply voltage, with its TRNG trusted again. -/
def Lane.fed (vin : Nat) (L : Lane) : Lane :=
  { L with pwr := { L.pwr with vIn := vin % 65536 }, key := { L.key with trngFailed := false } }

/-- The module with every always-on domain on the supply, which has been good since now (R303 steps 1 and 2). -/
def Module.onSupply (m : Module) (st : Store) (vin : Nat) : Module :=
  let m : Module := { m with supplyGood := true, goodAt := m.now }
  forEach m.laneList (fun l m => m.updLane l fun L => { L with
    pwr := { L.pwr with vIn := vin % 65536 }, key := { L.key with trngFailed := false } })
    (forEach m.laneList (fun l => aoSupply st l) m)

section
variable (st : Store) (vin : Nat) (m : Module)

theorem lane_onSupply {l : LaneId} (fitted : l ∈ m.laneList) : (m.onSupply st vin).lane l =
    ((m.lane l).supplied (st.mram l) m.now).fed vin := by
  have supplied (n : Module) (xs : List LaneId) (lanes : xs = [.A] ∨ xs = [.A, .B]) (fitted : l ∈ xs) :
      (forEach xs (fun l => aoSupply st l) n).lane l = (n.lane l).supplied (st.mram l) n.now :=
    lane_forEach_laneList (G := fun l L => L.supplied (st.mram l) n.now) lanes
      (fun k n now => by rw [aoSupply_eq, lane_updLane, now]) (fun k n => by rw [aoSupply_eq, lane_updLane_other])
      (fun k n => by rw [aoSupply_eq, updLane_now]) fitted
  unfold Module.onSupply
  refine (lane_forEach_laneList (G := fun _ => Lane.fed vin) (laneList_eq_or _) (fun k n _ => lane_updLane ..)
    (fun k n => lane_updLane_other ..) (fun k n => updLane_now ..) fitted).trans (congrArg (Lane.fed vin) ?_)
  refine (supplied _ _ (laneList_eq_or _) fitted).trans ?_
  cases l <;> rfl

/-- The supply's coming leaves the variant, and is noted with its instant. -/
theorem parts_onSupply : (m.onSupply st vin).variant = m.variant ∧ (m.onSupply st vin).supplyGood = true ∧
    (m.onSupply st vin).goodAt = m.now ∧ (m.onSupply st vin).now = m.now := by
  have kept {β : Type} (g : Module → β) (keeps : ∀ (n : Module) l f, g (n.updLane l f) = g n) :
      g (m.onSupply st vin) = g { m with supplyGood := true, goodAt := m.now } := by
    unfold Module.onSupply
    exact (forEach_part g _ _ (fun k n => keeps ..) _).trans (forEach_part g _ _ (fun k n => by rw [aoSupply_eq, keeps]) _)
  exact ⟨kept Module.variant fun n l f => by simp, kept Module.supplyGood fun n l f => by simp,
    kept Module.goodAt fun n l f => by simp, kept Module.now fun n l f => by simp⟩

end

/-- A lane that waits for the hold-up voltage to start (R303, R317). -/
def Lane.begun (L : Lane) : Lane := { L with
  sys := { L.sys with
    startCause := if L.sys.phase == .off then 0 else 1, phase := if L.sys.failed then L.sys.phase else .starting
    holdupOk := false }
  evr := { L.evr with intake := [], held := [], known := false } }

theorem lane_beginStart {m : Module} {l : LaneId} (fitted : l ∈ m.laneList) : (beginStart m).lane l = (m.lane l).begun :=
  lane_forEach_laneList (G := fun _ => Lane.begun) (laneList_eq_or m) (fun _ _ _ => lane_updLane ..)
    (fun _ _ => lane_updLane_other ..) (fun _ _ => updLane_now ..) fitted

theorem parts_beginStart (m : Module) : (beginStart m).supplyGood = m.supplyGood ∧ (beginStart m).goodAt = m.goodAt :=
  ⟨forEach_part Module.supplyGood _ _ (fun _ _ => updLane_supplyGood ..) m,
    forEach_part Module.goodAt _ _ (fun _ _ => updLane_goodAt ..) m⟩

section
variable {s : State} {vin : Nat} (dark : s.m.supplyGood = false) (enough : 8000 ≤ vin)
include dark enough

theorem does_supplyGood : Does (.supplyGood vin) s fun st m =>
    if (m.onSupply st vin).laneList.any (fun l => ((m.onSupply st vin).lane l).sys.phase == .saving) then m.onSupply st vin
    else beginStart (m.onSupply st vin) := by
  have does : Does (.supplyGood vin) s (supplyGoodBody vin) := rfl
  exact does.congr (if_neg (by simp [dark, enough]))

theorem ends_supplyGood : Ends (.supplyGood vin) s fun t => t.m.supplyGood = true ∧ t.m.goodAt = s.m.now ∧
    (∀ l, l ∈ s.m.laneList → (t.m.lane l).pwr.vIn = vin % 65536 ∧ (t.m.lane l).rtc.alive = true ∧
      (t.m.lane l).rtc.onBackup = false ∧ (t.m.lane l).rtc.charging = (t.m.lane l).rtc.charges) ∧
    ((∀ l, l ∈ s.m.laneList → (s.m.lane l).sys.phase ≠ .saving) →
      ∀ l, l ∈ s.m.laneList → (s.m.lane l).sys.failed = false →
        (t.m.lane l).sys.phase = .starting ∧ (t.m.lane l).sys.holdupOk = false ∧
        (t.m.lane l).sys.startCause = (if (s.m.lane l).sys.phase = .off then 0 else 1)) ∧
    ((∃ l, l ∈ s.m.laneList ∧ (s.m.lane l).sys.phase = .saving) →
      ∀ l, l ∈ s.m.laneList → (t.m.lane l).sys.phase = (s.m.lane l).sys.phase) := by
  have fresh (l : LaneId) (fitted : l ∈ s.m.laneList) : (s.m.fresh.onSupply s.mem vin).lane l =
      ((s.m.lane l).supplied (s.mem.mram l) s.m.now).fed vin := by
    rw [lane_onSupply _ _ _ (by simpa), fresh_lane, fresh_now]
  obtain ⟨variant, good, at_, -⟩ := parts_onSupply s.mem vin s.m.fresh
  have list : (s.m.fresh.onSupply s.mem vin).laneList = s.m.laneList := by
    rw [Module.laneList, variant, fresh_variant, Module.laneList]
  have shut : (s.m.fresh.onSupply s.mem vin).laneList.any
      (fun l => ((s.m.fresh.onSupply s.mem vin).lane l).sys.phase == .saving) = true ↔
      ∃ l, l ∈ s.m.laneList ∧ (s.m.lane l).sys.phase = .saving := by
    rw [list, List.any_eq_true]
    refine exists_congr fun l => and_congr_right fun fitted => ?_
    rw [fresh l fitted]
    simp [Lane.fed, sys_supplied]
  by_cases saving : ∃ l, l ∈ s.m.laneList ∧ (s.m.lane l).sys.phase = .saving
  · have does := (does_supplyGood dark enough).congr (g := fun st m => m.onSupply st vin) (if_pos (shut.2 saving))
    refine does.ends ⟨good, at_, fun l fitted => ?_, fun none => ?_, fun _ l fitted => ?_⟩
    · rw [commit_m, closed_lane, fresh l fitted]
      exact ⟨rfl, alive_supplied .., rtc_supplied ..⟩
    · obtain ⟨l, fitted, saves⟩ := saving
      exact absurd saves (none l fitted)
    · rw [commit_m, closed_lane, fresh l fitted]
      exact (sys_supplied ..).1
  · have does := (does_supplyGood dark enough).congr (g := fun st m => beginStart (m.onSupply st vin))
      (if_neg fun any => saving (shut.1 any))
    have begun (l : LaneId) (fitted : l ∈ s.m.laneList) : (beginStart (s.m.fresh.onSupply s.mem vin)).lane l =
        (((s.m.lane l).supplied (s.mem.mram l) s.m.now).fed vin).begun := by
      rw [lane_beginStart (by rwa [list]), fresh l fitted]
    refine does.ends ⟨(parts_beginStart _).1.trans good, (parts_beginStart _).2.trans at_, fun l fitted => ?_,
      fun _ l fitted sound => ?_, fun saves => absurd saves saving⟩
    · rw [commit_m, closed_lane, begun l fitted]
      exact ⟨rfl, alive_supplied .., rtc_supplied ..⟩
    · rw [commit_m, closed_lane, begun l fitted]
      obtain ⟨phase, failed⟩ := sys_supplied (s.m.lane l) (s.mem.mram l) s.m.now
      simp [Lane.begun, Lane.fed, phase, failed, sound]

end

/-! ### The hold-up voltage (R302, R412, R415) -/

/-- The release of a request changes of a time keeper only the request and the kept events. -/
theorem releasePower_eq (l : LaneId) (m : Module) : ∃ at_ kept,
    releasePower l m = updRtc l (fun r => { r with pwrOnAt := at_, kept := kept }) m := by
  unfold releasePower
  cases asked : (m.lane l).rtc.pwrOnAt with
  | none =>
    refine ⟨none, (m.lane l).rtc.kept, ?_⟩
    have still : m = updRtc l (fun r => r) m := by cases l <;> rfl
    exact still.trans (updLane_eq_of_lane (by simp [← asked]))
  | some x => exact ⟨_, _, updLane_eq_of_lane rfl⟩

/-- A lane whose supply-fail path is armed, its time keeper open again. -/
def Lane.Armed (vh : Nat) (L : Lane) : Prop :=
  L.sys.holdupOk = true ∧ L.pwr.vHold = vh % 65536 ∧ L.rtc.lockout = false

theorem lane_armHoldup {vh : Nat} {m : Module} {l : LaneId} (fit : l ∈ m.fitLanes) : ((armHoldup vh m).lane l).Armed vh := by
  refine lane_forEach_brings fit (fun n => ?_) (fun k n => ?_) m
  · obtain ⟨at_, kept, released⟩ := releasePower_eq l (n.updLane l fun L => { L with
      sys := { L.sys with holdupOk := true }, pwr := { L.pwr with vHold := vh % 65536 }
      rtc := { L.rtc with lockout := false } })
    rw [released, updRtc, lane_updLane, lane_updLane]
    exact ⟨rfl, rfl, rfl⟩
  · obtain ⟨at_, kept, released⟩ := releasePower_eq k (n.updLane k fun L => { L with
      sys := { L.sys with holdupOk := true }, pwr := { L.pwr with vHold := vh % 65536 }
      rtc := { L.rtc with lockout := false } })
    rw [released, updRtc, lane_updLane_other, lane_updLane_other]

section
variable {s : State} {vh : Nat} (good : s.m.supplyGood = true) (enough : 7500 ≤ vh)
include good enough

theorem does_holdupOkSet : Does (.holdupOkSet vh) s fun st m =>
    if m.freshLanes.isEmpty then armHoldup vh m else startFresh st m.freshLanes (armHoldup vh m) := by
  have does : Does (.holdupOkSet vh) s (holdupOkSetBody vh) := rfl
  exact does.congr (if_neg (by simp [good, enough]))

theorem ends_holdupOkSet (none : ∀ l, (s.m.lane l).sys.phase ≠ .starting) : Ends (.holdupOkSet vh) s fun t =>
    ∀ l, l ∈ s.m.laneList → (s.m.lane l).sys.failed = false → (t.m.lane l).Armed vh := by
  have fresh : s.m.fresh.freshLanes = [] := by simp [Module.freshLanes, none]
  have does := (does_holdupOkSet good enough).congr (g := fun _ m => armHoldup vh m) (if_pos (by rw [fresh]; rfl))
  refine does.ends fun l fitted sound => ?_
  rw [commit_m, closed_lane]
  exact lane_armHoldup (List.mem_filter.2 ⟨fitted, by simp [sound]⟩)

end

theorem does_vHoldLockout {s : State} {vh : Nat} (low : vh < 4500) : Does (.vHoldLockout vh) s fun _ m =>
    forEach m.laneList (fun l m => m.updLane l fun L => { L with
      rtc := { L.rtc with lockout := true, shadow := [none, none] }, sys := { L.sys with holdupOk := false },
      pwr := { L.pwr with vHold := vh } }) m := by
  have does : Does (.vHoldLockout vh) s (vHoldLockoutBody vh) := rfl
  exact does.congr (if_neg (by omega))

theorem ends_vHoldLockout {s : State} {vh : Nat} (low : vh < 4500) : Ends (.vHoldLockout vh) s fun t => SameStores s t ∧
    ∀ l, l ∈ s.m.laneList → (t.m.lane l).rtc.lockout = true ∧ (t.m.lane l).sys.holdupOk = false ∧
      (t.m.lane l).pwr.vHold = vh := by
  refine (does_vHoldLockout low).ends ⟨sameStores_commit ?_, fun l fitted => ?_⟩
  · exact (forEach_part Module.nvmOut _ _ (fun _ _ => updLane_nvmOut ..) _).trans (fresh_nvmOut _)
  · rw [commit_m, closed_lane]
    refine lane_forEach_brings (Q := fun L => L.rtc.lockout = true ∧ L.sys.holdupOk = false ∧ L.pwr.vHold = vh)
      (xs := s.m.fresh.laneList) fitted (fun n => ?_) (fun _ _ => lane_updLane_other ..) s.m.fresh
    rw [lane_updLane]
    exact ⟨rfl, rfl, rfl⟩

/-! ### What a failing supply leaves (R302, R316, R439) -/

/-- What no part of a shutdown changes by itself: the supply, the variant, and which lanes have failed. -/
def Module.station (m : Module) : Bool × Variant × (LaneId → Bool) :=
  (m.supplyGood, m.variant, fun l => (m.lane l).sys.failed)

section
variable {m n : Module}

theorem station_of_hull (h : m.hull = n.hull) : m.station = n.station := by
  have supply : m.supplyGood = n.supplyGood := (congrArg Module.supplyGood h :)
  have variant : m.variant = n.variant := (congrArg Module.variant h :)
  have failed (l : LaneId) : (m.lane l).sys.failed = (n.lane l).sys.failed :=
    (congrArg (fun L : Lane => L.sys.failed) (lane_of_hull h l) :)
  simp only [Module.station, supply, variant, failed]

theorem station_of_blank (h : m.blank = n.blank) : m.station = n.station := station_of_hull (hull_of_blank h)

end

section
variable (l : LaneId) (m : Module)

@[simp] theorem station_updLane (f : Lane → Lane) (keeps : ∀ L, (f L).sys.failed = L.sys.failed) :
    (m.updLane l f).station = m.station := by
  cases l <;> simp only [Module.station, Module.updLane, Prod.mk.injEq, true_and] <;> ext k <;> cases k <;>
    simp [Module.lane, keeps]

@[simp] theorem station_updFd (d : Nat) (f : FieldDie → FieldDie) : (m.updFd d f).station = m.station := rfl

@[simp] theorem station_updSd (d : Nat) (f : SolverDie → SolverDie) : (m.updSd d f).station = m.station := rfl

@[simp] theorem station_programRaw (t a : Nat) (bs : Bytes) : (programRaw t a bs m).station = m.station := rfl

@[simp] theorem station_drawn : m.drawn.station = m.station := rfl

@[simp] theorem station_loseJobs (sd : Nat) : (loseJobs sd m).station = m.station := rfl

@[simp] theorem station_updDom (die i : Nat) (f : Dom → Dom) : (updDom die i f m).station = m.station :=
  station_of_blank (blank_updDom ..)

@[simp] theorem station_domsOff (die : Nat) : (domsOff die m).station = m.station := station_of_blank (blank_domsOff ..)

@[simp] theorem station_slvWatch : (slvWatch m).station = m.station := station_of_blank (blank_slvWatch ..)

theorem hull_refreshAll : (refreshAll m).hull = m.hull :=
  forEach_part Module.hull _ _ (fun _ n => forEach_part Module.hull _ _ (fun _ _ => hull_refreshCh ..) n) m

@[simp] theorem station_refreshAll : (refreshAll m).station = m.station := station_of_hull (hull_refreshAll m)

@[simp] theorem station_forEach {α : Type} (xs : List α) (f : α → Module → Module) (keeps : ∀ x n, (f x n).station = n.station) :
    (forEach xs f m).station = m.station := forEach_part Module.station xs f keeps m

@[simp] theorem station_programCells (t : Nat) (cells : List (Nat × BitVec 8)) :
    (forEach cells (fun c => programRaw t c.1 [c.2]) m).station = m.station := station_forEach _ _ _ fun _ _ => rfl

@[simp] theorem station_shed : (shed m).station = m.station := by
  simp [shed]

@[simp] theorem station_brokenGroup (g : Nat) : (brokenGroup l g m).station = m.station := by
  simp [brokenGroup]

@[simp] theorem station_takeBack (f : Transfer) (gs : List Nat) : (takeBack l f gs m).station = m.station := by
  simp [takeBack]

@[simp] theorem station_tornTransfers (done outcome : Nat) : (tornTransfers l done outcome m).station = m.station := by
  simp only [tornTransfers]
  split
  · rfl
  · split <;> simp [apply_ite Module.station]

@[simp] theorem station_tornProgram (p : PageProg) (done outcome : Nat) :
    (tornProgram l p done outcome m).station = m.station := by
  simp only [tornProgram]
  split <;> simp [apply_ite Module.station]

@[simp] theorem station_tornLane (torn : List (Nat × Nat × Nat)) : (tornLane torn l m).station = m.station := by
  simp only [tornLane]
  split <;> simp

@[simp] theorem station_updHst (f : Hst → Hst) : (updHst l f m).station = m.station := by simp [updHst]

@[simp] theorem station_updRing (r : Nat) (f : Ring → Ring) : (updRing l r f m).station = m.station := by simp [updRing]

@[simp] theorem station_instEnd (area : Bytes) : (instEnd l area m).station = m.station := by
  simp only [instEnd]
  split <;> simp [ringDone]

@[simp] theorem station_programAbort : (programAbort l m).station = m.station := by
  simp only [programAbort]
  split <;> simp

@[simp] theorem station_dropWork : (dropWork l m).station = m.station := by
  simp [dropWork, dropRings]

@[simp] theorem station_failLane : (failLane l m).station = m.station := by
  unfold failLane
  dsimp only
  split_ifs <;> simp [updSys]

end

theorem fresh_freshLanes (m : Module) : m.fresh.freshLanes = m.freshLanes := by
  simp only [Module.freshLanes, Module.fitLanes, fresh_lane]
  rfl

/-! ### The supply fails (R302, R316) -/

/-- Each lane at a failure of the supply, and then what it switches off (R182, R260, R302, R316). -/
theorem does_supplyFailure {s : State} {vin : Nat} (torn : List (Nat × Nat × Nat)) (good : s.m.supplyGood = true)
    (low : vin < 5600) : Does (.supplyFailure vin torn) s fun _ m => shed (forEach m.laneList (fun l m =>
      failLane l ((if (m.lane l).sys.phase = .saving then id else tornLane torn l)
        (m.updLane l fun L => { L with pwr := { L.pwr with vIn := vin } })))
      { m with supplyGood := false }) := by
  have does : Does (.supplyFailure vin torn) s (supplyFailureBody vin torn) := rfl
  refine does.congr ((if_neg (by simp [good, low])).trans ?_)
  simp only [beq_iff_eq]
  rfl

theorem ends_supplyFailure {s : State} {vin : Nat} (torn : List (Nat × Nat × Nat)) (good : s.m.supplyGood = true)
    (low : vin < 5600) : Ends (.supplyFailure vin torn) s fun t => t.m.supplyGood = false ∧ t.pending = s.pending := by
  refine (does_supplyFailure torn good low).ends ⟨?_, rfl⟩
  rw [commit_m, closed_supplyGood]
  refine congrArg Prod.fst ((station_shed _).trans (station_forEach _ _ _ fun k n => ?_))
  rw [station_failLane]
  split_ifs <;> simp

/-! ### Every regulator stops (R439) -/

/-- A part of a lane that its time keeper is no part of is the same after a change of it. -/
theorem part_updRtc {β : Type} (g : Lane → β) (keeps : ∀ L r, g { L with rtc := r } = g L) {l k : LaneId} {f : Rtc → Rtc}
    {m : Module} : g ((updRtc l f m).lane k) = g (m.lane k) := by
  cases l <;> cases k <;> simp only [updRtc, Module.updLane, Module.lane, keeps]

/-- The module with every field die and solver die without its rails. -/
def Module.unpowered (m : Module) : Module :=
  forEach m.fdList (fun d m => (domsOff (fdId d) m).updFd d fun fd => { fd with powered := false }) (shed m)

/-- A lane of which only the always-on domain is left. -/
def Lane.stopped (L : Lane) : Lane := { L with
  sys := { L.sys with phase := if L.sys.failed then L.sys.phase else .off, holdupOk := false }
  red := { L.red with holds := false, wireArmed := false, patArmed := false }
  mtr := { L.mtr with save := none }
  hst := { L.hst with linkUp := false }
  ptp := { L.ptp with ports := L.ptp.ports.map fun p => { p with up := false } }
  evr := { L.evr with intake := [], held := [] }
  nvm := { L.nvm with busy := none, waiting := [], flight := [] } }

/-- The module with its lanes so. -/
def Module.lanesStopped (m : Module) : Module :=
  forEach m.laneList (fun k m => (domsOff k.num m).updLane k Lane.stopped) m

theorem regulatorsStop_eq (m : Module) :
    regulatorsStop m = refreshAll { m.unpowered.lanesStopped with mail := [], laneLinks := [false, false] } := rfl

section
variable (m : Module)

@[simp] theorem station_unpowered : m.unpowered.station = m.station := by simp [Module.unpowered]

theorem powered_off (k d : Nat) (there : k = d ∨ (m.fd d).powered = false) :
    ((m.updFd k fun fd => { fd with powered := false }).fd d).powered = false := by
  simp only [Module.fd, Module.updFd, upd, at?, List.getElem?_modify] at there ⊢
  cases die : m.fds[d]? with
  | none => rfl
  | some x => by_cases same : k = d <;> simp_all

theorem powered_of_blank {m n : Module} (h : m.blank = n.blank) (d : Nat) : (m.fd d).powered = (n.fd d).powered :=
  (congrArg FieldDie.powered (fd_of_blank h d) :)

theorem powered_unpowered {d : Nat} (fitted : d < m.variant.nFd) : (m.unpowered.fd d).powered = false := by
  have dies : d ∈ m.fdList := List.mem_range.2 fitted
  exact forEach_reaches (P := fun _ => True) (Q := fun n => (n.fd d).powered = false) dies (fun _ _ _ => trivial)
    (fun n _ => powered_off _ d d (.inl rfl))
    (fun k n _ off => powered_off _ k d (.inr ((powered_of_blank (blank_domsOff ..) d).trans off))) _ trivial

theorem powered_lanesStopped (d : Nat) : (m.lanesStopped.fd d).powered = (m.fd d).powered :=
  forEach_part (fun n => (n.fd d).powered) _ _
    (fun k n => by rw [updLane_fd, powered_of_blank (blank_domsOff ..) d]) m

theorem lane_domsOff_stopped (k : LaneId) : ((domsOff k.num m).updLane k Lane.stopped).lane k.other = m.lane k.other := by
  rw [lane_updLane_other, domsOff_other]

theorem sys_domsOff (die : Nat) (l : LaneId) : ((domsOff die m).lane l).sys.failed = (m.lane l).sys.failed :=
  (congrArg (fun L : Lane => L.sys.failed) (lane_of_blank (blank_domsOff ..) l) :)

/-- A lane that has not failed is off, and none holds a claim (R439). -/
theorem lane_lanesStopped {l : LaneId} (fitted : l ∈ m.laneList) : (m.lanesStopped.lane l).red.holds = false ∧
    ((m.lane l).sys.failed = false → (m.lanesStopped.lane l).sys.phase = .off) := by
  generalize lost : (m.lane l).sys.failed = failed
  have own (n : Module) (kept : (n.lane l).sys.failed = failed) :
      let L := ((domsOff l.num n).updLane l Lane.stopped).lane l
      L.sys.failed = failed ∧ L.red.holds = false ∧ (failed = false → L.sys.phase = .off) := by
    have failed' := (sys_domsOff n l.num l).trans kept
    rw [lane_updLane]
    exact ⟨failed', rfl, fun sound => if_neg (by rw [failed', sound]; exact Bool.false_ne_true)⟩
  refine forEach_reaches (P := fun n => (n.lane l).sys.failed = failed)
    (Q := fun n => (n.lane l).red.holds = false ∧ (failed = false → (n.lane l).sys.phase = .off)) fitted
    (fun k n kept => ?_) (fun n kept => (own n kept).2) (fun k n kept q => ?_) m lost
  · by_cases same : k = l
    · subst same
      exact (own n kept).1
    · have differs : l = k.other := by cases k <;> cases l <;> simp_all [LaneId.other]
      rwa [differs, lane_domsOff_stopped, ← differs]
  · by_cases same : k = l
    · subst same
      exact (own n kept).2
    · have differs : l = k.other := by cases k <;> cases l <;> simp_all [LaneId.other]
      rwa [differs, lane_domsOff_stopped, ← differs]

/-- What is left once every regulator has stopped (R439). -/
theorem parts_regulatorsStop : (regulatorsStop m).mail = [] ∧ (regulatorsStop m).laneLinks = [false, false] ∧
    (∀ l, l ∈ m.laneList → ((regulatorsStop m).lane l).red.holds = false ∧
      ((m.lane l).sys.failed = false → ((regulatorsStop m).lane l).sys.phase = .off)) ∧
    ∀ d, d < m.variant.nFd → ((regulatorsStop m).fd d).powered = false := by
  have station := station_unpowered m
  simp only [Module.station, Prod.mk.injEq] at station
  obtain ⟨-, variant, failed⟩ := station
  rw [regulatorsStop_eq]
  generalize cut : { m.unpowered.lanesStopped with mail := [], laneLinks := [false, false] } = n
  have hull := hull_refreshAll n
  refine ⟨(mail_of_hull hull).trans (cut ▸ rfl), ((congrArg Module.laneLinks hull :)).trans (cut ▸ rfl), fun l fitted => ?_,
    fun d fitted => ?_⟩
  · have lane : n.lane l = m.unpowered.lanesStopped.lane l := by rw [← cut]; cases l <;> rfl
    have holds : ((refreshAll n).lane l).red.holds = (n.lane l).red.holds :=
      (congrArg (fun L : Lane => L.red.holds) (lane_of_hull hull l) :)
    have phase : ((refreshAll n).lane l).sys.phase = (n.lane l).sys.phase :=
      (congrArg (fun L : Lane => L.sys.phase) (lane_of_hull hull l) :)
    have stopped := lane_lanesStopped m.unpowered (l := l) (by rwa [Module.laneList, variant])
    rw [holds, phase, lane, ← congrFun failed l]
    exact stopped
  · have powered : ((refreshAll n).fd d).powered = (n.fd d).powered :=
      (congrArg FieldDie.powered (fd_of_hull hull d) :)
    have die : n.fd d = m.unpowered.lanesStopped.fd d := by rw [← cut]; rfl
    rw [powered, die, powered_lanesStopped, powered_unpowered m fitted]

end

section
variable {s : State} {l : LaneId} (ext : Nat) (dark : s.m.supplyGood = false) (alive : (s.m.lane l).rtc.alive = true)
  (fed : (s.m.lane l).rtc.onBackup = false)
include dark alive fed

theorem does_switchToBackup : Does (.switchToBackup l ext) s fun _ m => updRtc l (fun r => { r with
    onBackup := true, charging := false, extSelected := r.extern ext, extMv := ext % 65536, lockout := true,
    shadow := [none, none] }) (regulatorsStop m) := by
  have does : Does (.switchToBackup l ext) s (switchToBackupBody l ext) := rfl
  exact does.congr (if_neg (by simp [dark, alive, fed]))

theorem ends_switchToBackup : Ends (.switchToBackup l ext) s fun t =>
    (t.m.lane l).rtc.onBackup = true ∧ (t.m.lane l).rtc.lockout = true ∧ t.m.mail = [] ∧ t.m.laneLinks = [false, false] ∧
    (∀ k, k ∈ s.m.laneList → (t.m.lane k).red.holds = false ∧
      ((s.m.lane k).sys.failed = false → (t.m.lane k).sys.phase = .off)) ∧
    ∀ d, d < s.m.variant.nFd → (t.m.fd d).powered = false := by
  obtain ⟨mail, links, lanes, dies⟩ := parts_regulatorsStop s.m.fresh
  refine (does_switchToBackup ext dark alive fed).ends ⟨?_, ?_, ?_, ?_, fun k fitted => ?_, fun d fitted => ?_⟩
  · simp [updRtc]
  · simp [updRtc]
  · simpa [updRtc] using mail
  · simpa [updRtc] using links
  · obtain ⟨holds, phase⟩ := lanes k fitted
    rw [fresh_lane] at phase
    rw [commit_m, closed_lane, part_updRtc (fun L => L.red.holds) (fun _ _ => rfl),
      part_updRtc (fun L => L.sys.phase) (fun _ _ => rfl)]
    exact ⟨holds, phase⟩
  · simpa [updRtc] using dies d fitted

end

/-- Settles O6: each event of the supply, from what it does to every lane and what the rest of the module keeps. -/
theorem supplyEventsAct : Obligations.SupplyEventsAct := by
  unfold Obligations.SupplyEventsAct
  intro s
  refine ⟨fun vin dark enough => ⟨ends_supplyGood dark enough, does_supplyGood dark enough⟩,
    fun vh good enough none => ?_, fun vh good enough some_ => ?_,
    fun vh good enough none => ends_holdupOkSet good enough none,
    fun vin torn good low => ⟨ends_supplyFailure torn good low, does_supplyFailure torn good low⟩,
    fun vh low => ⟨ends_vHoldLockout low, does_vHoldLockout low⟩,
    fun l ext dark alive fed => ⟨ends_switchToBackup ext dark alive fed, does_switchToBackup ext dark alive fed⟩⟩
  · exact (does_holdupOkSet good enough).congr (if_pos (by rw [fresh_freshLanes, none]; rfl))
  · exact (does_holdupOkSet good enough).congr (if_neg (by rwa [fresh_freshLanes, List.isEmpty_iff]))

end Sys2Proof.Machine
end

section
/-! Mode requests and test injections (R311, R315, R316). -/

namespace Sys2Proof.Machine

/-! ### What a change of mode leaves of a lane's system block -/

/-- A system block but for its interrupt word. -/
def Sys.plain (x : Sys) : Sys := { x with irq := 0 }

/-- What a module has programmed, and a lane's system block but for its interrupt word. -/
def Module.order (m : Module) (l : LaneId) : List (Nat × Nat × Bytes) × Sys := (m.nvmOut, (m.lane l).sys.plain)

theorem order_of_blank {m n : Module} (h : m.blank = n.blank) (l : LaneId) : m.order l = n.order l := by
  have sys : (m.lane l).sys.plain = (n.lane l).sys.plain := (congrArg Lane.sys (lane_of_blank h l) :)
  rw [Module.order, nvmOut_of_blank h, sys, Module.order]

section
variable (l : LaneId) (m : Module)

@[simp] theorem order_report (b c x y z : Nat) : (report l b c x y z m).order l = m.order l :=
  order_of_blank (blank_report ..) l

@[simp] theorem order_raise (b bits : Nat) : (raise l b bits m).order l = m.order l := order_of_blank (blank_raise ..) l

theorem order_updLane (f : Lane → Lane) (keeps : ∀ L, (f L).sys = L.sys) : (m.updLane l f).order l = m.order l := by
  simp [Module.order, keeps]

theorem order_updSys (f : Sys → Sys) (irq : ∀ x, (f x).plain = f x.plain) :
    (updSys l f m).order l = (m.nvmOut, f (m.order l).2) := by
  rw [Module.order, updSys, lane_updLane, updLane_nvmOut]
  exact congrArg (Prod.mk _) (irq _)

@[simp] theorem order_updPrg (f : Prg → Prg) : (updPrg l f m).order l = m.order l := order_updLane l m _ fun _ => rfl

@[simp] theorem order_clockTo (t : Nat) : (clockTo t m).order l = m.order l := by simp [Module.order]

theorem order_finishExchange : (finishExchange l m).order l = m.order l := by
  unfold finishExchange
  dsimp only
  split
  · rfl
  · simp

theorem order_programBegin (fresh : Bool) : (programBegin l fresh m).order l = m.order l := by
  have domains (n : Module) : (blkDoms l .on n).order l = n.order l :=
    order_of_blank (blank_forEach _ _ _ fun _ _ => blank_domRequest ..) l
  unfold programBegin
  dsimp only
  rw [domains]
  refine (order_updLane _ _ _ ?_).trans (order_finishExchange ..)
  exact fun _ => rfl

theorem order_programStart (fresh : Bool) : (programStart l fresh m).order l = m.order l := by
  unfold programStart
  split_ifs
  · exact order_updPrg ..
  · exact order_programBegin ..

variable {l m}

/-- The transition from LOADED to COMMISSION: its mode, its cause and the mode before it (R311, R312). -/
theorem order_enterCommission (free : m.frozen l = false) (loaded : (m.lane l).sys.mode = .loaded)
    (idle : (m.lane l).cfg.state ≠ .armed) : (enterMode l .commission 1 m).order l =
      (m.nvmOut, { (m.order l).2 with mode := .commission, cause := 1, prev := Mode.loaded.code }) := by
  have set : (setMode l .commission 1 m).order l =
      (m.nvmOut, { (m.order l).2 with mode := .commission, cause := 1, prev := Mode.loaded.code }) := by
    have state (n : Module) (same : (n.lane l).cfg = (m.lane l).cfg) : cancelArm l 0xFF n = n := by
      simp [cancelArm, same, idle]
    simp only [setMode, free, loaded, Bool.false_eq_true, if_false]
    rw [if_neg (by decide), if_neg (by decide), state _ (by simp [updSys]), order_report, order_raise]
    exact order_updSys _ _ _ fun _ => rfl
  have starts : enterMode l .commission 1 m = programStart l true (setMode l .commission 1 m) := by
    simp [enterMode, free, loaded, Mode.runs]
    rfl
  rw [starts, order_programStart, set]

end

/-! ### Requests (R311, R316) -/

section
variable {s : State} {l : LaneId} {v : View} {w : Word} (heard : Heard s l v)
include heard

theorem does_modeRequest : Does (.modeRequest l v w) s fun _ m =>
    if bitOf w 3 then requestMode l (fld w 2 0) 1 (updSys l (fun x => { x with reqTarget := fld w 2 0 }) m)
    else updSys l (fun x => { x with reqTarget := fld w 2 0 }) m := by
  have does : Does (.modeRequest l v w) s (modeRequestBody l v w) := rfl
  exact does.congr (guardWrite_heard heard _)

/-- A request that is not submitted, or comes after a supply failure, only names its target (R316). -/
theorem ends_modeRequest_unjudged (idle : bitOf w 3 = false ∨ s.m.frozen l = true) :
    Ends (.modeRequest l v w) s fun t => OnlyLane l s t ∧
      t.m.lane l = { s.m.lane l with sys := { (s.m.lane l).sys with reqTarget := fld w 2 0 } } := by
  refine (does_modeRequest heard).ends_laneWrite (F := fun L => { L with sys := { L.sys with reqTarget := fld w 2 0 } }) ?_
  rcases idle with idle | frozen
  · simp [idle, updSys]
  · have still : (updSys l (fun x => { x with reqTarget := fld w 2 0 }) s.m.fresh).frozen l = true := by
      simpa [Module.frozen, updSys] using frozen
    have unjudged (t c : Nat) : requestMode l t c (updSys l (fun x => { x with reqTarget := fld w 2 0 }) s.m.fresh) =
        updSys l (fun x => { x with reqTarget := fld w 2 0 }) s.m.fresh := by
      simp only [requestMode, still, if_true]
    rw [unjudged, ite_self]
    rfl

variable (go : bitOf w 3 = true) (free : s.m.frozen l = false)
include go free

theorem does_modeRequest_judged : Does (.modeRequest l v w) s fun _ m =>
    let n := updSys l (fun x => { x with reqTarget := fld w 2 0 }) m
    if (m.lane l).judgeMode (fld w 2 0) = 0 then
      let dest := if fld w 2 0 = 3 then (m.lane l).runMode else modeOf (fld w 2 0)
      let e := enterMode l dest 1 n
      raise l 0 2 (updSys l (fun x => { x with reqState := 2, reqResult := 0, reqLast := some (e.now, fld w 2 0) }) e)
    else report l 0 0x0004 (fld w 2 0) ((m.lane l).judgeMode (fld w 2 0)) 0 (raise l 0 2
      (updSys l (fun x => { x with reqState := 3, reqResult := (m.lane l).judgeMode (fld w 2 0) }) n)) := by
  refine (does_modeRequest heard).congr ?_
  have free' : (updSys l (fun x => { x with reqTarget := fld w 2 0 }) s.m.fresh).frozen l = false := by
    simpa [Module.frozen, updSys] using free
  have judged : ((updSys l (fun x => { x with reqTarget := fld w 2 0 }) s.m.fresh).lane l).judgeMode (fld w 2 0) =
      (s.m.fresh.lane l).judgeMode (fld w 2 0) := by
    rw [updSys, lane_updLane]
    rfl
  have runs : ((updSys l (fun x => { x with reqTarget := fld w 2 0 }) s.m.fresh).lane l).runMode =
      (s.m.fresh.lane l).runMode := by
    rw [updSys, lane_updLane]
    rfl
  simp only [go, if_true, requestMode, free', judged, runs, Bool.false_eq_true, if_false]

theorem ends_modeRequest_refused (bad : (s.m.lane l).judgeMode (fld w 2 0) ≠ 0) :
    Ends (.modeRequest l v w) s fun t => SameStores s t ∧ (t.m.lane l).sys.mode = (s.m.lane l).sys.mode ∧
      (t.m.lane l).sys.reqState = 3 ∧ (t.m.lane l).sys.reqResult = (s.m.lane l).judgeMode (fld w 2 0) := by
  have does := (does_modeRequest_judged heard go free).congr (g := fun _ m =>
    report l 0 0x0004 (fld w 2 0) ((m.lane l).judgeMode (fld w 2 0)) 0 (raise l 0 2
      (updSys l (fun x => { x with reqState := 3, reqResult := (m.lane l).judgeMode (fld w 2 0) })
        (updSys l (fun x => { x with reqTarget := fld w 2 0 }) m)))) (if_neg (by simpa))
  have order (r : Nat) : (report l 0 0x0004 (fld w 2 0) r 0 (raise l 0 2
      (updSys l (fun x => { x with reqState := 3, reqResult := r }) (updSys l (fun x => { x with reqTarget := fld w 2 0 })
        s.m.fresh)))).order l = ([], { (s.m.lane l).sys.plain with reqTarget := fld w 2 0, reqState := 3, reqResult := r }) := by
    rw [order_report, order_raise, order_updSys, order_updSys]
    · simp [Module.order, updSys]
    · exact fun _ => rfl
    · exact fun _ => rfl
  have order := order ((s.m.fresh.lane l).judgeMode (fld w 2 0))
  simp only [Module.order, Prod.mk.injEq, Sys.plain, Sys.mk.injEq, fresh_lane] at order
  obtain ⟨still, mode, -, -, -, state, result, -⟩ := order
  refine does.ends ⟨sameStores_commit ?_, ?_, ?_, ?_⟩
  · simpa using still
  · simpa [commit_m, closed_lane] using mode
  · simpa [commit_m, closed_lane] using state
  · simpa [commit_m, closed_lane] using result

theorem ends_modeRequest_commission (target : fld w 2 0 = 2) (loaded : (s.m.lane l).sys.mode = .loaded)
    (sound : (s.m.lane l).judgeMode 2 = 0) (idle : (s.m.lane l).cfg.state ≠ .armed) :
    Ends (.modeRequest l v w) s fun t => SameStores s t ∧ (t.m.lane l).sys.mode = .commission ∧
      (t.m.lane l).sys.prev = Mode.loaded.code ∧ (t.m.lane l).sys.reqState = 2 ∧ (t.m.lane l).sys.reqResult = 0 := by
  set n := updSys l (fun x => { x with reqTarget := fld w 2 0 }) s.m.fresh with named
  have does := (does_modeRequest_judged heard go free).congr (g := fun _ m =>
    let n := updSys l (fun x => { x with reqTarget := fld w 2 0 }) m
    let e := enterMode l .commission 1 n
    raise l 0 2 (updSys l (fun x => { x with reqState := 2, reqResult := 0, reqLast := some (e.now, fld w 2 0) }) e))
    (by simp [target, sound, modeOf])
  have entered := order_enterCommission (l := l) (m := n) (by simpa [named, Module.frozen, updSys] using free)
    (by simpa [named, updSys] using loaded) (by simpa [named, updSys] using idle)
  have order (t : Nat) : (raise l 0 2 (updSys l (fun x => { x with
      reqState := 2, reqResult := 0, reqLast := some (t, fld w 2 0) }) (enterMode l .commission 1 n))).order l =
      ([], { (s.m.lane l).sys.plain with
        reqTarget := fld w 2 0, mode := .commission, cause := 1, prev := Mode.loaded.code, reqState := 2, reqResult := 0
        reqLast := some (t, fld w 2 0) }) := by
    have programmed : (enterMode l .commission 1 n).nvmOut = n.nvmOut := congrArg Prod.fst entered
    rw [order_raise, order_updSys, entered, programmed, named, order_updSys]
    · simp [Module.order, updSys]
    · exact fun _ => rfl
    · exact fun _ => rfl
  have order := order (enterMode l .commission 1 n).now
  simp only [Module.order, Prod.mk.injEq, Sys.plain, Sys.mk.injEq] at order
  obtain ⟨still, mode, -, prev, -, state, result, -⟩ := order
  refine does.ends ⟨sameStores_commit still, ?_, ?_, ?_, ?_⟩ <;> rw [commit_m, closed_lane]
  · exact mode
  · exact prev
  · exact state
  · exact result

end

/-! ### Test injections (R315) -/

section
variable (l : LaneId) (m : Module)

theorem order_endInjection : (endInjection l m).order l = (m.nvmOut, { (m.order l).2 with testEnable := false }) := by
  unfold endInjection
  dsimp only
  split_ifs with on
  · rw [order_report]
    exact order_updSys _ _ _ fun _ => rfl
  · have off : (m.lane l).sys.plain.testEnable = false := Bool.eq_false_of_not_eq_true on
    rw [Module.order, ← off]

/-- A write of `SYS_TEST` that is taken: its fields and whether an injection runs. -/
theorem order_writeTest (w : Word) (taken : bitOf w 31 = true → (m.lane l).sys.mode = .commission) :
    (writeTest l w m).order l = (m.nvmOut, { (m.order l).2 with
      testCh := fld w 7 0, testInput := fld w 8 8, testLevel := fld w 11 9, testEnable := bitOf w 31 }) := by
  have written : (updSys l (fun s => { s with
      testCh := fld w 7 0, testInput := fld w 8 8, testLevel := fld w 11 9, testEnable := bitOf w 31 })
      (endInjection l m)).order l = (m.nvmOut, { (m.order l).2 with
        testCh := fld w 7 0, testInput := fld w 8 8, testLevel := fld w 11 9, testEnable := bitOf w 31 }) := by
    rw [order_updSys, order_endInjection, nvmOut_endInjection]
    exact fun _ => rfl
  have goes : ¬(bitOf w 31 && (m.lane l).sys.mode != .commission) = true := by
    by_cases on : bitOf w 31 = true <;> simp_all
  simp only [writeTest, if_neg goes]
  split_ifs
  · rw [order_report, written]
  · exact written

end

section
variable {s : State} {l : LaneId} {v : View} {w : Word} (heard : Heard s l v)
include heard

theorem does_testInjectionStart : Does (.testInjectionStart l v w) s fun _ m => writeTest l w m := by
  have does : Does (.testInjectionStart l v w) s (testInjectionStartBody l v w) := rfl
  exact does.congr (guardWrite_heard heard _)

theorem does_testInjectionStop : Does (.testInjectionStop l v w) s fun _ m => writeTest l w m := by
  have does : Does (.testInjectionStop l v w) s (testInjectionStopBody l v w) := rfl
  exact does.congr (guardWrite_heard heard _)

end

/-- Settles O9: a request by its judgement, a test injection by what its write leaves. -/
theorem modeRequestsAct : Obligations.ModeRequestsAct := by
  unfold Obligations.ModeRequestsAct
  intro s l v w heard
  refine ⟨ends_modeRequest_unjudged heard, fun go free sound => ?_, fun go free bad => ends_modeRequest_refused heard go free bad,
    fun go target loaded sound free idle => ends_modeRequest_commission heard go free target loaded sound idle,
    fun on comm => ?_, fun on other => ?_, fun off => ⟨?_, does_testInjectionStop heard⟩⟩
  · exact (does_modeRequest_judged heard go free).congr (if_pos (by simpa))
  · have order := order_writeTest l s.m.fresh w fun _ => by simpa
    simp only [Module.order, Prod.mk.injEq, Sys.plain, Sys.mk.injEq, fresh_lane] at order
    refine (does_testInjectionStart heard).ends ⟨sameStores_commit ?_, ?_, ?_, ?_, ?_⟩ <;>
      simp [commit_m, closed_lane, order, on]
  · have still : writeTest l w s.m.fresh = s.m.fresh := by simp [writeTest, on, other]
    exact (does_testInjectionStart heard).ends (by simp [OnlyLane, still])
  · have order := order_writeTest l s.m.fresh w fun on => by simp [off] at on
    simp only [Module.order, Prod.mk.injEq, Sys.plain, Sys.mk.injEq, fresh_lane] at order
    exact (does_testInjectionStop heard).ends ⟨sameStores_commit (by simp [order]), by simp [commit_m, closed_lane, order, off]⟩

end Sys2Proof.Machine
end

section
/-! The phases of a running job (R79, R84 to R94, R109 to R116). -/

namespace Sys2Proof.Machine

/-! ### The end of a phase, no abort pending and the deadline not past (R102, R114) -/

section
variable {s : State} {sd : Nat} {r : SlvRun} (run : (s.m.sd sd).run = some r) (going : r.job.abort = none)
  (early : s.m.now ≤ r.job.deadlineUs * 1000)

include going early in
theorem sampled_of_early (abortable : Bool) (f : Module → Module) : sampled sd r abortable f s.m.fresh = f s.m.fresh := by
  have before : ¬s.m.fresh.now > r.job.deadlineUs * 1000 := by simpa using early
  simp only [sampled, if_neg before, going, ite_self]

include run going early

theorem does_assemblyEnd (phase : r.phase = .assembly) : Does (.assemblyEnd sd) s fun _ m => assembleJob sd r m := by
  have does : Does (.assemblyEnd sd) s (assemblyEndBody sd) := rfl
  refine does.congr ?_
  simp only [assemblyEndBody, fresh_sd, run, phase, bne_self_eq_false, Bool.false_eq_true, if_false]
  exact sampled_of_early going early ..

theorem does_preparationEnd (phase : r.phase = .preparation) :
    Does (.preparationEnd sd) s fun _ m => prepareJob sd r m := by
  have does : Does (.preparationEnd sd) s (preparationEndBody sd) := rfl
  refine does.congr ?_
  simp only [preparationEndBody, fresh_sd, run, phase, bne_self_eq_false, Bool.false_eq_true, if_false]
  exact sampled_of_early going early ..

theorem does_iteration (phase : r.phase = .iterating) (single : r.job.tmpl.kind ≠ 2) : Does (.iteration sd) s fun _ m =>
    settleIter sd r ((r.job.tmpl.sys (at? (storedRows r.job.tmpl.problemList r.values) 0 []) r.b r.pre).step r.it) m := by
  have does : Does (.iteration sd) s (iterationBody sd) := rfl
  refine does.congr ?_
  simp only [iterationBody, fresh_sd, run, phase, bne_self_eq_false, Bool.false_or, decide_eq_true_eq, if_neg single]
  exact sampled_of_early going early ..

theorem does_batchProblemComplete (es : List (Nat × Nat)) (phase : r.phase = .iterating) (batch : r.job.tmpl.kind = 2) :
    Does (.batchProblemComplete sd es) s fun _ m => takeProblem sd ((forEach es (postProblem sd) m).updSd sd fun x =>
      { x with collectMax := max x.collectMax x.collector.length }) := by
  have does : Does (.batchProblemComplete sd es) s (batchProblemCompleteBody sd es) := rfl
  refine does.congr ?_
  simp only [batchProblemCompleteBody, fresh_sd, run, phase, batch, bne_self_eq_false, Bool.or_self, Bool.false_eq_true,
    if_false]
  exact sampled_of_early going early ..

theorem does_verificationEnd_batch (f : Nat) (phase : r.phase = .iterating) (batch : r.job.tmpl.kind = 2) :
    Does (.verificationEnd sd f) s fun _ m => verifyBatch sd m := by
  have does : Does (.verificationEnd sd f) s (verificationEndBody sd f) := rfl
  refine does.congr ?_
  simp only [verificationEndBody, fresh_sd, run, phase, batch, bne_self_eq_false, Bool.false_eq_true, if_false, if_true]
  exact sampled_of_early going early ..

theorem does_verificationEnd (f : Nat) (phase : r.phase = .verifying) (single : r.job.tmpl.kind ≠ 2) :
    Does (.verificationEnd sd f) s fun _ m => verifyJob sd r f m := by
  have does : Does (.verificationEnd sd f) s (verificationEndBody sd f) := rfl
  refine does.congr ?_
  simp only [verificationEndBody, fresh_sd, run, phase, if_neg single, bne_self_eq_false, Bool.false_eq_true, if_false]
  exact sampled_of_early going early ..

end

/-! ### Assembly and preparation (R79, R84 to R88) -/

/-- A matrix that is not SPD has no negative element to look for, so that its assembly goes on (R79, R82). -/
theorem phase_assembleJob {m : Module} {sd : Nat} {r : SlvRun} (run : (m.sd sd).run = some r) (known : sd < m.sds.length)
    (cls : r.job.tmpl.cls ≠ 0) : (assembleJob sd r m).nvmOut = m.nvmOut ∧ ((assembleJob sd r m).sd sd).run.map SlvRun.phase =
      some (if r.job.tmpl.kind = 2 then .iterating else .preparation) := by
  simp only [assembleJob, if_neg cls, updRun, updSd_nvmOut, true_and, sd_updSd m sd _ known, run, Option.map_some]

section
variable {m : Module} {sd : Nat} {r : SlvRun}

theorem prepareJob_zero {k : Nat}
    (zero : zeroRow (at? (storedRows r.job.tmpl.problemList r.values) 0 []) = some k) :
    prepareJob sd r m = endRun sd ({ r with firstBad := k }.ending 10 k none) m := by
  simp only [prepareJob, zero]

/-- A preconditioner factored with no pivot replaced goes on to the check at iteration 0 (R85, R87). -/
theorem prepareJob_sound {a : Rows} {p : Prepared} (rows : a = at? (storedRows r.job.tmpl.problemList r.values) 0 [])
    (prepared : p = prepare r.job.tmpl.precond r.job.tmpl.cls r.job.tmpl.block r.job.tmpl.tau a) (full : zeroRow a = none)
    (good : p.bad = false) (none : p.count = 0) : prepareJob sd r m =
      let r := { r with pre := p.pre, pivotCount := 0, pivotFirst := p.first }
      settleIter sd r ((r.job.tmpl.sys a r.b p.pre).begin r.x0) (livePivots r (updRun sd (fun _ => r) m)) := by
  subst rows
  subst prepared
  simp [prepareJob, full, good, none, when]

end

/-! ### The endings (R109 to R113) -/

/-- A solver die's running job, its results and its failed verifications. -/
def SolverDie.ledger (x : SolverDie) : Option SlvRun × List (Nat × SlvResult) × Nat := (x.run, x.results, x.verifyFails)

theorem ledger_of_blank {x y : SolverDie} (h : x.blank = y.blank) : x.ledger = y.ledger := (congrArg SolverDie.ledger h :)

theorem ledger_freed (x : SolverDie) : x.freed.ledger = (none, x.results, x.verifyFails) := by
  unfold SolverDie.freed
  split_ifs <;> rfl

theorem ledger_sdFree {m : Module} {sd : Nat} (known : sd < m.sds.length) :
    ((sdFree sd m).sd sd).ledger = (none, (m.sd sd).results, (m.sd sd).verifyFails) :=
  (ledger_of_blank (sd_sdFree known)).trans (ledger_freed _)

section
variable (sd e : Nat) (m : Module)

theorem ledger_suspectEngine : ((suspectEngine sd e m).sd sd).ledger = (m.sd sd).ledger := by
  unfold suspectEngine
  split
  · rfl
  · rw [reportSd_sd]
    rcases sd_updSd_or m sd fun x => { x with suspect := x.suspect ++ [e] } with h | h <;> rw [h]
    rfl

theorem ledger_markSuspect (es : List Nat) : ((markSuspect sd es m).sd sd).ledger = (m.sd sd).ledger :=
  forEach_part (fun m => (m.sd sd).ledger) es _ (fun e n => ledger_suspectEngine sd e n) m

theorem length_sds_markSuspect (es : List Nat) : (markSuspect sd es m).sds.length = m.sds.length :=
  forEach_part (fun m => m.sds.length) es _ (fun e n => length_sds_suspectEngine sd e n) m

end

/-- An ending without a commit leaves the results and the failed verifications (R106, R112). -/
theorem parts_endRun {m : Module} {sd : Nat} {r : SlvRun} (e : JobEnd) (run : (m.sd sd).run = some r)
    (known : sd < m.sds.length) : (endRun sd e m).nvmOut = m.nvmOut ∧
      ((endRun sd e m).sd sd).ledger = (none, (m.sd sd).results, (m.sd sd).verifyFails) := by
  have told := blank_viewEnd r.job.lane r.job.requested r.job.seq e
    (reportSd sd 4 (endEvent e.status) r.job.requested r.job.seq e.p2 m)
  have length : (viewEnd r.job.lane r.job.requested r.job.seq e
      (reportSd sd 4 (endEvent e.status) r.job.requested r.job.seq e.p2 m)).sds.length = m.sds.length :=
    (length_sds_of_blank told).trans (by simp [updTpl, closeJob])
  have ledger : ((viewEnd r.job.lane r.job.requested r.job.seq e
      (reportSd sd 4 (endEvent e.status) r.job.requested r.job.seq e.p2 m)).sd sd).ledger = (m.sd sd).ledger :=
    (ledger_of_blank (sd_of_blank told sd)).trans (by simp [updTpl, closeJob])
  simp only [SolverDie.ledger, Prod.mk.injEq] at ledger
  obtain ⟨-, results, fails⟩ := ledger
  simp only [endRun, run]
  refine ⟨(nvmOut_sdFree (by rwa [length])).trans ((nvmOut_viewEnd ..).trans (by simp)), ?_⟩
  rw [ledger_sdFree (by rwa [length]), results, fails]

theorem mem_putKey {α : Type} (xs : List (Nat × α)) (k : Nat) (v : α) : (k, v) ∈ putKey xs k v := by
  unfold putKey
  split_ifs with known
  · obtain ⟨p, there, same⟩ := List.any_eq_true.1 known
    exact List.mem_map.2 ⟨p, there, if_pos same⟩
  · simp

section
variable {m : Module} {sd : Nat} {r : SlvRun} (known : sd < m.sds.length)
include known

/-- A commit frees the die and keeps its result under the template requested (R106, R112). -/
theorem parts_commitRun (single : r.job.tmpl.kind ≠ 2) (status : Nat) (batch : List BatchRec) :
    (commitRun sd r status batch m).nvmOut = m.nvmOut ∧ ((commitRun sd r status batch m).sd sd).run = none ∧
      ∃ res, (r.job.requested, res) ∈ ((commitRun sd r status batch m).sd sd).results ∧ res.jobSeq = r.job.seq ∧
        res.status = status ∧ res.x = r.it.x ∧ res.commitUs = m.us := by
  unfold commitRun
  extract_lets j t fl res kept told
  have length : (raise j.lane 4 (1 + if isError status then 2 else 0) told).sds.length = m.sds.length := by
    simp [told, kept, updTpl, closeJob]
  have results : ((raise j.lane 4 (1 + if isError status then 2 else 0) told).sd sd).results =
      putKey (m.sd sd).results j.requested res := by
    simp [told, kept, updTpl, closeJob, sd_updSd m sd _ known]
  have ledger := ledger_sdFree (m := raise j.lane 4 (1 + if isError status then 2 else 0) told) (by rwa [length])
  simp only [SolverDie.ledger, Prod.mk.injEq] at ledger
  obtain ⟨free, same, -⟩ := ledger
  refine ⟨(nvmOut_sdFree (by rwa [length])).trans (by simp [told, kept, updTpl, closeJob]), free, res, ?_, rfl, rfl,
    if_neg single, rfl⟩
  rw [same, results]
  exact mem_putKey ..

/-- A verification that fails ends the job without a result and is counted (R110, R111). -/
theorem parts_verifyJob_failed {f : Nat} (run : (m.sd sd).run = some r) (bad : f % 2 ^ 17 ≠ 0) :
    (verifyJob sd r f m).nvmOut = m.nvmOut ∧ ((verifyJob sd r f m).sd sd).ledger =
      (none, (m.sd sd).results, sat max32 ((m.sd sd).verifyFails + 1)) := by
  simp only [verifyJob, if_neg bad]
  generalize counted : (m.updSd sd fun s => { s with verifyFails := sat max32 (s.verifyFails + 1) }) = n
  generalize (m.sd sd).blockEngines (f % 65536) = es
  have die : n.sd sd = { m.sd sd with verifyFails := sat max32 ((m.sd sd).verifyFails + 1) } := by
    rw [← counted, sd_updSd m sd _ known]
  have ledger := ledger_markSuspect sd n es
  rw [die] at ledger
  simp only [SolverDie.ledger, Prod.mk.injEq] at ledger
  obtain ⟨running, results, fails⟩ := ledger
  obtain ⟨programmed, ended⟩ := parts_endRun (r.ending 9 (f % 65536) (some r.it.rho)) (running.trans run)
    (by rw [length_sds_markSuspect, ← counted, length_sds_updSd]; exact known)
  rw [programmed, ended, results, fails, nvmOut_markSuspect, ← counted]
  exact ⟨updSd_nvmOut .., rfl⟩

end

/-- Settles O22: each phase's end runs the body that its phase names, no abort pending and the deadline not past. -/
theorem jobPhasesFollow : Obligations.JobPhasesFollow := by
  unfold Obligations.JobPhasesFollow
  intro s sd r run going early known
  have run' : (s.m.fresh.sd sd).run = some r := by rwa [fresh_sd]
  have known' : sd < s.m.fresh.sds.length := by rwa [fresh_sds]
  refine ⟨fun phase cls => ?_, does_assemblyEnd run going early, does_preparationEnd run going early,
    fun a p phase rows prepared => ⟨fun k zero => ?_, fun full good none => ?_⟩, does_iteration run going early,
    does_batchProblemComplete run going early, fun phase single => ?_, does_verificationEnd_batch run going early,
    does_verificationEnd run going early, fun f phase single bad => ?_⟩
  · obtain ⟨programmed, next⟩ := phase_assembleJob run' known' cls
    exact (does_assemblyEnd run going early phase).ends ⟨sameStores_commit programmed, by rw [commit_m, closed_sd, next]⟩
  · subst rows
    exact (does_preparationEnd run going early phase).congr (prepareJob_zero zero)
  · exact (does_preparationEnd run going early phase).congr (prepareJob_sound rows prepared full good none)
  · have passed : verifyJob sd r 0 s.m.fresh = commitRun sd r r.endStatus [] s.m.fresh := rfl
    obtain ⟨programmed, free, res, kept, job, status, x, instant⟩ := parts_commitRun known' single r.endStatus []
    refine (does_verificationEnd run going early 0 phase single).ends ⟨sameStores_commit ?_, ?_, res, ?_, job, status, x, ?_⟩
    · rwa [passed]
    · rwa [commit_m, closed_sd, passed]
    · rwa [commit_m, closed_sd, passed]
    · rw [instant, Module.us, fresh_now]
  · obtain ⟨programmed, ledger⟩ := parts_verifyJob_failed known' run' bad
    simp only [SolverDie.ledger, Prod.mk.injEq, fresh_sd] at ledger
    obtain ⟨free, results, fails⟩ := ledger
    refine (does_verificationEnd run going early f phase single).ends ⟨sameStores_commit programmed, ?_, ?_, ?_⟩ <;>
      rw [commit_m, closed_sd] <;> assumption

end Sys2Proof.Machine
end
